-- ==== Sys2Proof/Word.lean ====
section
/-! DEFINITION. The plain types the whole model is written in: bytes and words, the sparse table used for everything that is
kept by number, and the shape of a register field and of a row of the register map. -/

namespace Sys2Proof

/-- One byte. -/
abbrev Byte := BitVec 8

/-- A 32-bit word. -/
abbrev W32 := BitVec 32

/-- A 64-bit word: a Stove general register, a bit pattern. -/
abbrev W64 := BitVec 64

/-- Things kept by number: pairs of a key and a value, keys strictly rising. A key that is not listed has the default its
reader names. -/
abbrev Tab (α : Type) := List (Nat × α)

/-- A string of bytes, lowest address first. -/
abbrev Bytes := List Byte

namespace Machine

/-- A register field: the address of its register, its lowest bit and its width. -/
structure Fld where
  addr : Nat
  lo : Nat
  width : Nat
deriving DecidableEq, Repr

/-- Where a field's value stands in the register store. No two fields of the map share it, because a bit of a register
belongs to one field. -/
def Fld.key (f : Fld) : Nat := f.addr * 64 + f.lo

/-- The access codes of R14. -/
inductive Access where
  | ro | rw | wo | w1c | w1s | rc | rws | rwe | lk
deriving DecidableEq, Repr

/-- One field of a register of the map: its lowest bit, its width, its access code. -/
structure FieldDesc where
  lo : Nat
  width : Nat
  access : Access
deriving DecidableEq, Repr

/-- One register of the map. `strides` gives, outermost first, the distance and the count of each index of an array. -/
structure RegDesc where
  base : Nat
  strides : List (Nat × Nat)
  width : Nat
  fields : List FieldDesc
deriving DecidableEq, Repr

end Machine

/-- Who makes a register access (R13, R532, R540, R57): a hart with whether it is in machine mode, the sideband controller, or a host
through its port. -/
inductive Req where
  | hart (slot : Nat) (machine : Bool)
  | sideband
  | host (port : Nat)
deriving DecidableEq, Repr

/-- What a read of the dedup index control is of (R271): a first filter bucket, whose alternate lies in line `alt`, a line of a bucket, or
anything else. -/
inductive IchUse where
  | plain
  | filter (alt : Nat)
  | bucket
deriving DecidableEq, Repr

/-- The fields of a Stove instruction word (R178) as the strand issues it: A, B, C, X and IMM. -/
structure InsW where
  a : BitVec 5
  b : BitVec 5
  c : BitVec 5
  x : BitVec 9
  imm : BitVec 32
deriving DecidableEq, Repr

end Sys2Proof
end

