-- ==== Sys2Proof/Syntax.lean ====
section
/-! DEFINITION. The commands of a PF7160 head: one constructor per row of the opcode table, with the operands the row's rule gives
it. Where an operand stands for what the outside world chose or supplied (a payload, a level, a measured time), it says so. -/

namespace Sys2Proof

/-- A phase, 1 or 2, of Global Persistent Flush on a port (R44). -/
structure GpfPhase where
  port : Nat
  phase : Nat
deriving DecidableEq, Repr

/-- An IDE stream of a port, CXL.cachemem or CXL.io, and whether the host chose skid mode for it (R43, R65). -/
structure IdeStream where
  mem : Bool
  skid : Bool
deriving DecidableEq, Repr

/-- A ring or slot that the device reads a line of, and whether DDR returns an uncorrectable error for that line (R53). -/
structure LineRead where
  i : Nat
  ecc : Bool
deriving DecidableEq, Repr

/-- An SGL: its total length, and the parts of the data that its bit bucket descriptors discard, by offset and length (R60). -/
structure Sgl where
  len : Nat
  buckets : List (Nat × Nat)
deriving DecidableEq, Repr

/-- What the end of a reclamation pass brings: the META locations its checkpoints go to, and the buckets it did not read as they were
written, by half, directory index and bytes (R254, R256). -/
structure PassEnd where
  locs : List Nat
  reads : List (Nat × Nat × Bytes)
deriving DecidableEq, Repr

/-- What a half is rebuilt from: its directory checkpoint with the buckets that names, and buckets not read as they were written (R258). -/
structure HalfRead where
  half : Nat
  ckpt : List (Nat × Nat × Bytes)
  reads : List (Nat × Nat × Bytes)
deriving DecidableEq, Repr

/-- The first drive's answer to the Reservation Acquire, and the directory checkpoints that a takeover then loads (R258, R418). -/
structure ArbAnswer where
  conflict : Bool
  ckpt : List (Nat × Nat × Bytes)
deriving DecidableEq, Repr

inductive Instr where
  /-- REGISTER_WRITE (R14): A write to a register or field that has no row of its own takes effect according to its
  access code, lock bit and secure-only marking. -/
  | registerWrite (r : Req) (a : Nat) (lg : Nat) (value : Nat) (same : Nat)
  /-- RC_FIELD_READ (R15): A read of an RC field returns its value and clears it, keeping any change made in the same
  cycle: `chg` has such changes by the address of the register they change. -/
  | rcFieldRead (r : Req) (a : Nat) (lg : Nat) (chg : List (Nat × Nat))
  /-- LOW_HALF_READ (R9): A low-half read of a 64-bit register latches the high half for that requester. -/
  | lowHalfRead (r : Req) (a : Nat)
  /-- HIGH_HALF_READ (R9): A high-half read of a 64-bit register returns the latched or current high half and releases
  the latch. -/
  | highHalfRead (r : Req) (a : Nat)
  /-- LOW_HALF_WRITE (R10): A low-half write of a 64-bit register is staged for that requester and register. -/
  | lowHalfWrite (r : Req) (a : Nat) (value : Nat)
  /-- HIGH_HALF_WRITE (R10): A high-half write commits a staged low half together with the high half, or writes the high
  half alone. -/
  | highHalfWrite (r : Req) (a : Nat) (value : Nat)
  /-- GRATE_ALLOC_REQUEST (R29): A channel requests a grate, which is granted from its reservation or from the shared
  remainder, or else waits. -/
  | grateAllocRequest (chan : Nat) (user : Nat)
  /-- GRATE_GRANT (R31): A waiting grate request is granted when credit returns, in round-robin order of channel. -/
  | grateGrant
  /-- GRATE_FREE (R30): A freed grate returns its credit to the shared remainder or to its channel's reservation. -/
  | grateFree (g : Nat)
  /-- GRT_STALL (R32): A channel holding shared grates that has freed none for GRT_STALL_TO becomes stalled. -/
  | grtStall (c : Nat)
  /-- GRATE_SPILL (R33): While free shared grates are below GRT_SPILL_LO, journalled host and mirror grates move to the
  DDR overflow and are freed. -/
  | grateSpill
  /-- POOL_LOCK (R34): A write of 1 to GRT_POOL_CFG.LOCK locks the reservations if their sum leaves 1,024 shared grates,
  or else sets CFG_ERR. -/
  | poolLock (r : Req)
  /-- CH_RSV_WRITE (R34): A write to GRT_CH_RSV is ignored, and CFG_ERR set, if it would bring the reservation sum above
  12,288. -/
  | chRsvWrite (r : Req) (c : Nat) (value : Nat)
  /-- UNIT_LOST_RESET (R37): Loss in service of the last working instance of a minimum-set unit asserts a compute-die
  reset. -/
  | unitLostReset (u : Nat)
  /-- PAYLOAD_LANDS (R16): A write payload lands in a grate, and mirroring and the local journal record start in
  parallel. -/
  | payloadLands (id : Nat) (payload : Bytes)
  /-- WRITE_COMPLETE (R115): Once every condition of the head's mirror state holds for each granule, Bellows posts the
  write completion. -/
  | writeComplete (id : Nat)
  /-- HOST_LINK_UP (R40): A host port reaches L0 at some rate and width after training, negotiating CXL, flit mode and
  protocols. -/
  | hostLinkUp (p : Nat) (rate : Nat) (width : Nat) (flit : Nat)
  /-- HOST_LINK_RECOVERY (R40): A host-started Recovery changes or keeps the rate or width of the host link. -/
  | hostLinkRecovery (p : Nat) (rate : Nat) (width : Nat)
  /-- VIRAL_RECEIVED (R45): A Viral indication asserts a port-reach reset event that is released at once. -/
  | viralReceived (p : Nat)
  /-- GPF (R44): Both phases of Global Persistent Flush are acknowledged at once and nothing else is done. -/
  | gpf (g : GpfPhase)
  /-- HDM_COMMIT (R49): The host commits the HDM decoder, which fails with Commit Error for a bad size or interleave. -/
  | hdmCommit (p : Nat) (base : Nat) (size : Nat) (ways : Nat)
  /-- HOST_MEM_REQUEST (R50): A host CXL.mem request to the window is served, first evicting the oldest snoop-filter
  entry with BISnpInv when the filter is full. -/
  | hostMemRequest (p : Nat) (line : Nat) (write : Option (Nat × Bytes)) (track : Bool) (ecc : Bool)
  /-- BIRSP (R51): A BIRsp arrives and the device-side access or host request that waited on it proceeds. -/
  | birsp (p : Nat) (line : Nat) (wb : Option Bytes) (keep : Bool)
  /-- BI_TIMEOUT (R52): A BISnp gets no BIRsp within HST_BI_TO; it is resent once, and after a second timeout the line
  is dropped and a read poisons it. -/
  | biTimeout (p : Nat) (line : Nat)
  /-- HOST_LINE_INVALIDATE (R47): The host invalidates a queue line that Bellows holds, and Bellows drops it. -/
  | hostLineInvalidate (p : Nat) (key : Nat)
  /-- IDE_FAIL (R66): An IDE integrity failure discards the TLP or flit, leaves Secure state and asserts a port-reach
  reset event. -/
  | ideFail (p : Nat)
  /-- IDE_KEY_PROGRAM (R65): IDE keys are delivered by IDE_KM over SPDM on CXL DOE and held in the port. -/
  | ideKeyProgram (p : Nat) (stream : IdeStream) (key : Bytes)
  /-- PTM_DIALOG (R68): Port 0 runs a PTM dialog at the TICK interval and hands master time and capture to the TICK
  block. -/
  | ptmDialog (masterNs : Nat) (capture : Nat)
  /-- PTM_LOSS (R69): Port 0 reports PTM loss, including a PTM request with no response within 10 µs. -/
  | ptmLoss
  /-- HOST_PERST (R70): HOSTn_PERST_N is asserted for 100 ns or more and resets the port. -/
  | hostPerst (p : Nat) (ns : Nat)
  /-- HOST_LINK_DOWN (R70): The host link leaves L0 through DL_Down and resets the port. -/
  | hostLinkDown (p : Nat)
  /-- HOT_RESET (R70): A hot reset or secondary bus reset is received and resets the port. -/
  | hotReset (p : Nat)
  /-- CXL_RESET (R70): CXL Reset through the CXL DVSEC resets the port. -/
  | cxlReset (p : Nat)
  /-- PORT_EN_WRITE (R70): HST_CTL.PORT_EN written 0 holds the port in Detect.Quiet and in port-reach reset while it is
  0. -/
  | portEnWrite (r : Req) (p : Nat) (value : Nat)
  /-- FLR (R70): A function-level reset resets the controller and clears the MSI-X table and CXL.io configuration. -/
  | flr (p : Nat)
  /-- CC_EN_CLEAR (R70): CC.EN written from 1 to 0 performs a controller-reach reset. -/
  | ccEnClear (p : Nat)
  /-- PORT_RESET_RELEASE (R74): The last port reset source is released and link training begins within 20 ms. -/
  | portResetRelease (p : Nat)
  /-- FUNCTION_READY (R74): The function becomes ready and configuration requests stop getting Request Retry Status. -/
  | functionReady (p : Nat) (cache : Bool) (ptm : Bool) (msix : Bool) (mask : Bool)
  /-- WIN_ENABLE (R78): GRT_WIN_CFG.EN written 0 to 1 checks the layout and initialises the window, or sets LAYOUT. -/
  | winEnable (r : Req) (p : Nat) (value : Nat)
  /-- WIN_DISABLE (R102): GRT_WIN_CFG.EN written 1 to 0 performs a window reset. -/
  | winDisable (r : Req) (p : Nat) (value : Nat)
  /-- WINDOW_READY (R102): The window reset or initialisation ends, RESETTING clears, READY is set and vector 2,042
  raised. -/
  | windowReady (p : Nat)
  /-- WIN_SIZE_WRITE (R78): A write of GRT_WIN_CFG.SIZE while EN is 1 is checked at once and accepted or refused with
  LAYOUT. -/
  | winSizeWrite (r : Req) (p : Nat) (value : Nat)
  /-- CMD_DOORBELL (R87): A GRT_CMD_DB write gives a new command ring tail, or is ignored and sets DB_RANGE. -/
  | cmdDoorbell (q : Req) (p : Nat) (r : Nat) (index : Nat)
  /-- CPL_DOORBELL (R87): A GRT_CPL_DB write gives a new completion ring head, or is ignored and sets DB_RANGE. -/
  | cplDoorbell (q : Req) (p : Nat) (r : Nat) (index : Nat)
  /-- DONE_DOORBELL (R82): A GRT_DONE_DB write makes the device read the slot's flag word and accept a legal host
  transition or count a protocol error. -/
  | doneDoorbell (q : Req) (p : Nat) (slot : LineRead)
  /-- WIN_NOP (R85): A window NOP command completes SUCCESS. -/
  | winNop (p : Nat) (r : LineRead)
  /-- WIN_WRITE (R85): A window WRITE is fetched, checked and stamped, and waits for a slot. -/
  | winWrite (p : Nat) (r : LineRead)
  /-- WIN_READ (R85): A window READ is fetched, checked and stamped, and waits for a slot. -/
  | winRead (p : Nat) (r : LineRead)
  /-- WIN_FLUSH (R85): A window FLUSH completes after every earlier WRITE and DEALLOCATE of its ring has completed. -/
  | winFlush (p : Nat) (r : LineRead)
  /-- WIN_DEALLOCATE (R85): A window DEALLOCATE deallocates LEN bytes at LBA with a journal sequence. -/
  | winDeallocate (p : Nat) (r : LineRead)
  /-- REPL_GET (R445): A REPL_GET fills a slot with the next replication segment of its stream, or completes with COUNT
  0. -/
  | replGet (p : Nat) (r : LineRead)
  /-- SLOT_ASSIGN (R91): A waiting slot-using command is given the slot that has been free longest, and a WRITE slot
  enters XRDY with a notice. -/
  | slotAssign (p : Nat)
  /-- SLOT_RDATA (R83): All read data has been written into the slot, which enters RDATA or FAULT, and the completion is
  posted. -/
  | slotRdata (p : Nat) (slot : Nat) (seg : Option Bytes)
  /-- SLOT_CONSUME (R92): A DDONE slot's bytes are moved into host-channel grates under R93, and the slot returns to
  FREE. -/
  | slotConsume (p : Nat) (slot : Nat)
  /-- SLOT_TIMEOUT (R98): A slot in XRDY for GRT_SLOT_TO has its flag read once, and is consumed, faulted or moved to
  ABORT. -/
  | slotTimeout (p : Nat) (slot : LineRead)
  /-- SLOT_DATA_FAULT (R100): A device read or write of slot data or a flag line fails, and the slot enters FAULT with
  DATA_FAULT. -/
  | slotDataFault (p : Nat) (slot : Nat) (ecc : Option Nat)
  /-- RING_COMPLETION_POST (R89): A waiting completion-ring entry is posted once the ring has room. -/
  | ringCompletionPost (p : Nat) (r : Nat)
  /-- SQ_DOORBELL (R107): An NVMe submission queue doorbell gives a new tail for Bellows to fetch up to. -/
  | sqDoorbell (p : Nat) (q : Nat) (tail : Nat)
  /-- CQ_DOORBELL (R110): An NVMe completion queue doorbell advances the head and frees room for waiting entries. -/
  | cqDoorbell (p : Nat) (q : Nat) (head : Nat)
  /-- CQ_ENTRY_POST (R110): A completion waiting for a full NVMe completion queue is posted once the queue has a free
  entry. -/
  | cqEntryPost (p : Nat) (q : Nat)
  /-- NVME_READ (R124): An NVMe Read is fetched, checked and stamped, and follows the read path. -/
  | nvmeRead (p : Nat) (q : Nat) (cid : Nat) (nsid : Nat) (slba : Nat) (n : Nat) (sgl : Sgl) (opc : Nat)
  /-- NVME_WRITE (R115): An NVMe Write is fetched, checked, stamped with admission AT and a journal sequence, and given
  grates. -/
  | nvmeWrite (p : Nat) (q : Nat) (cid : Nat) (nsid : Nat) (slba : Nat) (n : Nat) (sgl : Nat) (bucket : Bool)
  /-- NVME_FLUSH (R118): An NVMe Flush completes once every earlier write-class command of its queue has completed. -/
  | nvmeFlush (p : Nat) (q : Nat) (cid : Nat) (nsid : Nat)
  /-- DATASET_MANAGEMENT (R124): A Dataset Management command deallocates its ranges under a journal sequence. -/
  | datasetManagement (p : Nat) (q : Nat) (cid : Nat) (nsid : Nat) (ad : Bool) (ranges : List (Nat × Nat))
  /-- WRITE_ZEROES (R124): A Write Zeroes deallocates its range, journalled as a write. -/
  | writeZeroes (p : Nat) (q : Nat) (cid : Nat) (nsid : Nat) (slba : Nat) (n : Nat)
  /-- WRITE_FETCH_RESUME (R109): Destage brings the dirty count within the bound for the waiting write, and write fetch
  resumes. -/
  | writeFetchResume
  /-- HWM_COMMITTED (R113): The high-water mark of a new sequence block commits, and commands and records waiting on it
  take sequences. -/
  | hwmCommitted
  /-- SEQ_NEXT_WRITE (R113): A BEL_SEQ_NEXT write while HWM_BAD is 1 in Kindling raises and commits the counter, else is
  ignored. -/
  | seqNextWrite (r : Req) (value : Nat)
  /-- DIRTY_BOUND_WRITE (R120): A BEL_DIRTY_BOUND write within 64 to 1,024 MiB sets the bound, else is ignored and sets
  CFG. -/
  | dirtyBoundWrite (r : Req) (value : Nat)
  /-- ABORT (R125): An Abort succeeds only for a command fetched but not yet given a grate. -/
  | abort (p : Nat) (cid : Nat) (q : Nat) (target : Nat)
  /-- SET_FEATURES_ARBITRATION (R107): Set Features Arbitration sets the burst and priority weights. -/
  | setFeaturesArbitration (p : Nat) (cid : Nat) (ab : Nat) (lpw : Nat) (mpw : Nat) (hpw : Nat)
  /-- SET_FEATURES_POWER (R127): Set Features Power Management sets the controller's requested power state and may begin
  Banked entry. -/
  | setFeaturesPower (p : Nat) (cid : Nat) (ps : Nat)
  /-- GET_FEATURES (R107): Get Features reports the values last set or the defaults. -/
  | getFeatures (p : Nat) (cid : Nat) (fid : Nat)
  /-- IDENTIFY (R59): Identify returns the controller and namespace values. -/
  | identify (p : Nat) (cid : Nat) (cns : Nat) (nsid : Nat)
  /-- GET_LOG_PAGE (R135): Get Log Page returns a log, including the Sanitize Status log. -/
  | getLogPage (p : Nat) (cid : Nat) (lid : Nat)
  /-- CREATE_IO_CQ (R64): Create I/O Completion Queue creates a queue, or fails for a vector above 2,039. -/
  | createIoCq (p : Nat) (cid : Nat) (qid : Nat) (size : Nat) (vector : Nat) (irq : Bool)
  /-- NS_CREATE (R123): A Namespace Management create writes a non-present volume entry and passes to firmware as an
  exception. -/
  | nsCreate (p : Nat) (cid : Nat)
  /-- NS_CREATE_COMPLETE (R123): Firmware completes a namespace create; the entry and size are committed to Ember or
  cleared. -/
  | nsCreateComplete (v : Nat) (sct : Nat) (sc : Nat)
  /-- SANITIZE_CRYPTO_ERASE (R130): A crypto-erase Sanitize takes both heads into Sweep, erases software keys and
  empties the index and maps. -/
  | sanitizeCryptoErase (p : Nat) (cid : Nat) (ndas : Bool) (coord : Bool)
  /-- SANITIZE_BLOCK_ERASE (R130): A block-erase Sanitize performs crypto erase and then block erase on every member
  drive. -/
  | sanitizeBlockErase (p : Nat) (cid : Nat) (ndas : Bool) (coord : Bool)
  /-- SANITIZE_DONE (R130): The Sanitize operation ends and both heads return to their modes. -/
  | sanitizeDone (ok : Bool)
  /-- FORMAT (R131): A Format with Secure Erase Settings 0 or 1 replaces the volume map with an empty map in one Ember
  step. -/
  | format (p : Nat) (cid : Nat) (nsid : Nat) (ses : Nat)
  /-- FORMAT_CRYPTO_ERASE (R131): A Format with Secure Erase Settings 2 destroys the domain key, or fails if the domain
  holds another volume. -/
  | formatCryptoErase (p : Nat) (cid : Nat) (nsid : Nat)
  /-- FORMAT_DONE (R131): A Format's background release of old references ends. -/
  | formatDone (k : Nat)
  /-- BANKED_ENTRY_END (R481): The dirty count is 0, the merging buffer drained and DDR in self-refresh; domains are
  parked and the head enters Banked. -/
  | bankedEntryEnd
  /-- BSTORE_WRITEOUT (R242): With under a sixteenth of the bucket store free, the oldest versions are written out by
  zone append. -/
  | bstoreWriteout (locs : List Nat)
  /-- RECLAIM_GO (R254): DDX_RECLAIM.GO raises DDX_GEN and posts reclamation items over the held halves. -/
  | reclaimGo (r : Req)
  /-- RECLAIM_DONE (R254): The last reclamation item ends; BUSY clears and directory checkpoints are written. -/
  | reclaimDone (x : PassEnd)
  /-- FILTER_REBUILD_DONE (R258): A half's filter rebuild ends and REBUILD clears. -/
  | filterRebuildDone (x : HalfRead)
  /-- DRIVE_COMPLETION (R338): A drive completes a command; a misplaced append fails its member. -/
  | driveCompletion (id : Nat) (res : Nat) (dstatus : Nat) (rlba : Nat) (offline : Bool) (data : Bytes)
  /-- DRV_CMD_TIMEOUT (R350): A drive command with no completion after DRV_CMD_TO is aborted and ends with TIMEOUT. -/
  | drvCmdTimeout (id : Nat)
  /-- DRV_LINK_UP (R328): A drive root port trains and reaches L0. -/
  | drvLinkUp (p : Nat) (rate : Nat) (width : Nat) (zones : List (Nat × Nat))
  /-- DRV_LINK_LOSS (R351): A drive port stays out of L0 for 1 s or reports surprise link down. -/
  | drvLinkLoss (p : Nat) (surprise : Bool)
  /-- STRIPE_OPEN (R335): A new stripe takes its members from qualifying drives, or fails for capacity. -/
  | stripeOpen (cls : Nat)
  /-- STRIPE_REBUILD (R353): With AUTO set, a head posts rebuild items for its most degraded stripe. -/
  | stripeRebuild
  /-- STRIPE_RECLAIM (R345): A closed stripe with no live locations is reset and freed once DRV_RECLAIM_DLY has passed. -/
  | stripeReclaim (n : Nat)
  /-- DRV_LOCK (R355): A write of DRV_CTL.LOCK locks the geometry, or is refused with CFG_ERR. -/
  | drvLock (r : Req)
  /-- RECORD_COMMIT (R368): The commit unit of a record is acknowledged and the record is committed. -/
  | recordCommit (mirror : Bool) (origin : Nat) (seq : Nat)
  /-- RECORD_RELOCATE (R373): The live record at the tail is copied to the head and its old commit word zeroed. -/
  | recordRelocate
  /-- RECORD_RETIRE (R375): A record whose retirement condition holds has its commit word zeroed and a notice sent. -/
  | recordRetire (mirror : Bool) (origin : Nat) (seq : Nat)
  /-- EMBER_ECC_ERROR (R360): An Ember unit read meets a correctable or uncorrectable error, handled by the region's
  rule. -/
  | emberEccError (addr : Nat) (unc : Bool) (both : Bool) (held : List Nat)
  /-- OPTION_WRITE (R382): JNL_OPT_CMD GO writes staged options into the copy Kindling did not accept. -/
  | optionWrite (r : Req) (value : Nat) (fails : Bool)
  /-- CRL_LINK_TRAIN (R386): Creterlink trains at the widest common width and reaches codeword lock. -/
  | crlLinkTrain (lanes : Nat) (partner : Nat)
  /-- LANE_LOCK_LOSS (R386): A Creterlink lane loses lock and the link goes down and retrains. -/
  | laneLockLoss (lane : Nat)
  /-- IDLE_FRAME (R389): An IDLE frame is received, carrying ACK and credit fields. -/
  | idleFrame (b : Bytes) (corr : Nat) (unc : Option Nat)
  /-- DATA_FRAME (R393): A DATA frame is accepted in order, or discarded with at most one NAK. -/
  | dataFrame (b : Bytes) (corr : Nat) (unc : Option Nat)
  /-- NAK_FRAME (R394): A NAK makes the transmitter resend every held frame after its ACK. -/
  | nakFrame (b : Bytes) (corr : Nat) (unc : Option Nat)
  /-- REPLAY_TIMEOUT (R394): The oldest held frame has waited REPLAY_TO and is replayed, or the replay limit takes the
  link down. -/
  | replayTimeout
  /-- LINK_TIMEOUT (R395): No non-corrupt frame arrives for LINK_TO and the link goes down. -/
  | linkTimeout
  /-- CRL_EN_WRITE (R406): CRL_CTL.EN written 0 ends the session and idles the lanes; written 1 permits training. -/
  | crlEnWrite (r : Req) (value : Nat)
  /-- HELLO (R403): A HELLO is received and checked, starting the session proof or refusing the join. -/
  | hello
  /-- HELLO_REPEAT (R403): HELLO is resent every 1 ms until the partner's arrives, or every second after a refusal. -/
  | helloRepeat
  /-- PROOF (R405): A PROOF is received and its MAC verified, bringing the session up. -/
  | proof
  /-- JOIN_REFUSE (R404): A JOIN_REFUSE from the partner is received. -/
  | joinRefuse
  /-- MIR_DATA (R408): A MIR_DATA is received into MIRI grates and program 0x0004 is posted to check it. -/
  | mirData
  /-- MIR_REC (R408): A MIR_REC is received, its PDIG checked and the mirror record written. -/
  | mirRec
  /-- MIR_REF (R412): A MIR_REF is checked against the held forwarded payload and the mirror record committed. -/
  | mirRef
  /-- MCOMMIT (R409): An MCOMMIT reports mirror commits, satisfying partner conditions or causing resends. -/
  | mcommit
  /-- COMMIT_TIMEOUT (R410): No MCOMMIT within COMMIT_TO causes the message to be sent again. -/
  | commitTimeout (origin : Nat) (seq : Nat)
  /-- RETIRE (R411): A RETIRE message retires the named mirror copies. -/
  | retire
  /-- FWD_CMD (R412): A forwarded command is received and executed by the owning head. -/
  | fwdCmd
  /-- FWD_DONE (R412): A FWD_DONE lets the fetching head post the completion with the owner's status and sequence. -/
  | fwdDone
  /-- IDX_REQ (R234): A forwarded index request is executed by the holder of its half. -/
  | idxReq (image : Option Bytes)
  /-- IDX_RSP (R234): An index response completes the forwarded request's ticket. -/
  | idxRsp
  /-- STAGE_GET (R379): A STAGE_GET asks for the staged payload of a record. -/
  | stageGet
  /-- STAGE_DATA (R461): A STAGE_DATA answer settles a record under recovery or Joining settlement. -/
  | stageData
  /-- REJECT (R402): A REJECT reports a faulted request message. -/
  | reject
  /-- MBX_MSG (R550): An MBX_MSG from the partner is posted to its channel by agent 9, or dropped. -/
  | mbxMsg
  /-- HEARTBEAT (R415): A heartbeat is received, clearing MISS and feeding skew and PARTNER discipline. -/
  | heartbeat
  /-- HEARTBEAT_SEND (R414): At each multiple of 2,000 of AT the head sends a heartbeat. -/
  | heartbeatSend
  /-- HEARTBEAT_MISS (R415): A heartbeat slot passes its deadline and MISS rises. -/
  | heartbeatMiss
  /-- PARTNER_LOST (R416): With MISS at 4 or more and the link down, ended or PFAULT, the partner is declared lost. -/
  | partnerLost
  /-- FENCE_SEND (R419): CRL_FENCE.GO sends a FENCE to the partner, or reports NO_SESSION. -/
  | fenceSend (r : Req) (value : Nat)
  /-- FENCE (R420): A FENCE that passes its checks makes the head perform a compute-die reset. -/
  | fence
  /-- ARB_DELAY_EXPIRE (R418): Head B's arbitration delay ends and it issues preempting reservation acquires. -/
  | arbDelayExpire
  /-- ARB_RESULT (R418): The first drive answers the preempt; the head wins and enters Solo, or loses and resets. -/
  | arbResult (x : ArbAnswer)
  /-- TICK_SYNC_EDGE (R426): A TICK_SYNC rising edge corrects AT by slew or step. -/
  | tickSyncEdge
  /-- TICK_CLK_LOSS (R427): TICK_CLK has no edge for 1 µs and AT runs in holdover. -/
  | tickClkLoss
  /-- TICK_SYNC_LOSS (R427): TICK_SYNC has no edge for 1.5 s and AT runs in holdover. -/
  | tickSyncLoss
  /-- TICK_FLOOR_WRITE (R424): Each second of AT the AT copy, power-cycle count and operating time are written to Ember. -/
  | tickFloorWrite
  /-- OP_TIME_TICK (R557): The operating time rises by 1 for every 100,000 counts of AT. -/
  | opTimeTick
  /-- CUT (R433): A cut is taken, reserving a gap of sequences and logging T and END_T, or skipped when the log is full. -/
  | cut (c : Nat)
  /-- CUT_ENABLE (R432): CUT_EN going to 1 advances past-due schedule entries. -/
  | cutEnable (r : Req)
  /-- CLOG_CONSUME (R437): Firmware advances TICK_CLOG_CTL.RD to consume cut log entries. -/
  | clogConsume (r : Req) (rd : Nat)
  /-- STREAM_ARM (R440): TICK_RS_CFG.ARM written 1 arms a replication stream with a new arm number. -/
  | streamArm (r : Req) (value : Nat)
  /-- STREAM_FINAL (R440): FINAL marks the last item of a stream, whose last segment carries LAST. -/
  | streamFinal (r : Req) (value : Nat)
  /-- STREAM_REWIND (R441): A lower TICK_RS_IDX rewinds segment delivery. -/
  | streamRewind (r : Req) (index : Nat)
  /-- LOCKSTEP_MISMATCH (R450): A pair's lead and shadow outputs differ and the pair is fenced. -/
  | lockstepMismatch (p : Nat)
  /-- SPARE_SELF_TEST (R454): At each 250 ms of AT the spare starts its self-test. -/
  | spareSelfTest
  /-- SELF_TEST_DONE (R454): The spare's self-test ends in pass or fail. -/
  | selfTestDone (pass : Bool)
  /-- ROTATION (R455): Each hour of AT the device asks the next slot to rotate out. -/
  | rotation
  /-- ROT_ACK (R455): A write to AND_ROT_ACK lets the device swap the spare into the slot. -/
  | rotAck (r : Req) (value : Nat)
  /-- ROT_TIMEOUT (R455): No rotation acknowledgement within 10 ms skips the rotation. -/
  | rotTimeout
  /-- FAILBACK_READY (R463): AND_FB_CTL.READY is accepted when its conditions hold and an OWNER READY record is
  committed. -/
  | failbackReady (r : Req) (value : Nat)
  /-- FAILBACK_ACCEPT (R464): Once its MIRROR-1 records retire, the survivor commits ACCEPT or REFUSE. -/
  | failbackAccept
  /-- HANDOVER_BOUNDARY (R466): Both AT copies reach TB and new commands for moving volumes belong to the joiner. -/
  | handoverBoundary
  /-- FAILBACK_DONE (R466): With all pre-TB commands complete the survivor commits DONE and ownership passes. -/
  | failbackDone
  /-- FAILBACK_ABORT (R468): DONE not committed within TO ms of TB, or the session ends, aborts the hand-over. -/
  | failbackAbort
  /-- LEAVE_KINDLING_REQ (R480): GLB_MODE_REQ TARGET Joining sets WAITING once recovery and resumption have ended. -/
  | leaveKindlingReq (r : Req)
  /-- FORCE_SOLO (R477): GLB_MODE_REQ TARGET Solo with FORCE starts the head in Solo when no session is up. -/
  | forceSolo (r : Req)
  /-- SWEEP_REQ (R480): GLB_MODE_REQ TARGET Sweep from Kindling enters Sweep. -/
  | sweepReq (r : Req)
  /-- BANKED_REQ (R480): GLB_MODE_REQ TARGET Banked begins Banked entry from Duplex or Solo. -/
  | bankedReq (r : Req)
  /-- BANKED_EXIT_REQ (R480): GLB_MODE_REQ TARGET the entered-from mode ends Banked. -/
  | bankedExitReq (r : Req) (solo : Bool)
  /-- BANKED_EXIT (R526): A Banked exit trigger takes DIMMs out of self-refresh and unparks domains. -/
  | bankedExit
  /-- RST_N_ASSERT (R488): RST_N held low is recognised as a system-reach reset source. -/
  | rstNAssert (ns : Nat) (seen : Bool)
  /-- RST_N_RELEASE (R488): RST_N high for 1 µs is recognised as released. -/
  | rstNRelease
  /-- NVME_MI_RESET (R486): An NVMe-MI NVM Subsystem Reset on the sideband asserts a system-reach event. -/
  | nvmeMiReset
  /-- RESET_COMMAND (R486): KDL_RST_CMD with the right key asserts a system or compute-die reach event. -/
  | resetCommand (r : Req) (value : Nat)
  /-- RESET_SOURCE_EXPIRE (R489): An event reset source ends 10 µs after its event. -/
  | resetSourceExpire
  /-- RESET_EPISODE_END (R489): No reset source remains asserted, the episode ends at its widest reach, and Kindling
  starts. -/
  | resetEpisodeEnd (sbSel : Bool) (kept : Bool)
  /-- KINDLING_STEP_END (R497): A Kindling bring-up step ends and the next one starts. -/
  | kindlingStepEnd (bad : List Nat) (cs0 : Option Bytes) (cs1 : Option Bytes)
  /-- CLOCK_GOOD (R494): A domain's clock-good count completes and the domain may be released. -/
  | clockGood (d : Nat)
  /-- CLOCK_GOOD_LOSS (R495): A released domain loses clock-good and its units count as failed. -/
  | clockGoodLoss (d : Nat)
  /-- FORCE_RELEASE (R496): A KDL_REL_FORCE write requests early release of a domain. -/
  | forceRelease (r : Req) (value : Nat)
  /-- MIN_SVN_WRITE (R501): A KDL_MIN_SVN write can only raise the minimum security version. -/
  | minSvnWrite (r : Req) (value : Nat)
  /-- RAIL_BELOW_RESET (R508): A rail below its reset level asserts its group's reset source. -/
  | railBelowReset (r : Nat) (mv : Nat)
  /-- RAIL_RESET_CLEAR (R508): A rail above warning plus hysteresis for 200 µs ends its reset source. -/
  | railResetClear (r : Nat) (mv : Nat)
  /-- RAIL_WARN (R509): A non-core rail below warning sets RAIL_WARN. -/
  | railWarn (r : Nat) (mv : Nat)
  /-- RAIL_WARN_CLEAR (R509): A non-core rail back above warning for 200 µs clears its warning bit. -/
  | railWarnClear (r : Nat) (mv : Nat)
  /-- RAIL_DIP (R510): A core rail below warning requests halving of STV and HRT. -/
  | railDip (r : Nat) (mv : Nat)
  /-- DIP_END (R510): Every core rail above warning for 200 µs ends the dip and its throttle. -/
  | dipEnd (core : Nat) (hrt : Nat) (sram : Nat)
  /-- THERM_WARN (R512): The hottest sensor exceeds WARN and the THERM throttle starts. -/
  | thermWarn (temp : Nat)
  /-- THERM_CLEAR (R512): The temperature at or below WARN − 3 °C for 1 ms ends the THERM throttle. -/
  | thermClear (temp : Nat)
  /-- HOLDUP_ASSERT (R514): HOLDUP_WARN_N low for 2 µs is an assertion. -/
  | holdupAssert
  /-- HOLDUP_CLEAR (R514): HOLDUP_WARN_N high for 2 µs is a clearing. -/
  | holdupClear
  /-- QUENCH_SIM (R517): DMP_QTEST.SIM written 1 or 0 simulates a hold-up assertion or clearing. -/
  | quenchSim (r : Req) (value : Nat)
  /-- PHASE1_LIMIT (R520): E reaches the phase-1 limit and phase 2 begins. -/
  | phase1Limit
  /-- PHASE1_DRAINED (R520): The dirty count reaches 0 with the pin asserted after P1_MIN and phase 2 begins. -/
  | phase1Drained
  /-- QUENCH_REVERSE (R520): HOLDUP_WARN_N clear for 5 ms reverses phase 1 and fetch resumes. -/
  | quenchReverse
  /-- QUENCHED_HOLD (R523): Phase 2 ends and the head enters the quenched hold. -/
  | quenchedHold
  /-- WARM_RESTART (R523): Power present for 5 ms in the quenched hold starts a system-reach episode. -/
  | warmRestart
  /-- HOLDUP_TIME_WRITE (R516): A DMP_HOLDUP write is compared with the dirty bound and may set HOLD_SHORT. -/
  | holdupTimeWrite (r : Req) (value : Nat)
  /-- THERMAL_TRIP (R586): A sensor above 115 °C for 10 µs drives THERMTRIP_N low. -/
  | thermalTrip (temp : Nat)
  /-- CD_POWER_OFF (R586): 50 ms after a trip Damper drives CD_PWR_EN low. -/
  | cdPowerOff
  /-- TIMER_INTERRUPT (R537): The AT copy reaches a slot's HRT_MTIMECMP and its timer interrupt becomes pending. -/
  | timerInterrupt (slot : Nat)
  /-- WDT_KICK (R538): A slot's write to its HRT_WDT_KICK restarts its watchdog counter. -/
  | wdtKick (r : Req) (slot : Nat)
  /-- WDT_WARN (R538): A slot's watchdog reaches HRT_WDT_TO and a warning is given. -/
  | wdtWarn (slot : Nat)
  /-- WDT_EXPIRE (R538): A slot's watchdog reaches twice HRT_WDT_TO and asserts a compute-die reset. -/
  | wdtExpire (slot : Nat)
  /-- WDT_RESTART (R538): HRT_WDT_RESTART resets and restarts a warned slot's pair. -/
  | wdtRestart (r : Req) (value : Nat)
  /-- HRT_PARK (R549): A woken pair writes HRT_PARK with its slot to be parked again in Banked. -/
  | hrtPark (r : Req) (value : Nat)
  /-- MBX_SEND (R543): MBX_SEND posts MBX_TXBUF into a channel, or is refused, overwriting a full channel. -/
  | mbxSend (r : Req) (c : Nat) (value : Nat)
  /-- MBX_ACK (R545): MBX_ACK with the current NUM empties the channel, else is stale. -/
  | mbxAck (r : Req) (c : Nat) (value : Nat)
  /-- MBX_TIMEOUT (R548): A channel still FULL with the same NUM after TO_MS reports a timeout. -/
  | mbxTimeout (c : Nat)
  /-- MBX_PEER_ACKED (R550): The frames of a message sent to the partner are acknowledged and the channel empties. -/
  | mbxPeerAcked (c : Nat)
  /-- SOOT_FLUSH_TIMER (R559): The AT copy reaches a whole second and the staging buffer is flushed. -/
  | sootFlushTimer
  /-- SOOT_FLUSH_REQ (R559): SOOT_CTL.FLUSH requests a flush. -/
  | sootFlushReq (r : Req)
  /-- SOOT_FLUSH_DONE (R560): A flush's last record is acknowledged and NEXT is updated. -/
  | sootFlushDone
  /-- SOOT_FREEZE (R563): SOOT_CTL.FREEZE written 1 flushes and freezes the log. -/
  | sootFreeze (r : Req)
  /-- SOOT_UNFREEZE (R563): SOOT_CTL.FREEZE written 0 ends the freeze and flushes. -/
  | sootUnfreeze (r : Req)
  /-- SOOT_FREEZE_TIMEOUT (R563): A freeze longer than SOOT_FRZ_TO ends. -/
  | sootFreezeTimeout
  /-- SOOT_CHALLENGE (R564): SOOT_CLR_CTL OP CHALLENGE draws a nonce and posts it to the secure channel. -/
  | sootChallenge (r : Req)
  /-- SOOT_RESPOND (R565): SOOT_CLR_CTL OP RESPOND checks the MAC and starts the clear or denies it. -/
  | sootRespond (r : Req)
  /-- NONCE_EXPIRE (R565): A clear nonce expires TO_S seconds after its challenge. -/
  | nonceExpire
  /-- SOOT_READ_MI (R567): The NVMe-MI vendor command 0xC1 returns Soot records from an index. -/
  | sootReadMi (first : Nat) (count : Nat)
  /-- KEY_WRITE (R316): KEY_SLOT_CMD WRITE stores a key in a software slot. -/
  | keyWrite (r : Req)
  /-- KEY_ZERO (R316): KEY_SLOT_CMD ZERO clears a software slot. -/
  | keyZero (r : Req)
  /-- WRAP (R317): KEY_SLOT_CMD WRAP writes the GCM-wrapped form of a slot. -/
  | wrap (r : Req)
  /-- UNWRAP (R317): KEY_SLOT_CMD UNWRAP checks a wrapped slot and stores its key. -/
  | unwrap (r : Req)
  /-- REDERIVE (R321): KEY_SLOT_CMD REDERIVE commits a new generation and derives slot 1 to 4 again. -/
  | rederive (r : Req)
  /-- PROGRAM_AROOT (R316): KEY_SLOT_CMD PROGRAM_AROOT burns the array root in Sweep. -/
  | programAroot (r : Req)
  /-- KEY_ERASE_TIMEOUT (R315): Users of software slots still present after 20 ms fault with KEY_ERASE. -/
  | keyEraseTimeout
  /-- ICH_REQUEST (R265): A client request to the Index cache hits, misses into a fill, or uses the side buffer and
  merging buffer. -/
  | ichRequest (id : Nat) (addr : Nat) (len : Nat) (data : Option Bytes) (use : IchUse)
  /-- ICH_BURST (R269): A fill burst arrives and restarts the requesters waiting on it. -/
  | ichBurst (x : Nat)
  /-- ICH_FILL_DONE (R269): All four bursts are in and the line is installed, unless stale. -/
  | ichFillDone (x : Nat)
  /-- WB_DRAIN (R273): A merging-buffer entry drains to DDR on occupancy, age or another trigger. -/
  | wbDrain
  /-- EXT_AGENT_READ (R277): Another agent's read of a line in the merging buffer is held until the entry drains. -/
  | extAgentRead (addr : Nat) (len : Nat)
  /-- EXT_AGENT_WRITE (R278): Another agent's write invalidates the line and marks any fill stale. -/
  | extAgentWrite (addr : Nat) (data : Bytes)
  /-- ICH_INVAL (R280): Maintenance INVAL invalidates lines of a single line or range. -/
  | ichInval (r : Req) (force : Bool) (range : Bool)
  /-- ICH_CLEAN (R280): Maintenance CLEAN drains merging-buffer entries of the range. -/
  | ichClean (r : Req) (force : Bool) (range : Bool)
  /-- ICH_FLUSH (R280): Maintenance FLUSH cleans and then invalidates. -/
  | ichFlush (r : Req) (force : Bool) (range : Bool)
  /-- ICH_LOCK (R267): Maintenance LOCK places lines in ways 0 to 3 and locks them. -/
  | ichLock (r : Req) (force : Bool) (range : Bool)
  /-- ICH_UNLOCK (R280): Maintenance UNLOCK clears locks. -/
  | ichUnlock (r : Req) (force : Bool) (range : Bool)
  /-- ICH_PREFETCH (R271): Maintenance PREFETCH reads lines into the side buffer. -/
  | ichPrefetch (r : Req) (force : Bool) (range : Bool)
  /-- MNT_DONE (R281): A maintenance operation completes with its result and counts. -/
  | mntDone
  /-- ICH_ECC_ERROR (R282): A SECDED error in a line, tag or merging-buffer entry is corrected or invalidates. -/
  | ichEccError (kind : Nat) (line : Nat)
  /-- ICH_ENABLE (R284): An ICH_CTL.EN write enables the cache, or on 0 drains and invalidates everything. -/
  | ichEnable (r : Req) (en : Bool)
  /-- ICH_TAGS_READY (R284): Tag initialisation completes and READY is set. -/
  | ichTagsReady
  /-- HOST_LINK_L1_L2 (R127): A host link leaves L0 for L1 or L2 without DL_Down, so its controller counts as requesting
  PS2 and Banked entry may begin. -/
  | hostLinkL1L2 (p : Nat)
  /-- CC_EN_SET (R59): The host writes CC.EN from 0 to 1 and the controller becomes ready, CSTS.RDY following within
  CAP.TO. -/
  | ccEnSet (p : Nat) (ams : Nat) (asqs : Nat) (acqs : Nat)
  /-- ADMIN_COMMAND (R476): An admin command other than those with their own rows, such as Create I/O Submission Queue,
  is fetched, handed to firmware, and ends Banked. -/
  | adminCommand (p : Nat) (cid : Nat) (op : Nat) (qid : Nat) (size : Nat) (cqid : Nat) (prio : Nat)
  /-- DRV_FAIL_WRITE (R351): Firmware writes DRV_DRV_CTL.FAIL and the drive becomes FAILED, degrading every stripe with
  a member on it. -/
  | drvFailWrite (r : Req)
  /-- DRV_CONTROLLER_FATAL (R351): A drive controller reports Controller Fatal Status and the drive becomes FAILED. -/
  | drvControllerFatal (d : Nat)
  /-- TICK_CLK_RETURN (R427): TICK_CLK edges return after a loss, CLK_OK becomes 1 and the TICK PLL locks to TICK_CLK
  again. -/
  | tickClkReturn
  /-- AT_CORRECTION_END (R426): A running slew or half-rate correction of AT completes its cycles and LOCKED may become
  1. -/
  | atCorrectionEnd
  /-- CLOCK_GOOD_TIMEOUT (R579): A domain's clock-good has not held for its count within 100 ms of Kindling reaching it,
  and its units count as failed. -/
  | clockGoodTimeout (d : Nat)
  /-- FAULT_N_EPISODE_TIMEOUT (R578): A reset episode of power-on or system reach has lasted 100 ms without ending and
  FAULT_N is driven low. -/
  | faultNEpisodeTimeout
  /-- GAP_HOLD_RELEASE (R434): The AT copy reaches the T of a cut taken early whose gap hold stopped write fetch, and
  write fetch resumes. -/
  | gapHoldRelease
  /-- SOOT_LOST_READ (R569): A read of SOOT_LOST acknowledges a lost-event count rise, ending the pending state of PLIC
  source 25. -/
  | sootLostRead (r : Req)
  /-- STV_WI_POST (R169): A firmware write to STV_WI_POST word 15 posts a work item, held until the queue has room. -/
  | stvWiPost (r : Req) (n : Nat) (value : Nat)
  /-- STRAND_DISPATCH (R150): An idle strand takes the oldest queued item and starts at the slot's entry for its KIND. -/
  | strandDispatch (n : Nat) (k : Nat)
  /-- WI_TIMEOUT (R151): A strand running one work item longer than STV_WI_TO faults with WI_TIMEOUT. -/
  | wiTimeout (n : Nat) (k : Nat)
  /-- STRAND_FAULT_CLEAR (R164): A write of 1 to a STV_FAULT strand bit returns the strand to idle. -/
  | strandFaultClear (r : Req) (n : Nat) (value : Nat)
  /-- STOVE_ECC_ERROR (R165): An uncorrectable error in the program store or local memory fences the Stove. -/
  | stoveEccError (n : Nat) (lmem : Bool)
  /-- STV_FENCE_WRITE (R165): A write of STV_CTL.FENCE fences the Stove. -/
  | stvFenceWrite (r : Req) (n : Nat)
  /-- PROGRAM_LOAD (R156): STV_LOAD_CTL GO with OP 1 starts checking and loading a program image into a slot. -/
  | programLoad (r : Req) (n : Nat) (value : Nat)
  /-- LOAD_DONE (R157): A program load ends and the slot becomes VALID or EMPTY with the result in STV_LOAD_STS. -/
  | loadDone (n : Nat) (dmaErr : Bool)
  /-- PROGRAM_UNLOAD (R158): STV_LOAD_CTL GO with OP 2 makes a slot DRAINING. -/
  | programUnload (r : Req) (n : Nat) (value : Nat)
  /-- SLOT_DRAINED (R158): The last item of a DRAINING slot ends and the slot becomes EMPTY. -/
  | slotDrained (n : Nat) (slot : Nat)
  /-- POLICY_WRITE (R161): An STV_POL write commits a volume's policy word to Ember for later items. -/
  | policyWrite (r : Req) (value : Nat)
  /-- LANE_GRANT (R145): A waiting unit, lane or DMA request is granted a freed lane or unit. -/
  | laneGrant (n : Nat) (u : Nat) (pause : Option (Nat × Nat))
  /-- STREAM_FINISH (R185): A unit finishes a stream and its ticket's status becomes available with its output visible. -/
  | streamFinish (n : Nat) (k : Nat) (e : Nat) (err : Option Nat) (fault : Nat)
  /-- NOP (R187): Stove NOP does nothing. -/
  | nop (n : Nat) (k : Nat) (f : InsW)
  /-- END (R144): END waits for every outstanding ticket, returns a value to the poster and makes the strand idle. -/
  | endItem (n : Nat) (k : Nat) (f : InsW)
  /-- TRAP (R188): TRAP faults the strand with code TRAP and hands its item to firmware. -/
  | trap (n : Nat) (k : Nat) (f : InsW)
  /-- STOP (R187): STOP fences the Stove with unit code CIPHER_RT. -/
  | stop (n : Nat) (k : Nat) (f : InsW)
  /-- RDAT (R187): RDAT reads the synchronised AT copy. -/
  | rdat (n : Nat) (k : Nat) (f : InsW)
  /-- WAITAT (R189): WAITAT issues once the AT copy reaches g[B]. -/
  | waitat (n : Nat) (k : Nat) (f : InsW)
  /-- RDID (R187): RDID returns the identity word of the running strand. -/
  | rdid (n : Nat) (k : Nat) (f : InsW)
  /-- WAIT (R143): WAIT issues when its ticket finishes, returns the status and frees the entry. -/
  | wait (n : Nat) (k : Nat) (f : InsW)
  /-- POLL (R187): POLL returns whether a ticket has finished without freeing it. -/
  | poll (n : Nat) (k : Nat) (f : InsW)
  /-- ADD (R190): ADD adds two registers. -/
  | add (n : Nat) (k : Nat) (f : InsW)
  /-- SUB (R190): SUB subtracts two registers. -/
  | sub (n : Nat) (k : Nat) (f : InsW)
  /-- AND (R190): AND takes the bitwise and of two registers. -/
  | and (n : Nat) (k : Nat) (f : InsW)
  /-- OR (R190): OR takes the bitwise or of two registers. -/
  | or (n : Nat) (k : Nat) (f : InsW)
  /-- XOR (R190): XOR takes the bitwise exclusive or of two registers. -/
  | xor (n : Nat) (k : Nat) (f : InsW)
  /-- SLL (R190): SLL shifts left by a register amount. -/
  | sll (n : Nat) (k : Nat) (f : InsW)
  /-- SRL (R190): SRL shifts right logically by a register amount. -/
  | srl (n : Nat) (k : Nat) (f : InsW)
  /-- SRA (R190): SRA shifts right arithmetically by a register amount. -/
  | sra (n : Nat) (k : Nat) (f : InsW)
  /-- SLT (R190): SLT sets on signed less-than. -/
  | slt (n : Nat) (k : Nat) (f : InsW)
  /-- SLTU (R190): SLTU sets on unsigned less-than. -/
  | sltu (n : Nat) (k : Nat) (f : InsW)
  /-- MUL (R190): MUL returns the low 64 bits of a product. -/
  | mul (n : Nat) (k : Nat) (f : InsW)
  /-- MULHU (R190): MULHU returns the high 64 bits of an unsigned product. -/
  | mulhu (n : Nat) (k : Nat) (f : InsW)
  /-- CLZ (R190): CLZ counts leading zero bits. -/
  | clz (n : Nat) (k : Nat) (f : InsW)
  /-- POPC (R190): POPC counts one bits. -/
  | popc (n : Nat) (k : Nat) (f : InsW)
  /-- BSWAP (R190): BSWAP reverses the eight bytes of a register. -/
  | bswap (n : Nat) (k : Nat) (f : InsW)
  /-- ADDI (R190): ADDI adds a sign-extended immediate. -/
  | addi (n : Nat) (k : Nat) (f : InsW)
  /-- ANDI (R190): ANDI ands with a zero-extended immediate. -/
  | andi (n : Nat) (k : Nat) (f : InsW)
  /-- ORI (R190): ORI ors with a zero-extended immediate. -/
  | ori (n : Nat) (k : Nat) (f : InsW)
  /-- XORI (R190): XORI exclusive-ors with a zero-extended immediate. -/
  | xori (n : Nat) (k : Nat) (f : InsW)
  /-- SLLI (R190): SLLI shifts left by an immediate. -/
  | slli (n : Nat) (k : Nat) (f : InsW)
  /-- SRLI (R190): SRLI shifts right logically by an immediate. -/
  | srli (n : Nat) (k : Nat) (f : InsW)
  /-- SRAI (R190): SRAI shifts right arithmetically by an immediate. -/
  | srai (n : Nat) (k : Nat) (f : InsW)
  /-- SLTI (R190): SLTI sets on signed less-than an immediate. -/
  | slti (n : Nat) (k : Nat) (f : InsW)
  /-- SLTUI (R190): SLTUI sets on unsigned less-than a sign-extended immediate. -/
  | sltui (n : Nat) (k : Nat) (f : InsW)
  /-- LIH (R190): LIH loads an immediate into the high 32 bits. -/
  | lih (n : Nat) (k : Nat) (f : InsW)
  /-- BEQ (R190): BEQ branches when two registers are equal. -/
  | beq (n : Nat) (k : Nat) (f : InsW)
  /-- BNE (R190): BNE branches when two registers differ. -/
  | bne (n : Nat) (k : Nat) (f : InsW)
  /-- BLT (R190): BLT branches on signed less-than. -/
  | blt (n : Nat) (k : Nat) (f : InsW)
  /-- BGE (R190): BGE branches on signed greater-or-equal. -/
  | bge (n : Nat) (k : Nat) (f : InsW)
  /-- BLTU (R190): BLTU branches on unsigned less-than. -/
  | bltu (n : Nat) (k : Nat) (f : InsW)
  /-- BGEU (R190): BGEU branches on unsigned greater-or-equal. -/
  | bgeu (n : Nat) (k : Nat) (f : InsW)
  /-- JAL (R190): JAL jumps relative to PC and links. -/
  | jal (n : Nat) (k : Nat) (f : InsW)
  /-- JALR (R190): JALR jumps to a register plus offset and links. -/
  | jalr (n : Nat) (k : Nat) (f : InsW)
  /-- LD (R191): LD loads 1 to 8 bytes of local memory. -/
  | ld (n : Nat) (k : Nat) (f : InsW)
  /-- ST (R191): ST stores 1 to 8 bytes to local memory. -/
  | st (n : Nat) (k : Nat) (f : InsW)
  /-- AMOADD (R192): AMOADD atomically adds to a local-memory word and returns the old value. -/
  | amoadd (n : Nat) (k : Nat) (f : InsW)
  /-- CAS (R192): CAS atomically compares and swaps a local-memory word. -/
  | cas (n : Nat) (k : Nat) (f : InsW)
  /-- DMK (R193): DMK makes a descriptor. -/
  | dmk (n : Nat) (k : Nat) (f : InsW)
  /-- DLD (R193): DLD loads a descriptor from local memory. -/
  | dld (n : Nat) (k : Nat) (f : InsW)
  /-- DST (R193): DST stores a descriptor to local memory. -/
  | dst (n : Nat) (k : Nat) (f : InsW)
  /-- DADV (R193): DADV advances a descriptor and shortens it. -/
  | dadv (n : Nat) (k : Nat) (f : InsW)
  /-- DCLIP (R193): DCLIP clips a descriptor's length. -/
  | dclip (n : Nat) (k : Nat) (f : InsW)
  /-- DGET (R193): DGET reads a descriptor field into a register. -/
  | dget (n : Nat) (k : Nat) (f : InsW)
  /-- CPY (R194): CPY starts a copy stream between two descriptors. -/
  | cpy (n : Nat) (k : Nat) (f : InsW)
  /-- FILL (R194): FILL starts a stream filling a descriptor with a pattern. -/
  | fill (n : Nat) (k : Nat) (f : InsW)
  /-- CMP (R194): CMP starts a stream comparing two ranges. -/
  | cmp (n : Nat) (k : Nat) (f : InsW)
  /-- POST (R194): POST starts posting a work item from local memory. -/
  | post (n : Nat) (k : Nat) (f : InsW)
  /-- GR_ALLOC (R194): GR.ALLOC requests a grate on channel STV. -/
  | grAlloc (n : Nat) (k : Nat) (f : InsW)
  /-- GR_FREE (R195): GR.FREE frees a grate, crediting the channel that allocated it. -/
  | grFree (n : Nat) (k : Nat) (f : InsW)
  /-- CZ_OPEN (R196): CZ.OPEN requests a compressor lane or the raw bypass for a new block. -/
  | czOpen (n : Nat) (k : Nat) (f : InsW)
  /-- CZ_PUT (R196): CZ.PUT appends whole granules to the open block, closing it at the limit. -/
  | czPut (n : Nat) (k : Nat) (f : InsW)
  /-- CZ_FLUSH (R206): CZ.FLUSH closes the open block early. -/
  | czFlush (n : Nat) (k : Nat) (f : InsW)
  /-- CZ_DEC (R226): CZ.DEC decodes one Cinder block, deciding its status by the ordered checks. -/
  | czDec (n : Nat) (k : Nat) (f : InsW)
  /-- CZ_BLOCK_RELEASE (R222): After shadow decode a compressor lane writes the block coded or recoded raw and returns
  the block result. -/
  | czBlockRelease (n : Nat) (b : Nat) (mismatch : Bool)
  /-- DG_ALLOC (R290): DG.ALLOC requests a digest context with a declared length and, for HMAC, a key slot. -/
  | dgAlloc (n : Nat) (k : Nat) (f : InsW)
  /-- DG_CONTEXT_GRANT (R295): A waiting DG.ALLOC is granted a context, or denied the key, and HMAC key blocks are
  absorbed. -/
  | dgContextGrant (n : Nat)
  /-- DG_ABS (R291): DG.ABS starts absorbing a descriptor into a context, subject to truncation. -/
  | dgAbs (n : Nat) (k : Nat) (f : InsW)
  /-- DG_FIN (R293): DG.FIN absorbs the last word, pads and finishes the digest into the result registers. -/
  | dgFin (n : Nat) (k : Nat) (f : InsW)
  /-- DG_RD (R198): DG.RD reads a result word of a held context. -/
  | dgRd (n : Nat) (k : Nat) (f : InsW)
  /-- DG_CMP (R298): DG.CMP compares a finished digest with a reference by doubled comparators, fencing on an improper
  pair. -/
  | dgCmp (n : Nat) (k : Nat) (f : InsW)
  /-- DG_FREE (R297): DG.FREE makes a context RELEASING and free once its streams finish. -/
  | dgFree (n : Nat) (k : Nat) (f : InsW)
  /-- DG_CTX_ECC (R300): An uncorrectable error in a digest context zeroes its verdict bytes and fences the Stove. -/
  | dgCtxEcc (n : Nat) (c : Nat)
  /-- CI_LOCK (R304): CI.LOCK requests the cipher lock with a key slot, possibly suspending a normal holder if urgent. -/
  | ciLock (n : Nat) (k : Nat) (f : InsW)
  /-- CIPHER_LOCK_GRANT (R304): A waiting cipher lock is granted and its key loaded, or denied. -/
  | cipherLockGrant (n : Nat)
  /-- CI_XTS (R309): CI.XTS starts an AES-256-XTS stream over one data unit. -/
  | ciXts (n : Nat) (k : Nat) (f : InsW)
  /-- CI_GCM (R311): CI.GCM starts an AES-256-GCM stream, decrypting in two passes with tag check. -/
  | ciGcm (n : Nat) (k : Nat) (f : InsW)
  /-- CI_UNLK (R307): CI.UNLK releases the cipher lock, resuming any suspended strand first. -/
  | ciUnlk (n : Nat) (k : Nat) (f : InsW)
  /-- PAR (R201): PAR starts a parity encode or rebuild job. -/
  | par (n : Nat) (k : Nat) (f : InsW)
  /-- LOOKUP (R250): IDX LOOKUP probes the filter and bucket for a fingerprint and domain. -/
  | lookup (n : Nat) (k : Nat) (f : InsW) (image : Option Bytes)
  /-- INSERT (R250): IDX INSERT creates an entry or acts as ADDREF on an existing one. -/
  | insert (n : Nat) (k : Nat) (f : InsW) (image : Option Bytes)
  /-- ADDREF (R252): IDX ADDREF raises an entry's reference count or revives a dead entry. -/
  | addref (n : Nat) (k : Nat) (f : InsW) (image : Option Bytes)
  /-- DECREF (R253): IDX DECREF lowers an entry's reference count, marking it dead at zero. -/
  | decref (n : Nat) (k : Nat) (f : InsW) (image : Option Bytes)
  /-- MAPSET (R250): IDX MAPSET stores a map entry unless the stored one has a higher sequence. -/
  | mapset (n : Nat) (k : Nat) (f : InsW) (image : Option Bytes)
  /-- MAPGET (R250): IDX MAPGET returns the map entry of a volume and LBA. -/
  | mapget (n : Nat) (k : Nat) (f : InsW) (image : Option Bytes)
  /-- DRV_READ (R348): A DRV READ request reads a zone range into a buffer. -/
  | drvRead (n : Nat) (k : Nat) (f : InsW)
  /-- DRV_APPEND (R338): A DRV APPEND request appends a chunk to a member zone at an expected offset. -/
  | drvAppend (n : Nat) (k : Nat) (f : InsW)
  /-- DRV_RESET (R347): A DRV RESET request resets a zone. -/
  | drvReset (n : Nat) (k : Nat) (f : InsW)
  /-- DRV_FINISH (R347): A DRV FINISH request finishes a zone. -/
  | drvFinish (n : Nat) (k : Nat) (f : InsW)
  /-- CRL_TRANSMIT (R200): A CRL instruction submits a Creterlink transmit request. -/
  | crlTransmit (n : Nat) (k : Nat) (f : InsW)
deriving DecidableEq, Repr

end Sys2Proof
end

