-- ==== Sys2Proof/Decode.lean ====
section
/-! DEFINITION. Words of the opcode table, and the instruction words of a Stove's program store (R177). The head is a block: its commands
reach it as register accesses, bus operations and events, and no row of the table gives a command bits. -/

namespace Sys2Proof

/-- The command that a word spells by the bits of the opcode table: none, because the table gives no row any bits. -/
def decodeTableWord (_nbits _w : Nat) : Option Instr := none

/-- The opcode of an instruction word and its fields (R177). -/
def insOpc (w : W64) : Nat := (w.extractLsb' 56 8).toNat
def insOf (w : W64) : InsW :=
  { a := w.extractLsb' 51 5, b := w.extractLsb' 46 5, c := w.extractLsb' 41 5, x := w.extractLsb' 32 9, imm := w.extractLsb' 0 32 }

/-- The word of an opcode and its fields. -/
def insWord (opc : Nat) (f : InsW) : W64 := BitVec.ofNat 8 opc ++ f.a ++ f.b ++ f.c ++ f.x ++ f.imm

/-- The opcodes of the opcode tables (R187 to R200). -/
def insOpcodes : List Nat :=
  [0x00, 0x01, 0x02, 0x03, 0x04, 0x05, 0x06, 0x07, 0x08,
   0x10, 0x11, 0x12, 0x13, 0x14, 0x15, 0x16, 0x17, 0x18, 0x19, 0x1A, 0x1B, 0x1C, 0x1D, 0x1E,
   0x20, 0x22, 0x23, 0x24, 0x25, 0x26, 0x27, 0x28, 0x29, 0x2A, 0x30, 0x31, 0x32, 0x33] ++
  [0x40, 0x41, 0x42, 0x43, 0x44, 0x45, 0x46, 0x47, 0x50, 0x51, 0x52, 0x53, 0x54, 0x55,
   0x60, 0x61, 0x62, 0x63, 0x64, 0x65, 0x70, 0x71, 0x72, 0x73, 0x80, 0x81, 0x82, 0x83, 0x84, 0x85,
   0x90, 0x91, 0x92, 0x93, 0xA0, 0xB0, 0xC0, 0xC1]

/-- A word is an instruction of the tables; IDX has six ops in X[2:0] (R200). -/
def insKnown (w : W64) : Bool := insOpcodes.contains (insOpc w) && !(insOpc w == 0xB0 && 6 ≤ (insOf w).x.toNat % 8)

end Sys2Proof
end

