-- ==== Sys2Proof/Machine/Tab.lean ====
section
/-! DEFINITION. The operations of the sparse table, of a number store that lists no zero, and of a byte memory that lists no
zero byte. Every one keeps the keys strictly rising. -/

namespace Sys2Proof.Tab

/-- The value listed under a key. -/
def find {α : Type} : Tab α → Nat → Option α
  | [], _ => none
  | (j, v) :: t, k => if j = k then some v else find t k

/-- The value listed under a key, or the default. -/
def getD {α : Type} (t : Tab α) (k : Nat) (d : α) : α := (find t k).getD d

/-- List a value under a key, in place of any value listed there. -/
def put {α : Type} : Tab α → Nat → α → Tab α
  | [], k, v => [(k, v)]
  | (j, w) :: t, k, v =>
    if k < j then (k, v) :: (j, w) :: t else if j = k then (k, v) :: t else (j, w) :: put t k v

/-- List nothing under a key. -/
def del {α : Type} : Tab α → Nat → Tab α
  | [], _ => []
  | (j, w) :: t, k => if j = k then del t k else (j, w) :: del t k

/-- Put when the option holds a value, else delete. -/
def set {α : Type} (t : Tab α) (k : Nat) : Option α → Tab α
  | some v => put t k v
  | none => del t k

/-- Replace the value under a key by a function of it, starting from the default when none is listed. -/
def upd {α : Type} (t : Tab α) (k : Nat) (d : α) (f : α → α) : Tab α := put t k (f (getD t k d))

/-- Keep the entries a test accepts. -/
def keep {α : Type} (t : Tab α) (p : Nat → α → Bool) : Tab α := t.filter (fun e => p e.1 e.2)

/-- Change every listed value. -/
def mapVals {α β : Type} (t : Tab α) (f : Nat → α → β) : Tab β := t.map (fun e => (e.1, f e.1 e.2))

/-- The listed keys are strictly rising. -/
def sorted {α : Type} : Tab α → Bool
  | [] => true
  | [_] => true
  | (a, _) :: (b, w) :: t => decide (a < b) && sorted ((b, w) :: t)

/-- A number store reads 0 where nothing is listed. -/
def getN (t : Tab Nat) (k : Nat) : Nat := getD t k 0

/-- Writing 0 to a number store lists nothing. -/
def putN (t : Tab Nat) (k v : Nat) : Tab Nat := if v = 0 then del t k else put t k v

/-- A byte memory reads 0 where nothing is listed. -/
def getB (t : Tab Byte) (k : Nat) : Byte := getD t k 0#8

/-- Writing 0 to a byte memory lists nothing. -/
def putB (t : Tab Byte) (k : Nat) (v : Byte) : Tab Byte := if v = 0#8 then del t k else put t k v

/-- The canonical form of a byte memory: keys strictly rising and no entry equal to what an unlisted address reads as. -/
def wfB (t : Tab Byte) : Bool := sorted t && t.all (fun e => e.2 != 0#8)

/-- The canonical form of a number store. -/
def wfN (t : Tab Nat) : Bool := sorted t && t.all (fun e => e.2 != 0)

/-- `n` bytes from an address on. -/
def readBytes (t : Tab Byte) (a : Nat) : Nat → Bytes
  | 0 => []
  | n + 1 => getB t a :: readBytes t (a + 1) n

/-- Store bytes from an address on. -/
def writeBytes (t : Tab Byte) (a : Nat) : Bytes → Tab Byte
  | [] => t
  | b :: bs => writeBytes (putB t a b) (a + 1) bs

end Sys2Proof.Tab
end

