-- ==== Sys2Proof/Machine/Hash.lean ====
section
/-! DEFINITION. The digests the head computes: SHA-256 and SHA-384 (FIPS 180-4), HMAC (FIPS 198-1), the counter-mode KDF of SP
800-108 (R320) and CRC-32C (R211). The spec names these standards (R7); their tables and rounds are PRESUMED from them. -/

namespace Sys2Proof.Machine

/-- The round constants of SHA-256. -/
def sha256K : List W32 :=
  [0x428a2f98, 0x71374491, 0xb5c0fbcf, 0xe9b5dba5, 0x3956c25b, 0x59f111f1,
   0x923f82a4, 0xab1c5ed5, 0xd807aa98, 0x12835b01, 0x243185be, 0x550c7dc3,
   0x72be5d74, 0x80deb1fe, 0x9bdc06a7, 0xc19bf174, 0xe49b69c1, 0xefbe4786,
   0xfc19dc6, 0x240ca1cc] ++
  [0x2de92c6f, 0x4a7484aa, 0x5cb0a9dc, 0x76f988da, 0x983e5152, 0xa831c66d,
   0xb00327c8, 0xbf597fc7, 0xc6e00bf3, 0xd5a79147, 0x6ca6351, 0x14292967,
   0x27b70a85, 0x2e1b2138, 0x4d2c6dfc, 0x53380d13, 0x650a7354, 0x766a0abb,
   0x81c2c92e, 0x92722c85] ++
  [0xa2bfe8a1, 0xa81a664b, 0xc24b8b70, 0xc76c51a3, 0xd192e819, 0xd6990624,
   0xf40e3585, 0x106aa070, 0x19a4c116, 0x1e376c08, 0x2748774c, 0x34b0bcb5,
   0x391c0cb3, 0x4ed8aa4a, 0x5b9cca4f, 0x682e6ff3, 0x748f82ee, 0x78a5636f,
   0x84c87814, 0x8cc70208] ++
  [0x90befffa, 0xa4506ceb, 0xbef9a3f7, 0xc67178f2]

/-- The initial hash value of SHA-256. -/
def sha256Init : List W32 :=
  [0x6a09e667, 0xbb67ae85, 0x3c6ef372, 0xa54ff53a, 0x510e527f, 0x9b05688c,
   0x1f83d9ab, 0x5be0cd19]

/-- The round constants of the SHA-512 family. -/
def sha512K : List W64 :=
  [0x428a2f98d728ae22, 0x7137449123ef65cd, 0xb5c0fbcfec4d3b2f, 0xe9b5dba58189dbbc,
   0x3956c25bf348b538, 0x59f111f1b605d019, 0x923f82a4af194f9b, 0xab1c5ed5da6d8118,
   0xd807aa98a3030242, 0x12835b0145706fbe, 0x243185be4ee4b28c, 0x550c7dc3d5ffb4e2,
   0x72be5d74f27b896f, 0x80deb1fe3b1696b1, 0x9bdc06a725c71235, 0xc19bf174cf692694,
   0xe49b69c19ef14ad2, 0xefbe4786384f25e3, 0xfc19dc68b8cd5b5, 0x240ca1cc77ac9c65] ++
  [0x2de92c6f592b0275, 0x4a7484aa6ea6e483, 0x5cb0a9dcbd41fbd4, 0x76f988da831153b5,
   0x983e5152ee66dfab, 0xa831c66d2db43210, 0xb00327c898fb213f, 0xbf597fc7beef0ee4,
   0xc6e00bf33da88fc2, 0xd5a79147930aa725, 0x6ca6351e003826f, 0x142929670a0e6e70,
   0x27b70a8546d22ffc, 0x2e1b21385c26c926, 0x4d2c6dfc5ac42aed, 0x53380d139d95b3df,
   0x650a73548baf63de, 0x766a0abb3c77b2a8, 0x81c2c92e47edaee6, 0x92722c851482353b] ++
  [0xa2bfe8a14cf10364, 0xa81a664bbc423001, 0xc24b8b70d0f89791, 0xc76c51a30654be30,
   0xd192e819d6ef5218, 0xd69906245565a910, 0xf40e35855771202a, 0x106aa07032bbd1b8,
   0x19a4c116b8d2d0c8, 0x1e376c085141ab53, 0x2748774cdf8eeb99, 0x34b0bcb5e19b48a8,
   0x391c0cb3c5c95a63, 0x4ed8aa4ae3418acb, 0x5b9cca4f7763e373, 0x682e6ff3d6b2b8a3,
   0x748f82ee5defb2fc, 0x78a5636f43172f60, 0x84c87814a1f0ab72, 0x8cc702081a6439ec] ++
  [0x90befffa23631e28, 0xa4506cebde82bde9, 0xbef9a3f7b2c67915, 0xc67178f2e372532b,
   0xca273eceea26619c, 0xd186b8c721c0c207, 0xeada7dd6cde0eb1e, 0xf57d4f7fee6ed178,
   0x6f067aa72176fba, 0xa637dc5a2c898a6, 0x113f9804bef90dae, 0x1b710b35131c471b,
   0x28db77f523047d84, 0x32caab7b40c72493, 0x3c9ebe0a15c9bebc, 0x431d67c49c100d4c,
   0x4cc5d4becb3e42b6, 0x597f299cfc657e2a, 0x5fcb6fab3ad6faec, 0x6c44198c4a475817]

/-- The initial hash value of SHA-384. -/
def sha384Init : List W64 :=
  [0xcbbb9d5dc1059ed8, 0x629a292a367cd507, 0x9159015a3070dd17, 0x152fecd8f70e5939,
   0x67332667ffc00b31, 0x8eb44a8768581511, 0xdb0c2e0d64f98fa7, 0x47b5481dbefa4fa4]

/-- What differs between SHA-256 and SHA-384 (over words of 32 or 64 bits): the block in bytes, the bytes of the length field,
the schedule length, the rotations of the four sigma functions and the shifts of the two small ones, and the digest's bytes. -/
structure ShaParams (w : Nat) where
  block : Nat
  lenBytes : Nat
  big0 : Nat × Nat × Nat
  big1 : Nat × Nat × Nat
  small0 : Nat × Nat × Nat
  small1 : Nat × Nat × Nat
  keys : List (BitVec w)
  init : List (BitVec w)
  digest : Nat

def sha256P : ShaParams 32 :=
  { block := 64, lenBytes := 8, big0 := (2, 13, 22), big1 := (6, 11, 25), small0 := (7, 18, 3), small1 := (17, 19, 10),
    keys := sha256K, init := sha256Init, digest := 32 }

def sha384P : ShaParams 64 :=
  { block := 128, lenBytes := 16, big0 := (28, 34, 39), big1 := (14, 18, 41), small0 := (1, 8, 7), small1 := (19, 61, 6),
    keys := sha512K, init := sha384Init, digest := 48 }

/-- XOR of three rotations. -/
def rot3 {w : Nat} (r : Nat × Nat × Nat) (x : BitVec w) : BitVec w :=
  x.rotateRight r.1 ^^^ x.rotateRight r.2.1 ^^^ x.rotateRight r.2.2

/-- XOR of two rotations and a shift. -/
def rotShift {w : Nat} (r : Nat × Nat × Nat) (x : BitVec w) : BitVec w :=
  x.rotateRight r.1 ^^^ x.rotateRight r.2.1 ^^^ (x >>> r.2.2)

/-- The words of a byte string, each high byte first. -/
def beWords (w n : Nat) : Nat → Bytes → List (BitVec w)
  | 0, _ => []
  | k + 1, bs => BitVec.ofNat w (beNat (bs.take n)) :: beWords w n k (bs.drop n)

/-- Extend a message schedule, held newest first, by `n` words. -/
def shaExtend {w : Nat} (p : ShaParams w) : Nat → List (BitVec w) → List (BitVec w)
  | 0, ws => ws
  | n + 1, ws =>
    let x := rotShift p.small1 (ws.getD 1 0) + ws.getD 6 0 + rotShift p.small0 (ws.getD 14 0) + ws.getD 15 0
    shaExtend p n (x :: ws)

/-- One round over the eight working words. -/
def shaRound {w : Nat} (p : ShaParams w) (v : List (BitVec w)) (kw : BitVec w × BitVec w) : List (BitVec w) :=
  match v with
  | [a, b, c, d, e, f, g, h] =>
    let t1 := h + rot3 p.big1 e + ((e &&& f) ^^^ (~~~e &&& g)) + kw.1 + kw.2
    let t2 := rot3 p.big0 a + ((a &&& b) ^^^ (a &&& c) ^^^ (b &&& c))
    [t1 + t2, a, b, c, d + t1, e, f, g]
  | _ => v

/-- One block absorbed into the hash value. -/
def shaBlock {w : Nat} (p : ShaParams w) (hv : List (BitVec w)) (blk : Bytes) : List (BitVec w) :=
  let ws := (shaExtend p (p.keys.length - 16) (beWords w (w / 8) 16 blk).reverse).reverse
  List.zipWith (· + ·) hv ((p.keys.zip ws).foldl (shaRound p) hv)

/-- The padded message: 0x80, zeros, and the length in bits. -/
def shaPad {w : Nat} (p : ShaParams w) (m : Bytes) : Bytes :=
  let z := (p.block - (m.length + 1 + p.lenBytes) % p.block) % p.block
  m ++ [0x80#8] ++ zeroBytes z ++ beBytes p.lenBytes (8 * m.length)

/-- Absorb a message block by block. -/
def shaBlocks {w : Nat} (p : ShaParams w) : Nat → List (BitVec w) → Bytes → List (BitVec w)
  | 0, hv, _ => hv
  | n + 1, hv, m => shaBlocks p n (shaBlock p hv (m.take p.block)) (m.drop p.block)

/-- A digest. -/
def sha {w : Nat} (p : ShaParams w) (m : Bytes) : Bytes :=
  let pm := shaPad p m
  ((shaBlocks p (pm.length / p.block) p.init pm).flatMap (fun x => beBytes (w / 8) x.toNat)).take p.digest

/-- SHA-256 of a message. -/
def sha256 (m : Bytes) : Bytes := sha sha256P m

/-- SHA-384 of a message. -/
def sha384 (m : Bytes) : Bytes := sha sha384P m

/-- HMAC over a digest with blocks of `block` bytes. -/
def hmac (hash : Bytes → Bytes) (block : Nat) (key m : Bytes) : Bytes :=
  let k0 := if key.length > block then hash key else key
  let k := k0 ++ zeroBytes (block - k0.length)
  hash (k.map (· ^^^ 0x5C#8) ++ hash (k.map (· ^^^ 0x36#8) ++ m))

/-- HMAC-SHA-256 and HMAC-SHA-384. -/
def hmac256 (key m : Bytes) : Bytes := hmac sha256 64 key m
def hmac384 (key m : Bytes) : Bytes := hmac sha384 128 key m

/-- The 64 key bytes of a derived slot (R320): two blocks of the KDF over counter, label, a zero byte, context and length. -/
def kdf512 (root label context : Bytes) : Bytes :=
  let blk (i : Nat) := hmac256 root (beBytes 4 i ++ label ++ [0#8] ++ context ++ beBytes 4 512)
  blk 1 ++ blk 2

/-- One bit of the reflected CRC-32C register (polynomial 0x1EDC6F41). -/
def crcBit (c : W32) : W32 := if c.getLsbD 0 then (c >>> 1) ^^^ 0x82F63B78#32 else c >>> 1

/-- One byte taken into the CRC register. -/
def crcByte (c : W32) (b : Byte) : W32 :=
  crcBit (crcBit (crcBit (crcBit (crcBit (crcBit (crcBit (crcBit (c ^^^ b.setWidth 32))))))))

/-- CRC-32C of a byte string (R211). -/
def crc32c (m : Bytes) : Nat := (~~~ (m.foldl crcByte 0xFFFFFFFF#32)).toNat

end Sys2Proof.Machine
end

