-- ==== Sys2Proof/Machine/Ecdsa.lean ====
section
/-! DEFINITION. ECDSA verification on P-384 (R7, R155, R500), as FIPS 186-5 and SP 800-186 define it: the curve y^2 = x^3 - 3x + b over GF(p). -/

namespace Sys2Proof.Machine

/-- The field, the order of the base point, the coefficient b and the base point. -/
def p384 : Nat := 2 ^ 384 - 2 ^ 128 - 2 ^ 96 + 2 ^ 32 - 1
def p384n : Nat := 0xFFFFFFFFFFFFFFFFFFFFFFFFFFFFFFFFFFFFFFFFFFFFFFFFC7634D81F4372DDF581A0DB248B0A77AECEC196ACCC52973
def p384b : Nat := 0xB3312FA7E23EE7E4988E056BE3F82D19181D9C6EFE8141120314088F5013875AC656398D8A2ED19D2A85C8EDD3EC2AEF
def p384g : Nat × Nat × Nat :=
  (0xAA87CA22BE8B05378EB1C71EF320AD746E1D3B628BA79B9859F741E082542A385502F25DBF55296C3A545E3872760AB7,
   0x3617DE4A96262C6F5D9E98BF9292DC29F8F41DBD289A147CE9DA3113B5F0B8C00A60B1CE1D7E819D7A431D7C90EA0E5F, 1)

/-- The difference of two field elements. -/
def subP (a b : Nat) : Nat := (a + (p384 - b)) % p384

/-- Twice a point in Jacobian coordinates; Z = 0 is the point at infinity. -/
def dblP (q : Nat × Nat × Nat) : Nat × Nat × Nat :=
  let d := q.2.2 * q.2.2 % p384
  let g := q.2.1 * q.2.1 % p384
  let b := q.1 * g % p384
  let a := 3 * (subP q.1 d * ((q.1 + d) % p384) % p384) % p384
  let x := subP (a * a % p384) (8 * b % p384)
  (x, subP (a * subP (4 * b % p384) x % p384) (8 * (g * g % p384) % p384), 2 * (q.2.1 * q.2.2 % p384) % p384)

/-- The sum of two points. -/
def addP (u v : Nat × Nat × Nat) : Nat × Nat × Nat :=
  if u.2.2 == 0 then v
  else if v.2.2 == 0 then u
  else
    let zu := u.2.2 * u.2.2 % p384
    let zv := v.2.2 * v.2.2 % p384
    let xu := u.1 * zv % p384
    let xv := v.1 * zu % p384
    let yu := u.2.1 * (v.2.2 * zv % p384) % p384
    let yv := v.2.1 * (u.2.2 * zu % p384) % p384
    if xu == xv then (if yu == yv then dblP u else (1, 1, 0))
    else
      let h := subP xv xu
      let r := subP yv yu
      let hh := h * h % p384
      let hhh := h * hh % p384
      let w := xu * hh % p384
      let x := subP (subP (r * r % p384) hhh) (2 * w % p384)
      (x, subP (r * subP w x % p384) (yu * hhh % p384), h * (u.2.2 * v.2.2 % p384) % p384)

/-- `k` times a point, by the low `n` bits of `k`. -/
def mulP : Nat → Nat → Nat × Nat × Nat → Nat × Nat × Nat
  | 0, _, _ => (1, 1, 0)
  | n + 1, k, q =>
    let r := mulP n (k / 2) (dblP q)
    if k % 2 == 1 then addP r q else r

/-- `a` to the power `e` modulo `m`, by the low `n` bits of `e`. -/
def powMod (m : Nat) : Nat → Nat → Nat → Nat
  | 0, _, _ => 1 % m
  | n + 1, a, e =>
    let r := powMod m n (a * a % m) (e / 2)
    if e % 2 == 1 then r * a % m else r

/-- The signature `sig` (r, then s) of a digest under the public key `pub` (x, then y) is good. -/
def ecdsaP384 (pub digest sig : Bytes) : Bool :=
  let x := beNat (pub.take 48)
  let y := beNat ((pub.drop 48).take 48)
  let r := beNat (sig.take 48)
  let s := beNat ((sig.drop 48).take 48)
  let onCurve := x < p384 && y < p384 && y * y % p384 == (x * x % p384 * x + 3 * (p384 - x) + p384b) % p384
  if !(onCurve && 0 < r && r < p384n && 0 < s && s < p384n) then false
  else
    let w := powMod p384n 384 s (p384n - 2)
    let q := addP (mulP 384 (beNat (digest.take 48) * w % p384n) p384g) (mulP 384 (r * w % p384n) (x, y, 1))
    let i := powMod p384 384 q.2.2 (p384 - 2)
    q.2.2 != 0 && q.1 * (i * i % p384) % p384 % p384n == r

end Sys2Proof.Machine
end

