-- ==== Sys2Proof/Machine/Cinder.lean ====
section
/-! DEFINITION. The Cinder block format (ch. 07): header, model, mixer, arithmetic coder, encoder and decoder. -/

namespace Sys2Proof.Machine

/-- The T table of R217. -/
def czT : Array Int := #[1, 2, 3, 6, 10, 16, 27, 45, 73, 120, 194, 310, 488, 747, 1101, 1546, 2047, 2549, 2994, 3348, 3607, 3785, 3901, 3975,
  4022, 4050, 4068, 4079, 4085, 4089, 4092, 4093, 4094]

/-- A number held between two others. -/
def clampI (x lo hi : Int) : Int := max lo (min x hi)

/-- squash (R217), for `d` from -2,047 to 2,047. -/
def czSquash (d : Int) : Int :=
  let w := d % 128
  let i := (d / 128 + 16).toNat
  (czT.getD i 0 * (128 - w) + czT.getD (i + 1) 0 * w + 64) / 128

/-- The stretch table under construction: each step lists `d` up to the value squash gives it. -/
def czStretchFill : Nat → Int → Array Int → Array Int
  | 0, _, t => t
  | n + 1, d, t =>
    let v := (czSquash d).toNat
    czStretchFill n (d + 1) (t ++ Array.replicate (v + 1 - t.size) d)

/-- The stretch table ST (R217). -/
def czStretch : Array Int :=
  let t := czStretchFill 4095 (-2047) #[]
  t ++ Array.replicate (4096 - t.size) 2047

/-- h2 (R215). -/
def czHash (a c : Nat) : Nat :=
  Nat.xor (a * 0x9E3779B1 % 2 ^ 32) (c * 0x85EBCA6B % 2 ^ 32) / 2 ^ 20

/-- The model state of a lane (R214): the four tables one after the other, the sixteen weight sets of five, and the byte history. -/
structure CzModel where
  p : Array Nat := Array.replicate 16384 0x8000
  w : Array Int := (List.range 80).toArray.map (fun i => if i % 5 == 4 then 0 else 16384)
  c0 : Nat := 1
  c4 : Nat := 0
  buf : Array Nat := #[]
  last : Array Nat := Array.replicate 256 0xFFFF
  cand : Nat := 0
  cnt : Nat := 0
  stride : Nat := 0
  cb : Nat := 0

/-- What predict leaves for update: the table indices, the stretched inputs, the weight set and the probability. -/
structure CzPred where
  idx : List Nat
  st : List Int
  ws : Nat
  p : Nat

/-- predict (R215, R217). -/
def CzModel.predict (m : CzModel) : CzPred :=
  let ctx := [m.c4 % 2 ^ 8, m.c4 % 2 ^ 16, m.c4 % 2 ^ 24, (if m.stride != 0 then 256 else 0) + m.cb]
  let idx := (List.range 4).map (fun i => 4096 * i + czHash (ctx.getD i 0) m.c0)
  let st := idx.map (fun i => czStretch.getD (m.p.getD i 0 / 16) 0) ++ [256]
  let ws := Nat.log2 m.c0 + (if m.stride != 0 then 8 else 0)
  let dot := (List.range 5).foldl (fun d i => d + m.w.getD (5 * ws + i) 0 * st.getD i 0) 0
  let d := clampI (dot / 65536) (-2047) 2047
  { idx, st, ws, p := (clampI (czSquash d) 1 4095).toNat }

/-- end_of_byte (R216). -/
def CzModel.endOfByte (m : CzModel) (v : Nat) : CzModel :=
  let pos := m.buf.size
  let l := m.last.getD v 0xFFFF
  let d := pos - l
  let hit := l != 0xFFFF
  let same := hit && d == m.cand
  let cand := if hit && !same && m.cnt == 0 then d else m.cand
  let cnt := if same then min 15 (m.cnt + 1) else if hit then m.cnt - 1 else m.cnt
  let stride := if cnt ≥ 4 && cand ≥ 2 then cand else m.stride
  let buf := m.buf.push v
  { m with
    buf, last := m.last.set! v pos, cand, cnt, stride, c4 := (m.c4 * 256 + v) % 2 ^ 32, c0 := 1
    cb := if stride != 0 && pos + 1 ≥ stride then buf.getD (pos + 1 - stride) 0 else 0 }

/-- update (R218). -/
def CzModel.update (m : CzModel) (q : CzPred) (y : Bool) : CzModel :=
  let yv : Int := if y then 1 else 0
  let p := q.idx.foldl (fun p i =>
    let v : Int := p.getD i 0
    p.set! i (v + (yv * 65536 - v) / 16).toNat) m.p
  let e := yv * 4096 - q.p
  let w := (List.range 5).foldl (fun w i =>
    let j := 5 * q.ws + i
    w.set! j (clampI (w.getD j 0 + q.st.getD i 0 * e / 1024) (-524288) 524287)) m.w
  let c0 := m.c0 * 2 + b2n y
  let m := { m with p, w, c0 }
  if c0 ≥ 256 then m.endOfByte (c0 % 256) else m

/-! ### Coder (R219) -/

/-- The coder's bounds and its output, latest byte first. -/
structure CzEnc where
  x1 : Nat := 0
  x2 : Nat := 0xFFFFFFFF
  out : List Byte := []

/-- xmid. -/
def czMid (x1 x2 p : Nat) : Nat := x1 + (x2 - x1) * p / 4096

/-- Emit bytes while the top bytes of the bounds agree. At most four can. -/
def CzEnc.shift : Nat → CzEnc → CzEnc
  | 0, c => c
  | n + 1, c =>
    if c.x1 / 2 ^ 24 == c.x2 / 2 ^ 24 then
      CzEnc.shift n { x1 := c.x1 * 256 % 2 ^ 32, x2 := c.x2 * 256 % 2 ^ 32 + 255, out := BitVec.ofNat 8 (c.x2 / 2 ^ 24) :: c.out }
    else c

/-- code(y, p). -/
def CzEnc.code (c : CzEnc) (y : Bool) (p : Nat) : CzEnc :=
  let mid := czMid c.x1 c.x2 p
  CzEnc.shift 4 (if y then { c with x2 := mid } else { c with x1 := mid + 1 })

/-- The eight decisions of a byte, most significant first: bits `n - 1` to 0. -/
def czByte (v : Nat) : Nat → CzModel → CzEnc → CzModel × CzEnc
  | 0, m, c => (m, c)
  | n + 1, m, c =>
    let y := bit v n
    let q := m.predict
    czByte v n (m.update q y) (c.code y q.p)

/-- Code the bytes from position `k` on (R213). -/
def czBytes : Bytes → Nat → CzModel → CzEnc → CzEnc
  | [], _, _, c => c
  | b :: bs, k, m, c =>
    let r := czByte b.toNat 8 m c
    let c := if (k + 1) % 4096 == 0 then r.2.code (!bs.isEmpty) 2048 else r.2
    czBytes bs (k + 1) r.1 c

/-- The payload of the coded form of a block. -/
def czPayload (data : Bytes) : Bytes :=
  let c := czBytes data 0 {} {}
  c.out.reverse ++ beBytes 4 c.x1

/-! ### Blocks (R209-R212) -/

/-- A block's header. -/
def czHeader (raw recoded : Bool) (data : Bytes) (payloadLen : Nat) : Bytes :=
  let h := leBytes 2 0xC15D ++ [1, BitVec.ofNat 8 (b2n raw + 2 * b2n recoded)] ++ leBytes 4 data.length ++ leBytes 4 payloadLen ++
    leBytes 4 (crc32c data) ++ zeroBytes 12
  h ++ leBytes 4 (crc32c h)

/-- A raw block. -/
def czRaw (recoded : Bool) (data : Bytes) : Bytes := czHeader true recoded data data.length ++ data

/-- The block a lane releases, and whether it is raw (R212). -/
def czBlock (data : Bytes) : Bytes × Bool :=
  let p := czPayload data
  if p.length + 96 > data.length then (czRaw false data, true) else (czHeader false false data p.length ++ p, false)

/-- A header is valid (R210). -/
def czHeaderOk (h : Bytes) : Bool :=
  let flags := leAt h 3 1
  let orig := leAt h 4 4
  let plen := leAt h 8 4
  h.length == 32 && leAt h 0 2 == 0xC15D && leAt h 2 1 == 1 && leAt h 16 1 == 0 && flags < 4 && leAt h 17 11 == 0 &&
  leAt h 28 4 == crc32c (h.take 28) && orig % 4096 == 0 && 4096 ≤ orig && orig ≤ 32768 &&
  (if bit flags 0 then plen == orig else 4 ≤ plen && plen + 96 ≤ orig && !bit flags 1)

/-! ### Decoder (R220, R226) -/

/-- The decoder: bounds, the window `x`, the payload not yet taken, and whether a byte beyond it was needed. -/
structure CzDec where
  x1 : Nat := 0
  x2 : Nat := 0xFFFFFFFF
  x : Nat
  rest : Bytes
  spent : Bool := false

/-- Take bytes while the top bytes of the bounds agree. -/
def CzDec.shift : Nat → CzDec → CzDec
  | 0, c => c
  | n + 1, c =>
    if c.x1 / 2 ^ 24 == c.x2 / 2 ^ 24 then
      let b := (c.rest.headD 0#8).toNat
      CzDec.shift n { x1 := c.x1 * 256 % 2 ^ 32, x2 := c.x2 * 256 % 2 ^ 32 + 255, x := c.x * 256 % 2 ^ 32 + b, rest := c.rest.tail,
                      spent := c.spent || c.rest.isEmpty }
    else c

/-- decode(p). -/
def CzDec.decode (c : CzDec) (p : Nat) : Bool × CzDec :=
  let mid := czMid c.x1 c.x2 p
  let y := decide (c.x ≤ mid)
  (y, CzDec.shift 4 (if y then { c with x2 := mid } else { c with x1 := mid + 1 }))

/-- The decisions of one byte. -/
def czUnbyte : Nat → CzModel → CzDec → CzModel × CzDec
  | 0, m, c => (m, c)
  | n + 1, m, c =>
    let q := m.predict
    let r := c.decode q.p
    czUnbyte n (m.update q r.1) r.2

/-- How a CZ.DEC ends: its CODE (R183), the bytes written, the header's RAW flag. -/
structure CzResult where
  code : Nat
  out : Bytes
  raw : Bool

/-- Decode at most `n` more bytes; `k` are decoded (R226, rows 5 to 8). -/
def czUnbytes (orig : Nat) : Nat → Nat → CzModel → CzDec → Nat × CzModel
  | 0, _, m, _ => (7, m)
  | n + 1, k, m, c =>
    let r := czUnbyte 8 m c
    if r.2.spent then (5, m)
    else if (k + 1) % 4096 == 0 then
      let d := r.2.decode 2048
      if d.2.spent then (5, r.1)
      else if d.1 then (if k + 1 == orig then (5, r.1) else czUnbytes orig n (k + 1) r.1 d.2)
      else if k + 1 < orig then (7, r.1)
      else if d.2.rest.isEmpty then (0, r.1)
      else (7, r.1)
    else czUnbytes orig n (k + 1) r.1 r.2

/-- CZ.DEC of a source into a destination of `dstLen` bytes (R226). -/
def czDecode (src : Bytes) (dstLen : Nat) : CzResult :=
  let h := src.take 32
  let raw := bit (leAt h 3 1) 0
  let orig := leAt h 4 4
  let plen := leAt h 8 4
  if src.length < 32 || !czHeaderOk h then { code := 7, out := [], raw := false }
  else if 32 + plen > src.length then { code := 7, out := [], raw }
  else if dstLen < orig then { code := 1, out := [], raw }
  else
    let p := (src.drop 32).take plen
    let r : Nat × Bytes :=
      if raw then (0, p)
      else
        let d := czUnbytes orig orig 0 {} { x := beNat (p.take 4), rest := p.drop 4 }
        (d.1, d.2.buf.toList.map (BitVec.ofNat 8))
    if r.1 == 0 && crc32c r.2 != leAt h 12 4 then { code := 6, out := r.2, raw } else { code := r.1, out := r.2, raw }

end Sys2Proof.Machine
end

