-- ==== Sys2Proof/Config.lean ====
section
/-! DEFINITION. What the spec leaves open. Every constant here is opaque: nothing can be proved of its value, so a statement about
the model holds whatever it is. -/

namespace Sys2Proof.Config

/-- The free values, by the number of the draw (State.freeCtr): a result the spec leaves undefined or does not state, or a random
number. -/
opaque free : Nat → W64

/-- What a byte of GLB_RSRAM that firmware has not written reads as (R484), by power cycle and offset. -/
opaque rsram : Nat → Nat → Byte

/-- The device root fuses (R318): unique to each part and readable by no one. -/
opaque deviceRoot : Bytes

/-- The root public key hash in the fuses (R500). -/
opaque rootKeyHash : Bytes

/-- The key slot of each domain (R203): the spec names none. -/
opaque domainSlot : Nat → Nat

end Sys2Proof.Config
end

