-- ==== Sys2Proof/Machine/RegMap.lean ====
section
/-! DEFINITION. The register map: one row per register of the spec with its address, index strides, width and fields
(bit place, width, access code of R14, reset value). Rows are in the order of the spec's chapters. -/

namespace Sys2Proof.Machine

namespace R

def GLB_ID : Nat := 0x0
def GRT_POOL_CFG : Nat := 0x700000
def GRT_FREE : Nat := 0x700004
def GRT_STALL : Nat := 0x700008
def GRT_STALL_TO : Nat := 0x70000c
def GRT_SPILL_LO : Nat := 0x700010
def GRT_CH_RSV : Nat := 0x700100
def GRT_CH_CAP : Nat := 0x700140
def GRT_CH_USE : Nat := 0x700180
def GRT_BP_CNT : Nat := 0x7001c0
def HST_LINK_STS : Nat := 0x4040000
def HST_CTL : Nat := 0x4040004
def HST_ERR : Nat := 0x4040008
def HST_BI_TO : Nat := 0x404000c
def HST_BI_OCC : Nat := 0x4040010
def GRT_WIN_CFG : Nat := 0x710000
def GRT_WIN_STS : Nat := 0x710004
def GRT_WIN_ERR : Nat := 0x710008
def GRT_SLOT_TO : Nat := 0x71000c
def GRT_PROTO_CNT : Nat := 0x710010
def GRT_IRQ_EN : Nat := 0x710014
def GRT_WIN_SLOTS : Nat := 0x710018
def GRT_OFF_CRING : Nat := 0x710020
def GRT_OFF_CPL : Nat := 0x710028
def GRT_OFF_FLAG : Nat := 0x710030
def GRT_OFF_DATA : Nat := 0x710038
def GRT_CMD_DB : Nat := 0x710100
def GRT_CPL_DB : Nat := 0x710104
def GRT_DONE_DB : Nat := 0x710400
def GRT_SLOT_SEL : Nat := 0x710408
def GRT_SLOT_OWN : Nat := 0x710410
def BEL_CTL : Nat := 0x600000
def BEL_STS : Nat := 0x600004
def BEL_DIRTY_BOUND : Nat := 0x600008
def BEL_ERR : Nat := 0x60000c
def BEL_DIRTY : Nat := 0x600010
def BEL_SEQ_NEXT : Nat := 0x600018
def BEL_STALL_CNT : Nat := 0x600020
def BEL_VOL_SEL : Nat := 0x600024
def BEL_VOL_CFG : Nat := 0x600028
def BEL_VOL_SIZE : Nat := 0x600030
def STV_CTL : Nat := 0x1000000
def STV_STS : Nat := 0x1000004
def STV_FAULT : Nat := 0x1000008
def STV_WI_TO : Nat := 0x100000c
def STV_STRAND_STS : Nat := 0x1000020
def STV_STRAND_FLT : Nat := 0x1000040
def STV_LOAD_ADDR : Nat := 0x1000100
def STV_LOAD_CTL : Nat := 0x1000108
def STV_LOAD_STS : Nat := 0x100010c
def STV_PSLOT : Nat := 0x1000200
def STV_PKH : Nat := 0x1000440
def STV_POL_SEL : Nat := 0x1000500
def STV_POL : Nat := 0x1000504
def STV_WI_POST : Nat := 0x1000800
def STV_DMA_BASE : Nat := 0x10a0000
def STV_DMA_LIMIT : Nat := 0x10a0008
def CZ_CTL : Nat := 0x1020000
def CZ_STS : Nat := 0x1020004
def CZ_ERR : Nat := 0x1020008
def CZ_IRQ_EN : Nat := 0x102000c
def CZ_BLK_CNT : Nat := 0x1020010
def CZ_RAW_CNT : Nat := 0x1020018
def CZ_IN_BYTES : Nat := 0x1020020
def CZ_OUT_BYTES : Nat := 0x1020028
def CZ_DEC_CNT : Nat := 0x1020030
def CZ_RECODE_CNT : Nat := 0x1020038
def CZ_DEC_OVER_CNT : Nat := 0x102003c
def CZ_DEC_CRC_CNT : Nat := 0x1020040
def CZ_DEC_HDR_CNT : Nat := 0x1020044
def DDX_CTL : Nat := 0x900000
def DDX_STS : Nat := 0x900004
def DDX_ERR : Nat := 0x900008
def DDX_BUDGET : Nat := 0x90000c
def DDX_SAMPLE : Nat := 0x900010
def DDX_GEN : Nat := 0x900014
def DDX_RECLAIM : Nat := 0x900018
def DDX_DIR : Nat := 0x90001c
def DDX_ENTRIES : Nat := 0x900020
def DDX_UNIQUE : Nat := 0x900030
def DDX_LOOKUPS : Nat := 0x900040
def DDX_HITS : Nat := 0x900048
def DDX_FMISS : Nat := 0x900050
def DDX_FPOS : Nat := 0x900058
def DDX_PINNED_CNT : Nat := 0x900060
def DDX_VERIFY_CNT : Nat := 0x900064
def DDX_PATH_FAIL_CNT : Nat := 0x900068
def ICH_CTL : Nat := 0x800000
def ICH_STS : Nat := 0x800004
def ICH_ERR : Nat := 0x800008
def ICH_IRQ_EN : Nat := 0x80000c
def ICH_WB_CFG : Nat := 0x800010
def ICH_ECC_LIMIT : Nat := 0x800014
def ICH_LOCKED : Nat := 0x800018
def ICH_ECC_CNT : Nat := 0x80001c
def ICH_RGN_BASE : Nat := 0x800040
def ICH_RGN_LIMIT : Nat := 0x800048
def ICH_MNT_ADDR : Nat := 0x800100
def ICH_MNT_END : Nat := 0x800108
def ICH_MNT_CTL : Nat := 0x800110
def ICH_MNT_STS : Nat := 0x800114
def ICH_MNT_SKIP : Nat := 0x800118
def ICH_MNT_DONE : Nat := 0x80011c
def ICH_HITS : Nat := 0x800200
def ICH_MISSES : Nat := 0x800208
def ICH_SB_HITS : Nat := 0x800210
def ICH_PF_ISSUED : Nat := 0x800218
def ICH_PF_UNUSED : Nat := 0x800220
def ICH_WB_MERGES : Nat := 0x800228
def DG_CTL : Nat := 0x1040000
def DG_STS : Nat := 0x1040004
def DG_ERR : Nat := 0x1040008
def DG_TRUNC_CNT : Nat := 0x104000c
def DG_BYTES : Nat := 0x1040010
def DG_CTX : Nat := 0x1040100
def DG_VERD : Nat := 0x1040180
def DG_DECL : Nat := 0x1040200
def DG_ABSD : Nat := 0x1040208
def DG_RES : Nat := 0x1040400
def CI_CTL : Nat := 0x1060000
def CI_LOCK : Nat := 0x1060004
def CI_ERR : Nat := 0x1060008
def CI_SUSP_CNT : Nat := 0x106000c
def CI_TAG_FAIL_CNT : Nat := 0x1060010
def CI_DENY_CNT : Nat := 0x1060014
def CI_BYTES : Nat := 0x1060018
def KEY_STS : Nat := 0x3100000
def KEY_ERR : Nat := 0x3100004
def KEY_SLOT_SEL : Nat := 0x3100008
def KEY_SLOT_ATTR : Nat := 0x310000c
def KEY_SLOT_CMD : Nat := 0x3100010
def KEY_SLOT_KCV : Nat := 0x3100014
def KEY_DATA : Nat := 0x3100040
def KEY_WRAP : Nat := 0x3100080
def KEY_DGEN : Nat := 0x3100100
def DRV_CTL : Nat := 0xd00000
def DRV_STS : Nat := 0xd00004
def DRV_ERR : Nat := 0xd00008
def DRV_GEOM : Nat := 0xd0000c
def DRV_CMD_TO : Nat := 0xd00010
def DRV_RBLD_CFG : Nat := 0xd00014
def DRV_BIF : Nat := 0xd00018
def DRV_RECLAIM_DLY : Nat := 0xd0001c
def DRV_READ_BYTES : Nat := 0xd00020
def DRV_WRITE_BYTES : Nat := 0xd00028
def DRV_MEDIA_CNT : Nat := 0xd00030
def DRV_TO_CNT : Nat := 0xd00034
def DRV_RBLD_LEFT : Nat := 0xd00038
def DRV_STRIPE_BASE : Nat := 0xd00040
def DRV_STRIPE_CNT : Nat := 0xd00048
def DRV_PORT_STS : Nat := 0xd00100
def DRV_DRV_SEL : Nat := 0xd00200
def DRV_DRV_CFG : Nat := 0xd00208
def DRV_DRV_STS : Nat := 0xd00210
def DRV_DRV_CTL : Nat := 0xd00214
def JNL_CTL : Nat := 0xc00000
def JNL_STS : Nat := 0xc00004
def JNL_ERR : Nat := 0xc00008
def JNL_IRQ_EN : Nat := 0xc0000c
def JNL_PTR : Nat := 0xc00010
def JNL_RECS : Nat := 0xc00018
def JNL_RETIRED : Nat := 0xc00020
def JNL_RCV : Nat := 0xc00028
def JNL_RELOC_CNT : Nat := 0xc00030
def JNL_ECC_CNT : Nat := 0xc00034
def JNL_OPT_CMD : Nat := 0xc00100
def JNL_OPT_STS : Nat := 0xc00104
def JNL_OPT_DATA : Nat := 0xc00200
def JNL_OPT_CUR : Nat := 0xc00300
def CRL_CTL : Nat := 0xa00000
def CRL_STS : Nat := 0xa00004
def CRL_ERR : Nat := 0xa00008
def CRL_IRQ_EN : Nat := 0xa0000c
def CRL_TIMERS : Nat := 0xa00010
def CRL_MIR_CFG : Nat := 0xa00014
def CRL_FENCE : Nat := 0xa00018
def CRL_SEQ : Nat := 0xa00020
def CRL_FEC_CORR : Nat := 0xa00028
def CRL_FEC_UNC : Nat := 0xa00030
def CRL_REPLAY_CNT : Nat := 0xa00034
def CRL_MIR_CMP_CNT : Nat := 0xa00038
def CRL_MSG_FAULT_CNT : Nat := 0xa0003c
def CRL_TX_BYTES : Nat := 0xa00040
def CRL_RX_BYTES : Nat := 0xa00048
def TICK_CTL : Nat := 0x500000
def TICK_STS : Nat := 0x500004
def TICK_ERR : Nat := 0x500008
def TICK_IRQ_EN : Nat := 0x50000c
def TICK_AT : Nat := 0x500010
def TICK_FLOOR : Nat := 0x500018
def TICK_PHASE : Nat := 0x500020
def TICK_SKEW : Nat := 0x500024
def TICK_LIMITS : Nat := 0x500028
def TICK_LINK_DLY : Nat := 0x50002c
def TICK_PTM_OFS : Nat := 0x500030
def TICK_PTM_INT : Nat := 0x500038
def TICK_SKEW_CNT : Nat := 0x50003c
def TICK_CLOG_CTL : Nat := 0x500040
def TICK_SNAP_VMAP : Nat := 0x500048
def TICK_SNAP_RING : Nat := 0x500050
def TICK_CS_T : Nat := 0x500100
def TICK_CS_PER : Nat := 0x500108
def TICK_CLOG_T : Nat := 0x500200
def TICK_CLOG_END : Nat := 0x500208
def TICK_RS_SEL : Nat := 0x500600
def TICK_RS_CFG : Nat := 0x500604
def TICK_RS_CUTS : Nat := 0x500608
def TICK_RS_IDX : Nat := 0x50060c
def TICK_RS_STS : Nat := 0x500610
def TICK_RS_ARMNO : Nat := 0x500618
def AND_CTL : Nat := 0xb00000
def AND_STS : Nat := 0xb00004
def AND_ERR : Nat := 0xb00008
def AND_IRQ_EN : Nat := 0xb0000c
def AND_MAP : Nat := 0xb00010
def AND_ROT_ACK : Nat := 0xb00014
def AND_RESTART_VEC : Nat := 0xb00018
def AND_PAIR_STS : Nat := 0xb00020
def AND_FB_CTL : Nat := 0xb00050
def AND_FB_CFG : Nat := 0xb00054
def AND_FB_TB : Nat := 0xb00058
def AND_PSEQ_MAX : Nat := 0xb00060
def AND_TK_TIME : Nat := 0xb00068
def AND_EPOCH : Nat := 0xb0006c
def AND_ST_CNT : Nat := 0xb00070
def GLB_MODE : Nat := 0x4
def GLB_MODE_REQ : Nat := 0x8
def GLB_CTL : Nat := 0xc
def GLB_FAULT : Nat := 0x10
def GLB_TRANS_CNT : Nat := 0x18
def GLB_BKP : Nat := 0x100
def KDL_STS : Nat := 0x100000
def KDL_RST_SRC : Nat := 0x100004
def KDL_ERR : Nat := 0x100008
def KDL_RST_CMD : Nat := 0x10000c
def KDL_REL_STS : Nat := 0x100010
def KDL_CLK_GOOD : Nat := 0x100014
def KDL_CLK_PEND : Nat := 0x100018
def KDL_REL_FORCE : Nat := 0x10001c
def KDL_BOOT_RES : Nat := 0x100020
def KDL_FW_VER : Nat := 0x100024
def KDL_FW_SVN : Nat := 0x100028
def KDL_MIN_SVN : Nat := 0x10002c
def KDL_LAST_AT : Nat := 0x100030
def KDL_DURATION : Nat := 0x100038
def DMP_CTL : Nat := 0x200000
def DMP_STS : Nat := 0x200004
def DMP_ERR : Nat := 0x200008
def DMP_IRQ_EN : Nat := 0x20000c
def DMP_HOLDUP : Nat := 0x200010
def DMP_QCFG : Nat := 0x200014
def DMP_QTEST : Nat := 0x200018
def DMP_QLAST : Nat := 0x200020
def DMP_DIP_LAST : Nat := 0x200028
def DMP_DIP_CNT : Nat := 0x20002c
def DMP_Q_CNT : Nat := 0x200030
def DMP_THERM : Nat := 0x200034
def DMP_RAIL_LVL : Nat := 0x200100
def DMP_RAIL_MON : Nat := 0x200104
def HRT_STS : Nat := 0x3000000
def HRT_ERR : Nat := 0x3000004
def HRT_WDT_CTL : Nat := 0x3000008
def HRT_WDT_TO : Nat := 0x300000c
def HRT_WDT_STS : Nat := 0x3000010
def HRT_WDT_RESTART : Nat := 0x3000014
def HRT_PARK : Nat := 0x3000018
def HRT_ECC_CNT : Nat := 0x300001c
def HRT_WDT_KICK : Nat := 0x3000020
def HRT_MSIP : Nat := 0x3000040
def HRT_MTIME : Nat := 0x3000080
def HRT_MTIMECMP : Nat := 0x3000100
def MBX_ERR : Nat := 0x400000
def MBX_DENY_CNT : Nat := 0x400004
def MBX_COLLIDE_CNT : Nat := 0x400008
def MBX_TX_RES : Nat := 0x400010
def MBX_SEV_EMPTY : Nat := 0x400014
def MBX_SEV_LOST : Nat := 0x400018
def MBX_SEV_TO : Nat := 0x40001c
def MBX_TXBUF : Nat := 0x400040
def MBX_CFG : Nat := 0x401000
def MBX_STS : Nat := 0x401004
def MBX_ACK : Nat := 0x401008
def MBX_SEND : Nat := 0x40100c
def MBX_HDR : Nat := 0x401010
def MBX_RX : Nat := 0x401040
def SOOT_CTL : Nat := 0x300000
def SOOT_STS : Nat := 0x300004
def SOOT_LOST : Nat := 0x300008
def SOOT_FRZ_TO : Nat := 0x30000c
def SOOT_STAMP : Nat := 0x300010
def SOOT_OPHRS : Nat := 0x300018
def SOOT_RD_IDX : Nat := 0x300020
def SOOT_RD_DATA : Nat := 0x300040
def SOOT_CLR_CTL : Nat := 0x300100
def SOOT_CLR_CFG : Nat := 0x300104
def SOOT_CLR_NONCE : Nat := 0x300110
def SOOT_CLR_RESP : Nat := 0x300120
def SOOT_DENY_CNT : Nat := 0x300140

end R

def regMap00 : List RegDesc :=
  [
   ⟨R.GLB_ID, [], 32,
     [⟨16, 16, .ro⟩, ⟨12, 4, .ro⟩, ⟨8, 4, .ro⟩, ⟨4, 4, .ro⟩, ⟨0, 1, .ro⟩]⟩]

def regMap01 : List RegDesc :=
  [
   ⟨R.GRT_POOL_CFG, [], 32,
     [⟨1, 1, .w1c⟩, ⟨0, 1, .w1s⟩]⟩,
   ⟨R.GRT_FREE, [], 32,
     [⟨0, 14, .ro⟩]⟩,
   ⟨R.GRT_STALL, [], 32,
     [⟨0, 8, .w1c⟩]⟩,
   ⟨R.GRT_STALL_TO, [], 32,
     [⟨0, 16, .rw⟩]⟩,
   ⟨R.GRT_SPILL_LO, [], 32,
     [⟨0, 14, .rw⟩]⟩,
   ⟨R.GRT_CH_RSV, [(0x4, 8)], 32,
     [⟨0, 14, .lk⟩]⟩,
   ⟨R.GRT_CH_CAP, [(0x4, 8)], 32,
     [⟨0, 14, .lk⟩]⟩,
   ⟨R.GRT_CH_USE, [(0x4, 8)], 32,
     [⟨16, 14, .ro⟩, ⟨0, 14, .ro⟩]⟩,
   ⟨R.GRT_BP_CNT, [(0x4, 8)], 32,
     [⟨0, 32, .rc⟩]⟩]

def regMap02 : List RegDesc :=
  [
   ⟨R.HST_LINK_STS, [(0x100000, 2)], 32,
     [⟨20, 4, .ro⟩, ⟨18, 2, .ro⟩, ⟨15, 3, .ro⟩, ⟨8, 5, .ro⟩, ⟨3, 1, .ro⟩, ⟨2, 1, .ro⟩, ⟨1, 1, .ro⟩, ⟨0, 1, .ro⟩]⟩,
   ⟨R.HST_CTL, [(0x100000, 2)], 32,
     [⟨2, 1, .rw⟩, ⟨1, 1, .rw⟩, ⟨0, 1, .rw⟩]⟩,
   ⟨R.HST_ERR, [(0x100000, 2)], 32,
     [⟨5, 1, .w1c⟩, ⟨4, 1, .w1c⟩, ⟨3, 1, .w1c⟩, ⟨2, 1, .w1c⟩, ⟨1, 1, .w1c⟩, ⟨0, 1, .w1c⟩]⟩,
   ⟨R.HST_BI_TO, [(0x100000, 2)], 32,
     [⟨0, 16, .rw⟩]⟩,
   ⟨R.HST_BI_OCC, [(0x100000, 2)], 32,
     [⟨0, 21, .ro⟩]⟩]

def regMap03 : List RegDesc :=
  [
   ⟨R.GRT_WIN_CFG, [(0x10000, 2)], 32,
     [⟨31, 1, .rw⟩, ⟨24, 6, .rw⟩, ⟨20, 4, .rw⟩, ⟨16, 4, .rw⟩, ⟨8, 8, .rw⟩]⟩,
   ⟨R.GRT_WIN_STS, [(0x10000, 2)], 32,
     [⟨31, 1, .ro⟩, ⟨30, 1, .ro⟩, ⟨0, 17, .ro⟩]⟩,
   ⟨R.GRT_WIN_ERR, [(0x10000, 2)], 32,
     [⟨5, 1, .w1c⟩, ⟨4, 1, .w1c⟩, ⟨3, 1, .w1c⟩, ⟨2, 1, .w1c⟩, ⟨1, 1, .w1c⟩, ⟨0, 1, .w1c⟩]⟩,
   ⟨R.GRT_SLOT_TO, [(0x10000, 2)], 32,
     [⟨0, 32, .rw⟩]⟩,
   ⟨R.GRT_PROTO_CNT, [(0x10000, 2)], 32,
     [⟨0, 32, .rc⟩]⟩,
   ⟨R.GRT_IRQ_EN, [(0x10000, 2)], 32,
     [⟨0, 4, .rw⟩]⟩,
   ⟨R.GRT_WIN_SLOTS, [(0x10000, 2)], 32,
     [⟨0, 17, .rw⟩]⟩,
   ⟨R.GRT_OFF_CRING, [(0x10000, 2)], 64,
     [⟨0, 35, .ro⟩]⟩,
   ⟨R.GRT_OFF_CPL, [(0x10000, 2)], 64,
     [⟨0, 35, .ro⟩]⟩,
   ⟨R.GRT_OFF_FLAG, [(0x10000, 2)], 64,
     [⟨0, 35, .ro⟩]⟩,
   ⟨R.GRT_OFF_DATA, [(0x10000, 2)], 64,
     [⟨0, 35, .ro⟩]⟩,
   ⟨R.GRT_CMD_DB, [(0x10000, 2), (0x8, 64)], 32,
     [⟨0, 16, .wo⟩]⟩,
   ⟨R.GRT_CPL_DB, [(0x10000, 2), (0x8, 64)], 32,
     [⟨0, 16, .wo⟩]⟩,
   ⟨R.GRT_DONE_DB, [(0x10000, 2)], 32,
     [⟨0, 16, .wo⟩]⟩,
   ⟨R.GRT_SLOT_SEL, [(0x10000, 2)], 32,
     [⟨0, 16, .rw⟩]⟩,
   ⟨R.GRT_SLOT_OWN, [(0x10000, 2)], 64,
     [⟨0, 64, .ro⟩]⟩]

def regMap04 : List RegDesc :=
  [
   ⟨R.BEL_CTL, [], 32,
     [⟨0, 2, .rw⟩]⟩,
   ⟨R.BEL_STS, [], 32,
     [⟨5, 5, .ro⟩, ⟨4, 1, .ro⟩, ⟨3, 1, .ro⟩, ⟨2, 1, .ro⟩, ⟨0, 2, .ro⟩]⟩,
   ⟨R.BEL_DIRTY_BOUND, [], 32,
     [⟨0, 11, .rwe⟩]⟩,
   ⟨R.BEL_ERR, [], 32,
     [⟨2, 1, .w1c⟩, ⟨1, 1, .w1c⟩, ⟨0, 1, .w1c⟩]⟩,
   ⟨R.BEL_DIRTY, [], 64,
     [⟨0, 31, .ro⟩]⟩,
   ⟨R.BEL_SEQ_NEXT, [], 64,
     [⟨0, 64, .rw⟩]⟩,
   ⟨R.BEL_STALL_CNT, [], 32,
     [⟨0, 32, .rc⟩]⟩,
   ⟨R.BEL_VOL_SEL, [], 32,
     [⟨0, 14, .rw⟩]⟩,
   ⟨R.BEL_VOL_CFG, [], 32,
     [⟨31, 1, .rwe⟩, ⟨30, 1, .rwe⟩, ⟨29, 1, .rwe⟩, ⟨24, 4, .rwe⟩, ⟨0, 12, .rwe⟩]⟩,
   ⟨R.BEL_VOL_SIZE, [], 64,
     [⟨0, 39, .rwe⟩]⟩]

def regMap05 : List RegDesc :=
  [
   ⟨R.STV_CTL, [(0x200000, 16)], 32,
     [⟨2, 1, .w1s⟩, ⟨1, 1, .w1s⟩, ⟨0, 1, .rw⟩]⟩,
   ⟨R.STV_STS, [(0x200000, 16)], 32,
     [⟨31, 1, .ro⟩, ⟨30, 1, .ro⟩, ⟨4, 9, .ro⟩, ⟨0, 4, .ro⟩]⟩,
   ⟨R.STV_FAULT, [(0x200000, 16)], 32,
     [⟨8, 8, .ro⟩, ⟨0, 4, .w1c⟩]⟩,
   ⟨R.STV_WI_TO, [(0x200000, 16)], 32,
     [⟨0, 32, .rw⟩]⟩,
   ⟨R.STV_STRAND_STS, [(0x200000, 16), (0x4, 4)], 32,
     [⟨30, 2, .ro⟩, ⟨16, 5, .ro⟩, ⟨0, 13, .ro⟩]⟩,
   ⟨R.STV_STRAND_FLT, [(0x200000, 16), (0x4, 4)], 32,
     [⟨24, 8, .ro⟩, ⟨0, 13, .ro⟩]⟩,
   ⟨R.STV_LOAD_ADDR, [(0x200000, 16)], 64,
     [⟨0, 64, .rw⟩]⟩,
   ⟨R.STV_LOAD_CTL, [(0x200000, 16)], 32,
     [⟨31, 1, .wo⟩, ⟨29, 2, .rw⟩, ⟨16, 4, .rw⟩, ⟨0, 7, .rw⟩]⟩,
   ⟨R.STV_LOAD_STS, [(0x200000, 16)], 32,
     [⟨31, 1, .ro⟩, ⟨0, 8, .ro⟩]⟩,
   ⟨R.STV_PSLOT, [(0x200000, 16), (0x8, 16)], 64,
     [⟨62, 2, .ro⟩, ⟨61, 1, .ro⟩, ⟨48, 2, .ro⟩, ⟨32, 16, .ro⟩, ⟨16, 16, .ro⟩, ⟨7, 8, .ro⟩, ⟨0, 7, .ro⟩]⟩,
   ⟨R.STV_PKH, [(0x200000, 16), (0x40, 3), (0x4, 12)], 32,
     [⟨0, 32, .rwe⟩]⟩,
   ⟨R.STV_POL_SEL, [(0x200000, 16)], 32,
     [⟨0, 14, .rw⟩]⟩,
   ⟨R.STV_POL, [(0x200000, 16)], 32,
     [⟨16, 16, .rw⟩, ⟨8, 1, .rw⟩, ⟨4, 3, .rw⟩, ⟨3, 1, .rw⟩, ⟨2, 1, .rw⟩, ⟨1, 1, .rw⟩, ⟨0, 1, .rw⟩]⟩,
   ⟨R.STV_WI_POST, [(0x200000, 16), (0x4, 16)], 32,
     [⟨0, 32, .wo⟩]⟩,
   ⟨R.STV_DMA_BASE, [(0x200000, 16), (0x10, 4)], 64,
     [⟨0, 64, .lk⟩]⟩,
   ⟨R.STV_DMA_LIMIT, [(0x200000, 16), (0x10, 4)], 64,
     [⟨0, 64, .lk⟩]⟩]

def regMap07 : List RegDesc :=
  [
   ⟨R.CZ_CTL, [(0x200000, 16)], 32,
     [⟨0, 1, .rw⟩]⟩,
   ⟨R.CZ_STS, [(0x200000, 16)], 32,
     [⟨24, 6, .ro⟩, ⟨16, 6, .ro⟩, ⟨8, 8, .ro⟩]⟩,
   ⟨R.CZ_ERR, [(0x200000, 16)], 32,
     [⟨4, 1, .w1c⟩, ⟨3, 1, .w1c⟩, ⟨2, 1, .w1c⟩, ⟨1, 1, .w1c⟩, ⟨0, 1, .w1c⟩]⟩,
   ⟨R.CZ_IRQ_EN, [(0x200000, 16)], 32,
     [⟨0, 5, .rw⟩]⟩,
   ⟨R.CZ_BLK_CNT, [(0x200000, 16)], 64,
     [⟨0, 64, .ro⟩]⟩,
   ⟨R.CZ_RAW_CNT, [(0x200000, 16)], 64,
     [⟨0, 64, .ro⟩]⟩,
   ⟨R.CZ_IN_BYTES, [(0x200000, 16)], 64,
     [⟨0, 64, .ro⟩]⟩,
   ⟨R.CZ_OUT_BYTES, [(0x200000, 16)], 64,
     [⟨0, 64, .ro⟩]⟩,
   ⟨R.CZ_DEC_CNT, [(0x200000, 16)], 64,
     [⟨0, 64, .ro⟩]⟩,
   ⟨R.CZ_RECODE_CNT, [(0x200000, 16)], 32,
     [⟨0, 32, .rc⟩]⟩,
   ⟨R.CZ_DEC_OVER_CNT, [(0x200000, 16)], 32,
     [⟨0, 32, .rc⟩]⟩,
   ⟨R.CZ_DEC_CRC_CNT, [(0x200000, 16)], 32,
     [⟨0, 32, .rc⟩]⟩,
   ⟨R.CZ_DEC_HDR_CNT, [(0x200000, 16)], 32,
     [⟨0, 32, .rc⟩]⟩]

def regMap08 : List RegDesc :=
  [
   ⟨R.DDX_CTL, [], 32,
     [⟨2, 1, .w1s⟩, ⟨1, 1, .rw⟩, ⟨0, 1, .rw⟩]⟩,
   ⟨R.DDX_STS, [], 32,
     [⟨31, 1, .ro⟩, ⟨30, 1, .ro⟩, ⟨28, 2, .ro⟩, ⟨26, 2, .ro⟩, ⟨25, 1, .ro⟩]⟩,
   ⟨R.DDX_ERR, [], 32,
     [⟨6, 1, .w1c⟩, ⟨5, 1, .w1c⟩, ⟨4, 1, .w1c⟩, ⟨3, 1, .w1c⟩, ⟨2, 1, .w1c⟩, ⟨1, 1, .w1c⟩, ⟨0, 1, .w1c⟩]⟩,
   ⟨R.DDX_BUDGET, [], 32,
     [⟨8, 8, .lk⟩, ⟨0, 6, .lk⟩]⟩,
   ⟨R.DDX_SAMPLE, [], 32,
     [⟨0, 3, .rwe⟩]⟩,
   ⟨R.DDX_GEN, [], 32,
     [⟨0, 32, .rwe⟩]⟩,
   ⟨R.DDX_RECLAIM, [], 32,
     [⟨31, 1, .wo⟩, ⟨30, 1, .ro⟩]⟩,
   ⟨R.DDX_DIR, [], 32,
     [⟨24, 6, .ro⟩, ⟨8, 6, .ro⟩, ⟨0, 6, .ro⟩]⟩,
   ⟨R.DDX_ENTRIES, [(0x8, 2)], 64,
     [⟨0, 64, .ro⟩]⟩,
   ⟨R.DDX_UNIQUE, [(0x8, 2)], 64,
     [⟨0, 64, .ro⟩]⟩,
   ⟨R.DDX_LOOKUPS, [], 64,
     [⟨0, 64, .ro⟩]⟩,
   ⟨R.DDX_HITS, [], 64,
     [⟨0, 64, .ro⟩]⟩,
   ⟨R.DDX_FMISS, [], 64,
     [⟨0, 64, .ro⟩]⟩,
   ⟨R.DDX_FPOS, [], 64,
     [⟨0, 64, .ro⟩]⟩,
   ⟨R.DDX_PINNED_CNT, [], 32,
     [⟨0, 32, .rc⟩]⟩,
   ⟨R.DDX_VERIFY_CNT, [], 32,
     [⟨0, 32, .rc⟩]⟩,
   ⟨R.DDX_PATH_FAIL_CNT, [], 32,
     [⟨0, 32, .rc⟩]⟩]

def regMap09 : List RegDesc :=
  [
   ⟨R.ICH_CTL, [], 32,
     [⟨1, 1, .w1s⟩, ⟨0, 1, .rw⟩]⟩,
   ⟨R.ICH_STS, [], 32,
     [⟨31, 1, .ro⟩, ⟨30, 1, .ro⟩, ⟨0, 7, .ro⟩]⟩,
   ⟨R.ICH_ERR, [], 32,
     [⟨4, 1, .w1c⟩, ⟨3, 1, .w1c⟩, ⟨2, 1, .w1c⟩, ⟨1, 1, .w1c⟩, ⟨0, 1, .w1c⟩]⟩,
   ⟨R.ICH_IRQ_EN, [], 32,
     [⟨0, 5, .rw⟩]⟩,
   ⟨R.ICH_WB_CFG, [], 32,
     [⟨16, 6, .rw⟩, ⟨0, 16, .rw⟩]⟩,
   ⟨R.ICH_ECC_LIMIT, [], 32,
     [⟨0, 16, .rw⟩]⟩,
   ⟨R.ICH_LOCKED, [], 32,
     [⟨0, 18, .ro⟩]⟩,
   ⟨R.ICH_ECC_CNT, [], 32,
     [⟨0, 32, .rc⟩]⟩,
   ⟨R.ICH_RGN_BASE, [(0x10, 8)], 64,
     [⟨8, 34, .lk⟩]⟩,
   ⟨R.ICH_RGN_LIMIT, [(0x10, 8)], 64,
     [⟨8, 34, .lk⟩]⟩,
   ⟨R.ICH_MNT_ADDR, [], 64,
     [⟨8, 34, .rw⟩]⟩,
   ⟨R.ICH_MNT_END, [], 64,
     [⟨8, 34, .rw⟩]⟩,
   ⟨R.ICH_MNT_CTL, [], 32,
     [⟨31, 1, .wo⟩, ⟨5, 1, .rw⟩, ⟨4, 1, .rw⟩, ⟨0, 4, .rw⟩]⟩,
   ⟨R.ICH_MNT_STS, [], 32,
     [⟨31, 1, .ro⟩, ⟨0, 8, .ro⟩]⟩,
   ⟨R.ICH_MNT_SKIP, [], 32,
     [⟨0, 32, .ro⟩]⟩,
   ⟨R.ICH_MNT_DONE, [], 32,
     [⟨0, 32, .ro⟩]⟩,
   ⟨R.ICH_HITS, [], 64,
     [⟨0, 64, .ro⟩]⟩,
   ⟨R.ICH_MISSES, [], 64,
     [⟨0, 64, .ro⟩]⟩,
   ⟨R.ICH_SB_HITS, [], 64,
     [⟨0, 64, .ro⟩]⟩,
   ⟨R.ICH_PF_ISSUED, [], 64,
     [⟨0, 64, .ro⟩]⟩,
   ⟨R.ICH_PF_UNUSED, [], 64,
     [⟨0, 64, .ro⟩]⟩,
   ⟨R.ICH_WB_MERGES, [], 64,
     [⟨0, 64, .ro⟩]⟩]

def regMap10 : List RegDesc :=
  [
   ⟨R.DG_CTL, [(0x200000, 16)], 32,
     [⟨0, 16, .rw⟩]⟩,
   ⟨R.DG_STS, [(0x200000, 16)], 32,
     [⟨16, 4, .ro⟩, ⟨8, 8, .ro⟩, ⟨0, 8, .ro⟩]⟩,
   ⟨R.DG_ERR, [(0x200000, 16)], 32,
     [⟨2, 1, .w1c⟩, ⟨1, 1, .w1c⟩, ⟨0, 1, .w1c⟩]⟩,
   ⟨R.DG_TRUNC_CNT, [(0x200000, 16)], 32,
     [⟨0, 32, .rc⟩]⟩,
   ⟨R.DG_BYTES, [(0x200000, 16)], 64,
     [⟨0, 64, .ro⟩]⟩,
   ⟨R.DG_CTX, [(0x200000, 16), (0x4, 8)], 32,
     [⟨30, 2, .ro⟩, ⟨28, 2, .ro⟩, ⟨26, 2, .ro⟩, ⟨25, 1, .ro⟩, ⟨24, 1, .ro⟩, ⟨16, 8, .ro⟩]⟩,
   ⟨R.DG_VERD, [(0x200000, 16), (0x4, 8)], 32,
     [⟨8, 8, .ro⟩, ⟨0, 8, .ro⟩]⟩,
   ⟨R.DG_DECL, [(0x200000, 16), (0x10, 8)], 64,
     [⟨0, 64, .ro⟩]⟩,
   ⟨R.DG_ABSD, [(0x200000, 16), (0x10, 8)], 64,
     [⟨0, 64, .ro⟩]⟩,
   ⟨R.DG_RES, [(0x200000, 16), (0x40, 8), (0x8, 8)], 64,
     [⟨0, 64, .ro⟩]⟩]

def regMap11 : List RegDesc :=
  [
   ⟨R.CI_CTL, [(0x200000, 16)], 32,
     [⟨0, 1, .rw⟩]⟩,
   ⟨R.CI_LOCK, [(0x200000, 16)], 32,
     [⟨31, 1, .ro⟩, ⟨29, 2, .ro⟩, ⟨28, 1, .ro⟩, ⟨27, 1, .ro⟩, ⟨25, 2, .ro⟩, ⟨12, 12, .ro⟩, ⟨0, 12, .ro⟩]⟩,
   ⟨R.CI_ERR, [(0x200000, 16)], 32,
     [⟨2, 1, .w1c⟩, ⟨1, 1, .w1c⟩, ⟨0, 1, .w1c⟩]⟩,
   ⟨R.CI_SUSP_CNT, [(0x200000, 16)], 32,
     [⟨0, 32, .rc⟩]⟩,
   ⟨R.CI_TAG_FAIL_CNT, [(0x200000, 16)], 32,
     [⟨0, 32, .rc⟩]⟩,
   ⟨R.CI_DENY_CNT, [(0x200000, 16)], 32,
     [⟨0, 32, .rc⟩]⟩,
   ⟨R.CI_BYTES, [(0x200000, 16)], 64,
     [⟨0, 64, .ro⟩]⟩,
   ⟨R.KEY_STS, [], 32,
     [⟨31, 1, .ro⟩, ⟨30, 1, .ro⟩, ⟨29, 1, .ro⟩, ⟨0, 16, .ro⟩]⟩,
   ⟨R.KEY_ERR, [], 32,
     [⟨1, 1, .w1c⟩, ⟨0, 1, .w1c⟩]⟩,
   ⟨R.KEY_SLOT_SEL, [], 32,
     [⟨0, 12, .rw⟩]⟩,
   ⟨R.KEY_SLOT_ATTR, [], 32,
     [⟨31, 1, .ro⟩, ⟨16, 2, .ro⟩, ⟨0, 2, .rw⟩]⟩,
   ⟨R.KEY_SLOT_CMD, [], 32,
     [⟨31, 1, .wo⟩, ⟨30, 1, .ro⟩, ⟨16, 4, .rw⟩, ⟨0, 8, .ro⟩]⟩,
   ⟨R.KEY_SLOT_KCV, [], 32,
     [⟨0, 32, .ro⟩]⟩,
   ⟨R.KEY_DATA, [(0x4, 16)], 32,
     [⟨0, 32, .wo⟩]⟩,
   ⟨R.KEY_WRAP, [(0x4, 26)], 32,
     [⟨0, 32, .rw⟩]⟩,
   ⟨R.KEY_DGEN, [(0x4, 16)], 32,
     [⟨0, 32, .ro⟩]⟩]

def regMap12 : List RegDesc :=
  [
   ⟨R.DRV_CTL, [], 32,
     [⟨2, 1, .w1c⟩, ⟨1, 1, .w1s⟩, ⟨0, 1, .rw⟩]⟩,
   ⟨R.DRV_STS, [], 32,
     [⟨31, 1, .ro⟩, ⟨30, 1, .ro⟩, ⟨0, 8, .ro⟩]⟩,
   ⟨R.DRV_ERR, [], 32,
     [⟨6, 1, .w1c⟩, ⟨5, 1, .w1c⟩, ⟨4, 1, .w1c⟩, ⟨3, 1, .w1c⟩, ⟨2, 1, .w1c⟩, ⟨1, 1, .w1c⟩, ⟨0, 1, .w1c⟩]⟩,
   ⟨R.DRV_GEOM, [], 32,
     [⟨20, 4, .lk⟩, ⟨16, 2, .lk⟩, ⟨8, 2, .lk⟩, ⟨0, 5, .lk⟩]⟩,
   ⟨R.DRV_CMD_TO, [], 32,
     [⟨0, 16, .rw⟩]⟩,
   ⟨R.DRV_RBLD_CFG, [], 32,
     [⟨16, 8, .rw⟩, ⟨8, 1, .rw⟩, ⟨0, 8, .rw⟩]⟩,
   ⟨R.DRV_BIF, [], 32,
     [⟨0, 8, .ro⟩]⟩,
   ⟨R.DRV_RECLAIM_DLY, [], 32,
     [⟨0, 32, .rw⟩]⟩,
   ⟨R.DRV_READ_BYTES, [], 64,
     [⟨0, 64, .ro⟩]⟩,
   ⟨R.DRV_WRITE_BYTES, [], 64,
     [⟨0, 64, .ro⟩]⟩,
   ⟨R.DRV_MEDIA_CNT, [], 32,
     [⟨0, 32, .rc⟩]⟩,
   ⟨R.DRV_TO_CNT, [], 32,
     [⟨0, 32, .rc⟩]⟩,
   ⟨R.DRV_RBLD_LEFT, [], 32,
     [⟨0, 23, .ro⟩]⟩,
   ⟨R.DRV_STRIPE_BASE, [], 64,
     [⟨0, 64, .lk⟩]⟩,
   ⟨R.DRV_STRIPE_CNT, [], 32,
     [⟨0, 23, .lk⟩]⟩,
   ⟨R.DRV_PORT_STS, [(0x4, 32)], 32,
     [⟨31, 1, .ro⟩, ⟨30, 1, .ro⟩, ⟨27, 3, .ro⟩, ⟨22, 5, .ro⟩, ⟨0, 8, .ro⟩]⟩,
   ⟨R.DRV_DRV_SEL, [], 32,
     [⟨0, 7, .rw⟩]⟩,
   ⟨R.DRV_DRV_CFG, [], 64,
     [⟨63, 1, .rw⟩, ⟨62, 1, .rw⟩, ⟨61, 1, .rw⟩, ⟨56, 5, .rw⟩, ⟨51, 5, .rw⟩, ⟨43, 8, .rw⟩, ⟨38, 5, .rw⟩, ⟨35, 3, .rw⟩, ⟨0, 32, .rw⟩]⟩,
   ⟨R.DRV_DRV_STS, [], 32,
     [⟨30, 2, .ro⟩, ⟨29, 1, .ro⟩, ⟨28, 1, .ro⟩, ⟨0, 16, .ro⟩]⟩,
   ⟨R.DRV_DRV_CTL, [], 32,
     [⟨0, 1, .w1s⟩]⟩]

def regMap13 : List RegDesc :=
  [
   ⟨R.JNL_CTL, [], 32,
     [⟨16, 1, .rw⟩, ⟨0, 16, .rw⟩]⟩,
   ⟨R.JNL_STS, [], 32,
     [⟨31, 1, .ro⟩, ⟨30, 1, .ro⟩, ⟨29, 1, .ro⟩, ⟨19, 8, .ro⟩, ⟨0, 19, .ro⟩]⟩,
   ⟨R.JNL_ERR, [], 32,
     [⟨5, 1, .w1c⟩, ⟨4, 1, .w1c⟩, ⟨3, 1, .w1c⟩, ⟨2, 1, .w1c⟩, ⟨1, 1, .w1c⟩, ⟨0, 1, .w1c⟩]⟩,
   ⟨R.JNL_IRQ_EN, [], 32,
     [⟨0, 6, .rw⟩]⟩,
   ⟨R.JNL_PTR, [], 64,
     [⟨32, 19, .ro⟩, ⟨0, 19, .ro⟩]⟩,
   ⟨R.JNL_RECS, [], 64,
     [⟨0, 64, .ro⟩]⟩,
   ⟨R.JNL_RETIRED, [], 64,
     [⟨0, 64, .ro⟩]⟩,
   ⟨R.JNL_RCV, [], 64,
     [⟨32, 32, .ro⟩, ⟨0, 32, .ro⟩]⟩,
   ⟨R.JNL_RELOC_CNT, [], 32,
     [⟨0, 32, .rc⟩]⟩,
   ⟨R.JNL_ECC_CNT, [], 32,
     [⟨0, 32, .rc⟩]⟩,
   ⟨R.JNL_OPT_CMD, [], 32,
     [⟨31, 1, .wo⟩, ⟨30, 1, .ro⟩, ⟨0, 8, .ro⟩]⟩,
   ⟨R.JNL_OPT_STS, [], 32,
     [⟨31, 1, .ro⟩, ⟨30, 1, .ro⟩, ⟨29, 1, .ro⟩, ⟨28, 1, .ro⟩, ⟨0, 16, .ro⟩]⟩,
   ⟨R.JNL_OPT_DATA, [(0x4, 64)], 32,
     [⟨0, 32, .rw⟩]⟩,
   ⟨R.JNL_OPT_CUR, [(0x4, 64)], 32,
     [⟨0, 32, .ro⟩]⟩]

def regMap14 : List RegDesc :=
  [
   ⟨R.CRL_CTL, [], 32,
     [⟨16, 16, .rw⟩, ⟨0, 1, .rw⟩]⟩,
   ⟨R.CRL_STS, [], 32,
     [⟨31, 1, .ro⟩, ⟨30, 1, .ro⟩, ⟨29, 1, .ro⟩, ⟨28, 1, .ro⟩, ⟨25, 3, .ro⟩, ⟨22, 3, .ro⟩, ⟨21, 1, .ro⟩, ⟨16, 5, .ro⟩, ⟨0, 16, .ro⟩]⟩,
   ⟨R.CRL_ERR, [], 32,
     [⟨8, 1, .w1c⟩, ⟨7, 1, .w1c⟩, ⟨6, 1, .w1c⟩, ⟨5, 1, .w1c⟩, ⟨4, 1, .w1c⟩, ⟨3, 1, .w1c⟩, ⟨2, 1, .w1c⟩, ⟨1, 1, .w1c⟩, ⟨0, 1, .w1c⟩]⟩,
   ⟨R.CRL_IRQ_EN, [], 32,
     [⟨0, 9, .rw⟩]⟩,
   ⟨R.CRL_TIMERS, [], 32,
     [⟨24, 8, .rw⟩, ⟨16, 8, .rw⟩, ⟨8, 8, .rw⟩, ⟨0, 8, .rw⟩]⟩,
   ⟨R.CRL_MIR_CFG, [], 32,
     [⟨16, 4, .rw⟩, ⟨0, 16, .rw⟩]⟩,
   ⟨R.CRL_FENCE, [], 32,
     [⟨31, 1, .wo⟩, ⟨16, 8, .ro⟩, ⟨0, 8, .rw⟩]⟩,
   ⟨R.CRL_SEQ, [], 64,
     [⟨32, 24, .ro⟩, ⟨0, 24, .ro⟩]⟩,
   ⟨R.CRL_FEC_CORR, [], 64,
     [⟨0, 64, .ro⟩]⟩,
   ⟨R.CRL_FEC_UNC, [], 32,
     [⟨0, 32, .rc⟩]⟩,
   ⟨R.CRL_REPLAY_CNT, [], 32,
     [⟨0, 32, .rc⟩]⟩,
   ⟨R.CRL_MIR_CMP_CNT, [], 32,
     [⟨0, 32, .rc⟩]⟩,
   ⟨R.CRL_MSG_FAULT_CNT, [], 32,
     [⟨0, 32, .rc⟩]⟩,
   ⟨R.CRL_TX_BYTES, [], 64,
     [⟨0, 64, .ro⟩]⟩,
   ⟨R.CRL_RX_BYTES, [], 64,
     [⟨0, 64, .ro⟩]⟩]

def regMap15 : List RegDesc :=
  [
   ⟨R.TICK_CTL, [], 32,
     [⟨2, 1, .rw⟩, ⟨0, 2, .rwe⟩]⟩,
   ⟨R.TICK_STS, [], 32,
     [⟨31, 1, .ro⟩, ⟨30, 1, .ro⟩, ⟨29, 1, .ro⟩, ⟨28, 1, .ro⟩, ⟨27, 1, .ro⟩]⟩,
   ⟨R.TICK_ERR, [], 32,
     [⟨7, 1, .w1c⟩, ⟨6, 1, .w1c⟩, ⟨5, 1, .w1c⟩, ⟨4, 1, .w1c⟩, ⟨3, 1, .w1c⟩, ⟨2, 1, .w1c⟩, ⟨1, 1, .w1c⟩, ⟨0, 1, .w1c⟩]⟩,
   ⟨R.TICK_IRQ_EN, [], 32,
     [⟨0, 8, .rw⟩]⟩,
   ⟨R.TICK_AT, [], 64,
     [⟨0, 64, .ro⟩]⟩,
   ⟨R.TICK_FLOOR, [], 64,
     [⟨0, 64, .rwe⟩]⟩,
   ⟨R.TICK_PHASE, [], 32,
     [⟨0, 32, .ro⟩]⟩,
   ⟨R.TICK_SKEW, [], 32,
     [⟨0, 32, .ro⟩]⟩,
   ⟨R.TICK_LIMITS, [], 32,
     [⟨16, 16, .rw⟩, ⟨0, 16, .rw⟩]⟩,
   ⟨R.TICK_LINK_DLY, [], 32,
     [⟨0, 16, .rw⟩]⟩,
   ⟨R.TICK_PTM_OFS, [], 64,
     [⟨0, 64, .rw⟩]⟩,
   ⟨R.TICK_PTM_INT, [], 32,
     [⟨0, 16, .rw⟩]⟩,
   ⟨R.TICK_SKEW_CNT, [], 32,
     [⟨0, 32, .rc⟩]⟩,
   ⟨R.TICK_CLOG_CTL, [], 32,
     [⟨16, 7, .ro⟩, ⟨8, 6, .rwe⟩, ⟨0, 6, .rwe⟩]⟩,
   ⟨R.TICK_SNAP_VMAP, [], 64,
     [⟨0, 64, .rw⟩]⟩,
   ⟨R.TICK_SNAP_RING, [], 64,
     [⟨20, 44, .rw⟩, ⟨0, 5, .rw⟩]⟩,
   ⟨R.TICK_CS_T, [(0x10, 16)], 64,
     [⟨0, 64, .rwe⟩]⟩,
   ⟨R.TICK_CS_PER, [(0x10, 16)], 64,
     [⟨0, 64, .rwe⟩]⟩,
   ⟨R.TICK_CLOG_T, [(0x10, 64)], 64,
     [⟨0, 64, .rwe⟩]⟩,
   ⟨R.TICK_CLOG_END, [(0x10, 64)], 64,
     [⟨0, 64, .rwe⟩]⟩,
   ⟨R.TICK_RS_SEL, [], 32,
     [⟨0, 4, .rw⟩]⟩,
   ⟨R.TICK_RS_CFG, [], 32,
     [⟨31, 1, .rw⟩, ⟨30, 1, .w1s⟩, ⟨29, 1, .rw⟩, ⟨12, 12, .rw⟩, ⟨0, 12, .rw⟩]⟩,
   ⟨R.TICK_RS_CUTS, [], 32,
     [⟨24, 6, .rw⟩, ⟨16, 6, .rw⟩, ⟨15, 1, .rw⟩, ⟨0, 3, .rw⟩]⟩,
   ⟨R.TICK_RS_IDX, [], 32,
     [⟨0, 32, .rw⟩]⟩,
   ⟨R.TICK_RS_STS, [], 32,
     [⟨30, 2, .ro⟩, ⟨0, 30, .ro⟩]⟩,
   ⟨R.TICK_RS_ARMNO, [], 64,
     [⟨0, 48, .ro⟩]⟩]

def regMap16 : List RegDesc :=
  [
   ⟨R.AND_CTL, [], 32,
     [⟨2, 1, .rw⟩, ⟨1, 1, .rw⟩, ⟨0, 1, .w1s⟩]⟩,
   ⟨R.AND_STS, [], 32,
     [⟨28, 4, .ro⟩, ⟨24, 4, .ro⟩, ⟨23, 1, .ro⟩]⟩,
   ⟨R.AND_ERR, [], 32,
     [⟨5, 1, .w1c⟩, ⟨4, 1, .w1c⟩, ⟨3, 1, .w1c⟩, ⟨2, 1, .w1c⟩, ⟨1, 1, .w1c⟩, ⟨0, 1, .w1c⟩]⟩,
   ⟨R.AND_IRQ_EN, [], 32,
     [⟨0, 6, .rw⟩]⟩,
   ⟨R.AND_MAP, [], 32,
     [⟨0, 32, .ro⟩]⟩,
   ⟨R.AND_ROT_ACK, [], 32,
     [⟨0, 3, .wo⟩]⟩,
   ⟨R.AND_RESTART_VEC, [], 64,
     [⟨2, 62, .lk⟩]⟩,
   ⟨R.AND_PAIR_STS, [(0x4, 9)], 32,
     [⟨29, 3, .ro⟩, ⟨26, 3, .ro⟩, ⟨24, 2, .ro⟩]⟩,
   ⟨R.AND_FB_CTL, [], 32,
     [⟨31, 1, .rwe⟩, ⟨30, 1, .w1s⟩, ⟨0, 3, .ro⟩]⟩,
   ⟨R.AND_FB_CFG, [], 32,
     [⟨16, 16, .rw⟩, ⟨8, 8, .rw⟩, ⟨0, 8, .rw⟩]⟩,
   ⟨R.AND_FB_TB, [], 64,
     [⟨0, 64, .ro⟩]⟩,
   ⟨R.AND_PSEQ_MAX, [], 64,
     [⟨0, 64, .ro⟩]⟩,
   ⟨R.AND_TK_TIME, [], 32,
     [⟨0, 32, .ro⟩]⟩,
   ⟨R.AND_EPOCH, [], 32,
     [⟨0, 32, .ro⟩]⟩,
   ⟨R.AND_ST_CNT, [], 32,
     [⟨0, 32, .rc⟩]⟩]

def regMap17 : List RegDesc :=
  [
   ⟨R.GLB_MODE, [], 32,
     [⟨8, 4, .ro⟩, ⟨6, 2, .ro⟩, ⟨5, 1, .ro⟩, ⟨4, 1, .ro⟩, ⟨0, 4, .ro⟩]⟩,
   ⟨R.GLB_MODE_REQ, [], 32,
     [⟨31, 1, .wo⟩, ⟨30, 1, .ro⟩, ⟨16, 8, .ro⟩, ⟨8, 1, .rw⟩, ⟨0, 4, .rw⟩]⟩,
   ⟨R.GLB_CTL, [], 32,
     [⟨0, 1, .rws⟩]⟩,
   ⟨R.GLB_FAULT, [], 64,
     [⟨56, 8, .ro⟩, ⟨53, 1, .ro⟩, ⟨52, 1, .ro⟩, ⟨36, 16, .ro⟩, ⟨32, 4, .ro⟩, ⟨30, 2, .ro⟩, ⟨28, 2, .ro⟩, ⟨19, 9, .ro⟩]⟩,
   ⟨R.GLB_TRANS_CNT, [], 32,
     [⟨0, 32, .rc⟩]⟩,
   ⟨R.GLB_BKP, [(0x4, 32)], 32,
     [⟨0, 32, .rws⟩]⟩]

def regMap18 : List RegDesc :=
  [
   ⟨R.KDL_STS, [], 32,
     [⟨31, 1, .ro⟩, ⟨30, 1, .ro⟩, ⟨29, 1, .ro⟩, ⟨28, 1, .ro⟩, ⟨24, 4, .ro⟩, ⟨16, 2, .ro⟩, ⟨8, 8, .ro⟩, ⟨0, 2, .ro⟩]⟩,
   ⟨R.KDL_RST_SRC, [], 32,
     [⟨12, 1, .w1c⟩, ⟨11, 1, .w1c⟩, ⟨10, 1, .w1c⟩, ⟨9, 1, .w1c⟩, ⟨8, 1, .w1c⟩, ⟨7, 1, .w1c⟩, ⟨6, 1, .w1c⟩, ⟨5, 1, .w1c⟩, ⟨4, 1, .w1c⟩, ⟨3, 1, .w1c⟩, ⟨2, 1, .w1c⟩, ⟨1, 1, .w1c⟩, ⟨0, 1, .w1c⟩]⟩,
   ⟨R.KDL_ERR, [], 32,
     [⟨3, 1, .w1c⟩, ⟨2, 1, .w1c⟩, ⟨1, 1, .w1c⟩, ⟨0, 1, .w1c⟩]⟩,
   ⟨R.KDL_RST_CMD, [], 32,
     [⟨16, 16, .wo⟩, ⟨0, 2, .wo⟩]⟩,
   ⟨R.KDL_REL_STS, [], 32,
     [⟨0, 18, .ro⟩]⟩,
   ⟨R.KDL_CLK_GOOD, [], 32,
     [⟨0, 18, .ro⟩]⟩,
   ⟨R.KDL_CLK_PEND, [], 32,
     [⟨0, 18, .ro⟩]⟩,
   ⟨R.KDL_REL_FORCE, [], 32,
     [⟨0, 18, .w1s⟩]⟩,
   ⟨R.KDL_BOOT_RES, [], 32,
     [⟨24, 8, .ro⟩, ⟨16, 8, .ro⟩]⟩,
   ⟨R.KDL_FW_VER, [], 32,
     [⟨0, 32, .ro⟩]⟩,
   ⟨R.KDL_FW_SVN, [], 32,
     [⟨0, 32, .ro⟩]⟩,
   ⟨R.KDL_MIN_SVN, [], 32,
     [⟨0, 32, .rwe⟩]⟩,
   ⟨R.KDL_LAST_AT, [], 64,
     [⟨0, 64, .ro⟩]⟩,
   ⟨R.KDL_DURATION, [], 32,
     [⟨0, 32, .ro⟩]⟩]

def regMap19 : List RegDesc :=
  [
   ⟨R.DMP_CTL, [], 32,
     [⟨2, 1, .rw⟩, ⟨1, 1, .rwe⟩, ⟨0, 1, .rw⟩]⟩,
   ⟨R.DMP_STS, [], 32,
     [⟨31, 1, .ro⟩, ⟨30, 1, .ro⟩, ⟨29, 1, .ro⟩, ⟨26, 2, .ro⟩, ⟨22, 4, .ro⟩, ⟨21, 1, .ro⟩, ⟨20, 1, .ro⟩, ⟨12, 4, .ro⟩, ⟨0, 9, .ro⟩]⟩,
   ⟨R.DMP_ERR, [], 32,
     [⟨5, 1, .w1c⟩, ⟨4, 1, .w1c⟩, ⟨3, 1, .w1c⟩, ⟨2, 1, .w1c⟩, ⟨1, 1, .w1c⟩, ⟨0, 1, .w1c⟩]⟩,
   ⟨R.DMP_IRQ_EN, [], 32,
     [⟨0, 6, .rw⟩]⟩,
   ⟨R.DMP_HOLDUP, [], 32,
     [⟨0, 16, .rwe⟩]⟩,
   ⟨R.DMP_QCFG, [], 32,
     [⟨16, 8, .rw⟩, ⟨0, 8, .rw⟩]⟩,
   ⟨R.DMP_QTEST, [], 32,
     [⟨0, 1, .rw⟩]⟩,
   ⟨R.DMP_QLAST, [], 64,
     [⟨32, 31, .rwe⟩, ⟨0, 32, .rwe⟩]⟩,
   ⟨R.DMP_DIP_LAST, [], 32,
     [⟨28, 4, .ro⟩, ⟨16, 12, .ro⟩, ⟨0, 16, .ro⟩]⟩,
   ⟨R.DMP_DIP_CNT, [], 32,
     [⟨0, 32, .rc⟩]⟩,
   ⟨R.DMP_Q_CNT, [], 32,
     [⟨0, 32, .rc⟩]⟩,
   ⟨R.DMP_THERM, [], 32,
     [⟨16, 8, .ro⟩, ⟨0, 8, .rw⟩]⟩,
   ⟨R.DMP_RAIL_LVL, [(0x8, 9)], 32,
     [⟨16, 16, .ro⟩, ⟨0, 16, .ro⟩]⟩,
   ⟨R.DMP_RAIL_MON, [(0x8, 9)], 32,
     [⟨16, 16, .rc⟩, ⟨0, 16, .ro⟩]⟩]

def regMap20 : List RegDesc :=
  [
   ⟨R.HRT_STS, [], 32,
     [⟨8, 8, .ro⟩, ⟨0, 8, .ro⟩]⟩,
   ⟨R.HRT_ERR, [], 32,
     [⟨1, 1, .w1c⟩, ⟨0, 1, .w1c⟩]⟩,
   ⟨R.HRT_WDT_CTL, [], 32,
     [⟨0, 1, .w1s⟩]⟩,
   ⟨R.HRT_WDT_TO, [], 32,
     [⟨0, 16, .rw⟩]⟩,
   ⟨R.HRT_WDT_STS, [], 32,
     [⟨0, 8, .ro⟩]⟩,
   ⟨R.HRT_WDT_RESTART, [], 32,
     [⟨31, 1, .wo⟩, ⟨0, 3, .wo⟩]⟩,
   ⟨R.HRT_PARK, [], 32,
     [⟨31, 1, .wo⟩, ⟨0, 3, .wo⟩]⟩,
   ⟨R.HRT_ECC_CNT, [], 32,
     [⟨0, 32, .rc⟩]⟩,
   ⟨R.HRT_WDT_KICK, [(0x4, 8)], 32,
     [⟨0, 32, .wo⟩]⟩,
   ⟨R.HRT_MSIP, [(0x4, 8)], 32,
     [⟨0, 1, .rw⟩]⟩,
   ⟨R.HRT_MTIME, [], 64,
     [⟨0, 64, .ro⟩]⟩,
   ⟨R.HRT_MTIMECMP, [(0x8, 8)], 64,
     [⟨0, 64, .rw⟩]⟩,
   ⟨R.MBX_ERR, [], 32,
     [⟨4, 1, .w1c⟩, ⟨3, 1, .w1c⟩, ⟨2, 1, .w1c⟩, ⟨1, 1, .w1c⟩, ⟨0, 1, .w1c⟩]⟩,
   ⟨R.MBX_DENY_CNT, [], 32,
     [⟨0, 32, .rc⟩]⟩,
   ⟨R.MBX_COLLIDE_CNT, [], 32,
     [⟨0, 32, .rc⟩]⟩,
   ⟨R.MBX_TX_RES, [], 32,
     [⟨3, 1, .ro⟩, ⟨2, 1, .ro⟩, ⟨1, 1, .ro⟩, ⟨0, 1, .ro⟩]⟩,
   ⟨R.MBX_SEV_EMPTY, [], 32,
     [⟨0, 32, .w1c⟩]⟩,
   ⟨R.MBX_SEV_LOST, [], 32,
     [⟨0, 32, .w1c⟩]⟩,
   ⟨R.MBX_SEV_TO, [], 32,
     [⟨0, 32, .w1c⟩]⟩,
   ⟨R.MBX_TXBUF, [(0x8, 8)], 64,
     [⟨0, 64, .rw⟩]⟩,
   ⟨R.MBX_CFG, [(0x100, 32)], 32,
     [⟨31, 1, .rw⟩, ⟨27, 4, .rw⟩, ⟨16, 8, .rw⟩, ⟨0, 13, .rw⟩]⟩,
   ⟨R.MBX_STS, [(0x100, 32)], 32,
     [⟨31, 1, .ro⟩, ⟨30, 1, .w1c⟩, ⟨29, 1, .w1c⟩, ⟨28, 1, .w1c⟩, ⟨27, 1, .w1c⟩, ⟨0, 8, .ro⟩]⟩,
   ⟨R.MBX_ACK, [(0x100, 32)], 32,
     [⟨31, 1, .wo⟩, ⟨0, 8, .wo⟩]⟩,
   ⟨R.MBX_SEND, [(0x100, 32)], 32,
     [⟨31, 1, .wo⟩, ⟨0, 16, .wo⟩]⟩,
   ⟨R.MBX_HDR, [(0x100, 32)], 64,
     [⟨0, 64, .ro⟩]⟩,
   ⟨R.MBX_RX, [(0x100, 32), (0x8, 8)], 64,
     [⟨0, 64, .ro⟩]⟩]

def regMap21 : List RegDesc :=
  [
   ⟨R.SOOT_CTL, [], 32,
     [⟨1, 1, .w1s⟩, ⟨0, 1, .rw⟩]⟩,
   ⟨R.SOOT_STS, [], 32,
     [⟨31, 1, .rwe⟩, ⟨30, 1, .ro⟩, ⟨29, 1, .ro⟩, ⟨28, 1, .ro⟩, ⟨16, 9, .ro⟩, ⟨0, 16, .rwe⟩]⟩,
   ⟨R.SOOT_LOST, [], 32,
     [⟨0, 32, .rwe⟩]⟩,
   ⟨R.SOOT_FRZ_TO, [], 32,
     [⟨0, 32, .rw⟩]⟩,
   ⟨R.SOOT_STAMP, [], 64,
     [⟨0, 64, .ro⟩]⟩,
   ⟨R.SOOT_OPHRS, [], 32,
     [⟨0, 32, .ro⟩]⟩,
   ⟨R.SOOT_RD_IDX, [], 32,
     [⟨0, 15, .rw⟩]⟩,
   ⟨R.SOOT_RD_DATA, [(0x4, 16)], 32,
     [⟨0, 32, .ro⟩]⟩,
   ⟨R.SOOT_CLR_CTL, [], 32,
     [⟨31, 1, .wo⟩, ⟨30, 1, .ro⟩, ⟨16, 2, .rw⟩, ⟨0, 8, .ro⟩]⟩,
   ⟨R.SOOT_CLR_CFG, [], 32,
     [⟨8, 8, .rw⟩, ⟨0, 3, .rw⟩]⟩,
   ⟨R.SOOT_CLR_NONCE, [(0x4, 4)], 32,
     [⟨0, 32, .ro⟩]⟩,
   ⟨R.SOOT_CLR_RESP, [(0x4, 8)], 32,
     [⟨0, 32, .wo⟩]⟩,
   ⟨R.SOOT_DENY_CNT, [], 32,
     [⟨0, 32, .rc⟩]⟩]

/-- The whole map. -/
def regMap : List RegDesc :=
  regMap00 ++ regMap01 ++ regMap02 ++ regMap03 ++ regMap04 ++ regMap05 ++ regMap07 ++ regMap08 ++ regMap09 ++ regMap10 ++ regMap11 ++ regMap12 ++ regMap13 ++ regMap14 ++ regMap15 ++ regMap16 ++ regMap17 ++ regMap18 ++ regMap19 ++ regMap20 ++ regMap21

end Sys2Proof.Machine
end

