-- ==== Sys2Proof/Machine/Fields.lean ====
section
/-! DEFINITION. One name per field of every register of the spec (offsets: the register tables of each chapter over the block map
of R25 and R26; bits: the field tables). The value of a field is read with State.get and written with State.set. -/

namespace Sys2Proof.Machine.F

-- GLB_ID: R4 (00)
def GLB_ID_PART : Fld := ⟨0x0, 16, 16⟩
def GLB_ID_STEP_MAJOR : Fld := ⟨0x0, 12, 4⟩
def GLB_ID_STEP_MINOR : Fld := ⟨0x0, 8, 4⟩
def GLB_ID_COMP_STEP : Fld := ⟨0x0, 4, 4⟩
def GLB_ID_HEAD : Fld := ⟨0x0, 0, 1⟩
-- GRT_POOL_CFG: R34 (01)
def GRT_POOL_CFG_CFG_ERR : Fld := ⟨0x700000, 1, 1⟩
def GRT_POOL_CFG_LOCK : Fld := ⟨0x700000, 0, 1⟩
-- GRT_FREE: R34 (01)
def GRT_FREE_SHARED_FREE : Fld := ⟨0x700004, 0, 14⟩
-- GRT_STALL: R34 (01)
def GRT_STALL_STALLED : Fld := ⟨0x700008, 0, 8⟩
-- GRT_STALL_TO: R34 (01)
def GRT_STALL_TO_TIMEOUT : Fld := ⟨0x70000c, 0, 16⟩
-- GRT_SPILL_LO: R34 (01)
def GRT_SPILL_LO_LEVEL : Fld := ⟨0x700010, 0, 14⟩
-- GRT_CH_RSV[c]: R34 (01)
def GRT_CH_RSV_RSV (c : Nat) : Fld := ⟨0x700100 + 0x4 * c, 0, 14⟩
-- GRT_CH_CAP[c]: R34 (01)
def GRT_CH_CAP_CAP (c : Nat) : Fld := ⟨0x700140 + 0x4 * c, 0, 14⟩
-- GRT_CH_USE[c]: R34 (01)
def GRT_CH_USE_SHARED_HELD (c : Nat) : Fld := ⟨0x700180 + 0x4 * c, 16, 14⟩
def GRT_CH_USE_TOTAL_HELD (c : Nat) : Fld := ⟨0x700180 + 0x4 * c, 0, 14⟩
-- GRT_BP_CNT[c]: R34 (01)
def GRT_BP_CNT_COUNT (c : Nat) : Fld := ⟨0x7001c0 + 0x4 * c, 0, 32⟩
-- HST_LINK_STS: R75 (02)
def HST_LINK_STS_LTSSM (p : Nat) : Fld := ⟨0x4040000 + 0x100000 * p, 20, 4⟩
def HST_LINK_STS_FLIT (p : Nat) : Fld := ⟨0x4040000 + 0x100000 * p, 18, 2⟩
def HST_LINK_STS_RATE (p : Nat) : Fld := ⟨0x4040000 + 0x100000 * p, 15, 3⟩
def HST_LINK_STS_WIDTH (p : Nat) : Fld := ⟨0x4040000 + 0x100000 * p, 8, 5⟩
def HST_LINK_STS_MEM_ON (p : Nat) : Fld := ⟨0x4040000 + 0x100000 * p, 3, 1⟩
def HST_LINK_STS_CACHE_ON (p : Nat) : Fld := ⟨0x4040000 + 0x100000 * p, 2, 1⟩
def HST_LINK_STS_IDE_SEC (p : Nat) : Fld := ⟨0x4040000 + 0x100000 * p, 1, 1⟩
def HST_LINK_STS_DL_UP (p : Nat) : Fld := ⟨0x4040000 + 0x100000 * p, 0, 1⟩
-- HST_CTL: R75 (02)
def HST_CTL_WIN_EN (p : Nat) : Fld := ⟨0x4040004 + 0x100000 * p, 2, 1⟩
def HST_CTL_CACHE_EN (p : Nat) : Fld := ⟨0x4040004 + 0x100000 * p, 1, 1⟩
def HST_CTL_PORT_EN (p : Nat) : Fld := ⟨0x4040004 + 0x100000 * p, 0, 1⟩
-- HST_ERR: R75 (02)
def HST_ERR_LINK_DOWN (p : Nat) : Fld := ⟨0x4040008 + 0x100000 * p, 5, 1⟩
def HST_ERR_VIRAL (p : Nat) : Fld := ⟨0x4040008 + 0x100000 * p, 4, 1⟩
def HST_ERR_IDE_FAIL (p : Nat) : Fld := ⟨0x4040008 + 0x100000 * p, 3, 1⟩
def HST_ERR_BI_TO (p : Nat) : Fld := ⟨0x4040008 + 0x100000 * p, 2, 1⟩
def HST_ERR_SGL_LEN (p : Nat) : Fld := ⟨0x4040008 + 0x100000 * p, 1, 1⟩
def HST_ERR_DOWNTRAIN (p : Nat) : Fld := ⟨0x4040008 + 0x100000 * p, 0, 1⟩
-- HST_BI_TO: R75 (02)
def HST_BI_TO_TIMEOUT (p : Nat) : Fld := ⟨0x404000c + 0x100000 * p, 0, 16⟩
-- HST_BI_OCC: R75 (02)
def HST_BI_OCC_LINES (p : Nat) : Fld := ⟨0x4040010 + 0x100000 * p, 0, 21⟩
-- GRT_WIN_CFG: R104 (03)
def GRT_WIN_CFG_EN (p : Nat) : Fld := ⟨0x710000 + 0x10000 * p, 31, 1⟩
def GRT_WIN_CFG_RINGS_M1 (p : Nat) : Fld := ⟨0x710000 + 0x10000 * p, 24, 6⟩
def GRT_WIN_CFG_DEPTH_LOG2 (p : Nat) : Fld := ⟨0x710000 + 0x10000 * p, 20, 4⟩
def GRT_WIN_CFG_SLOT_SZ (p : Nat) : Fld := ⟨0x710000 + 0x10000 * p, 16, 4⟩
def GRT_WIN_CFG_SIZE (p : Nat) : Fld := ⟨0x710000 + 0x10000 * p, 8, 8⟩
-- GRT_WIN_STS: R104 (03)
def GRT_WIN_STS_READY (p : Nat) : Fld := ⟨0x710004 + 0x10000 * p, 31, 1⟩
def GRT_WIN_STS_RESETTING (p : Nat) : Fld := ⟨0x710004 + 0x10000 * p, 30, 1⟩
def GRT_WIN_STS_FREE_SLOTS (p : Nat) : Fld := ⟨0x710004 + 0x10000 * p, 0, 17⟩
-- GRT_WIN_ERR: R104 (03)
def GRT_WIN_ERR_DB_MISS (p : Nat) : Fld := ⟨0x710008 + 0x10000 * p, 5, 1⟩
def GRT_WIN_ERR_DB_RANGE (p : Nat) : Fld := ⟨0x710008 + 0x10000 * p, 4, 1⟩
def GRT_WIN_ERR_LAYOUT (p : Nat) : Fld := ⟨0x710008 + 0x10000 * p, 3, 1⟩
def GRT_WIN_ERR_DATA_FAULT (p : Nat) : Fld := ⟨0x710008 + 0x10000 * p, 2, 1⟩
def GRT_WIN_ERR_SLOT_TO (p : Nat) : Fld := ⟨0x710008 + 0x10000 * p, 1, 1⟩
def GRT_WIN_ERR_PROTO (p : Nat) : Fld := ⟨0x710008 + 0x10000 * p, 0, 1⟩
-- GRT_SLOT_TO: R104 (03)
def GRT_SLOT_TO_TIMEOUT (p : Nat) : Fld := ⟨0x71000c + 0x10000 * p, 0, 32⟩
-- GRT_PROTO_CNT: R104 (03)
def GRT_PROTO_CNT_COUNT (p : Nat) : Fld := ⟨0x710010 + 0x10000 * p, 0, 32⟩
-- GRT_IRQ_EN: R104 (03)
def GRT_IRQ_EN_EN (p : Nat) : Fld := ⟨0x710014 + 0x10000 * p, 0, 4⟩
-- GRT_WIN_SLOTS: R104 (03)
def GRT_WIN_SLOTS_SLOTS (p : Nat) : Fld := ⟨0x710018 + 0x10000 * p, 0, 17⟩
-- GRT_OFF_CRING: R104 (03)
def GRT_OFF_CRING_OFFSET (p : Nat) : Fld := ⟨0x710020 + 0x10000 * p, 0, 35⟩
-- GRT_OFF_CPL: R104 (03)
def GRT_OFF_CPL_OFFSET (p : Nat) : Fld := ⟨0x710028 + 0x10000 * p, 0, 35⟩
-- GRT_OFF_FLAG: R104 (03)
def GRT_OFF_FLAG_OFFSET (p : Nat) : Fld := ⟨0x710030 + 0x10000 * p, 0, 35⟩
-- GRT_OFF_DATA: R104 (03)
def GRT_OFF_DATA_OFFSET (p : Nat) : Fld := ⟨0x710038 + 0x10000 * p, 0, 35⟩
-- GRT_CMD_DB[r]: R104 (03)
def GRT_CMD_DB_INDEX (p : Nat) (r : Nat) : Fld := ⟨0x710100 + 0x10000 * p + 0x8 * r, 0, 16⟩
-- GRT_CPL_DB[r]: R104 (03)
def GRT_CPL_DB_INDEX (p : Nat) (r : Nat) : Fld := ⟨0x710104 + 0x10000 * p + 0x8 * r, 0, 16⟩
-- GRT_DONE_DB: R104 (03)
def GRT_DONE_DB_SLOT (p : Nat) : Fld := ⟨0x710400 + 0x10000 * p, 0, 16⟩
-- GRT_SLOT_SEL: R104 (03)
def GRT_SLOT_SEL_SLOT (p : Nat) : Fld := ⟨0x710408 + 0x10000 * p, 0, 16⟩
-- GRT_SLOT_OWN: R104 (03)
def GRT_SLOT_OWN_WORD (p : Nat) : Fld := ⟨0x710410 + 0x10000 * p, 0, 64⟩
-- BEL_CTL: R137 (04)
def BEL_CTL_FETCH_EN : Fld := ⟨0x600000, 0, 2⟩
-- BEL_STS: R137 (04)
def BEL_STS_FORMATS : Fld := ⟨0x600004, 5, 5⟩
def BEL_STS_SANITIZING : Fld := ⟨0x600004, 4, 1⟩
def BEL_STS_DIRTY_STOP : Fld := ⟨0x600004, 3, 1⟩
def BEL_STS_ENTERING : Fld := ⟨0x600004, 2, 1⟩
def BEL_STS_HEAD_PS : Fld := ⟨0x600004, 0, 2⟩
-- BEL_DIRTY_BOUND: R137 (04)
def BEL_DIRTY_BOUND_LIMIT : Fld := ⟨0x600008, 0, 11⟩
-- BEL_ERR: R137 (04)
def BEL_ERR_HWM_BAD : Fld := ⟨0x60000c, 2, 1⟩
def BEL_ERR_CAPACITY : Fld := ⟨0x60000c, 1, 1⟩
def BEL_ERR_CFG : Fld := ⟨0x60000c, 0, 1⟩
-- BEL_DIRTY: R137 (04)
def BEL_DIRTY_BYTES : Fld := ⟨0x600010, 0, 31⟩
-- BEL_SEQ_NEXT: R137 (04)
def BEL_SEQ_NEXT_SEQ : Fld := ⟨0x600018, 0, 64⟩
-- BEL_STALL_CNT: R137 (04)
def BEL_STALL_CNT_COUNT : Fld := ⟨0x600020, 0, 32⟩
-- BEL_VOL_SEL: R137 (04)
def BEL_VOL_SEL_VOL : Fld := ⟨0x600024, 0, 14⟩
-- BEL_VOL_CFG: R137 (04)
def BEL_VOL_CFG_PRESENT : Fld := ⟨0x600028, 31, 1⟩
def BEL_VOL_CFG_OWNER : Fld := ⟨0x600028, 30, 1⟩
def BEL_VOL_CFG_RO : Fld := ⟨0x600028, 29, 1⟩
def BEL_VOL_CFG_ATTACH : Fld := ⟨0x600028, 24, 4⟩
def BEL_VOL_CFG_DOMAIN : Fld := ⟨0x600028, 0, 12⟩
-- BEL_VOL_SIZE: R137 (04)
def BEL_VOL_SIZE_GRANULES : Fld := ⟨0x600030, 0, 39⟩
-- STV_CTL: R169 (05)
def STV_CTL_DMA_LOCK (n : Nat) : Fld := ⟨0x1000000 + 0x200000 * n, 2, 1⟩
def STV_CTL_FENCE (n : Nat) : Fld := ⟨0x1000000 + 0x200000 * n, 1, 1⟩
def STV_CTL_EN (n : Nat) : Fld := ⟨0x1000000 + 0x200000 * n, 0, 1⟩
-- STV_STS: R169 (05)
def STV_STS_FENCED (n : Nat) : Fld := ⟨0x1000004 + 0x200000 * n, 31, 1⟩
def STV_STS_UNSIGNED (n : Nat) : Fld := ⟨0x1000004 + 0x200000 * n, 30, 1⟩
def STV_STS_QUEUED (n : Nat) : Fld := ⟨0x1000004 + 0x200000 * n, 4, 9⟩
def STV_STS_BUSY (n : Nat) : Fld := ⟨0x1000004 + 0x200000 * n, 0, 4⟩
-- STV_FAULT: R169 (05)
def STV_FAULT_UNIT_CODE (n : Nat) : Fld := ⟨0x1000008 + 0x200000 * n, 8, 8⟩
def STV_FAULT_STRAND (n : Nat) : Fld := ⟨0x1000008 + 0x200000 * n, 0, 4⟩
-- STV_WI_TO: R169 (05)
def STV_WI_TO_TIMEOUT (n : Nat) : Fld := ⟨0x100000c + 0x200000 * n, 0, 32⟩
-- STV_STRAND_STS[s], s = 0–3: R169 (05)
def STV_STRAND_STS_STATE (n : Nat) (s : Nat) : Fld := ⟨0x1000020 + 0x200000 * n + 0x4 * s, 30, 2⟩
def STV_STRAND_STS_OUT (n : Nat) (s : Nat) : Fld := ⟨0x1000020 + 0x200000 * n + 0x4 * s, 16, 5⟩
def STV_STRAND_STS_PC (n : Nat) (s : Nat) : Fld := ⟨0x1000020 + 0x200000 * n + 0x4 * s, 0, 13⟩
-- STV_STRAND_FLT[s]: R169 (05)
def STV_STRAND_FLT_CODE (n : Nat) (s : Nat) : Fld := ⟨0x1000040 + 0x200000 * n + 0x4 * s, 24, 8⟩
def STV_STRAND_FLT_PC (n : Nat) (s : Nat) : Fld := ⟨0x1000040 + 0x200000 * n + 0x4 * s, 0, 13⟩
-- STV_LOAD_ADDR: R169 (05)
def STV_LOAD_ADDR_ADDR (n : Nat) : Fld := ⟨0x1000100 + 0x200000 * n, 0, 64⟩
-- STV_LOAD_CTL: R169 (05)
def STV_LOAD_CTL_GO (n : Nat) : Fld := ⟨0x1000108 + 0x200000 * n, 31, 1⟩
def STV_LOAD_CTL_OP (n : Nat) : Fld := ⟨0x1000108 + 0x200000 * n, 29, 2⟩
def STV_LOAD_CTL_SLOT (n : Nat) : Fld := ⟨0x1000108 + 0x200000 * n, 16, 4⟩
def STV_LOAD_CTL_BASE64 (n : Nat) : Fld := ⟨0x1000108 + 0x200000 * n, 0, 7⟩
-- STV_LOAD_STS: R169 (05)
def STV_LOAD_STS_BUSY (n : Nat) : Fld := ⟨0x100010c + 0x200000 * n, 31, 1⟩
def STV_LOAD_STS_RESULT (n : Nat) : Fld := ⟨0x100010c + 0x200000 * n, 0, 8⟩
-- STV_PSLOT[i], i = 0–15: R169 (05)
def STV_PSLOT_STATE (n : Nat) (i : Nat) : Fld := ⟨0x1000200 + 0x200000 * n + 0x8 * i, 62, 2⟩
def STV_PSLOT_UNSIGNED (n : Nat) (i : Nat) : Fld := ⟨0x1000200 + 0x200000 * n + 0x8 * i, 61, 1⟩
def STV_PSLOT_KEY (n : Nat) (i : Nat) : Fld := ⟨0x1000200 + 0x200000 * n + 0x8 * i, 48, 2⟩
def STV_PSLOT_PGM_ID (n : Nat) (i : Nat) : Fld := ⟨0x1000200 + 0x200000 * n + 0x8 * i, 32, 16⟩
def STV_PSLOT_VERSION (n : Nat) (i : Nat) : Fld := ⟨0x1000200 + 0x200000 * n + 0x8 * i, 16, 16⟩
def STV_PSLOT_SIZE64 (n : Nat) (i : Nat) : Fld := ⟨0x1000200 + 0x200000 * n + 0x8 * i, 7, 8⟩
def STV_PSLOT_BASE64 (n : Nat) (i : Nat) : Fld := ⟨0x1000200 + 0x200000 * n + 0x8 * i, 0, 7⟩
-- STV_PKH[k] word w, k = 1–3, w = 0–11: R169 (05)
def STV_PKH_HASH (n : Nat) (k : Nat) (w : Nat) : Fld := ⟨0x1000400 + 0x200000 * n + 0x40 * (k + 1) + 0x4 * w, 0, 32⟩
-- STV_POL_SEL: R169 (05)
def STV_POL_SEL_VOL (n : Nat) : Fld := ⟨0x1000500 + 0x200000 * n, 0, 14⟩
-- STV_POL: R169 (05)
def STV_POL_PGM (n : Nat) : Fld := ⟨0x1000504 + 0x200000 * n, 16, 16⟩
def STV_POL_REPL (n : Nat) : Fld := ⟨0x1000504 + 0x200000 * n, 8, 1⟩
def STV_POL_BLK_M1 (n : Nat) : Fld := ⟨0x1000504 + 0x200000 * n, 4, 3⟩
def STV_POL_ENCRYPT (n : Nat) : Fld := ⟨0x1000504 + 0x200000 * n, 3, 1⟩
def STV_POL_COMPRESS (n : Nat) : Fld := ⟨0x1000504 + 0x200000 * n, 2, 1⟩
def STV_POL_VERIFY (n : Nat) : Fld := ⟨0x1000504 + 0x200000 * n, 1, 1⟩
def STV_POL_DEDUP (n : Nat) : Fld := ⟨0x1000504 + 0x200000 * n, 0, 1⟩
-- STV_WI_POST word w, w = 0–15: R169 (05)
def STV_WI_POST_DATA (n : Nat) (w : Nat) : Fld := ⟨0x1000800 + 0x200000 * n + 0x4 * w, 0, 32⟩
-- STV_DMA_BASE[w], w = 0–3: R169 (05)
def STV_DMA_BASE_ADDR (n : Nat) (w : Nat) : Fld := ⟨0x10a0000 + 0x200000 * n + 0x10 * w, 0, 64⟩
-- STV_DMA_LIMIT[w]: R169 (05)
def STV_DMA_LIMIT_ADDR (n : Nat) (w : Nat) : Fld := ⟨0x10a0008 + 0x200000 * n + 0x10 * w, 0, 64⟩
-- CZ_CTL: R230 (07)
def CZ_CTL_FORCE_RAW (n : Nat) : Fld := ⟨0x1020000 + 0x200000 * n, 0, 1⟩
-- CZ_STS: R230 (07)
def CZ_STS_LANE_OFF (n : Nat) : Fld := ⟨0x1020004 + 0x200000 * n, 24, 6⟩
def CZ_STS_CBUSY (n : Nat) : Fld := ⟨0x1020004 + 0x200000 * n, 16, 6⟩
def CZ_STS_DBUSY (n : Nat) : Fld := ⟨0x1020004 + 0x200000 * n, 8, 8⟩
-- CZ_ERR: R230 (07)
def CZ_ERR_LANE_OFF (n : Nat) : Fld := ⟨0x1020008 + 0x200000 * n, 4, 1⟩
def CZ_ERR_DEC_HDR (n : Nat) : Fld := ⟨0x1020008 + 0x200000 * n, 3, 1⟩
def CZ_ERR_DEC_CRC (n : Nat) : Fld := ⟨0x1020008 + 0x200000 * n, 2, 1⟩
def CZ_ERR_DEC_OVER (n : Nat) : Fld := ⟨0x1020008 + 0x200000 * n, 1, 1⟩
def CZ_ERR_RECODE (n : Nat) : Fld := ⟨0x1020008 + 0x200000 * n, 0, 1⟩
-- CZ_IRQ_EN: R230 (07)
def CZ_IRQ_EN_EN (n : Nat) : Fld := ⟨0x102000c + 0x200000 * n, 0, 5⟩
-- CZ_BLK_CNT: R230 (07)
def CZ_BLK_CNT_COUNT (n : Nat) : Fld := ⟨0x1020010 + 0x200000 * n, 0, 64⟩
-- CZ_RAW_CNT: R230 (07)
def CZ_RAW_CNT_COUNT (n : Nat) : Fld := ⟨0x1020018 + 0x200000 * n, 0, 64⟩
-- CZ_IN_BYTES: R230 (07)
def CZ_IN_BYTES_COUNT (n : Nat) : Fld := ⟨0x1020020 + 0x200000 * n, 0, 64⟩
-- CZ_OUT_BYTES: R230 (07)
def CZ_OUT_BYTES_COUNT (n : Nat) : Fld := ⟨0x1020028 + 0x200000 * n, 0, 64⟩
-- CZ_DEC_CNT: R230 (07)
def CZ_DEC_CNT_COUNT (n : Nat) : Fld := ⟨0x1020030 + 0x200000 * n, 0, 64⟩
-- CZ_RECODE_CNT: R230 (07)
def CZ_RECODE_CNT_COUNT (n : Nat) : Fld := ⟨0x1020038 + 0x200000 * n, 0, 32⟩
-- CZ_DEC_OVER_CNT: R230 (07)
def CZ_DEC_OVER_CNT_COUNT (n : Nat) : Fld := ⟨0x102003c + 0x200000 * n, 0, 32⟩
-- CZ_DEC_CRC_CNT: R230 (07)
def CZ_DEC_CRC_CNT_COUNT (n : Nat) : Fld := ⟨0x1020040 + 0x200000 * n, 0, 32⟩
-- CZ_DEC_HDR_CNT: R230 (07)
def CZ_DEC_HDR_CNT_COUNT (n : Nat) : Fld := ⟨0x1020044 + 0x200000 * n, 0, 32⟩
-- DDX_CTL: R261 (08)
def DDX_CTL_LOCK : Fld := ⟨0x900000, 2, 1⟩
def DDX_CTL_AUTO_SHIFT : Fld := ⟨0x900000, 1, 1⟩
def DDX_CTL_EN : Fld := ⟨0x900000, 0, 1⟩
-- DDX_STS: R261 (08)
def DDX_STS_READY : Fld := ⟨0x900004, 31, 1⟩
def DDX_STS_FULL : Fld := ⟨0x900004, 30, 1⟩
def DDX_STS_REBUILD : Fld := ⟨0x900004, 28, 2⟩
def DDX_STS_HELD : Fld := ⟨0x900004, 26, 2⟩
def DDX_STS_DIRECT : Fld := ⟨0x900004, 25, 1⟩
-- DDX_ERR: R261 (08)
def DDX_ERR_BSTORE_FULL : Fld := ⟨0x900008, 6, 1⟩
def DDX_ERR_CAPACITY : Fld := ⟨0x900008, 5, 1⟩
def DDX_ERR_PATH_FAIL : Fld := ⟨0x900008, 4, 1⟩
def DDX_ERR_SHIFT_UP : Fld := ⟨0x900008, 3, 1⟩
def DDX_ERR_PINNED : Fld := ⟨0x900008, 2, 1⟩
def DDX_ERR_VERIFY_DIFF : Fld := ⟨0x900008, 1, 1⟩
def DDX_ERR_BUCKET_BAD : Fld := ⟨0x900008, 0, 1⟩
-- DDX_BUDGET: R261 (08)
def DDX_BUDGET_BSTORE : Fld := ⟨0x90000c, 8, 8⟩
def DDX_BUDGET_UNITS : Fld := ⟨0x90000c, 0, 6⟩
-- DDX_SAMPLE: R261 (08)
def DDX_SAMPLE_SHIFT : Fld := ⟨0x900010, 0, 3⟩
-- DDX_GEN: R261 (08)
def DDX_GEN_GEN : Fld := ⟨0x900014, 0, 32⟩
-- DDX_RECLAIM: R261 (08)
def DDX_RECLAIM_GO : Fld := ⟨0x900018, 31, 1⟩
def DDX_RECLAIM_BUSY : Fld := ⟨0x900018, 30, 1⟩
-- DDX_DIR: R261 (08)
def DDX_DIR_DMAX : Fld := ⟨0x90001c, 24, 6⟩
def DDX_DIR_DEPTH1 : Fld := ⟨0x90001c, 8, 6⟩
def DDX_DIR_DEPTH0 : Fld := ⟨0x90001c, 0, 6⟩
-- DDX_ENTRIES[h]: R261 (08)
def DDX_ENTRIES_COUNT (h : Nat) : Fld := ⟨0x900020 + 0x8 * h, 0, 64⟩
-- DDX_UNIQUE[h]: R261 (08)
def DDX_UNIQUE_COUNT (h : Nat) : Fld := ⟨0x900030 + 0x8 * h, 0, 64⟩
-- DDX_LOOKUPS: R261 (08)
def DDX_LOOKUPS_COUNT : Fld := ⟨0x900040, 0, 64⟩
-- DDX_HITS: R261 (08)
def DDX_HITS_COUNT : Fld := ⟨0x900048, 0, 64⟩
-- DDX_FMISS: R261 (08)
def DDX_FMISS_COUNT : Fld := ⟨0x900050, 0, 64⟩
-- DDX_FPOS: R261 (08)
def DDX_FPOS_COUNT : Fld := ⟨0x900058, 0, 64⟩
-- DDX_PINNED_CNT: R261 (08)
def DDX_PINNED_CNT_COUNT : Fld := ⟨0x900060, 0, 32⟩
-- DDX_VERIFY_CNT: R261 (08)
def DDX_VERIFY_CNT_COUNT : Fld := ⟨0x900064, 0, 32⟩
-- DDX_PATH_FAIL_CNT: R261 (08)
def DDX_PATH_FAIL_CNT_COUNT : Fld := ⟨0x900068, 0, 32⟩
-- ICH_CTL: R286 (09)
def ICH_CTL_LOCK : Fld := ⟨0x800000, 1, 1⟩
def ICH_CTL_EN : Fld := ⟨0x800000, 0, 1⟩
-- ICH_STS: R286 (09)
def ICH_STS_READY : Fld := ⟨0x800004, 31, 1⟩
def ICH_STS_DRAINING : Fld := ⟨0x800004, 30, 1⟩
def ICH_STS_WB_OCC : Fld := ⟨0x800004, 0, 7⟩
-- ICH_ERR: R286 (09)
def ICH_ERR_DISABLED : Fld := ⟨0x800008, 4, 1⟩
def ICH_ERR_MNT_BUSY : Fld := ⟨0x800008, 3, 1⟩
def ICH_ERR_WB_ECC : Fld := ⟨0x800008, 2, 1⟩
def ICH_ERR_TAG_ECC : Fld := ⟨0x800008, 1, 1⟩
def ICH_ERR_DATA_ECC : Fld := ⟨0x800008, 0, 1⟩
-- ICH_IRQ_EN: R286 (09)
def ICH_IRQ_EN_EN : Fld := ⟨0x80000c, 0, 5⟩
-- ICH_WB_CFG: R286 (09)
def ICH_WB_CFG_HIGH : Fld := ⟨0x800010, 16, 6⟩
def ICH_WB_CFG_AGE : Fld := ⟨0x800010, 0, 16⟩
-- ICH_ECC_LIMIT: R286 (09)
def ICH_ECC_LIMIT_LIMIT : Fld := ⟨0x800014, 0, 16⟩
-- ICH_LOCKED: R286 (09)
def ICH_LOCKED_LINES : Fld := ⟨0x800018, 0, 18⟩
-- ICH_ECC_CNT: R286 (09)
def ICH_ECC_CNT_COUNT : Fld := ⟨0x80001c, 0, 32⟩
-- ICH_RGN_BASE[r], r = 0–7: R286 (09)
def ICH_RGN_BASE_ADDR (r : Nat) : Fld := ⟨0x800040 + 0x10 * r, 8, 34⟩
-- ICH_RGN_LIMIT[r]: R286 (09)
def ICH_RGN_LIMIT_ADDR (r : Nat) : Fld := ⟨0x800048 + 0x10 * r, 8, 34⟩
-- ICH_MNT_ADDR: R286 (09)
def ICH_MNT_ADDR_LINE : Fld := ⟨0x800100, 8, 34⟩
-- ICH_MNT_END: R286 (09)
def ICH_MNT_END_LINE : Fld := ⟨0x800108, 8, 34⟩
-- ICH_MNT_CTL: R286 (09)
def ICH_MNT_CTL_GO : Fld := ⟨0x800110, 31, 1⟩
def ICH_MNT_CTL_FORCE : Fld := ⟨0x800110, 5, 1⟩
def ICH_MNT_CTL_RANGE : Fld := ⟨0x800110, 4, 1⟩
def ICH_MNT_CTL_OP : Fld := ⟨0x800110, 0, 4⟩
-- ICH_MNT_STS: R286 (09)
def ICH_MNT_STS_BUSY : Fld := ⟨0x800114, 31, 1⟩
def ICH_MNT_STS_RESULT : Fld := ⟨0x800114, 0, 8⟩
-- ICH_MNT_SKIP: R286 (09)
def ICH_MNT_SKIP_COUNT : Fld := ⟨0x800118, 0, 32⟩
-- ICH_MNT_DONE: R286 (09)
def ICH_MNT_DONE_COUNT : Fld := ⟨0x80011c, 0, 32⟩
-- ICH_HITS: R286 (09)
def ICH_HITS_COUNT : Fld := ⟨0x800200, 0, 64⟩
-- ICH_MISSES: R286 (09)
def ICH_MISSES_COUNT : Fld := ⟨0x800208, 0, 64⟩
-- ICH_SB_HITS: R286 (09)
def ICH_SB_HITS_COUNT : Fld := ⟨0x800210, 0, 64⟩
-- ICH_PF_ISSUED: R286 (09)
def ICH_PF_ISSUED_COUNT : Fld := ⟨0x800218, 0, 64⟩
-- ICH_PF_UNUSED: R286 (09)
def ICH_PF_UNUSED_COUNT : Fld := ⟨0x800220, 0, 64⟩
-- ICH_WB_MERGES: R286 (09)
def ICH_WB_MERGES_COUNT : Fld := ⟨0x800228, 0, 64⟩
-- DG_CTL: R301 (10)
def DG_CTL_SLICE (n : Nat) : Fld := ⟨0x1040000 + 0x200000 * n, 0, 16⟩
-- DG_STS: R301 (10)
def DG_STS_LANE_BUSY (n : Nat) : Fld := ⟨0x1040004 + 0x200000 * n, 16, 4⟩
def DG_STS_FINISHED (n : Nat) : Fld := ⟨0x1040004 + 0x200000 * n, 8, 8⟩
def DG_STS_HELD (n : Nat) : Fld := ⟨0x1040004 + 0x200000 * n, 0, 8⟩
-- DG_ERR: R301 (10)
def DG_ERR_VERDICT (n : Nat) : Fld := ⟨0x1040008 + 0x200000 * n, 2, 1⟩
def DG_ERR_KEY_DENIED (n : Nat) : Fld := ⟨0x1040008 + 0x200000 * n, 1, 1⟩
def DG_ERR_TRUNC (n : Nat) : Fld := ⟨0x1040008 + 0x200000 * n, 0, 1⟩
-- DG_TRUNC_CNT: R301 (10)
def DG_TRUNC_CNT_COUNT (n : Nat) : Fld := ⟨0x104000c + 0x200000 * n, 0, 32⟩
-- DG_BYTES: R301 (10)
def DG_BYTES_COUNT (n : Nat) : Fld := ⟨0x1040010 + 0x200000 * n, 0, 64⟩
-- DG_CTX[c], c = 0–7: R301 (10)
def DG_CTX_STATE (n : Nat) (c : Nat) : Fld := ⟨0x1040100 + 0x200000 * n + 0x4 * c, 30, 2⟩
def DG_CTX_ALG (n : Nat) (c : Nat) : Fld := ⟨0x1040100 + 0x200000 * n + 0x4 * c, 28, 2⟩
def DG_CTX_STRAND (n : Nat) (c : Nat) : Fld := ⟨0x1040100 + 0x200000 * n + 0x4 * c, 26, 2⟩
def DG_CTX_TRUNC (n : Nat) (c : Nat) : Fld := ⟨0x1040100 + 0x200000 * n + 0x4 * c, 25, 1⟩
def DG_CTX_SHORT (n : Nat) (c : Nat) : Fld := ⟨0x1040100 + 0x200000 * n + 0x4 * c, 24, 1⟩
def DG_CTX_RESNUM (n : Nat) (c : Nat) : Fld := ⟨0x1040100 + 0x200000 * n + 0x4 * c, 16, 8⟩
-- DG_VERD[c]: R301 (10)
def DG_VERD_VBN (n : Nat) (c : Nat) : Fld := ⟨0x1040180 + 0x200000 * n + 0x4 * c, 8, 8⟩
def DG_VERD_VB (n : Nat) (c : Nat) : Fld := ⟨0x1040180 + 0x200000 * n + 0x4 * c, 0, 8⟩
-- DG_DECL[c]: R301 (10)
def DG_DECL_COUNT (n : Nat) (c : Nat) : Fld := ⟨0x1040200 + 0x200000 * n + 0x10 * c, 0, 64⟩
-- DG_ABSD[c]: R301 (10)
def DG_ABSD_COUNT (n : Nat) (c : Nat) : Fld := ⟨0x1040208 + 0x200000 * n + 0x10 * c, 0, 64⟩
-- DG_RES[c][w], w = 0–7: R301 (10)
def DG_RES_WORD (n : Nat) (c : Nat) (w : Nat) : Fld := ⟨0x1040400 + 0x200000 * n + 0x40 * c + 0x8 * w, 0, 64⟩
-- CI_CTL: R324 (11)
def CI_CTL_URG_EXP (n : Nat) : Fld := ⟨0x1060000 + 0x200000 * n, 0, 1⟩
-- CI_LOCK: R324 (11)
def CI_LOCK_HELD (n : Nat) : Fld := ⟨0x1060004 + 0x200000 * n, 31, 1⟩
def CI_LOCK_HOLDER (n : Nat) : Fld := ⟨0x1060004 + 0x200000 * n, 29, 2⟩
def CI_LOCK_URGENT (n : Nat) : Fld := ⟨0x1060004 + 0x200000 * n, 28, 1⟩
def CI_LOCK_SUSP (n : Nat) : Fld := ⟨0x1060004 + 0x200000 * n, 27, 1⟩
def CI_LOCK_SUSP_STRAND (n : Nat) : Fld := ⟨0x1060004 + 0x200000 * n, 25, 2⟩
def CI_LOCK_SLOT (n : Nat) : Fld := ⟨0x1060004 + 0x200000 * n, 12, 12⟩
def CI_LOCK_SUSP_SLOT (n : Nat) : Fld := ⟨0x1060004 + 0x200000 * n, 0, 12⟩
-- CI_ERR: R324 (11)
def CI_ERR_VERDICT (n : Nat) : Fld := ⟨0x1060008 + 0x200000 * n, 2, 1⟩
def CI_ERR_KEY_DENIED (n : Nat) : Fld := ⟨0x1060008 + 0x200000 * n, 1, 1⟩
def CI_ERR_TAG_FAIL (n : Nat) : Fld := ⟨0x1060008 + 0x200000 * n, 0, 1⟩
-- CI_SUSP_CNT: R324 (11)
def CI_SUSP_CNT_COUNT (n : Nat) : Fld := ⟨0x106000c + 0x200000 * n, 0, 32⟩
-- CI_TAG_FAIL_CNT: R324 (11)
def CI_TAG_FAIL_CNT_COUNT (n : Nat) : Fld := ⟨0x1060010 + 0x200000 * n, 0, 32⟩
-- CI_DENY_CNT: R324 (11)
def CI_DENY_CNT_COUNT (n : Nat) : Fld := ⟨0x1060014 + 0x200000 * n, 0, 32⟩
-- CI_BYTES: R324 (11)
def CI_BYTES_COUNT (n : Nat) : Fld := ⟨0x1060018 + 0x200000 * n, 0, 64⟩
-- KEY_STS: R325 (11)
def KEY_STS_BUSY : Fld := ⟨0x3100000, 31, 1⟩
def KEY_STS_AROOT : Fld := ⟨0x3100000, 30, 1⟩
def KEY_STS_DROOT : Fld := ⟨0x3100000, 29, 1⟩
def KEY_STS_DERIVED : Fld := ⟨0x3100000, 0, 16⟩
-- KEY_ERR: R325 (11)
def KEY_ERR_CMD_FAIL : Fld := ⟨0x3100004, 1, 1⟩
def KEY_ERR_KEY_DENIED : Fld := ⟨0x3100004, 0, 1⟩
-- KEY_SLOT_SEL: R325 (11)
def KEY_SLOT_SEL_SLOT : Fld := ⟨0x3100008, 0, 12⟩
-- KEY_SLOT_ATTR: R325 (11)
def KEY_SLOT_ATTR_VALID : Fld := ⟨0x310000c, 31, 1⟩
def KEY_SLOT_ATTR_CUR_CLASS : Fld := ⟨0x310000c, 16, 2⟩
def KEY_SLOT_ATTR_CLASS : Fld := ⟨0x310000c, 0, 2⟩
-- KEY_SLOT_CMD: R325 (11)
def KEY_SLOT_CMD_GO : Fld := ⟨0x3100010, 31, 1⟩
def KEY_SLOT_CMD_BUSY : Fld := ⟨0x3100010, 30, 1⟩
def KEY_SLOT_CMD_OP : Fld := ⟨0x3100010, 16, 4⟩
def KEY_SLOT_CMD_RESULT : Fld := ⟨0x3100010, 0, 8⟩
-- KEY_SLOT_KCV: R325 (11)
def KEY_SLOT_KCV_KCV : Fld := ⟨0x3100014, 0, 32⟩
-- KEY_DATA[w], w = 0–15: R325 (11)
def KEY_DATA_DATA (w : Nat) : Fld := ⟨0x3100040 + 0x4 * w, 0, 32⟩
-- KEY_WRAP[w], w = 0–25: R325 (11)
def KEY_WRAP_DATA (w : Nat) : Fld := ⟨0x3100080 + 0x4 * w, 0, 32⟩
-- KEY_DGEN[s], s = 0–15: R325 (11)
def KEY_DGEN_GEN (s : Nat) : Fld := ⟨0x3100100 + 0x4 * s, 0, 32⟩
-- DRV_CTL: R355 (12)
def DRV_CTL_CFG_ERR : Fld := ⟨0xd00000, 2, 1⟩
def DRV_CTL_LOCK : Fld := ⟨0xd00000, 1, 1⟩
def DRV_CTL_EN : Fld := ⟨0xd00000, 0, 1⟩
-- DRV_STS: R355 (12)
def DRV_STS_READY : Fld := ⟨0xd00004, 31, 1⟩
def DRV_STS_REBUILDING : Fld := ⟨0xd00004, 30, 1⟩
def DRV_STS_FAILED : Fld := ⟨0xd00004, 0, 8⟩
-- DRV_ERR: R355 (12)
def DRV_ERR_LINK_DOWN : Fld := ⟨0xd00008, 6, 1⟩
def DRV_ERR_STRIPE_LOST : Fld := ⟨0xd00008, 5, 1⟩
def DRV_ERR_RESV : Fld := ⟨0xd00008, 4, 1⟩
def DRV_ERR_MISPLACED : Fld := ⟨0xd00008, 3, 1⟩
def DRV_ERR_DRIVE_FAIL : Fld := ⟨0xd00008, 2, 1⟩
def DRV_ERR_TIMEOUT : Fld := ⟨0xd00008, 1, 1⟩
def DRV_ERR_MEDIA : Fld := ⟨0xd00008, 0, 1⟩
-- DRV_GEOM: R355 (12)
def DRV_GEOM_OPEN : Fld := ⟨0xd0000c, 20, 4⟩
def DRV_GEOM_M_META : Fld := ⟨0xd0000c, 16, 2⟩
def DRV_GEOM_M : Fld := ⟨0xd0000c, 8, 2⟩
def DRV_GEOM_K : Fld := ⟨0xd0000c, 0, 5⟩
-- DRV_CMD_TO: R355 (12)
def DRV_CMD_TO_TIMEOUT : Fld := ⟨0xd00010, 0, 16⟩
-- DRV_RBLD_CFG: R355 (12)
def DRV_RBLD_CFG_MEDIA_LIMIT : Fld := ⟨0xd00014, 16, 8⟩
def DRV_RBLD_CFG_AUTO : Fld := ⟨0xd00014, 8, 1⟩
def DRV_RBLD_CFG_SHARE : Fld := ⟨0xd00014, 0, 8⟩
-- DRV_BIF: R355 (12)
def DRV_BIF_MODE : Fld := ⟨0xd00018, 0, 8⟩
-- DRV_RECLAIM_DLY: R355 (12)
def DRV_RECLAIM_DLY_DELAY : Fld := ⟨0xd0001c, 0, 32⟩
-- DRV_READ_BYTES: R355 (12)
def DRV_READ_BYTES_COUNT : Fld := ⟨0xd00020, 0, 64⟩
-- DRV_WRITE_BYTES: R355 (12)
def DRV_WRITE_BYTES_COUNT : Fld := ⟨0xd00028, 0, 64⟩
-- DRV_MEDIA_CNT: R355 (12)
def DRV_MEDIA_CNT_COUNT : Fld := ⟨0xd00030, 0, 32⟩
-- DRV_TO_CNT: R355 (12)
def DRV_TO_CNT_COUNT : Fld := ⟨0xd00034, 0, 32⟩
-- DRV_RBLD_LEFT: R355 (12)
def DRV_RBLD_LEFT_STRIPES : Fld := ⟨0xd00038, 0, 23⟩
-- DRV_STRIPE_BASE: R355 (12)
def DRV_STRIPE_BASE_ADDR : Fld := ⟨0xd00040, 0, 64⟩
-- DRV_STRIPE_CNT: R355 (12)
def DRV_STRIPE_CNT_COUNT : Fld := ⟨0xd00048, 0, 23⟩
-- DRV_PORT_STS[p]: R355 (12)
def DRV_PORT_STS_EXISTS (p : Nat) : Fld := ⟨0xd00100 + 0x4 * p, 31, 1⟩
def DRV_PORT_STS_DL_UP (p : Nat) : Fld := ⟨0xd00100 + 0x4 * p, 30, 1⟩
def DRV_PORT_STS_RATE (p : Nat) : Fld := ⟨0xd00100 + 0x4 * p, 27, 3⟩
def DRV_PORT_STS_WIDTH (p : Nat) : Fld := ⟨0xd00100 + 0x4 * p, 22, 5⟩
def DRV_PORT_STS_DRIVES (p : Nat) : Fld := ⟨0xd00100 + 0x4 * p, 0, 8⟩
-- DRV_DRV_SEL: R355 (12)
def DRV_DRV_SEL_DRIVE : Fld := ⟨0xd00200, 0, 7⟩
-- DRV_DRV_CFG: R355 (12)
def DRV_DRV_CFG_PRESENT : Fld := ⟨0xd00208, 63, 1⟩
def DRV_DRV_CFG_SPARE : Fld := ⟨0xd00208, 62, 1⟩
def DRV_DRV_CFG_FDP : Fld := ⟨0xd00208, 61, 1⟩
def DRV_DRV_CFG_ZSZ_LOG2 : Fld := ⟨0xd00208, 56, 5⟩
def DRV_DRV_CFG_PORT : Fld := ⟨0xd00208, 51, 5⟩
def DRV_DRV_CFG_BUS : Fld := ⟨0xd00208, 43, 8⟩
def DRV_DRV_CFG_DEV : Fld := ⟨0xd00208, 38, 5⟩
def DRV_DRV_CFG_FN : Fld := ⟨0xd00208, 35, 3⟩
def DRV_DRV_CFG_NSID : Fld := ⟨0xd00208, 0, 32⟩
-- DRV_DRV_STS: R355 (12)
def DRV_DRV_STS_STATE : Fld := ⟨0xd00210, 30, 2⟩
def DRV_DRV_STS_RESV : Fld := ⟨0xd00210, 29, 1⟩
def DRV_DRV_STS_LINK : Fld := ⟨0xd00210, 28, 1⟩
def DRV_DRV_STS_ACTIVE : Fld := ⟨0xd00210, 0, 16⟩
-- DRV_DRV_CTL: R355 (12)
def DRV_DRV_CTL_FAIL : Fld := ⟨0xd00214, 0, 1⟩
-- JNL_CTL: R383 (13)
def JNL_CTL_RELOC_EN : Fld := ⟨0xc00000, 16, 1⟩
def JNL_CTL_LOW : Fld := ⟨0xc00000, 0, 16⟩
-- JNL_STS: R383 (13)
def JNL_STS_READY : Fld := ⟨0xc00004, 31, 1⟩
def JNL_STS_RECOVERING : Fld := ⟨0xc00004, 30, 1⟩
def JNL_STS_STOP : Fld := ⟨0xc00004, 29, 1⟩
def JNL_STS_LAP : Fld := ⟨0xc00004, 19, 8⟩
def JNL_STS_FREE : Fld := ⟨0xc00004, 0, 19⟩
-- JNL_ERR: R383 (13)
def JNL_ERR_OPT_FAIL : Fld := ⟨0xc00008, 5, 1⟩
def JNL_ERR_LOST : Fld := ⟨0xc00008, 4, 1⟩
def JNL_ERR_BODY_BAD : Fld := ⟨0xc00008, 3, 1⟩
def JNL_ERR_STOP : Fld := ⟨0xc00008, 2, 1⟩
def JNL_ERR_ECC_UNC : Fld := ⟨0xc00008, 1, 1⟩
def JNL_ERR_THROTTLE : Fld := ⟨0xc00008, 0, 1⟩
-- JNL_IRQ_EN: R383 (13)
def JNL_IRQ_EN_EN : Fld := ⟨0xc0000c, 0, 6⟩
-- JNL_PTR: R383 (13)
def JNL_PTR_TAIL : Fld := ⟨0xc00010, 32, 19⟩
def JNL_PTR_HEAD : Fld := ⟨0xc00010, 0, 19⟩
-- JNL_RECS: R383 (13)
def JNL_RECS_COUNT : Fld := ⟨0xc00018, 0, 64⟩
-- JNL_RETIRED: R383 (13)
def JNL_RETIRED_COUNT : Fld := ⟨0xc00020, 0, 64⟩
-- JNL_RCV: R383 (13)
def JNL_RCV_FOUND : Fld := ⟨0xc00028, 32, 32⟩
def JNL_RCV_LOST : Fld := ⟨0xc00028, 0, 32⟩
-- JNL_RELOC_CNT: R383 (13)
def JNL_RELOC_CNT_COUNT : Fld := ⟨0xc00030, 0, 32⟩
-- JNL_ECC_CNT: R383 (13)
def JNL_ECC_CNT_COUNT : Fld := ⟨0xc00034, 0, 32⟩
-- JNL_OPT_CMD: R383 (13)
def JNL_OPT_CMD_GO : Fld := ⟨0xc00100, 31, 1⟩
def JNL_OPT_CMD_BUSY : Fld := ⟨0xc00100, 30, 1⟩
def JNL_OPT_CMD_RESULT : Fld := ⟨0xc00100, 0, 8⟩
-- JNL_OPT_STS: R383 (13)
def JNL_OPT_STS_VALID1 : Fld := ⟨0xc00104, 31, 1⟩
def JNL_OPT_STS_VALID0 : Fld := ⟨0xc00104, 30, 1⟩
def JNL_OPT_STS_CUR : Fld := ⟨0xc00104, 29, 1⟩
def JNL_OPT_STS_PEND : Fld := ⟨0xc00104, 28, 1⟩
def JNL_OPT_STS_UPDATES : Fld := ⟨0xc00104, 0, 16⟩
-- JNL_OPT_DATA[w], w = 0–63: R383 (13)
def JNL_OPT_DATA_DATA (w : Nat) : Fld := ⟨0xc00200 + 0x4 * w, 0, 32⟩
-- JNL_OPT_CUR[w], w = 0–63: R383 (13)
def JNL_OPT_CUR_DATA (w : Nat) : Fld := ⟨0xc00300 + 0x4 * w, 0, 32⟩
-- CRL_CTL: R421 (14)
def CRL_CTL_ARB_DELAY : Fld := ⟨0xa00000, 16, 16⟩
def CRL_CTL_EN : Fld := ⟨0xa00000, 0, 1⟩
-- CRL_STS: R421 (14)
def CRL_STS_SESSION : Fld := ⟨0xa00004, 31, 1⟩
def CRL_STS_LINK_UP : Fld := ⟨0xa00004, 30, 1⟩
def CRL_STS_PFAULT : Fld := ⟨0xa00004, 29, 1⟩
def CRL_STS_LOST : Fld := ⟨0xa00004, 28, 1⟩
def CRL_STS_MISS : Fld := ⟨0xa00004, 25, 3⟩
def CRL_STS_JOIN_FAIL : Fld := ⟨0xa00004, 22, 3⟩
def CRL_STS_RATE : Fld := ⟨0xa00004, 21, 1⟩
def CRL_STS_WIDTH : Fld := ⟨0xa00004, 16, 5⟩
def CRL_STS_LANES_UP : Fld := ⟨0xa00004, 0, 16⟩
-- CRL_ERR: R421 (14)
def CRL_ERR_ARB_LOST : Fld := ⟨0xa00008, 8, 1⟩
def CRL_ERR_JOIN_REFUSED : Fld := ⟨0xa00008, 7, 1⟩
def CRL_ERR_HB_MISS : Fld := ⟨0xa00008, 6, 1⟩
def CRL_ERR_AUTH_FAIL : Fld := ⟨0xa00008, 5, 1⟩
def CRL_ERR_MIR_MISMATCH : Fld := ⟨0xa00008, 4, 1⟩
def CRL_ERR_MSG_FAULT : Fld := ⟨0xa00008, 3, 1⟩
def CRL_ERR_LINK_DOWN : Fld := ⟨0xa00008, 2, 1⟩
def CRL_ERR_REPLAY_LIM : Fld := ⟨0xa00008, 1, 1⟩
def CRL_ERR_FEC_UNC : Fld := ⟨0xa00008, 0, 1⟩
-- CRL_IRQ_EN: R421 (14)
def CRL_IRQ_EN_EN : Fld := ⟨0xa0000c, 0, 9⟩
-- CRL_TIMERS: R421 (14)
def CRL_TIMERS_REPLAY_MAX : Fld := ⟨0xa00010, 24, 8⟩
def CRL_TIMERS_REPLAY_TO : Fld := ⟨0xa00010, 16, 8⟩
def CRL_TIMERS_LINK_TO : Fld := ⟨0xa00010, 8, 8⟩
def CRL_TIMERS_HB_GRACE : Fld := ⟨0xa00010, 0, 8⟩
-- CRL_MIR_CFG: R421 (14)
def CRL_MIR_CFG_RETRY : Fld := ⟨0xa00014, 16, 4⟩
def CRL_MIR_CFG_COMMIT_TO : Fld := ⟨0xa00014, 0, 16⟩
-- CRL_FENCE: R421 (14)
def CRL_FENCE_GO : Fld := ⟨0xa00018, 31, 1⟩
def CRL_FENCE_RESULT : Fld := ⟨0xa00018, 16, 8⟩
def CRL_FENCE_REASON : Fld := ⟨0xa00018, 0, 8⟩
-- CRL_SEQ: R421 (14)
def CRL_SEQ_RX_EXP : Fld := ⟨0xa00020, 32, 24⟩
def CRL_SEQ_TX_NEXT : Fld := ⟨0xa00020, 0, 24⟩
-- CRL_FEC_CORR: R421 (14)
def CRL_FEC_CORR_COUNT : Fld := ⟨0xa00028, 0, 64⟩
-- CRL_FEC_UNC: R421 (14)
def CRL_FEC_UNC_COUNT : Fld := ⟨0xa00030, 0, 32⟩
-- CRL_REPLAY_CNT: R421 (14)
def CRL_REPLAY_CNT_COUNT : Fld := ⟨0xa00034, 0, 32⟩
-- CRL_MIR_CMP_CNT: R421 (14)
def CRL_MIR_CMP_CNT_COUNT : Fld := ⟨0xa00038, 0, 32⟩
-- CRL_MSG_FAULT_CNT: R421 (14)
def CRL_MSG_FAULT_CNT_COUNT : Fld := ⟨0xa0003c, 0, 32⟩
-- CRL_TX_BYTES: R421 (14)
def CRL_TX_BYTES_COUNT : Fld := ⟨0xa00040, 0, 64⟩
-- CRL_RX_BYTES: R421 (14)
def CRL_RX_BYTES_COUNT : Fld := ⟨0xa00048, 0, 64⟩
-- TICK_CTL: R446 (15)
def TICK_CTL_CUT_EN : Fld := ⟨0x500000, 2, 1⟩
def TICK_CTL_SRC : Fld := ⟨0x500000, 0, 2⟩
-- TICK_STS: R446 (15)
def TICK_STS_LOCKED : Fld := ⟨0x500004, 31, 1⟩
def TICK_STS_HOLDOVER : Fld := ⟨0x500004, 30, 1⟩
def TICK_STS_CLK_OK : Fld := ⟨0x500004, 29, 1⟩
def TICK_STS_SYNC_OK : Fld := ⟨0x500004, 28, 1⟩
def TICK_STS_PTM_OK : Fld := ⟨0x500004, 27, 1⟩
-- TICK_ERR: R446 (15)
def TICK_ERR_CLOG_FULL : Fld := ⟨0x500008, 7, 1⟩
def TICK_ERR_GAP_HOLD : Fld := ⟨0x500008, 6, 1⟩
def TICK_ERR_SKEW : Fld := ⟨0x500008, 5, 1⟩
def TICK_ERR_PTM_LOSS : Fld := ⟨0x500008, 4, 1⟩
def TICK_ERR_SYNC_LOSS : Fld := ⟨0x500008, 3, 1⟩
def TICK_ERR_CLK_LOSS : Fld := ⟨0x500008, 2, 1⟩
def TICK_ERR_JOIN_STEP : Fld := ⟨0x500008, 1, 1⟩
def TICK_ERR_STEP : Fld := ⟨0x500008, 0, 1⟩
-- TICK_IRQ_EN: R446 (15)
def TICK_IRQ_EN_EN : Fld := ⟨0x50000c, 0, 8⟩
-- TICK_AT: R446 (15)
def TICK_AT_AT : Fld := ⟨0x500010, 0, 64⟩
-- TICK_FLOOR: R446 (15)
def TICK_FLOOR_AT : Fld := ⟨0x500018, 0, 64⟩
-- TICK_PHASE: R446 (15)
def TICK_PHASE_VALUE : Fld := ⟨0x500020, 0, 32⟩
-- TICK_SKEW: R446 (15)
def TICK_SKEW_VALUE : Fld := ⟨0x500024, 0, 32⟩
-- TICK_LIMITS: R446 (15)
def TICK_LIMITS_SKEW_MAX : Fld := ⟨0x500028, 16, 16⟩
def TICK_LIMITS_SLEW_MAX : Fld := ⟨0x500028, 0, 16⟩
-- TICK_LINK_DLY: R446 (15)
def TICK_LINK_DLY_DELAY : Fld := ⟨0x50002c, 0, 16⟩
-- TICK_PTM_OFS: R446 (15)
def TICK_PTM_OFS_OFS : Fld := ⟨0x500030, 0, 64⟩
-- TICK_PTM_INT: R446 (15)
def TICK_PTM_INT_INTERVAL : Fld := ⟨0x500038, 0, 16⟩
-- TICK_SKEW_CNT: R446 (15)
def TICK_SKEW_CNT_COUNT : Fld := ⟨0x50003c, 0, 32⟩
-- TICK_CLOG_CTL: R446 (15)
def TICK_CLOG_CTL_COUNT : Fld := ⟨0x500040, 16, 7⟩
def TICK_CLOG_CTL_RD : Fld := ⟨0x500040, 8, 6⟩
def TICK_CLOG_CTL_WR : Fld := ⟨0x500040, 0, 6⟩
-- TICK_SNAP_VMAP: R446 (15)
def TICK_SNAP_VMAP_ADDR : Fld := ⟨0x500048, 0, 64⟩
-- TICK_SNAP_RING: R446 (15)
def TICK_SNAP_RING_BASE : Fld := ⟨0x500050, 20, 44⟩
def TICK_SNAP_RING_SIZE_LOG2 : Fld := ⟨0x500050, 0, 5⟩
-- TICK_CS_T[c], c = 0–15: R446 (15)
def TICK_CS_T_VALUE (c : Nat) : Fld := ⟨0x500100 + 0x10 * c, 0, 64⟩
-- TICK_CS_PER[c]: R446 (15)
def TICK_CS_PER_VALUE (c : Nat) : Fld := ⟨0x500108 + 0x10 * c, 0, 64⟩
-- TICK_CLOG_T[i], i = 0–63: R446 (15)
def TICK_CLOG_T_VALUE (i : Nat) : Fld := ⟨0x500200 + 0x10 * i, 0, 64⟩
-- TICK_CLOG_END[i]: R446 (15)
def TICK_CLOG_END_VALUE (i : Nat) : Fld := ⟨0x500208 + 0x10 * i, 0, 64⟩
-- TICK_RS_SEL: R446 (15)
def TICK_RS_SEL_STREAM : Fld := ⟨0x500600, 0, 4⟩
-- TICK_RS_CFG: R446 (15)
def TICK_RS_CFG_ARM : Fld := ⟨0x500604, 31, 1⟩
def TICK_RS_CFG_FINAL : Fld := ⟨0x500604, 30, 1⟩
def TICK_RS_CFG_PORT : Fld := ⟨0x500604, 29, 1⟩
def TICK_RS_CFG_ENC_SLOT : Fld := ⟨0x500604, 12, 12⟩
def TICK_RS_CFG_MAC_SLOT : Fld := ⟨0x500604, 0, 12⟩
-- TICK_RS_CUTS: R446 (15)
def TICK_RS_CUTS_CUT2 : Fld := ⟨0x500608, 24, 6⟩
def TICK_RS_CUTS_CUT1 : Fld := ⟨0x500608, 16, 6⟩
def TICK_RS_CUTS_FULL : Fld := ⟨0x500608, 15, 1⟩
def TICK_RS_CUTS_SEG_LOG2 : Fld := ⟨0x500608, 0, 3⟩
-- TICK_RS_IDX: R446 (15)
def TICK_RS_IDX_INDEX : Fld := ⟨0x50060c, 0, 32⟩
-- TICK_RS_STS: R446 (15)
def TICK_RS_STS_STATE : Fld := ⟨0x500610, 30, 2⟩
def TICK_RS_STS_BUILT : Fld := ⟨0x500610, 0, 30⟩
-- TICK_RS_ARMNO: R446 (15)
def TICK_RS_ARMNO_ARMNO : Fld := ⟨0x500618, 0, 48⟩
-- AND_CTL: R469 (16)
def AND_CTL_ROT_EN : Fld := ⟨0xb00000, 2, 1⟩
def AND_CTL_ST_EN : Fld := ⟨0xb00000, 1, 1⟩
def AND_CTL_LOCK : Fld := ⟨0xb00000, 0, 1⟩
-- AND_STS: R469 (16)
def AND_STS_SPARE : Fld := ⟨0xb00004, 28, 4⟩
def AND_STS_ACTIVE : Fld := ⟨0xb00004, 24, 4⟩
def AND_STS_SPARE_OK : Fld := ⟨0xb00004, 23, 1⟩
-- AND_ERR: R469 (16)
def AND_ERR_NOACK_DROP : Fld := ⟨0xb00008, 5, 1⟩
def AND_ERR_FB_ABORT : Fld := ⟨0xb00008, 4, 1⟩
def AND_ERR_ROT_SKIP : Fld := ⟨0xb00008, 3, 1⟩
def AND_ERR_ST_FAIL : Fld := ⟨0xb00008, 2, 1⟩
def AND_ERR_PROMOTE : Fld := ⟨0xb00008, 1, 1⟩
def AND_ERR_MISMATCH : Fld := ⟨0xb00008, 0, 1⟩
-- AND_IRQ_EN: R469 (16)
def AND_IRQ_EN_EN : Fld := ⟨0xb0000c, 0, 6⟩
-- AND_MAP: R469 (16)
def AND_MAP_PAIR : Fld := ⟨0xb00010, 0, 32⟩
-- AND_ROT_ACK: R469 (16)
def AND_ROT_ACK_SLOT : Fld := ⟨0xb00014, 0, 3⟩
-- AND_RESTART_VEC: R469 (16)
def AND_RESTART_VEC_ADDR : Fld := ⟨0xb00018, 2, 62⟩
-- AND_PAIR_STS[p], p = 0–8: R469 (16)
def AND_PAIR_STS_STATE (p : Nat) : Fld := ⟨0xb00020 + 0x4 * p, 29, 3⟩
def AND_PAIR_STS_SLOT (p : Nat) : Fld := ⟨0xb00020 + 0x4 * p, 26, 3⟩
def AND_PAIR_STS_FLT (p : Nat) : Fld := ⟨0xb00020 + 0x4 * p, 24, 2⟩
-- AND_FB_CTL: R469 (16)
def AND_FB_CTL_INHIBIT : Fld := ⟨0xb00050, 31, 1⟩
def AND_FB_CTL_READY : Fld := ⟨0xb00050, 30, 1⟩
def AND_FB_CTL_STATE : Fld := ⟨0xb00050, 0, 3⟩
-- AND_FB_CFG: R469 (16)
def AND_FB_CFG_DELAY : Fld := ⟨0xb00054, 16, 16⟩
def AND_FB_CFG_GRAN : Fld := ⟨0xb00054, 8, 8⟩
def AND_FB_CFG_TO : Fld := ⟨0xb00054, 0, 8⟩
-- AND_FB_TB: R469 (16)
def AND_FB_TB_VALUE : Fld := ⟨0xb00058, 0, 64⟩
-- AND_PSEQ_MAX: R469 (16)
def AND_PSEQ_MAX_VALUE : Fld := ⟨0xb00060, 0, 64⟩
-- AND_TK_TIME: R469 (16)
def AND_TK_TIME_US : Fld := ⟨0xb00068, 0, 32⟩
-- AND_EPOCH: R469 (16)
def AND_EPOCH_VALUE : Fld := ⟨0xb0006c, 0, 32⟩
-- AND_ST_CNT: R469 (16)
def AND_ST_CNT_COUNT : Fld := ⟨0xb00070, 0, 32⟩
-- GLB_MODE: R484 (17)
def GLB_MODE_PREV : Fld := ⟨0x4, 8, 4⟩
def GLB_MODE_QPHASE : Fld := ⟨0x4, 6, 2⟩
def GLB_MODE_UNMIRRORED : Fld := ⟨0x4, 5, 1⟩
def GLB_MODE_WAITING : Fld := ⟨0x4, 4, 1⟩
def GLB_MODE_MODE : Fld := ⟨0x4, 0, 4⟩
-- GLB_MODE_REQ: R484 (17)
def GLB_MODE_REQ_GO : Fld := ⟨0x8, 31, 1⟩
def GLB_MODE_REQ_BUSY : Fld := ⟨0x8, 30, 1⟩
def GLB_MODE_REQ_RESULT : Fld := ⟨0x8, 16, 8⟩
def GLB_MODE_REQ_FORCE : Fld := ⟨0x8, 8, 1⟩
def GLB_MODE_REQ_TARGET : Fld := ⟨0x8, 0, 4⟩
-- GLB_CTL: R484 (17)
def GLB_CTL_BOOT_SWEEP : Fld := ⟨0xc, 0, 1⟩
-- GLB_FAULT: R484 (17)
def GLB_FAULT_CODE : Fld := ⟨0x10, 56, 8⟩
def GLB_FAULT_CRL : Fld := ⟨0x10, 53, 1⟩
def GLB_FAULT_ICH : Fld := ⟨0x10, 52, 1⟩
def GLB_FAULT_STV : Fld := ⟨0x10, 36, 16⟩
def GLB_FAULT_DRV : Fld := ⟨0x10, 32, 4⟩
def GLB_FAULT_HST : Fld := ⟨0x10, 30, 2⟩
def GLB_FAULT_DDR : Fld := ⟨0x10, 28, 2⟩
def GLB_FAULT_AND : Fld := ⟨0x10, 19, 9⟩
-- GLB_TRANS_CNT: R484 (17)
def GLB_TRANS_CNT_COUNT : Fld := ⟨0x18, 0, 32⟩
-- GLB_BKP[i], i = 0–31: R484 (17)
def GLB_BKP_DATA (i : Nat) : Fld := ⟨0x100 + 0x4 * i, 0, 32⟩
-- KDL_STS: R504 (18)
def KDL_STS_BUSY : Fld := ⟨0x100000, 31, 1⟩
def KDL_STS_HOLD : Fld := ⟨0x100000, 30, 1⟩
def KDL_STS_DDR_KEPT : Fld := ⟨0x100000, 29, 1⟩
def KDL_STS_XSPI_FREE : Fld := ⟨0x100000, 28, 1⟩
def KDL_STS_STEP : Fld := ⟨0x100000, 24, 4⟩
def KDL_STS_BOOT_SRC : Fld := ⟨0x100000, 16, 2⟩
def KDL_STS_RESTARTS : Fld := ⟨0x100000, 8, 8⟩
def KDL_STS_REACH : Fld := ⟨0x100000, 0, 2⟩
-- KDL_RST_SRC: R504 (18)
def KDL_RST_SRC_NO_SOLO : Fld := ⟨0x100004, 12, 1⟩
def KDL_RST_SRC_JOIN_LOST : Fld := ⟨0x100004, 11, 1⟩
def KDL_RST_SRC_UNIT_LOST : Fld := ⟨0x100004, 10, 1⟩
def KDL_RST_SRC_ARB_LOST : Fld := ⟨0x100004, 9, 1⟩
def KDL_RST_SRC_DOUBLE_FAULT : Fld := ⟨0x100004, 8, 1⟩
def KDL_RST_SRC_FENCE : Fld := ⟨0x100004, 7, 1⟩
def KDL_RST_SRC_WATCHDOG : Fld := ⟨0x100004, 6, 1⟩
def KDL_RST_SRC_CD_SUPPLY : Fld := ⟨0x100004, 5, 1⟩
def KDL_RST_SRC_WARM : Fld := ⟨0x100004, 4, 1⟩
def KDL_RST_SRC_CMD : Fld := ⟨0x100004, 3, 1⟩
def KDL_RST_SRC_MI_RESET : Fld := ⟨0x100004, 2, 1⟩
def KDL_RST_SRC_RST_N : Fld := ⟨0x100004, 1, 1⟩
def KDL_RST_SRC_POWER_ON : Fld := ⟨0x100004, 0, 1⟩
-- KDL_ERR: R504 (18)
def KDL_ERR_RST_HELD : Fld := ⟨0x100008, 3, 1⟩
def KDL_ERR_CLK_LOSS : Fld := ⟨0x100008, 2, 1⟩
def KDL_ERR_FALLBACK : Fld := ⟨0x100008, 1, 1⟩
def KDL_ERR_FW_FAIL : Fld := ⟨0x100008, 0, 1⟩
-- KDL_RST_CMD: R504 (18)
def KDL_RST_CMD_KEY : Fld := ⟨0x10000c, 16, 16⟩
def KDL_RST_CMD_REACH : Fld := ⟨0x10000c, 0, 2⟩
-- KDL_REL_STS: R504 (18)
def KDL_REL_STS_DOMAIN : Fld := ⟨0x100010, 0, 18⟩
-- KDL_CLK_GOOD: R504 (18)
def KDL_CLK_GOOD_DOMAIN : Fld := ⟨0x100014, 0, 18⟩
-- KDL_CLK_PEND: R504 (18)
def KDL_CLK_PEND_DOMAIN : Fld := ⟨0x100018, 0, 18⟩
-- KDL_REL_FORCE: R504 (18)
def KDL_REL_FORCE_DOMAIN : Fld := ⟨0x10001c, 0, 18⟩
-- KDL_BOOT_RES: R504 (18)
def KDL_BOOT_RES_CS1 : Fld := ⟨0x100020, 24, 8⟩
def KDL_BOOT_RES_CS0 : Fld := ⟨0x100020, 16, 8⟩
-- KDL_FW_VER: R504 (18)
def KDL_FW_VER_VALUE : Fld := ⟨0x100024, 0, 32⟩
-- KDL_FW_SVN: R504 (18)
def KDL_FW_SVN_VALUE : Fld := ⟨0x100028, 0, 32⟩
-- KDL_MIN_SVN: R504 (18)
def KDL_MIN_SVN_SVN : Fld := ⟨0x10002c, 0, 32⟩
-- KDL_LAST_AT: R504 (18)
def KDL_LAST_AT_AT : Fld := ⟨0x100030, 0, 64⟩
-- KDL_DURATION: R504 (18)
def KDL_DURATION_US : Fld := ⟨0x100038, 0, 32⟩
-- DMP_CTL: R527 (19)
def DMP_CTL_FORCE_THR : Fld := ⟨0x200000, 2, 1⟩
def DMP_CTL_HOLDUP_EN : Fld := ⟨0x200000, 1, 1⟩
def DMP_CTL_THERM_EN : Fld := ⟨0x200000, 0, 1⟩
-- DMP_STS: R527 (19)
def DMP_STS_HOLDUP : Fld := ⟨0x200004, 31, 1⟩
def DMP_STS_CLEAR_WAIT : Fld := ⟨0x200004, 30, 1⟩
def DMP_STS_QHOLD : Fld := ⟨0x200004, 29, 1⟩
def DMP_STS_QPHASE : Fld := ⟨0x200004, 26, 2⟩
def DMP_STS_THR_SRC : Fld := ⟨0x200004, 22, 4⟩
def DMP_STS_STV_HALF : Fld := ⟨0x200004, 21, 1⟩
def DMP_STS_HRT_HALF : Fld := ⟨0x200004, 20, 1⟩
def DMP_STS_PARKED : Fld := ⟨0x200004, 12, 4⟩
def DMP_STS_RAIL_WARN : Fld := ⟨0x200004, 0, 9⟩
-- DMP_ERR: R527 (19)
def DMP_ERR_HOLD_SHORT : Fld := ⟨0x200008, 5, 1⟩
def DMP_ERR_Q_SHORT : Fld := ⟨0x200008, 4, 1⟩
def DMP_ERR_THERM : Fld := ⟨0x200008, 3, 1⟩
def DMP_ERR_RAIL_WARN : Fld := ⟨0x200008, 2, 1⟩
def DMP_ERR_DIP : Fld := ⟨0x200008, 1, 1⟩
def DMP_ERR_QUENCH : Fld := ⟨0x200008, 0, 1⟩
-- DMP_IRQ_EN: R527 (19)
def DMP_IRQ_EN_EN : Fld := ⟨0x20000c, 0, 6⟩
-- DMP_HOLDUP: R527 (19)
def DMP_HOLDUP_HOLD_US : Fld := ⟨0x200010, 0, 16⟩
-- DMP_QCFG: R527 (19)
def DMP_QCFG_RECHARGE : Fld := ⟨0x200014, 16, 8⟩
def DMP_QCFG_P1_MIN : Fld := ⟨0x200014, 0, 8⟩
-- DMP_QTEST: R527 (19)
def DMP_QTEST_SIM : Fld := ⟨0x200018, 0, 1⟩
-- DMP_QLAST: R527 (19)
def DMP_QLAST_DIRTY : Fld := ⟨0x200020, 32, 31⟩
def DMP_QLAST_P1_US : Fld := ⟨0x200020, 0, 32⟩
-- DMP_DIP_LAST: R527 (19)
def DMP_DIP_LAST_RAIL : Fld := ⟨0x200028, 28, 4⟩
def DMP_DIP_LAST_MIN_MV : Fld := ⟨0x200028, 16, 12⟩
def DMP_DIP_LAST_DUR_US : Fld := ⟨0x200028, 0, 16⟩
-- DMP_DIP_CNT: R527 (19)
def DMP_DIP_CNT_COUNT : Fld := ⟨0x20002c, 0, 32⟩
-- DMP_Q_CNT: R527 (19)
def DMP_Q_CNT_COUNT : Fld := ⟨0x200030, 0, 32⟩
-- DMP_THERM: R527 (19)
def DMP_THERM_TEMP : Fld := ⟨0x200034, 16, 8⟩
def DMP_THERM_WARN : Fld := ⟨0x200034, 0, 8⟩
-- DMP_RAIL_LVL[r]: R527 (19)
def DMP_RAIL_LVL_WARN_MV (r : Nat) : Fld := ⟨0x200100 + 0x8 * r, 16, 16⟩
def DMP_RAIL_LVL_RESET_MV (r : Nat) : Fld := ⟨0x200100 + 0x8 * r, 0, 16⟩
-- DMP_RAIL_MON[r]: R527 (19)
def DMP_RAIL_MON_MIN_MV (r : Nat) : Fld := ⟨0x200104 + 0x8 * r, 16, 16⟩
def DMP_RAIL_MON_VOLT_MV (r : Nat) : Fld := ⟨0x200104 + 0x8 * r, 0, 16⟩
-- HRT_STS: R552 (20)
def HRT_STS_PARKED : Fld := ⟨0x3000000, 8, 8⟩
def HRT_STS_RUN : Fld := ⟨0x3000000, 0, 8⟩
-- HRT_ERR: R552 (20)
def HRT_ERR_WDT_RESTART : Fld := ⟨0x3000004, 1, 1⟩
def HRT_ERR_WDT_WARN : Fld := ⟨0x3000004, 0, 1⟩
-- HRT_WDT_CTL: R552 (20)
def HRT_WDT_CTL_EN : Fld := ⟨0x3000008, 0, 1⟩
-- HRT_WDT_TO: R552 (20)
def HRT_WDT_TO_TIMEOUT : Fld := ⟨0x300000c, 0, 16⟩
-- HRT_WDT_STS: R552 (20)
def HRT_WDT_STS_WARN : Fld := ⟨0x3000010, 0, 8⟩
-- HRT_WDT_RESTART: R552 (20)
def HRT_WDT_RESTART_GO : Fld := ⟨0x3000014, 31, 1⟩
def HRT_WDT_RESTART_SLOT : Fld := ⟨0x3000014, 0, 3⟩
-- HRT_PARK: R552 (20)
def HRT_PARK_GO : Fld := ⟨0x3000018, 31, 1⟩
def HRT_PARK_SLOT : Fld := ⟨0x3000018, 0, 3⟩
-- HRT_ECC_CNT: R552 (20)
def HRT_ECC_CNT_COUNT : Fld := ⟨0x300001c, 0, 32⟩
-- HRT_WDT_KICK[s]: R552 (20)
def HRT_WDT_KICK_KICK (s : Nat) : Fld := ⟨0x3000020 + 0x4 * s, 0, 32⟩
-- HRT_MSIP[s]: R552 (20)
def HRT_MSIP_MSIP (s : Nat) : Fld := ⟨0x3000040 + 0x4 * s, 0, 1⟩
-- HRT_MTIME: R552 (20)
def HRT_MTIME_VALUE : Fld := ⟨0x3000080, 0, 64⟩
-- HRT_MTIMECMP[s]: R552 (20)
def HRT_MTIMECMP_VALUE (s : Nat) : Fld := ⟨0x3000100 + 0x8 * s, 0, 64⟩
-- MBX_ERR: R553 (20)
def MBX_ERR_PEER_DROP : Fld := ⟨0x400000, 4, 1⟩
def MBX_ERR_ACK_STALE : Fld := ⟨0x400000, 3, 1⟩
def MBX_ERR_TIMEOUT : Fld := ⟨0x400000, 2, 1⟩
def MBX_ERR_COLLIDE : Fld := ⟨0x400000, 1, 1⟩
def MBX_ERR_DENIED : Fld := ⟨0x400000, 0, 1⟩
-- MBX_DENY_CNT: R553 (20)
def MBX_DENY_CNT_COUNT : Fld := ⟨0x400004, 0, 32⟩
-- MBX_COLLIDE_CNT: R553 (20)
def MBX_COLLIDE_CNT_COUNT : Fld := ⟨0x400008, 0, 32⟩
-- MBX_TX_RES: R553 (20)
def MBX_TX_RES_DENIED : Fld := ⟨0x400010, 3, 1⟩
def MBX_TX_RES_TIMEOUT : Fld := ⟨0x400010, 2, 1⟩
def MBX_TX_RES_COLLIDE : Fld := ⟨0x400010, 1, 1⟩
def MBX_TX_RES_DELIVERED : Fld := ⟨0x400010, 0, 1⟩
-- MBX_SEV_EMPTY: R553 (20)
def MBX_SEV_EMPTY_CHAN : Fld := ⟨0x400014, 0, 32⟩
-- MBX_SEV_LOST: R553 (20)
def MBX_SEV_LOST_CHAN : Fld := ⟨0x400018, 0, 32⟩
-- MBX_SEV_TO: R553 (20)
def MBX_SEV_TO_CHAN : Fld := ⟨0x40001c, 0, 32⟩
-- MBX_TXBUF[w]: R553 (20)
def MBX_TXBUF_DATA (w : Nat) : Fld := ⟨0x400040 + 0x8 * w, 0, 64⟩
-- MBX_CFG[c]: R553 (20)
def MBX_CFG_EN (c : Nat) : Fld := ⟨0x401000 + 0x100 * c, 31, 1⟩
def MBX_CFG_RECEIVER (c : Nat) : Fld := ⟨0x401000 + 0x100 * c, 27, 4⟩
def MBX_CFG_TO_MS (c : Nat) : Fld := ⟨0x401000 + 0x100 * c, 16, 8⟩
def MBX_CFG_SENDERS (c : Nat) : Fld := ⟨0x401000 + 0x100 * c, 0, 13⟩
-- MBX_STS[c]: R553 (20)
def MBX_STS_FULL (c : Nat) : Fld := ⟨0x401004 + 0x100 * c, 31, 1⟩
def MBX_STS_COLLIDE (c : Nat) : Fld := ⟨0x401004 + 0x100 * c, 30, 1⟩
def MBX_STS_TIMEOUT (c : Nat) : Fld := ⟨0x401004 + 0x100 * c, 29, 1⟩
def MBX_STS_ACK_STALE (c : Nat) : Fld := ⟨0x401004 + 0x100 * c, 28, 1⟩
def MBX_STS_WOKE (c : Nat) : Fld := ⟨0x401004 + 0x100 * c, 27, 1⟩
def MBX_STS_NUM (c : Nat) : Fld := ⟨0x401004 + 0x100 * c, 0, 8⟩
-- MBX_ACK[c]: R553 (20)
def MBX_ACK_GO (c : Nat) : Fld := ⟨0x401008 + 0x100 * c, 31, 1⟩
def MBX_ACK_NUM (c : Nat) : Fld := ⟨0x401008 + 0x100 * c, 0, 8⟩
-- MBX_SEND[c]: R553 (20)
def MBX_SEND_GO (c : Nat) : Fld := ⟨0x40100c + 0x100 * c, 31, 1⟩
def MBX_SEND_CODE (c : Nat) : Fld := ⟨0x40100c + 0x100 * c, 0, 16⟩
-- MBX_HDR[c]: R553 (20)
def MBX_HDR_VALUE (c : Nat) : Fld := ⟨0x401010 + 0x100 * c, 0, 64⟩
-- MBX_RX[c][w]: R553 (20)
def MBX_RX_VALUE (c : Nat) (w : Nat) : Fld := ⟨0x401040 + 0x100 * c + 0x8 * w, 0, 64⟩
-- SOOT_CTL: R569 (21)
def SOOT_CTL_FLUSH : Fld := ⟨0x300000, 1, 1⟩
def SOOT_CTL_FREEZE : Fld := ⟨0x300000, 0, 1⟩
-- SOOT_STS: R569 (21)
def SOOT_STS_FULL : Fld := ⟨0x300004, 31, 1⟩
def SOOT_STS_FROZEN : Fld := ⟨0x300004, 30, 1⟩
def SOOT_STS_FLUSHING : Fld := ⟨0x300004, 29, 1⟩
def SOOT_STS_CLEARING : Fld := ⟨0x300004, 28, 1⟩
def SOOT_STS_STAGED : Fld := ⟨0x300004, 16, 9⟩
def SOOT_STS_NEXT : Fld := ⟨0x300004, 0, 16⟩
-- SOOT_LOST: R569 (21)
def SOOT_LOST_COUNT : Fld := ⟨0x300008, 0, 32⟩
-- SOOT_FRZ_TO: R569 (21)
def SOOT_FRZ_TO_MS : Fld := ⟨0x30000c, 0, 32⟩
-- SOOT_STAMP: R569 (21)
def SOOT_STAMP_VALUE : Fld := ⟨0x300010, 0, 64⟩
-- SOOT_OPHRS: R569 (21)
def SOOT_OPHRS_VALUE : Fld := ⟨0x300018, 0, 32⟩
-- SOOT_RD_IDX: R569 (21)
def SOOT_RD_IDX_INDEX : Fld := ⟨0x300020, 0, 15⟩
-- SOOT_RD_DATA[w], w = 0–15: R569 (21)
def SOOT_RD_DATA_DATA (w : Nat) : Fld := ⟨0x300040 + 0x4 * w, 0, 32⟩
-- SOOT_CLR_CTL: R569 (21)
def SOOT_CLR_CTL_GO : Fld := ⟨0x300100, 31, 1⟩
def SOOT_CLR_CTL_BUSY : Fld := ⟨0x300100, 30, 1⟩
def SOOT_CLR_CTL_OP : Fld := ⟨0x300100, 16, 2⟩
def SOOT_CLR_CTL_RESULT : Fld := ⟨0x300100, 0, 8⟩
-- SOOT_CLR_CFG: R569 (21)
def SOOT_CLR_CFG_TO_S : Fld := ⟨0x300104, 8, 8⟩
def SOOT_CLR_CFG_CHAN : Fld := ⟨0x300104, 0, 3⟩
-- SOOT_CLR_NONCE[w], w = 0–3: R569 (21)
def SOOT_CLR_NONCE_DATA (w : Nat) : Fld := ⟨0x300110 + 0x4 * w, 0, 32⟩
-- SOOT_CLR_RESP[w], w = 0–7: R569 (21)
def SOOT_CLR_RESP_DATA (w : Nat) : Fld := ⟨0x300120 + 0x4 * w, 0, 32⟩
-- SOOT_DENY_CNT: R569 (21)
def SOOT_DENY_CNT_COUNT : Fld := ⟨0x300140, 0, 32⟩

end Sys2Proof.Machine.F
end

