-- ==== Sys2Proof/Machine/ResetFields.lean ====
section
/-! DEFINITION. The reset values that are not zero, field by field, from the Reset column of the spec's register tables
(R35, R506 and the descriptions where the column refers to them). A field with no entry resets to 0. -/

namespace Sys2Proof.Machine

def resetFields0 : List (Nat × Nat) :=
  [(0x4, 0x1), (0xc, 0x1), (0x10, 0x7160), (0x100, 0x1), (0x4000000, 0x1),
   (0x4000010, 0x3), (0x4000018, 0x1), (0x400001f, 0x1), (0x4000100, 0x1), (0x4000810, 0xff),
   (0x4000818, 0xff), (0x8000000, 0x1), (0x8000001, 0x1), (0x8000300, 0x3f), (0x8000400, 0x56b8),
   (0x8000500, 0xa), (0x8000510, 0x32), (0x8000d00, 0x6c), (0x8004000, 0x2a3), (0x8004010, 0x2c9),
   (0x8004110, 0xffff), (0x8004200, 0x654), (0x8004210, 0x6ae), (0x8004310, 0xffff), (0x8004400, 0x2a3),
   (0x8004410, 0x2c9), (0x8004510, 0xffff), (0x8004600, 0x2d0), (0x8004610, 0x2f8), (0x8004710, 0xffff),
   (0x8004800, 0x2fd), (0x8004810, 0x328), (0x8004910, 0xffff), (0x8004a00, 0x3de), (0x8004a10, 0x415),
   (0x8004b10, 0xffff), (0x8004c00, 0x2fd), (0x8004c10, 0x328), (0x8004d10, 0xffff), (0x8004e00, 0x438),
   (0x8004e10, 0x474), (0x8004f10, 0xffff), (0x8005000, 0x654), (0x8005010, 0x6ae), (0x8005110, 0xffff),
   (0xc000300, 0x2710), (0xc004108, 0x3c), (0x10040000, 0x13ff), (0x10040010, 0xa), (0x1004001f, 0x1),
   (0x10044000, 0x13ff), (0x10044010, 0xa), (0x1004401f, 0x1), (0x10048000, 0x13ff), (0x10048010, 0xa),
   (0x1004801f, 0x1), (0x1004c000, 0x13ff), (0x1004c010, 0xa), (0x1004c01f, 0x1), (0x10050000, 0x13ff)]

def resetFields1 : List (Nat × Nat) :=
  [(0x10050010, 0xa), (0x1005001f, 0x1), (0x10054000, 0x13ff), (0x10054010, 0xa), (0x1005401f, 0x1),
   (0x10058000, 0x13ff), (0x10058010, 0xa), (0x1005801f, 0x1), (0x1005c000, 0x13ff), (0x1005c010, 0xa),
   (0x1005c01f, 0x1), (0x10060000, 0x1fff), (0x10060010, 0xa), (0x1006001f, 0x1), (0x10064000, 0x1fff),
   (0x10064010, 0xa), (0x1006401f, 0x1), (0x10068000, 0x1fff), (0x10068010, 0xa), (0x1006801f, 0x1),
   (0x1006c000, 0x1fff), (0x1006c010, 0xa), (0x1006c01f, 0x1), (0x10070000, 0x1fff), (0x10070010, 0xa),
   (0x1007001f, 0x1), (0x10074000, 0x1fff), (0x10074010, 0xa), (0x1007401f, 0x1), (0x10078000, 0x1fff),
   (0x10078010, 0xa), (0x1007801f, 0x1), (0x1007c000, 0x1fff), (0x1007c010, 0xa), (0x1007c01f, 0x1),
   (0x10080000, 0x1fff), (0x10080010, 0xa), (0x1008001f, 0x1), (0x10084000, 0x1fff), (0x10084010, 0xa),
   (0x1008401f, 0x1), (0x10088000, 0x1fff), (0x10088010, 0xa), (0x1008801f, 0x1), (0x1008c000, 0x1fff),
   (0x1008c010, 0xa), (0x1008c01f, 0x1), (0x10090000, 0x1fff), (0x10090010, 0xa), (0x1009001f, 0x1),
   (0x10094000, 0x1fff), (0x10094010, 0xa), (0x1009401f, 0x1), (0x10098000, 0x1fff), (0x10098010, 0xa),
   (0x1009801f, 0x1), (0x1009c000, 0x1fff), (0x1009c010, 0xa), (0x1009c01f, 0x1), (0x100a0000, 0x1fff)]

def resetFields2 : List (Nat × Nat) :=
  [(0x100a0010, 0xa), (0x100a001f, 0x1), (0x100a4000, 0x1fff), (0x100a4010, 0xa), (0x100a401f, 0x1),
   (0x100a8000, 0x1fff), (0x100a8010, 0xa), (0x100a801f, 0x1), (0x100ac000, 0x1fff), (0x100ac010, 0xa),
   (0x100ac01f, 0x1), (0x100b0000, 0x1fff), (0x100b0010, 0xa), (0x100b001f, 0x1), (0x100b4000, 0x1fff),
   (0x100b4010, 0xa), (0x100b401f, 0x1), (0x100b8000, 0x1fff), (0x100b8010, 0xa), (0x100b801f, 0x1),
   (0x100bc000, 0x1fff), (0x100bc010, 0xa), (0x100bc01f, 0x1), (0x14000000, 0x1), (0x14000300, 0xbc),
   (0x14000a00, 0x3e8), (0x14000a10, 0x64), (0x14000b00, 0x12c), (0x14000e00, 0x3e8), (0x14001400, 0xe),
   (0x14018100, 0x2), (0x1401810c, 0x2), (0x14018200, 0x4), (0x18000200, 0x300), (0x1c000100, 0xf00),
   (0x1c000300, 0x3e8), (0x1c000400, 0x200), (0x1c004000, 0x400), (0x1c004100, 0x400), (0x1c004200, 0x400),
   (0x1c004300, 0x200), (0x1c004400, 0x800), (0x1c004500, 0x600), (0x1c004600, 0x400), (0x1c004700, 0x100),
   (0x1c005000, 0xf00), (0x1c005100, 0xf00), (0x1c005200, 0xf00), (0x1c005300, 0xf00), (0x1c005400, 0xf00),
   (0x1c005500, 0xf00), (0x1c005600, 0xf00), (0x1c005700, 0xf00), (0x1c400014, 0x6), (0x1c400300, 0x186a0),
   (0x1c400500, 0xf), (0x1c400600, 0x400), (0x1c800014, 0x6), (0x1c800300, 0x186a0), (0x1c800500, 0xf)]

def resetFields3 : List (Nat × Nat) :=
  [(0x1c800600, 0x400), (0x20000300, 0x16), (0x20000400, 0x7d0), (0x20000410, 0x30), (0x20000500, 0x10),
   (0x20001008, 0x3ffffffff), (0x20001408, 0x3ffffffff), (0x20001808, 0x3ffffffff), (0x20001c08, 0x3ffffffff), (0x20002008, 0x3ffffffff),
   (0x20002408, 0x3ffffffff), (0x20002808, 0x3ffffffff), (0x20002c08, 0x3ffffffff), (0x24000001, 0x1), (0x24000308, 0x10),
   (0x28000010, 0x1388), (0x28000300, 0x1fe), (0x28000400, 0x4), (0x28000408, 0x14), (0x28000410, 0x28),
   (0x28000418, 0x8), (0x28000500, 0x1f4), (0x28000510, 0x3), (0x2c000001, 0x1), (0x2c000002, 0x1),
   (0x2c000300, 0x37), (0x2c001500, 0x32), (0x2c001508, 0xa), (0x2c001510, 0x3e8), (0x30000000, 0x1000),
   (0x30000010, 0x1), (0x30000300, 0x1e), (0x34000300, 0x8), (0x34000308, 0x2), (0x34000310, 0x2),
   (0x34000314, 0x4), (0x34000400, 0x7d0), (0x34000500, 0x19), (0x34000508, 0x1), (0x34000510, 0x10),
   (0x34000700, 0x64), (0x40000300, 0x2710), (0x40014100, 0x1), (0x40014102, 0x1), (0x40014103, 0x1),
   (0x40014104, 0x7), (0x40800300, 0x11), (0x41000000, 0x40), (0x48000300, 0x2710), (0x48014100, 0x1),
   (0x48014102, 0x1), (0x48014103, 0x1), (0x48014104, 0x7), (0x48800300, 0x11), (0x49000000, 0x40),
   (0x50000300, 0x2710), (0x50014100, 0x1), (0x50014102, 0x1), (0x50014103, 0x1), (0x50014104, 0x7)]

def resetFields4 : List (Nat × Nat) :=
  [(0x50800300, 0x11), (0x51000000, 0x40), (0x58000300, 0x2710), (0x58014100, 0x1), (0x58014102, 0x1),
   (0x58014103, 0x1), (0x58014104, 0x7), (0x58800300, 0x11), (0x59000000, 0x40), (0x60000300, 0x2710),
   (0x60014100, 0x1), (0x60014102, 0x1), (0x60014103, 0x1), (0x60014104, 0x7), (0x60800300, 0x11),
   (0x61000000, 0x40), (0x68000300, 0x2710), (0x68014100, 0x1), (0x68014102, 0x1), (0x68014103, 0x1),
   (0x68014104, 0x7), (0x68800300, 0x11), (0x69000000, 0x40), (0x70000300, 0x2710), (0x70014100, 0x1),
   (0x70014102, 0x1), (0x70014103, 0x1), (0x70014104, 0x7), (0x70800300, 0x11), (0x71000000, 0x40),
   (0x78000300, 0x2710), (0x78014100, 0x1), (0x78014102, 0x1), (0x78014103, 0x1), (0x78014104, 0x7),
   (0x78800300, 0x11), (0x79000000, 0x40), (0x80000300, 0x2710), (0x80014100, 0x1), (0x80014102, 0x1),
   (0x80014103, 0x1), (0x80014104, 0x7), (0x80800300, 0x11), (0x81000000, 0x40), (0x88000300, 0x2710),
   (0x88014100, 0x1), (0x88014102, 0x1), (0x88014103, 0x1), (0x88014104, 0x7), (0x88800300, 0x11),
   (0x89000000, 0x40), (0x90000300, 0x2710), (0x90014100, 0x1), (0x90014102, 0x1), (0x90014103, 0x1),
   (0x90014104, 0x7), (0x90800300, 0x11), (0x91000000, 0x40), (0x98000300, 0x2710), (0x98014100, 0x1)]

def resetFields5 : List (Nat × Nat) :=
  [(0x98014102, 0x1), (0x98014103, 0x1), (0x98014104, 0x7), (0x98800300, 0x11), (0x99000000, 0x40),
   (0xa0000300, 0x2710), (0xa0014100, 0x1), (0xa0014102, 0x1), (0xa0014103, 0x1), (0xa0014104, 0x7),
   (0xa0800300, 0x11), (0xa1000000, 0x40), (0xa8000300, 0x2710), (0xa8014100, 0x1), (0xa8014102, 0x1),
   (0xa8014103, 0x1), (0xa8014104, 0x7), (0xa8800300, 0x11), (0xa9000000, 0x40), (0xb0000300, 0x2710),
   (0xb0014100, 0x1), (0xb0014102, 0x1), (0xb0014103, 0x1), (0xb0014104, 0x7), (0xb0800300, 0x11),
   (0xb1000000, 0x40), (0xb8000300, 0x2710), (0xb8014100, 0x1), (0xb8014102, 0x1), (0xb8014103, 0x1),
   (0xb8014104, 0x7), (0xb8800300, 0x11), (0xb9000000, 0x40), (0xc0000300, 0x3e8), (0xc0004000, 0xffffffffffffffff),
   (0xc0004200, 0xffffffffffffffff), (0xc0004400, 0xffffffffffffffff), (0xc0004600, 0xffffffffffffffff), (0xc0004800, 0xffffffffffffffff), (0xc0004a00, 0xffffffffffffffff),
   (0xc0004c00, 0xffffffffffffffff), (0xc0004e00, 0xffffffffffffffff), (0xc4000300, 0x1), (0x101000100, 0x1), (0x101000101, 0x1),
   (0x101000102, 0x1), (0x101000300, 0x2710), (0x105000100, 0x1), (0x105000101, 0x1), (0x105000102, 0x1),
   (0x105000300, 0x2710)]

/-- Every field whose reset value the spec gives as other than zero, by rising field key. -/
def resetFields : List (Nat × Nat) :=
  resetFields0 ++ resetFields1 ++ resetFields2 ++ resetFields3 ++ resetFields4 ++ resetFields5

end Sys2Proof.Machine
end

