-- ==== Sys2Proof/Machine/State.lean ====
section
/-! DEFINITION. The state of a PF7160 head as plain data: the register fields, and block by block everything the spec says the
block remembers beside its registers; the reasons a step can stop; the state right after a power-on reset. -/

namespace Sys2Proof.Machine

/-! ### Soot (ch. 21) -/

/-- A staged or logged event (R555): the code, whether it was staged during a freeze, the head it names, its STAMP, the AT copy
when it was staged, and its ITEM words. -/
structure SootRec where
  code : Nat
  frozen : Bool
  head : Nat
  stamp : Nat
  atime : Nat
  items : List Nat
deriving DecidableEq, Repr

/-- The Soot unit. `staged` is oldest first; `flushing` is how many of its oldest records a running flush writes; `again` says a
trigger met a running flush; `freezeWait` says a freeze write met one; `freezeAt` is the AT copy at which the freeze began;
`lastAt` holds, for each limited code and unit, when it was last staged (R589); `log` is the Ember region by INDEX; `cycles` and
`opTime` are the running values of R557 and `cyclesE`, `opTimeE` their Ember copies; `nonce` is the challenge of R564 with the AT
copy of its CHALLENGE; `unread` says a rise of the lost-event count has not been read (R569); `second` is the last whole second of AT whose flush was triggered
and `opFrom` the AT copy at which the running millisecond of operating time began. -/
structure SootSt where
  staged : List SootRec := []
  flushing : Option Nat := none
  again : Bool := false
  freezeWait : Bool := false
  freezeAt : Option Nat := none
  lastAt : Tab Nat := []
  log : Tab SootRec := []
  cycles : Nat := 0
  opTime : Nat := 0
  cyclesE : Nat := 0
  opTimeE : Nat := 0
  nonce : Option (Bytes × Nat) := none
  unread : Bool := false
  second : Nat := 0
  opFrom : Nat := 0
deriving DecidableEq, Repr

/-! ### Hearth, PLIC and mailboxes (ch. 20) -/

/-- Each requester's own mailbox registers (R540): the 64 data bytes to post, the result of its last post and its three event
masks. -/
structure MbxBank where
  txbuf : Tab Nat := []
  txRes : Nat := 0
  sevEmpty : Nat := 0
  sevLost : Nat := 0
  sevTo : Nat := 0
deriving DecidableEq, Repr

/-- A mailbox channel's message (R542): whether it is FULL, the header and data last posted, the agent that posted it, when, and
whether its timer still runs (R544 cancels it, R548 ends it); `away` says it waits for the frame acknowledgements of R550. -/
structure MbxChan where
  full : Bool := false
  num : Nat := 0
  hdr : Nat := 0
  data : Bytes := []
  poster : Nat := 0
  postAt : Nat := 0
  timer : Bool := false
  away : Bool := false
deriving DecidableEq, Repr

/-- The Hearth platform beside its registers: watchdog counters as the AT copy at their last restart (and the count a parked
slot's counter stands still at), the PLIC's priorities, enables (context-major), thresholds and claimed sources, whether the GLB source was
raised since it was last claimed (R474), and the slots whose machine timer interrupt is pending. -/
structure HrtSt where
  wdtFrom : Tab Nat := []
  wdtHeld : Tab Nat := []
  plicPrio : Tab Nat := []
  plicEnable : Tab Nat := []
  plicThr : Tab Nat := []
  plicClaimed : List Nat := []
  glbPend : Bool := false
  mtip : List Nat := []
  banks : Tab MbxBank := []
  chans : Tab MbxChan := []
deriving DecidableEq, Repr

/-! ### Reset and Kindling (ch. 18), modes (ch. 17) -/

/-- The reach of a reset of compute-die reach or wider (R487), as KDL_STS.REACH codes it. -/
inductive Reach where
  | powerOn | system | computeDie
deriving DecidableEq, Repr

/-- The reset sources of R486, in the order of the bits of KDL_RST_SRC. -/
inductive RstSrc where
  | powerOn | rstN | miReset | cmd | warm | cdSupply | watchdog | fence | doubleFault | arbLost | unitLost | joinLost | noSolo
deriving DecidableEq, Repr

/-- An asserted source: pin-like (held until its release) or an event with the AT copy at which it ends (R489). -/
structure Asserted where
  src : RstSrc
  reach : Reach
  untilAt : Option Nat
deriving DecidableEq, Repr

/-- Kindling's own state: the asserted sources, whether an episode runs with its widest reach and start, the sources that took
part (as KDL_RST_SRC numbers them), the sources R492 holds; when Kindling reached the domain it waits for, which units are missing (R36,
R498), the header of the verified image; whether RST_N is recognised as low, whether FAULT_N is low, when the last episode ended, and
whether the sideband runs I3C (SB_SEL as sampled, R581); when each drive group was released (R580). -/
structure KdlSt where
  asserted : List Asserted := []
  episode : Option Reach := none
  episodeAt : Nat := 0
  took : Nat := 0
  held : List (RstSrc × Reach) := []
  reachedAt : Nat := 0
  missing : List Nat := []
  off : List Nat := []
  image : Option Bytes := none
  rstLow : Bool := false
  faultN : Bool := false
  doneAt : Nat := 0
  sbI3c : Bool := false
  drvRel : Tab Nat := []
deriving DecidableEq, Repr

/-- The mode logic's memory beside GLB_MODE: the mode Banked was entered from, the mode a Sanitize will return to, the partner's
latest mode byte, whether a Banked entry runs, whether a Solo follows the Sweep, whether Banked
is to end, and the commands that arrived in Banked and wait for its
end (R476). -/
structure ModeSt where
  bankedFrom : Nat := 0
  sweepFrom : Nat := 0
  partnerByte : Option Nat := none
  bankedEntry : Bool := false
  soloAfterSweep : Bool := false
  exitWanted : Bool := false
  held : List Instr := []
deriving DecidableEq, Repr

/-! ### Damper (ch. 19) -/

/-- Damper's own state: the running dip episode (rail, lowest voltage, start), the rails below reset, whether the filtered HOLDUP_WARN_N is
asserted, since when neither it nor SIM asserts hold-up, the phase-1 elapsed time E in µs as it stood at `eFrom`, when the last reversal
happened, since when THERMTRIP_N is low, and whether CD_PWR_EN is high. -/
structure DmpSt where
  dip : Option (Nat × Nat × Nat) := none
  below : List Nat := []
  pinAsserted : Bool := false
  clearSince : Option Nat := none
  eBase : Nat := 0
  eFrom : Nat := 0
  revAt : Option Nat := none
  tripAt : Option Nat := none
  cdPwrEn : Bool := true
deriving DecidableEq, Repr

/-! ### Array Time, cuts, replication (ch. 15) -/

/-- The running correction of AT (R426): none, a slew with its direction and the TICK cycles left, or half rate with the cycles
left. -/
inductive Slew where
  | none
  | slew (ahead : Bool) (left : Nat)
  | half (left : Nat)
deriving DecidableEq, Repr

/-- A gap of R433: its T, its first sequence, the next sequence it issues and its END_T. -/
structure Gap where
  t : Nat
  first : Nat
  next : Nat
  endT : Nat
deriving DecidableEq, Repr

/-- A replication stream (R440): its registers of TICK_RS_*, the cut pair it copied, the manifest MACs of the segments delivered and
which of them was the last, and the items posted for it that have not ended. -/
structure Stream where
  arm : Bool := false
  final : Bool := false
  port : Nat := 0
  encSlot : Nat := 2
  macSlot : Nat := 2
  cut2 : Nat := 0
  cut1 : Nat := 0
  full : Bool := false
  segLog2 : Nat := 4
  index : Nat := 0
  state : Nat := 0
  built : Nat := 0
  armNo : Nat := 0
  t1 : Nat := 0
  t2 : Nat := 0
  end1 : Nat := 0
  end2 : Nat := 0
  macs : Tab Bytes := []
  last : Option Nat := none
  items : Nat := 0
deriving DecidableEq, Repr

/-- The TICK block beside its registers: `cycles` the TICK cycles that have passed (elapsed time that the spec does not measure in
AT); `count` AT and whether it is loaded (R424); the running correction (R426) and whether the last |e| was within SLEW_MAX;
`floorSec` the last whole second whose floor is written; the gaps of the 64 most recent cuts, oldest first, and the T of the last cut
whose gap is no longer kept (R435); cut-table entries that wait for the end of Banked (R438); the T that ends a gap hold (R434); the
streams and the head's arm count (R440). -/
structure TickSt where
  cycles : Nat := 0
  count : Nat := 0
  loaded : Bool := false
  slew : Slew := .none
  inLimit : Bool := false
  floorSec : Nat := 0
  gaps : List Gap := []
  droppedT : Nat := 0
  heldCuts : List (Nat × Nat × Nat) := []
  gapHold : Option Nat := none
  streams : Tab Stream := []
  armCount : Nat := 0
deriving DecidableEq, Repr

/-! ### Andiron and failover (ch. 16) -/

/-- The failover sequencer beside its registers: the ownership pair's fields of R456 that no register shows; the rotation in
progress (slot, when asked), the slot last rotated; the multiples of R454 and R455 last acted on; the MIRROR bit at the head's reset; whether
ACCEPT waits for MIRROR = 1 records to retire (R464); whether the head is the survivor of a failback; the records that wait for the partner's
answer (R461); and when a running takeover began. -/
structure AndSt where
  halves : Nat := 0
  soloSeq : Nat := 0
  rotating : Option (Nat × Nat) := none
  lastRot : Option Nat := none
  stMark : Nat := 0
  rotMark : Nat := 0
  mirrorAtReset : Nat := 0
  acceptPending : Bool := false
  survivor : Bool := false
  settling : List Nat := []
  takeoverAt : Option Nat := none
deriving DecidableEq, Repr

/-! ### Journal and Ember (ch. 13) -/

/-- One index change carried by an INDEX record (R366). -/
structure IdxChange where
  op : Nat
  half : Nat
  domain : Nat
  refcnt : Nat
  location : Nat
  fp : Bytes
  gen : Nat
deriving DecidableEq, Repr

/-- A volume map entry (R249): LOCATION, SEQ, a fingerprint prefix and the MFLAGS. -/
structure MapEntry where
  loc : Nat
  seq : Nat
  fp : Nat
  flags : Nat
deriving DecidableEq, Repr

/-- One map change carried by a MAP record (R366). -/
structure MapChange where
  vol : Nat
  lba : Nat
  entry : MapEntry
deriving DecidableEq, Repr

/-- The body of an OWNER record (R457). -/
structure OwnerBody where
  op : Nat
  src : Nat
  dst : Nat
  halves : Nat
  epoch : Nat
  floor : Nat
  delay : Nat
  gran : Nat
  tb : Nat
deriving DecidableEq, Repr

/-- What a record carries beyond its header. -/
inductive RecBody where
  | none
  | index (cs : List IdxChange)
  | map (cs : List MapChange)
  | stripe (bytes : Bytes)
  | owner (o : OwnerBody)
deriving DecidableEq, Repr

/-- A journal record (R364). `line` is the ring line of its header; PDIG is the whole 16-byte digest; `tag` is what its poster knows
it by; `committed` says its commit unit is acknowledged (R368), `bad` that it holds a failed unit (R360), `unmirrored` that it was
committed with MIRROR = 1 in the ownership state, `acked` that MCOMMIT OK for it has arrived, `settled` that a recovery has ended since it was
written. -/
structure JRec where
  seq : Nat
  atime : Nat
  type : Nat
  mirror : Bool
  origin : Nat
  vol : Nat
  lap : Nat := 0
  len : Nat := 0
  lba : Nat := 0
  loc : Nat := 0
  pdig : Bytes := []
  body : RecBody := .none
  line : Nat := 0
  tag : Nat := 0
  committed : Bool := false
  unmirrored : Bool := false
  acked : Bool := false
  bad : Bool := false
  settled : Bool := false
deriving DecidableEq, Repr

/-- An entry of the lost list (R380). -/
structure LostEntry where
  vol : Nat
  first : Nat
  count : Nat
  seq : Nat
deriving DecidableEq, Repr

/-- An operation pair of Ember (R133): its two entries, each with its UPDATES and its fields; none where the entry fails its check or
was never written. -/
structure EmberPair where
  e0 : Option (Nat × List Nat) := none
  e1 : Option (Nat × List Nat) := none
deriving DecidableEq, Repr

/-- The journal unit and the Ember contents that no other block's state holds: the records live or being written in the order they
were accepted, those that wait to be accepted, the next line and its LAP, the credit bucket of R361 in tenths of a byte with the
time it was last filled, the valid option copies and the accepted one, the lost list by entry, the committed sequence high-water mark
of R113, the operation pairs by number (0 to 31 admin progress, 32 KDF counters, 33 high-water mark, 34 ownership), the staged
payloads by record, the records whose payload was found again and waits for grates, the next tag of a record. -/
structure JnlSt where
  recs : List JRec := []
  waiting : List JRec := []
  head : Nat := 0
  lap : Nat := 0
  credit : Nat := 40960
  creditAt : Nat := 0
  opt : Tab Bytes := []
  cur : Bytes := []
  lost : Tab LostEntry := []
  hwm : Nat := 0
  pairs : Tab EmberPair := []
  staging : Tab Bytes := []
  regain : List Nat := []
  nextTag : Nat := 1
deriving DecidableEq, Repr

/-! ### Creterlink (ch. 14) -/

/-- A DATA frame the transmitter has to send, or holds until it is acknowledged (R394): its sequence once sent, its channel, its
bytes of the message, SOM and EOM, the mailbox channel whose message it ends (R550), and the user of the pool whose MIRO grates it lies in
(R27). -/
structure HeldFrame where
  seq : Nat
  vc : Nat
  payload : Bytes
  som : Bool
  eom : Bool
  chan : Option Nat := none
  user : Option Nat := none
deriving DecidableEq, Repr

/-- What the head still waits to hear about a record it mirrored (R410): when it was last sent and the consecutive compare
failures. -/
structure MirWait where
  sentAt : Nat
  fails : Nat
deriving DecidableEq, Repr

/-- What a HELLO of the partner says (R403): its identity, GEN1, NONCE, MODE, SRC and AT, and the AT copy at its arrival. -/
structure Hello where
  head : Nat
  gen : Nat
  nonce : Bytes
  mode : Nat
  src : Nat
  atime : Nat
  arrived : Nat
deriving DecidableEq, Repr

/-- Creterlink beside its registers: the session attempt (the accepted HELLO of the partner, the head's own NONCE and the GEN1 it sent, G,
when HELLO was last sent, whether the join was refused); the transmit and receive sequences, the frames to send in order, the channel
served last of VCs 0 to 4, the frames since the last IDLE, the channel whose freed count the last frame named and those whose count has
changed, the replay buffer with its timer, its replays without progress, the last NAK; the frames sent and freed per channel; the open
messages with the frames they have so far, and the whole messages received: channel, frames, bytes; the next IVC and the last FENCE IVC;
mirror waits by record, the mirror messages that wait for MIRO grates by user, MTYPE and body, the MIR_DATA messages that program 0x0004 checks by the command number given them, each with whether its item is
posted; the records asked for with STAGE_GET by RTAG, the next RTAG; whether heartbeats are watched, the slot judged next, the slots
heard in time, the slot last sent; when the link last saw a good frame; how many frames had been sent when it last trained; whether a HELLO ended the session; head B's arbitration: when its
delay ends, and whether the answer of a drive is awaited. -/
structure CrlSt where
  hello : Option Hello := none
  nonceOwn : Bytes := []
  genOwn : Nat := 0
  gen : Nat := 0
  helloAt : Nat := 0
  refused : Bool := false
  lastAck : Nat := 0xFFFFFF
  txq : List HeldFrame := []
  rrVc : Nat := 4
  sinceIdle : Nat := 0
  cvc : Nat := 0
  changed : List Nat := []
  replay : List HeldFrame := []
  replayAt : Nat := 0
  replays : Nat := 0
  nakAt : Option Nat := none
  sent : Tab Nat := []
  freed : Tab Nat := []
  rxFreed : Tab Nat := []
  opened : Tab (Nat × Bytes) := []
  inbox : List (Nat × Nat × Bytes) := []
  ivc : Nat := 1
  fenceIvc : Nat := 0
  mirWait : Tab MirWait := []
  mirOut : List (Nat × Nat × Bytes) := []
  mirIn : Tab (Bytes × Bool) := []
  stageOut : Tab Nat := []
  nextTag : Nat := 1
  watch : Bool := false
  hbNext : Nat := 0
  hbGot : List Nat := []
  hbSent : Nat := 0
  frameAt : Nat := 0
  lineFrom : Nat := 0
  endedByHello : Bool := false
  arbAt : Option Nat := none
  arbWait : Bool := false
deriving DecidableEq, Repr
/-! ### Requesters and register access (ch. 00) -/

/-- Each requester's latched high halves (R9) and staged low halves (R10), by requester and register address. -/
structure AccSt where
  latch : Tab Nat := []
  staged : Tab Nat := []
deriving DecidableEq, Repr

/-! ### Grate pool (ch. 01) -/

/-- A held grate: the channel charged, whether its payload is journalled, its admission AT and the command or record it
serves. -/
structure Grate where
  chan : Nat
  journalled : Bool
  atime : Nat
  user : Nat
deriving DecidableEq, Repr

/-- A waiting grate request (R29): its channel, the user it is for, and the admission AT. -/
structure GrateReq where
  chan : Nat
  user : Nat
  atime : Nat
deriving DecidableEq, Repr

/-- The Grate pool: held grates by number, the shared holding of each channel, waiting requests oldest first, the channel last
granted a shared grate, per channel when its stall time began, the stalled channels (the stall itself, apart from the W1C bits), and
the payloads moved to the DDR overflow (R33): whose each is, the grate it was in, its address in DDR. -/
structure PoolSt where
  held : Tab Grate := []
  shared : Tab Nat := []
  waiting : List GrateReq := []
  lastShared : Nat := 7
  stallFrom : Tab Nat := []
  stalled : List Nat := []
  overflow : List (Nat × Nat × Nat) := []
deriving DecidableEq, Repr

/-! ### Host ports (ch. 02) -/

/-- A host's CXL.mem request (R50): the line, the bytes it writes with their offset in the line (a read when none), whether the host may
hold the line afterwards, and whether DDR returns an uncorrectable error (R53). -/
structure MemReq where
  line : Nat
  write : Option (Nat × Bytes)
  track : Bool
  ecc : Bool
deriving DecidableEq, Repr

/-- A BISnp awaiting its BIRsp (R51, R52): the line, whether it is BISnpInv, when it was last sent, whether that was the second time, whether a
device-side read and a device-side write wait on it, and the host requests that wait on the eviction, in order. -/
structure Snoop where
  line : Nat
  inv : Bool
  sentAt : Nat
  again : Bool := false
  rd : Bool := false
  wr : Bool := false
  host : List MemReq := []
deriving DecidableEq, Repr

/-- A device-side write of window bytes that waits for its turn and for BIRsp, with the vector raised once it is made. -/
structure DevWrite where
  off : Nat
  bytes : Bytes
  irq : Option Nat := none
deriving DecidableEq, Repr

/-- The reset sources of R70. -/
inductive PortSrc where
  | perst | linkDown | hotReset | cxlReset | viral | ide | portEn
deriving DecidableEq, Repr

/-- One MSI-X table entry: address, data and mask. -/
structure MsixEntry where
  addr : Nat := 0
  data : Nat := 0
  masked : Bool := true
deriving DecidableEq, Repr

/-- A host port beside its registers: what was negotiated, the DVSEC range and the decoder (bytes), the snoop filter oldest first, the lines
whose BISnpData has been answered and not yet read, poisoned lines, snoops in flight, device-side writes in order, Cache_Enable with the
queue lines held (a completion queue's are owned), the IDE streams with their modes (skid, or containment), the reset sources asserted,
when the last source ended, function readiness, MSI-X, PTM with the time of its last dialog, and where the DDR range that
backs the window begins. -/
structure HostPort where
  backing : Nat := 0
  cxl : Bool := false
  memNeg : Bool := false
  cacheNeg : Bool := false
  memCapable : Bool := false
  range1 : Nat := 0
  hdmBase : Nat := 0
  hdmSize : Nat := 0
  hdmWays : Nat := 1
  committed : Bool := false
  commitErr : Bool := false
  filter : List Nat := []
  clean : List Nat := []
  devq : List DevWrite := []
  poison : List Nat := []
  snoops : List Snoop := []
  cacheEnable : Bool := false
  lines : List (Nat × Bool) := []
  ideIo : Bool := false
  ideMem : Bool := false
  ideIoSkid : Bool := false
  ideMemSkid : Bool := false
  ideKeys : Tab Bytes := []
  rst : List PortSrc := []
  relAt : Nat := 0
  ready : Bool := false
  msixEnable : Bool := false
  msixMask : Bool := false
  msix : Tab MsixEntry := []
  msixPend : List Nat := []
  ptmEnable : Bool := false
  ptmAt : Nat := 0
deriving DecidableEq, Repr

/-! ### NVMe controllers and Bellows (ch. 02, 04) -/

/-- A submission queue: next entry to fetch, tail of the last doorbell, entries, its completion queue and its priority class. -/
structure SubQ where
  head : Nat := 0
  tail : Nat := 0
  size : Nat := 2
  cq : Nat := 0
  prio : Nat := 2
deriving DecidableEq, Repr

/-- A completion entry: command identifier, submission queue, its head, status code and type, Dword 0. -/
structure Cqe where
  cid : Nat
  sq : Nat
  sqHead : Nat
  sct : Nat
  sc : Nat
  dw0 : Nat
deriving DecidableEq, Repr

/-- A completion queue: next entry to post, the host's head, entries, its vector, whether it interrupts, its phase, and the
completions waiting for room, oldest first (R110). -/
structure CplQ where
  tail : Nat := 0
  head : Nat := 0
  size : Nat := 2
  vector : Nat := 0
  irq : Bool := true
  phase : Bool := true
  waiting : List Cqe := []
deriving DecidableEq, Repr

/-- The NVMe controller of a port: enable and ready, the arbitration mechanism, its queues by number (0 is the admin pair), the
Arbitration feature, the power state it requests, and the ANA states it last reported for groups 1 and 2 (0 Inaccessible,
1 Optimized, 2 Non-Optimized). -/
structure Ctrl where
  en : Bool := false
  rdy : Bool := false
  ams : Nat := 0
  sqs : Tab SubQ := []
  cqs : Tab CplQ := []
  burst : Nat := 3
  hpw : Nat := 0
  mpw : Nat := 0
  lpw : Nat := 0
  ps : Nat := 0
  ana1 : Nat := 0
  ana2 : Nat := 0
deriving DecidableEq, Repr

/-- What a host command does. -/
inductive CmdKind where
  | read | write | flush | dealloc | writeZeroes | nop | replGet
deriving DecidableEq, Repr

/-- Where a host command stands: waiting for its slot, holding a slot the host fills, taking its payload into grates, staged, with
the partner (forwarded, or held for it), or reading. -/
inductive CmdStage where
  | waitSlot | slotHost | landing | staged | reading | forwarded | holding | waitFlush
deriving DecidableEq, Repr

/-- A host command in flight. `id` is its place in the fetch order; `ring` tells a window ring from an NVMe queue; `ranges` are the
granule ranges a deallocation covers, or the granules of a read that did not come from the drives; `dead` says its completion is
discarded (R71); `posted` that its journal records have been posted; `away` that it belongs to the partner (R412); the conditions of
R115 are `posted`, `recorded` and `mirDone`; `foreign` is the FTAG of a command the partner forwarded; `list` is
the DDR address of its grate list; `buckets` the bytes of a read's data that its SGL discards (R60), by offset and length. -/
structure Cmd where
  id : Nat
  port : Nat
  ring : Bool
  queue : Nat
  cid : Nat
  kind : CmdKind
  vol : Nat
  lba : Nat
  len : Nat
  pgm : Nat
  irq : Bool
  atime : Nat
  seq : Nat
  chead : Nat
  stage : CmdStage
  slot : Nat
  ranges : List (Nat × Nat) := []
  payload : Bytes := []
  overrun : Bool := false
  posted : Bool := false
  away : Bool := false
  recorded : Bool := false
  mirDone : Bool := false
  dead : Bool := false
  foreign : Option Nat := none
  stream : Nat := 0
  list : Nat := 0
  buckets : List (Nat × Nat) := []
deriving DecidableEq, Repr

/-- A volume's entries in the failover state: BEL_VOL_CFG, BEL_VOL_SIZE, HOME, the policy word, the loss-table entry, which of
configuration, size and policy word a suspension still waits for (R363; 0 when none), and the admin pair of a running Format (0
when none). -/
structure Vol where
  present : Bool := false
  owner : Nat := 0
  ro : Bool := false
  attach : Nat := 0
  domain : Nat := 0
  size : Nat := 0
  home : Nat := 0
  policy : Nat := 0x7D
  loss : Nat := 0
  susp : Nat := 0
  format : Nat := 0
deriving DecidableEq, Repr

/-- An admin command handed to firmware: port, command identifier, opcode, the volume it creates (16,384: none). -/
structure AdminCmd where
  port : Nat
  cid : Nat
  op : Nat
  vol : Nat
deriving DecidableEq, Repr

/-- Bellows: the sequence counter, the end of the committed block and the highest sequence issued, commands in
flight in fetch order, the next command number, whether write fetch is stopped and for which payload, queues and rings stopped, the fetch turn (last port,
per port the member served and the entries left in its burst), the volume table, admin commands with firmware, the
Set Features completion Banked entry holds, the sanitize failure state and status. -/
structure BelSt where
  seqNext : Nat := 1
  blockEnd : Nat := 0
  seqMax : Nat := 0
  cmds : List Cmd := []
  nextId : Nat := 1
  stopNeed : Nat := 0
  stopped : List (Nat × Bool × Nat) := []
  lastPort : Nat := 1
  member : Tab Nat := []
  burstLeft : Tab Nat := []
  wrrLeft : Tab Nat := []
  ctrls : Tab Ctrl := []
  vols : Tab Vol := []
  admin : List AdminCmd := []
  psCpl : Option (Nat × Nat) := none
  sanitizeFail : Bool := false
  sanStatus : Nat := 0
deriving DecidableEq, Repr

/-! ### Grate window (ch. 03) -/

/-- A device copy of a slot's flag word (R79). -/
structure Flag where
  state : Nat := 0
  gen : Nat := 0
  code : Nat := 0
  count : Nat := 0
  tag : Nat := 0
deriving DecidableEq, Repr

/-- A completion-ring entry (R88) without its PHASE, which the ring gives it when it is posted. -/
structure RingCpl where
  tag : Nat
  status : Nat
  notice : Bool
  overrun : Bool
  slotValid : Bool
  chead : Nat
  slot : Nat
  count : Nat
  seq : Nat
  atime : Nat
  irq : Bool
deriving DecidableEq, Repr

/-- One ring pair: the command ring's next entry and tail; the completion ring's next entry to post, head and PHASE; and the entries
waiting for room (R89). -/
structure Ring where
  head : Nat := 0
  tail : Nat := 0
  post : Nat := 0
  chead : Nat := 0
  phase : Bool := true
  waiting : List RingCpl := []
deriving DecidableEq, Repr

/-- The Grate window of a port: the layout in force (rings, depth, slots, slot size in bytes), the device copies, the rings, the free
slots longest free first, when each slot entered XRDY, whether the running reset is that of a port-reach reset, the slots whose data write
met a second snoop timeout (R52), and the slots whose flag line a GRT_DONE_DB waits to read. -/
structure Window where
  rings : Nat := 0
  depth : Nat := 0
  slots : Nat := 0
  slotSize : Nat := 0
  flags : Tab Flag := []
  ring : Tab Ring := []
  freeOrder : List Nat := []
  xrdyAt : Tab Nat := []
  byReset : Bool := false
  writeFail : List Nat := []
  doneq : List Nat := []
deriving DecidableEq, Repr
/-! ### Stoves (ch. 05, 06), their units (ch. 07, 10, 11) -/

/-- A descriptor register (R175): space, address, length and offset. A register that starts at zero is an empty range of local
memory. -/
structure Desc where
  space : Nat := 0
  addr : Nat := 0
  len : Nat := 0
  off : Nat := 0
deriving DecidableEq, Repr

/-- A 64-byte work item (R148) as it was posted, the number of Stoves it has failed on (R167), what the poster keeps under its TAG (0
when it keeps nothing), and the program slot its Stove runs it from (R149, R158). -/
structure WorkItem where
  bytes : Bytes
  fails : Nat := 0
  user : Nat := 0
  slot : Nat := 0
deriving DecidableEq, Repr

/-- The unit work a ticket stands for, with the copies of its operands that R185 takes at issue. Blocks of the compressor are named by
number; a cipher stream keeps the key it runs under; a request block is read when its unit starts the request (R200). -/
inductive Job where
  | cpy (dst src : Desc)
  | fill (dst : Desc) (v : W64)
  | cmp (x y : Desc)
  | post (item : Bytes)
  | grAlloc (user : Nat)
  | czOpen (blk : Nat)
  | czPut (blk : Nat) (src : Desc) (closes : Bool)
  | czFlush (blk : Nat)
  | czClose (blk : Nat)
  | czDec (dst src : Desc)
  | dgAlloc (alg n key : Nat)
  | dgAbs (ctx : Nat) (src : Desc)
  | dgFin (ctx : Nat) (v : W64) (n : Nat)
  | dgCmp (ctx : Nat) (ref : Desc)
  | ciLock (key : Nat) (urgent : Bool)
  | ciXts (key : Bytes) (dst src : Desc) (tweak : W64) (dec : Bool)
  | ciGcm (key : Bytes) (dst src : Desc) (params : Bytes) (dec : Bool)
  | par (at_ : Nat) (block : Bytes)
  | idx (block : Nat) (op : Nat)
  | drv (block : Nat)
  | crl (at_ : Nat) (block : Bytes)
deriving DecidableEq, Repr

/-- A ticket entry (R142): its epoch, whether it is in use, the job with its place in the issue order while it has not finished,
whether the job holds its unit or lane (R145), the lane, since when, the status once it has finished, whether a digest stream was paused, and the context a finished DG.FIN wrote. -/
structure Ticket where
  epoch : Nat := 0
  used : Bool := false
  job : Option Job := none
  order : Nat := 0
  granted : Bool := false
  lane : Nat := 0
  since : Nat := 0
  status : Nat := 0
  sliced : Bool := false
  fin : Option Nat := none
deriving DecidableEq, Repr

/-- What a strand is doing. -/
inductive StrandState where
  | idle | running | faulted
deriving DecidableEq, Repr

/-- What a running strand waits for (R140): a ticket to finish, an AT, a free ticket entry, every ticket to finish. -/
inductive StrandWait where
  | ticket (entry : Nat)
  | time (at_ : Nat)
  | entry
  | all
deriving DecidableEq, Repr

/-- A compressor block (R206): its strand, destination and limit; the granules CZ.PUTs have promised it; whether it is still open; its
lane (0 to 5, 6 the raw bypass of R225, none while it waits); the data absorbed, a failed PUT's status, and the ticket its result goes
to. -/
structure CzBlk where
  strand : Nat
  dst : Desc
  limit : Nat
  promised : Nat := 0
  isOpen : Bool := true
  bypass : Bool := false
  lane : Option Nat := none
  data : Bytes := []
  bad : Option Nat := none
  closer : Option Nat := none
deriving DecidableEq, Repr

/-- A strand (R171): registers, program counter, tickets, the number of its open block, the work item it runs with its program slot
and start, and what it waits for. -/
structure Strand where
  st : StrandState := .idle
  wait : Option StrandWait := none
  g : Tab W64 := []
  d : Tab Desc := []
  pc : Nat := 0
  tickets : Tab Ticket := []
  block : Option Nat := none
  item : Option WorkItem := none
  slot : Nat := 0
  startAt : Nat := 0
  fltCode : Nat := 0
  fltPc : Nat := 0
deriving DecidableEq, Repr

/-- A program slot (R156, STV_PSLOT): state (0 EMPTY, 1 LOADING, 2 VALID, 3 DRAINING), image facts, the entry offsets by KIND, the
data range. -/
structure PSlot where
  state : Nat := 0
  unsigned : Bool := false
  key : Nat := 0
  pgm : Nat := 0
  version : Nat := 0
  size64 : Nat := 0
  base64 : Nat := 0
  units : Nat := 0
  entries : List Nat := []
  dataOff : Nat := 0
  dataLen : Nat := 0
deriving DecidableEq, Repr

/-- A load in progress (R156): the slot, the image it reads from, its header as the checks read it, and the result the checks made at GO have
decided. -/
structure Load where
  slot : Nat
  addr : Nat
  header : Bytes
  result : Nat
deriving DecidableEq, Repr

/-- A digest context (R289): state (0 FREE, 1 HELD, 2 FINISHED, 3 RELEASING), algorithm, holder, the message absorbed so far, the
declared length, the key, the accumulated flags, the finished digest, RESNUM, the
verdict pair, the slot its key came from, and whether the status of its DG.FIN has been returned (R198). -/
structure DgCtx where
  state : Nat := 0
  alg : Nat := 0
  strand : Nat := 0
  msg : Bytes := []
  decl : Nat := 0
  absd : Nat := 0
  key : Bytes := []
  trunc : Bool := false
  short : Bool := false
  res : Bytes := []
  resNum : Nat := 0
  vb : Nat := 0
  vbn : Nat := 0
  keySlot : Option Nat := none
  shown : Bool := false
deriving DecidableEq, Repr

/-- The cipher lock (R304): the strand, whether its request was urgent, the key slot and the copy of its 64 key bytes. -/
structure CiHold where
  strand : Nat
  urgent : Bool
  slot : Nat
  key : Bytes
deriving DecidableEq, Repr

/-- One Stove: strands, program store, local memory, work queue, program slots, a running load, the words of STV_WI_POST; compressor
blocks by number with the next number, lanes disabled and the consecutive shadow mismatches of each (R224); digest contexts; the cipher
lock and a suspended holder; the lanes, by class, that finish what a released strand left there (R147); the next place in the issue order and the strand that issued last; whether it is fenced. -/
structure Stove where
  strands : Tab Strand := []
  pstore : Tab W64 := []
  lmem : Tab Byte := []
  queue : List WorkItem := []
  pslots : Tab PSlot := []
  load : Option Load := none
  post : Tab Nat := []
  blocks : Tab CzBlk := []
  nextBlk : Nat := 0
  laneOff : Nat := 0
  laneMiss : Tab Nat := []
  ctxs : Tab DgCtx := []
  lock : Option CiHold := none
  susp : Option CiHold := none
  orphans : List (Nat × Nat) := []
  order : Nat := 0
  turn : Nat := 3
  fenced : Bool := false
deriving DecidableEq, Repr
/-! ### Deduplication index and Index cache (ch. 08, 09) -/

/-- An index entry (R239). VALID is the listing itself and DEAD is REFCNT = 0 (R240). -/
structure IdxEntry where
  fp : Bytes
  domain : Nat
  loc : Nat
  refcnt : Nat
  gen : Nat
  verified : Bool := false
deriving DecidableEq, Repr

/-- A bucket (R237, R238): how often it has been written, STATE, the index-zone address of its latest written version, its entries. -/
structure Bucket where
  version : Nat := 0
  bad : Bool := false
  bloc : Nat := 0
  entries : List IdxEntry := []
deriving DecidableEq, Repr

/-- A half of the index (R234): global depth, filter buckets of four tag slots, buckets keyed by `2^L + PREFIX` (an unlisted
bucket of depth 16 that has not split is empty), entries and unique granules counted, whether its filter is still to be built (R258). -/
structure Half where
  depth : Nat := 16
  stale : Bool := false
  filter : Tab (List Nat) := []
  buckets : Tab Bucket := []
  entries : Nat := 0
  unique : Nat := 0
deriving DecidableEq, Repr

/-- Who an index request answers to: a Stove ticket, known by its place in the issue order, with its block in local memory; the partner's
RTAG; or the device itself, which releases the references of a deallocation or a Format. -/
inductive IdxOrigin where
  | ticket (stove strand entry order addr : Nat)
  | partner (rtag : Nat)
  | device
deriving DecidableEq, Repr

/-- An index request: its op, its 128 bytes, what its bucket or map page is read as (none: as it was written), and whether its program verifies
(R255). -/
structure IdxReq where
  origin : IdxOrigin
  op : Nat
  block : Bytes
  image : Option Bytes := none
  verify : Bool := false
deriving DecidableEq, Repr

/-- An index request that has taken effect and is to end: its 128 bytes as the device leaves them, its status and AUX, and the
journal record that must commit first (R250). -/
structure IdxPend where
  req : IdxReq
  block : Bytes
  status : Nat
  aux : Nat
  record : Option Nat
deriving DecidableEq, Repr

/-- The dedup index control: both halves' images, the volume maps by volume and granule, each map page's write count and pointer, the
versions held in the bucket store oldest first (half 0 or 1 with a bucket key, or 2 with a map page), those being written out by the number
of their item, with the addresses they go to, the next such number, the held lists of R257, MAPSETs whose
snapshot record waits for room in its sub-ring (R439), requests that took effect, requests forwarded to the partner by RTAG, requests that wait for room in the store or for a hand-over, the items of a reclamation pass still out, what each change stood in place of whose record is not committed (by the record's tag:
stripe number, change, old value), and the map entries, with
their domains, whose references a Format has still to release, by its operation pair. -/
structure DdxSt where
  halves : Tab Half := []
  maps : Tab MapEntry := []
  pages : Tab (Nat × Nat) := []
  store : List (Nat × Nat) := []
  writing : Tab (List ((Nat × Nat) × Nat)) := []
  writeNo : Nat := 0
  snapWait : List IdxPend := []
  heldList : List (Nat × IdxEntry) := []
  pend : List IdxPend := []
  fwd : Tab IdxReq := []
  roomWait : List IdxReq := []
  reclaimItems : Nat := 0
  undo : Tab (Nat × RecBody × RecBody) := []
  oldMaps : Tab (List (Nat × MapEntry)) := []
deriving DecidableEq, Repr

/-- One way of a set (R264): whether its line is valid, its tag, its lock, its data. A locked line that was invalidated keeps tag
and lock (R268). -/
structure IchWay where
  valid : Bool := false
  tag : Nat := 0
  locked : Bool := false
  data : Bytes := []
deriving DecidableEq, Repr

/-- A set: its ways by number and their order, most recently used first (R266). -/
structure IchSet where
  ways : Tab IchWay := []
  order : List Nat := [0, 1, 2, 3, 4, 5, 6, 7, 8, 9, 10, 11, 12, 13, 14, 15]
deriving DecidableEq, Repr

/-- A merging-buffer entry (R272): its line, when it was taken, the bytes written by offset. -/
structure WbEntry where
  line : Nat
  since : Nat
  bytes : Tab Byte
deriving DecidableEq, Repr

/-- A request of the dedup index control: a read (`data` none) or a write of up to 64 bytes within a line. A read that joined a fill
holds in `data` the bytes it will be answered with. -/
structure IchReq where
  id : Nat
  addr : Nat
  len : Nat
  data : Option Bytes
deriving DecidableEq, Repr

/-- A fill (R269): its line, the bursts still to come in order, the line as DDR and the merging buffer held it when it was issued,
whether that was poisoned, whether a write by another agent made it stale, whether it is a prefetch nobody has used, whether a LOCK
asked for it, the writes laid over it, and the reads that joined it, each until the bursts it needs are in. -/
structure IchFill where
  line : Nat
  bursts : List Nat
  data : Bytes := []
  poison : Bool := false
  stale : Bool := false
  prefetch : Bool := false
  lock : Bool := false
  laid : Tab Byte := []
  joined : List IchReq := []
deriving DecidableEq, Repr

/-- A maintenance operation that runs (R280): its code, FORCE, whether it is a range, its first and last line, the lines it has still to
act on for want of a fill entry, the lines whose fill it waits for, whether a LOCK met a full set, whether it unlocked a line, and the
lines counted as acted on and as skipped. -/
structure IchMnt where
  op : Nat
  force : Bool
  range : Bool
  first : Nat
  last : Nat
  todo : List Nat := []
  waits : List Nat := []
  full : Bool := false
  unlocked : Bool := false
  acted : List Nat := []
  skipped : List Nat := []
deriving DecidableEq, Repr

/-- The Index cache: the sets that hold something, the side buffer oldest first, the merging buffer oldest first, the fills, the
requests that wait, the running maintenance operation, poisoned lines of DDR, and the AT copies of the last second's tag errors. -/
structure IchSt where
  sets : Tab IchSet := []
  side : List (Nat × Bytes) := []
  wb : List WbEntry := []
  fills : List IchFill := []
  waiting : List IchReq := []
  mnt : Option IchMnt := none
  poisoned : List Nat := []
  tagErrs : List Nat := []
deriving DecidableEq, Repr
/-! ### Key store (ch. 11) and drives (ch. 12) -/

/-- A VALID slot of the key store (R312): its 64 key bytes, K1 then K2, and its CLASS. A slot that is not VALID is not listed. -/
structure KeySlot where
  key : Bytes
  cls : Nat
deriving DecidableEq, Repr

/-- The key store and the derivation unit: VALID slots, the array root fuses, the KDF counters of R321 (generations, WCOUNT), and
when the running crypto-erase step of R315 began. -/
structure KeySt where
  slots : Tab KeySlot := []
  aroot : Option Bytes := none
  gens : Tab Nat := []
  wcount : Nat := 0
  erase : Option Nat := none
deriving DecidableEq, Repr

/-- One drive-table entry (R329): DRV_DRV_CFG, its STATE (0 ABSENT, 1 ONLINE, 2 FAILED), its registration, DRV_DRV_CTL.FAIL, the
AT copies of its timeouts, its media errors since it became ONLINE, and its zones. -/
structure Drive where
  cfg : Nat := 0
  state : Nat := 0
  resv : Bool := false
  fail : Bool := false
  timeouts : List Nat := []
  media : Nat := 0
  zones : Nat := 0
deriving DecidableEq, Repr

/-- A drive request on its way (R347): its number, the ticket it answers (Stove 16: nobody's any more), where its request block lies,
what it asks, its buffer, the bytes an append writes, whether the drive has it and since when. -/
structure DrvCmd where
  id : Nat
  stove : Nat
  strand : Nat
  entry : Nat
  block : Nat
  op : Nat
  drive : Nat
  zone : Nat
  off : Nat
  len : Nat
  buf : Desc := {}
  data : Bytes := []
  sent : Bool := false
  sentAt : Nat := 0
deriving DecidableEq, Repr

/-- A stripe (R344) with what its rows still wait for: members by (drive, REPLACED, zone), per row the members whose append has
completed, the members whose zone is finished, the replacements a running rebuild writes (member, drive, zone), and since when LIVE is
0. -/
structure Stripe where
  state : Nat := 0
  cls : Nat := 0
  k : Nat := 0
  m : Nat := 0
  owner : Nat := 0
  rows : Nat := 0
  failed : Nat := 0
  live : Nat := 0
  openAt : Nat := 0
  members : List (Nat × Bool × Nat) := []
  rowDone : Tab (List Nat) := []
  fin : List Nat := []
  repl : List (Nat × Nat × Nat) := []
  zeroAt : Nat := 0
deriving DecidableEq, Repr

/-- The drive side: the drive table, stripes by number, requests on their way, the next request number, when each port left L0,
whether the partner's registrations are preempted, the stripe being rebuilt, and the write pointers of zones in bytes, by drive and zone, as far as
this head has seen them. -/
structure DrvSt where
  drives : Tab Drive := []
  stripes : Tab Stripe := []
  cmds : List DrvCmd := []
  nextId : Nat := 1
  downAt : Tab Nat := []
  preempted : Bool := false
  rebuild : Option Nat := none
  wps : Tab Nat := []
deriving DecidableEq, Repr
/-! ### What the head sends outside -/

/-- A BAR: its size in bytes, whether it is 64-bit and whether it is prefetchable. -/
structure Bar where
  size : Nat
  wide : Bool
  prefetch : Bool
deriving DecidableEq, Repr

/-- The configuration-space identity of a function (R54, R55), and the memory its CXL DVSEC declares (R48). -/
structure Function where
  vendor : Nat
  device : Nat
  subVendor : Nat
  subDevice : Nat
  revision : Nat
  cls : Nat
  bars : List Bar
  memCapable : Bool
  range1 : Nat
  range2 : Nat
deriving DecidableEq, Repr

/-- One thing the head emits: the answer to an access, a completion or interrupt to a host, a command to a drive, a frame to the
partner, a signal. -/
inductive Out where
  /-- A register read's data to a requester. -/
  | readData (req addr value : Nat)
  /-- The DOMAIN_NOT_READY error response of R24. -/
  | notReady (req addr : Nat)
  /-- An MSI-X message of a port: vector, address and data of its table entry. -/
  | msix (port vector addr data : Nat)
  /-- A 270-byte flue frame to the partner (R390). -/
  | frame (bytes : Bytes)
  /-- The Soot records the sideband controller answers with (R567). -/
  | sootRecords (records : List Bytes)
  /-- An NVMe completion entry written to a host's completion queue at an index, with its phase. -/
  | cqe (port cq index : Nat) (e : Cqe) (phase : Bool)
  /-- The data of an NVMe read or admin command moved to a host. -/
  | hostData (port queue cid : Nat) (data : Bytes)
  /-- A command to a drive: READ, APPEND, RESET, FINISH as DRV codes them, 4 Abort, 5 Reservation Register, 6 Reservation Acquire with
  preempt, 7 Sanitize (block erase); to a Flexible Data Placement namespace 8 Write with the placement identifier of the head's handle, 9 Dataset
Management deallocate of the whole zone (R333). -/
  | drive (drive op zone off len : Nat) (data : Bytes)
  /-- What the Index cache answers to a read of the dedup index control; none is DATA_ERR. -/
  | ichData (id : Nat) (data : Option Bytes)
  /-- What DDR answers to another agent's read; none where a line is poisoned. -/
  | agentData (addr : Nat) (data : Option Bytes)
  /-- A slot's pair starts at an address with a0 and a1. -/
  | hartStart (slot vector a0 a1 : Nat)
  /-- An ANA change asynchronous event on a port's controller. -/
  | anaChange (port : Nat)
  /-- A BISnpInv (`inv`) or BISnpData of a window line on a port. -/
  | bisnp (port line : Nat) (inv : Bool)
  /-- The answer to a host's CXL.mem read of a window line: its data, or poison. -/
  | memData (port line : Nat) (data : Option Bytes)
  /-- A host's CXL.mem write of a window line is complete. -/
  | memDone (port line : Nat)
  /-- A host's CXL.mem request is completed as unsupported. -/
  | memUnsupported (port line : Nat)
  /-- A CXL.cache request to the host for a queue line (R43, R46): 0 RdShared, 1 RdOwn, 2 DirtyEvict, 3 CleanEvict. -/
  | cacheReq (port key op : Nat)
  /-- What a host's configuration requests find of a port's function once it is ready (R54, R55). -/
  | function (port : Nat) (f : Function)
  /-- What END returns to the poster of a work item (R187): the item's ORIGIN and TAG, and the value. -/
  | itemEnd (origin tag value : Nat)
  /-- A phase of Global Persistent Flush is acknowledged (R44). -/
  | gpfAck (port phase : Nat)
  /-- What an Identify or Get Log Page command, or Get Features, answers a host. -/
  | adminData (port cid : Nat) (data : Bytes)
deriving DecidableEq, Repr
/-! ### The machine -/

/-- Why a step stops with a fault. There is no reason: every error the spec gives the head is an effect on its state, an access
that reaches nothing reads zero (R12), and a command that cannot act leaves the state as it was. -/
inductive Fault where
deriving DecidableEq, Repr

/-- Why a step is refused. -/
inductive Refusal where
  /-- A command whose meaning is not written yet, by the mnemonic of the opcode table. Safe: nothing is proved of it. -/
  | notModelled (mnemonic : String)
  /-- An access to the DBG block while the security posture opens it: its registers are for the maker's tools and the spec says
  nothing of them (R583). Raised by register reads and writes. Safe. -/
  | debugUnit
deriving DecidableEq, Repr

/-- A PF7160 head. `regs` holds every register field that has no home below, 0 where nothing is listed; `acc` the latches and staged
halves of each requester; `fwq` is firmware's exception queue, `heldItems` the work items that wait for room in a queue; `ddr`,
`grates` and `rsram` are the memories; `agentq` the DDR accesses of other agents that wait for a host's copy of a window line (address,
length, the data of a write); `out` everything the head has sent outside, newest first; `freeCtr`
is the model's own count of the free values taken; `pending` the commands that wait, first in first out. -/
structure State where
  regs : Tab Nat
  acc : Tab AccSt := []
  soot : SootSt := {}
  hrt : HrtSt := {}
  kdl : KdlSt := {}
  mode : ModeSt := {}
  dmp : DmpSt := {}
  tick : TickSt := {}
  and : AndSt := {}
  jnl : JnlSt := {}
  crl : CrlSt := {}
  pool : PoolSt := {}
  ports : Tab HostPort := []
  bel : BelSt := {}
  wins : Tab Window := []
  stoves : Tab Stove := []
  ddx : DdxSt := {}
  ich : IchSt := {}
  keys : KeySt := {}
  drv : DrvSt := {}
  fwq : List WorkItem := []
  heldItems : List WorkItem := []
  ddr : Tab Byte := []
  grates : Tab Byte := []
  rsram : Tab Byte := []
  agentq : List (Nat × Nat × Option Bytes) := []
  out : List Out := []
  freeCtr : Nat := 0
  pending : List Instr := []
deriving DecidableEq, Repr

/-- The state at the end of a power-on episode, as Kindling is about to run step 1 (R489, R497): every register field at its reset
value, every block empty, no command waiting. -/
def State.reset : State := { regs := resetFields }

end Sys2Proof.Machine
end

