-- ==== Sys2Proof/Machine/Ops.lean ====
section
/-! DEFINITION. The operations every block shares: register fields, Array Time, what is sent outside, free values, MSI-X, the Soot
staging buffer, degraded faults and mode transitions. -/

namespace Sys2Proof.Machine

/-- What a step answers. -/
abbrev Res := Host.Outcome State Fault Refusal

/-! ### Fields -/

/-- The value of a register field. -/
def State.get (s : State) (f : Fld) : Nat := Tab.getN s.regs f.key

/-- A one-bit field. -/
def State.getb (s : State) (f : Fld) : Bool := s.get f != 0

/-- Write a register field; a value wider than the field loses its high bits. -/
def State.set (s : State) (f : Fld) (v : Nat) : State := { s with regs := Tab.putN s.regs f.key (v % 2 ^ f.width) }

/-- Write a one-bit field. -/
def State.setb (s : State) (f : Fld) (b : Bool) : State := s.set f (b2n b)

/-- Set one bit of a field of flags. -/
def State.setBitOf (s : State) (f : Fld) (i : Nat) (b : Bool) : State := s.set f (putBit (s.get f) i b)

/-- Bit `i` of a field of flags. -/
def State.bitOf (s : State) (f : Fld) (i : Nat) : Bool := bit (s.get f) i

/-- A counter that wraps (R570). -/
def State.inc (s : State) (f : Fld) (n : Nat) : State := s.set f (s.get f + n)

/-- A counter that saturates (R570). -/
def State.incSat (s : State) (f : Fld) (n : Nat) : State := s.set f (satAdd f.width (s.get f) n)

/-! ### Time -/

/-- The AT copy (R23). -/
def State.now (s : State) : Nat := s.tick.count

/-- Elapsed time in units of 10 ns where the spec does not measure it in AT. -/
def State.cyc (s : State) : Nat := s.tick.cycles

/-- Microseconds, milliseconds and seconds in units of 10 ns. -/
def us (n : Nat) : Nat := n * 100
def ms (n : Nat) : Nat := n * 100000
def sec (n : Nat) : Nat := n * 100000000

/-! ### Outside, free values, interrupts -/

/-- Send something outside. -/
def State.emit (s : State) (o : Out) : State := { s with out := o :: s.out }

/-- The next free value. -/
def State.freeValue (s : State) : W64 := Config.free s.freeCtr

/-- The state once `n` free values have been taken. -/
def State.taken (s : State) (n : Nat) : State := { s with freeCtr := s.freeCtr + n }

/-- `n` free bytes from the next draws. -/
def State.freeBytes (s : State) (n : Nat) : Bytes :=
  (List.range n).map (fun i => (Config.free (s.freeCtr + i)).setWidth 8)

/-- The head's identity (R4): HEAD of the accepted option copy, A while none is accepted. -/
def State.head (s : State) : Nat := s.get F.GLB_ID_HEAD

/-- Host port `p`. -/
def State.port (s : State) (p : Nat) : HostPort := Tab.getD s.ports p {}

/-- Change host port `p`. -/
def State.updPort (s : State) (p : Nat) (f : HostPort → HostPort) : State := { s with ports := Tab.upd s.ports p {} f }

/-- Raise an MSI-X vector of a port (R63); while MSI-X is disabled or the vector is masked, its pending bit records it (R64). -/
def State.irq (s : State) (p v : Nat) : State :=
  let h := s.port p
  let e := Tab.getD h.msix v {}
  if h.msixEnable && !h.msixMask && !e.masked then s.emit (.msix p v e.addr e.data)
  else s.updPort p (fun h => { h with msixPend := if h.msixPend.contains v then h.msixPend else v :: h.msixPend })

/-- Raise a vector on every host port. -/
def State.irqAll (s : State) (v : Nat) : State := (s.irq 0 v).irq 1 v

/-! ### Domains (R21, R24) -/

/-- The clock domains by the numbers of R21. -/
def dHst (p : Nat) : Nat := 3 + p
def dDrv (g : Nat) : Nat := 5 + g
def dCrl : Nat := 9
def dDdrA : Nat := 10
def dDdrB : Nat := 11
def dHrt : Nat := 12
def dStv : Nat := 13
def dNoc : Nat := 14
def dCch : Nat := 15
def dEmb : Nat := 16
def dSbd : Nat := 17
def dDbg : Nat := 18

/-- Kindling has released domain `d`. -/
def State.released (s : State) (d : Nat) : Bool := s.bitOf F.KDL_REL_STS_DOMAIN (d - 1)

/-- The domain is released and Damper has not parked it: CCH and STV are the parked domains that hold register blocks. -/
def State.answers (s : State) (d : Nat) : Bool :=
  s.released d && !(d == dCch && s.bitOf F.DMP_STS_PARKED 0) && !(d == dStv && s.bitOf F.DMP_STS_PARKED 1)

/-- The MODE codes of R472. -/
def mKindling : Nat := 1
def mJoining : Nat := 2
def mDuplex : Nat := 3
def mSolo : Nat := 4
def mBanked : Nat := 5
def mSweep : Nat := 6

/-- The mode. -/
def State.md (s : State) : Nat := s.get F.GLB_MODE_MODE

/-- A field of GLB_MODE or the CODE of GLB_FAULT takes a value: a change raises vector 2,044 (R63). -/
def State.setMode (s : State) (f : Fld) (v : Nat) : State := if s.get f == v % 2 ^ f.width then s else (s.set f v).irqAll 2044

/-- The Quench phase. -/
def State.qphase (s : State) : Nat := s.get F.GLB_MODE_QPHASE

/-! ### Soot staging (R555-R562, R589) -/

/-- An item of at most 32 bits, and one defined wider (R556). -/
def w1 (x : Nat) : List Nat := [x % 2 ^ 32]
def w2 (x : Nat) : List Nat := [x % 2 ^ 32, x / 2 ^ 32 % 2 ^ 32]

/-- The codes marked with an asterisk in R568. -/
def sootUrgent : List Nat :=
  [0x0104, 0x0106, 0x0108, 0x0203, 0x0207, 0x0301, 0x0303, 0x0322, 0x0406, 0x040B, 0x040E, 0x0502, 0x0521, 0x0804, 0x0901,
   0x0A02, 0x0A04, 0x0B02, 0x0B08, 0x0C03, 0x0F03, 0x0F13, 0x0F14]

/-- The present STAMP (R555). -/
def State.stamp (s : State) : Nat := s.soot.cycles % 2 ^ 24 * 2 ^ 40 + s.soot.opTime % 2 ^ 40

/-- The lost-event count rises by one (R561, R562): vector 2,046 is raised and PLIC source 25 waits for a read. -/
def State.sootLose (s : State) : State :=
  { (s.incSat F.SOOT_LOST_COUNT 1).irqAll 2046 with soot := { s.soot with unread := true } }

/-- Start a flush of what is staged (R559): none while frozen (R563); a trigger that meets a running flush flushes again when it
ends. -/
def State.sootFlush (s : State) : State :=
  if s.getb F.SOOT_STS_FROZEN then s
  else match s.soot.flushing with
    | some _ => { s with soot := { s.soot with again := true } }
    | none => { s.setb F.SOOT_STS_FLUSHING true with soot := { s.soot with flushing := some s.soot.staged.length } }

/-- Stage one event (R558): dropped and counted when all 256 entries are in use (R561). -/
def State.record (s : State) (code : Nat) (items : List Nat) : State :=
  if s.soot.staged.length ≥ 256 then s.sootLose
  else
    let r : SootRec := { code, frozen := s.getb F.SOOT_STS_FROZEN, head := s.head, stamp := s.stamp, atime := s.now, items := items.take 8 }
    let s' := { s with soot := { s.soot with staged := s.soot.staged ++ [r] } }
    if sootUrgent.contains code || s'.soot.staged.length == 192 then s'.sootFlush else s'

/-- Stage an event whose code is limited for each `unit` to one per `gap` counts of AT (R589). -/
def State.recordGap (s : State) (gap code unit : Nat) (items : List Nat) : State :=
  let key := code * 2 ^ 24 + unit
  let due := match Tab.find s.soot.lastAt key with
    | none => true
    | some t => t + gap ≤ s.now
  if due && s.soot.staged.length < 256 then
    { s with soot := { s.soot with lastAt := Tab.put s.soot.lastAt key s.now } }.record code items
  else if due then s.record code items
  else s

/-- One event per millisecond for the code, and for the code and unit. -/
def State.recordMs (s : State) (code : Nat) (items : List Nat) : State := s.recordGap (ms 1) code 0 items
def State.recordMsOf (s : State) (code unit : Nat) (items : List Nat) : State := s.recordGap (ms 1) code unit items

/-! ### Modes and degraded faults (R474, R483) -/

/-- Raise the GLB interrupt of R474 to Hearth. -/
def State.glbRaise (s : State) : State := { s with hrt := { s.hrt with glbPend := true } }

/-- The ANA states of groups 1 and 2 a mode gives a head's controllers (R61); none where they keep what they reported. -/
def anaOf (mode head : Nat) : Option (Nat × Nat) :=
  if mode == mKindling || mode == mJoining then some (0, 0)
  else if mode == mDuplex then some (if head == 0 then (1, 2) else (2, 1))
  else if mode == mSolo then some (1, 1)
  else none

/-- A port's controller reports ANA states; a change raises its asynchronous event. -/
def State.reportAna (s : State) (a : Nat × Nat) (p : Nat) : State :=
  let c := Tab.getD s.bel.ctrls p {}
  if c.ana1 == a.1 && c.ana2 == a.2 then s
  else State.emit { s with bel := { s.bel with ctrls := Tab.put s.bel.ctrls p { c with ana1 := a.1, ana2 := a.2 } } } (.anaChange p)

/-- Both controllers report what the mode gives. -/
def State.showAna (s : State) : State :=
  match anaOf s.md s.head with
  | some a => (s.reportAna a 0).reportAna a 1
  | none => s

/-- Make mode transition number `num` of R474. In phase 2 of a Quench only row 11 is made (R479). During a takeover the ANA states change at
its fifth step (R459). -/
def State.transition (s : State) (mode num : Nat) : State :=
  if s.qphase == 2 && num != 11 then s else
  let old := s.md
  let s := (((((s.set F.GLB_MODE_PREV old).set F.GLB_MODE_MODE mode).irqAll 2044).glbRaise).incSat F.GLB_TRANS_CNT_COUNT 1).record
    0x0F10 (w1 old ++ w1 mode ++ w1 num)
  if s.and.takeoverAt.isSome then s else s.showAna

/-- Bits 53 to 19 of GLB_FAULT as one number. -/
def State.degraded (s : State) : Nat :=
  s.get F.GLB_FAULT_AND + s.get F.GLB_FAULT_DDR * 2 ^ 9 + s.get F.GLB_FAULT_HST * 2 ^ 11 + s.get F.GLB_FAULT_DRV * 2 ^ 13 +
  s.get F.GLB_FAULT_STV * 2 ^ 17 + s.get F.GLB_FAULT_ICH * 2 ^ 33 + s.get F.GLB_FAULT_CRL * 2 ^ 34

/-- Set or clear a degraded bit; each change raises vector 2,044 and the GLB interrupt and is recorded (R483). -/
def State.degrade (s : State) (f : Fld) (i : Nat) (b : Bool) : State :=
  if s.bitOf f i == b then s
  else
    let s' := s.setBitOf f i b
    ((s'.irqAll 2044).glbRaise).record 0x0F15 (w2 s'.degraded)

/-- Port 0 reports PTM loss to the TICK block (R69, R427). -/
def State.ptmLost (s : State) : State :=
  let s := s.setb F.TICK_STS_PTM_OK false
  if s.get F.TICK_CTL_SRC == 2 then
    ((s.setb F.TICK_STS_HOLDOVER true).setb F.TICK_ERR_PTM_LOSS true).recordMs 0x0E05 [] else s

end Sys2Proof.Machine
end

