-- ==== Sys2Proof/Machine/Access.lean ====
section
/-! DEFINITION. Who may reach which register: requesters (R13, R57, R532), the answer of a block whose domain is not ready (R24),
secure-only registers and the registers whose writes through a host port are ignored (the opening of each chapter's register rule). -/

namespace Sys2Proof.Machine

/-- The agent number of a requester (R540). -/
def reqAgent : Req → Nat
  | .hart s _ => s
  | .sideband => 8
  | .host p => 10 + p

/-- A requester marked secure: a hart in machine mode and the sideband, never a host. -/
def reqSecure : Req → Bool
  | .hart _ m => m
  | .sideband => true
  | .host _ => false

/-- The access comes through a host port. -/
def reqHost : Req → Bool
  | .host _ => true
  | _ => false

/-- A requester can reach register blocks: its own domain is out of reset. A requester held in reset sends nothing, and an episode of system
reach holds all three kinds (R24). A head that holds in Kindling answers on the sideband alone (R36). -/
def State.canReach (s : State) (r : Req) : Bool :=
  match r with
  | .hart _ _ => s.released dHrt && !s.getb F.KDL_STS_HOLD
  | .sideband => s.released dSbd
  | .host p => s.released (dHst p) && !s.getb F.KDL_STS_HOLD

/-- Some drive domain is released. -/
def State.anyDrv (s : State) : Bool := (List.range 4).any (fun g => s.released (dDrv g))

/-- The block at an address does not answer (R24). The companion-die blocks always answer; MBX answers through the bridge (R551). -/
def State.notReady (s : State) (a : Nat) : Bool :=
  if a < 0x600000 then false
  else if a < 0x700000 then !s.answers dNoc
  else if a < 0x900000 then !s.answers dCch
  else if a < 0xA00000 then !s.answers dNoc
  else if a < 0xB00000 then !s.answers dCrl
  else if a < 0xC00000 then !s.answers dHrt
  else if a < 0xD00000 then false
  else if a < 0x1000000 then
    if R.DRV_PORT_STS ≤ a && a < R.DRV_PORT_STS + 0x80 then !s.answers (dDrv ((a - R.DRV_PORT_STS) / 4 / 8)) else !s.anyDrv
  else if a < 0x3000000 then !s.answers dStv
  else if a < 0x3100000 then !s.answers dHrt
  else if a < 0x3200000 then
    !(a == R.KEY_STS || (R.KEY_DGEN ≤ a && a < R.KEY_DGEN + 0x40)) && !s.answers dNoc
  else if a < 0x3300000 then !s.answers dDbg
  else if 0x4000000 ≤ a && a < 0x4200000 then !s.answers (dHst ((a - 0x4000000) / 0x100000))
  else if 0x5000000 ≤ a && a < 0x5020000 then !s.answers (dHst ((a - 0x5000000) / 0x10000))
  else if 0xC000000 ≤ a && a < 0x10000000 then !s.answers dHrt
  else false

/-- The address lies in an array of `n` registers `stride` bytes apart. -/
def inArray (a base stride n width : Nat) : Bool := base ≤ a && a < base + stride * n && (a - base) % stride < width

/-- The secure-only registers (R13). -/
def secureOnly (a : Nat) : Bool :=
  inArray a R.STV_PKH 0x200000 16 0xB0 ||
  (0x3100000 ≤ a && a < 0x3200000 && !(a == R.KEY_STS || inArray a R.KEY_DGEN 4 16 4)) ||
  a == R.JNL_OPT_CMD || inArray a R.JNL_OPT_DATA 4 64 4 || a == R.CRL_FENCE || a == R.KDL_RST_CMD || a == R.KDL_MIN_SVN ||
  inArray a R.MBX_CFG 0x100 32 4 || inArray a R.MBX_STS 0x100 8 0xFC ||
  a == R.SOOT_CLR_CTL || a == R.SOOT_CLR_CFG || inArray a R.SOOT_CLR_RESP 4 8 4

/-- The registers a write through a host port does not change. -/
def hostIgnored (a : Nat) : Bool :=
  inArray a R.GRT_WIN_CFG 0x10000 2 4 || inArray a R.GRT_WIN_SLOTS 0x10000 2 4 ||
  a == R.BEL_CTL || a == R.BEL_DIRTY_BOUND || inArray a R.BEL_SEQ_NEXT 8 1 8 || a == R.BEL_VOL_CFG || inArray a R.BEL_VOL_SIZE 8 1 8 ||
  (0x1000000 ≤ a && a < 0x3000000 &&
    let o := (a - 0x1000000) % 0x200000
    (o < 0x20000 && o != 0x500) || o == 0x20000 || o == 0x2000C || o == 0x40000 || o == 0x60000 || (0xA0000 ≤ o && o < 0xC0000)) ||
  (0x900000 ≤ a && a < 0xA00000) || (0x800000 ≤ a && a < 0x900000) || (0xD00000 ≤ a && a < 0x1000000) || a == R.JNL_CTL ||
  (0xA00000 ≤ a && a < 0xB00000) || (0x500000 ≤ a && a < 0x600000) || (0xB00000 ≤ a && a < 0xC00000) ||
  a == R.GLB_MODE_REQ || a == R.GLB_CTL || inArray a R.GLB_BKP 4 32 4 || (0x10000 ≤ a && a < 0x20000) || a == R.KDL_REL_FORCE ||
  (0x200000 ≤ a && a < 0x300000) || (0x3000000 ≤ a && a < 0x3100000) || inArray a R.MBX_CFG 0x100 32 4 ||
  a == R.SOOT_CTL || a == R.SOOT_FRZ_TO

/-- A write that reaches its register has its effect; one to a block that is not ready gets the error response; any other is
discarded without a response (R13, R24). The spec does not order R13 and R24 where both hold: the model gives the error response
(log 126). -/
def State.withWrite (s : State) (r : Req) (a : Nat) (eff : State → State) : State :=
  if !s.canReach r then s
  else if s.notReady a then s.emit (.notReady (reqAgent r) a)
  else if (secureOnly a && !reqSecure r) || (hostIgnored a && reqHost r) then s
  else eff s

end Sys2Proof.Machine
end

