-- ==== Sys2Proof/Machine/Aes.lean ====
section
/-! DEFINITION. AES-256 (FIPS 197), its XTS mode (IEEE 1619, R309) and its GCM mode with a 96-bit IV and a 128-bit tag (SP 800-38D,
R310), and the byte field of the parity unit (R336). The spec names these standards (R7); their rounds are PRESUMED from them. -/

namespace Sys2Proof.Machine

/-- Product in GF(2^8) modulo `x^8 + r`: the low eight bits of the polynomial are `r`. -/
def gfMul (r : Byte) : Nat → Byte → Byte → Byte
  | 0, _, _ => 0
  | n + 1, a, b =>
    let p := if b.getLsbD 0 then a else 0
    p ^^^ gfMul r n (if a.getLsbD 7 then (a <<< 1) ^^^ r else a <<< 1) (b >>> 1)

/-- The product of the parity unit: polynomial 0x11D (R336). -/
def gmul (a b : Byte) : Byte := gfMul 0x1D 8 a b

/-- The product of AES: polynomial 0x11B. -/
def aesMul (a b : Byte) : Byte := gfMul 0x1B 8 a b

/-- `a` to the power `2^n - 2`, walking down the squares; with n = 8 it is the inverse, and 0 for 0. -/
def gfInvWith (mul : Byte → Byte → Byte) : Nat → Byte → Byte
  | 0, _ => 1
  | n + 1, a => let sq := mul a a; mul sq (gfInvWith mul n sq)

/-- Inverse under a product of GF(2^8). -/
def gfInv (mul : Byte → Byte → Byte) (a : Byte) : Byte := gfInvWith mul 7 a

/-- The AES S-box and its inverse. -/
def aesSub (a : Byte) : Byte :=
  let b := gfInv aesMul a
  b ^^^ b.rotateLeft 1 ^^^ b.rotateLeft 2 ^^^ b.rotateLeft 3 ^^^ b.rotateLeft 4 ^^^ 0x63

def aesInvSub (a : Byte) : Byte :=
  gfInv aesMul (a.rotateLeft 1 ^^^ a.rotateLeft 3 ^^^ a.rotateLeft 6 ^^^ 0x05)

/-- XOR of byte strings. -/
def xorB (a b : Bytes) : Bytes := List.zipWith (· ^^^ ·) a b

/-- Groups of `n` bytes. -/
def chunks (n : Nat) : Nat → Bytes → List Bytes
  | 0, _ => []
  | k + 1, bs => bs.take n :: chunks n k (bs.drop n)

/-- The next words of the AES-256 key schedule, held newest first; `i` is the index of the next word. -/
def aesExpand : Nat → Nat → Byte → List Bytes → List Bytes
  | 0, _, _, ws => ws
  | n + 1, i, rc, ws =>
    let t := ws.getD 0 []
    let t' :=
      if i % 8 == 0 then xorB ((t.drop 1 ++ t.take 1).map aesSub) [rc, 0, 0, 0]
      else if i % 8 == 4 then t.map aesSub
      else t
    aesExpand n (i + 1) (if i % 8 == 0 then aesMul rc 2 else rc) (xorB (ws.getD 7 []) t' :: ws)

/-- The fifteen round keys of a 32-byte key. -/
def aesKeys (key : Bytes) : List Bytes :=
  let ws := (aesExpand 52 8 1 (chunks 4 8 key).reverse).reverse
  chunks 16 15 ws.flatten

/-- ShiftRows and its inverse on a state held column by column. -/
def shiftRows (s : Bytes) : Bytes := (List.range 16).map (fun i => s.getD ((i + 4 * (i % 4)) % 16) 0)
def invShiftRows (s : Bytes) : Bytes := (List.range 16).map (fun i => s.getD ((i + 12 * (i % 4)) % 16) 0)

/-- Multiply a column by the circulant matrix of four coefficients. -/
def mixColumn (m : List Byte) (c : Bytes) : Bytes :=
  (List.range 4).map (fun r => (List.range 4).foldl (fun acc k => acc ^^^ aesMul (m.getD ((k + 4 - r) % 4) 0) (c.getD k 0)) 0)

/-- MixColumns with the given coefficients. -/
def mixColumns (m : List Byte) (s : Bytes) : Bytes := (chunks 4 4 s).flatMap (mixColumn m)

/-- The middle and last rounds of encryption. -/
def aesEncRounds : List Bytes → Bytes → Bytes
  | [], s => s
  | [k], s => xorB (shiftRows (s.map aesSub)) k
  | k :: ks, s => aesEncRounds ks (xorB (mixColumns [2, 3, 1, 1] (shiftRows (s.map aesSub))) k)

/-- AES-256 encryption of a 16-byte block. -/
def aesEnc (key blk : Bytes) : Bytes :=
  match aesKeys key with
  | [] => blk
  | k :: ks => aesEncRounds ks (xorB blk k)

/-- The rounds of decryption, with the round keys in reverse order. -/
def aesDecRounds : List Bytes → Bytes → Bytes
  | [], s => s
  | [k], s => xorB (invShiftRows s |>.map aesInvSub) k
  | k :: ks, s => aesDecRounds ks (mixColumns [14, 11, 13, 9] (xorB (invShiftRows s |>.map aesInvSub) k))

/-- AES-256 decryption of a 16-byte block. -/
def aesDec (key blk : Bytes) : Bytes :=
  match (aesKeys key).reverse with
  | [] => blk
  | k :: ks => aesDecRounds ks (xorB blk k)

/-! ### XTS -/

/-- Multiply an XTS tweak, low byte first, by the primitive element. -/
def xtsNext (t : Bytes) : Bytes :=
  let n := leNat t * 2
  leBytes 16 (if n ≥ 2 ^ 128 then Nat.xor (n - 2 ^ 128) 0x87 else n)

/-- One XTS block. -/
def xtsBlock (f : Bytes → Bytes) (t blk : Bytes) : Bytes := xorB (f (xorB blk t)) t

/-- A data unit of at least 16 bytes, block by block, stealing ciphertext for a partial last block; `dec` swaps the tweaks of the
last two blocks. -/
def xtsUnit (f : Bytes → Bytes) (dec : Bool) : Nat → Bytes → Bytes → Bytes
  | 0, _, m => m
  | n + 1, t, m =>
    if m.length < 32 ∧ 16 < m.length then
      let r := m.length - 16
      let t2 := xtsNext t
      let first := xtsBlock f (if dec then t2 else t) (m.take 16)
      let last := xtsBlock f (if dec then t else t2) (m.drop 16 ++ first.drop r)
      last ++ first.take r
    else if m.length ≤ 16 then xtsBlock f t m
    else xtsBlock f t (m.take 16) ++ xtsUnit f dec n (xtsNext t) (m.drop 16)

/-- XTS of a whole data unit under K1 (data) and K2 (tweak), with its sequence number little-endian (R309). -/
def xts (key : Bytes) (dec : Bool) (seq : Nat) (m : Bytes) : Bytes :=
  let k1 := key.take 32
  let k2 := key.drop 32
  let f := if dec then aesDec k1 else aesEnc k1
  xtsUnit f dec (m.length / 16 + 1) (aesEnc k2 (leBytes 16 seq)) m

/-! ### GCM -/

/-- Product in GF(2^128) as GHASH orders bits: bit 127 of a number is the coefficient of 1. -/
def ghashMul : Nat → Nat → Nat → Nat → Nat
  | 0, _, _, z => z
  | n + 1, x, v, z =>
    let z' := if bit x n then Nat.xor z v else z
    let v' := if bit v 0 then Nat.xor (v / 2) (0xE1 * 2 ^ 120) else v / 2
    ghashMul n x v' z'

/-- GHASH of whole blocks. -/
def ghash (h : Nat) : List Bytes → Nat → Nat
  | [], y => y
  | b :: bs, y => ghash h bs (ghashMul 128 (Nat.xor y (beNat b)) h 0)

/-- Whole 16-byte blocks, the last padded with zeros. -/
def blocks16 (m : Bytes) : List Bytes :=
  let n := (m.length + 15) / 16
  chunks 16 n (m ++ zeroBytes (16 * n - m.length))

/-- Counter-mode bytes from a counter on. -/
def gcmStream (key iv : Bytes) : Nat → Nat → Bytes
  | 0, _ => []
  | n + 1, c => aesEnc key (iv ++ beBytes 4 c) ++ gcmStream key iv n (c + 1)

/-- Encrypt or decrypt with the counter stream. -/
def gcmCrypt (key iv m : Bytes) : Bytes := xorB m (gcmStream key iv ((m.length + 15) / 16) 2)

/-- The 128-bit tag over the additional data and the ciphertext. -/
def gcmTag (key iv aad c : Bytes) : Bytes :=
  let h := beNat (aesEnc key (zeroBytes 16))
  let lens := beBytes 8 (8 * aad.length) ++ beBytes 8 (8 * c.length)
  xorB (beBytes 16 (ghash h (blocks16 aad ++ blocks16 c ++ [lens]) 0)) (aesEnc key (iv ++ beBytes 4 1))

end Sys2Proof.Machine
end

