-- ==== Sys2Proof/Machine/Ember.lean ====
section
/-! DEFINITION. The operation pairs of the Ember store (R133) and the sequence high-water mark kept in one (R113, R362). -/

namespace Sys2Proof.Machine

/-- Change the journal unit. -/
def State.updJnl (s : State) (f : JnlSt → JnlSt) : State := { s with jnl := f s.jnl }

/-! ### Operation pairs (R133) -/

/-- Serial order: `a` is newer than `b`. -/
def newer (a b : Nat) : Bool :=
  let d := (a % 2 ^ 32 + 2 ^ 32 - b % 2 ^ 32) % 2 ^ 32
  1 ≤ d && d ≤ 2 ^ 31 - 1

/-- The entry that is the state: 0 or 1, none when both fail. -/
def EmberPair.pick (p : EmberPair) : Option Nat :=
  match p.e0, p.e1 with
  | some a, some b => if newer b.1 a.1 then some 1 else some 0
  | some _, none => some 0
  | none, some _ => some 1
  | none, none => none

/-- The fields of the state. -/
def EmberPair.state (p : EmberPair) : Option (List Nat) :=
  match p.pick with
  | some 0 => p.e0.map (·.2)
  | some _ => p.e1.map (·.2)
  | none => none

/-- Update the pair. -/
def EmberPair.write (p : EmberPair) (v : List Nat) : EmberPair :=
  match p.e0, p.e1 with
  | some a, some b => if newer b.1 a.1 then { p with e0 := some ((b.1 + 1) % 2 ^ 32, v) } else { p with e1 := some ((a.1 + 1) % 2 ^ 32, v) }
  | some a, none => { p with e1 := some ((a.1 + 1) % 2 ^ 32, v) }
  | none, some b => { p with e0 := some ((b.1 + 1) % 2 ^ 32, v) }
  | none, none => { p with e0 := some (1, v) }

/-- Read and write the pair of a number. -/
def State.pair (s : State) (k : Nat) : Option (List Nat) := (Tab.getD s.jnl.pairs k {}).state
def State.savePair (s : State) (k : Nat) (v : List Nat) : State :=
  s.updJnl (fun j => { j with pairs := Tab.upd j.pairs k {} (fun p => p.write v) })

/-- Commit a sequence high-water mark (R113, R362). -/
def State.saveHwm (s : State) (h : Nat) : State := (s.updJnl (fun j => { j with hwm := h })).savePair 33 [h, s.jnl.lap]

end Sys2Proof.Machine
end

