-- ==== Sys2Proof/Machine/Keys.lean ====
section
/-! DEFINITION. The key store and the key derivation unit (R312-R322, R325). -/

namespace Sys2Proof.Machine

/-- Change the key store. -/
def State.updKeys (s : State) (f : KeySt → KeySt) : State := { s with keys := f s.keys }

/-- The label of a derived slot (R319). -/
def slotLabel : Nat → Bytes
  | 0 => ascii "EMBER"
  | 1 => ascii "CRETERLINK"
  | 2 => ascii "REPLICATION"
  | 3 => ascii "SOOT-CLEAR"
  | 4 => ascii "KEY-WRAP"
  | _ => []

/-- CLASS of a derived slot: DEFAULT for 1 and 2, else NONE. -/
def slotClass (n : Nat) : Nat := if n == 1 || n == 2 then 1 else 2

/-- The root a derived slot comes from; none while the array root is not burnt. -/
def State.root (s : State) (n : Nat) : Option Bytes := if n == 0 then some Config.deviceRoot else s.keys.aroot

/-- The 64 key bytes of a derived slot at its present generation (R320). -/
def State.derivedKey (s : State) (n : Nat) : Option Bytes :=
  (s.root n).map (fun r => kdf512 r (slotLabel n) (beBytes 4 n ++ beBytes 4 (Tab.getN s.keys.gens n)))

/-- Derive slot `n` (R319). -/
def State.derive (s : State) (n : Nat) : State :=
  match s.derivedKey n with
  | none => s
  | some k =>
    (s.updKeys (fun x => { x with slots := Tab.put x.slots n { key := k, cls := slotClass n } })).recordMsOf 0x0C04 n
      (w1 n ++ w1 (Tab.getN s.keys.gens n))

/-- The generations and WCOUNT as the KDF counters pair holds them (R321). -/
def State.saveKdf (s : State) : State :=
  s.savePair 32 ((List.range 16).map (fun n => Tab.getN s.keys.gens n) ++ [s.keys.wcount])

/-- Raise the generation of a derived slot and derive it again (R316, R321). -/
def State.rederive (s : State) (n : Nat) : State :=
  ((s.updKeys (fun x => { x with gens := Tab.putN x.gens n (Tab.getN x.gens n + 1) })).saveKdf).derive n

/-- The 64 bytes staged in KEY_DATA and the 104 bytes of KEY_WRAP. -/
def State.keyData (s : State) : Bytes := (List.range 16).flatMap (fun w => leBytes 4 (s.get (F.KEY_DATA_DATA w)))
def State.keyWrap (s : State) : Bytes := (List.range 26).flatMap (fun w => leBytes 4 (s.get (F.KEY_WRAP_DATA w)))

/-- Write KEY_WRAP, and clear KEY_DATA. -/
def State.setKeyWrap (s : State) (b : Bytes) : State :=
  (List.range 26).foldl (fun s w => s.set (F.KEY_WRAP_DATA w) (leAt b (4 * w) 4)) s
def State.clearKeyData (s : State) : State := (List.range 16).foldl (fun s w => s.set (F.KEY_DATA_DATA w) 0) s

/-- The result of a slot command by R316, and the state when it is OK. -/
def State.keyOp (s : State) (op : Nat) : Nat × State :=
  let n := s.get F.KEY_SLOT_SEL_SLOT
  let slot := Tab.find s.keys.slots n
  let store (s : State) (key : Bytes) (cls : Nat) := s.updKeys (fun x => { x with slots := Tab.put x.slots n { key, cls } })
  let data := s.keyData
  let soft := 16 ≤ n
  match op with
  | 1 =>
    if !soft then (1, s)
    else if slot.isSome then (2, s)
    else if data.take 32 == data.drop 32 then (4, s)
    else (0, store s data (s.get F.KEY_SLOT_ATTR_CLASS))
  | 2 => if !soft then (1, s) else (0, s.updKeys (fun x => { x with slots := Tab.del x.slots n }))
  | 3 =>
    if !soft then (1, s)
    else match slot, Tab.find s.keys.slots 4 with
      | none, _ => (3, s)
      | _, none => (6, s)
      | some k, some w =>
        let s := (s.updKeys (fun x => { x with wcount := x.wcount + 1 })).saveKdf
        let iv := [BitVec.ofNat 8 s.head, 0, 0, 0] ++ leBytes 8 s.keys.wcount
        let aad := leBytes 2 n ++ [BitVec.ofNat 8 k.cls, 0] ++ leBytes 4 (Tab.getN s.keys.gens 4)
        let c := gcmCrypt (w.key.take 32) iv k.key
        (0, s.setKeyWrap (iv ++ aad ++ c ++ gcmTag (w.key.take 32) iv aad c ++ zeroBytes 4))
  | 4 =>
    if !soft then (1, s)
    else if slot.isSome then (2, s)
    else match Tab.find s.keys.slots 4 with
      | none => (6, s)
      | some w =>
        let b := s.keyWrap
        let iv := b.take 12
        let aad := slice b 12 8
        let c := slice b 20 64
        if leAt b 12 2 != n || leAt b 16 4 != Tab.getN s.keys.gens 4 || leAt b 14 1 == 3 ||
            gcmTag (w.key.take 32) iv aad c != slice b 84 16 then (5, s)
        else (0, store s (gcmCrypt (w.key.take 32) iv c) (leAt b 14 1))
  | 5 =>
    if n == 0 || 4 < n || Tab.getN s.keys.gens n ≥ 2 ^ 32 - 1 then (1, s)
    else if s.keys.aroot.isNone then (6, s)
    else (0, s.rederive n)
  | 6 =>
    if s.keys.aroot.isSome then (7, s)
    else if s.md != mSweep then (8, s)
    else (0, (s.updKeys (fun x => { x with aroot := some (data.take 32) })).recordMs 0x0C07 [])
  | _ => (1, s)

/-- A slot command (R316): a refused one changes nothing but its report; KEY_DATA is cleared when it ends. -/
def State.keyCmd (s : State) (op : Nat) : State :=
  let s := s.set F.KEY_SLOT_CMD_OP op
  let r := s.keyOp op
  let s := r.2.set F.KEY_SLOT_CMD_RESULT r.1
  let s := if r.1 == 0 then s
    else (s.setb F.KEY_ERR_CMD_FAIL true).recordMs 0x0C06 (w1 op ++ w1 (s.get F.KEY_SLOT_SEL_SLOT) ++ w1 r.1)
  s.clearKeyData

/-- KEY_WRITE: GO with OP 1 written to KEY_SLOT_CMD (R316). -/
def execKeyWrite (r : Req) (s : State) : Res := .next (s.withWrite r R.KEY_SLOT_CMD (fun s => s.keyCmd 1))

/-- KEY_ZERO: GO with OP 2 (R316). -/
def execKeyZero (r : Req) (s : State) : Res := .next (s.withWrite r R.KEY_SLOT_CMD (fun s => s.keyCmd 2))

/-- WRAP: GO with OP 3 (R316, R317). -/
def execWrap (r : Req) (s : State) : Res := .next (s.withWrite r R.KEY_SLOT_CMD (fun s => s.keyCmd 3))

/-- UNWRAP: GO with OP 4 (R316, R317). -/
def execUnwrap (r : Req) (s : State) : Res := .next (s.withWrite r R.KEY_SLOT_CMD (fun s => s.keyCmd 4))

/-- REDERIVE: GO with OP 5 (R316, R321). -/
def execRederive (r : Req) (s : State) : Res := .next (s.withWrite r R.KEY_SLOT_CMD (fun s => s.keyCmd 5))

/-- PROGRAM_AROOT: GO with OP 6 (R316, R318). -/
def execProgramAroot (r : Req) (s : State) : Res := .next (s.withWrite r R.KEY_SLOT_CMD (fun s => s.keyCmd 6))

end Sys2Proof.Machine
end

