-- ==== Sys2Proof/Machine/Parity.lean ====
section
/-! DEFINITION. Stripe parity in GF(2^8) (R336, R337): encoding, and rebuilding erased members. -/

namespace Sys2Proof.Machine

/-- A power in the field. -/
def gpow (g : Byte) : Nat → Byte
  | 0 => 1#8
  | n + 1 => gmul (gpow g n) g

/-- The coefficient of data member `i` in parity `j`: 2^j to the power i. -/
def parCoef (j i : Nat) : Byte := gpow (if j == 0 then 1#8 else if j == 1 then 2#8 else 4#8) i

/-- A string of bytes times a constant. -/
def gscale (c : Byte) (b : Bytes) : Bytes := b.map (gmul c)

/-- Parity `j` of data members of `len` bytes, given with their numbers. -/
def parityOf (len j : Nat) (ds : List (Nat × Bytes)) : Bytes :=
  ds.foldl (fun p d => xorB p (gscale (parCoef j d.1) d.2)) (zeroBytes len)

/-- A matrix without row `r` and column `c`. -/
def gminor (m : List (List Byte)) (r c : Nat) : List (List Byte) := (m.eraseIdx r).map (fun row => row.eraseIdx c)

/-- The determinant of an `n` by `n` matrix over the field. -/
def gdet : Nat → List (List Byte) → Byte
  | 0, _ => 1#8
  | n + 1, m => (List.range (n + 1)).foldl (fun d c => d ^^^ gmul ((m.headD []).getD c 0#8) (gdet n (gminor m 0 c))) 0#8

/-- Data members `es` from the syndromes of as many parities `js`: the inverse of their coefficient matrix applied to them. -/
def gsolve (len : Nat) (es js : List Nat) (syn : List Bytes) : List Bytes :=
  let n := es.length
  let m := js.map (fun j => es.map (fun e => parCoef j e))
  let inv := gfInv gmul (gdet n m)
  (List.range n).map (fun i =>
    (List.range n).foldl (fun x j => xorB x (gscale (gmul inv (gdet (n - 1) (gminor m j i))) (syn.getD j []))) (zeroBytes len))

/-- All K + M members of a row, given those that are not erased (R337); none when more than M are erased. -/
def rebuildMembers (k m len : Nat) (erased : Nat → Bool) (member : Nat → Bytes) : Option (List Bytes) :=
  if ((List.range (k + m)).filter erased).length > m then none
  else
    let es := (List.range k).filter erased
    let known := ((List.range k).filter (fun i => !erased i)).map (fun i => (i, member i))
    let js := ((List.range m).filter (fun j => !erased (k + j))).take es.length
    let syn := js.map (fun j => xorB (member (k + j)) (parityOf len j known))
    let found := gsolve len es js syn
    let data := (List.range k).map (fun i => if erased i then found.getD (es.idxOf i) [] else member i)
    some (data ++ (List.range m).map (fun j =>
      if erased (k + j) then parityOf len j ((List.range k).map (fun i => (i, data.getD i []))) else member (k + j)))

end Sys2Proof.Machine
end

