-- ==== Sys2Proof/Machine/CrlOps.lean ====
section
/-! DEFINITION. Sending over Creterlink: flue frames (R390), credit (R397), the transmit order (R398), message headers and sealing
(R399, R400). -/

namespace Sys2Proof.Machine

/-- Change Creterlink's own state. -/
def State.updCrl (s : State) (f : CrlSt → CrlSt) : State := { s with crl := f s.crl }

/-- A session is up. -/
def State.session (s : State) : Bool := s.getb F.CRL_STS_SESSION

/-- K1 of a key slot; zeros while it is not VALID. -/
def State.slotK1 (s : State) (n : Nat) : Bytes :=
  match Tab.find s.keys.slots n with
  | some k => k.key.take 32
  | none => zeroBytes 32

/-- The credit limit of a channel in frames (R396); HB, FEN and CTL have none. -/
def vcLimit (vc : Nat) : Option Nat := [511, 128, 256, 256, 32][vc]?

/-- The frames of a channel sent and not yet freed are below its limit. -/
def CrlSt.credit (c : CrlSt) (vc : Nat) : Bool :=
  match vcLimit vc with
  | none => true
  | some l => (Tab.getN c.sent vc + 1024 - Tab.getN c.freed vc % 1024) % 1024 < l

/-- The channels in the order the transmitter serves them (R398): FEN, HB, CTL, then 0 to 4 after the one served last. -/
def CrlSt.order (c : CrlSt) : List Nat := [6, 5, 7] ++ (List.range 5).map (fun i => (c.rrVc + 1 + i) % 5)

/-- The next frame to send, with the frames that stay queued. -/
def CrlSt.pick (c : CrlSt) : Option HeldFrame :=
  c.order.findSome? (fun vc => if c.credit vc then c.txq.find? (fun f => f.vc == vc) else none)

/-- The first occurrence of a frame removed. -/
def dropFrame (f : HeldFrame) : List HeldFrame → List HeldFrame
  | [] => []
  | g :: gs => if g == f then gs else g :: dropFrame f gs

/-- The bytes of a flue frame (R390). -/
def frameBytes (kind vc seq ack : Nat) (som eom : Bool) (cvc ccnt : Nat) (payload : Bytes) : Bytes :=
  let fc := payload.length + b2n som * 2 ^ 9 + b2n eom * 2 ^ 10 + cvc * 2 ^ 11 + ccnt % 1024 * 2 ^ 14
  let b := [BitVec.ofNat 8 (kind * 16 + vc)] ++ leBytes 3 seq ++ leBytes 3 ack ++ leBytes 3 fc ++ payload ++ zeroBytes (256 - payload.length)
  b ++ leBytes 4 (crc32c b)

/-- The channel whose freed count the next frame names (R397): the next in turn whose count has changed, else the last one named. -/
def CrlSt.nextCvc (c : CrlSt) : Nat :=
  ((List.range 5).map (fun i => (c.cvc + 1 + i) % 5)).find? (fun v => c.changed.contains v) |>.getD c.cvc

/-- Emit one frame with the present ACK and credit. -/
def State.emitFrame (s : State) (kind vc seq : Nat) (som eom : Bool) (payload : Bytes) : State :=
  let v := s.crl.nextCvc
  (s.updCrl (fun c => { c with cvc := v, changed := c.changed.filter (· != v) })).emit
    (.frame (frameBytes kind vc seq s.crl.lastAck som eom v (Tab.getN s.crl.rxFreed v) payload))

/-- Emit an IDLE frame after 2,048 consecutive frames of other kinds (R389). -/
def State.countIdle (s : State) : State :=
  if s.crl.sinceIdle + 1 ≥ 2048 then (s.updCrl (fun c => { c with sinceIdle := 0 })).emitFrame 0 0 0 false false []
  else s.updCrl (fun c => { c with sinceIdle := c.sinceIdle + 1 })

/-- Send one queued frame: it takes the next sequence and is held until acknowledged (R392, R394). -/
def State.sendFrame (s : State) (f : HeldFrame) : State :=
  let q := s.get F.CRL_SEQ_TX_NEXT
  let s := s.emitFrame 1 f.vc q f.som f.eom f.payload
  let s := s.updCrl (fun c => { c with
    txq := dropFrame f c.txq
    replay := c.replay ++ [{ f with seq := q }]
    replayAt := if c.replay.isEmpty then s.cyc else c.replayAt
    rrVc := if f.vc < 5 then f.vc else c.rrVc
    sent := Tab.putN c.sent f.vc ((Tab.getN c.sent f.vc + 1) % 1024) })
  ((s.set F.CRL_SEQ_TX_NEXT (q + 1)).inc F.CRL_TX_BYTES_COUNT f.payload.length).countIdle

/-- Send every frame that link, credit and replay buffer let go, at most `n`. -/
def State.crlPump : Nat → State → State
  | 0, s => s
  | n + 1, s =>
    if !s.getb F.CRL_STS_LINK_UP || s.crl.replay.length ≥ 16384 then s
    else match s.crl.pick with
      | none => s
      | some f => State.crlPump n (s.sendFrame f)

/-- Send what can be sent. -/
def State.pump (s : State) : State := s.crlPump s.crl.txq.length

/-- The frames of one message: 256 bytes each, the first SOM, the last EOM. -/
def msgFrames (vc : Nat) (chan user : Option Nat) : Nat → Bool → Bytes → List HeldFrame
  | 0, _, _ => []
  | n + 1, som, m =>
    let last := n == 0
    { seq := 0, vc, payload := m.take 256, som, eom := last, chan := if last then chan else none, user } ::
      msgFrames vc chan user n false (m.drop 256)

/-- Header, body and, on every channel but CTL, tag of a message (R399, R400). -/
def State.crlMessage (s : State) (vc mtype : Nat) (body : Bytes) : Bytes :=
  if vc == 7 then [BitVec.ofNat 8 mtype, 0, 0, 0] ++ leBytes 4 (16 + body.length) ++ zeroBytes 8 ++ body
  else
    let h := [BitVec.ofNat 8 mtype, 1, 0, 0] ++ leBytes 4 (32 + body.length) ++ leBytes 8 s.crl.ivc
    let iv := [BitVec.ofNat 8 s.head, 0, 0, 0] ++ leBytes 8 s.crl.ivc
    let k := s.slotK1 1
    let c := gcmCrypt k iv body
    h ++ c ++ gcmTag k iv h c

/-- Queue a message and send what can go. -/
def State.crlSend (s : State) (vc mtype : Nat) (body : Bytes) (chan : Option Nat := none) (user : Option Nat := none) : State :=
  let m := s.crlMessage vc mtype body
  let fs := msgFrames vc chan user ((m.length + 255) / 256) true m
  (s.updCrl (fun c => { c with txq := c.txq ++ fs, ivc := if vc == 7 then c.ivc else c.ivc + 1 })).pump

/-- The message bytes MLEN the table of R401 gives for an MTYPE, as a test on a received MLEN; none fits a reserved MTYPE. -/
def mlenOk (mtype mlen : Nat) : Bool :=
  let step (base unit lo hi : Nat) := mlen ≥ base + unit * lo && mlen ≤ base + unit * hi && (mlen - base) % unit == 0
  match mtype with
  | 0x01 => step 160 4112 1 512
  | 0x02 => step 32 64 1 256
  | 0x03 => mlen == 168
  | 0x10 | 0x11 => step 32 16 1 14
  | 0x20 => step 80 4112 0 512
  | 0x21 => mlen == 168
  | 0x22 => mlen == 56
  | 0x28 => step 56 4096 0 512
  | 0x29 => mlen == 176
  | 0x2A => step 48 4112 0 512
  | 0x2B => mlen == 48
  | 0x30 => mlen == 104
  | 0x40 => mlen == 64
  | 0x50 => mlen == 56
  | 0x60 => mlen == 64
  | 0x61 => mlen == 48
  | 0x62 => mlen == 24
  | _ => false

/-- Open a sealed message from the partner (R400): its body when the tag verifies. -/
def State.crlOpen (s : State) (m : Bytes) : Option Bytes :=
  let h := m.take 16
  let body := slice m 16 (m.length - 32)
  let iv := [BitVec.ofNat 8 (1 - s.head), 0, 0, 0] ++ slice m 8 8
  let k := s.slotK1 1
  if gcmTag k iv h body == m.drop (m.length - 16) then some (gcmCrypt k iv body) else none

end Sys2Proof.Machine
end

