-- ==== Sys2Proof/Machine/Ich.lean ====
section
/-! DEFINITION. The Index cache (ch. 09): sets, fills, the side buffer, the merging buffer, maintenance, errors; and DDR as every other
agent reaches it (R275-R278). A line is named by its number, its DDR address divided by 256. -/

namespace Sys2Proof.Machine

/-- Change the cache. -/
def State.updIch (s : State) (f : IchSt → IchSt) : State := { s with ich := f s.ich }

/-- The set and tag of a line (R264). -/
def ichSet (l : Nat) : Nat := Nat.xor (bits l 0 15) (bits l 15 15)
def ichTag (l : Nat) : Nat := bits l 15 19

/-- The line of a set and tag. -/
def ichLine (set tag : Nat) : Nat := tag % 2 ^ 19 * 2 ^ 15 + Nat.xor set (bits tag 0 15)

/-- The line lies in an enabled region (R263). -/
def State.inRegion (s : State) (l : Nat) : Bool :=
  (List.range 8).any (fun r => s.get (F.ICH_RGN_BASE_ADDR r) ≤ l && l ≤ s.get (F.ICH_RGN_LIMIT_ADDR r))

/-- A set, and its change. -/
def State.iset (s : State) (i : Nat) : IchSet := Tab.getD s.ich.sets i {}
def State.updSet (s : State) (i : Nat) (f : IchSet → IchSet) : State := s.updIch (fun c => { c with sets := Tab.upd c.sets i {} f })
def IchSet.way (x : IchSet) (w : Nat) : IchWay := Tab.getD x.ways w {}

/-- The way that holds a line; the way a locked line has left. -/
def IchSet.find (x : IchSet) (tag : Nat) : Option Nat := (List.range 16).find? (fun w => (x.way w).valid && (x.way w).tag == tag)
def IchSet.kept (x : IchSet) (tag : Nat) : Option Nat := (List.range 16).find? (fun w => !(x.way w).valid && (x.way w).locked && (x.way w).tag == tag)

/-- Make a way the most recently used (R266). -/
def IchSet.touch (x : IchSet) (w : Nat) : IchSet := { x with order := w :: x.order.filter (· != w) }

/-- The way an installed line goes to (R266): the one its lock kept, the lowest invalid one, the least recently used, among those not
locked. -/
def IchSet.victim (x : IchSet) (tag : Nat) : Option Nat :=
  match x.kept tag with
  | some w => some w
  | none => match (List.range 16).find? (fun w => !(x.way w).valid && !(x.way w).locked) with
    | some w => some w
    | none => x.order.reverse.find? (fun w => !(x.way w).locked)

/-- The lowest-numbered unlocked way from 0 to 3 (R267). -/
def IchSet.lockWay (x : IchSet) : Option Nat := (List.range 4).find? (fun w => !(x.way w).locked)

/-- Put a line into a way. -/
def IchSet.put (x : IchSet) (w tag : Nat) (locked : Bool) (data : Bytes) : IchSet :=
  { x with ways := Tab.put x.ways w { valid := true, tag, locked, data } }

/-- Install a line. -/
def State.install (s : State) (l : Nat) (data : Bytes) : State :=
  s.updSet (ichSet l) (fun x =>
    match x.victim (ichTag l) with
    | some w => (x.put w (ichTag l) (x.way w).locked data).touch w
    | none => x)

/-- Invalidate a line in the cache; a lock stays, unless it is to go too. -/
def IchSet.drop (x : IchSet) (w : Nat) (unlock : Bool) : IchSet :=
  let v := x.way w
  { x with ways := if v.locked && !unlock then Tab.put x.ways w { v with valid := false, data := [] } else Tab.del x.ways w }
def State.dropLine (s : State) (l : Nat) : State :=
  match (s.iset (ichSet l)).find (ichTag l) with
  | some w => s.updSet (ichSet l) (fun x => x.drop w false)
  | none => s

/-! ### The merging buffer (R272-R274) -/

/-- Lay bytes over a line's data. -/
def overlay (data : Bytes) (t : Tab Byte) : Bytes := t.foldl (fun d b => d.set b.1 b.2) data

/-- Bytes as a table by offset. -/
def layBytes (t : Tab Byte) (off : Nat) : Bytes → Tab Byte
  | [] => t
  | b :: bs => layBytes (Tab.put t off b) (off + 1) bs

/-- An entry drains: its bytes are in DDR. -/
def State.drainEntry (s : State) (e : WbEntry) : State :=
  { s.updIch (fun c => { c with wb := c.wb.filter (fun x => x.line != e.line) }) with
    ddr := e.bytes.foldl (fun m b => Tab.putB m (e.line * 256 + b.1) b.2) s.ddr }

/-- The entry of a line drains. -/
def State.drainLine (s : State) (l : Nat) : State :=
  match s.ich.wb.find? (fun e => e.line == l) with
  | some e => s.drainEntry e
  | none => s

/-- The whole buffer drains, oldest entry first (R273). -/
def State.drainAll (s : State) : State := s.ich.wb.foldl State.drainEntry s

/-! ### Requests (R265-R272) -/

/-- A new fill of a line: what DDR holds with the merging buffer's bytes laid over it (R274). -/
def State.newFill (s : State) (l burst : Nat) (prefetch lock : Bool) (joined : List IchReq) : State :=
  let wb := (s.ich.wb.find? (fun e => e.line == l)).map (·.bytes) |>.getD []
  let f : IchFill := {
    line := l, bursts := (List.range 4).map (fun i => (burst + i) % 4), data := overlay (Tab.readBytes s.ddr (l * 256) 256) wb
    poison := s.ich.poisoned.contains l, prefetch, lock, joined }
  s.updIch (fun c => { c with fills := c.fills ++ [f] })

/-- The fill of a line a request can join. -/
def State.fillOf (s : State) (l : Nat) : Option IchFill := s.ich.fills.find? (fun f => f.line == l && !f.stale)
def State.updFill (s : State) (l : Nat) (g : IchFill → IchFill) : State :=
  s.updIch (fun c => { c with fills := c.fills.map (fun f => if f.line == l && !f.stale then g f else f) })

/-- Take a line out of the side buffer into its set: its first use (R271). -/
def State.useSide (s : State) (l : Nat) : State :=
  match s.ich.side.find? (fun e => e.1 == l) with
  | some e => (s.updIch (fun c => { c with side := c.side.filter (fun x => x.1 != l) })).install l e.2
  | none => s

/-- Prefetch a line (R271). Answers whether a fill was issued. -/
def State.prefetch (s : State) (l : Nat) : State × Bool :=
  if ((s.iset (ichSet l)).find (ichTag l)).isSome || s.ich.side.any (fun e => e.1 == l) || (s.fillOf l).isSome || 128 ≤ s.ich.fills.length ||
    !s.inRegion l then (s, false)
  else ((s.newFill l 0 true false []).inc F.ICH_PF_ISSUED_COUNT 1, true)

/-- The bytes a read takes from a line's data. -/
def IchReq.take (r : IchReq) (data : Bytes) : Bytes := slice data (r.addr % 256) r.len

/-- The read needs burst `b` of its line; it is restarted once every burst it needs is in (R269, R270). -/
def IchReq.needs (r : IchReq) (b : Nat) : Bool := r.addr % 256 / 64 ≤ b && b ≤ (r.addr % 256 + r.len - 1) / 64
def IchReq.waits (r : IchReq) (left : List Nat) : Bool := left.any r.needs

/-- A read: hit, side-buffer hit, joined fill, new fill, or wait for a fill entry. -/
def State.ichRead (s : State) (r : IchReq) : State :=
  let l := r.addr / 256
  let x := s.iset (ichSet l)
  match x.find (ichTag l) with
  | some w => ((s.updSet (ichSet l) (fun x => x.touch w)).inc F.ICH_HITS_COUNT 1).emit (.ichData r.id (some (r.take (x.way w).data)))
  | none =>
    match s.ich.side.find? (fun e => e.1 == l) with
    | some e => ((s.useSide l).inc F.ICH_SB_HITS_COUNT 1).emit (.ichData r.id (some (r.take e.2)))
    | none =>
      match s.fillOf l with
      | some f =>
        let s := s.inc F.ICH_MISSES_COUNT 1
        let ans := r.take (overlay f.data f.laid)
        if r.waits f.bursts then
          s.updFill l (fun f => { f with prefetch := false, joined := f.joined ++ [{ r with data := some ans }] })
        else (s.updFill l (fun f => { f with prefetch := false })).emit (.ichData r.id (if f.poison then none else some ans))
      | none =>
        if 128 ≤ s.ich.fills.length then s.updIch (fun c => { c with waiting := c.waiting ++ [r] })
        else
          let s := (s.inc F.ICH_MISSES_COUNT 1).newFill l (r.addr % 256 / 64) false false []
          s.updFill l (fun f => { f with joined := [{ r with data := some (r.take f.data) }] })

/-- A write: into the merging buffer, and over every copy of its line; it waits while the buffer is full. -/
def State.ichWrite (s : State) (r : IchReq) (b : Bytes) : State :=
  let l := r.addr / 256
  let off := r.addr % 256
  let merges := s.ich.wb.any (fun e => e.line == l)
  if !merges && 64 ≤ s.ich.wb.length then s.updIch (fun c => { c with waiting := c.waiting ++ [r] })
  else
    let s := if merges then
        (s.updIch (fun c => { c with wb := c.wb.map (fun e => if e.line == l then { e with bytes := layBytes e.bytes off b } else e) })).inc
          F.ICH_WB_MERGES_COUNT 1
      else s.updIch (fun c => { c with wb := c.wb ++ [{ line := l, since := s.cyc, bytes := layBytes [] off b }] })
    let side := s.ich.side.any (fun e => e.1 == l)
    let s := s.useSide l
    let s := s.updFill l (fun f => { f with laid := layBytes f.laid off b })
    match (s.iset (ichSet l)).find (ichTag l) with
    | some w =>
      (s.updSet (ichSet l) (fun x => (x.put w (ichTag l) (x.way w).locked (patch (x.way w).data off b)).touch w)).inc
        (if side then F.ICH_SB_HITS_COUNT else F.ICH_HITS_COUNT) 1
    | none => s.inc F.ICH_MISSES_COUNT 1

/-- An earlier request of the same set waits: the requests of a set are served in the order in which they reach the cache (R265). -/
def State.ichQueued (s : State) (r : IchReq) : Bool := s.ich.waiting.any (fun w => ichSet (w.addr / 256) == ichSet (r.addr / 256))

/-- Serve one request; outside every region, or while EN is 0, it goes to DDR uncached. -/
def State.ichServe (s : State) (r : IchReq) : State :=
  if s.ichQueued r then s.updIch (fun c => { c with waiting := c.waiting ++ [r] })
  else if s.getb F.ICH_CTL_EN && s.inRegion (r.addr / 256) then
    match r.data with
    | none => s.ichRead r
    | some b => s.ichWrite r b
  else match r.data with
    | none => s.emit (.ichData r.id (if s.ich.poisoned.contains (r.addr / 256) then none else some (Tab.readBytes s.ddr r.addr r.len)))
    | some b => { s with ddr := Tab.writeBytes s.ddr r.addr b }

/-- Requests that waited are served again, oldest first. -/
def State.ichRetry (s : State) : State := s.ich.waiting.foldl State.ichServe (s.updIch (fun c => { c with waiting := [] }))

/-- The longest part of a request that stays within 64 bytes of one line (R265). -/
def ichFit (addr len : Nat) : Nat := min (min len 64) (256 - addr % 256)

/-- The lines a read of the dedup index control prefetches (R271): the alternate of a first filter bucket, or the other 15 lines of a
bucket, which is 4,096 bytes at a multiple of 4,096. -/
def prefetchLines (addr : Nat) : IchUse → List Nat
  | .plain => []
  | .filter alt => [alt]
  | .bucket => ((List.range 16).map (fun i => addr / 4096 * 16 + i)).filter (· != addr / 256)

/-- ICH_REQUEST: the dedup index control reads `len` bytes at `addr`, or writes `data` there (R265); `use` says what a read is of, which
decides what it prefetches (R271). -/
def execIchRequest (id addr len : Nat) (data : Option Bytes) (use : IchUse) (s : State) : Res :=
  .next (if !s.answers dCch then s
  else
    let n := ichFit addr len
    let s := s.ichServe { id, addr, len := n, data := data.map (fun b => slice b 0 n) }
    if s.getb F.ICH_CTL_EN && data.isNone then (prefetchLines addr use).foldl (fun s l => (s.prefetch l).1) s else s)

/-! ### Fills (R269-R271) -/

/-- ICH_BURST: the next burst of fill `i` arrives and restarts the reads whose bytes are then all in. -/
def execIchBurst (i : Nat) (s : State) : Res :=
  .next (match s.ich.fills[i]? with
  | none => s
  | some f =>
    match f.bursts with
    | [] => s
    | b :: rest =>
      let now := f.joined.filter (fun r => r.needs b && !r.waits rest)
      let s := s.updIch (fun c => { c with fills := c.fills.set i { f with bursts := rest, joined := f.joined.filter (fun r => r.waits rest) } })
      now.foldl (fun s r => s.emit (.ichData r.id (if f.poison then none else r.data))) s)

/-- A prefetched line enters the side buffer; a full one loses the line filled longest ago. -/
def State.putSide (s : State) (l : Nat) (data : Bytes) : State :=
  let s := if 256 ≤ s.ich.side.length then (s.updIch (fun c => { c with side := c.side.drop 1 })).inc F.ICH_PF_UNUSED_COUNT 1 else s
  s.updIch (fun c => { c with side := c.side ++ [(l, data)] })

/-- Lock a line that is in the cache (R267); the flag says its set was full. -/
def State.lockPresent (s : State) (l w : Nat) : State × Bool :=
  let i := ichSet l
  let x := s.iset i
  if (x.way w).locked then (s.updSet i (fun x => x.touch w), false)
  else if w < 4 then (s.updSet i (fun x => (x.put w (ichTag l) true (x.way w).data).touch w), false)
  else match x.lockWay with
    | none => (s, true)
    | some v =>
      let a := x.way w
      let b := x.way v
      let sw (k : Nat) := if k == w then v else if k == v then w else k
      (s.updSet i (fun x => ({ x with
        ways := (if b.valid then Tab.put x.ways w b else Tab.del x.ways w) |> fun t => Tab.put t v { a with locked := true }
        order := x.order.map sw } : IchSet).touch v), false)

/-- Lock a line whose data is at hand and that no way holds. -/
def State.lockNew (s : State) (l : Nat) (data : Bytes) : State × Bool :=
  let i := ichSet l
  let x := s.iset i
  match x.kept (ichTag l), x.lockWay with
  | some w, _ => (s.updSet i (fun x => (x.put w (ichTag l) true data).touch w), false)
  | none, some v => (s.updSet i (fun x => (x.put v (ichTag l) true data).touch v), false)
  | none, none => (s, true)

/-- Change the running operation. -/
def State.updMnt (s : State) (f : IchMnt → IchMnt) : State := s.updIch (fun c => { c with mnt := c.mnt.map f })

/-- Counts of an operation: a line acted on, a line skipped, each line once. -/
def State.mntAct (s : State) (l : Nat) : State :=
  if s.ich.mnt.any (fun m => m.acted.contains l) then s
  else (s.updMnt (fun m => { m with acted := l :: m.acted })).inc F.ICH_MNT_DONE_COUNT 1
def State.mntSkip (s : State) (l : Nat) : State :=
  if s.ich.mnt.any (fun m => m.skipped.contains l) then s
  else (s.updMnt (fun m => { m with skipped := l :: m.skipped })).inc F.ICH_MNT_SKIP_COUNT 1

/-- What a LOCK of a line that met a full set does: a single one ends with LOCK_FULL, one of a range is skipped. -/
def State.lockAns (s : State) (range : Bool) (l : Nat) (r : State × Bool) : State :=
  if r.2 then (if range then s.mntSkip l else s.updMnt (fun m => { m with full := true })) else r.1.mntAct l

/-- LOCK or PREFETCH acts on the lines it has still to reach while fill entries are free. -/
def State.mntPump : Nat → State → State
  | 0, s => s
  | n + 1, s =>
    match s.ich.mnt with
    | none => s
    | some m =>
      match m.todo with
      | [] => s
      | l :: rest =>
        if 128 ≤ s.ich.fills.length then s
        else
          let s := s.updMnt (fun m => { m with todo := rest })
          if !s.inRegion l then State.mntPump n s
          else if m.op == 6 then
            let r := s.prefetch l
            State.mntPump n (if r.2 then r.1.mntAct l else s)
          else
            match (s.iset (ichSet l)).find (ichTag l) with
            | some w => State.mntPump n (s.lockAns m.range l (s.lockPresent l w))
            | none =>
              match s.ich.side.find? (fun e => e.1 == l) with
              | some e =>
                let r := s.lockNew l e.2
                State.mntPump n (s.lockAns m.range l ({ r.1 with ich := { r.1.ich with side := r.1.ich.side.filter (fun x => x.1 != l) } }, r.2))
              | none =>
                if (s.fillOf l).isSome then State.mntPump n (s.updMnt (fun m => { m with waits := m.waits ++ [l] }))
                else if ((s.iset (ichSet l)).kept (ichTag l)).isNone && ((s.iset (ichSet l)).lockWay).isNone then
                  State.mntPump n (s.lockAns m.range l (s, true))
                else State.mntPump n ((s.newFill l 0 false true []).updMnt (fun m => { m with waits := m.waits ++ [l] }))

/-- Act on all that can be acted on. -/
def State.mntGo (s : State) : State :=
  match s.ich.mnt with
  | some m => s.mntPump m.todo.length
  | none => s

/-! ### Draining (R273) -/

/-- WB_DRAIN: the oldest entry drains once the buffer holds HIGH entries or it has been held for AGE, and during a Banked entry. -/
def execWbDrain (s : State) : Res :=
  .next (match s.ich.wb with
  | [] => s
  | e :: rest =>
    if s.mode.bankedEntry || max 1 (s.get F.ICH_WB_CFG_HIGH) ≤ rest.length + 1 || 10 * e.since + max 1 (s.get F.ICH_WB_CFG_AGE) ≤ 10 * s.cyc then
      (s.drainEntry e).ichRetry
    else s)

/-! ### Other agents (R275-R279) -/

/-- The lines a range of DDR touches. -/
def linesOf (a len : Nat) : List Nat := if len == 0 then [] else (List.range ((a + len - 1) / 256 - a / 256 + 1)).map (fun i => a / 256 + i)

/-- Another agent is to read or write a range of DDR: the merging-buffer entries of its lines drain first; a write invalidates lines and
makes fills stale. A write that waited for room in the buffer is served again after that. -/
def State.extDrain (s : State) (a len : Nat) : State :=
  if s.ich.wb.isEmpty then s else (linesOf a len).foldl State.drainLine s
def State.ichAgain (s : State) : State := if s.ich.waiting.isEmpty then s else s.ichRetry
def State.extRead (s : State) (a len : Nat) : State := (s.extDrain a len).ichAgain
def State.extWrite (s : State) (a len : Nat) : State :=
  let s := s.extDrain a len
  if s.ich.sets.isEmpty && s.ich.side.isEmpty && s.ich.fills.isEmpty then s
  else (linesOf a len).foldl (fun s l =>
    (s.dropLine l).updIch (fun c => { c with
      side := c.side.filter (fun e => e.1 != l), fills := c.fills.map (fun f => if f.line == l then { f with stale := true } else f) })) s

/-- A range of DDR has been written by an agent other than the cache: the lines it covers whole are poisoned no more. -/
def State.cleanLines (s : State) (a len : Nat) : State :=
  if s.ich.poisoned.isEmpty then s
  else s.updIch (fun c => { c with poisoned := c.poisoned.filter (fun l => !(a ≤ l * 256 && l * 256 + 256 ≤ a + len)) })

/-- Those of some window lines of a port whose backing overlaps a range of DDR. -/
def HostPort.linesAt (h : HostPort) (ls : List Nat) (a len : Nat) : List Nat :=
  ls.filter (fun l => decide (h.backing + 64 * l < a + len) && decide (a < h.backing + 64 * l + 64))

/-- A device-side write to a poisoned line of a window ends the poison; the bytes of the line that it does not cover read as zero (R52). -/
def State.endPoison (s : State) (a len : Nat) : State :=
  [0, 1].foldl (fun s p =>
    let bad := (s.port p).linesAt (s.port p).poison a len
    if bad.isEmpty then s
    else { s.updPort p (fun h => { h with poison := h.poison.filter (fun l => !bad.contains l) }) with
      ddr := bad.foldl (fun m l => Tab.writeBytes m ((s.port p).backing + 64 * l) (zeroBytes 64)) s.ddr }) s

/-- DDR as every agent but the cache writes it. -/
def State.ddrWrite (s : State) (a : Nat) (b : Bytes) : State :=
  let s := (s.extWrite a b.length).endPoison a b.length
  (State.cleanLines { s with ddr := Tab.writeBytes s.ddr a b } a b.length).ichAgain

/-- A line of a range is poisoned in DDR (R282). -/
def State.ddrPoison (s : State) (a len : Nat) : Bool := (linesOf a len).any s.ich.poisoned.contains

/-! ### Maintenance (R280, R281) -/

/-- The lines of a set that are valid or locked and lie in a range. -/
def State.coveredWays (s : State) (first last : Nat) : List (Nat × Nat × IchWay) :=
  s.ich.sets.flatMap (fun e => e.2.ways.filterMap (fun w =>
    let l := ichLine e.1 w.2.tag
    if first ≤ l && l ≤ last && (w.2.valid || w.2.locked) then some (l, w.1, w.2) else none))

/-- INVAL of what a range holds now. -/
def State.mntInval (s : State) (first last : Nat) (force : Bool) : State :=
  let s := (s.coveredWays first last).foldl (fun s e =>
    if e.2.2.locked && !force then s.mntSkip e.1
    else
      let s := (s.updSet (ichSet e.1) (fun x => x.drop e.2.1 true))
      (if e.2.2.locked then s.updMnt (fun m => { m with unlocked := true }) else s).mntAct e.1) s
  let side := (s.ich.side.filter (fun e => first ≤ e.1 && e.1 ≤ last)).map (·.1)
  side.foldl State.mntAct (s.updIch (fun c => { c with side := c.side.filter (fun e => !(first ≤ e.1 && e.1 ≤ last)) }))

/-- CLEAN of what a range holds now. -/
def State.mntClean (s : State) (first last : Nat) : State :=
  ((s.ich.wb.filter (fun e => first ≤ e.line && e.line ≤ last)).map (·.line)).foldl (fun s l => (s.drainLine l).mntAct l) s

/-- UNLOCK of what a range holds now. -/
def State.mntUnlock (s : State) (first last : Nat) : State :=
  (s.coveredWays first last).foldl (fun s e =>
    if e.2.2.locked then
      let open_ (t : Tab IchWay) := if e.2.2.valid then Tab.put t e.2.1 { e.2.2 with locked := false } else Tab.del t e.2.1
      (s.updSet (ichSet e.1) (fun x => { x with ways := open_ x.ways })).mntAct e.1
    else s) s

/-- An operation acts on what a range holds now. -/
def State.mntApply (s : State) (op first last : Nat) (force : Bool) : State :=
  match op with
  | 1 => s.mntInval first last force
  | 2 => s.mntClean first last
  | 3 => (s.mntClean first last).mntInval first last force
  | 5 => s.mntUnlock first last
  | _ => s

/-- GO of ICH_MNT_CTL: an operation starts, or ends at once with the result that stops it. -/
def State.mntStart (s : State) : State :=
  let op := s.get F.ICH_MNT_CTL_OP
  let range := s.getb F.ICH_MNT_CTL_RANGE
  let first := s.get F.ICH_MNT_ADDR_LINE
  let last := if range then s.get F.ICH_MNT_END_LINE else first
  let force := s.getb F.ICH_MNT_CTL_FORCE
  let s := (s.set F.ICH_MNT_SKIP_COUNT 0).set F.ICH_MNT_DONE_COUNT 0
  if op == 0 || 6 < op then s.set F.ICH_MNT_STS_RESULT 5
  else if !s.getb F.ICH_CTL_EN then s.set F.ICH_MNT_STS_RESULT 4
  else if last < first || (op == 6 && 256 < last - first + 1) then s.set F.ICH_MNT_STS_RESULT 2
  else if !range && (op == 4 || op == 6) && !s.inRegion first then s.set F.ICH_MNT_STS_RESULT 3
  else
    let filling := (s.ich.fills.filter (fun f => first ≤ f.line && f.line ≤ last && !f.stale)).map (·.line)
    let multi := op == 4 || op == 6
    let m : IchMnt := { op, force, range, first, last, waits := if multi then [] else filling
                        todo := if multi then (List.range (last - first + 1)).map (first + ·) else [] }
    let s := (s.updIch (fun c => { c with mnt := some m })).setb F.ICH_MNT_STS_BUSY true
    (s.mntApply op first last force).mntGo.ichRetry

/-- A write to ICH_MNT_CTL. -/
def State.writeMnt (s : State) (v : Nat) : State :=
  let s := ((s.setb F.ICH_MNT_CTL_FORCE (bit v 5)).setb F.ICH_MNT_CTL_RANGE (bit v 4)).set F.ICH_MNT_CTL_OP v
  if !bit v 31 then s
  else if s.getb F.ICH_MNT_STS_BUSY then s.setb F.ICH_ERR_MNT_BUSY true
  else s.mntStart

/-- A write to ICH_MNT_CTL with GO and an OP. -/
def State.mntIns (s : State) (r : Req) (op : Nat) (force range : Bool) : Res :=
  .next (s.withWrite r R.ICH_MNT_CTL (fun s => s.writeMnt (2 ^ 31 + 32 * b2n force + 16 * b2n range + op)))

/-- ICH_INVAL, ICH_CLEAN, ICH_FLUSH, ICH_LOCK, ICH_UNLOCK, ICH_PREFETCH. -/
def execIchInval (r : Req) (force range : Bool) (s : State) : Res := s.mntIns r 1 force range
def execIchClean (r : Req) (force range : Bool) (s : State) : Res := s.mntIns r 2 force range
def execIchFlush (r : Req) (force range : Bool) (s : State) : Res := s.mntIns r 3 force range
def execIchLock (r : Req) (force range : Bool) (s : State) : Res := s.mntIns r 4 force range
def execIchUnlock (r : Req) (force range : Bool) (s : State) : Res := s.mntIns r 5 force range
def execIchPrefetch (r : Req) (force range : Bool) (s : State) : Res := s.mntIns r 6 force range

/-- A LOCK acts on a line whose fill it waited for and that another request had begun. -/
def State.lockLate (s : State) (range : Bool) (l : Nat) : State :=
  match (s.iset (ichSet l)).find (ichTag l) with
  | some w => if ((s.iset (ichSet l)).way w).locked then s else s.lockAns range l (s.lockPresent l w)
  | none => match s.ich.side.find? (fun e => e.1 == l) with
    | some e => s.lockAns range l ((s.updIch (fun c => { c with side := c.side.filter (fun x => x.1 != l) })).lockNew l e.2)
    | none => s

/-- The operation that waited for the fill of a line acts on the line once it is installed; a fill that was stale or poisoned installs nothing,
and a LOCK starts one anew where it was stale (R267, R279, R281). -/
def State.mntFilled (s : State) (f : IchFill) : State :=
  match s.ich.mnt with
  | none => s
  | some m =>
    if !m.waits.contains f.line then s
    else
      let s := s.updMnt (fun m => { m with waits := m.waits.filter (· != f.line) })
      if f.stale then (if m.op == 4 then s.updMnt (fun m => { m with todo := m.todo ++ [f.line] }) else s)
      else if f.poison || f.lock then s
      else if m.op == 4 then s.lockLate m.range f.line
      else s.mntApply m.op f.line f.line m.force

/-- ICH_FILL_DONE: all four bursts of fill `i` are in: the line is installed, in the cache or, a prefetch nobody used, in the side buffer;
a stale or poisoned one is not. The operation that waited for it acts on it. -/
def execIchFillDone (i : Nat) (s : State) : Res :=
  .next (match s.ich.fills[i]? with
  | none => s
  | some f =>
    if !f.bursts.isEmpty then s
    else
      let data := overlay f.data f.laid
      let s := s.updIch (fun c => { c with fills := c.fills.eraseIdx i })
      let s :=
        if f.stale || f.poison then s
        else if f.lock then s.lockAns (s.ich.mnt.any (·.range)) f.line (s.lockNew f.line data)
        else if f.prefetch then s.putSide f.line data
        else s.install f.line data
      (s.mntFilled f).ichRetry.mntGo)

/-- MNT_DONE: the running operation has reached every line, and the fills it waited for are installed: it ends. -/
def execMntDone (s : State) : Res :=
  .next (match s.ich.mnt with
  | none => s
  | some m =>
    if !m.todo.isEmpty || !m.waits.isEmpty then s
    else
      let s := ((s.updIch (fun c => { c with mnt := none })).setb F.ICH_MNT_STS_BUSY false).set F.ICH_MNT_STS_RESULT (b2n m.full)
      if m.unlocked then s.recordMs 0x0805 [] else s)

/-! ### Errors, enable (R282-R284) -/

/-- Every line and lock is gone; what was being filled is never installed. -/
def State.ichClear (s : State) : State :=
  s.updIch (fun c => { c with sets := [], side := [], fills := c.fills.map (fun f => { f with stale := true }) })

/-- EN goes from 1 to 0: the buffer drains, then everything is invalid; the running operation ends. -/
def State.ichDisable (s : State) : State :=
  let s := (s.drainAll.ichClear.setb F.ICH_CTL_EN false)
  let s := ((s.updIch (fun c => { c with mnt := none })).setb F.ICH_MNT_STS_BUSY false).ichRetry
  if s.md == mKindling then s else s.degrade F.GLB_FAULT_ICH 0 true

/-- A write of ICH_CTL.EN; a write of 1 while READY is 0 is ignored. -/
def State.writeIchEn (s : State) (v : Bool) : State :=
  if v then (if s.getb F.ICH_STS_READY then (s.setb F.ICH_CTL_EN true).degrade F.GLB_FAULT_ICH 0 false else s)
  else if s.getb F.ICH_CTL_EN then s.ichDisable
  else s

/-- ICH_ENABLE: a write of ICH_CTL.EN. -/
def execIchEnable (r : Req) (en : Bool) (s : State) : Res := .next (s.withWrite r R.ICH_CTL (fun s => s.writeIchEn en))

/-- ICH_TAGS_READY: every tag has been marked invalid after CCH was released (R284). -/
def execIchTagsReady (s : State) : Res := .next (if s.released dCch then s.setb F.ICH_STS_READY true else s)

/-- A tag error: every line and lock of its set is lost; too many within a second disable the cache (R283). -/
def State.tagError (s : State) (l : Nat) : State :=
  let s := (s.updIch (fun c => { c with sets := Tab.del c.sets (ichSet l) })).setb F.ICH_ERR_TAG_ECC true
  let s := s.recordMs 0x0802 (w2 (256 * l))
  let s := s.updIch (fun c => { c with tagErrs := c.tagErrs.filter (fun t => s.now < t + sec 1) ++ [s.now] })
  let lim := s.get F.ICH_ECC_LIMIT_LIMIT
  if lim != 0 && lim < s.ich.tagErrs.length && s.getb F.ICH_CTL_EN then (s.ichDisable.setb F.ICH_ERR_DISABLED true).recordMs 0x0804 [] else s

/-- ICH_ECC_ERROR: a SECDED error at line `line`: kind 0 correctable, 1 in a cached or side-buffer line, 2 in a tag, 3 in a merging-buffer
entry, whose line goes to DDR poisoned and stays nowhere in the cache (R282). -/
def execIchEccError (kind line : Nat) (s : State) : Res :=
  .next (match kind with
  | 0 => s.incSat F.ICH_ECC_CNT_COUNT 1
  | 1 =>
    (((s.dropLine line).updIch (fun c => { c with side := c.side.filter (fun e => e.1 != line) })).setb F.ICH_ERR_DATA_ECC true).recordMs
      0x0801 (w2 (256 * line))
  | 2 => s.tagError line
  | _ =>
    if s.ich.wb.any (fun e => e.line == line) then
      let s := ((s.drainLine line).dropLine line).updIch (fun c => { c with
        side := c.side.filter (fun e => e.1 != line), poisoned := line :: c.poisoned.filter (· != line)
        fills := c.fills.map (fun f => if f.line == line then { f with stale := true } else f) })
      ((s.setb F.ICH_ERR_WB_ECC true).recordMs 0x0803 (w2 (256 * line))).ichRetry
    else s)

/-- Views: WB_OCC and ICH_LOCKED. -/
def State.ichLocked (s : State) : Nat := s.ich.sets.foldl (fun n e => n + e.2.ways.countP (fun w => w.2.locked)) 0

end Sys2Proof.Machine
end

