-- ==== Sys2Proof/Machine/Reset.lean ====
section
/-! DEFINITION. Taking a reset of compute-die reach or wider (ch. 18): which sources are held, how an episode begins, widens and ends,
and what each reach returns to its reset value (R503). -/

namespace Sys2Proof.Machine

/-! ### The register map -/

/-- The offset within an array left after its indices, when the address lies in the array. -/
def matchStrides : List (Nat × Nat) → Nat → Option Nat
  | [], o => some o
  | (d, n) :: t, o => if o / d < n then matchStrides t (o % d) else none

/-- The register an address is the first byte of. -/
def regAt (a : Nat) : Option RegDesc :=
  regMap.find? (fun r => r.base ≤ a && matchStrides r.strides (a - r.base) == some 0)

/-- The access code of the field kept under a key. -/
def accessOf (key : Nat) : Option Access :=
  (regAt (key / 64)).bind (fun r => (r.fields.find? (fun f => f.lo == key % 64)).map (·.access))

/-- The address lies in GLB, KDL, DMP, SOOT, TICK or JNL. -/
def companion (a : Nat) : Bool := a < 0x400000 || (0x500000 ≤ a && a < 0x600000) || (0xC00000 ≤ a && a < 0xD00000)

/-- The journal registers that recovery sets afresh (R503). -/
def recoveredReg (a : Nat) : Bool :=
  a == R.JNL_RECS || a == R.JNL_RETIRED || a == R.JNL_STS || a == R.JNL_PTR || a == R.JNL_RCV

/-- A reset of the reach keeps the field (R503). UNMIRRORED and the cut log's COUNT show Ember contents and so are never reset. -/
def keptField (r : Reach) (key : Nat) : Bool :=
  let a := key / 64
  let code := accessOf key
  if code == some .rwe || key == F.GLB_MODE_UNMIRRORED.key || key == F.TICK_CLOG_CTL_COUNT.key then true
  else match r with
    | .powerOn => false
    | .system => code == some .rws || a == R.KDL_RST_SRC || (R.AND_PAIR_STS ≤ a && a < R.AND_PAIR_STS + 36 && key % 64 == 24)
    | .computeDie =>
      code == some .rws || (companion a && !recoveredReg a) || (R.AND_PAIR_STS ≤ a && a < R.AND_PAIR_STS + 36 && key % 64 == 24)

/-- Every register field the reach does not keep takes its reset value. -/
def State.clearRegs (s : State) (r : Reach) : State :=
  { s with regs := (resetFields.filter (fun e => !keptField r e.1)).foldl (fun t e => Tab.putN t e.1 e.2)
                     (s.regs.filter (fun e => keptField r e.1)) }

/-! ### What a reach clears beside registers -/

/-- The merging buffer's entries written to DDR, oldest first (R285). -/
def drainWb (ddr : Tab Byte) (wb : List WbEntry) : Tab Byte :=
  wb.foldl (fun m e => e.bytes.foldl (fun m b => Tab.putB m (e.line * 256 + b.1) b.2) m) ddr

/-- The compute die goes into reset: every structure of R503 that compute-die reach resets. Ember contents stay: committed records,
the volume table, admin progress, ownership. Of the latched and staged halves of R9 and R10 the spec does not speak: the model drops them
(log 125). -/
def State.clearComputeDie (s : State) (memKept : Bool) : State :=
  { s with
    acc := []
    hrt := {}
    crl := {}
    pool := {}
    ports := Tab.mapVals s.ports (fun _ h => { rst := h.rst.filter (· == .perst) })
    bel := { vols := s.bel.vols, seqNext := s.bel.seqNext, blockEnd := s.bel.blockEnd, seqMax := s.bel.seqMax,
             sanitizeFail := s.bel.sanitizeFail, sanStatus := s.bel.sanStatus }
    wins := []
    agentq := []
    stoves := []
    ddx := { s.ddx with pend := [], snapWait := [], fwd := [], roomWait := [], reclaimItems := 0, writing := []
                        store := s.ddx.writing.flatMap (fun w => w.2.map (·.1)) ++ s.ddx.store }
    ich := { poisoned := if memKept then s.ich.poisoned else [] }
    keys := { s.keys with slots := [], erase := none }
    drv := { stripes := s.drv.stripes, preempted := s.drv.preempted }
    fwq := []
    mode := { partnerByte := none }
    and := { halves := s.and.halves, soloSeq := s.and.soloSeq, lastRot := s.and.lastRot }
    jnl := { s.jnl with
      recs := s.jnl.recs.filter (·.committed), waiting := [], regain := [], credit := 40960,
      staging := if memKept then s.jnl.staging else [] }
    ddr := if memKept then drainWb s.ddr s.ich.wb else []
    grates := if memKept then s.grates else [] }

/-- What system reach resets beside that: the Kindling and Damper sequencers, the TICK streams, a running freeze; the option copy
is read again. -/
def State.clearSystem (s : State) : State :=
  { s with
    dmp := { pinAsserted := s.dmp.pinAsserted, below := s.dmp.below }
    tick := { s.tick with streams := [], heldCuts := [], gapHold := none }
    soot := { s.soot with flushing := none, again := false, freezeWait := false, freezeAt := none, nonce := none }
    jnl := { s.jnl with cur := [] } }

/-- What power-on reach resets beside that: everything but Ember contents and fuses. AT restarts under R424. -/
def State.clearPowerOn (s : State) : State :=
  { s with
    rsram := []
    dmp := { pinAsserted := s.dmp.pinAsserted, cdPwrEn := s.dmp.cdPwrEn, below := s.dmp.below }
    tick := { cycles := s.tick.cycles, armCount := s.tick.armCount }
    soot := { log := s.soot.log, cycles := s.soot.cycles, cyclesE := s.soot.cyclesE, opTimeE := s.soot.opTimeE } }

/-! ### Sources and episodes (R486-R493) -/

/-- The bit of KDL_RST_SRC that stands for a source. -/
def srcBit : RstSrc → Nat
  | .powerOn => 0 | .rstN => 1 | .miReset => 2 | .cmd => 3 | .warm => 4 | .cdSupply => 5 | .watchdog => 6 | .fence => 7
  | .doubleFault => 8 | .arbLost => 9 | .unitLost => 10 | .joinLost => 11 | .noSolo => 12

/-- How far a reach goes: 3 power-on, 2 system, 1 compute-die. -/
def reachRank : Reach → Nat
  | .powerOn => 3 | .system => 2 | .computeDie => 1

/-- The wider of two reaches. -/
def wider (a b : Reach) : Reach := if reachRank a < reachRank b then b else a

/-- KDL_STS.REACH's code. -/
def reachCode : Reach → Nat
  | .powerOn => 1 | .system => 2 | .computeDie => 3

/-- The sources R492 holds during Quench. -/
def holdable : RstSrc → Bool
  | .rstN | .miReset | .cmd | .watchdog | .doubleFault | .unitLost | .joinLost | .noSolo => true
  | _ => false

/-- The domains a reach leaves released (R487). -/
def keptDomains : Reach → Nat
  | .powerOn => 0
  | .system => 3
  | .computeDie => 3 + 2 ^ 15 + 2 ^ 16

/-- The domains of the reach enter reset: nothing is released early any more (R496), the mode becomes Kindling by transition 11, and
compute-die state is cleared. DRAM and grates are kept unless the episode is of power-on reach (R493, R503). A trip ends with an episode of
system reach or wider (R586); CD_PWR_EN is low until the always-on rails are good (R577). -/
def State.enterReset (s : State) (r : Reach) : State :=
  let s := ((s.set F.KDL_REL_STS_DOMAIN (Nat.land (s.get F.KDL_REL_STS_DOMAIN) (keptDomains r))).set F.KDL_CLK_PEND_DOMAIN 0).set
    F.KDL_REL_FORCE_DOMAIN 0
  let s := if s.md == mKindling then s else s.transition mKindling 11
  let s := if s.get (F.HST_LINK_STS_LTSSM 0) == 3 then s.ptmLost else s
  let memKept := r != .powerOn
  let s := (s.clearComputeDie memKept).clearRegs .computeDie
  let s := if r == .computeDie then s else { s with dmp := { s.dmp with tripAt := none, cdPwrEn := memKept } }
  (s.setb F.GLB_MODE_WAITING false).setb F.KDL_STS_DDR_KEPT memKept

/-- The clock-good indications that a loss of supply ends. -/
def State.loseClocks (s : State) (src : RstSrc) : State :=
  match src with
  | .powerOn => s.set F.KDL_CLK_GOOD_DOMAIN 0
  | .cdSupply => s.set F.KDL_CLK_GOOD_DOMAIN (Nat.land (s.get F.KDL_CLK_GOOD_DOMAIN) (keptDomains .computeDie))
  | _ => s

/-- A source of compute-die reach or wider becomes asserted: an episode begins or goes on, with the widest reach (R489); one that
meets Kindling running restarts it (R491). A pin-like source has no end of its own. -/
def State.takeSrc (s : State) (src : RstSrc) (r : Reach) (pin : Bool) : State :=
  let s := s.loseClocks src
  let a : Asserted := { src, reach := r, untilAt := if pin then none else some (s.cyc + us 10) }
  let k := s.kdl
  let bitv := 2 ^ srcBit src
  match k.episode with
  | none =>
    let s := { s with kdl := { k with asserted := a :: k.asserted, took := bitv, episode := some r, episodeAt := s.cyc } }
    let s := if s.getb F.KDL_STS_BUSY then (s.incSat F.KDL_STS_RESTARTS 1).record 0x0103 [] else s
    s.enterReset r
  | some e =>
    let s := { s with kdl := { k with asserted := a :: k.asserted, took := Nat.lor k.took bitv, episode := some (wider e r) } }
    if reachRank e < reachRank r then s.enterReset r else s

/-- Every held source is taken at once; RST_N as a pin while it is still low. -/
def State.takeHeld (s : State) : State :=
  s.kdl.held.foldl (fun s h => s.takeSrc h.1 h.2 (h.1 == .rstN && s.kdl.rstLow)) { s with kdl := { s.kdl with held := [] } }

/-- Hold a source, with the widest reach it asked for. -/
def holdSrc (hs : List (RstSrc × Reach)) (src : RstSrc) (r : Reach) : List (RstSrc × Reach) :=
  if hs.any (fun h => h.1 == src) then hs.map (fun h => if h.1 == src then (src, wider h.2 r) else h) else hs ++ [(src, r)]

/-- A Quench is over without a reversal: it ends in a reset or where it stands (R523, R524). -/
def State.endQuench (s : State) : State :=
  ((s.setMode F.GLB_MODE_QPHASE 0).setb F.DMP_STS_QHOLD false).setb F.DMP_STS_CLEAR_WAIT false

/-- A source is recognised (R486, R492, R523): held during Quench, taken otherwise; in the quenched hold RST_N, the NVMe-MI reset and
KDL_RST_CMD act as the warm restart, which every held source joins. -/
def State.assertSrc (s : State) (src : RstSrc) (r : Reach) (pin : Bool := false) : State :=
  let qhold := s.getb F.DMP_STS_QHOLD
  if (s.qphase == 1 || (s.qphase == 2 && !qhold)) && holdable src then
    let s := { s with kdl := { s.kdl with held := holdSrc s.kdl.held src r } }
    (s.setb F.KDL_ERR_RST_HELD true).record 0x0109 (w1 (s.kdl.held.foldl (fun m h => Nat.lor m (2 ^ srcBit h.1)) 0))
  else if qhold && (src == .rstN || src == .miReset || src == .cmd) then (s.endQuench.takeSrc src .system pin).takeHeld
  else s.takeSrc src r pin

/-- A pin-like source is released. One that R492 holds stays held. -/
def State.releaseSrc (s : State) (src : RstSrc) : State :=
  { s with kdl := { s.kdl with asserted := s.kdl.asserted.filter (fun a => a.src != src || a.untilAt.isSome) } }

/-- Event sources whose 10 µs have passed are no longer asserted (R489). -/
def State.expireSrcs (s : State) : State :=
  { s with kdl := { s.kdl with asserted := s.kdl.asserted.filter (fun a => match a.untilAt with
    | some t => s.cyc < t
    | none => true) } }

/-- KDL_RST_SRC as one number, and written. -/
def State.kdlSrc (s : State) : Nat := (List.range 13).foldl (fun m i => m + s.get ⟨R.KDL_RST_SRC, i, 1⟩ * 2 ^ i) 0
def State.setKdlSrc (s : State) (m : Nat) : State :=
  (List.range 13).foldl (fun s i => s.setb ⟨R.KDL_RST_SRC, i, 1⟩ (bit m i)) s

/-- DRAM and grate contents are lost. -/
def State.loseMemory (s : State) : State :=
  { s with ddr := [], grates := [], jnl := { s.jnl with staging := [] } }

/-- The episode ends once no source is asserted (R489, R497 step 1): what its reach resets takes its reset value, and Kindling runs
step 1 with every boot source untried. `kept` says that every working DIMM reached self-refresh in time (R493); SB_SEL is sampled at the end
of a power-on episode (R581). -/
def State.endEpisode (s : State) (r : Reach) (sbSel kept : Bool) : State :=
  let took := s.kdl.took
  let restarts := s.get F.KDL_STS_RESTARTS
  let kept := kept && s.getb F.KDL_STS_DDR_KEPT
  let rel := s.get F.KDL_REL_STS_DOMAIN
  let good := s.get F.KDL_CLK_GOOD_DOMAIN
  let force := s.get F.KDL_REL_FORCE_DOMAIN
  let pend := s.get F.KDL_CLK_PEND_DOMAIN
  let prev := s.get F.GLB_MODE_PREV
  let s := match r with
    | .powerOn => s.clearSystem.clearPowerOn
    | .system => s.clearSystem
    | .computeDie => s
  let s := s.clearRegs r
  let s := if kept then s else s.loseMemory
  let s := { s with
    jnl := { s.jnl with cur := [] }
    kdl := { rstLow := s.kdl.rstLow, took, doneAt := s.cyc, reachedAt := s.cyc, sbI3c := if r == Reach.powerOn then sbSel else s.kdl.sbI3c } }
  let s := if r == Reach.powerOn then s
    else (s.set F.KDL_STS_RESTARTS restarts).set F.GLB_MODE_PREV prev
  let s := ((((s.setb F.KDL_STS_BUSY true).setb F.KDL_STS_HOLD false).set F.KDL_STS_STEP 1).set F.KDL_STS_REACH (reachCode r)).setb
    F.KDL_STS_DDR_KEPT kept
  let s := (((s.set F.KDL_REL_STS_DOMAIN rel).set F.KDL_CLK_GOOD_DOMAIN good).set F.KDL_REL_FORCE_DOMAIN force).set F.KDL_CLK_PEND_DOMAIN pend
  let s := (((s.set F.KDL_BOOT_RES_CS0 0xFF).set F.KDL_BOOT_RES_CS1 0xFF).setb F.KDL_STS_XSPI_FREE false).set F.KDL_STS_BOOT_SRC 3
  let src := if r == Reach.powerOn then took else Nat.lor (s.kdlSrc) took
  (s.setKdlSrc src).set F.KDL_LAST_AT_AT s.now

end Sys2Proof.Machine
end

