-- ==== Sys2Proof/Machine/Pool.lean ====
section
/-! DEFINITION. The Grate pool's credit (R27-R35): reservations, borrowing, waiting, stalls and spilling; and the loss of the last
working unit of the minimum service set (R37). -/

namespace Sys2Proof.Machine

/-- The number under which the pool knows a host command or a mirrored record, a GR.ALLOC, a drive request and a mirror message. -/
def cmdUser (id : Nat) : Nat := 8 * id
def allocUser (id : Nat) : Nat := 8 * id + 1
def drvUser (id : Nat) : Nat := 8 * id + 2
def mirUser (id : Nat) : Nat := 8 * id + 3

/-- Change the pool. -/
def State.updPool (s : State) (f : PoolSt → PoolSt) : State := { s with pool := f s.pool }

/-- All grates a channel holds, and its shared ones. -/
def State.chanTotal (s : State) (c : Nat) : Nat := s.pool.held.countP (fun e => e.2.chan == c)
def State.chanShared (s : State) (c : Nat) : Nat := Tab.getN s.pool.shared c

/-- The sum of the eight reservations. -/
def State.rsvSum (s : State) : Nat := (List.range 8).foldl (fun n c => n + s.get (F.GRT_CH_RSV_RSV c)) 0

/-- The free grates of the shared remainder (R28). -/
def State.sharedFree (s : State) : Nat :=
  12288 - s.rsvSum - (List.range 8).foldl (fun n c => n + s.chanShared c) 0

/-- A request of the channel can be granted from its reservation, and from the shared remainder (R29, R32). -/
def State.canReserve (s : State) (c : Nat) : Bool := s.chanTotal c - s.chanShared c < s.get (F.GRT_CH_RSV_RSV c)
def State.canShare (s : State) (c : Nat) : Bool :=
  s.chanShared c < s.get (F.GRT_CH_CAP_CAP c) && 0 < s.sharedFree && !s.pool.stalled.contains c

/-- The lowest grate from `i` on that no channel holds, among `n`. -/
def firstFree (held : Tab Grate) : Nat → Nat → Option Nat
  | 0, _ => none
  | n + 1, i => if (Tab.find held i).isNone then some i else firstFree held n (i + 1)

/-- A free grate. -/
def State.freeGrate (s : State) : Option Nat := firstFree s.pool.held 12288 0

/-- Grant a grate to a request that can be granted: from the reservation while it has free grates, else from the shared remainder,
which starts the channel's stall time when it held no shared grate (R29, R31, R32). -/
def State.grant (s : State) (r : GrateReq) : State :=
  match s.freeGrate with
  | none => s
  | some g =>
    let gr : Grate := { chan := r.chan, journalled := false, atime := r.atime, user := r.user }
    let s' := s.updPool (fun p => { p with held := Tab.put p.held g gr })
    if s.canReserve r.chan then s'
    else s'.updPool (fun p => { p with
      shared := Tab.putN p.shared r.chan (Tab.getN p.shared r.chan + 1)
      lastShared := r.chan
      stallFrom := if Tab.getN p.shared r.chan == 0 then Tab.put p.stallFrom r.chan s.cyc else p.stallFrom })

/-- The requests that wait for a shared grate their channel may have. -/
def State.sharersWaiting (s : State) : Nat := s.pool.waiting.countP (fun w => s.canShare w.chan && !s.canReserve w.chan)

/-- A channel asks for a grate (R29): granted at once when nothing of the channel waits and its reservation has a free grate, or it can share
and no more requests wait for shared grates than leave one free (R31); else it waits and is counted. -/
def State.request (s : State) (r : GrateReq) : State :=
  if (s.canReserve r.chan || (s.canShare r.chan && s.sharersWaiting < s.sharedFree)) && !s.pool.waiting.any (fun w => w.chan == r.chan) &&
    s.freeGrate.isSome then s.grant r
  else (s.updPool (fun p => { p with waiting := p.waiting ++ [r] })).incSat (F.GRT_BP_CNT_COUNT r.chan) 1

/-- Ask for `n` grates. -/
def State.requestN (s : State) (r : GrateReq) (n : Nat) : State := (List.range n).foldl (fun s _ => s.request r) s

/-- The next waiting request to grant (R31): the channels in rotation after the one last granted a shared grate, each with its oldest
request. -/
def State.nextGrant (s : State) : Option GrateReq :=
  ((List.range 8).map (fun i => (s.pool.lastShared + 1 + i) % 8)).findSome? (fun c =>
    if s.canReserve c || s.canShare c then s.pool.waiting.find? (fun w => w.chan == c) else none)

/-- Remove the first occurrence of a request. -/
def dropReq (r : GrateReq) : List GrateReq → List GrateReq
  | [] => []
  | w :: ws => if w == r then ws else w :: dropReq r ws

/-- Grant the next waiting request. -/
def State.grantNext (s : State) : State :=
  match s.nextGrant with
  | none => s
  | some r => if s.freeGrate.isNone then s else (s.updPool (fun p => { p with waiting := dropReq r p.waiting })).grant r

/-- A grate is freed (R30): its credit returns to the shared remainder while the channel holds shared grates, else to the reservation.
A free ends a stall and restarts the stall time (R32). -/
def State.freeGrateOf (s : State) (g : Nat) : State :=
  match Tab.find s.pool.held g with
  | none => s
  | some gr =>
    s.updPool (fun p =>
      let sh := Tab.getN p.shared gr.chan
      { p with
        held := Tab.del p.held g
        shared := Tab.putN p.shared gr.chan (sh - 1)
        stalled := p.stalled.filter (· != gr.chan)
        stallFrom := if sh ≤ 1 then Tab.del p.stallFrom gr.chan else Tab.put p.stallFrom gr.chan s.cyc })

/-- The grates a user holds. -/
def State.gratesOf (s : State) (user : Nat) : List Nat := (s.pool.held.filter (fun e => e.2.user == user)).map (·.1)

/-- Free every grate of a user and forget what it waits for and has in the overflow. -/
def State.freeUser (s : State) (user : Nat) : State :=
  let s' := (s.gratesOf user).foldl State.freeGrateOf s
  s'.updPool (fun p => { p with waiting := p.waiting.filter (fun w => w.user != user), overflow := p.overflow.filter (fun e => e.1 != user) })

/-- The grates `len` bytes take. -/
def gratesFor (len : Nat) : Nat := (len + 4095) / 4096

/-- A user holds `n` grates. -/
def State.holdsAll (s : State) (user n : Nat) : Bool := (s.gratesOf user).length == n

/-- The user's payload is journalled: its grates may be moved to the overflow (R33). -/
def State.markJournalled (s : State) (user : Nat) : State :=
  s.updPool (fun p => { p with held := Tab.mapVals p.held (fun _ g => if g.user == user then { g with journalled := true } else g) })

/-- Place bytes into grates, 4,096 to a grate. -/
def fillGrates (mem : Tab Byte) : List Nat → Bytes → Tab Byte
  | [], _ => mem
  | g :: gs, bs => fillGrates (Tab.writeBytes mem (4096 * g) (bs.take 4096)) gs (bs.drop 4096)

/-- GRATE_ALLOC_REQUEST: a user of a channel asks for a grate (R29). -/
def execGrateAllocRequest (chan user : Nat) (s : State) : Res :=
  .next (if s.released dCch then s.request { chan, user, atime := s.now } else s)

/-- GRATE_FREE: grate `g` is freed (R30). -/
def execGrateFree (g : Nat) (s : State) : Res := .next (s.freeGrateOf g)

/-- GRT_STALL: channel `c` holds shared grates and has freed none for GRT_STALL_TO (R32). -/
def execGrtStall (c : Nat) (s : State) : Res :=
  .next (if 0 < s.chanShared c && !s.pool.stalled.contains c &&
      Tab.getN s.pool.stallFrom c + us (s.get F.GRT_STALL_TO_TIMEOUT) ≤ s.cyc then
    ((s.updPool (fun p => { p with stalled := c :: p.stalled })).setBitOf F.GRT_STALL_STALLED c true).record 0x0701 []
  else s)

/-- The grate a spill moves next (R33): journalled, of HIN0, HIN1 or MIRI while the channel holds shared grates, oldest admission AT
first. Among grates of one admission AT, such as those of one command, the spec gives no order: the model takes the lowest-numbered
(log 127). -/
def State.spillNext (s : State) : Option Nat :=
  let ok := s.pool.held.filter (fun e => e.2.journalled && e.2.chan < 3 && 0 < s.chanShared e.2.chan)
  (ok.foldl (fun (best : Option (Nat × Grate)) e =>
    match best with
    | some b => if e.2.atime < b.2.atime then some e else best
    | none => some e) none).map (·.1)

/-- A grate's bytes move to the DDR staging overflow and the grate is freed (R33). Where in DDR the overflow lies is open: a free value, in
whole grates (log 134). -/
def State.spill (s : State) (g : Nat) : State :=
  let user := (Tab.getD s.pool.held g { chan := 0, journalled := false, atime := 0, user := 0 }).user
  let a := 4096 * s.freeValue.toNat
  (((s.taken 1).ddrWrite a (Tab.readBytes s.grates (4096 * g) 4096)).freeGrateOf g).updPool (fun p => { p with overflow := p.overflow ++ [(user, g, a)] })

/-- GRATE_SPILL: while the free shared count is below GRT_SPILL_LO, one grate moves to the DDR staging overflow (R33). -/
def execGrateSpill (s : State) : Res :=
  .next (if s.sharedFree < s.get F.GRT_SPILL_LO_LEVEL then
    match s.spillNext with
    | some g => s.spill g
    | none => s
  else s)

/-- A write of 1 to GRT_POOL_CFG.LOCK (R34). -/
def State.poolLock (s : State) : State :=
  if s.rsvSum ≤ 11264 then s.setb F.GRT_POOL_CFG_LOCK true else s.setb F.GRT_POOL_CFG_CFG_ERR true

/-- POOL_LOCK: a write of 1 to GRT_POOL_CFG.LOCK (R34). -/
def execPoolLock (r : Req) (s : State) : Res := .next (s.withWrite r R.GRT_POOL_CFG State.poolLock)

/-- A write to GRT_CH_RSV[c] (R34). -/
def State.writeRsv (s : State) (c v : Nat) : State :=
  if s.getb F.GRT_POOL_CFG_LOCK then s
  else if s.rsvSum - s.get (F.GRT_CH_RSV_RSV c) + v % 2 ^ 14 > 12288 then s.setb F.GRT_POOL_CFG_CFG_ERR true
  else s.set (F.GRT_CH_RSV_RSV c) v

/-- CH_RSV_WRITE: a write to GRT_CH_RSV[c] (R34). -/
def execChRsvWrite (r : Req) (c value : Nat) (s : State) : Res :=
  .next (s.withWrite r (R.GRT_CH_RSV + 4 * c) (fun s => s.writeRsv c value))

/-! ### Units (R36, R37, R483)

A unit is numbered by its bit of GLB_FAULT (19 to 53), and by its code of R482 where it has no bit. -/

/-- The degraded bit of a unit follows whether it works. -/
def State.degradeUnit (s : State) (u : Nat) (bad : Bool) : State :=
  if 19 ≤ u && u < 28 then s.degrade F.GLB_FAULT_AND (u - 19) bad
  else if u == 28 || u == 29 then s.degrade F.GLB_FAULT_DDR (u - 28) bad
  else if u == 30 || u == 31 then s.degrade F.GLB_FAULT_HST (u - 30) bad
  else if 32 ≤ u && u < 36 then s.degrade F.GLB_FAULT_DRV (u - 32) bad
  else if 36 ≤ u && u < 52 then s.degrade F.GLB_FAULT_STV (u - 36) bad
  else if u == 52 then s.degrade F.GLB_FAULT_ICH 0 bad
  else if u == 53 then s.degrade F.GLB_FAULT_CRL 0 bad
  else s

/-- No instance of the unit's kind works (R36). -/
def State.kindLost (s : State) (u : Nat) : Bool :=
  if u == 1 || u == 4 || u == 10 then true
  else if 19 ≤ u && u < 28 then s.get F.GLB_FAULT_AND == 2 ^ 9 - 1
  else if u == 28 || u == 29 then s.get F.GLB_FAULT_DDR == 3
  else if u == 30 || u == 31 then s.get F.GLB_FAULT_HST == 3
  else if 32 ≤ u && u < 36 then s.get F.GLB_FAULT_DRV == 15
  else if 36 ≤ u && u < 52 then s.get F.GLB_FAULT_STV == 2 ^ 16 - 1
  else false

/-- A unit fails in service (R37, R483): its degraded bit is set, and when no other instance of a minimum-set unit works the device
performs a compute-die reset. -/
def State.unitFails (s : State) (u : Nat) : State :=
  let s := s.degradeUnit u true
  if s.kindLost u && !s.getb F.KDL_STS_BUSY then s.assertSrc .unitLost .computeDie else s

/-- UNIT_LOST_RESET: a unit of the minimum service set fails in service (R37). -/
def execUnitLostReset (u : Nat) (s : State) : Res := .next (s.unitFails u)

end Sys2Proof.Machine
end

