-- ==== Sys2Proof/Machine/Tick.lean ====
section
/-! DEFINITION. Array Time (ch. 15): the count and its discipline, cuts, journal sequences, replication streams. -/

namespace Sys2Proof.Machine

/-- Change the TICK block's own state. -/
def State.updTick (s : State) (f : TickSt → TickSt) : State := { s with tick := f s.tick }

/-- What one TICK cycle adds to AT under the running correction (R426): the last cycle of each 100 of a slew adds 0 or 2; at half
rate every second cycle adds 1. -/
def slewAdd : Slew → Nat
  | .none => 1
  | .slew ahead left => if left % 100 == 1 then (if ahead then 0 else 2) else 1
  | .half left => if left == 0 then 1 else left % 2

/-- The correction after one more cycle. -/
def slewNext : Slew → Slew
  | .none => .none
  | .slew a left => .slew a (left - 1)
  | .half left => .half (left - 1)

/-- One TICK cycle passes: AT rises once it is loaded (R423, R424). -/
def State.tickCycle (s : State) : State :=
  s.updTick (fun t => { t with
    cycles := t.cycles + 1
    count := if t.loaded then t.count + slewAdd t.slew else t.count
    slew := slewNext t.slew })

/-- LOCKED follows the last error and the running correction (R426). -/
def State.showLocked (s : State) : State :=
  let half := match s.tick.slew with
    | .half _ => true
    | _ => false
  s.setb F.TICK_STS_LOCKED (s.tick.inLimit && !half)

/-- A signed number at 32 bits, saturated at ±(2^31 − 1). -/
def sat32 (e : Int) : Nat := twos 32 (max (-(2 ^ 31 - 1)) (min e (2 ^ 31 - 1)))

/-- AT steps forward by `n` at once (R426). A slew in progress ends with it: the spec does not say (log 140). -/
def State.atStep (s : State) (n : Nat) : State :=
  ((s.updTick (fun t => { t with count := t.count + n, slew := .none })).setb F.TICK_ERR_STEP true).recordMs 0x0E01 (w2 n)

/-- A correction by slewing. -/
def State.atSlew (s : State) (e : Int) : State :=
  s.updTick (fun t => { t with slew := if e == 0 then .none else .slew (e > 0) (e.natAbs * 100) })

/-- Correct AT by the error `e` (R426). `whole` is the TICK source, which steps to a whole second; a step forward needs no half rate. -/
def State.correct (s : State) (whole : Bool) (e : Int) : State :=
  let lim : Int := s.get F.TICK_LIMITS_SLEW_MAX
  let s := (s.set F.TICK_PHASE_VALUE (sat32 e)).setb F.TICK_STS_HOLDOVER false
  let s := s.updTick (fun t => { t with inLimit := decide (-lim ≤ e ∧ e ≤ lim) })
  let s :=
    if e > lim then
      if whole then s.atStep (100000000 - e).toNat else s.updTick (fun t => { t with slew := .half (2 * e.toNat) })
    else if e < -lim then s.atStep (-e).toNat
    else s.atSlew e
  s.showLocked

/-- TICK_LINK_DLY ÷ 10, rounded to the nearest AT count (R425). -/
def State.linkDly (s : State) : Nat := (s.get F.TICK_LINK_DLY_DELAY + 5) / 10

/-- Kindling loads AT at power-on (R424). -/
def State.loadAt (s : State) : State :=
  let n := s.get F.TICK_FLOOR_AT + 200000000
  let s := s.updTick (fun t => { t with count := n, loaded := true, floorSec := n / sec 1 })
  { s with soot := { s.soot with second := n / sec 1, opFrom := n } }

/-- TICK_SYNC_EDGE: a rising edge of TICK_SYNC, at which AT should be a whole second (R425, R426). While TICK_CLK is lost, holdover goes on
(R427). -/
def execTickSyncEdge (s : State) : Res :=
  let s := s.setb F.TICK_STS_SYNC_OK true
  let m : Int := s.now % 100000000
  let held := s.getb F.TICK_STS_HOLDOVER && !s.getb F.TICK_STS_CLK_OK
  .next (if s.get F.TICK_CTL_SRC == 1 && s.tick.loaded then
    (s.correct true (if m ≥ 50000000 then m - 100000000 else m)).setb F.TICK_STS_HOLDOVER held else s)

/-- TICK_CLK_LOSS: no edge of TICK_CLK for 1 µs (R427). A loss is reported only of the source that SRC selects. -/
def execTickClkLoss (s : State) : Res :=
  let s := s.setb F.TICK_STS_CLK_OK false
  .next (if s.get F.TICK_CTL_SRC == 1 then
    ((s.setb F.TICK_STS_HOLDOVER true).setb F.TICK_ERR_CLK_LOSS true).recordMs 0x0E03 [] else s)

/-- TICK_CLK_RETURN: TICK_CLK is present again; HOLDOVER waits for the next correction point (R427). -/
def execTickClkReturn (s : State) : Res := .next (s.setb F.TICK_STS_CLK_OK true)

/-- TICK_SYNC_LOSS: no edge of TICK_SYNC for 1.5 s (R427). -/
def execTickSyncLoss (s : State) : Res :=
  let s := s.setb F.TICK_STS_SYNC_OK false
  .next (if s.get F.TICK_CTL_SRC == 1 then
    ((s.setb F.TICK_STS_HOLDOVER true).setb F.TICK_ERR_SYNC_LOSS true).recordMs 0x0E04 [] else s)

/-- PTM_DIALOG: port 0, in L0, completes a PTM dialog with the master's time in ns and the TICK-domain capture of it, at most once an interval
(R68); it is the correction point of the PTM source (R425). -/
def execPtmDialog (masterNs capture : Nat) (s : State) : Res :=
  .next (if (s.port 0).ptmEnable && s.get (F.HST_LINK_STS_LTSSM 0) == 3 && s.get F.TICK_CTL_SRC == 2 && s.tick.loaded &&
      (s.port 0).ptmAt + us (max 1 (s.get F.TICK_PTM_INT_INTERVAL)) ≤ s.cyc then
    let ofs : Int := (BitVec.ofNat 64 (s.get F.TICK_PTM_OFS_OFS)).toInt
    let s := { s.setb F.TICK_STS_PTM_OK true with ports := Tab.upd s.ports 0 {} (fun h => { h with ptmAt := s.cyc }) }
    s.correct false (capture - (masterNs / 10 + ofs))
  else s)

/-- PTM_LOSS: PTM Enable is cleared on port 0, it leaves L0, it is reset, or a PTM request has no response within 10 µs (R69). -/
def execPtmLoss (s : State) : Res := .next s.ptmLost

/-- AT_CORRECTION_END: the running slew or half-rate correction has made all its cycles (R426). -/
def execAtCorrectionEnd (s : State) : Res :=
  .next (match s.tick.slew with
    | .slew _ 0 | .half 0 => (s.updTick (fun t => { t with slew := .none })).showLocked
    | _ => s)

/-- TICK_FLOOR_WRITE: each second of AT, the floor, the power-cycle count and the operating time go to Ember (R424, R557). -/
def execTickFloorWrite (s : State) : Res :=
  .next (if s.tick.loaded && s.tick.floorSec < s.now / sec 1 && s.released dEmb then
    let s := s.updTick (fun t => { t with floorSec := t.count / sec 1 })
    { s.set F.TICK_FLOOR_AT s.now with soot := { s.soot with cyclesE := s.soot.cycles, opTimeE := s.soot.opTime } }
  else s)

/-! ### Journal sequences (R111-R113, R433-R435, R571) -/

/-- Change Bellows' own state. -/
def State.updBel (s : State) (f : BelSt → BelSt) : State := { s with bel := f s.bel }

/-- The end of the block of 2^20 sequences that holds `n`. -/
def blockTop (n : Nat) : Nat := (n / 2 ^ 20 + 1) * 2 ^ 20

/-- The gap a command stamped `a` takes its sequence from: that of the cut with the smallest T above `a` (R433). -/
def State.gapFor (s : State) (a : Nat) : Option Gap :=
  s.tick.gaps.foldl (fun (best : Option Gap) g =>
    if g.t ≤ a then best
    else match best with
      | some b => if g.t < b.t then some g else best
      | none => some g) none

/-- A sequence can be issued to a command stamped `a`: from its gap, or from the main counter below the committed high-water mark
(R113) and below 2^62 (R571). -/
def State.seqReady (s : State) (a : Nat) : Bool :=
  (s.gapFor a).isSome || (s.bel.seqNext < s.bel.blockEnd && s.bel.seqNext < 2 ^ 62)

/-- The sequence a command stamped `a` takes. -/
def State.nextSeq (s : State) (a : Nat) : Nat :=
  match s.gapFor a with
  | some g => g.next
  | none => s.bel.seqNext

/-- The sequence is taken (R433). A gap half used before its T holds write fetch (R434); a stamp below the T of a cut whose gap is no
longer kept is recorded (R435). -/
def State.takeSeq (s : State) (a : Nat) : State :=
  let s := s.updBel (fun b => { b with seqMax := max b.seqMax (s.nextSeq a) })
  match s.gapFor a with
  | none => s.updBel (fun b => { b with seqNext := b.seqNext + 1 })
  | some g =>
    let used := g.next + 1 - g.first
    let s := s.updTick (fun t => { t with gaps := t.gaps.map (fun h => if h.t == g.t && h.first == g.first then { h with next := h.next + 1 } else h) })
    let s := if a < s.tick.droppedT then s.recordMs 0x0E0A (w2 g.next ++ w2 a) else s
    if used ≥ 2 ^ 19 && s.now < g.t && s.tick.gapHold.isNone then
      ((s.updTick (fun t => { t with gapHold := some g.t })).setb F.TICK_ERR_GAP_HOLD true).recordMs 0x0E09 []
    else s

/-- Write one entry of the cut table in DDR (R438). -/
def State.writeCutEntry (s : State) (e : Nat × Nat × Nat) : State :=
  let a := s.get F.TICK_SNAP_RING_BASE * 2 ^ 20 + 16 * (e.1 % 64)
  s.ddrWrite a (leBytes 8 e.2.1 ++ leBytes 8 e.2.2)

/-- The schedule entry after its cut (R431). -/
def State.advanceCut (s : State) (c : Nat) : State :=
  let per := s.get (F.TICK_CS_PER_VALUE c)
  s.set (F.TICK_CS_T_VALUE c) (if per == 0 then 0 else s.get (F.TICK_CS_T_VALUE c) + per)

/-- Take the cut of schedule entry `c` (R433, R437, R571): the counter moves past a gap of 2^20 sequences whose end is committed as the
high-water mark, and the cut log and cut table name it. -/
def State.takeCut (s : State) (c : Nat) : State :=
  let t := s.get (F.TICK_CS_T_VALUE c)
  let s := s.advanceCut c
  let n := (s.bel.seqNext + 2 ^ 20 - 1) / 2 ^ 20 * 2 ^ 20
  let e := n + 2 ^ 20
  if s.get F.TICK_CLOG_CTL_COUNT ≥ 64 then (s.setb F.TICK_ERR_CLOG_FULL true).recordMs 0x0E08 []
  else if e > 2 ^ 62 then (s.setb F.BEL_ERR_CAPACITY true).recordMs 0x0603 []
  else
    let i := s.get F.TICK_CLOG_CTL_WR
    let s := s.updBel (fun b => { b with seqNext := e, blockEnd := e })
    let s := s.saveHwm e
    let s := s.updTick (fun k =>
      let gs := k.gaps ++ [{ t, first := n, next := n, endT := e }]
      { k with gaps := gs.drop (gs.length - 64), droppedT := if gs.length > 64 then max k.droppedT (gs.headD ⟨0, 0, 0, 0⟩).t else k.droppedT })
    let s := (s.set (F.TICK_CLOG_T_VALUE i) t).set (F.TICK_CLOG_END_VALUE i) e
    let s := (s.set F.TICK_CLOG_CTL_WR (i + 1)).inc F.TICK_CLOG_CTL_COUNT 1
    let s := if s.md == mBanked then s.updTick (fun k => { k with heldCuts := k.heldCuts ++ [(i, t, e)] }) else s.writeCutEntry (i, t, e)
    s.recordMs 0x0E07 (w2 t ++ w2 e)

/-- The enabled entry with the smallest T not above `a`, the lower entry on a tie. -/
def State.dueCut (s : State) (a : Nat) : Option Nat :=
  (List.range 16).foldl (fun best c =>
    let t := s.get (F.TICK_CS_T_VALUE c)
    if t == 0 || t > a then best
    else match best with
      | some b => if t < s.get (F.TICK_CS_T_VALUE b) then some c else best
      | none => some c) none

/-- How many cuts of the schedule fall due by `a`. -/
def State.cutsBy (s : State) (a : Nat) : Nat :=
  (List.range 16).foldl (fun n c =>
    let t := s.get (F.TICK_CS_T_VALUE c)
    let per := s.get (F.TICK_CS_PER_VALUE c)
    if t == 0 || t > a then n else n + (if per == 0 then 1 else (a - t) / per + 1)) 0

/-- Take the cuts that are due by `a`, at most `n`, in ascending T. -/
def State.takeCuts (a : Nat) : Nat → State → State
  | 0, s => s
  | n + 1, s =>
    match s.dueCut a with
    | some c => State.takeCuts a n (s.takeCut c)
    | none => s

/-- A command the partner stamped `a` arrives: every cut not above it is taken (R432). -/
def State.cutFor (s : State) (a : Nat) : State := if s.getb F.TICK_CTL_CUT_EN then s.takeCuts a (s.cutsBy a) else s

/-- CUT: the AT copy has reached the T of schedule entry `c`, and no enabled entry has a smaller T (R431, R432). -/
def execCut (c : Nat) (s : State) : Res :=
  .next (if s.getb F.TICK_CTL_CUT_EN && s.released dNoc && s.dueCut s.now == some c then s.takeCut c else s)

/-- A schedule entry when CUT_EN goes to 1 (R432): a periodic one advances by whole periods until it is above the AT copy; a one-shot
one that is not becomes 0. -/
def State.skipCut (s : State) (c : Nat) : State :=
  let t := s.get (F.TICK_CS_T_VALUE c)
  let per := s.get (F.TICK_CS_PER_VALUE c)
  if t == 0 || t > s.now then s
  else s.set (F.TICK_CS_T_VALUE c) (if per == 0 then 0 else t + ((s.now - t) / per + 1) * per)

/-- PARTNER is lost as a source while no session is up (R427). -/
def State.partnerSrc (s : State) : State :=
  if s.get F.TICK_CTL_SRC == 3 && !s.getb F.CRL_STS_SESSION then s.setb F.TICK_STS_HOLDOVER true else s

/-- Write CUT_EN. -/
def State.setCutEn (s : State) (b : Bool) : State :=
  let s' := s.setb F.TICK_CTL_CUT_EN b
  if b && !s.getb F.TICK_CTL_CUT_EN then (List.range 16).foldl State.skipCut s' else s'

/-- CUT_ENABLE: a write of 1 to TICK_CTL.CUT_EN (R432). -/
def execCutEnable (r : Req) (s : State) : Res := .next (s.withWrite r R.TICK_CTL (fun s => s.setCutEn true))

/-- Firmware consumes cut-log entries by advancing RD; a value that would pass WR is ignored. -/
def State.clogConsume (s : State) (rd : Nat) : State :=
  let d := (rd % 64 + 64 - s.get F.TICK_CLOG_CTL_RD) % 64
  let n := s.get F.TICK_CLOG_CTL_COUNT
  if d ≤ n then (s.set F.TICK_CLOG_CTL_RD rd).set F.TICK_CLOG_CTL_COUNT (n - d) else s

/-- CLOG_CONSUME: a write to TICK_CLOG_CTL with a new RD (R437). -/
def execClogConsume (r : Req) (rd : Nat) (s : State) : Res :=
  .next (s.withWrite r R.TICK_CLOG_CTL (fun s => s.clogConsume rd))

/-- GAP_HOLD_RELEASE: the AT copy reaches the T of the gap that holds write fetch (R434). -/
def execGapHoldRelease (s : State) : Res :=
  .next (match s.tick.gapHold with
    | some t => if t ≤ s.now then s.updTick (fun k => { k with gapHold := none }) else s
    | none => s)

/-! ### Replication streams (R440, R441) -/

/-- A stream. -/
def State.stream (s : State) (i : Nat) : Stream := Tab.getD s.tick.streams i {}

/-- Change a stream. -/
def State.updStream (s : State) (i : Nat) (f : Stream → Stream) : State :=
  s.updTick (fun t => { t with streams := Tab.upd t.streams i {} f })

/-- A stream whose last item has been posted and ended is DONE. -/
def State.streamDone (s : State) (i : Nat) : State :=
  let x := s.stream i
  if x.final && x.items == 0 && x.state == 1 then (s.updStream i (fun x => { x with state := 2 })).recordMs 0x0E0B (w1 i) else s

/-- A write to TICK_RS_CFG of the selected stream (R440): the key slots change only while ARM is 0; 0 to 1 arms it with the head's arm
count, unless that would be 2^48; 0 disarms it; FINAL is set by 1 and cleared by arming. -/
def State.writeRsCfg (s : State) (v : Nat) : State :=
  let i := s.get F.TICK_RS_SEL_STREAM
  let x := s.stream i
  let arm := bit v 31
  let s := s.updStream i (fun x => { x with
    port := bits v 29 1
    encSlot := if x.arm then x.encSlot else bits v 12 12
    macSlot := if x.arm then x.macSlot else bits v 0 12 })
  if arm && !x.arm then
    if s.tick.armCount ≥ 2 ^ 48 then s
    else
      let no := s.tick.armCount
      let s := s.updTick (fun t => { t with armCount := no + 1 })
      s.updStream i (fun x => { x with
        arm := true, final := false, index := 0, state := 1, built := 0, armNo := no, macs := [], last := none, items := 0
        t1 := if x.full then 0 else s.get (F.TICK_CLOG_T_VALUE x.cut1)
        t2 := s.get (F.TICK_CLOG_T_VALUE x.cut2)
        end1 := s.get (F.TICK_CLOG_END_VALUE x.cut1)
        end2 := s.get (F.TICK_CLOG_END_VALUE x.cut2) })
  else if !arm && x.arm then s.updStream i (fun x => { x with arm := false, state := 0 })
  else if bit v 30 then (s.updStream i (fun x => { x with final := true })).streamDone i
  else s

/-- STREAM_ARM: a write to TICK_RS_CFG with ARM 1 (R440). -/
def execStreamArm (r : Req) (value : Nat) (s : State) : Res :=
  .next (s.withWrite r R.TICK_RS_CFG (fun s => s.writeRsCfg (setBit value 31)))

/-- STREAM_FINAL: a write to TICK_RS_CFG with FINAL 1 while the stream is armed (R440). -/
def execStreamFinal (r : Req) (value : Nat) (s : State) : Res :=
  .next (s.withWrite r R.TICK_RS_CFG (fun s => s.writeRsCfg (setBit value 30)))

/-- STREAM_REWIND: a write to TICK_RS_IDX names the next segment delivered (R441). -/
def execStreamRewind (r : Req) (index : Nat) (s : State) : Res :=
  .next (s.withWrite r R.TICK_RS_IDX (fun s => s.updStream (s.get F.TICK_RS_SEL_STREAM) (fun x => { x with index := index % 2 ^ 32 })))

end Sys2Proof.Machine
end

