-- ==== Sys2Proof/Machine/Journal.lean ====
section
/-! DEFINITION. The Ember store and the journal ring (ch. 13): operation pairs, records and their bytes, acceptance, credit, the ring,
the lost list, failed units, option copies. -/

namespace Sys2Proof.Machine

/-- Change a volume's entries. -/
def State.vol (s : State) (v : Nat) : Vol := Tab.getD s.bel.vols v {}
def State.updVol (s : State) (v : Nat) (f : Vol → Vol) : State :=
  s.updBel (fun b => { b with vols := Tab.upd b.vols v {} f })

/-! ### Record bytes (R364, R366, R457) -/

/-- The 56 bytes of an index change. -/
def IdxChange.bytes (c : IdxChange) : Bytes :=
  [BitVec.ofNat 8 c.op, BitVec.ofNat 8 c.half] ++ leBytes 2 c.domain ++ leBytes 4 c.refcnt ++ leBytes 8 c.location ++
  slice c.fp 0 32 ++ leBytes 8 c.gen

/-- The 32 bytes of a map entry (R249). -/
def MapEntry.bytes (e : MapEntry) : Bytes := leBytes 8 e.loc ++ leBytes 8 e.seq ++ leBytes 12 e.fp ++ leBytes 2 e.flags ++ zeroBytes 2

/-- The 56 bytes of a map change. -/
def MapChange.bytes (c : MapChange) : Bytes := leBytes 8 c.vol ++ leBytes 8 c.lba ++ c.entry.bytes ++ zeroBytes 8

/-- The 48 bytes of an OWNER record's body. -/
def OwnerBody.bytes (o : OwnerBody) : Bytes :=
  [BitVec.ofNat 8 o.op, BitVec.ofNat 8 o.src, BitVec.ofNat 8 o.dst, BitVec.ofNat 8 o.halves] ++ leBytes 4 o.epoch ++
  leBytes 8 o.floor ++ leBytes 4 o.delay ++ leBytes 4 o.gran ++ leBytes 8 o.tb ++ zeroBytes 16

/-- BODY (R365). -/
def JRec.body0 (r : JRec) : Nat :=
  match r.body with
  | .index cs => 1 + cs.length
  | .map cs => 1 + cs.length
  | .stripe _ => 7
  | _ => 1

/-- Lines of the ring a record takes (R371). -/
def JRec.lines (r : JRec) : Nat := 1 + r.body0

/-- The body data after the digest, BODY × 56 − 8 bytes. -/
def JRec.data (r : JRec) : Bytes :=
  slice (match r.body with
    | .none => []
    | .index cs => zeroBytes 48 ++ cs.flatMap IdxChange.bytes
    | .map cs => zeroBytes 48 ++ cs.flatMap MapChange.bytes
    | .stripe b => b
    | .owner o => o.bytes) 0 (r.body0 * 56 - 8)

/-- Cut bytes into lines of 56, each with eight zero bytes after it. -/
def lines56 : Nat → Bytes → Bytes
  | 0, _ => []
  | n + 1, b => slice b 0 56 ++ zeroBytes 8 ++ lines56 n (b.drop 56)

/-- A record's header and body lines as they stand in the ring. -/
def JRec.bytes (r : JRec) : Bytes :=
  leBytes 8 r.seq ++ leBytes 8 r.atime ++
  [BitVec.ofNat 8 r.type, BitVec.ofNat 8 (r.body0 % 16 + 16 * b2n r.mirror + 32 * r.origin), BitVec.ofNat 8 (r.vol / 256 % 64),
   BitVec.ofNat 8 r.lap] ++
  leBytes 4 r.len ++ leBytes 8 r.lba ++ leBytes 8 r.loc ++ [BitVec.ofNat 8 r.vol] ++ zeroBytes 7 ++ slice r.pdig 0 8 ++
  leBytes 8 (Nat.xor r.seq 0x5A5A5A5A5A5A5A5A) ++ lines56 r.body0 (slice r.pdig 8 8 ++ r.data)

/-- The body data without its line padding. -/
def unlines : Nat → Bytes → Bytes
  | 0, _ => []
  | n + 1, b => slice b 0 56 ++ unlines n (b.drop 64)

/-- An index change, a map entry and an OWNER body from their bytes. -/
def IdxChange.ofBytes (b : Bytes) : IdxChange :=
  { op := leAt b 0 1, half := leAt b 1 1, domain := leAt b 2 2, refcnt := leAt b 4 4, location := leAt b 8 8, fp := slice b 16 32,
    gen := leAt b 48 8 }
def MapEntry.ofBytes (b : Bytes) : MapEntry := { loc := leAt b 0 8, seq := leAt b 8 8, fp := leAt b 16 12, flags := leAt b 28 2 }
def MapChange.ofBytes (b : Bytes) : MapChange := { vol := leAt b 0 8, lba := leAt b 8 8, entry := MapEntry.ofBytes (slice b 16 32) }
def OwnerBody.ofBytes (b : Bytes) : OwnerBody :=
  { op := leAt b 0 1, src := leAt b 1 1, dst := leAt b 2 1, halves := leAt b 3 1, epoch := leAt b 4 4, floor := leAt b 8 8,
    delay := leAt b 16 4, gran := leAt b 20 4, tb := leAt b 24 8 }

/-- A record read back from its header and body lines, as the partner receives it. -/
def JRec.ofBytes (b : Bytes) : JRec :=
  let type := leAt b 16 1
  let rfl := leAt b 17 1
  let n := rfl % 16
  let all := unlines n (b.drop 64)
  let d := all.drop 8
  let change (i : Nat) := slice d (48 + 56 * i) 56
  { seq := leAt b 0 8, atime := leAt b 8 8, type, mirror := bit rfl 4, origin := bits rfl 5 1,
    vol := leAt b 18 1 % 64 * 256 + leAt b 40 1, lap := leAt b 19 1, len := leAt b 20 4, lba := leAt b 24 8, loc := leAt b 32 8,
    pdig := slice b 48 8 ++ slice all 0 8
    body := match type with
      | 3 => .index ((List.range (n - 1)).map (fun i => IdxChange.ofBytes (change i)))
      | 4 => .map ((List.range (n - 1)).map (fun i => MapChange.ofBytes (change i)))
      | 5 => .stripe (slice d 0 320)
      | 7 => .owner (OwnerBody.ofBytes d)
      | _ => .none }

/-- What names a record: MIRROR, ORIGIN and SEQ. -/
def JRec.is (r : JRec) (mirror : Bool) (origin seq : Nat) : Bool := r.mirror == mirror && r.origin == origin && r.seq == seq

/-- The key of a record's staged payload. -/
def recKey (mirror : Bool) (origin seq : Nat) : Nat := (seq * 2 + origin) * 2 + b2n mirror
def JRec.key (r : JRec) : Nat := recKey r.mirror r.origin r.seq

/-- A record of the ring. -/
def State.rec? (s : State) (mirror : Bool) (origin seq : Nat) : Option JRec := s.jnl.recs.find? (fun r => r.is mirror origin seq)

/-! ### The ring (R371, R372) -/

/-- Lines in all. -/
def ringLines : Nat := 393216

/-- Free lines. -/
def State.freeLines (s : State) : Nat := ringLines - s.jnl.recs.foldl (fun n r => n + r.lines) 0

/-- The unit accepts only what lets records retire (R372). -/
def State.jnlStopped (s : State) : Bool := s.freeLines ≤ s.get F.JNL_CTL_LOW

/-- The oldest record by position, and its line (R371). -/
def State.tailRec (s : State) : Option JRec :=
  s.jnl.recs.foldl (fun (best : Option JRec) r =>
    let pos (x : JRec) := (x.line + 2 * ringLines - s.jnl.head) % ringLines
    match best with
    | some b => if pos r < pos b then some r else best
    | none => some r) none

/-- Show the ring in JNL_STS and JNL_PTR; STOP becoming 1 is reported (R372). -/
def State.showJnl (s : State) : State :=
  if !s.getb F.JNL_STS_READY then s
  else
    let stop := s.jnlStopped
    let rose := stop && !s.getb F.JNL_STS_STOP
    let s := (s.setb F.JNL_STS_STOP stop).set F.JNL_STS_FREE s.freeLines
    let s := (s.set F.JNL_STS_LAP s.jnl.lap).set F.JNL_PTR_HEAD (s.jnl.head % ringLines)
    let s := s.set F.JNL_PTR_TAIL (match s.tailRec with
      | some r => r.line
      | none => s.jnl.head % ringLines)
    if rose then (s.setb F.JNL_ERR_STOP true).recordMs 0x0A05 [] else s

/-- Where `n` consecutive lines at the head start, with the LAP there (R371). -/
def State.place (s : State) (n : Nat) : Option (Nat × Nat) :=
  let h := s.jnl.head
  let clash (a : Nat) := s.jnl.recs.any (fun r => a < r.line + r.lines && r.line < a + n)
  if h + n ≤ ringLines then (if clash h then none else some (h, s.jnl.lap))
  else if s.jnl.recs.any (fun r => h ≤ r.line) || clash 0 then none
  else some (0, (s.jnl.lap + 1) % 256)

/-! ### Acceptance (R368, R370) -/

/-- Records R372 holds while STOP is 1. -/
def JRec.held (r : JRec) : Bool := r.mirror || r.type == 1 || r.type == 2

/-- A waiting record can be accepted: recovery has ended, STOP lets it, its sequence can be issued and the ring has its lines. -/
def State.canAccept (s : State) (r : JRec) : Bool :=
  s.getb F.JNL_STS_READY && !(s.jnlStopped && r.held) && (r.seq != 0 || s.seqReady s.now) && (s.place r.lines).isSome

/-- The head's mirror state is Mirrored (R115): in Duplex, and in Banked entered from it. -/
def State.mirrored (s : State) : Bool := s.md == mDuplex || (s.md == mBanked && s.mode.bankedFrom == mDuplex)

/-- The digests a message carries: 16 bytes for each granule. -/
def granuleDigests : Nat → Bytes → Bytes
  | 0, _ => []
  | n + 1, b => (sha256 (b.take 4096)).take 16 ++ granuleDigests n (b.drop 4096)

/-- The grates the frames of a mirror message take. -/
def mirGrates (body : Bytes) : Nat := gratesFor (body.length + 32)

/-- Mirror messages whose frames have their MIRO grates are sent, in order (R27, R29). -/
def State.pumpMir (s : State) : State :=
  s.crl.mirOut.foldl (fun s m =>
    if s.crl.mirOut.head? == some m && s.holdsAll m.1 (mirGrates m.2.2) then
      (s.updCrl (fun c => { c with mirOut := c.mirOut.drop 1 })).crlSend 0 m.2.1 m.2.2 none (some m.1)
    else s) s

/-- A mirror message takes MIRO grates for its frames and is sent once it holds them. -/
def State.mirQueue (s : State) (mtype : Nat) (body : Bytes) (atime : Nat) : State :=
  let u := mirUser s.bel.nextId
  let s := s.updBel (fun b => { b with nextId := b.nextId + 1 })
  ((s.updCrl (fun c => { c with mirOut := c.mirOut ++ [(u, mtype, body)] })).requestN { chan := 3, user := u, atime } (mirGrates body)).pumpMir

/-- The MIRO grates of mirror messages are free once no frame of theirs waits to be sent or acknowledged (R27). -/
def State.freeMir (s : State) : State :=
  let busy (u : Nat) := (s.crl.txq ++ s.crl.replay).any (fun f => f.user == some u) || s.crl.mirOut.any (fun m => m.1 == u)
  ((s.pool.held.filter (fun e => e.2.chan == 3 && e.2.user % 8 == 3 && !busy e.2.user)).map (·.1)).foldl State.freeGrateOf s

/-- Send a record to the partner (R407, R412): a WRITE as MIR_DATA, or as MIR_REF when the partner forwarded it and holds its payload;
any other as MIR_REC. The head waits for its MCOMMIT; `fails` are the compare failures so far (R410). -/
def State.mirrorSend (s : State) (r : JRec) (fails : Nat) : State :=
  let s := s.updCrl (fun c => { c with mirWait := Tab.put c.mirWait r.key { sentAt := s.cyc, fails } })
  if r.type != 1 then s.mirQueue 2 r.bytes r.atime
  else match (s.bel.cmds.find? (fun c => c.id == r.tag)).bind (·.foreign) with
    | some tag => s.mirQueue 3 (r.bytes ++ leBytes 8 tag) r.atime
    | none =>
      let p := Tab.getD s.jnl.staging r.key []
      s.mirQueue 1 (r.bytes ++ granuleDigests (r.len / 4096) p ++ p) r.atime

/-- Accept a record: it takes its sequence, AT and digest where the poster gave none, and its lines; the head's own are mirrored
(R407). -/
def State.accept (s : State) (r : JRec) : State :=
  match s.place r.lines with
  | none => s
  | some (line, lap) =>
    let own := r.seq == 0
    let seq := if own then s.nextSeq s.now else r.seq
    let s := if own then s.takeSeq s.now else s
    let pdig := if r.type == 1 || r.mirror then r.pdig else (sha256 r.data).take 16
    let r := { r with seq, line, lap, pdig, atime := if own then s.now else r.atime }
    let s := s.updJnl (fun j => { j with recs := j.recs ++ [r], head := line + r.lines, lap })
    if !r.mirror && r.origin == s.head && s.session && s.mirrored then s.mirrorSend r 0 else s

/-- Remove the first occurrence of a record. -/
def dropRec (r : JRec) : List JRec → List JRec
  | [] => []
  | x :: xs => if x == r then xs else x :: dropRec r xs

/-- Accept every waiting record that can be, oldest first. -/
def State.acceptWaiting (s : State) : State :=
  (s.jnl.waiting.foldl (fun s r =>
    if s.canAccept r then (s.updJnl (fun j => { j with waiting := dropRec r j.waiting })).accept r else s) s).showJnl

/-- Post a record to the journal unit. -/
def State.postRec (s : State) (r : JRec) : State :=
  (s.updJnl (fun j => { j with waiting := j.waiting ++ [r] })).acceptWaiting

/-- A fresh tag for a record. -/
def State.freshTag (s : State) : State := s.updJnl (fun j => { j with nextTag := j.nextTag + 1 })

/-! ### Credit (R361) -/

/-- The bucket refilled to the present: 3.84 bytes per ns, 4,096 bytes at most. -/
def State.creditNow (s : State) : Nat := min 40960 (s.jnl.credit + 384 * (s.cyc - s.jnl.creditAt))

/-- Spend the credit of `units` unit writes. -/
def State.spend (s : State) (units : Nat) : State :=
  let c := s.creditNow
  s.updJnl (fun j => { j with credit := c - 160 * units, creditAt := s.cyc })

/-- There is credit for `units` unit writes. -/
def State.hasCredit (s : State) (units : Nat) : Bool := 160 * units ≤ s.creditNow

/-- A record waits for credit. -/
def State.throttle (s : State) : State := (s.setb F.JNL_ERR_THROTTLE true).recordMs 0x0A06 []

/-! ### Removing and moving records (R373, R375) -/

/-- The record's commit word is zeroed by one unit write (R361, R375): it no longer exists, and waiting records may find room. -/
def State.eraseRec (s : State) (r : JRec) : State :=
  (((s.spend 1).updJnl (fun j => { j with recs := j.recs.filter (fun x => !x.is r.mirror r.origin r.seq), staging := Tab.del j.staging r.key })).inc
    F.JNL_RETIRED_COUNT 1).acceptWaiting

/-- RECORD_RELOCATE: the live record at the tail is written and committed at the head and its old commit word zeroed (R373). -/
def execRecordRelocate (s : State) : Res :=
  .next (if s.getb F.JNL_CTL_RELOC_EN && s.getb F.JNL_STS_READY && s.freeLines < 2 * s.get F.JNL_CTL_LOW then
    match s.tailRec with
    | none => s
    | some r =>
      match s.place r.lines with
      | none => s
      | some (line, lap) =>
        if !r.committed then s
        else if !s.hasCredit (4 * r.lines + 1) then s.throttle
        else
          let s := s.spend (4 * r.lines + 1)
          let s := s.updJnl (fun j => { j with
            recs := j.recs.map (fun x => if x.is r.mirror r.origin r.seq then { x with line, lap } else x)
            head := line + r.lines, lap })
          (s.incSat F.JNL_RELOC_CNT_COUNT 1).showJnl
  else s)

/-! ### The lost list (R380) -/

/-- Raise a volume's loss-table entry. -/
def State.raiseLoss (s : State) (v q : Nat) : State := s.updVol v (fun x => { x with loss := max x.loss q })

/-- A granule whose map entry carries `seq` reads as unrecoverable. -/
def State.isLost (s : State) (v lba seq : Nat) : Bool :=
  seq ≤ (s.vol v).loss && (s.vol v).loss != 0 ||
  s.jnl.lost.any (fun e => e.2.vol == v && e.2.first ≤ lba && lba < e.2.first + e.2.count && seq ≤ e.2.seq)

/-- The volume with the most entries among `es`, the lower index on a tie. -/
def mostLost (es : List LostEntry) : Option Nat :=
  (es.foldl (fun (best : Option (Nat × Nat)) e =>
    let n := es.countP (fun x => x.vol == e.vol)
    match best with
    | some (v, m) => if m < n || (m == n && e.vol < v) then some (e.vol, n) else best
    | none => some (e.vol, n)) none).map (·.1)

/-- The lowest free entry of the lost list. -/
def freeLost (t : Tab LostEntry) : Nat → Nat → Option Nat
  | 0, _ => none
  | n + 1, i => if (Tab.find t i).isNone then some i else freeLost t n (i + 1)

/-- Enter a loss, merging the volume with the most entries when the list is full. -/
def State.addLost (s : State) (e : LostEntry) : State :=
  let put (s : State) : State :=
    match freeLost s.jnl.lost 8192 0 with
    | some i => s.updJnl (fun j => { j with lost := Tab.put j.lost i e })
    | none => s
  let s :=
    if s.jnl.lost.length < 8192 then put s
    else
      let es := s.jnl.lost.map (·.2) ++ [e]
      match mostLost es with
      | none => s
      | some v =>
        let q := es.foldl (fun m x => if x.vol == v then max m x.seq else m) 0
        let s := (s.raiseLoss v q).updJnl (fun j => { j with lost := Tab.keep j.lost (fun _ x => x.vol != v) })
        let s := s.recordMs 0x0A09 []
        if e.vol == v then s else put s
  (s.setb F.JNL_ERR_LOST true).recordMs 0x0A02 (w1 e.vol ++ w2 e.first ++ w2 e.seq)

/-- Format and Sanitize clear a volume's losses. -/
def State.clearLost (s : State) (v : Nat) : State :=
  (s.updVol v (fun x => { x with loss := 0 })).updJnl (fun j => { j with lost := Tab.keep j.lost (fun _ x => x.vol != v) })

/-! ### Failed units (R360, R363) -/

/-- A volume is suspended until its configuration, size and policy word are written again. -/
def State.suspend (s : State) (v : Nat) : State := s.updVol v (fun x => { x with susp := 7 })

/-- The SVN of an image header (R499). -/
def imageSvn (h : Bytes) : Nat := leAt h 8 4

/-- A register of the RWE backing takes its value for an Ember that holds none, KDL_MIN_SVN the booted image's SVN and TICK_FLOOR the
highest AT in the Soot log. -/
def State.loseRwe (s : State) (a : Nat) : State :=
  if a == R.KDL_MIN_SVN then s.set F.KDL_MIN_SVN_SVN (match s.kdl.image with
    | some h => imageSvn h
    | none => 0)
  else if a == R.TICK_FLOOR then s.set F.TICK_FLOOR_AT (s.soot.log.foldl (fun m r => max m r.2.atime) 0)
  else match regAt a with
    | none => s
    | some r => (r.fields.filter (fun f => f.access == .rwe)).foldl (fun s f =>
        let fld : Fld := ⟨a, f.lo, f.width⟩
        s.set fld (Tab.getN resetFields fld.key)) s

/-- The power-cycle count and operating time take the highest STAMP of the Soot log. -/
def State.loseStamp (s : State) : State :=
  let m := s.soot.log.foldl (fun m r => max m r.2.stamp) 0
  { s with soot := { s.soot with cyclesE := m / 2 ^ 40, cycles := m / 2 ^ 40, opTimeE := m % 2 ^ 40, opTime := m % 2 ^ 40 } }

/-- Both copies of the unit at offset `o` of the failover state fail. `held` names what the unit of the register backing held, by
register address, with 1 for the power-cycle count and operating time and 2 for the arm count (R362 gives that area no layout); for the
lost list it is not empty when the entry's other unit fails in both copies too. -/
def State.loseUnit (s : State) (o : Nat) (held : List Nat) : State :=
  let top := s.bel.seqMax
  if 0x1000 ≤ o && o < 0x21000 then (List.range 4).foldl (fun s i => s.suspend ((o - 0x1000) % 0x10000 / 16 * 4 + i)) s
  else if 0x83000 ≤ o && o < 0xA3000 then (List.range 2).foldl (fun s i => s.suspend ((o - 0x83000) / 16 * 2 + i)) s
  else if 0x21000 ≤ o && o < 0x22000 then
    held.foldl (fun s a =>
      if a == 1 then s.loseStamp
      else if a == 2 then (s.updTick (fun t => { t with armCount := s.freeValue.toNat % 2 ^ 48 })).taken 1
      else s.loseRwe a) s
  else if 0x23000 ≤ o && o < 0x63000 then
    let i := (o - 0x23000) / 32
    let drop (s : State) := s.updJnl (fun j => { j with lost := Tab.del j.lost i })
    match Tab.find s.jnl.lost i with
    | none => if held.isEmpty then s else s.updBel (fun b => { b with vols := Tab.mapVals b.vols (fun _ v =>
        if v.present then { v with loss := max v.loss top } else v) })
    | some e =>
      if !held.isEmpty then drop (s.updBel (fun b => { b with vols := Tab.mapVals b.vols (fun _ v =>
        if v.present then { v with loss := max v.loss top } else v) }))
      else if o / 16 % 2 == 0 then drop (s.raiseLoss e.vol e.seq)
      else drop (s.raiseLoss e.vol top)
  else if 0x63000 ≤ o && o < 0x83000 then
    (List.range 2).foldl (fun s i => s.updVol ((o - 0x63000) / 16 * 2 + i) (fun v => { v with loss := top })) s
  else s

/-- An entry of an operation pair fails its check; a pair never written has none to lose. -/
def State.losePair (s : State) (k : Nat) (second : Bool) : State :=
  match Tab.find s.jnl.pairs k with
  | none => s
  | some p => s.updJnl (fun j => { j with pairs := Tab.put j.pairs k (if second then { p with e1 := none } else { p with e0 := none }) })

/-- EMBER_ECC_ERROR: a read of the unit at `addr` meets an error (R360). `both` says the shadow's unit fails too (R363), `held` what
`State.loseUnit` needs to be told. -/
def execEmberEccError (addr : Nat) (unc both : Bool) (held : List Nat) (s : State) : Res :=
  .next (if !unc then s.incSat F.JNL_ECC_CNT_COUNT 1
  else
    let report (s : State) := (s.setb F.JNL_ERR_ECC_UNC true).recordMs 0x0A04 (w1 addr)
    if addr < 0x2000 then s.updJnl (fun j => { j with opt := if addr % 0x1000 < 256 then Tab.del j.opt (addr / 0x1000) else j.opt })
    else if addr < 0x3000 then s.losePair ((addr - 0x2000) / 128) ((addr - 0x2000) / 64 % 2 == 1)
    else if addr < 0x4000 then if addr < 0x3100 then s.losePair 32 (addr ≥ 0x3080) else s
    else if 0x100000 ≤ addr && addr < 0x300000 then
      { s with soot := { s.soot with log := Tab.del s.soot.log ((addr - 0x100000) / 64) } }
    else if 0x300000 ≤ addr && addr < 0x400000 then
      let o := addr - 0x300000
      let s := report s
      if o < 0x80 then s.losePair 33 (o ≥ 0x40)
      else if 0x22000 ≤ o && o < 0x22080 then s.losePair 34 (o ≥ 0x22040)
      else if both then s.loseUnit o held
      else s
    else if 0x400000 ≤ addr && addr < 0x1C00000 then
      let line := (addr - 0x400000) / 64
      (report s).updJnl (fun j => { j with recs := j.recs.map (fun r =>
        if r.line ≤ line && line < r.line + r.lines then { r with bad := true } else r) })
    else s)

/-! ### Option bytes (R381, R382) -/

/-- A copy is valid. -/
def optValid (b : Bytes) : Bool :=
  b.length == 256 && leAt b 0 4 == 0x4F505442 && leAt b 4 2 == 1 && leAt b 252 4 == crc32c (b.take 252)

/-- The option bytes staged in JNL_OPT_DATA. -/
def State.optStaged (s : State) : Bytes := (List.range 64).flatMap (fun w => leBytes 4 (s.get (F.JNL_OPT_DATA_DATA w)))

/-- A refused option write. -/
def State.optRefused (s : State) (result : Nat) : State := (s.set F.JNL_OPT_CMD_RESULT result).setb F.JNL_ERR_OPT_FAIL true

/-- GO of JNL_OPT_CMD. `fails` says an Ember write failed. -/
def State.optWrite (s : State) (fails : Bool) : State :=
  let b := s.optStaged
  if s.md != mSweep then s.optRefused 1
  else if !(leAt b 0 4 == 0x4F505442 && leAt b 4 2 == 1) then s.optRefused 2
  else
    let n := 1 - s.get F.JNL_OPT_STS_CUR
    let valid (s : State) (v : Bool) := s.setb (if n == 1 then F.JNL_OPT_STS_VALID1 else F.JNL_OPT_STS_VALID0) v
    if fails then (valid (s.updJnl (fun j => { j with opt := Tab.del j.opt n })) false).set F.JNL_OPT_CMD_RESULT 3
    else
      let u := (leAt s.jnl.cur 8 4 + 1) % 2 ^ 32
      let b := patch b 8 (leBytes 4 u)
      let b := b.take 252 ++ leBytes 4 (crc32c (b.take 252))
      let s := (valid (s.updJnl (fun j => { j with opt := Tab.put j.opt n b })) true).setb F.JNL_OPT_STS_PEND true
      (s.set F.JNL_OPT_CMD_RESULT 0).recordMs 0x0A07 (w1 u)

/-- OPTION_WRITE: a write to JNL_OPT_CMD; GO is bit 31. It ends at once. `fails` says an Ember write failed. -/
def execOptionWrite (r : Req) (value : Nat) (fails : Bool) (s : State) : Res :=
  .next (s.withWrite r R.JNL_OPT_CMD (fun s => if bit value 31 then s.optWrite fails else s))

/-- Insert by sequence. -/
def insertRec (x : JRec) : List JRec → List JRec
  | [] => [x]
  | y :: ys => if x.seq < y.seq then x :: y :: ys else y :: insertRec x ys

/-- Records in the order of their sequences. -/
def bySeq (rs : List JRec) : List JRec := rs.foldl (fun l r => insertRec r l) []

end Sys2Proof.Machine
end

