-- ==== Sys2Proof/Machine/Snoop.lean ====
section
/-! DEFINITION. Device-side access to the Grate windows of the host ports (R51-R53): the snoop filter, back-invalidation, poisoned lines. A
window is a range of DDR; a line of it is named by its number within the window. -/

namespace Sys2Proof.Machine

/-- The lines some bytes of a window cover. -/
def linesIn (off len : Nat) : List Nat := (List.range ((off + len + 63) / 64 - off / 64)).map (fun i => off / 64 + i)

/-- The lines a host may hold. -/
def State.tracked (s : State) (p line : Nat) : Bool := (s.port p).filter.contains line

/-- A device-side read may use a line: the host does not hold it, or has answered its BISnpData; and no device-side write of it waits. -/
def State.readable (s : State) (p line : Nat) : Bool :=
  (!s.tracked p line || (s.port p).clean.contains line) &&
  !(s.port p).devq.any (fun w => (linesIn w.off w.bytes.length).contains line)

/-- Send the BISnp a device-side access needs of a line, unless one is in flight, which the access then waits on. -/
def State.snoop (s : State) (p : Nat) (inv : Bool) (line : Nat) : State :=
  if !s.tracked p line then s
  else if (s.port p).snoops.any (fun x => x.line == line) then
    s.updPort p (fun h => { h with snoops := h.snoops.map (fun x => if x.line == line then { x with rd := x.rd || !inv, wr := x.wr || inv } else x) })
  else (s.updPort p (fun h => { h with snoops := h.snoops ++ [{ line, inv, sentAt := s.cyc, rd := !inv, wr := inv }] })).emit (.bisnp p line inv)

/-- The lines a device-side read still needs are snooped with BISnpData. -/
def State.askRead (s : State) (p : Nat) (lines : List Nat) : State :=
  (lines.filter (fun l => !(s.port p).clean.contains l)).foldl (fun s l => s.snoop p false l) s

/-- The read of some lines is made: the answers to their snoops are used up. -/
def State.usedLines (s : State) (p : Nat) (lines : List Nat) : State :=
  s.updPort p (fun h => { h with clean := h.clean.filter (fun l => !lines.contains l) })

/-- DDR returned an uncorrectable error for a line: it is poisoned (R53). -/
def State.spoil (s : State) (p line : Nat) : State :=
  s.updPort p (fun h => { h with poison := if h.poison.contains line then h.poison else line :: h.poison })

/-- Bytes of the window as its DDR backing holds them, and whether one of their lines is poisoned. -/
def State.winBytes (s : State) (p off len : Nat) : Bytes := Tab.readBytes s.ddr ((s.port p).backing + off) len
def State.poisoned (s : State) (p : Nat) (lines : List Nat) : Bool :=
  lines.any (fun l => (s.port p).poison.contains l || s.ddrPoison ((s.port p).backing + 64 * l) 64)

/-- A device-side read of lines: made when they are readable, otherwise the snoops are sent and it waits. `ecc` says that DDR returns an
uncorrectable error for the first of them (R53). -/
def State.withLines (s : State) (p : Nat) (lines : List Nat) (ecc : Bool) (eff : State → State) : State :=
  if lines.all (s.readable p) then
    let s := lines.foldl (fun s l => s.extRead ((s.port p).backing + 64 * l) 64) (s.usedLines p lines)
    eff (match ecc, lines with
      | true, l :: _ => s.spoil p l
      | _, _ => s)
  else s.askRead p lines

/-- Bytes written to the DDR backing by the device. -/
def State.putWin (s : State) (p off : Nat) (b : Bytes) : State := s.ddrWrite ((s.port p).backing + off) b

/-- Make the waiting device-side writes that can be made, in order; the first that cannot has its lines snooped with BISnpInv. -/
def State.pumpWrites (p : Nat) : Nat → State → State
  | 0, s => s
  | n + 1, s =>
    match (s.port p).devq with
    | [] => s
    | w :: ws =>
      let lines := linesIn w.off w.bytes.length
      if lines.any (s.tracked p) then lines.foldl (fun s l => s.snoop p true l) s
      else
        let s := (s.updPort p (fun h => { h with devq := ws })).putWin p w.off w.bytes
        State.pumpWrites p n (match w.irq with
          | some v => s.irq p v
          | none => s)

/-- A device-side write of window bytes: made at once or in its turn once the host holds none of its lines (R51). -/
def State.devWrite (s : State) (p off : Nat) (b : Bytes) (irq : Option Nat := none) : State :=
  let s := s.updPort p (fun h => { h with devq := h.devq ++ [{ off, bytes := b, irq }] })
  s.pumpWrites p (s.port p).devq.length

/-! ### DDR by its addresses (R51, R176, R535)

A range of DDR may lie in the window of either port; an agent that reaches it by its DDR addresses is checked against that port's filter. -/

/-- The window lines of a range that a host may hold, that answered, and that a device-side write waits for. -/
def State.heldLines (s : State) (p a len : Nat) : List Nat := (s.port p).linesAt (s.port p).filter a len
def State.writesWait (s : State) (p a len : Nat) : Bool :=
  (s.port p).devq.any (fun w => (s.port p).backing + w.off < a + len && a < (s.port p).backing + w.off + w.bytes.length)

/-- A range can be read: no host holds a line of it that has not answered its BISnpData. -/
def State.ddrReadable (s : State) (a len : Nat) : Bool :=
  [0, 1].all (fun p => (s.heldLines p a len).all (s.readable p) && !s.writesWait p a len)
def State.ddrAsk (s : State) (a len : Nat) : State := [0, 1].foldl (fun s p => s.askRead p (s.heldLines p a len)) s

/-- A range can be written: no host holds a line of it. -/
def State.ddrWritable (s : State) (a len : Nat) : Bool := [0, 1].all (fun p => (s.heldLines p a len).isEmpty && !s.writesWait p a len)
def State.ddrClaim (s : State) (a len : Nat) : State :=
  [0, 1].foldl (fun s p => (s.heldLines p a len).foldl (fun s l => s.snoop p true l) s) s

/-- The read of a range is made: the snoops' answers are used up, and the merging buffer's entries of its lines are in DDR first (R277). -/
def State.ddrLook (s : State) (a len : Nat) : State :=
  ([0, 1].foldl (fun s p => s.usedLines p (s.heldLines p a len)) s).extRead a len

/-- Where a range first meets a line that is poisoned, in a window or by the Index cache: its offset in the range. -/
def State.ddrBad (s : State) (a len : Nat) : Option Nat :=
  ((((s.port 0).linesAt (s.port 0).poison a len).map (fun l => (s.port 0).backing + 64 * l - a) ++
    ((s.port 1).linesAt (s.port 1).poison a len).map (fun l => (s.port 1).backing + 64 * l - a)) ++
    ((linesOf a len).filter s.ich.poisoned.contains).map (fun l => 256 * l - a)).min?

/-- One access of another agent: made when the filter lets it, otherwise the snoops are sent. Answers whether it was made. -/
def State.agentAccess (s : State) (x : Nat × Nat × Option Bytes) : State × Bool :=
  match x.2.2 with
  | none =>
    if s.ddrReadable x.1 x.2.1 then
      let s := s.ddrLook x.1 x.2.1
      (s.emit (.agentData x.1 (if (s.ddrBad x.1 x.2.1).isSome then none else some (Tab.readBytes s.ddr x.1 x.2.1))), true)
    else (s.ddrAsk x.1 x.2.1, false)
  | some b => if s.ddrWritable x.1 b.length then (s.ddrWrite x.1 b, true) else (s.ddrClaim x.1 b.length, false)

/-- The accesses that waited are tried again, oldest first. -/
def State.pumpAgents (s : State) : State :=
  s.agentq.foldl (fun s x =>
    let r := s.agentAccess x
    if r.2 then r.1 else { r.1 with agentq := r.1.agentq ++ [x] }) { s with agentq := [] }

/-- Another agent reaches DDR: at once, or when the host has answered. -/
def State.agentGo (s : State) (x : Nat × Nat × Option Bytes) : State :=
  let r := s.agentAccess x
  if r.2 then r.1 else { r.1 with agentq := r.1.agentq ++ [x] }

/-- DDR answers agents: one of its channels is released. -/
def State.ddrUp (s : State) : Bool := s.released dDdrA || s.released dDdrB

/-- EXT_AGENT_READ: an agent other than the dedup index control, Hearth among them, reads `len` bytes of DDR (R277, R535). -/
def execExtAgentRead (addr len : Nat) (s : State) : Res := .next (if s.ddrUp then s.agentGo (addr, len, none) else s)

/-- EXT_AGENT_WRITE: such an agent writes `data` at `addr` (R278, R279, R535). -/
def execExtAgentWrite (addr : Nat) (data : Bytes) (s : State) : Res :=
  .next (if s.ddrUp then s.agentGo (addr, data.length, some data) else s)

end Sys2Proof.Machine
end

