-- ==== Sys2Proof/Machine/Complete.lean ====
section
/-! DEFINITION. Host commands in flight and how they complete: into an NVMe completion queue (R110), into a window's completion ring
(R88), or back to the partner that forwarded them (R412). -/

namespace Sys2Proof.Machine

/-- A command in flight. -/
def State.cmd? (s : State) (id : Nat) : Option Cmd := s.bel.cmds.find? (·.id == id)

/-- Change a command. -/
def State.updCmd (s : State) (id : Nat) (f : Cmd → Cmd) : State :=
  s.updBel (fun b => { b with cmds := b.cmds.map (fun c => if c.id == id then f c else c) })

/-- Remove a command. -/
def State.dropCmd (s : State) (id : Nat) : State := s.updBel (fun b => { b with cmds := b.cmds.filter (·.id != id) })

/-- A port's controller, window, and their changes. -/
def State.ctrl (s : State) (p : Nat) : Ctrl := Tab.getD s.bel.ctrls p {}
def State.updCtrl (s : State) (p : Nat) (f : Ctrl → Ctrl) : State := s.updBel (fun b => { b with ctrls := Tab.upd b.ctrls p {} f })
def State.win (s : State) (p : Nat) : Window := Tab.getD s.wins p {}
def State.updWin (s : State) (p : Nat) (f : Window → Window) : State := { s with wins := Tab.upd s.wins p {} f }

/-- A submission queue's completion queue takes one more completion (R110): it waits there until it is posted. -/
def State.queueCqe (s : State) (p : Nat) (e : Cqe) : State :=
  match Tab.find (s.ctrl p).sqs e.sq with
  | none => s
  | some q =>
    s.updCtrl p (fun c => { c with cqs := Tab.upd c.cqs q.cq {} (fun x => { x with waiting := x.waiting ++ [{ e with sqHead := q.head }] }) })

/-- A completion ring takes one more entry (R89): it waits there until it is posted. -/
def State.queueRing (s : State) (p r : Nat) (e : RingCpl) : State :=
  s.updWin p (fun w => { w with ring := Tab.upd w.ring r {} (fun x => { x with waiting := x.waiting ++ [e] }) })

/-- How a command ends: its NVMe status code type and code, its window status, COUNT, whether the entry names its slot, and the data of a
forwarded read. -/
structure Ending where
  sct : Nat := 0
  sc : Nat := 0
  ring : Nat := 0
  count : Nat := 0
  slotValid : Bool := false
  data : Bytes := []

/-- A command completes and leaves the commands in flight. One whose completion is discarded (R71) only leaves; one the partner
forwarded answers with FWD_DONE. -/
def State.finishOne (s : State) (c : Cmd) (e : Ending) : State :=
  let s := s.dropCmd c.id
  if c.dead then s
  else match c.foreign with
    | some tag =>
      s.crlSend 3 0x28 (leBytes 8 tag ++ leBytes 8 c.seq ++ leBytes 2 (if c.ring then e.ring else e.sct * 256 + e.sc) ++ zeroBytes 6 ++ e.data)
    | none =>
      if c.ring then s.queueRing c.port c.queue
        { tag := c.cid, status := e.ring, notice := false, overrun := c.overrun, slotValid := e.slotValid, chead := c.chead, slot := c.slot,
          count := e.count, seq := c.seq, atime := c.atime, irq := c.irq }
      else s.queueCqe c.port { cid := c.cid, sq := c.queue, sqHead := 0, sct := e.sct, sc := e.sc, dw0 := 0 }

/-- A write-class command: it takes a journal sequence (R111). -/
def CmdKind.writes : CmdKind → Bool
  | .write | .dealloc | .writeZeroes => true
  | _ => false

/-- A Flush may complete (R118, R85): no earlier write-class command of its queue is in flight. -/
def State.flushReady (s : State) (c : Cmd) : Bool :=
  !s.bel.cmds.any (fun d => d.kind.writes && d.foreign.isNone && !d.dead && d.port == c.port && d.ring == c.ring && d.queue == c.queue && d.id < c.id)

/-- Complete every Flush that may complete. -/
def State.settleFlush (s : State) : State :=
  (s.bel.cmds.filter (fun c => c.kind == .flush && s.flushReady c)).foldl (fun s c => s.finishOne c {}) s

/-- A command completes, and the Flushes that waited for it. -/
def State.finish (s : State) (c : Cmd) (e : Ending) : State := (s.finishOne c e).settleFlush

/-- A command ends without a journal record: its grates are free again. -/
def State.abandon (s : State) (c : Cmd) (e : Ending) : State := (s.finish c e).freeUser (cmdUser c.id)

/-- The volume passes to the joiner in the hand-over that is on (R466). -/
def State.moving (s : State) (v : Nat) : Bool :=
  s.get F.AND_FB_TB_VALUE != 0 && (s.get F.AND_FB_CTL_STATE == 2 || s.get F.AND_FB_CTL_STATE == 3) &&
  (s.vol v).home == (if s.and.survivor then 1 - s.head else s.head)

/-- A command stamped `a` for volume `v` belongs to this head: it owns the volume, or in a hand-over owns that side of TB. -/
def State.belongs (s : State) (v a : Nat) : Bool :=
  if s.moving v then s.and.survivor == decide (a < s.get F.AND_FB_TB_VALUE) else (s.vol v).owner == s.head

/-- The dirty count (R119): the payload of the head's own writes from admission to the retirement of their records. -/
def State.dirty (s : State) : Nat :=
  s.bel.cmds.foldl (fun n c => if c.kind == .write && !c.posted && !c.away && (c.stage != .holding || s.belongs c.vol c.atime) then n + c.len else n) 0 +
  (s.jnl.recs ++ s.jnl.waiting).foldl (fun n r => if r.type == 1 && !r.mirror then n + r.len else n) 0

/-- A slot of a window enters a state with the given CODE and COUNT; its flag word in the window is written from the device copy
(R79-R81, R83). GEN rises when the slot leaves FREE or enters ABORT; FREE clears the other fields and puts the slot behind every slot
freed before. -/
def Flag.word (f : Flag) : Nat := f.state * 2 ^ 60 + f.gen % 256 * 2 ^ 52 + f.code * 2 ^ 44 + f.count % 2 ^ 24 * 2 ^ 16 + f.tag
def State.flag (s : State) (p slot : Nat) : Flag := Tab.getD (s.win p).flags slot {}
def State.writeFlag (s : State) (p slot : Nat) : State :=
  s.devWrite p (s.get (F.GRT_OFF_FLAG_OFFSET p) + 64 * slot) (leBytes 8 (s.flag p slot).word)
def State.setSlot (s : State) (p slot state code count tag : Nat) : State :=
  let old := s.flag p slot
  let up := (old.state == 0 && state != 0) || state == 6
  let f : Flag := if state == 0 then { gen := old.gen } else { state, gen := if up then (old.gen + 1) % 256 else old.gen, code, count, tag }
  let s := s.updWin p (fun w => { w with
    flags := Tab.put w.flags slot f
    freeOrder := if state == 0 && old.state != 0 then w.freeOrder ++ [slot] else w.freeOrder.filter (fun x => x != slot || state == 0)
    xrdyAt := if state == 2 then Tab.put w.xrdyAt slot s.cyc else Tab.del w.xrdyAt slot })
  s.writeFlag p slot

/-- A read fails (R20, R167, R380): Unrecovered Read Error or the given NVMe code; on a window ring the slot goes to FAULT with
UNRECOVERED_READ and the completion names it. One whose program no Stove can run ends with PGM_INVALID instead (R163); the spec names no CODE for
its slot's FAULT, and the model gives it the same code (log 132). -/
def State.failRead (s : State) (c : Cmd) (sct sc : Nat) (ring : Nat := 0x0B) : State :=
  let held := c.ring && c.foreign.isNone && c.stage != .waitSlot && c.stage != .holding && !c.dead
  let s := if held then s.setSlot c.port c.slot 7 ring 0 c.cid else s
  s.abandon c { sct, sc, ring, slotValid := held }

end Sys2Proof.Machine
end

