-- ==== Sys2Proof/Machine/Stove.lean ====
section
/-! DEFINITION. What every part of a Stove shares (ch. 05): strands and tickets, work items and how they are posted, strand faults and
fences. -/

namespace Sys2Proof.Machine

/-- A Stove, a strand, and their changes. -/
def State.stove (s : State) (n : Nat) : Stove := Tab.getD s.stoves n {}
def State.updStove (s : State) (n : Nat) (f : Stove → Stove) : State := { s with stoves := Tab.upd s.stoves n {} f }
def State.strand (s : State) (n k : Nat) : Strand := Tab.getD (s.stove n).strands k {}
def State.updStrand (s : State) (n k : Nat) (f : Strand → Strand) : State :=
  s.updStove n (fun v => { v with strands := Tab.upd v.strands k {} f })

/-- A general register (g0 reads zero) and a write of one (R171). -/
def Strand.reg (x : Strand) (i : BitVec 5) : W64 := if i = 0 then 0 else Tab.getD x.g i.toNat 0
def Strand.setReg (x : Strand) (i : BitVec 5) (v : W64) : Strand := if i = 0 then x else { x with g := Tab.put x.g i.toNat v }

/-- A descriptor register. -/
def Strand.desc (x : Strand) (i : BitVec 5) : Desc := Tab.getD x.d i.toNat {}

/-- A ticket entry; it is outstanding while its job is there. -/
def Strand.ticket (x : Strand) (e : Nat) : Ticket := Tab.getD x.tickets e {}
def Strand.updTicket (x : Strand) (e : Nat) (f : Ticket → Ticket) : Strand := { x with tickets := Tab.upd x.tickets e {} f }

/-- The lowest-numbered free ticket entry (R181). -/
def Strand.freeEntry (x : Strand) : Option Nat := (List.range 16).find? (fun e => !(x.ticket e).used)

/-- Entries in use, and whether every job has finished. -/
def Strand.outstanding (x : Strand) : Nat := (x.tickets.filter (fun e => e.2.job.isSome)).length
def Strand.allDone (x : Strand) : Bool := x.tickets.all (fun e => e.2.job.isNone)

/-- The program slot a strand runs from, and its PGM_ID. -/
def State.pslot (s : State) (n i : Nat) : PSlot := Tab.getD (s.stove n).pslots i {}
def State.runSlot (s : State) (n k : Nat) : PSlot := s.pslot n (s.strand n k).slot
def State.pgmOf (s : State) (n k : Nat) : Nat := (s.runSlot n k).pgm

/-- What a strand waits for has come (R140). -/
def State.waitOver (s : State) (x : Strand) : Bool :=
  match x.wait with
  | none => true
  | some (.ticket e) => (x.ticket e).job.isNone
  | some (.time t) => t ≤ s.now
  | some .entry => x.freeEntry.isSome
  | some .all => x.allDone

/-- The strand can issue an instruction (R140). -/
def State.strandReady (s : State) (n k : Nat) : Bool :=
  s.answers dStv && !(s.stove n).fenced && (s.strand n k).st == .running && s.waitOver (s.strand n k)

/-- The strands in rotation after the one that issued last (R140). -/
def Stove.rotation (v : Stove) : List Nat := (List.range 4).map (fun i => (v.turn + 1 + i) % 4)

/-- It is the strand's turn to issue: the first ready strand in rotation (R140). -/
def State.strandTurn (s : State) (n k : Nat) : Bool := (s.stove n).rotation.find? (s.strandReady n) == some k

/-- The word at a strand's PC in the program store. A word that no load has written is 0: the spec gives the store no reset contents (log 43). -/
def State.fetched (s : State) (n k : Nat) : W64 := Tab.getD (s.stove n).pstore (s.strand n k).pc 0

/-! ### Units (R145) -/

/-- The class of unit a job needs: 0 compressor lane, 1 decompressor lane, 2 digest lane, 3 parity unit, 4 DMA channel. The DMA front end carries
drive and Creterlink transfers too (R139). -/
def Job.unit : Job → Option Nat
  | .czOpen _ => some 0
  | .czDec _ _ => some 1
  | .dgAbs _ _ => some 2
  | .dgFin _ _ _ => some 2
  | .par _ _ => some 3
  | .cpy _ _ => some 4
  | .fill _ _ => some 4
  | .cmp _ _ => some 4
  | .drv _ => some 4
  | .crl _ _ => some 4
  | _ => none

/-! ### Work items (R148) -/

def WorkItem.pgm (w : WorkItem) : Nat := leAt w.bytes 0 2
def WorkItem.kind (w : WorkItem) : Nat := leAt w.bytes 2 1
def WorkItem.vol (w : WorkItem) : Nat := leAt w.bytes 4 2
def WorkItem.lba (w : WorkItem) : Nat := leAt w.bytes 8 8
def WorkItem.tag (w : WorkItem) : Nat := leAt w.bytes 32 4
def WorkItem.arg (w : WorkItem) : Nat := leAt w.bytes 56 8

/-- The 64 bytes of an item with REISSUE clear. -/
def itemBytes (pgm kind vol origin lba seq atime tag grate0 ngr glist arg : Nat) : Bytes :=
  leBytes 2 pgm ++ [BitVec.ofNat 8 kind, 0] ++ leBytes 2 vol ++ leBytes 2 origin ++ leBytes 8 lba ++ leBytes 8 seq ++ leBytes 8 atime ++
  leBytes 4 tag ++ zeroBytes 4 ++ leBytes 4 grate0 ++ leBytes 2 ngr ++ zeroBytes 2 ++ leBytes 8 glist ++ leBytes 8 arg

/-- The item with REISSUE set (R166). -/
def WorkItem.reissue (w : WorkItem) : WorkItem :=
  { w with bytes := patch w.bytes 3 [BitVec.ofNat 8 (setBit (leAt w.bytes 3 1) 0)], fails := w.fails + 1 }

/-- The slot of a Stove that would run a program's entry for a kind: VALID, of the highest VERSION (R149). Of two with equal VERSION the lowest is
taken, and only slots with an entry for the kind are compared: the spec settles neither (log 133). -/
def State.slotFor (s : State) (n pgm kind : Nat) : Option Nat :=
  (s.stove n).pslots.foldl (fun (best : Option Nat) e =>
    let p := e.2
    if p.state == 2 && p.pgm == pgm && kind < 8 && p.entries.getD kind 0xFFFF != 0xFFFF then
      match best with
      | some b => if (s.pslot n b).version < p.version then some e.1 else best
      | none => some e.1
    else best) none

/-- A Stove that can take items: enabled and not fenced, in a released domain. -/
def State.stoveTakes (s : State) (n : Nat) : Bool :=
  s.released dStv && s.getb (F.STV_CTL_EN n) && !(s.stove n).fenced && !s.bitOf F.GLB_FAULT_STV n

/-- The Stove R149 chooses: the fewest queued items among those that qualify, the lowest number on a tie. -/
def State.chooseStove (s : State) (pgm kind : Nat) : Option Nat :=
  (List.range 16).foldl (fun (best : Option Nat) n =>
    if s.stoveTakes n && (s.slotFor n pgm kind).isSome then
      match best with
      | some b => if (s.stove n).queue.length < (s.stove b).queue.length then some n else best
      | none => some n
    else best) none

/-- Post an item (R149): into the chosen Stove's queue, or held while every qualifying queue is full; none when no Stove qualifies. -/
def State.postItem (s : State) (w : WorkItem) : Option State :=
  (s.chooseStove w.pgm w.kind).map (fun n =>
    if (s.stove n).queue.length < 256 then
      s.updStove n (fun v => { v with queue := v.queue ++ [{ w with slot := (s.slotFor n w.pgm w.kind).getD 0 }] })
    else { s with heldItems := s.heldItems ++ [w] })

/-- Held items are posted again, oldest first, once a queue has room. -/
def State.retryHeld (s : State) : State :=
  s.heldItems.foldl (fun s w => (s.postItem w).getD { s with heldItems := s.heldItems ++ [w] }) { s with heldItems := [] }

/-- A work item of the drive ports for a program and kind (R148): ORIGIN 3. Which grates such an item names the spec does not say: free values
within their ranges (log 136). -/
def State.drvItem (s : State) (pgm kind tag arg : Nat) : State × WorkItem :=
  let g := s.freeValue.toNat % 12288
  let m := 1 + (s.taken 1).freeValue.toNat % 512
  let l := (s.taken 2).freeValue.toNat
  (s.taken 3, { bytes := itemBytes pgm kind 0 3 0 0 s.now tag g m l arg })

/-- No Stove qualifies for a program (R163). -/
def State.noProgram (s : State) (pgm : Nat) : State := s.record 0x0507 (w1 pgm)

/-- Hand an item to firmware's exception queue (R164). -/
def State.toFirmware (s : State) (w : WorkItem) : State := { s with fwq := s.fwq ++ [w] }

/-! ### Releasing what a strand holds (R147, R308) -/

/-- The cipher lock is free: a suspended strand resumes (R307). -/
def Stove.unlock (v : Stove) : Stove := { v with lock := v.susp, susp := none }

/-- A strand has a lock, a saved lock or an HMAC context on a software slot. -/
def Stove.usesSoft (v : Stove) (k : Nat) : Bool :=
  v.lock.any (fun (h : CiHold) => h.strand == k && 16 ≤ h.slot) || v.susp.any (fun (h : CiHold) => h.strand == k && 16 ≤ h.slot) ||
  v.ctxs.any (fun c => c.2.state != 0 && c.2.strand == k && c.2.keySlot.any (fun z => decide (16 ≤ z)))

/-- The erase step zeroes slots 16 and above once no strand uses one (R315, steps 2 and 4). -/
def State.tryErase (s : State) : State :=
  if s.keys.erase.isNone || s.stoves.any (fun v => (List.range 4).any v.2.usesSoft) then s
  else s.updKeys (fun x => { x with slots := Tab.keep x.slots (fun n _ => decide (n < 16)), erase := none })

/-- An index request's or a drive request's answer goes to no ticket any more. -/
def IdxOrigin.isTicket (o : IdxOrigin) (n k : Nat) : Bool :=
  match o with
  | .ticket a b _ _ _ => a == n && b == k
  | _ => false

/-- The lanes a strand's tickets hold, by class: they finish their current block or stream, and the result is discarded (R147). -/
def Strand.lanes (x : Strand) : List (Nat × Nat) :=
  x.tickets.filterMap (fun e => if e.2.granted then (e.2.job.bind Job.unit).map (fun u => (u, e.2.lane)) else none)

/-- Everything a strand holds is released: contexts, lock or saved lock state, compressor blocks, tickets, waiting grate requests; index
requests that have not begun and answers still to come find nobody. A lane in use finishes first: a block keeps its lane with no strand
(number 4), any other stays busy until the next grant of its class. Ticket epochs stay (R181). -/
def State.releaseStrand (s : State) (n k : Nat) : State :=
  let users := (s.strand n k).tickets.filterMap (fun e => match e.2.job with
    | some (.grAlloc u) => some u
    | _ => none)
  let s := s.updStove n (fun v =>
    let v := { v with
      ctxs := Tab.mapVals v.ctxs (fun _ c => if c.strand == k && c.state != 0 then { c with state := 0, msg := [], key := [] } else c)
      blocks := Tab.mapVals (Tab.keep v.blocks (fun _ b => b.strand != k || b.lane.any (· < 6))) (fun _ b =>
        if b.strand == k then { b with strand := 4, closer := none } else b)
      orphans := v.orphans ++ (Tab.getD v.strands k {}).lanes
      susp := if v.susp.any (fun (h : CiHold) => h.strand == k) then none else v.susp }
    if v.lock.any (fun (h : CiHold) => h.strand == k) then v.unlock else v)
  let s := s.updStrand n k (fun x => { x with
    tickets := Tab.mapVals x.tickets (fun _ t => { epoch := t.epoch }), block := none, wait := none })
  State.tryErase { s.updPool (fun p => { p with waiting := p.waiting.filter (fun w => !users.contains w.user) }) with
    ddx := { s.ddx with pend := s.ddx.pend.filter (fun p => !p.req.origin.isTicket n k),
                        snapWait := s.ddx.snapWait.filter (fun p => !p.req.origin.isTicket n k)
                        fwd := Tab.keep s.ddx.fwd (fun _ r => !r.origin.isTicket n k),
                        roomWait := s.ddx.roomWait.filter (fun r => !r.origin.isTicket n k) }
    drv := { s.drv with cmds := s.drv.cmds.map (fun c => if c.stove == n && c.strand == k then { c with stove := 16 } else c) } }

/-- A strand fault (R164): the strand keeps registers and PC, gives up what it holds, and its item goes to firmware. -/
def State.strandFault (s : State) (n k code : Nat) : State :=
  let x := s.strand n k
  let pgm := s.pgmOf n k
  let s := s.releaseStrand n k
  let s := s.updStrand n k (fun x => { x with st := .faulted, fltCode := code, fltPc := x.pc, item := none })
  let s := s.setBitOf (F.STV_FAULT_STRAND n) k true
  let s := match x.item with
    | some w => s.toFirmware w
    | none => s
  s.record 0x0501 (w1 n ++ w1 k ++ w1 pgm ++ w1 code)

/-! ### Fences (R165-R168) -/

/-- An item that has failed on three Stoves is not posted again (R167): a host read fails, any other goes to firmware. -/
def State.abandonItem (s : State) (n : Nat) (w : WorkItem) : State :=
  let s := s.record 0x0506 (w1 n ++ w1 w.pgm)
  match s.cmd? w.user with
  | some c => if w.kind == 1 then s.failRead c 0 0x06 else s.toFirmware w
  | none => s.toFirmware w

/-- Post again what a fenced Stove held (R166). Where no Stove qualifies, a host read completes as R163 says; any other item waits with
firmware. -/
def State.reissueItem (s : State) (n : Nat) (w : WorkItem) : State :=
  let w := w.reissue
  if w.fails ≥ 3 then s.abandonItem n w
  else match s.postItem w with
    | some s' => s'.record 0x0505 (w1 n ++ w1 w.pgm)
    | none =>
      let s := s.noProgram w.pgm
      match s.cmd? w.user with
      | some c => if w.kind == 1 then s.failRead c 0 0x06 0x0D else s.toFirmware w
      | none => s.toFirmware w

/-- Fence a Stove with a unit code (R165): every strand's results are discarded and its items are posted again; when no Stove is left
that is not fenced, R37 applies (R168). The Stove's degraded bit is set (R483). -/
def State.fence (s : State) (n code : Nat) : State :=
  let v := s.stove n
  if v.fenced then s
  else
    let items := (List.range 4).filterMap (fun k => (s.strand n k).item) ++ v.queue
    let s := (List.range 4).foldl (fun s k =>
      (s.releaseStrand n k).updStrand n k (fun x => { tickets := x.tickets, st := if x.st == .faulted then .faulted else .idle,
                                                      fltCode := x.fltCode, fltPc := x.fltPc })) s
    let s := s.updStove n (fun v => { v with fenced := true, queue := [], lock := none, susp := none, blocks := [], orphans := [] })
    let s := ((s.setb (F.STV_STS_FENCED n) true).setb (F.STV_CTL_FENCE n) true).set (F.STV_FAULT_UNIT_CODE n) code
    let s := (s.record 0x0502 (w1 n ++ w1 code)).degradeUnit (36 + n) true
    let s := items.foldl (fun s w => s.reissueItem n w) s
    if (List.range 16).all (fun m => (s.stove m).fenced || s.bitOf F.GLB_FAULT_STV m) && !s.getb F.KDL_STS_BUSY then
      s.assertSrc .unitLost .computeDie
    else s

/-! ### Issuing -/

/-- The program-store address lies in the strand's slot (R172). -/
def PSlot.holds (p : PSlot) (pc : Nat) : Bool := 64 * p.base64 ≤ pc && pc < 64 * p.base64 + 64 * p.size64

/-- The unit an instruction uses is one its image declares (R179). -/
def PSlot.hasUnit (p : PSlot) (u : Option Nat) : Bool :=
  match u with
  | none => true
  | some b => bit p.units b

/-- What an instruction does to its strand's machine, or the strand fault it raises. -/
abbrev Effect := Except Nat State

/-- Strand `k` issues the instruction at its PC: nothing happens while it is not its turn (R140) or the word there is another; a word of no
opcode is ILLEGAL, whichever row is commanded (R179). -/
def State.onTurn (s : State) (n k opc : Nat) (f : InsW) (eff : State → State) : State :=
  if !s.strandTurn n k then s
  else
    let w := s.fetched n k
    let t := s.updStove n (fun v => { v with turn := k })
    if !insKnown w then t.strandFault n k 1
    else if insOpc w == opc && insOf w == f then eff t
    else s

/-- What a class S or W instruction does once it issues (R180): a field out of its format or an undeclared unit is ILLEGAL before any effect
(R179); a next PC outside the slot is ILLEGAL (R172). -/
def State.perform (s : State) (n k : Nat) (legal : Bool) (unit : Option Nat) (next : Strand → Nat) (eff : State → Strand → Effect) : State :=
  let x := s.strand n k
  if !legal || !(s.runSlot n k).hasUnit unit then s.strandFault n k 1
  else match eff s x with
    | .error c => s.strandFault n k c
    | .ok t => if (s.runSlot n k).holds (next x) then t.updStrand n k (fun y => { y with pc := next x, wait := none }) else s.strandFault n k 1

/-- Issue a class S or W instruction. -/
def State.issue (s : State) (n k opc : Nat) (f : InsW) (legal : Bool) (unit : Option Nat) (next : Strand → Nat) (eff : State → Strand → Effect) :
    State := s.onTurn n k opc f (fun s => s.perform n k legal unit next eff)

/-- The next instruction in program order. -/
def nextPc (x : Strand) : Nat := x.pc + 1

/-- The strand waits where it is (R180). -/
def State.stall (s : State) (n k : Nat) (w : StrandWait) : State := s.updStrand n k (fun x => { x with wait := some w })

/-- What a class T instruction does once it issues: it takes a ticket and leaves its job to a unit (R142, R181); it stalls while no entry is
free. The fields, the unit and the job's own faults are checked first. -/
def State.takeTicket (s : State) (n k : Nat) (a : BitVec 5) (legal : Bool) (unit : Option Nat) (job : State → Strand → Except Nat (State × Job)) :
    State :=
  let x := s.strand n k
  let p := s.runSlot n k
  if !legal || !p.hasUnit unit then s.strandFault n k 1
  else match job s x with
    | .error c => s.strandFault n k c
    | .ok (t, j) =>
      if !p.holds (x.pc + 1) then s.strandFault n k 1
      else match x.freeEntry with
        | none => s.stall n k .entry
        | some e =>
          let ep := ((x.ticket e).epoch + 1) % 16
          let order := (t.stove n).order
          let t := t.updStove n (fun v => { v with order := order + 1 })
          t.updStrand n k (fun y =>
            let y := (y.updTicket e (fun _ => { epoch := ep, used := true, job := some j, order })).setReg a (BitVec.ofNat 64 (16 * ep + e))
            { y with pc := x.pc + 1, wait := none })

/-- Issue a class T instruction. -/
def State.ticketed (s : State) (n k opc : Nat) (f : InsW) (legal : Bool) (unit : Option Nat) (job : State → Strand → Except Nat (State × Job)) :
    State := s.onTurn n k opc f (fun s => s.takeTicket n k f.a legal unit job)

/-- The status word of R182. -/
def statusWord (code aux count : Nat) : Nat := code + aux % 256 * 2 ^ 8 + count % 2 ^ 32 * 2 ^ 32

/-- A ticket's job has finished with a status. -/
def State.finishTicket (s : State) (n k e status : Nat) : State :=
  s.updStrand n k (fun x => x.updTicket e (fun t => if t.used then { t with job := none, granted := false, status } else t))

end Sys2Proof.Machine
end

