-- ==== Sys2Proof/Machine/StoveIsa.lean ====
section
/-! DEFINITION. The system, integer, control, local-memory and descriptor instructions of a Stove (R187-R193). An instruction names the
Stove and the strand that issues it and its fields (R177). -/

namespace Sys2Proof

/-! ### Formats (R178, R179): the fields a format does not use are zero -/

def InsW.fmtG (f : InsW) : Bool := f.x == 0 && f.imm == 0
def InsW.fmtI (f : InsW) : Bool := f.c == 0 && f.x == 0
def InsW.fmtB (f : InsW) : Bool := f.c == 0 && f.x == 0
def InsW.noABC (f : InsW) : Bool := f.a == 0 && f.b == 0 && f.c == 0
def InsW.bare (f : InsW) : Bool := f.noABC && f.x == 0 && f.imm == 0

/-- IMM sign-extended and zero-extended. -/
def InsW.sx (f : InsW) : W64 := f.imm.signExtend 64
def InsW.zx (f : InsW) : W64 := f.imm.setWidth 64

/-- An immediate shift takes IMM[5:0]; the bits above are zero. -/
def InsW.shOk (f : InsW) : Bool := f.imm.toNat < 64

/-- The bytes of a load or store: X[1:0]. -/
def InsW.size (f : InsW) : Nat := 2 ^ (f.x.toNat % 4)

namespace Machine

/-- A register field names a descriptor. -/
def isDesc (i : BitVec 5) : Bool := i.toNat < 8

/-- Write general register A and go on. -/
def State.setG (s : State) (n k : Nat) (i : BitVec 5) (v : W64) : State := s.updStrand n k (fun x => x.setReg i v)

/-! ### System (R187, R188) -/

/-- NOP. -/
def execNop (n k : Nat) (f : InsW) (s : State) : Res :=
  .next (s.issue n k 0x00 f f.bare none nextPc (fun s _ => .ok s))

/-- TRAP (R187): the trap number is IMM[15:0]. -/
def execTrap (n k : Nat) (f : InsW) (s : State) : Res :=
  .next (s.issue n k 0x02 f (f.noABC && f.x == 0 && f.imm.toNat < 2 ^ 16) none nextPc (fun _ _ => .error 6))

/-- STOP (R187): fences the Stove with CIPHER_RT. -/
def execStop (n k : Nat) (f : InsW) (s : State) : Res :=
  .next (s.onTurn n k 0x03 f (fun s => if f.noABC && f.x == 0 && f.imm == 0x11 then s.fence n 0x11 else s.strandFault n k 1))

/-- RDAT (R187). -/
def execRdat (n k : Nat) (f : InsW) (s : State) : Res :=
  .next (s.issue n k 0x04 f (f.b == 0 && f.c == 0 && f.x == 0 && f.imm == 0) none nextPc
    (fun s _ => .ok (s.setG n k f.a (BitVec.ofNat 64 s.now))))

/-- WAITAT (R187, R189). -/
def execWaitat (n k : Nat) (f : InsW) (s : State) : Res :=
  let legal := f.a == 0 && f.c == 0 && f.x == 0 && f.imm == 0
  .next (s.onTurn n k 0x05 f (fun s =>
    let t := ((s.strand n k).reg f.b).toNat
    if legal && s.now < t && (s.runSlot n k).holds ((s.strand n k).pc + 1) then s.stall n k (.time t)
    else s.perform n k legal none nextPc (fun s _ => .ok s)))

/-- The identity word of RDID. -/
def State.idWord (s : State) (n k : Nat) : Nat :=
  let p := s.runSlot n k
  p.version * 2 ^ 48 + p.pgm * 2 ^ 32 + 64 * p.base64 * 2 ^ 16 + s.head * 2 ^ 12 + (s.strand n k).slot * 2 ^ 8 + n * 2 ^ 4 + k

/-- RDID (R187). -/
def execRdid (n k : Nat) (f : InsW) (s : State) : Res :=
  .next (s.issue n k 0x06 f (f.b == 0 && f.c == 0 && f.x == 0 && f.imm == 0) none nextPc
    (fun s _ => .ok (s.setG n k f.a (BitVec.ofNat 64 (s.idWord n k)))))

/-- The entry a ticket register names; none when R143 makes it a fault: a free entry or another epoch. -/
def Strand.named (x : Strand) (v : W64) : Option Nat :=
  let e := v.toNat % 16
  let t := x.ticket e
  if t.used && t.epoch == v.toNat / 16 % 16 then some e else none

/-- The status of a finished ticket is returned: the result of a DG.FIN can be read from now on (R198). -/
def State.returned (s : State) (n : Nat) (t : Ticket) : State :=
  match t.fin with
  | some c => s.updStove n (fun v => { v with ctxs := Tab.upd v.ctxs c {} (fun x => { x with shown := true }) })
  | none => s

/-- WAIT (R187, R143). -/
def execWait (n k : Nat) (f : InsW) (s : State) : Res :=
  let legal := f.c == 0 && f.x == 0 && f.imm == 0
  .next (s.onTurn n k 0x07 f (fun s =>
    let x := s.strand n k
    match x.named (x.reg f.b) with
    | some e =>
      if legal && (x.ticket e).job.isSome then s.stall n k (.ticket e)
      else s.perform n k legal none nextPc (fun s x =>
        .ok ((s.returned n (x.ticket e)).updStrand n k (fun y => (y.updTicket e (fun t => { epoch := t.epoch })).setReg f.a (BitVec.ofNat 64 (x.ticket e).status))))
    | none => s.perform n k legal none nextPc (fun _ _ => .error 4)))

/-- POLL (R187): the status stays with the entry. -/
def execPoll (n k : Nat) (f : InsW) (s : State) : Res :=
  .next (s.issue n k 0x08 f (f.c == 0 && f.x == 0 && f.imm == 0) none nextPc (fun s x =>
    match x.named (x.reg f.b) with
    | some e => .ok (s.setG n k f.a (if (x.ticket e).job.isNone then 1 else 0))
    | none => .error 4))

/-! ### Integer and control (R190) -/

/-- A three-register operation. -/
def State.alu (s : State) (n k opc : Nat) (f : InsW) (op : W64 → W64 → W64) : Res :=
  .next (s.issue n k opc f f.fmtG none nextPc (fun s x => .ok (s.setG n k f.a (op (x.reg f.b) (x.reg f.c)))))

/-- A one-operand operation: C is zero. -/
def State.alu1 (s : State) (n k opc : Nat) (f : InsW) (op : W64 → W64) : Res :=
  .next (s.issue n k opc f (f.fmtG && f.c == 0) none nextPc (fun s x => .ok (s.setG n k f.a (op (x.reg f.b)))))

/-- An immediate operation. -/
def State.alui (s : State) (n k opc : Nat) (f : InsW) (ok : Bool) (op : W64 → W64) : Res :=
  .next (s.issue n k opc f (f.fmtI && ok) none nextPc (fun s x => .ok (s.setG n k f.a (op (x.reg f.b)))))

/-- A Boolean as a register value. -/
def flag64 (b : Bool) : W64 := if b then 1 else 0

/-- Leading zero bits, one bits and the eight bytes reversed. -/
def clz64 (v : W64) : W64 := if v = 0 then 64 else BitVec.ofNat 64 (63 - Nat.log2 v.toNat)
def popc64 (v : W64) : W64 := BitVec.ofNat 64 ((List.range 64).countP (fun i => v.getLsbD i))
def bswap64 (v : W64) : W64 := BitVec.ofNat 64 (beNat (leBytes 8 v.toNat))

def execAdd (n k : Nat) (f : InsW) (s : State) : Res := s.alu n k 0x10 f (fun a b => a + b)
def execSub (n k : Nat) (f : InsW) (s : State) : Res := s.alu n k 0x11 f (fun a b => a - b)
def execAnd (n k : Nat) (f : InsW) (s : State) : Res := s.alu n k 0x12 f (fun a b => a &&& b)
def execOr (n k : Nat) (f : InsW) (s : State) : Res := s.alu n k 0x13 f (fun a b => a ||| b)
def execXor (n k : Nat) (f : InsW) (s : State) : Res := s.alu n k 0x14 f (fun a b => a ^^^ b)
def execSll (n k : Nat) (f : InsW) (s : State) : Res := s.alu n k 0x15 f (fun a b => a <<< (b.toNat % 64))
def execSrl (n k : Nat) (f : InsW) (s : State) : Res := s.alu n k 0x16 f (fun a b => a >>> (b.toNat % 64))
def execSra (n k : Nat) (f : InsW) (s : State) : Res := s.alu n k 0x17 f (fun a b => a.sshiftRight (b.toNat % 64))
def execSlt (n k : Nat) (f : InsW) (s : State) : Res := s.alu n k 0x18 f (fun a b => flag64 (a.slt b))
def execSltu (n k : Nat) (f : InsW) (s : State) : Res := s.alu n k 0x19 f (fun a b => flag64 (a.ult b))
def execMul (n k : Nat) (f : InsW) (s : State) : Res := s.alu n k 0x1A f (fun a b => a * b)
def execMulhu (n k : Nat) (f : InsW) (s : State) : Res := s.alu n k 0x1B f (fun a b => BitVec.ofNat 64 (a.toNat * b.toNat / 2 ^ 64))
def execClz (n k : Nat) (f : InsW) (s : State) : Res := s.alu1 n k 0x1C f clz64
def execPopc (n k : Nat) (f : InsW) (s : State) : Res := s.alu1 n k 0x1D f popc64
def execBswap (n k : Nat) (f : InsW) (s : State) : Res := s.alu1 n k 0x1E f bswap64
def execAddi (n k : Nat) (f : InsW) (s : State) : Res := s.alui n k 0x20 f true (fun a => a + f.sx)
def execAndi (n k : Nat) (f : InsW) (s : State) : Res := s.alui n k 0x22 f true (fun a => a &&& f.zx)
def execOri (n k : Nat) (f : InsW) (s : State) : Res := s.alui n k 0x23 f true (fun a => a ||| f.zx)
def execXori (n k : Nat) (f : InsW) (s : State) : Res := s.alui n k 0x24 f true (fun a => a ^^^ f.zx)
def execSlli (n k : Nat) (f : InsW) (s : State) : Res := s.alui n k 0x25 f f.shOk (fun a => a <<< f.imm.toNat)
def execSrli (n k : Nat) (f : InsW) (s : State) : Res := s.alui n k 0x26 f f.shOk (fun a => a >>> f.imm.toNat)
def execSrai (n k : Nat) (f : InsW) (s : State) : Res := s.alui n k 0x27 f f.shOk (fun a => a.sshiftRight f.imm.toNat)
def execSlti (n k : Nat) (f : InsW) (s : State) : Res := s.alui n k 0x28 f true (fun a => flag64 (a.slt f.sx))
def execSltui (n k : Nat) (f : InsW) (s : State) : Res := s.alui n k 0x29 f true (fun a => flag64 (a.ult f.sx))
def execLih (n k : Nat) (f : InsW) (s : State) : Res := s.alui n k 0x2A f true (fun a => (a &&& 0xFFFFFFFF) ||| (f.zx <<< 32))

/-- A PC plus a signed instruction offset; one below zero lies in no slot. -/
def pcPlus (pc : Nat) (off : Int) : Nat := if (pc : Int) + off < 0 then 2 ^ 64 else (pc + off).toNat

/-- A conditional branch (R190, R172). -/
def State.branch (s : State) (n k opc : Nat) (f : InsW) (taken : W64 → W64 → Bool) : Res :=
  .next (s.issue n k opc f f.fmtB none (fun x => if taken (x.reg f.a) (x.reg f.b) then pcPlus x.pc f.imm.toInt else x.pc + 1) (fun s _ => .ok s))

def execBeq (n k : Nat) (f : InsW) (s : State) : Res := s.branch n k 0x40 f (fun a b => a == b)
def execBne (n k : Nat) (f : InsW) (s : State) : Res := s.branch n k 0x41 f (fun a b => a != b)
def execBlt (n k : Nat) (f : InsW) (s : State) : Res := s.branch n k 0x42 f (fun a b => a.slt b)
def execBge (n k : Nat) (f : InsW) (s : State) : Res := s.branch n k 0x43 f (fun a b => !a.slt b)
def execBltu (n k : Nat) (f : InsW) (s : State) : Res := s.branch n k 0x44 f (fun a b => a.ult b)
def execBgeu (n k : Nat) (f : InsW) (s : State) : Res := s.branch n k 0x45 f (fun a b => !a.ult b)

/-- JAL (R190). -/
def execJal (n k : Nat) (f : InsW) (s : State) : Res :=
  .next (s.issue n k 0x46 f (f.fmtI && f.b == 0) none (fun x => pcPlus x.pc f.imm.toInt)
    (fun s x => .ok (s.setG n k f.a (BitVec.ofNat 64 (x.pc + 1)))))

/-- JALR (R190). -/
def execJalr (n k : Nat) (f : InsW) (s : State) : Res :=
  .next (s.issue n k 0x47 f f.fmtI none (fun x => (x.reg f.b + f.sx).toNat) (fun s x => .ok (s.setG n k f.a (BitVec.ofNat 64 (x.pc + 1)))))

/-! ### Local memory (R191, R192) -/

/-- A Stove's local memory: `len` bytes read as a number, and bytes stored. -/
def State.lmRead (s : State) (n a len : Nat) : Nat := leNat (Tab.readBytes (s.stove n).lmem a len)
def State.lmBytes (s : State) (n a len : Nat) : Bytes := Tab.readBytes (s.stove n).lmem a len
def State.lmWrite (s : State) (n a : Nat) (b : Bytes) : State := s.updStove n (fun v => { v with lmem := Tab.writeBytes v.lmem a b })

/-- An effective address aligned to `n` bytes, a power of two. -/
def alignEa (v : W64) (n : Nat) : Nat := v.toNat / n * n

/-- A loaded value, zero- or sign-extended from `len` bytes. -/
def extend (signed : Bool) (len v : Nat) : W64 :=
  if signed && v ≥ 2 ^ (8 * len - 1) then BitVec.ofNat 64 (2 ^ 64 - 2 ^ (8 * len) + v) else BitVec.ofNat 64 v

/-- LD (R191). -/
def execLd (n k : Nat) (f : InsW) (s : State) : Res :=
  .next (s.issue n k 0x30 f (f.c == 0 && f.x.toNat < 8 && f.x.toNat != 7) none nextPc (fun s x =>
    let ea := alignEa (x.reg f.b + f.sx) f.size
    if ea > 0xFFFFF then .error 2 else .ok (s.setG n k f.a (extend (bit f.x.toNat 2) f.size (s.lmRead n ea f.size)))))

/-- ST (R191). -/
def execSt (n k : Nat) (f : InsW) (s : State) : Res :=
  .next (s.issue n k 0x31 f (f.c == 0 && f.x.toNat < 4) none nextPc (fun s x =>
    let ea := alignEa (x.reg f.b + f.sx) f.size
    if ea > 0xFFFFF then .error 2 else .ok (s.lmWrite n ea (leBytes f.size (x.reg f.a).toNat))))

/-- AMOADD (R191, R192). -/
def execAmoadd (n k : Nat) (f : InsW) (s : State) : Res :=
  .next (s.issue n k 0x32 f f.fmtG none nextPc (fun s x =>
    let ea := alignEa (x.reg f.b) 8
    if ea > 0xFFFFF then .error 2
    else
      let old := BitVec.ofNat 64 (s.lmRead n ea 8)
      .ok ((s.lmWrite n ea (leBytes 8 (old + x.reg f.c).toNat)).setG n k f.a old)))

/-- CAS (R191, R192). -/
def execCas (n k : Nat) (f : InsW) (s : State) : Res :=
  .next (s.issue n k 0x33 f f.fmtG none nextPc (fun s x =>
    let ea := alignEa (x.reg f.b) 8
    if ea > 0xFFFFF then .error 2
    else
      let old := BitVec.ofNat 64 (s.lmRead n ea 8)
      let s := if old == x.reg f.a then s.lmWrite n ea (leBytes 8 (x.reg f.c).toNat) else s
      .ok (s.setG n k f.a old)))

/-! ### Descriptors (R175, R193) -/

/-- Write a descriptor register. -/
def State.setD (s : State) (n k : Nat) (i : BitVec 5) (d : Desc) : State :=
  s.updStrand n k (fun x => { x with d := Tab.put x.d i.toNat d })

/-- A descriptor's 16 bytes, and the descriptor they hold; none when a reserved bit or SPACE is set (R175, R176). -/
def Desc.bytes (d : Desc) : Bytes := leBytes 8 d.addr ++ leBytes 4 d.len ++ leBytes 3 d.off ++ [BitVec.ofNat 8 d.space]
def Desc.ofBytes (b : Bytes) : Option Desc :=
  if leAt b 15 1 < 4 then some { addr := leAt b 0 8, len := leAt b 8 4, off := leAt b 12 3, space := leAt b 15 1 } else none

/-- DMK (R193). -/
def execDmk (n k : Nat) (f : InsW) (s : State) : Res :=
  .next (s.issue n k 0x50 f (isDesc f.a && f.imm == 0 && f.x.toNat < 4) none nextPc (fun s x =>
    if (x.reg f.c).toNat ≥ 2 ^ 32 then .error 1
    else .ok (s.setD n k f.a { space := f.x.toNat, addr := (x.reg f.b).toNat, len := (x.reg f.c).toNat })))

/-- DLD (R193). -/
def execDld (n k : Nat) (f : InsW) (s : State) : Res :=
  .next (s.issue n k 0x51 f (isDesc f.a && f.c == 0 && f.x == 0) none nextPc (fun s x =>
    let ea := alignEa (x.reg f.b + f.sx) 16
    if ea > 0xFFFF0 then .error 2
    else match Desc.ofBytes (s.lmBytes n ea 16) with
      | some d => .ok (s.setD n k f.a d)
      | none => .error 1))

/-- DST (R193). -/
def execDst (n k : Nat) (f : InsW) (s : State) : Res :=
  .next (s.issue n k 0x52 f (isDesc f.a && f.c == 0 && f.x == 0) none nextPc (fun s x =>
    let ea := alignEa (x.reg f.b + f.sx) 16
    if ea > 0xFFFF0 then .error 2 else .ok (s.lmWrite n ea (x.desc f.a).bytes)))

/-- DADV (R193). -/
def execDadv (n k : Nat) (f : InsW) (s : State) : Res :=
  .next (s.issue n k 0x53 f (isDesc f.a && f.c == 0 && f.x == 0 && f.imm == 0) none nextPc (fun s x =>
    let d := x.desc f.a
    let m := min (x.reg f.b).toNat d.len
    if d.space == 2 then
      if d.off + m > 0xFFFFFF then .error 1 else .ok (s.setD n k f.a { d with len := d.len - m, off := d.off + m })
    else .ok (s.setD n k f.a { d with len := d.len - m, addr := (d.addr + m) % 2 ^ 64 })))

/-- DCLIP (R193). -/
def execDclip (n k : Nat) (f : InsW) (s : State) : Res :=
  .next (s.issue n k 0x54 f (isDesc f.a && f.c == 0 && f.x == 0 && f.imm == 0) none nextPc (fun s x =>
    let d := x.desc f.a
    .ok (s.setD n k f.a { d with len := min d.len (x.reg f.b).toNat })))

/-- DGET (R193). -/
def execDget (n k : Nat) (f : InsW) (s : State) : Res :=
  .next (s.issue n k 0x55 f (isDesc f.b && f.c == 0 && f.imm == 0 && f.x.toNat < 4) none nextPc (fun s x =>
    let d := x.desc f.b
    .ok (s.setG n k f.a (BitVec.ofNat 64 ([d.addr, d.len, d.off, d.space].getD f.x.toNat 0)))))

end Machine

end Sys2Proof
end

