-- ==== Sys2Proof/Machine/StoveMem.lean ====
section
/-! DEFINITION. What descriptors reach (R175, R176, R184-R186): the bytes a stream reads and writes. -/

namespace Sys2Proof.Machine

/-- The three memories a stream can reach, with the grates that R33 has moved to the DDR overflow and where each lies there. -/
structure StoveMem where
  lm : Tab Byte
  gr : Tab Byte
  dd : Tab Byte
  moved : List (Nat × Nat)

/-- The grates of a strand's work item that lie in the DDR staging overflow: a stream that names one reaches its payload there (log 134). -/
def State.movedGrates (s : State) (n k : Nat) : List (Nat × Nat) :=
  match (s.strand n k).item with
  | some w => (s.pool.overflow.filter (fun e => e.1 == cmdUser w.user)).map (·.2)
  | none => []

/-- The memories of strand `k` of Stove `n`, and the state with them changed. -/
def State.mem (s : State) (n k : Nat) : StoveMem := { lm := (s.stove n).lmem, gr := s.grates, dd := s.ddr, moved := s.movedGrates n k }
def State.withMem (s : State) (n : Nat) (m : StoveMem) : State :=
  { s.updStove n (fun v => { v with lmem := m.lm }) with grates := m.gr, ddr := m.dd }

/-- Where a byte of the pool lies in the overflow, if it does. -/
def StoveMem.over? (m : StoveMem) (a : Nat) : Option Nat := (m.moved.find? (fun e => e.1 == a / 4096)).map (fun e => e.2 + a % 4096)

/-- Read and write one byte: space 0 local memory, 1 the pool, 3 DDR. -/
def StoveMem.rd (m : StoveMem) (a : Nat × Nat) : Byte :=
  if a.1 == 0 then Tab.getB m.lm a.2
  else if a.1 == 1 then (match m.over? a.2 with
    | some d => Tab.getB m.dd d
    | none => Tab.getB m.gr a.2)
  else Tab.getB m.dd a.2
def StoveMem.wr (m : StoveMem) (a : Nat × Nat) (b : Byte) : StoveMem :=
  if a.1 == 0 then { m with lm := Tab.putB m.lm a.2 b }
  else if a.1 == 1 then (match m.over? a.2 with
    | some d => { m with dd := Tab.putB m.dd d b }
    | none => { m with gr := Tab.putB m.gr a.2 b })
  else { m with dd := Tab.putB m.dd a.2 b }

/-- Where byte `i` of a descriptor lies (R176); none when its grate index is 12,288 or above. -/
def Desc.place (d : Desc) (m : StoveMem) (i : Nat) : Option (Nat × Nat) :=
  if d.space == 0 then some (0, d.addr + i)
  else if d.space == 1 then (if (d.addr + i) / 4096 < 12288 then some (1, d.addr + i) else none)
  else if d.space == 2 then
    let o := d.off + i
    let e := leNat (Tab.readBytes m.lm (d.addr + 4 * (o / 4096)) 4)
    if e < 12288 then some (1, 4096 * e + o % 4096) else none
  else some (3, (d.addr + i) % 2 ^ 64)

/-- The check made when a stream instruction naming the descriptor issues (R176): the fault it raises. -/
def State.descFault (s : State) (n : Nat) (d : Desc) : Option Nat :=
  if d.len == 0 then none
  else if d.space == 0 then (if d.addr + d.len > 0x100000 then some 2 else none)
  else if d.space == 2 then (if d.addr + 4 * ((d.off + d.len + 4095) / 4096) > 0x100000 then some 2 else none)
  else if d.space == 3 then
    if (List.range 4).any (fun w => s.get (F.STV_DMA_BASE_ADDR n w) ≤ d.addr && d.addr + d.len - 1 ≤ s.get (F.STV_DMA_LIMIT_ADDR n w)) then none
    else some 3
  else none

/-- Read bytes `i` to `i + k - 1`; stops at a bad grate. The flag says it reached the end. -/
def Desc.readFrom (d : Desc) (m : StoveMem) : Nat → Nat → Bytes × Bool
  | 0, _ => ([], true)
  | k + 1, i =>
    match d.place m i with
    | none => ([], false)
    | some a =>
      let r := d.readFrom m k (i + 1)
      (m.rd a :: r.1, r.2)

/-- Write bytes from byte `i` on; stops at a bad grate. Answers the memory, the bytes written and whether all were. -/
def Desc.writeFrom (d : Desc) : Bytes → StoveMem → Nat → StoveMem × Nat × Bool
  | [], m, _ => (m, 0, true)
  | b :: bs, m, i =>
    match d.place m i with
    | none => (m, 0, false)
    | some a =>
      let r := d.writeFrom bs (m.wr a b) (i + 1)
      (r.1, r.2.1 + 1, r.2.2)

/-- Copy `k` bytes in ascending order (R194). Answers the memory, the bytes copied and whether all were. -/
def copyFrom (dst src : Desc) : Nat → StoveMem → Nat → StoveMem × Nat × Bool
  | 0, m, _ => (m, 0, true)
  | k + 1, m, i =>
    match src.place m i, dst.place m i with
    | some a, some b =>
      let r := copyFrom dst src k (m.wr b (m.rd a)) (i + 1)
      (r.1, r.2.1 + 1, r.2.2)
    | _, _ => (m, 0, false)

/-- A descriptor in DDR or the pool, which a read error can strike. -/
def Desc.outside (d : Desc) : Bool := d.space != 0

/-- The first `m` bytes of a descriptor as ranges of DDR by address: none when it lies elsewhere. -/
def Desc.ddr (d : Desc) (m : Nat) : List (Nat × Nat) := if d.space == 3 && 0 < min m d.len then [(d.addr, min m d.len)] else []

/-- Ranges of DDR can be read and written: no host holds a line of a Grate window among them (R51, R176). Where one does, the snoops are sent and
the stream goes on later. -/
def State.ddrMay (s : State) (rs ws : List (Nat × Nat)) : Bool := rs.all (fun r => s.ddrReadable r.1 r.2) && ws.all (fun w => s.ddrWritable w.1 w.2)
def State.ddrWant (s : State) (rs ws : List (Nat × Nat)) : State :=
  ws.foldl (fun s w => s.ddrClaim w.1 w.2) (rs.foldl (fun s r => s.ddrAsk r.1 r.2) s)

/-- The reads of ranges of DDR are made. -/
def State.ddrLooks (s : State) (rs : List (Nat × Nat)) : State := rs.foldl (fun s r => s.ddrLook r.1 r.2) s

/-- The earlier of two offsets at which a read fails. -/
def earlier : Option Nat → Option Nat → Option Nat
  | some a, some b => some (min a b)
  | some a, none => some a
  | none, b => b

/-- Where the read of a source fails: at `err`, or at a poisoned line of its range of DDR (R176). -/
def State.badAt (s : State) (d : Desc) (err : Option Nat) : Option Nat :=
  earlier (if d.outside then err else none) (if d.space == 3 then s.ddrBad d.addr d.len else none)

/-- Read a source to its end or to where it fails: `err` is the offset of a read error, if it meets one (R183). Answers the bytes read and
the status: 0, BAD_GRATE or DATA_ERR. -/
def State.readSrc (s : State) (n k : Nat) (d : Desc) (err : Option Nat) : Bytes × Nat :=
  let r := d.readFrom (s.mem n k) d.len 0
  match s.badAt d err with
  | some o => if o < r.1.length then (r.1.take o, 3) else (r.1, if r.2 then 0 else 2)
  | none => (r.1, if r.2 then 0 else 2)

/-- What DDR sees before and after a stream writes the first `m` bytes of a destination there: the Index cache's copies give way and poison ends
(R52, R278, R279). -/
def State.preWrite (s : State) (d : Desc) (m : Nat) : State := (d.ddr m).foldl (fun s r => (s.extWrite r.1 r.2).endPoison r.1 r.2) s
def State.postWrite (s : State) (d : Desc) (m : Nat) : State := (d.ddr m).foldl (fun s r => (s.cleanLines r.1 r.2).ichAgain) s

/-- Write output into a destination (R184): at most its LEN bytes. Answers the state, the bytes written and the status: 0, DST_SHORT or
BAD_GRATE. -/
def State.writeDst (s : State) (n k : Nat) (d : Desc) (b : Bytes) : State × Nat × Nat :=
  let s := s.preWrite d b.length
  let r := d.writeFrom (b.take d.len) (s.mem n k) 0
  ((s.withMem n r.1).postWrite d b.length, r.2.1, if !r.2.2 then 2 else if d.len < b.length then 1 else 0)

end Sys2Proof.Machine
end

