-- ==== Sys2Proof/Machine/StoveIssue.lean ====
section
/-! DEFINITION. The ticketed instructions of a Stove (R194-R201) as they issue, and how units and lanes are granted (R145, R146, R291). -/

namespace Sys2Proof.Machine

/-! ### Units (R145) -/

/-- How many of a class a Stove has. -/
def unitCount : Nat → Nat
  | 0 => 6
  | 1 => 8
  | 2 => 4
  | 3 => 1
  | _ => 32

/-- The tickets of a Stove that have a job: strand, entry, ticket. -/
def Stove.jobs (v : Stove) : List (Nat × Nat × Ticket) :=
  v.strands.flatMap (fun x => (x.2.tickets.filter (fun e => e.2.used && e.2.job.isSome)).map (fun e => (x.1, e.1, e.2)))

/-- Two jobs run one after the other, in issue order (R185): streams of one digest context, of one block, of the cipher. -/
def Job.chain : Job → Option (Nat × Nat)
  | .dgAbs c _ => some (0, c)
  | .dgFin c _ _ => some (0, c)
  | .dgCmp c _ => some (0, c)
  | .czOpen b => some (1, b)
  | .czPut b _ _ => some (1, b)
  | .czFlush b => some (1, b)
  | .czClose b => some (1, b)
  | .ciXts _ _ _ _ _ => some (2, 0)
  | .ciGcm _ _ _ _ _ => some (2, 0)
  | _ => none

/-- No earlier job of the strand runs before this one. -/
def Stove.first (v : Stove) (k : Nat) (t : Ticket) : Bool :=
  let c := t.job.bind Job.chain
  c.isNone || !v.jobs.any (fun j => j.1 == k && j.2.2.order < t.order && j.2.2.job.bind Job.chain == c)

/-- Units of a class in use. -/
def Stove.inUse (v : Stove) (u : Nat) : List Nat :=
  (v.orphans.filter (fun o => o.1 == u)).map (·.2) ++
  if u == 0 then v.blocks.filterMap (fun b => b.2.lane)
  else (v.jobs.filter (fun j => j.2.2.granted && j.2.2.job.bind Job.unit == some u)).map (fun j => j.2.2.lane)

/-- The lowest free unit of a class; disabled compressor lanes are not free (R224). -/
def Stove.freeUnit (v : Stove) (u : Nat) : Option Nat :=
  (List.range (unitCount u)).find? (fun l => !(v.inUse u).contains l && !(u == 0 && bit v.laneOff l))

/-- The oldest of some tickets by issue order. -/
def oldest (js : List (Nat × Nat × Ticket)) : Option (Nat × Nat × Ticket) :=
  js.foldl (fun (best : Option (Nat × Nat × Ticket)) j =>
    match best with
    | some b => if j.2.2.order < b.2.2.order then some j else best
    | none => some j) none

/-- The first job a test accepts, in the order of R145: by rotation among strands, by issue order within one. -/
def Stove.nextJob (v : Stove) (ok : Nat → Ticket → Bool) : Option (Nat × Nat × Ticket) :=
  v.rotation.findSome? (fun k => oldest (v.jobs.filter (fun j => j.1 == k && ok k j.2.2)))

/-- A compressor block, and its change. -/
def State.updBlk (s : State) (n b : Nat) (f : CzBlk → CzBlk) : State :=
  s.updStove n (fun v => { v with blocks := v.blocks.map (fun e => if e.1 == b then (e.1, f e.2) else e) })
def State.blk? (s : State) (n b : Nat) : Option CzBlk := Tab.find (s.stove n).blocks b

/-- A unit reads its request block as it starts the request (R200). -/
def State.readBlock (s : State) (n : Nat) : Job → Job
  | .par a b => .par a (s.lmBytes n a b.length)
  | .crl a _ => .crl a (s.lmBytes n a 64)
  | j => j

/-- Give unit `l` of class `u` to a ticket. CZ.OPEN finishes with its lane (R196). -/
def State.giveUnit (s : State) (n k e l : Nat) (t : Ticket) : State :=
  match t.job with
  | some (.czOpen b) => (s.updBlk n b (fun x => { x with lane := some l })).finishTicket n k e 0
  | _ => s.updStrand n k (fun x => x.updTicket e (fun t => { t with granted := true, lane := l, since := s.cyc, job := t.job.map (s.readBlock n) }))

/-- The raw bypass (R225) serves a block: it was opened so, or every lane is disabled. -/
def State.bypassed (s : State) (n : Nat) (t : Ticket) : Bool :=
  match t.job with
  | some (.czOpen b) => (s.stove n).laneOff == 63 || (s.blk? n b).any (·.bypass)
  | _ => false

/-- Grant one waiting request of a class when a unit is free. -/
def State.grantUnit (s : State) (n u : Nat) : State :=
  let v := s.stove n
  let wants (k : Nat) (t : Ticket) := t.job.bind Job.unit == some u && !t.granted && v.first k t
  match v.nextJob (fun k t => wants k t && s.bypassed n t) with
  | some (k, e, t) =>
    match t.job with
    | some (.czOpen b) => (s.updBlk n b (fun x => { x with bypass := true, lane := some 6 })).finishTicket n k e 0
    | _ => s
  | none =>
    match v.freeUnit u, v.nextJob wants with
    | some l, some (k, e, t) => s.giveUnit n k e l t
    | _, _ => s

/-- The blocks a digest stream absorbs in all. -/
def Stove.streamBlocks (v : Stove) (t : Ticket) : Nat :=
  match t.job with
  | some (.dgAbs c src) => src.len / (if (Tab.getD v.ctxs c {}).alg % 2 == 1 then 128 else 64)
  | _ => 0

/-- The stream may pause: it is longer than a slice, and of such it has had its lane longest. -/
def Stove.mayPause (v : Stove) (slice : Nat) (t : Ticket) : Bool :=
  let long (t : Ticket) : Bool := t.granted && t.job.bind Job.unit == some 2 && slice != 0 && decide (slice < v.streamBlocks t)
  long t && v.jobs.all (fun j => !long j.2.2 || t.since ≤ j.2.2.since)

/-- A digest lane pauses its stream for one that waits (R291). -/
def State.pauseStream (s : State) (n k e : Nat) : State :=
  let v := s.stove n
  let t := (s.strand n k).ticket e
  if v.mayPause (s.get (F.DG_CTL_SLICE n)) t && (v.freeUnit 2).isNone then
    match v.nextJob (fun k t => t.job.bind Job.unit == some 2 && !t.granted && v.first k t) with
    | some (k2, e2, t2) =>
      (s.updStrand n k (fun x => x.updTicket e (fun t => { t with granted := false, sliced := true }))).giveUnit n k2 e2 t.lane t2
    | none => s
  else s

/-- The lanes of a class that finished what a released strand left there are free (R147). -/
def State.endOrphans (s : State) (n u : Nat) : State := s.updStove n (fun v => { v with orphans := v.orphans.filter (fun o => o.1 != u) })

/-- A ticketed instruction whose unit is granted at once when it is free. -/
def State.launched (s : State) (n k opc : Nat) (f : InsW) (legal : Bool) (unit : Option Nat) (cls : Option Nat)
    (job : State → Strand → Except Nat (State × Job)) : State :=
  s.onTurn n k opc f (fun s =>
    let t := s.takeTicket n k f.a legal unit job
    match cls with
    | some u => t.grantUnit n u
    | none => t)

/-- A ticketed instruction. -/
def State.launch (s : State) (n k opc : Nat) (f : InsW) (legal : Bool) (unit : Option Nat) (cls : Option Nat)
    (job : State → Strand → Except Nat (State × Job)) : Res := .next (s.launched n k opc f legal unit cls job)

/-- A job with the descriptors it names checked (R176). -/
def State.checked (s : State) (n : Nat) (ds : List Desc) (j : Job) : Except Nat (State × Job) :=
  match ds.findSome? (s.descFault n) with
  | some c => .error c
  | none => .ok (s, j)

/-! ### Data movement (R194, R195) -/

/-- CPY. -/
def execCpy (n k : Nat) (f : InsW) (s : State) : Res :=
  s.launch n k 0x60 f (isDesc f.b && isDesc f.c && f.x == 0 && f.imm == 0) none (some 4)
    (fun s x => s.checked n [x.desc f.b, x.desc f.c] (.cpy (x.desc f.b) (x.desc f.c)))

/-- FILL. -/
def execFill (n k : Nat) (f : InsW) (s : State) : Res :=
  s.launch n k 0x61 f (isDesc f.b && f.x == 0 && f.imm == 0) none (some 4)
    (fun s x => s.checked n [x.desc f.b] (.fill (x.desc f.b) (x.reg f.c)))

/-- CMP. -/
def execCmp (n k : Nat) (f : InsW) (s : State) : Res :=
  s.launch n k 0x62 f (isDesc f.b && isDesc f.c && f.x == 0 && f.imm == 0) none (some 4)
    (fun s x => s.checked n [x.desc f.b, x.desc f.c] (.cmp (x.desc f.b) (x.desc f.c)))

/-- POST. -/
def execPost (n k : Nat) (f : InsW) (s : State) : Res :=
  s.launch n k 0x63 f (f.c == 0 && f.x == 0 && f.imm == 0) none none (fun s x =>
    let ea := alignEa (x.reg f.b) 64
    if ea > 0xFFFC0 then .error 2 else .ok (s, .post (s.lmBytes n ea 64)))

/-- GR.ALLOC. -/
def execGrAlloc (n k : Nat) (f : InsW) (s : State) : Res :=
  s.launch n k 0x64 f (f.b == 0 && f.c == 0 && f.x == 0 && f.imm == 0) none none (fun s x =>
    let u := allocUser s.bel.nextId
    if x.freeEntry.isNone then .ok (s, .grAlloc u)
    else .ok ((s.updBel (fun b => { b with nextId := b.nextId + 1 })).request { chan := 4, user := u, atime := s.now }, .grAlloc u))

/-- GR.FREE (R195). -/
def execGrFree (n k : Nat) (f : InsW) (s : State) : Res :=
  .next (s.issue n k 0x65 f (f.a == 0 && f.c == 0 && f.x == 0 && f.imm == 0) none nextPc (fun s x =>
    let g := (x.reg f.b).toNat
    if g ≥ 12288 then .error 1 else .ok (s.freeGrateOf g)))

/-! ### Cinder (R196) -/

/-- CZ.OPEN. -/
def execCzOpen (n k : Nat) (f : InsW) (s : State) : Res :=
  s.launch n k 0x70 f (isDesc f.b && f.c == 0 && f.x.toNat < 8 && f.imm == 0 && (s.strand n k).block.isNone) (some 0) (some 0) (fun s x =>
    match s.descFault n (x.desc f.b) with
    | some c => .error c
    | none =>
      let b := (s.stove n).nextBlk
      if x.freeEntry.isNone then .ok (s, .czOpen b)
      else
        let blk : CzBlk := { strand := k, dst := x.desc f.b, limit := f.x.toNat + 1, bypass := s.getb (F.CZ_CTL_FORCE_RAW n) }
        let s := s.updStove n (fun v => { v with blocks := Tab.put v.blocks b blk, nextBlk := b + 1 })
        .ok (s.updStrand n k (fun y => { y with block := some b }), .czOpen b))

/-- CZ.PUT. -/
def execCzPut (n k : Nat) (f : InsW) (s : State) : Res :=
  s.launch n k 0x71 f (isDesc f.c && f.b == 0 && f.x == 0 && f.imm == 0) (some 0) none (fun s x =>
    let d := x.desc f.c
    match x.block.bind (fun b => (s.blk? n b).map (fun y => (b, y))) with
    | none => .error 1
    | some (b, y) =>
      let g := y.promised + d.len / 4096
      if d.len == 0 || d.len % 4096 != 0 || g > y.limit then .error 1
      else match s.descFault n d with
        | some c => .error c
        | none =>
          let closes := g == y.limit
          if x.freeEntry.isNone then .ok (s, .czPut b d closes)
          else
            let s := s.updBlk n b (fun y => { y with promised := g, isOpen := !closes })
            .ok (s.updStrand n k (fun z => { z with block := if closes then none else z.block }), .czPut b d closes))

/-- CZ.FLUSH. -/
def execCzFlush (n k : Nat) (f : InsW) (s : State) : Res :=
  s.launch n k 0x72 f (f.b == 0 && f.c == 0 && f.x == 0 && f.imm == 0) (some 0) none (fun s x =>
    match x.block with
    | none => .error 1
    | some b =>
      if x.freeEntry.isNone then .ok (s, .czFlush b)
      else .ok ((s.updBlk n b (fun y => { y with isOpen := false })).updStrand n k (fun z => { z with block := none }), .czFlush b))

/-- CZ.DEC. -/
def execCzDec (n k : Nat) (f : InsW) (s : State) : Res :=
  s.launch n k 0x73 f (isDesc f.b && isDesc f.c && f.x == 0 && f.imm == 0) (some 1) (some 1)
    (fun s x => s.checked n [x.desc f.b, x.desc f.c] (.czDec (x.desc f.b) (x.desc f.c)))

/-! ### Digest (R198) -/

/-- A digest context. -/
def State.ctx (s : State) (n c : Nat) : DgCtx := Tab.getD (s.stove n).ctxs c {}
def State.updCtx (s : State) (n c : Nat) (f : DgCtx → DgCtx) : State := s.updStove n (fun v => { v with ctxs := Tab.upd v.ctxs c {} f })

/-- The strand holds the context and can name it (R297). -/
def State.holds (s : State) (n k : Nat) (c : W64) : Bool :=
  c.toNat < 8 && (s.ctx n c.toNat).strand == k && ((s.ctx n c.toNat).state == 1 || (s.ctx n c.toNat).state == 2)

/-- Bytes of a digest. -/
def DgCtx.digestLen (c : DgCtx) : Nat := if c.alg % 2 == 1 then 48 else 32

/-- DG.ALLOC. -/
def execDgAlloc (n k : Nat) (f : InsW) (s : State) : Res :=
  s.launch n k 0x80 f (f.x.toNat < 4 && f.imm == 0) (some 2) none
    (fun s x => .ok (s, .dgAlloc f.x.toNat (min (x.reg f.b).toNat (2 ^ 61 - 1)) (x.reg f.c).toNat))

/-- DG.ABS. -/
def execDgAbs (n k : Nat) (f : InsW) (s : State) : Res :=
  s.launch n k 0x81 f (isDesc f.c && f.x == 0 && f.imm == 0) (some 2) (some 2) (fun s x =>
    if s.holds n k (x.reg f.b) then s.checked n [x.desc f.c] (.dgAbs (x.reg f.b).toNat (x.desc f.c)) else .error 1)

/-- DG.FIN. -/
def execDgFin (n k : Nat) (f : InsW) (s : State) : Res :=
  s.launch n k 0x82 f (f.x.toNat ≤ 8 && f.imm == 0) (some 2) (some 2) (fun s x =>
    if s.holds n k (x.reg f.b) then .ok (s, .dgFin (x.reg f.b).toNat (x.reg f.c) f.x.toNat) else .error 1)

/-- DG.RD: a result word, 0 before the status of DG.FIN has been returned. -/
def execDgRd (n k : Nat) (f : InsW) (s : State) : Res :=
  .next (s.issue n k 0x83 f (f.fmtI && f.imm.toNat < 8) (some 2) nextPc (fun s x =>
    if s.holds n k (x.reg f.b) then
      let c := s.ctx n (x.reg f.b).toNat
      .ok (s.setG n k f.a (if c.shown then BitVec.ofNat 64 (leAt c.res (8 * f.imm.toNat) 8) else 0))
    else .error 1))

/-- DG.CMP. -/
def execDgCmp (n k : Nat) (f : InsW) (s : State) : Res :=
  s.launch n k 0x84 f (isDesc f.c && f.x == 0 && f.imm == 0) (some 2) none (fun s x =>
    let d := x.desc f.c
    let c := s.ctx n (x.reg f.b).toNat
    if s.holds n k (x.reg f.b) && d.len != 0 && d.len ≤ c.digestLen then s.checked n [d] (.dgCmp (x.reg f.b).toNat d) else .error 1)

/-- A context whose release was asked for is free once no stream into it is left (R297); the tickets of its finished streams name it no more. -/
def State.freeCtx (s : State) (n c : Nat) : State :=
  if (s.ctx n c).state == 3 && !(s.stove n).jobs.any (fun j => j.2.2.job.bind Job.chain == some (0, c)) then
    let s := s.updCtx n c (fun x => { x with state := 0, msg := [], key := [] })
    (s.updStove n (fun v => { v with strands := Tab.mapVals v.strands (fun _ x => { x with
      tickets := Tab.mapVals x.tickets (fun _ t => if t.fin == some c then { t with fin := none } else t) }) })).tryErase
  else s

/-- DG.FREE. -/
def execDgFree (n k : Nat) (f : InsW) (s : State) : Res :=
  .next (s.issue n k 0x85 f (f.a == 0 && f.c == 0 && f.x == 0 && f.imm == 0) (some 2) nextPc (fun s x =>
    let c := (x.reg f.b).toNat
    if s.holds n k (x.reg f.b) then .ok ((s.updCtx n c (fun x => { x with state := 3 })).freeCtx n c) else .error 1))

/-! ### Cipher (R199) -/

/-- What the strand holds of the cipher lock, suspended or not (R306). -/
def Stove.hold (v : Stove) (k : Nat) : Option CiHold :=
  match v.lock, v.susp with
  | some h, some u => if h.strand == k then some h else if u.strand == k then some u else none
  | some h, none => if h.strand == k then some h else none
  | none, some u => if u.strand == k then some u else none
  | none, none => none

/-- CI.LOCK: the request is urgent as R305 states. -/
def execCiLock (n k : Nat) (f : InsW) (s : State) : Res :=
  s.launch n k 0x90 f (f.c == 0 && f.x.toNat < 2 && f.imm == 0) (some 3) none (fun s x =>
    if ((s.stove n).hold k).isSome then .error 1
    else
      let pgm := s.pgmOf n k
      .ok (s, .ciLock (x.reg f.b).toNat (f.x == 1 && ((1 ≤ pgm && pgm < 0x100) || s.getb (F.CI_CTL_URG_EXP n)))))

/-- The extra register of X[4:0]. -/
def InsWx (x : BitVec 9) : BitVec 5 := x.setWidth 5

/-- CI.XTS. -/
def execCiXts (n k : Nat) (f : InsW) (s : State) : Res :=
  s.launch n k 0x91 f (isDesc f.b && isDesc f.c && f.x.toNat < 64 && f.imm == 0) (some 3) none (fun s x =>
    match (s.stove n).hold k with
    | none => .error 1
    | some h =>
      if (x.desc f.c).len < 16 then .error 1
      else s.checked n [x.desc f.b, x.desc f.c] (.ciXts h.key (x.desc f.b) (x.desc f.c) (x.reg (InsWx f.x)) (bit f.x.toNat 5)))

/-- CI.GCM, with its parameter block. -/
def execCiGcm (n k : Nat) (f : InsW) (s : State) : Res :=
  s.launch n k 0x92 f (isDesc f.b && isDesc f.c && f.x.toNat < 64 && f.imm == 0) (some 3) none (fun s x =>
    match (s.stove n).hold k with
    | none => .error 1
    | some h =>
      let ea := alignEa (x.reg (InsWx f.x)) 16
      let p := s.lmBytes n ea 32
      if ea + 32 > 0x100000 || (leAt p 12 4 != 0 && leAt p 16 4 + leAt p 12 4 > 0x100000) || leAt p 20 4 + 16 > 0x100000 then .error 2
      else s.checked n [x.desc f.b, x.desc f.c] (.ciGcm h.key (x.desc f.b) (x.desc f.c) p (bit f.x.toNat 5)))

/-- CI.UNLK. A suspended strand gives up its saved state. -/
def execCiUnlk (n k : Nat) (f : InsW) (s : State) : Res :=
  .next (s.issue n k 0x93 f f.bare (some 3) nextPc (fun s _ =>
    let v := s.stove n
    if v.lock.any (fun (h : CiHold) => h.strand == k) then .ok (s.updStove n Stove.unlock).tryErase
    else if v.susp.any (fun (h : CiHold) => h.strand == k) then .ok (s.updStove n (fun v => { v with susp := none })).tryErase
    else .error 1))

/-! ### Request blocks (R200, R201) -/

/-- The descriptors of a parity job's members; none when one is not valid. -/
def parMembers (b : Bytes) : Nat → Option (List Desc)
  | 0 => some []
  | i + 1 =>
    match parMembers b i, Desc.ofBytes (slice b (16 + 16 * i) 16) with
    | some ds, some d => some (ds ++ [d])
    | _, _ => none

/-- PAR. -/
def execPar (n k : Nat) (f : InsW) (s : State) : Res :=
  s.launch n k 0xA0 f (f.c == 0 && f.x == 0 && f.imm == 0) (some 4) (some 3) (fun s x =>
    let ea := alignEa (x.reg f.b) 16
    if ea + 16 > 0x100000 then .error 2
    else
      let h := s.lmBytes n ea 16
      let kk := leAt h 0 1
      let m := leAt h 1 1
      let len := leAt h 4 4
      if kk < 1 || 29 < kk || m < 1 || 3 < m || leAt h 2 1 > 1 || len == 0 || len % 64 != 0 then .error 1
      else if ea + 16 + 16 * (kk + m) > 0x100000 then .error 2
      else
        let b := s.lmBytes n ea (16 + 16 * (kk + m))
        match parMembers b (kk + m) with
        | none => .error 1
        | some ds => if ds.any (fun d => d.len < len) then .error 1 else s.checked n ds (.par ea b))

/-- The local-memory address of a request block of `len` bytes, aligned to 64 (R200). -/
def blockAt (x : Strand) (b : BitVec 5) (len : Nat) : Except Nat Nat :=
  let ea := alignEa (x.reg b) 64
  if ea + len > 0x100000 then .error 2 else .ok ea

end Sys2Proof.Machine
end

