-- ==== Sys2Proof/Machine/StoveFinish.lean ====
section
/-! DEFINITION. What each unit of a Stove does when a stream ends (R183, R194-R201), block release (R222-R225), digest contexts and the
cipher lock (R290, R295, R304-R307), uncorrectable errors of a Stove. -/

namespace Sys2Proof.Machine

/-! ### DMA, parity -/

/-- The first index at which two strings differ, their common length when none does. -/
def firstDiff : Bytes → Bytes → Nat
  | a :: as, b :: bs => if a == b then firstDiff as bs + 1 else 0
  | _, _ => 0

/-- CPY: a read error at byte `err` ends it there. -/
def State.doCpy (s : State) (n k : Nat) (dst src : Desc) (err : Option Nat) : State × Nat :=
  let m := min src.len dst.len
  let stop := match s.badAt src err with
    | some o => min o m
    | none => m
  let s := s.preWrite dst stop
  let r := copyFrom dst src stop (s.mem n k) 0
  let code := if !r.2.2 then 2 else if stop < m then 3 else if src.len > dst.len then 1 else 0
  ((s.withMem n r.1).postWrite dst stop, statusWord code 0 r.2.1)

/-- FILL. -/
def State.doFill (s : State) (n k : Nat) (dst : Desc) (v : W64) : State × Nat :=
  let p := leBytes 8 v.toNat
  let r := s.writeDst n k dst ((List.range dst.len).map (fun i => p.getD (i % 8) 0))
  (r.1, statusWord r.2.2 0 r.2.1)

/-- CMP. -/
def State.doCmp (s : State) (n k : Nat) (x y : Desc) (err : Option Nat) : State × Nat :=
  let m := min x.len y.len
  let a := s.readSrc n k { x with len := m } err
  let b := s.readSrc n k { y with len := m } err
  let j := min a.1.length b.1.length
  let i := firstDiff a.1 b.1
  let st :=
    if i < j then statusWord 4 0 i
    else if a.2 == 2 || b.2 == 2 then statusWord 2 0 j
    else if a.2 == 3 || b.2 == 3 then statusWord 3 0 j
    else if x.len != y.len then statusWord 4 0 i
    else statusWord 0 0 i
  (s, st)

/-- The members of a parity job: whether the job writes a member, by its number. -/
def parOut (b : Bytes) (i : Nat) : Bool := if leAt b 2 1 == 0 then decide (leAt b 0 1 ≤ i) else bit (leAt b 8 4) i

/-- The members' descriptors, each as long as the job's LEN. -/
def parDescs (b : Bytes) : List Desc := ((parMembers b (leAt b 0 1 + leAt b 1 1)).getD []).map (fun d => { d with len := leAt b 4 4 })

/-- PAR: `err` names the member whose read fails. -/
def State.doPar (s : State) (n strand : Nat) (b : Bytes) (err : Option Nat) : State × Nat :=
  let k := leAt b 0 1
  let m := leAt b 1 1
  let len := leAt b 4 4
  let mask := leAt b 8 4
  let ds := parDescs b
  let out := parOut b
  let rd (i : Nat) := s.readSrc n strand (ds.getD i {}) (if err == some i then some 0 else none)
  let bad := ((List.range (k + m)).filter (fun i => !out i)).find? (fun i => (rd i).2 != 0)
  if leAt b 2 1 == 1 && m < ((List.range 32).filter (bit mask)).length then (s, statusWord 0x0A 0 0)
  else match bad with
    | some i => (s, statusWord (rd i).2 0 (rd i).1.length)
    | none =>
      match rebuildMembers k m len out (fun i => (rd i).1) with
      | none => (s, statusWord 0x0A 0 0)
      | some ms =>
        let r := ((List.range (k + m)).filter out).foldl (fun (a : State × Nat × Nat) i =>
          if a.2.2 != 0 then a
          else
            let w := a.1.writeDst n strand (ds.getD i {}) (ms.getD i [])
            (w.1, a.2.1 + w.2.1, w.2.2)) (s, 0, 0)
        (r.1, statusWord r.2.2 0 r.2.1)

/-! ### Cinder (R207, R222-R226) -/

/-- How a CZ.DEC ends: its counters and errors (R230, R231). -/
def State.czEnded (s : State) (n k lane code : Nat) : State :=
  let items := w1 n ++ w1 lane ++ w1 (s.pgmOf n k)
  let s := s.inc (F.CZ_DEC_CNT_COUNT n) 1
  if code == 5 then ((s.setb (F.CZ_ERR_DEC_OVER n) true).incSat (F.CZ_DEC_OVER_CNT_COUNT n) 1).recordMsOf 0x0512 n items
  else if code == 6 then ((s.setb (F.CZ_ERR_DEC_CRC n) true).incSat (F.CZ_DEC_CRC_CNT_COUNT n) 1).recordMsOf 0x0513 n items
  else if code == 7 then ((s.setb (F.CZ_ERR_DEC_HDR n) true).incSat (F.CZ_DEC_HDR_CNT_COUNT n) 1).recordMsOf 0x0514 n items
  else s

/-- Rows 1 to 3 of R226 on a header: the status, or none where the block is decoded. -/
def czRefused (h : Bytes) (srcLen dstLen : Nat) : Option Nat :=
  if !czHeaderOk h || 32 + leAt h 8 4 > srcLen then some 7 else if dstLen < leAt h 4 4 then some 1 else none

/-- CZ.DEC (R226): the header's checks come before anything more is read, and no byte beyond the block is. -/
def State.doCzDec (s : State) (n k lane : Nat) (dst src : Desc) (err : Option Nat) : State × Nat :=
  if src.len < 32 then (s.czEnded n k lane 7, statusWord 7 0 0)
  else
    let h := s.readSrc n k { src with len := 32 } err
    if h.2 != 0 then (s.czEnded n k lane 0, statusWord h.2 0 0)
    else
      let raw := b2n (czHeaderOk h.1 && bit (leAt h.1 3 1) 0)
      match czRefused h.1 src.len dst.len with
      | some c => (s.czEnded n k lane c, statusWord c raw 0)
      | none =>
        let r := s.readSrc n k { src with len := 32 + leAt h.1 8 4 } err
        if r.2 != 0 then (s.czEnded n k lane 0, statusWord r.2 raw 0)
        else
          let d := czDecode r.1 dst.len
          let w := s.writeDst n k dst d.out
          let code := if w.2.2 == 2 then 2 else d.code
          (w.1.czEnded n k lane code, statusWord code raw w.2.1)

/-- CZ.PUT absorbs its granules. One that fails marks the block failed and does not close it (R207): the block is the strand's open one again,
unless the strand has opened another, which ends it. A PUT that closes the block hands its ticket to the release. -/
def State.doCzPut (s : State) (n k e b : Nat) (src : Desc) (closes : Bool) (err : Option Nat) : State :=
  match s.blk? n b with
  | none => s.finishTicket n k e 0
  | some y =>
    let r := if y.bad.isSome then ([], y.bad.getD 0) else s.readSrc n k src err
    if r.2 == 0 then
      let s := (s.updBlk n b (fun y => { y with data := y.data ++ r.1, closer := if closes then some e else y.closer })).inc
        (F.CZ_IN_BYTES_COUNT n) r.1.length
      if closes then s.updStrand n k (fun x => x.updTicket e (fun t => { t with job := some (.czClose b) })) else s.finishTicket n k e 0
    else
      let s := s.updBlk n b (fun y => { y with bad := some r.2, isOpen := y.isOpen || closes, promised := y.promised - src.len / 4096 })
      let s := if !closes then s
        else if (s.strand n k).block.isNone then s.updStrand n k (fun x => { x with block := some b })
        else s.updStove n (fun v => { v with blocks := Tab.del v.blocks b })
      s.finishTicket n k e (statusWord r.2 0 r.1.length)

/-- Remove a block: its lane is free. -/
def State.dropBlk (s : State) (n b : Nat) : State := s.updStove n (fun v => { v with blocks := Tab.del v.blocks b })

/-- CZ.FLUSH closes its block early; an empty one ends at once. -/
def State.doCzFlush (s : State) (n k e b : Nat) : State :=
  match s.blk? n b with
  | none => s.finishTicket n k e 0
  | some y =>
    if y.promised == 0 && y.bad.isNone then (s.dropBlk n b).finishTicket n k e 0
    else (s.updBlk n b (fun y => { y with closer := some e })).updStrand n k (fun x => x.updTicket e (fun t => { t with job := some (.czClose b) }))

/-- A shadow mismatch on a lane (R222, R224). -/
def State.shadowMiss (s : State) (n lane pgm : Nat) : State :=
  let items := w1 n ++ w1 lane ++ w1 pgm
  let s := ((s.setb (F.CZ_ERR_RECODE n) true).incSat (F.CZ_RECODE_CNT_COUNT n) 1).recordMsOf 0x0510 n items
  let miss := Tab.getN (s.stove n).laneMiss lane + 1
  let s := s.updStove n (fun v => { v with laneMiss := Tab.putN v.laneMiss lane miss })
  if miss ≥ 2 then
    ((s.updStove n (fun v => { v with laneOff := setBit v.laneOff lane })).setb (F.CZ_ERR_LANE_OFF n) true).recordMsOf 0x0511 n items
  else s

/-- The bytes a good block is released as: in the bypass raw, coded or raw as R212 says, raw on a shadow mismatch (R222, R225). -/
def CzBlk.released (y : CzBlk) (miss : Bool) : Bytes :=
  if y.bypass then czRaw false y.data else if miss then czRaw true y.data else (czBlock y.data).1

/-- CZ_BLOCK_RELEASE: a closed block leaves its lane coded or raw (R222, R223); one its strand has left ends without a result (R147).
`mismatch` says the shadow decode differed. -/
def execCzBlockRelease (n b : Nat) (mismatch : Bool) (s : State) : Res :=
  .next (match s.blk? n b with
  | none => s
  | some y =>
    if y.strand == 4 then s.dropBlk n b
    else match y.closer, y.lane with
    | some e, some lane =>
      let k := y.strand
      if (s.stove n).fenced then s
      else match y.bad with
        | some code => (s.dropBlk n b).finishTicket n k e (statusWord code 0 0)
        | none =>
          let pgm := s.pgmOf n k
          let raw := y.bypass || (czBlock y.data).2
          let miss := !raw && mismatch
          let out := y.released miss
          let ws := y.dst.ddr out.length
          if !s.ddrMay [] ws then s.ddrWant [] ws
          else
            let s := if miss then s.shadowMiss n lane pgm
              else s.updStove n (fun v => { v with laneMiss := Tab.putN v.laneMiss lane 0 })
            let w := s.writeDst n k y.dst out
            let s := ((w.1.inc (F.CZ_BLK_CNT_COUNT n) 1).inc (F.CZ_RAW_CNT_COUNT n) (b2n (raw || miss))).inc (F.CZ_OUT_BYTES_COUNT n) w.2.1
            (s.dropBlk n b).finishTicket n k e
              (statusWord w.2.2 (b2n (raw || miss) + 2 * b2n miss) (if w.2.2 == 0 then out.length else w.2.1))
    | _, _ => s)

/-! ### Digest (R292-R300) -/

/-- A stream set TRUNC (R292). -/
def State.truncated (s : State) (n c pgm : Nat) : State :=
  ((s.setb (F.DG_ERR_TRUNC n) true).incSat (F.DG_TRUNC_CNT_COUNT n) 1).recordMsOf 0x0520 n (w1 n ++ w1 c ++ w1 pgm)

/-- How many bytes a context still takes: up to the declared length, and none after a TRUNC. -/
def DgCtx.room (x : DgCtx) : Nat := if x.trunc then 0 else x.decl - x.absd

/-- Offer `want` bytes to a context, of which the first are `bs`: what there is room for is absorbed. Answers the state, the bytes absorbed and
whether the stream sets TRUNC. -/
def State.absorb (s : State) (n c : Nat) (bs : Bytes) (want : Nat) : State × Nat × Bool :=
  let x := s.ctx n c
  let take := min bs.length x.room
  let trunc := x.trunc || x.room < want
  let s := s.updCtx n c (fun x => { x with msg := x.msg ++ bs.take take, absd := x.absd + take, trunc })
  (s.inc (F.DG_BYTES_COUNT n) take, take, trunc)

/-- DG.ABS: bytes beyond the declared length stay unread. -/
def State.doDgAbs (s : State) (n k c : Nat) (src : Desc) (sliced : Bool) (err : Option Nat) : State × Nat :=
  if !(s.ctx n c).res.isEmpty then (s, statusWord 0 8 0)
  else
    let m := min src.len (s.ctx n c).room
    let r := s.readSrc n k { src with len := m } (err.filter (· < m))
    let a := s.absorb n c r.1 (if r.2 == 0 then src.len else r.1.length)
    let s := if a.2.2 then a.1.truncated n c (s.pgmOf n k) else a.1
    (s, statusWord r.2 (b2n a.2.2 + 4 * b2n sliced) a.2.1)

/-- The digest of a context's message. -/
def DgCtx.digest (x : DgCtx) : Bytes :=
  match x.alg with
  | 0 => sha256 x.msg
  | 1 => sha384 x.msg
  | 2 => hmac256 x.key x.msg
  | _ => hmac384 x.key x.msg

/-- DG.FIN (R293). -/
def State.doDgFin (s : State) (n k c : Nat) (v : W64) (len : Nat) (sliced : Bool) : State × Nat :=
  if !(s.ctx n c).res.isEmpty then (s, statusWord 0 8 0)
  else
    let a := s.absorb n c (leBytes len v.toNat) len
    let s := if a.2.2 then a.1.truncated n c (s.pgmOf n k) else a.1
    let x := s.ctx n c
    let short := x.absd < x.decl
    let s := s.updCtx n c (fun x => { x with
      res := x.digest, resNum := (x.resNum + 1) % 256, short, state := if x.state == 1 then 2 else x.state })
    (s, statusWord 0 (b2n a.2.2 + 2 * b2n short + 4 * b2n sliced) x.absd)

/-- An improper verdict pair fences the Stove (R298, R300). -/
def State.badVerdict (s : State) (n c vb vbn : Nat) : State :=
  let s := s.updCtx n c (fun x => { x with vb, vbn })
  ((s.setb (F.DG_ERR_VERDICT n) true).recordMsOf 0x0521 n (w1 n ++ w1 c ++ w1 (s.pgmOf n (s.ctx n c).strand) ++ w1 vb ++ w1 vbn)).fence n 0x10

/-- The pair of a comparison fails its check (R298). Which improper pair it is the spec does not say: a free value. -/
def State.badPair (s : State) (n c : Nat) : State :=
  let v := s.freeValue.toNat
  let vb := v % 256
  let vbn := v / 256 % 256
  let proper := (vb == 0x3C || vb == 0xC3) && Nat.xor vb vbn == 0xFF
  (s.taken 1).badVerdict n c vb (if proper then vb else vbn)

/-- DG.CMP (R298). -/
def State.doDgCmp (s : State) (n k c : Nat) (ref : Desc) (err : Option Nat) : State × Nat :=
  let x := s.ctx n c
  let r := s.readSrc n k ref err
  if r.2 != 0 then (s, statusWord r.2 0 r.1.length)
  else
    let fin := !x.res.isEmpty
    let hit := fin && x.res.take ref.len == r.1
    let vb := if hit then 0x3C else 0xC3
    (s.updCtx n c (fun x => { x with vb, vbn := 0xFF - vb }), statusWord 0 vb (if fin then ref.len else 0))

/-! ### Cipher (R309-R311) -/

/-- Whole 16-byte blocks of what was read when the read failed. -/
def wholeBlocks (b : Bytes) : Bytes := b.take (b.length / 16 * 16)

/-- CI.XTS (R309). -/
def State.doCiXts (s : State) (n k : Nat) (key : Bytes) (dst src : Desc) (tweak : W64) (dec : Bool) (err : Option Nat) : State × Nat :=
  let r := s.readSrc n k src err
  let data := if r.2 == 0 then r.1 else wholeBlocks r.1
  let out := if data.length < 16 then [] else xts key dec tweak.toNat data
  let w := s.writeDst n k dst out
  (w.1.inc (F.CI_BYTES_COUNT n) data.length, statusWord (if r.2 != 0 then r.2 else w.2.2) 0 w.2.1)

/-- A GCM authentication failure (R311). -/
def State.tagFail (s : State) (n k : Nat) : State :=
  ((s.setb (F.CI_ERR_TAG_FAIL n) true).incSat (F.CI_TAG_FAIL_CNT_COUNT n) 1).recordMs 0x0C01 (w1 n ++ w1 (s.pgmOf n k))

/-- CI.GCM (R310, R311). `changed` says the second pass of a decrypt met other bytes than the first. -/
def State.doCiGcm (s : State) (n k : Nat) (key : Bytes) (dst src : Desc) (p : Bytes) (dec : Bool) (err : Option Nat) (changed : Bool) :
    State × Nat :=
  let k1 := key.take 32
  let iv := p.take 12
  let aad := s.lmBytes n (leAt p 16 4) (leAt p 12 4)
  let tagAt := leAt p 20 4
  if src.len == 0 then (s, statusWord 0 0 0)
  else if dec && dst.len < src.len then (s, statusWord 1 0 0)
  else
    let r := s.readSrc n k src err
    let s := s.inc (F.CI_BYTES_COUNT n) r.1.length
    if dec then
      if r.2 != 0 then (s, statusWord r.2 0 0)
      else if gcmTag k1 iv aad r.1 != s.lmBytes n tagAt 16 then (s.tagFail n k, statusWord 8 0 0)
      else if changed then ((s.writeDst n k dst (zeroBytes src.len)).1.tagFail n k, statusWord 8 0 0)
      else
        let w := s.writeDst n k dst (gcmCrypt k1 iv r.1)
        (w.1, statusWord w.2.2 0 w.2.1)
    else
      let data := if r.2 == 0 then r.1 else wholeBlocks r.1
      let c := gcmCrypt k1 iv data
      let w := s.writeDst n k dst c
      let code := if r.2 != 0 then r.2 else w.2.2
      ((if code == 0 then w.1.lmWrite n tagAt (gcmTag k1 iv aad c) else w.1), statusWord code 0 w.2.1)

/-! ### STREAM_FINISH -/

/-- The grate a request was granted. -/
def State.grantedGrate (s : State) (user : Nat) : Option Nat := (s.pool.held.find? (fun e => e.2.user == user)).map (·.1)

/-- A job that has its unit and its turn ends. `err` is where its source's read fails; `fault` is 1 for an improper verdict pair (R298,
R311), 2 for a second pass that differs (R311). A Creterlink request ends OK or, with `err`, UNIT_ERR (R200). -/
def State.finishJob (s : State) (n k e : Nat) (t : Ticket) (j : Job) (err : Option Nat) (fault : Nat) : State :=
  let done (r : State × Nat) := r.1.finishTicket n k e r.2
  match j with
  | .cpy d x => done (s.doCpy n k d x err)
  | .fill d v => done (s.doFill n k d v)
  | .cmp x y => done (s.doCmp n k x y err)
  | .par _ b => done (s.doPar n k b err)
  | .post b =>
    let w : WorkItem := { bytes := b }
    match s.chooseStove w.pgm w.kind with
    | none => s.finishTicket n k e (statusWord 0x0B 0 0)
    | some m => if (s.stove m).queue.length < 256 then ((s.postItem w).getD s).finishTicket n k e 0 else s
  | .grAlloc u =>
    match s.grantedGrate u with
    | some g => s.finishTicket n k e (statusWord 0 0 g)
    | none => s
  | .czPut b d c => s.doCzPut n k e b d c err
  | .czFlush b => s.doCzFlush n k e b
  | .czDec d x => done (s.doCzDec n k t.lane d x err)
  | .dgAbs c d => (done (s.doDgAbs n k c d t.sliced err)).freeCtx n c
  | .dgFin c v m =>
    let r := s.doDgFin n k c v m t.sliced
    ((done r).updStrand n k (fun x => x.updTicket e (fun t => { t with fin := some c }))).freeCtx n c
  | .dgCmp c d => if fault == 1 then s.badPair n c else (done (s.doDgCmp n k c d err)).freeCtx n c
  | .ciXts key d x w dec => done (s.doCiXts n k key d x w dec err)
  | .ciGcm key d x p dec =>
    if dec && fault == 1 then
      ((s.setb (F.CI_ERR_VERDICT n) true).recordMs 0x0C03 (w1 n ++ w1 (s.pgmOf n k))).fence n 0x10
    else done (s.doCiGcm n k key d x p dec err (fault == 2))
  | .crl _ _ => s.finishTicket n k e (match err with
    | some c => statusWord 0x0C c 0
    | none => 0)
  | _ => s

/-- The job's unit is granted, its turn has come, its block has a lane, and its strand's cipher is not suspended. -/
def State.canFinish (s : State) (n k : Nat) (t : Ticket) (j : Job) : Bool :=
  let v := s.stove n
  (j.unit.isNone || t.granted) && v.first k t &&
  match j with
  | .czPut b _ _ => (s.blk? n b).any (fun y => y.lane.isSome)
  | .czFlush b => (s.blk? n b).any (fun y => y.lane.isSome)
  | .ciXts _ _ _ _ _ => !v.susp.any (fun (h : CiHold) => h.strand == k)
  | .ciGcm _ _ _ _ _ => !v.susp.any (fun (h : CiHold) => h.strand == k)
  | _ => true

/-- The first bytes of a CZ.DEC's source and of its destination that R226 lets it reach. -/
def State.decReach (s : State) (n k : Nat) (dst src : Desc) : Nat × Nat :=
  let h := (s.readSrc n k { src with len := min 32 src.len } none).1
  if src.len < 32 then (0, 0)
  else match czRefused h src.len dst.len with
    | some _ => (32, 0)
    | none => (32 + leAt h 8 4, leAt h 4 4)

/-- The ranges of DDR a job reads. -/
def State.jobReads (s : State) (n k : Nat) : Job → List (Nat × Nat)
  | .cpy d x => x.ddr (min d.len x.len)
  | .cmp x y => x.ddr (min x.len y.len) ++ y.ddr (min x.len y.len)
  | .czPut b x _ => if (s.blk? n b).any (fun y => y.bad.isSome) then [] else x.ddr x.len
  | .czDec d x => if s.ddrMay (x.ddr (min 32 x.len)) [] then x.ddr (s.decReach n k d x).1 else x.ddr 32
  | .dgAbs c x => x.ddr (if (s.ctx n c).res.isEmpty then min x.len (s.ctx n c).room else 0)
  | .dgCmp _ x | .ciXts _ _ x _ _ => x.ddr x.len
  | .ciGcm _ d x _ dec => if dec && d.len < x.len then [] else x.ddr x.len
  | .par _ b => (parDescs b).zipIdx.flatMap (fun d => if parOut b d.2 then [] else d.1.ddr d.1.len)
  | _ => []

/-- The ranges of DDR a job writes. -/
def State.jobWrites (s : State) (n k : Nat) : Job → List (Nat × Nat)
  | .cpy d x => d.ddr (min d.len x.len)
  | .fill d _ => d.ddr d.len
  | .czDec d x => d.ddr (s.decReach n k d x).2
  | .ciXts _ d x _ _ => d.ddr (min d.len x.len)
  | .ciGcm _ d x _ dec => if dec && d.len < x.len then [] else d.ddr (min d.len x.len)
  | .par _ b => (parDescs b).zipIdx.flatMap (fun d => if parOut b d.2 then d.1.ddr d.1.len else [])
  | _ => []

/-- The header of a CZ.DEC's source lies in DDR before it is looked at: the merging buffer's entries of its lines drain (R277). -/
def State.drainHeader (s : State) : Job → State
  | .czDec _ x => (x.ddr 32).foldl (fun s r => s.extRead r.1 r.2) s
  | _ => s

/-- STREAM_FINISH: a unit finishes the stream of a ticket and its status becomes available (R185). While a host holds a window line that the
stream reads or writes in DDR, the snoops are sent and it does not finish (R51, R176). -/
def execStreamFinish (n k e : Nat) (err : Option Nat) (fault : Nat) (s : State) : Res :=
  let t := (s.strand n k).ticket e
  .next (match t.job with
    | some j =>
      if !(s.answers dStv && !(s.stove n).fenced && s.canFinish n k t j) then s
      else
        let s := s.drainHeader j
        let rs := s.jobReads n k j
        let ws := s.jobWrites n k j
        if s.ddrMay rs ws then (s.ddrLooks rs).finishJob n k e t j err fault else s.ddrWant rs ws
    | none => s)

/-! ### Contexts and the cipher lock -/

/-- A slot may be named by a program (R313). -/
def State.mayName (s : State) (slot pgm : Nat) : Bool :=
  slot < 4096 && match Tab.find s.keys.slots slot with
    | some k => k.cls == 0 || (k.cls == 1 && 1 ≤ pgm && pgm < 0x100)
    | none => false

/-- A request that names a software slot waits while an erase step runs (R315). -/
def State.eraseWait (s : State) (slot : Nat) : Bool := s.keys.erase.isSome && 16 ≤ slot

/-- A request that may not name its slot. -/
def State.keyDenied (s : State) (n k e : Nat) : State :=
  ((s.setb F.KEY_ERR_KEY_DENIED true).recordMs 0x0C02 (w1 n ++ w1 (s.pgmOf n k))).finishTicket n k e (statusWord 9 0 0)

/-- Contexts a strand holds. -/
def Stove.ctxsOf (v : Stove) (k : Nat) : Nat := v.ctxs.countP (fun c => c.2.state != 0 && c.2.strand == k)

/-- R290: a third context only while the free ones outnumber what the other strands need to reach two. -/
def Stove.ctxAllowed (v : Stove) (k : Nat) : Bool :=
  let free := 8 - v.ctxs.countP (fun c => c.2.state != 0)
  let need := ((List.range 4).filter (· != k)).foldl (fun m j => m + (2 - v.ctxsOf j)) 0
  0 < free && (v.ctxsOf k < 2 || need < free)

/-- DG_CONTEXT_GRANT: the next waiting DG.ALLOC that can be served is granted a context or denied its key (R290, R295). -/
def execDgContextGrant (n : Nat) (s : State) : Res :=
  let v := s.stove n
  let denied (k : Nat) (alg slot : Nat) := 2 ≤ alg && !s.mayName slot (s.pgmOf n k)
  let ok (k : Nat) (t : Ticket) : Bool := match t.job with
    | some (.dgAlloc alg _ slot) => !(2 ≤ alg && s.eraseWait slot) && (denied k alg slot || v.ctxAllowed k)
    | _ => false
  .next (if v.fenced || !s.answers dStv then s
  else match v.nextJob ok with
  | some (k, e, t) =>
    match t.job with
    | some (.dgAlloc alg len slot) =>
      if denied k alg slot then
        ((s.setb (F.DG_ERR_KEY_DENIED n) true).recordMsOf 0x0522 n (w1 n ++ w1 0 ++ w1 (s.pgmOf n k))).keyDenied n k e
      else match (List.range 8).find? (fun c => (s.ctx n c).state == 0) with
        | none => s
        | some c =>
          let key := if 2 ≤ alg then s.slotK1 slot else []
          let s := s.updCtx n c (fun x => {
            state := 1, alg, strand := k, decl := len, key, resNum := x.resNum, vb := x.vb, vbn := x.vbn
            keySlot := if 2 ≤ alg then some slot else none })
          s.finishTicket n k e (statusWord 0 c 0)
    | _ => s
  | none => s)

/-- CIPHER_LOCK_GRANT: the next waiting CI.LOCK is granted or denied; an urgent one suspends a normal holder (R304-R307). -/
def execCipherLockGrant (n : Nat) (s : State) : Res :=
  let v := s.stove n
  let wants (urgent : Bool) (_ : Nat) (t : Ticket) : Bool := match t.job with
    | some (.ciLock slot u) => u == urgent && !s.eraseWait slot
    | _ => false
  let urgent := v.nextJob (wants true)
  let pick := if urgent.isSome then urgent else v.nextJob (wants false)
  let free := v.lock.isNone
  let preempts := urgent.isSome && v.lock.any (fun h => !h.urgent) && v.susp.isNone
  .next (if v.fenced || !s.answers dStv then s
  else match pick with
  | some (k, e, t) =>
    match t.job with
    | some (.ciLock slot u) =>
      if !(free || preempts) then s
      else if !s.mayName slot (s.pgmOf n k) then
        (((s.setb (F.CI_ERR_KEY_DENIED n) true).incSat (F.CI_DENY_CNT_COUNT n) 1)).keyDenied n k e
      else
        let key := ((Tab.find s.keys.slots slot).map (·.key)).getD []
        let s := if free then s else s.incSat (F.CI_SUSP_CNT_COUNT n) 1
        let s := s.updStove n (fun v => { v with lock := some { strand := k, urgent := u, slot, key }, susp := if free then v.susp else v.lock })
        s.finishTicket n k e 0
    | _ => s
  | none => s)

/-- Every strand that still uses a software slot faults (R315, step 3). -/
def State.faultSoft (s : State) : State :=
  (List.range 16).foldl (fun s n => (List.range 4).foldl (fun s k => if (s.stove n).usesSoft k then s.strandFault n k 7 else s) s) s

/-- DG_CTX_ECC: an uncorrectable error in a context zeroes its verdict bytes and fences the Stove (R300). -/
def execDgCtxEcc (n c : Nat) (s : State) : Res := .next (if (s.stove n).fenced then s else s.badVerdict n c 0 0)

/-- STOVE_ECC_ERROR: an uncorrectable error in the program store (0x12) or in local memory (0x13) fences the Stove (R165). -/
def execStoveEccError (n : Nat) (lmem : Bool) (s : State) : Res := .next (s.fence n (if lmem then 0x13 else 0x12))

end Sys2Proof.Machine
end

