-- ==== Sys2Proof/Machine/StoveCtl.lean ====
section
/-! DEFINITION. How work and programs reach a Stove (R148-R161): firmware posts, dispatch, the work-item limit, image loads and unloads,
policy words. -/

namespace Sys2Proof.Machine

/-- The stream a KIND 4 item belongs to has one more item (R440). -/
def State.countItem (s : State) (w : WorkItem) : State :=
  if w.kind == 4 then s.updStream (w.arg % 16) (fun x => { x with items := x.items + 1 }) else s

/-- A write to STV_WI_POST: word 15 posts the item that the sixteen words hold (R148). What becomes of it when no Stove qualifies the spec does not
say: the model drops it without an event (log 133). -/
def State.writePost (s : State) (n w v : Nat) : State :=
  let s := s.updStove n (fun x => { x with post := Tab.putN x.post w (v % 2 ^ 32) })
  if w != 15 then s
  else
    let b := (List.range 16).flatMap (fun i => leBytes 4 (Tab.getN (s.stove n).post i))
    let item : WorkItem := { bytes := b }
    match s.postItem item with
    | some t => t.countItem item
    | none => s

/-- STV_WI_POST: a write to word 15 of STV_WI_POST of Stove `n` (R148). -/
def execStvWiPost (r : Req) (n value : Nat) (s : State) : Res :=
  .next (s.withWrite r (R.STV_WI_POST + 0x200000 * n + 60) (fun s => s.writePost n 15 value))

/-- The item a strand takes next with the queue left: the oldest (R150). During phase 1 of a Quench the destage of staged writes (KINDs 0 and 2)
comes before every other kind (R518); in phase 2 nothing is taken (R521). -/
def State.nextItem (s : State) (q : List WorkItem) : Option (WorkItem × List WorkItem) :=
  if s.qphase == 2 then none
  else match q.findIdx? (fun w => s.qphase == 0 || w.kind == 0 || w.kind == 2) with
    | some i => (q[i]?).map (fun w => (w, q.eraseIdx i))
    | none => q.head?.map (fun w => (w, q.drop 1))

/-- STRAND_DISPATCH: idle strand `k` takes an item of its Stove's queue (R150). -/
def execStrandDispatch (n k : Nat) (s : State) : Res :=
  .next (match s.nextItem (s.stove n).queue with
  | none => s
  | some (w, rest) =>
    if !(s.stoveTakes n && s.answers dStv && (s.strand n k).st == .idle) then s
    else
      let p := s.pslot n w.slot
      let a := 0xFFF00 + 64 * k
      let s := (s.updStove n (fun v => { v with queue := rest })).lmWrite n a (slice w.bytes 0 64)
      let s := s.updStrand n k (fun x => {
        st := .running, g := [(1, BitVec.ofNat 64 a)], tickets := x.tickets, item := some w, slot := w.slot, startAt := s.cyc
        fltCode := x.fltCode, fltPc := x.fltPc, pc := 64 * p.base64 + p.entries.getD w.kind 0 })
      s.retryHeld)

/-- WI_TIMEOUT: strand `k` has run its item for longer than STV_WI_TO (R151). -/
def execWiTimeout (n k : Nat) (s : State) : Res :=
  let x := s.strand n k
  let lim := s.get (F.STV_WI_TO_TIMEOUT n)
  .next (if x.st == .running && lim != 0 && x.startAt + us lim < s.cyc && !(s.stove n).fenced then s.strandFault n k 5 else s)

/-- A strand whose STV_FAULT bit is written 1 is idle again (R164). -/
def State.clearStrands (s : State) (n mask : Nat) : State :=
  (List.range 4).foldl (fun s k =>
    if bit mask k && s.bitOf (F.STV_FAULT_STRAND n) k then
      (s.setBitOf (F.STV_FAULT_STRAND n) k false).updStrand n k (fun x => { tickets := x.tickets, fltCode := x.fltCode, fltPc := x.fltPc })
    else s) s

/-- STRAND_FAULT_CLEAR: a write to STV_FAULT of Stove `n`. -/
def execStrandFaultClear (r : Req) (n value : Nat) (s : State) : Res :=
  .next (s.withWrite r (R.STV_FAULT + 0x200000 * n) (fun s => s.clearStrands n value))

/-- STV_FENCE_WRITE: 1 written to STV_CTL.FENCE (R165); the cause is not one of the table, so UNIT_CODE stays 0. -/
def execStvFenceWrite (r : Req) (n : Nat) (s : State) : Res :=
  .next (s.withWrite r (R.STV_CTL + 0x200000 * n) (fun s => s.fence n 0))

/-! ### Loading (R152-R158) -/

/-- Change a program slot. -/
def State.updSlot (s : State) (n i : Nat) (f : PSlot → PSlot) : State :=
  s.updStove n (fun v => { v with pslots := Tab.upd v.pslots i {} f })

/-- The code size of an image in units of 64 instructions. -/
def imageSize64 (h : Bytes) : Nat := (leAt h 12 4 + 63) / 64

/-- Two ranges share something. -/
def overlaps (a m b n : Nat) : Bool := 0 < m && 0 < n && a < b + n && b < a + m

/-- STV_PKH entry `k` (1 to 3) as bytes. -/
def State.pkh (s : State) (k : Nat) : Bytes := (List.range 12).flatMap (fun w => leBytes 4 (s.get (F.STV_PKH_HASH 0 (k - 1) w)))

/-- The key an image is signed with: 0 the Lanikel key, 1 to 3 an STV_PKH entry that is not all zero (R154). -/
def State.keyOfImage (s : State) (h : Bytes) : Option Nat :=
  let d := sha384 (slice h 96 96)
  if d == Config.rootKeyHash then some 0
  else [1, 2, 3].find? (fun k => d == s.pkh k && (s.pkh k).any (fun b => b != 0))

/-- The security posture of the accepted option copy. -/
def State.posture (s : State) : Nat := leAt s.jnl.cur 16 4

/-- Checks 1 to 7 of R156 on the header of an image; 0 when all pass. -/
def State.loadCheck (s : State) (n slot base64 : Nat) (h : Bytes) : Nat :=
  let v := s.stove n
  let size := imageSize64 h
  let pgm := leAt h 8 2
  let unsigned := bit (leAt h 6 2) 0
  let used := v.pslots.filter (fun e => e.2.state != 0)
  let key := s.keyOfImage h
  let idOk := 1 ≤ pgm && pgm < 0xFFFF && (0x100 ≤ pgm || (!unsigned && key == some 0))
  if (s.pslot n slot).state != 0 then 0x09
  else if leAt h 0 4 != 0x53545650 then 0x01
  else if leAt h 4 2 != 1 then 0x02
  else if leAt h 12 4 == 0 || base64 + size > 128 || used.any (fun e => overlaps base64 size e.2.base64 e.2.size64) then 0x03
  else if leAt h 20 4 + leAt h 16 4 > 0xFFF00 || used.any (fun e => overlaps (leAt h 20 4) (leAt h 16 4) e.2.dataOff e.2.dataLen) then 0x04
  else if !idOk then 0x0A
  else if unsigned then (if bit s.posture 1 then 0 else 0x08)
  else if key.isNone then 0x05
  else if ecdsaP384 (slice h 96 96) (sha384 (h.take 192)) (slice h 192 96) then 0
  else 0x06

/-- STV_STS.UNSIGNED shows whether a slot marked UNSIGNED is not empty. -/
def State.showUnsigned (s : State) (n : Nat) : State :=
  s.setb (F.STV_STS_UNSIGNED n) ((s.stove n).pslots.any (fun e => e.2.state != 0 && e.2.unsigned))

/-- A load GO (R156): the header is read from DDR and its checks are made; the load ends at LOAD_DONE. -/
def State.loadGo (s : State) (n slot base64 : Nat) : State :=
  let addr := s.get (F.STV_LOAD_ADDR_ADDR n) / 4096 * 4096
  let s := s.ddrLook addr 512
  let h := Tab.readBytes s.ddr addr 512
  let res := if (s.ddrBad addr 512).isSome && (s.pslot n slot).state == 0 then 0x0B else s.loadCheck n slot base64 h
  let s := s.updStove n (fun v => { v with load := some { slot, addr, header := h, result := res } })
  let s := s.setb (F.STV_LOAD_STS_BUSY n) true
  if res == 0x09 then s
  else (s.updSlot n slot (fun _ => {
    state := 1, unsigned := bit (leAt h 6 2) 0, key := (s.keyOfImage h).getD 0, pgm := leAt h 8 2, version := leAt h 10 2
    size64 := imageSize64 h, base64, units := leAt h 24 2, entries := (List.range 8).map (fun i => leAt h (32 + 2 * i) 2)
    dataOff := leAt h 20 4, dataLen := leAt h 16 4 })).showUnsigned n

/-- An unload GO (R158): the slot drains; one with nothing left is empty at SLOT_DRAINED. -/
def State.unloadGo (s : State) (n slot : Nat) : State :=
  if (s.pslot n slot).state == 2 then s.updSlot n slot (fun p => { p with state := 3 }) else s

/-- A write to STV_LOAD_CTL. -/
def State.writeLoadCtl (s : State) (n value : Nat) : State :=
  let op := bits value 29 2
  let s := ((if op == 1 || op == 2 then s.set (F.STV_LOAD_CTL_OP n) op else s).set (F.STV_LOAD_CTL_SLOT n) (bits value 16 4)).set (F.STV_LOAD_CTL_BASE64 n) (bits value 0 7)
  if !bit value 31 then s
  else if op == 1 then (if s.getb (F.STV_LOAD_STS_BUSY n) then s else s.loadGo n (bits value 16 4) (bits value 0 7))
  else if op == 2 then s.unloadGo n (bits value 16 4)
  else s

/-- PROGRAM_LOAD: a write to STV_LOAD_CTL with GO 1 and OP 1 (R156). -/
def execProgramLoad (r : Req) (n value : Nat) (s : State) : Res :=
  .next (s.withWrite r (R.STV_LOAD_CTL + 0x200000 * n) (fun s => s.writeLoadCtl n (putBits (setBit value 31) 29 2 1)))

/-- PROGRAM_UNLOAD: a write to STV_LOAD_CTL with GO 1 and OP 2 (R158). -/
def execProgramUnload (r : Req) (n value : Nat) (s : State) : Res :=
  .next (s.withWrite r (R.STV_LOAD_CTL + 0x200000 * n) (fun s => s.writeLoadCtl n (putBits (setBit value 31) 29 2 2)))

/-- Put a body into the program store: instructions of eight bytes from a program-store address on. -/
def storeCode (m : Tab W64) (a : Nat) : Nat → Bytes → Tab W64
  | 0, _ => m
  | k + 1, b => storeCode (Tab.put m a (BitVec.ofNat 64 (leAt b 0 8))) (a + 1) k (b.drop 8)

/-- LOAD_DONE: the load of Stove `n` ends (R156, R157): the body is read and written, and its digest is computed over what was written. The
header is the one the checks at GO have read. `dmaErr` says a DDR read failed. -/
def execLoadDone (n : Nat) (dmaErr : Bool) (s : State) : Res :=
  .next (match (s.stove n).load with
  | none => s
  | some l =>
    let p := s.pslot n l.slot
    let words := leAt l.header 12 4
    let size := 8 * words + p.dataLen
    let s := if l.result == 0 then s.ddrLook (l.addr + 512) size else s
    let dmaErr := dmaErr || (s.ddrBad (l.addr + 512) size).isSome
    let body := Tab.readBytes s.ddr (l.addr + 512) size
    let result :=
      if l.result != 0 then l.result
      else if dmaErr then 0x0B
      else if sha384 body != slice l.header 48 48 then 0x07
      else 0
    let written := l.result == 0 && !dmaErr
    let s := s.updStove n (fun v => { v with load := none })
    let s := if written then
        (s.updStove n (fun v => { v with pstore := storeCode v.pstore (64 * p.base64) words body })).lmWrite n p.dataOff (body.drop (8 * words))
      else s
    let s := if result == 0x09 then s
      else if result == 0 then s.updSlot n l.slot (fun p => { p with state := 2 })
      else s.updSlot n l.slot (fun _ => {})
    let s := ((s.setb (F.STV_LOAD_STS_BUSY n) false).set (F.STV_LOAD_STS_RESULT n) result).showUnsigned n
    (s.record (if result == 0 then 0x0503 else 0x0504) (w1 n ++ w1 p.pgm ++ w1 result)).retryHeld)

/-- SLOT_DRAINED: the last item of a DRAINING slot has ended (R158). -/
def execSlotDrained (n i : Nat) (s : State) : Res :=
  let v := s.stove n
  .next (if (s.pslot n i).state == 3 && !v.queue.any (fun w => w.slot == i) &&
      !v.strands.any (fun x => x.2.item.isSome && x.2.slot == i) then
    (s.updSlot n i (fun _ => {})).showUnsigned n
  else s)

/-! ### Policy words (R160, R161) -/

/-- The bits of a policy word that are not reserved. -/
def policyBits (v : Nat) : Nat := bits v 16 16 * 2 ^ 16 + bits v 8 1 * 2 ^ 8 + v % 128

/-- A suspended volume's entry is written again (R363): bit 0 configuration, 1 size, 2 policy word. -/
def State.restored (s : State) (v i : Nat) : State := s.updVol v (fun x => { x with susp := clrBit x.susp i })

/-- A write of the selected volume's policy word. -/
def State.writePolicy (s : State) (value : Nat) : State :=
  let v := s.get (F.STV_POL_SEL_VOL 0)
  (s.updVol v (fun x => { x with policy := policyBits value })).restored v 2

/-- POLICY_WRITE: a write to STV_POL of Stove 0. -/
def execPolicyWrite (r : Req) (value : Nat) (s : State) : Res :=
  .next (s.withWrite r R.STV_POL (fun s => s.writePolicy value))

end Sys2Proof.Machine
end

