-- ==== Sys2Proof/Machine/Stripe.lean ====
section
/-! DEFINITION. The stripe table (R334, R335, R339, R344, R345, R351-R354): entries, members, rows, live counts, failed members. -/

namespace Sys2Proof.Machine

/-- Change the drive side. -/
def State.updDrv (s : State) (f : DrvSt → DrvSt) : State := { s with drv := f s.drv }

/-- A drive's entry, and its change. -/
def State.drive (s : State) (d : Nat) : Drive := Tab.getD s.drv.drives d {}
def State.updDrive (s : State) (d : Nat) (f : Drive → Drive) : State :=
  s.updDrv (fun v => { v with drives := Tab.upd v.drives d {} f })

/-- Fields of DRV_DRV_CFG. -/
def Drive.present (d : Drive) : Bool := bit d.cfg 63
def Drive.spare (d : Drive) : Bool := bit d.cfg 62
def Drive.port (d : Drive) : Nat := bits d.cfg 51 5
def Drive.zoneLbas (d : Drive) : Nat := 2 ^ bits d.cfg 56 5
def Drive.online (d : Drive) : Bool := d.state == 1

/-! ### Entries (R344) -/

/-- The 320 bytes of a stripe table entry. -/
def Stripe.entry (t : Stripe) : Bytes :=
  let ms := t.members.flatMap (fun m => leBytes 2 m.1 ++ leBytes 2 (b2n m.2.1) ++ leBytes 4 m.2.2)
  let b := slice (leBytes 1 t.state ++ leBytes 1 t.cls ++ leBytes 1 t.k ++ leBytes 1 t.m ++ leBytes 1 t.owner ++ zeroBytes 3 ++ leBytes 4 t.rows ++
    leBytes 4 t.failed ++ leBytes 8 t.live ++ leBytes 8 t.openAt ++ ms) 0 316
  b ++ leBytes 4 (crc32c b)

/-- An entry read back, as a STRIPE record carries it. -/
def Stripe.ofEntry (b : Bytes) : Stripe :=
  let k := leAt b 2 1
  let m := leAt b 3 1
  { state := leAt b 0 1, cls := leAt b 1 1, k, m, owner := leAt b 4 1, rows := leAt b 8 4, failed := leAt b 12 4, live := leAt b 16 8
    openAt := leAt b 24 8
    members := (List.range (k + m)).map (fun i => (leAt b (32 + 8 * i) 2, bit (leAt b (34 + 8 * i) 2) 0, leAt b (36 + 8 * i) 4)) }

/-- A stripe, FREE when none is listed. -/
def State.stripe (s : State) (n : Nat) : Stripe := Tab.getD s.drv.stripes n {}

/-- A stripe's entry changes, in the table in DDR too. -/
def State.putStripe (s : State) (n : Nat) (t : Stripe) : State :=
  let s := s.updDrv (fun v => { v with stripes := if t.state == 0 then Tab.del v.stripes n else Tab.put v.stripes n t })
  s.ddrWrite (s.get F.DRV_STRIPE_BASE_ADDR / 4096 * 4096 + 320 * n) t.entry

/-- The change is carried by a STRIPE record (R344, R365); what stood before is kept until the record is committed. -/
def State.setStripe (s : State) (n : Nat) (t : Stripe) : State :=
  let tag := s.jnl.nextTag
  let was := (s.stripe n).entry
  let s := s.freshTag.putStripe n t
  State.postRec { s with ddx := { s.ddx with undo := Tab.put s.ddx.undo tag (n, .stripe t.entry, .stripe was) } }
    { seq := 0, atime := 0, type := 5, mirror := false, origin := s.head, vol := 0, lba := n, body := .stripe t.entry, tag }

/-- Failed members. -/
def Stripe.failedCount (t : Stripe) : Nat := (List.range 32).countP (fun i => bit t.failed i)

/-! ### Live locations (R345) -/

/-- The fields of a LOCATION (R342). -/
def locType (l : Nat) : Nat := l / 2 ^ 62 % 4
def locStripe (l : Nat) : Nat := l / 2 ^ 40 % 2 ^ 22
def locRow (l : Nat) : Nat := l / 2 ^ 25 % 2 ^ 15

/-- LIVE of a LOCATION's stripe rises or falls by 1. -/
def State.liveAdd (s : State) (l : Nat) (up : Bool) : State :=
  let n := locStripe l
  match Tab.find s.drv.stripes n with
  | none => s
  | some t =>
    if locType l == 0 then s
    else if up then s.putStripe n { t with live := t.live + 1 }
    else s.putStripe n { t with live := t.live - 1, zeroAt := if t.live == 1 then s.cyc else t.zeroAt }

/-! ### Rows (R338, R339) -/

/-- The stripe and member a zone belongs to; a replacement a rebuild writes counts as the member it replaces. -/
def State.memberOf (s : State) (d z : Nat) : Option (Nat × Nat) :=
  s.drv.stripes.findSome? (fun e =>
    match e.2.members.findIdx? (fun m => m.1 == d && m.2.2 == z) with
    | some i => some (e.1, i)
    | none => (e.2.repl.find? (fun m => m.2.1 == d && m.2.2 == z)).map (fun m => (e.1, m.1)))

/-- Row `r` has its appends: every member that is not failed, at least K. -/
def Stripe.rowFull (t : Stripe) (done : List Nat) : Bool :=
  (List.range (t.k + t.m)).all (fun i => bit t.failed i || done.contains i) && t.k ≤ done.length

/-- Rows a zone of a stripe's members holds. -/
def State.rowsMax (s : State) (t : Stripe) : Nat :=
  t.members.foldl (fun n m => min n ((s.drive m.1).zoneLbas / 32)) 32768

/-- Rows that have become durable count in ROWS; a stripe whose zones are full is CLOSED. -/
def State.settleRows (s : State) (n : Nat) : State :=
  let t := s.stripe n
  let full := t.rowDone.filter (fun e => t.rowFull e.2)
  match full with
  | [] => s
  | _ =>
    let rows := full.foldl (fun m e => max m (e.1 + 1)) t.rows
    let close := t.state == 1 && s.rowsMax t ≤ rows
    let t := { t with rows, state := if close then 2 else t.state, rowDone := Tab.keep t.rowDone (fun _ d => !t.rowFull d) }
    if close then s.setStripe n t else s.putStripe n t

/-- The row of a LOCATION is durable, and its stripe is not LOST (R354). -/
def State.rowDurable (s : State) (l : Nat) : Bool := (s.stripe (locStripe l)).state != 5 && locRow l < (s.stripe (locStripe l)).rows

/-- Member `i` has completed the append of row `r`. -/
def State.rowAppend (s : State) (n i r : Nat) : State :=
  let t := s.stripe n
  let done := Tab.getD t.rowDone r []
  if r < t.rows then s
  else
    let t := { t with rowDone := Tab.put t.rowDone r (if done.contains i then done else done ++ [i]) }
    (s.updDrv (fun v => { v with stripes := Tab.put v.stripes n t })).settleRows n

/-! ### Failed members (R351-R354) -/

/-- A member is marked failed: the stripe is DEGRADED, or LOST when more than M are. -/
def State.failMember (s : State) (n i : Nat) : State :=
  let t := s.stripe n
  if bit t.failed i || t.state == 0 || t.state == 5 then s
  else
    let t := { t with failed := setBit t.failed i, state := 3, repl := [] }
    let lost := t.m < t.failedCount
    let s := s.setStripe n { t with state := if lost then 5 else 3 }
    let s := if s.drv.rebuild == some n then s.updDrv (fun v => { v with rebuild := none }) else s
    let s := if lost then (s.setb F.DRV_ERR_STRIPE_LOST true).recordMs 0x0B08 (w1 n) else s
    s.settleRows n

/-- A FAILED drive that no stripe names becomes ABSENT. -/
def State.sweepDrives (s : State) : State :=
  s.updDrv (fun v => { v with drives := Tab.mapVals v.drives (fun d x =>
    if x.state == 2 && !v.stripes.any (fun e => e.2.members.any (fun m => m.1 == d)) then { x with state := 0, resv := false, fail := false }
    else x) })

/-! ### Allocation (R331, R335) -/

/-- The head is the only one that allocates: in Solo, and in what it entered from there. -/
def State.aloneMode (s : State) : Bool :=
  s.md == mSolo || (s.md == mSweep && s.mode.sweepFrom == mSolo) || (s.md == mBanked && s.mode.bankedFrom == mSolo)

/-- Zones and stripe numbers of the head's pool: its own parity, and all in Solo (R331). -/
def State.inPool (s : State) (i : Nat) : Bool := s.aloneMode || i % 2 == s.head

/-- Zones of a drive that stripes use or are about to. -/
def State.usedZones (s : State) (d : Nat) : List Nat :=
  s.drv.stripes.flatMap (fun e => (e.2.members.filter (fun m => m.1 == d)).map (·.2.2) ++ (e.2.repl.filter (fun m => m.2.1 == d)).map (·.2.2))

/-- Free zones of a drive in the pool. -/
def State.freeZones (s : State) (d : Nat) : Nat :=
  let n := (s.drive d).zones
  let pool := if s.aloneMode then n else (n + 1 - s.head) / 2
  pool - (s.usedZones d).countP (fun z => s.inPool z)

/-- The lowest free zone of the pool, among `n` from `i` on. -/
def State.pickZone (s : State) (d : Nat) : Nat → Nat → Option Nat
  | 0, _ => none
  | n + 1, i => if s.inPool i && !(s.usedZones d).contains i then some i else s.pickZone d n (i + 1)

/-- Drives by most free zones, ties to the lower index. -/
def insertDrive (x : Nat × Nat) : List (Nat × Nat) → List (Nat × Nat)
  | [] => [x]
  | y :: ys => if y.2 < x.2 || (y.2 == x.2 && x.1 < y.1) then x :: y :: ys else y :: insertDrive x ys

/-- The drives a test accepts that can give a zone, best first. -/
def State.zoneDrives (s : State) (ok : Nat → Drive → Bool) : List Nat :=
  ((s.drv.drives.filter (fun e => e.2.online && e.2.resv && 0 < s.freeZones e.1 && ok e.1 e.2)).foldl
    (fun l e => insertDrive (e.1, s.freeZones e.1) l) []).map (·.1)

/-- The lowest FREE stripe number of the pool, among `n` from `i` on. -/
def State.freeStripe (s : State) : Nat → Nat → Option Nat
  | 0, _ => none
  | n + 1, i => if s.inPool i && (Tab.find s.drv.stripes i).isNone then some i else s.freeStripe n (i + 1)

/-- Insert by drive index. -/
def insertNat (x : Nat) : List Nat → List Nat
  | [] => [x]
  | y :: ys => if x < y then x :: y :: ys else y :: insertNat x ys

/-- Members of a class: K and M. -/
def State.geomK (s : State) : Nat := s.get F.DRV_GEOM_K
def State.geomM (s : State) (cls : Nat) : Nat := if cls == 0 then s.get F.DRV_GEOM_M else s.get F.DRV_GEOM_M_META

/-- The members a new stripe `n` of a class would take; none when too few drives qualify. -/
def State.newMembers (s : State) (n cls : Nat) : Option (List (Nat × Bool × Nat)) :=
  let w := s.geomK + s.geomM cls
  let ds := (s.zoneDrives (fun _ d => !d.spare)).take w
  if w == 0 || ds.length < w then none
  else
    let ds := ds.foldl (fun l d => insertNat d l) []
    let ds := ds.drop (n % w) ++ ds.take (n % w)
    some (ds.filterMap (fun d => (s.pickZone d (s.drive d).zones 0).map (fun z => (d, false, z))))

/-- Open stripes of a class of this head. -/
def State.openStripes (s : State) (cls : Nat) : Nat := s.drv.stripes.countP (fun e => e.2.state == 1 && e.2.cls == cls && e.2.owner == s.head)

/-- A stripe of a class could open now: its number and members. -/
def State.nextStripe (s : State) (cls : Nat) : Option (Nat × List (Nat × Bool × Nat)) :=
  match s.freeStripe (s.drv.stripes.length * 2 + 2) 0 with
  | some n => if n < s.get F.DRV_STRIPE_CNT_COUNT then (s.newMembers n cls).map (fun ms => (n, ms)) else none
  | none => none

/-- Data can be stored: a DATA stripe is open or can open (R335). -/
def State.hasSpace (s : State) : Bool := 0 < s.openStripes 0 || (s.nextStripe 0).isSome

end Sys2Proof.Machine
end

