-- ==== Sys2Proof/Machine/Drive.lean ====
section
/-! DEFINITION. Drive ports and drive requests (R328, R332, R338, R347-R355): ports, drives, DRV requests and how they end, stripes opening,
rebuild and reclamation, the partner's registrations. -/

namespace Sys2Proof.Machine

/-! ### Requests on their way (R347-R349) -/

/-- An append of the request's zone is with the drive. -/
def State.appendBusy (s : State) (c : DrvCmd) : Bool :=
  s.drv.cmds.any (fun x => x.op == 1 && x.sent && x.drive == c.drive && x.zone == c.zone)

/-- A drive's namespace is used under R333. -/
def Drive.fdp (d : Drive) : Bool := bit d.cfg 61

/-- The write pointer of a zone in bytes, where the head has seen it, and its change. -/
def zoneKey (d z : Nat) : Nat := d * 2 ^ 32 + z
def State.zoneWp (s : State) (d z : Nat) : Option Nat := Tab.find s.drv.wps (zoneKey d z)
def State.setWp (s : State) (d z o : Nat) : State := s.updDrv (fun v => { v with wps := Tab.put v.wps (zoneKey d z) o })

/-- The command a drive gets for an op on a zone (R333): on a Flexible Data Placement namespace an append is a Write at the zone's next position,
the expected one where the head has not seen it, and a reset a deallocate of the whole zone. -/
def State.driveOut (s : State) (d op z off len : Nat) (data : Bytes) : State :=
  if (s.drive d).fdp && op == 1 then s.emit (.drive d 8 z ((s.zoneWp d z).getD off) len data)
  else if (s.drive d).fdp && op == 2 then s.emit (.drive d 9 z 0 ((s.drive d).zoneLbas * 4096) [])
  else s.emit (.drive d op z off len data)

/-- Hand a request to its drive. -/
def State.sendDrv (s : State) (c : DrvCmd) : State :=
  (s.updDrv (fun v => { v with cmds := v.cmds.map (fun x => if x.id == c.id then { x with sent := true, sentAt := s.cyc } else x) })).driveOut
    c.drive c.op c.zone c.off c.len c.data

/-- The grates a request takes: DRVW for an append, DRVR for a read (R27). -/
def DrvCmd.grates (c : DrvCmd) : Nat := if c.op < 2 then gratesFor c.len else 0

/-- A request can go to its drive: it has its grates, and of the appends that wait for a zone the one of the lowest row goes, one at a time
(R338). -/
def State.maySend (s : State) (c : DrvCmd) : Bool :=
  !c.sent && s.holdsAll (drvUser c.id) c.grates &&
  (c.op != 1 || (!s.appendBusy c && !s.drv.cmds.any (fun x =>
    x.op == 1 && !x.sent && x.drive == c.drive && x.zone == c.zone && (x.off < c.off || (x.off == c.off && x.id < c.id)))))

/-- Hand over every request that can go. -/
def State.sendReady (s : State) : State := s.drv.cmds.foldl (fun s c => if s.maySend c then s.sendDrv c else s) s

/-- A request ends: the device's fields of its block, and its ticket's status. -/
def State.closeDrv (s : State) (c : DrvCmd) (status rlba dstatus : Nat) : State :=
  let s := (s.updDrv (fun v => { v with cmds := v.cmds.filter (·.id != c.id) })).freeUser (drvUser c.id)
  let s := if c.stove < 16 then
      (s.lmWrite c.stove (c.block + 48) (leBytes 8 rlba ++ leBytes 2 dstatus)).finishTicket c.stove c.strand c.entry status
    else s
  s.sendReady

/-- A request ends with `count` bytes moved, or with UNIT_ERR and an AUX of R349. -/
def State.endDrv (s : State) (c : DrvCmd) (aux count rlba dstatus : Nat) : State :=
  let s := s.closeDrv c (if aux == 0 then statusWord 0 0 count else statusWord 0x0C aux 0) rlba dstatus
  if aux == 6 then s.setb F.DRV_ERR_RESV true else s

/-! ### Drives (R329, R351) -/

/-- A drive becomes FAILED: its requests end, and every stripe with a member on it has that member failed. -/
def State.driveFail (s : State) (d : Nat) : State :=
  if !(s.drive d).online then s
  else
    let s := (((s.updDrive d (fun x => { x with state := 2 })).setb F.DRV_ERR_DRIVE_FAIL true).recordMs 0x0B02 (w1 d))
    let s := (s.drv.cmds.filter (fun c => c.drive == d)).foldl (fun s c => s.endDrv c 1 0 0 0) s
    let hit := s.drv.stripes.flatMap (fun e => (List.range e.2.members.length).filterMap (fun i =>
      if (e.2.members.getD i (0, false, 0)).1 == d then some (e.1, i) else none))
    (hit.foldl (fun s h => s.failMember h.1 h.2) s).sweepDrives

/-- The head registers its key with a drive (R332). -/
def State.registerKey (s : State) (d : Nat) : State :=
  (s.emit (.drive d 5 0 0 0 [BitVec.ofNat 8 (0xA1 + 16 * s.head)])).updDrive d (fun x => { x with resv := true })

/-- A drive that is present and whose port is in L0 is ONLINE, with the head's registration while DRV_CTL.EN is 1 (R332). -/
def State.driveOnline (s : State) (d : Nat) : State :=
  let x := s.drive d
  if x.state == 0 && x.present && s.getb (F.DRV_PORT_STS_DL_UP x.port) then
    let s := s.updDrive d (fun x => { x with state := 1, media := 0, timeouts := [], resv := false })
    if s.getb F.DRV_CTL_EN then s.registerKey d else s
  else s

/-- A write to DRV_DRV_CFG of drive `d`: ignored unless the entry is ABSENT. -/
def State.writeDrvCfg (s : State) (d v : Nat) : State :=
  if (s.drive d).state != 0 then s else (s.updDrive d (fun x => { x with cfg := v % 2 ^ 64 / 2 ^ 35 * 2 ^ 35 + v % 2 ^ 32 })).driveOnline d

/-- A write of DRV_CTL.EN: while it is 1 the head keeps its registrations (R332). -/
def State.writeDrvEn (s : State) (v : Bool) : State :=
  let s := s.setb F.DRV_CTL_EN v
  if v then (s.drv.drives.filter (fun e => e.2.online && !e.2.resv)).foldl (fun s e => s.registerKey e.1) s
  else s.updDrv (fun d => { d with drives := Tab.mapVals d.drives (fun _ x => { x with resv := false }) })

/-- GO of DRV_DRV_CTL.FAIL for drive `d` (R351). -/
def State.writeDrvFail (s : State) (d : Nat) : State := (s.updDrive d (fun x => { x with fail := true })).driveFail d

/-- DRV_FAIL_WRITE: firmware writes 1 to DRV_DRV_CTL.FAIL of the selected drive (R351). -/
def execDrvFailWrite (r : Req) (s : State) : Res :=
  .next (s.withWrite r R.DRV_DRV_CTL (fun s => s.writeDrvFail (s.get F.DRV_DRV_SEL_DRIVE)))

/-- DRV_CONTROLLER_FATAL: drive `d`'s controller reports Controller Fatal Status (R351). -/
def execDrvControllerFatal (d : Nat) (s : State) : Res := .next (s.driveFail d)

/-- DRV_CTL.LOCK written 1 (R355). -/
def State.drvLock (s : State) : State :=
  let k := s.geomK
  let m := s.geomM 0
  let mm := s.geomM 1
  if k < 1 || 29 < k || m == 0 || mm == 0 || 32 < k + max m mm then s.setb F.DRV_CTL_CFG_ERR true else s.setb F.DRV_CTL_LOCK true

/-- DRV_LOCK: a write of 1 to DRV_CTL.LOCK. -/
def execDrvLock (r : Req) (s : State) : Res := .next (s.withWrite r R.DRV_CTL State.drvLock)

/-! ### Ports (R327, R328) -/

/-- Port `p` exists under its group's MODE. -/
def State.portExists (s : State) (p : Nat) : Bool :=
  let m := s.get F.DRV_BIF_MODE / 4 ^ (p / 8) % 4
  p % 8 % (8 / 2 ^ m) == 0

/-- The lanes of a port. -/
def State.portWidth (s : State) (p : Nat) : Nat := 16 / 2 ^ (s.get F.DRV_BIF_MODE / 4 ^ (p / 8) % 4)

/-- DRV_LINK_UP: port `p` reaches L0 at a rate code and width; `zones` are the drives behind it with the zones of each. -/
def execDrvLinkUp (p rate width : Nat) (zones : List (Nat × Nat)) (s : State) : Res :=
  .next (if s.released (dDrv (p / 8)) && s.portExists p && 1 ≤ rate && rate ≤ 6 && [1, 2, 4, 8, 16].contains width && width ≤ s.portWidth p then
    let s := ((s.setb (F.DRV_PORT_STS_DL_UP p) true).set (F.DRV_PORT_STS_RATE p) rate).set (F.DRV_PORT_STS_WIDTH p) width
    let s := s.updDrv (fun v => { v with downAt := Tab.del v.downAt p })
    let s := s.degradeUnit (32 + p / 8) false
    zones.foldl (fun s z => if z.1 < 128 then (s.updDrive z.1 (fun x => { x with zones := z.2 })).driveOnline z.1 else s) s
  else s)

/-- Every drive behind a port is FAILED; a group with no port in L0 has failed. -/
def State.portDead (s : State) (p : Nat) : State :=
  let s := ((s.drv.drives.filter (fun e => e.2.present && e.2.port == p)).map (·.1)).foldl State.driveFail s
  if (List.range 8).any (fun i => s.getb (F.DRV_PORT_STS_DL_UP (p / 8 * 8 + i))) then s else s.unitFails (32 + p / 8)

/-- DRV_LINK_LOSS: port `p` leaves L0, at once for good when it reports surprise link down; a port that has been out of L0 for 1 s loses
its drives (R351). -/
def execDrvLinkLoss (p : Nat) (surprise : Bool) (s : State) : Res :=
  .next (if s.getb (F.DRV_PORT_STS_DL_UP p) then
    let s := ((s.setb (F.DRV_PORT_STS_DL_UP p) false).set (F.DRV_PORT_STS_RATE p) 0).set (F.DRV_PORT_STS_WIDTH p) 0
    let s := (s.setb F.DRV_ERR_LINK_DOWN true).recordMs 0x0B01 (w1 p)
    let s := s.updDrv (fun v => { v with downAt := Tab.put v.downAt p s.cyc })
    if surprise then s.portDead p else s
  else match Tab.find s.drv.downAt p with
    | some t => if surprise || t + sec 1 ≤ s.cyc then (s.updDrv (fun v => { v with downAt := Tab.del v.downAt p })).portDead p else s
    | none => s)

/-! ### DRV requests (R347-R350) -/

/-- The check of R176 on a request's BUF: made for READ and APPEND only. -/
def State.drvCheck (s : State) (n ea : Nat) : Except Nat Unit :=
  let b := s.lmBytes n ea 64
  if 2 ≤ leAt b 0 1 then .ok ()
  else match Desc.ofBytes (slice b 32 16) with
    | none => .error 1
    | some d => match s.descFault n d with
      | some c => .error c
      | none => .ok ()

/-- The drive ports start the request in a block: it ends at once when it cannot go to the drive, else it takes its grates and is sent, behind an
append of its zone that is still on its way. An append whose buffer lies in a window line that a host holds does not start before the host has
answered (R51); one whose buffer cannot be read ends with that status (R183). -/
def State.drvStart (s : State) (n k e ea : Nat) : State :=
  let b := s.lmBytes n ea 64
  let op := leAt b 0 1
  let drive := leAt b 2 2
  let off := leAt b 8 8
  let len := leAt b 16 4
  let buf := (Desc.ofBytes (slice b 32 16)).getD {}
  let c : DrvCmd := { id := s.drv.nextId, stove := n, strand := k, entry := e, block := ea, op, drive, zone := leAt b 4 4, off, len, buf }
  let next := s.updDrv (fun v => { v with nextId := v.nextId + 1 })
  let move := op < 2
  if 3 < op || 127 < drive || (move && (off % 4096 != 0 || len % 4096 != 0 || len == 0 || (if op == 1 then 131072 else 2097152) < len || buf.len < len))
  then next.endDrv c 7 0 0 0
  else if !(s.getb F.DRV_CTL_EN && (s.drive drive).online) then next.endDrv c 1 0 0 0
  else if (s.drive drive).zones ≤ c.zone || (move && (s.drive drive).zoneLbas * 4096 < off + len) ||
      (op == 0 && (s.zoneWp drive c.zone).any (fun w => w < off + len)) then next.endDrv c 7 0 0 0
  else
    let rs := if op == 1 then buf.ddr len else []
    if !s.ddrMay rs [] then s.ddrWant rs []
    else
      let s := next.ddrLooks rs
      let r := if op == 1 then s.readSrc n k { buf with len } none else ([], 0)
      if r.2 != 0 then s.closeDrv c (statusWord r.2 0 r.1.length) 0 0
      else
        let c := { c with data := r.1 }
        let s := s.updDrv (fun v => { v with cmds := v.cmds ++ [c] })
        (s.requestN { chan := 6 - op % 2, user := drvUser c.id, atime := s.now } c.grates).sendReady

/-- The drive requests of a Stove whose DMA channel is granted start (R145, R200). -/
def State.begun (s : State) (n : Nat) : State :=
  (s.stove n).jobs.foldl (fun s j =>
    match j.2.2.job with
    | some (.drv ea) =>
      if j.2.2.granted && !s.drv.cmds.any (fun c => c.stove == n && c.strand == j.1 && c.entry == j.2.1) then s.drvStart n j.1 j.2.1 ea else s
    | _ => s) s

/-- LANE_GRANT: a waiting request of a unit class is granted a freed unit (R145), and a drive request starts with its DMA channel; `pause` names
the digest stream a lane pauses first (R291). -/
def execLaneGrant (n u : Nat) (pause : Option (Nat × Nat)) (s : State) : Res :=
  .next (if (s.stove n).fenced then s
  else match pause with
    | some (k, e) => if u == 2 then s.pauseStream n k e else s
    | none => ((s.endOrphans n u).grantUnit n u).begun n)

/-- A DRV instruction whose request has the row's OP; a block with an OP above 3 goes with the first row. -/
def State.drvIns (s : State) (n k : Nat) (f : InsW) (op : Nat) : Res :=
  let go (s : State) : State :=
    (s.launched n k 0xC0 f (f.c == 0 && f.x == 0 && f.imm == 0) (some 5) (some 4) (fun s x =>
      match blockAt x f.b 64 with
      | .error c => .error c
      | .ok ea => match s.drvCheck n ea with
        | .error c => .error c
        | .ok _ => .ok (s, .drv ea))).begun n
  .next (match blockAt (s.strand n k) f.b 64 with
    | .ok ea =>
      let o := leAt (s.lmBytes n ea 64) 0 1
      if o == op || (op == 0 && 3 < o) then go s else s
    | .error _ => go s)

/-- DRV_READ, DRV_APPEND, DRV_RESET, DRV_FINISH: DRV instructions, by the OP of their block. -/
def execDrvRead (n k : Nat) (f : InsW) (s : State) : Res := s.drvIns n k f 0
def execDrvAppend (n k : Nat) (f : InsW) (s : State) : Res := s.drvIns n k f 1
def execDrvReset (n k : Nat) (f : InsW) (s : State) : Res := s.drvIns n k f 2
def execDrvFinish (n k : Nat) (f : InsW) (s : State) : Res := s.drvIns n k f 3

/-- A read's data lands in the request's buffer, and the request ends. While a host holds a window line of the buffer the completion waits (R51). -/
def State.landRead (s : State) (c : DrvCmd) (data : Bytes) (rlba dstatus : Nat) : State :=
  let ws := if c.stove < 16 then c.buf.ddr c.len else []
  if !s.ddrMay [] ws then s.ddrWant [] ws
  else
    let w := if c.stove < 16 then s.writeDst c.stove c.strand c.buf (slice data 0 c.len) else (s, c.len, 0)
    (w.1.inc F.DRV_READ_BYTES_COUNT c.len).closeDrv c (statusWord (if w.2.2 == 2 then 2 else 0) 0 w.2.1) rlba dstatus

/-- A drive media error is counted, and fails the drive at the limit (R351). -/
def State.mediaError (s : State) (d : Nat) : State :=
  let s := ((s.setb F.DRV_ERR_MEDIA true).incSat F.DRV_MEDIA_CNT_COUNT 1).recordMs 0x0B03 (w1 d)
  let s := s.updDrive d (fun x => { x with media := x.media + 1 })
  let lim := s.get F.DRV_RBLD_CFG_MEDIA_LIMIT
  if lim != 0 && lim ≤ (s.drive d).media then s.driveFail d else s

/-- A member zone is finished: the stripe is CLOSED once every member that is not failed is. -/
def State.zoneFinished (s : State) (d z : Nat) : State :=
  match s.memberOf d z with
  | none => s
  | some (n, i) =>
    let t := s.stripe n
    let t := { t with fin := if t.fin.contains i then t.fin else t.fin ++ [i] }
    if t.state == 1 && (List.range (t.k + t.m)).all (fun j => bit t.failed j || t.fin.contains j) then s.setStripe n { t with state := 2 }
    else s.updDrv (fun v => { v with stripes := Tab.put v.stripes n t })

/-- The LBA an append must return: the zone's first LBA and the expected offset. -/
def State.expectedLba (s : State) (c : DrvCmd) : Nat := c.zone * (s.drive c.drive).zoneLbas + c.off / 4096

/-- The LBA at which an append stands: the one the drive returned, or on a Flexible Data Placement namespace the position it was written at. -/
def State.appendLba (s : State) (c : DrvCmd) (rlba : Nat) : Nat :=
  if (s.drive c.drive).fdp then c.zone * (s.drive c.drive).zoneLbas + (s.zoneWp c.drive c.zone).getD c.off / 4096 else rlba

/-- The bits set in a mask of drives. -/
def popCount (m : Nat) : Nat := (List.range 128).countP (bit m)

/-- DRIVE_COMPLETION: a drive completes request `id` with its status field. `res` says which row of R349 that status belongs to, 0 success;
`offline` that the zone is offline; `rlba` is the LBA an append returned, `data` what a read returned. -/
def execDriveCompletion (id res dstatus rlba : Nat) (offline : Bool) (data : Bytes) (s : State) : Res :=
  .next (match s.drv.cmds.find? (fun c => c.id == id && c.sent) with
  | none => s
  | some c =>
    if res != 0 then
      let s := s.endDrv c res 0 rlba dstatus
      let s := if res == 2 then s.mediaError c.drive else s
      if res == 3 && offline then s.driveFail c.drive else s
    else if c.op == 1 && s.appendLba c rlba != s.expectedLba c then
      let rlba := s.appendLba c rlba
      let s := ((s.endDrv c 4 0 rlba dstatus).setb F.DRV_ERR_MISPLACED true).recordMs 0x0B05 (w1 c.drive)
      match s.memberOf c.drive c.zone with
      | some (n, i) => s.failMember n i
      | none => s
    else if c.op == 1 then
      let s := (s.setWp c.drive c.zone (c.off + c.len)).inc F.DRV_WRITE_BYTES_COUNT c.len
      let s := s.endDrv c 0 c.len (s.expectedLba c) dstatus
      match s.memberOf c.drive c.zone with
      | some (n, i) => s.rowAppend n i (c.off / 131072)
      | none => s
    else if c.op == 0 then s.landRead c data rlba dstatus
    else if c.op == 7 then
      let p := (s.pair 0).getD []
      (s.endDrv c 0 0 rlba dstatus).savePair 0 ((p.set 5 (setBit (p.getD 5 0) c.drive)).set 7 (0x8000 + 0x7FFF * (popCount (p.getD 5 0) + 1) / 128))
    else
      let s := if c.op == 2 then s.setWp c.drive c.zone 0 else s
      let s := s.endDrv c 0 0 rlba dstatus
      if c.op == 3 then s.zoneFinished c.drive c.zone else s)

/-- DRV_CMD_TIMEOUT: request `id` has had no completion for DRV_CMD_TO (R350, R351). -/
def execDrvCmdTimeout (id : Nat) (s : State) : Res :=
  .next (match s.drv.cmds.find? (fun c => c.id == id && c.sent) with
  | none => s
  | some c =>
    if c.op != 7 && c.sentAt + ms (max 1 (s.get F.DRV_CMD_TO_TIMEOUT)) ≤ s.cyc then
      let s := (s.emit (.drive c.drive 4 0 0 0 [])).endDrv c 5 0 0 0
      let s := ((s.setb F.DRV_ERR_TIMEOUT true).incSat F.DRV_TO_CNT_COUNT 1).recordMs 0x0B04 (w1 c.drive)
      let s := s.updDrive c.drive (fun x => { x with timeouts := (x.timeouts.filter (fun t => s.now ≤ t + sec 60)) ++ [s.now] })
      if 3 ≤ (s.drive c.drive).timeouts.length then s.driveFail c.drive else s
    else s)

/-! ### Stripes opening, rebuild, reclamation -/

/-- STRIPE_OPEN: the head opens a stripe of a class (R335); with too few drives it is not opened. -/
def execStripeOpen (cls : Nat) (s : State) : Res :=
  .next (if !s.getb F.DRV_CTL_EN || s.openStripes cls ≥ max 1 (s.get F.DRV_GEOM_OPEN) then s
  else match s.nextStripe cls with
  | none => s
  | some (n, members) =>
    s.setStripe n { state := 1, cls, k := s.geomK, m := s.geomM cls, owner := s.head, openAt := s.now, members, zeroAt := s.cyc })

/-- The stripe to rebuild next (R353): DEGRADED, owned, the most failed members, the lowest number. -/
def State.nextRebuild (s : State) : Option Nat :=
  (s.drv.stripes.foldl (fun (best : Option (Nat × Stripe)) e =>
    if e.2.state == 3 && e.2.owner == s.head then
      match best with
      | some b => if b.2.failedCount < e.2.failedCount then some e else best
      | none => some e
    else best) none).map (·.1)

/-- A replacement for each failed member, on drives outside the stripe, SPARE drives first; none when there are too few. -/
def State.replacements (s : State) (t : Stripe) : Option (List (Nat × Nat × Nat)) :=
  let out (d : Nat) := !t.members.any (fun m => m.1 == d)
  let ds := s.zoneDrives (fun d x => out d && x.spare) ++ s.zoneDrives (fun d x => out d && !x.spare)
  let bad := (List.range (t.k + t.m)).filter (fun i => bit t.failed i)
  if ds.length < bad.length then none
  else some ((bad.zip ds).filterMap (fun p => (s.pickZone p.2 (s.drive p.2).zones 0).map (fun z => (p.1, p.2, z))))

/-- STRIPE_REBUILD: with AUTO set, the head posts the rebuild of its most degraded stripe (R353). ARG names the stripe. -/
def execStripeRebuild (s : State) : Res :=
  .next (if !s.getb F.DRV_RBLD_CFG_AUTO || s.drv.rebuild.isSome then s
  else match s.nextRebuild with
  | none => s
  | some n =>
    let t := s.stripe n
    match s.replacements t with
    | none => s
    | some repl =>
      let w := s.drvItem 2 3 0 n
      match w.1.postItem w.2 with
      | none => s.noProgram 2
      | some s =>
        let s := (s.setStripe n { t with state := 4, repl }).updDrv (fun v => { v with rebuild := some n })
        s.recordMs 0x0B06 (w1 n))

/-- A rebuild item ends: its stripe is CLOSED with its replacements, or DEGRADED again. -/
def State.rebuildEnd (s : State) (n : Nat) (ok : Bool) : State :=
  let t := s.stripe n
  if t.state != 4 || s.drv.rebuild != some n then s
  else
    let s := s.updDrv (fun v => { v with rebuild := none })
    if !ok then s.setStripe n { t with state := 3, repl := [] }
    else
      let members := (List.range t.members.length).map (fun i =>
        match t.repl.find? (fun r => r.1 == i) with
        | some r => (r.2.1, true, r.2.2)
        | none => t.members.getD i (0, false, 0))
      ((s.setStripe n { t with state := 2, failed := 0, members, repl := [] }).recordMs 0x0B07 (w1 n)).sweepDrives

/-- A journal record names a row of the stripe. -/
def JRec.namesStripe (r : JRec) (n : Nat) : Bool :=
  match r.body with
  | .index cs => cs.any (fun c => locType c.location != 0 && locStripe c.location == n)
  | .map cs => cs.any (fun c => locType c.entry.loc != 0 && locStripe c.entry.loc == n)
  | _ => false

/-- A META stripe holds a bucket's latest version, a map page's or a live checkpoint (R241): BLOC and page pointers are taken as LOCATIONs
(log 55). -/
def State.zoneNames (s : State) (n : Nat) : Bool :=
  let here (l : Nat) : Bool := l != 0 && locStripe l == n
  s.ddx.halves.any (fun h => h.2.buckets.any (fun b => here b.2.bloc)) || s.ddx.pages.any (fun p => here p.2.2) ||
  s.jnl.recs.any (fun r => r.type == 6 && here r.loc)

/-- STRIPE_RECLAIM: stripe `n`, closed and dead for DRV_RECLAIM_DLY, is reset and freed (R345). -/
def execStripeReclaim (n : Nat) (s : State) : Res :=
  let t := s.stripe n
  .next (if (t.state == 2 || t.state == 3) && t.owner == s.head && t.live == 0 && !s.jnl.recs.any (·.namesStripe n) &&
      t.zeroAt + ms (s.get F.DRV_RECLAIM_DLY_DELAY) ≤ s.cyc && !(t.cls == 1 && s.zoneNames n) then
    let s := (List.range t.members.length).foldl (fun s i =>
      let m := t.members.getD i (0, false, 0)
      if bit t.failed i then s else (s.driveOut m.1 2 m.2.2 0 0 []).setWp m.1 m.2.2 0) s
    ((s.setStripe n {}).recordMs 0x0B0A (w1 n)).sweepDrives
  else s)

/-! ### Takeover of stripes (R332) -/

/-- The partner's registrations are preempted on every drive. -/
def State.preemptAll (s : State) : State :=
  let s := (s.drv.drives.filter (fun e => e.2.present)).foldl (fun s e => s.emit (.drive e.1 6 0 0 0 [BitVec.ofNat 8 (0xB1 - 16 * s.head)])) s
  (s.updDrv (fun v => { v with preempted := true })).recordMs 0x0B09 []

/-- The partner's open stripes are finished and become the head's own. -/
def State.takeStripes (s : State) : State :=
  (s.drv.stripes.filter (fun e => e.2.owner != s.head)).foldl (fun s e =>
    let t := s.stripe e.1
    let s := if t.state == 1 then t.members.foldl (fun s m => s.emit (.drive m.1 3 m.2.2 0 0 [])) s else s
    s.setStripe e.1 { t with owner := s.head, state := if t.state == 1 then 2 else t.state }) s

end Sys2Proof.Machine
end

