-- ==== Sys2Proof/Machine/Dedup.lean ====
section
/-! DEFINITION. The deduplication index (ch. 08): keys, filter, directory and buckets, volume maps, the six ops, the bucket store,
reclamation and rebuild. -/

namespace Sys2Proof.Machine

/-- Change the dedup index control. -/
def State.updDdx (s : State) (f : DdxSt → DdxSt) : State := { s with ddx := f s.ddx }

/-- A half's image, and its change. -/
def State.half (s : State) (h : Nat) : Half := Tab.getD s.ddx.halves h {}
def State.updHalf (s : State) (h : Nat) (f : Half → Half) : State := s.updDdx (fun d => { d with halves := Tab.upd d.halves h {} f })

/-- The head holds half `h` (R234). -/
def State.holdsHalf (s : State) (h : Nat) : Bool := bit s.and.halves h

/-! ### Sizes (R244) -/

def State.ddxUnits (s : State) : Nat := min 32 (s.get F.DDX_BUDGET_UNITS)
def State.ddxNb (s : State) : Nat := s.ddxUnits * 5 * 2 ^ 30
def State.ddxCap (s : State) : Nat := s.ddxUnits * 2 ^ 34
def State.ddxMax (s : State) : Nat := if s.ddxUnits == 0 then 0 else Nat.log2 (s.ddxUnits * 2 ^ 29)

/-! ### Keys (R233) -/

def fpKey (fp : Bytes) (domain : Nat) : Nat := Nat.xor (leAt fp 0 8) (domain * 0x9E3779B97F4A7C15 % 2 ^ 64)
def fpHalf (fp : Bytes) (domain : Nat) : Nat := fpKey fp domain / 2 ^ 63
def fpTag (fp : Bytes) : Nat := if leAt fp 8 2 == 0 then 1 else leAt fp 8 2
def bucket1 (nb key : Nat) : Nat := 2 * key % 2 ^ 64 * nb / 2 ^ 64
def altBucket (nb tag i : Nat) : Nat := (tag * 0x5BD1E995 % nb + nb - i) % nb
def dirIndex (depth key : Nat) : Nat := 2 * key % 2 ^ 64 / 2 ^ (64 - depth)
def sampledIn (shift : Nat) (fp : Bytes) : Bool := leAt fp 10 1 % 2 ^ shift == 0

/-! ### Filter (R235, R236) -/

/-- The four slots of a filter bucket. -/
def slots4 (t : Tab (List Nat)) (i : Nat) : List Nat := Tab.getD t i [0, 0, 0, 0]
def putSlots (t : Tab (List Nat)) (i : Nat) (l : List Nat) : Tab (List Nat) := if l.all (· == 0) then Tab.del t i else Tab.put t i l

/-- Replace the first slot that holds `x`. -/
def replaceSlot (x y : Nat) : List Nat → Option (List Nat)
  | [] => none
  | z :: zs => if z == x then some (y :: zs) else (replaceSlot x y zs).map (z :: ·)

/-- Place a tag by displacements: `n` counts up from 0, at most `fuel` are made. -/
def displace (nb : Nat) : Nat → Nat → Nat → Nat → Tab (List Nat) → Option (Tab (List Nat))
  | 0, _, _, _, _ => none
  | fuel + 1, n, i, tag, t =>
    let l := slots4 t i
    let out := l.getD (n % 4) 0
    let t := putSlots t i (l.set (n % 4) tag)
    let j := altBucket nb out i
    match replaceSlot 0 out (slots4 t j) with
    | some l' => some (putSlots t j l')
    | none => displace nb fuel (n + 1) j out t

/-- Insertion; none when it fails. -/
def filterIns (nb key tag : Nat) (t : Tab (List Nat)) : Option (Tab (List Nat)) :=
  let i := bucket1 nb key
  let j := altBucket nb tag i
  match replaceSlot 0 tag (slots4 t i) with
  | some l => some (putSlots t i l)
  | none => match replaceSlot 0 tag (slots4 t j) with
    | some l => some (putSlots t j l)
    | none => displace nb 128 0 i tag t

/-- Deletion of one slot. -/
def filterDel (nb key tag : Nat) (t : Tab (List Nat)) : Tab (List Nat) :=
  let i := bucket1 nb key
  let j := altBucket nb tag i
  match replaceSlot tag 0 (slots4 t i) with
  | some l => putSlots t i l
  | none => match replaceSlot tag 0 (slots4 t j) with
    | some l => putSlots t j l
    | none => t

/-- A probe finds the tag. -/
def filterHas (nb key tag : Nat) (t : Tab (List Nat)) : Bool :=
  let i := bucket1 nb key
  (slots4 t i).contains tag || (slots4 t (altBucket nb tag i)).contains tag

/-! ### Images of entries, buckets and the directory (R237-R240) -/

/-- The 64 bytes of an entry. -/
def IdxEntry.bytes (e : IdxEntry) : Bytes :=
  let flags := e.domain % 4096 + 4096 + (if e.refcnt == 0 then 8192 else 0) + (if e.verified then 16384 else 0)
  let b := slice (e.fp ++ zeroBytes 32) 0 32 ++ leBytes 8 e.loc ++ leBytes 4 e.refcnt ++ leBytes 4 e.gen ++ leBytes 4 flags
  b ++ leBytes 4 (crc32c b) ++ zeroBytes 8

/-- An entry read back from its slot. -/
def IdxEntry.ofBytes (b : Bytes) : IdxEntry :=
  { fp := slice b 0 32, domain := leAt b 48 4 % 4096, loc := leAt b 32 8, refcnt := leAt b 40 4, gen := leAt b 44 4, verified := bit (leAt b 48 4) 14 }

/-- An entry is valid (R240); its LOCATION is never 0 (R239). -/
def entryValid (b : Bytes) : Bool :=
  bit (leAt b 48 4) 12 && leAt b 52 4 == crc32c (slice b 0 52) && leAt b 48 4 < 2 ^ 15 && leAt b 56 8 == 0 &&
  bit (leAt b 48 4) 13 == (leAt b 40 4 == 0) && leAt b 32 8 != 0

/-- The slots of a bucket that are not empty. -/
def bucketSlots (b : Bytes) : List Bytes := ((List.range 63).map (fun i => slice b (64 + 64 * i) 64)).filter (fun x => x.any (· != 0))

/-- The 4,096 bytes of the bucket of depth `l` and prefix `p` of half `h`. -/
def bucketImage (h l p version : Nat) (es : List IdxEntry) : Bytes :=
  let b := leBytes 4 0x44584B42 ++ [BitVec.ofNat 8 l, BitVec.ofNat 8 es.length, BitVec.ofNat 8 h, 0] ++ leBytes 8 p ++ leBytes 8 version ++ zeroBytes 36
  slice (b ++ leBytes 4 (crc32c b) ++ es.flatMap IdxEntry.bytes ++ zeroBytes 4096) 0 4096

/-- A bucket of half `h` is valid (R238). -/
def bucketValid (h : Nat) (b : Bytes) : Bool :=
  b.length == 4096 && leAt b 0 4 == 0x44584B42 && leAt b 6 1 == h && leAt b 60 4 == crc32c (slice b 0 60) && (bucketSlots b).all entryValid

/-- The 16 bytes of a directory entry. -/
def dirBytes (bloc l fill version : Nat) (bad : Bool) : Bytes :=
  leBytes 8 bloc ++ [BitVec.ofNat 8 l, BitVec.ofNat 8 fill, BitVec.ofNat 8 (b2n bad), 0] ++ leBytes 4 version

/-! ### Buckets (R237, R243) -/

/-- The key of the bucket of depth `l` for a fingerprint key. -/
def bucketKey (l key : Nat) : Nat := 2 ^ l + key % 2 ^ 63 / 2 ^ (63 - l)

/-- The depth and key of the bucket that holds a fingerprint key: the listed one, else one of depth 16. -/
def Half.bucketOf (h : Half) (key : Nat) : Nat × Nat :=
  match (List.range (h.depth - 15)).find? (fun i => (Tab.find h.buckets (bucketKey (16 + i) key)).isSome) with
  | some i => (16 + i, bucketKey (16 + i) key)
  | none => (16, bucketKey 16 key)
def Half.bucket (h : Half) (k : Nat) : Bucket := Tab.getD h.buckets k {}

/-- Directory entry `i`: it names the bucket of every key whose directory index is `i` (R237). -/
def Half.dirEntry (h : Half) (i : Nat) : Bytes :=
  let b := h.bucketOf (i * 2 ^ (63 - h.depth))
  let x := h.bucket b.2
  dirBytes x.bloc b.1 x.entries.length x.version x.bad

/-- The image of a bucket as it would be written now: its write count counts the write (R238, R241). -/
def Half.image (x : Half) (h key : Nat) : Bytes :=
  let b := x.bucketOf key
  bucketImage h b.1 (b.2 - 2 ^ b.1) ((x.bucket b.2).version + 1) (x.bucket b.2).entries

/-- Split the bucket of a key until it has room, with the keys of the buckets this makes; none at DMAX. `fuel` bounds the depth. -/
def splitFor (dmax key : Nat) : Nat → Half → List Nat → Option (Half × List Nat)
  | 0, _, _ => none
  | fuel + 1, h, made =>
    let b := h.bucketOf key
    let x := h.bucket b.2
    if x.entries.length < 63 then some (h, made)
    else if b.1 == h.depth && h.depth ≥ dmax then none
    else
      let one (e : IdxEntry) := bit (fpKey e.fp e.domain) (62 - b.1)
      let mk (side : Bool) : Bucket := { entries := x.entries.filter (fun e => one e == side) }
      splitFor dmax key fuel { h with
        depth := max h.depth (b.1 + 1)
        buckets := Tab.put (Tab.put (Tab.del h.buckets b.2) (2 * b.2) (mk false)) (2 * b.2 + 1) (mk true) }
        (made.filter (· != b.2) ++ [2 * b.2, 2 * b.2 + 1])

/-- Change the entries of a bucket. -/
def Half.updBucket (h : Half) (k : Nat) (f : List IdxEntry → List IdxEntry) : Half :=
  { h with buckets := Tab.upd h.buckets k {} (fun b => { b with entries := f b.entries }) }

/-- Put an entry into the bucket of its key, splitting it where it is full, with the keys of every bucket that changes (R243). -/
def Half.addEntry (h : Half) (dmax : Nat) (e : IdxEntry) : Option (Half × List Nat) :=
  let key := fpKey e.fp e.domain
  (splitFor dmax key 48 h []).map (fun r =>
    let b := (r.1.bucketOf key).2
    ({ r.1.updBucket b (· ++ [e]) with entries := h.entries + 1 }, r.2.filter (· != b) ++ [b]))

/-! ### The bucket store (R241, R242) -/

/-- Versions of 4 KiB the store can hold beside the sixty-fourth kept for held lists, and the 64-byte entries of those lists. -/
def State.storeMax (s : State) : Nat := max 1 (s.get F.DDX_BUDGET_BSTORE) * 2 ^ 18 / 64 * 63
def State.heldMax (s : State) : Nat := max 1 (s.get F.DDX_BUDGET_BSTORE) * 2 ^ 30 / 64 / 64

/-- Versions the store holds: changed ones, and those being written out. -/
def State.storeLen (s : State) : Nat := s.ddx.store.length + (s.ddx.writing.map (fun w => w.2.length)).sum

/-- A version of a bucket or map page stands in the store. -/
def State.stored (s : State) (v : Nat × Nat) : Bool := s.ddx.store.contains v || s.ddx.writing.any (fun w => w.2.any (fun x => x.1 == v))

/-- The store becomes full. -/
def State.bstoreFull (s : State) : State := (s.setb F.DDX_ERR_BSTORE_FULL true).recordMs 0x090A []

/-- A changed bucket or page is held in the store. -/
def State.touch (s : State) (v : Nat × Nat) : State :=
  if s.ddx.store.contains v then s
  else
    let s := s.updDdx (fun d => { d with store := d.store ++ [v] })
    if s.storeLen == s.storeMax then s.bstoreFull else s

/-- What a request does fits in the store and, for a held DECREF, in the room kept for the held lists: it fills no more than there is (R242). -/
def State.fits (s t : State) : Bool :=
  (t.storeLen ≤ s.storeLen || t.storeLen ≤ s.storeMax) && (t.ddx.heldList.length ≤ s.ddx.heldList.length || t.ddx.heldList.length ≤ s.heldMax)

/-! ### Counts (R246, R247) -/

/-- DDX_STS.FULL follows the unique counts of the held halves. -/
def State.showFull (s : State) : State :=
  let us := ((List.range 2).filter s.holdsHalf).map (fun h => (s.half h).unique)
  if us.any (fun u => 2 ^ 38 - 2 ^ 24 ≤ u) then
    (if s.getb F.DDX_STS_FULL then s else (s.setb F.DDX_STS_FULL true).recordMs 0x0905 [])
  else if us.all (fun u => u < 2 ^ 38 - 2 ^ 25) then s.setb F.DDX_STS_FULL false
  else s

/-- DDX_UNIQUE of a half rises or falls by 1. -/
def State.uniqueAdd (s : State) (h : Nat) (up : Bool) : State :=
  (s.updHalf h (fun x => { x with unique := if up then x.unique + 1 else x.unique - 1 })).showFull

/-- An entry has been created: SHIFT rises when the half reaches its capacity. -/
def State.entryAdded (s : State) (h : Nat) : State :=
  if s.getb F.DDX_CTL_AUTO_SHIFT && s.get F.DDX_SAMPLE_SHIFT < 7 && (s.half h).entries == s.ddxCap then
    (((s.inc F.DDX_SAMPLE_SHIFT 1).setb F.DDX_ERR_SHIFT_UP true).recordMs 0x0904 (w1 (s.get F.DDX_SAMPLE_SHIFT + 1)))
  else s

/-- An entry becomes pinned for the first time (R252). -/
def State.pinned (s : State) : State := ((s.setb F.DDX_ERR_PINNED true).incSat F.DDX_PINNED_CNT_COUNT 1).recordMs 0x0903 []

/-! ### What an index change does to a half's image

The same changes are applied by the op that makes them, and from the records of R366 when a half is taken over. -/

/-- Whether an entry is the one named by bytes 0 to 11 of a fingerprint, a domain and a LOCATION. -/
def IdxEntry.named (e : IdxEntry) (fp : Bytes) (domain loc : Nat) : Bool :=
  e.fp.take 12 == fp.take 12 && e.domain == domain && e.loc == loc

/-- An entry with equal fingerprint and domain. -/
def IdxEntry.same (e : IdxEntry) (fp : Bytes) (domain : Nat) : Bool := e.fp == fp && e.domain == domain

/-- The index can be probed and extended (R260). -/
def State.ddxDirect (s : State) : Bool := !s.getb F.ICH_CTL_EN
def State.ddxOn (s : State) : Bool := s.getb F.DDX_CTL_EN && s.ddxUnits != 0 && !s.ddxDirect

/-- An insertion into the filter failed (R235). -/
def State.pathFail (s : State) : State :=
  ((s.setb F.DDX_ERR_PATH_FAIL true).incSat F.DDX_PATH_FAIL_CNT_COUNT 1).recordMs 0x0909 []

/-- Every bucket a change made or altered is held in the store. -/
def State.touchAll (s : State) (h : Nat) (ks : List Nat) : State := ks.foldl (fun s k => s.touch (h, k)) s

/-- Try to create an entry (R243, R245, R235): none when it is refused, with whether the filter would not take its tag. -/
def State.createEntry (s : State) (h : Nat) (e : IdxEntry) : Except Bool State :=
  let key := fpKey e.fp e.domain
  let x := s.half h
  if !(s.ddxOn && sampledIn (s.get F.DDX_SAMPLE_SHIFT) e.fp && x.entries < s.ddxCap) then .error false
  else match x.addEntry s.ddxMax e with
    | none => .error false
    | some (x', ks) =>
      match if x.stale then some x.filter else filterIns s.ddxNb key (fpTag e.fp) x.filter with
      | none => .error true
      | some t => .ok (((s.updHalf h (fun _ => { x' with filter := t })).touchAll h ks).entryAdded h)

/-- Change the entries of a bucket that a test accepts. -/
def State.mapEntry (s : State) (h b : Nat) (p : IdxEntry → Bool) (f : IdxEntry → IdxEntry) : State :=
  (s.updHalf h (fun x => x.updBucket b (fun es => es.map (fun e => if p e then f e else e)))).touch (h, b)

/-- A tag enters a half's filter, unless that is still to be built; a failed insertion is counted (R235), and leaves the entry without its tag:
the spec gives such an entry no other way (log 59). -/
def State.tagIn (s : State) (h : Nat) (e : IdxEntry) : State :=
  if (s.half h).stale || s.ddxNb == 0 then s
  else match filterIns s.ddxNb (fpKey e.fp e.domain) (fpTag e.fp) (s.half h).filter with
    | some t => s.updHalf h (fun x => { x with filter := t })
    | none => s.pathFail

/-- An entry leaves its bucket, and its tag the filter. -/
def State.dropEntry (s : State) (h : Nat) (e : IdxEntry) : State :=
  let key := fpKey e.fp e.domain
  let b := ((s.half h).bucketOf key).2
  (s.updHalf h (fun x => { x.updBucket b (fun es => es.filter (fun y => !y.named e.fp e.domain e.loc)) with
    filter := if x.stale || s.ddxNb == 0 then x.filter else filterDel s.ddxNb key (fpTag e.fp) x.filter, entries := x.entries - 1 })).touch (h, b)

/-- Remove an entry: its tag, its slot, its count; its LOCATION is free (R254). -/
def State.removeEntry (s : State) (h : Nat) (e : IdxEntry) : State := ((s.dropEntry h e).uniqueAdd h false).liveAdd e.loc false

/-! ### Volume maps (R249) -/

/-- The key of a map entry, and of its page (127 entries). -/
def mapKey (v lba : Nat) : Nat := lba * 16384 + v
def mapPage (v lba : Nat) : Nat × Nat := (2, mapKey v (lba / 127))
def MapEntry.zero : MapEntry := { loc := 0, seq := 0, fp := 0, flags := 0 }
def State.mapAt (s : State) (v lba : Nat) : MapEntry := Tab.getD s.ddx.maps (mapKey v lba) MapEntry.zero
def MapEntry.present (e : MapEntry) : Bool := bit e.flags 0
def MapEntry.indexed (e : MapEntry) : Bool := bit e.flags 1

/-- The CRC-32C of a map page, over it with the CRC's own bytes 28 to 31 zero. Which bytes of the header hold which field the spec does not say:
volume, first LBA and version are taken in the order named, 8 bytes each (log 55). -/
def pageCrc (b : Bytes) : Nat := crc32c (b.take 28 ++ zeroBytes 4 ++ b.drop 32)

/-- The 4,096 bytes of the map page with key `k`, as it would be written now. -/
def State.pageImage (s : State) (k : Nat) : Bytes :=
  let v := k % 16384
  let lba := k / 16384 * 127
  let b := leBytes 8 v ++ leBytes 8 lba ++ leBytes 8 ((Tab.getD s.ddx.pages k (0, 0)).1 + 1) ++ zeroBytes 8 ++
    (List.range 127).flatMap (fun i => (s.mapAt v (lba + i)).bytes)
  patch b 28 (leBytes 4 (pageCrc b))

/-- A page image passes its check. -/
def pageValid (b : Bytes) : Bool := b.length == 4096 && leAt b 28 4 == pageCrc b

/-- A map entry changes; LIVE of its stripe rises when it is PRESENT and not INDEXED (R345). -/
def State.setMap (s : State) (v lba : Nat) (e : MapEntry) : State :=
  let s := s.updDdx (fun d => { d with maps := if e == MapEntry.zero then Tab.del d.maps (mapKey v lba) else Tab.put d.maps (mapKey v lba) e })
  if e.present && !e.indexed then s.liveAdd e.loc true else s

/-- The holder of a map stores an entry: its page is a new version. -/
def State.putMap (s : State) (v lba : Nat) (e : MapEntry) : State := (s.setMap v lba e).touch (mapPage v lba)

/-- DDX_UNIQUE as the index and the maps give it (R261): the entries, and the granules of volumes with DEDUP = 1 that are stored without one. -/
def State.countUnique (s : State) (h : Nat) : Nat :=
  (s.half h).entries + s.ddx.maps.countP (fun m =>
    let v := s.vol (m.1 % 16384)
    m.2.present && !m.2.indexed && bit v.policy 0 && fpHalf (leBytes 12 m.2.fp) v.domain == h)

/-- The unique counts of the held halves are rebuilt. -/
def State.recount (s : State) : State :=
  (((List.range 2).filter s.holdsHalf).foldl (fun s h => s.updHalf h (fun x => { x with unique := s.countUnique h })) s).showFull

/-! ### Ops (R250-R253)

An op takes effect on a request block and answers the block as the device leaves it, its status code (0 or UNIT_ERR) with AUX, and the tag
of the journal record its end waits for. -/

structure IdxAns where
  st : State
  block : Bytes
  code : Nat := 0
  aux : Nat := 0
  record : Option Nat := none

/-- RFLAGS. -/
def rflags (b : Bytes) (f : Nat) : Bytes := patch b 48 [BitVec.ofNat 8 f]

/-- A request refused with an AUX of R251 (1 to 5): nothing changes. -/
def idxErr (s : State) (b : Bytes) (aux : Nat) : IdxAns := { st := s, block := b, code := 0x0C, aux }

/-- Post an INDEX or MAP record for a change that has been made; `old` is what stood there before, kept until the record is committed: a
record that never commits does not exist (R368). The tag names the record to whoever waits for it. -/
def State.postIdx (s : State) (body old : RecBody) (type vol : Nat) : State × Nat :=
  let tag := s.jnl.nextTag
  let s := s.freshTag.updDdx (fun d => { d with undo := Tab.put d.undo tag (0, body, old) })
  (s.postRec { seq := 0, atime := 0, type, mirror := false, origin := s.head, vol, body, tag }, tag)

/-- The change of an index entry as a record carries it. -/
def idxChange (op half : Nat) (e : IdxEntry) : IdxChange :=
  { op, half, domain := e.domain, refcnt := e.refcnt, location := e.loc, fp := e.fp, gen := e.gen }

/-- Post an INDEX record; `old` is the entry as it was, none when it is new. -/
def State.postIdxChange (s : State) (op half : Nat) (e : IdxEntry) (old : Option IdxEntry) : State × Nat :=
  s.postIdx (.index [idxChange op half e]) (.index [match old with
    | some o => idxChange 2 half o
    | none => idxChange 4 half e]) 3 0

/-- A change of DDX_UNIQUE alone is carried too. The spec gives its record no form: an INSERT without an entry has REFCNT 0, which no entry just
created has, and a DECREF without one REFCNT 0xFFFF_FFFF, to which no DECREF lowers (log 59). -/
def IdxChange.noEntry (c : IdxChange) : Bool := (c.op == 1 && c.refcnt == 0) || (c.op == 3 && c.refcnt == 0xFFFFFFFF)

/-- Fields of a request. -/
def reqFp (b : Bytes) : Bytes := slice b 0 32
def reqDomain (b : Bytes) : Nat := leAt b 32 2
def reqLoc (b : Bytes) : Nat := leAt b 40 8
def reqVol (b : Bytes) : Nat := leAt b 50 2
def reqLba (b : Bytes) : Nat := leAt b 56 8

/-- The key of a request's fingerprint and domain, and its half. -/
def IdxReq.key (r : IdxReq) : Nat := fpKey (reqFp r.block) (reqDomain r.block)
def IdxReq.half (r : IdxReq) : Nat := fpHalf (reqFp r.block) (reqDomain r.block)

/-- The key of the bucket a request looks in. -/
def State.bucketFor (s : State) (r : IdxReq) : Nat := ((s.half r.half).bucketOf r.key).2

/-- The entry a request looks for, without a count of its own. -/
def IdxReq.entry (r : IdxReq) (refcnt gen : Nat) : IdxEntry :=
  { fp := reqFp r.block, domain := reqDomain r.block, loc := reqLoc r.block, refcnt, gen }

/-- ADDREF of an entry in bucket `b` (R252, R253): the entry after it, RFLAGS, whether it changed. -/
def State.addrefEntry (s : State) (h b : Nat) (e : IdxEntry) : State × IdxEntry × Nat × Bool :=
  if e.refcnt == 0xFFFFFFFF then (s, e, 4, false)
  else
    let e' := { e with refcnt := e.refcnt + 1, gen := if e.refcnt == 0 then s.get F.DDX_GEN_GEN else e.gen }
    let s := s.mapEntry h b (fun y => y.named e.fp e.domain e.loc) (fun _ => e')
    (if e'.refcnt == 0xFFFFFFFF then s.pinned else s, e', 0, true)

/-- DECREF of an entry in bucket `b`. -/
def State.decrefEntry (s : State) (h b : Nat) (e : IdxEntry) : State × IdxEntry × Nat × Bool :=
  if e.refcnt == 0xFFFFFFFF then (s, e, 4, false)
  else if e.refcnt == 0 then (s, e, 8, false)
  else
    let e' := { e with refcnt := e.refcnt - 1, gen := if e.refcnt == 1 then s.get F.DDX_GEN_GEN else e.gen }
    (s.mapEntry h b (fun y => y.named e.fp e.domain e.loc) (fun _ => e'), e', 0, true)

/-- The answer for a changed entry: REFCNT written, and a record when something changed. -/
def State.idxDone (s : State) (b : Bytes) (op h : Nat) (e : IdxEntry) (old : Option IdxEntry) (flags : Nat) (changed : Bool) : IdxAns :=
  let b := patch (rflags b flags) 64 (leBytes 4 e.refcnt)
  if changed then
    let r := s.postIdxChange op h e old
    { st := r.1, block := b, record := some r.2 }
  else { st := s, block := b }

/-- The answer of an op that changes DDX_UNIQUE alone: UNINDEXED, and its record. -/
def State.idxUnindexed (s : State) (r : IdxReq) (op refcnt : Nat) : IdxAns :=
  let p := s.postIdx (.index [idxChange op r.half (r.entry refcnt 0)]) (.index []) 3 0
  { st := p.1, block := rflags r.block 2, record := some p.2 }

/-- LOOKUP. -/
def State.idxLookup (s : State) (r : IdxReq) : IdxAns :=
  let b := r.block
  let s := s.inc F.DDX_LOOKUPS_COUNT 1
  if !s.ddxOn then { st := s, block := rflags b 0 }
  else
    let x := s.half r.half
    if !x.stale && !filterHas s.ddxNb r.key (fpTag (reqFp b)) x.filter then { st := s.inc F.DDX_FMISS_COUNT 1, block := rflags b 16 }
    else
      let k := x.bucket (s.bucketFor r)
      if k.bad then idxErr s b 2
      else match k.entries.find? (fun e => e.same (reqFp b) (reqDomain b)) with
        | none => { st := if x.stale then s else s.inc F.DDX_FPOS_COUNT 1, block := rflags b 0 }
        | some e =>
          let f := (if e.refcnt == 0 then 8 else 0) + (if e.refcnt == 0xFFFFFFFF then 4 else 0)
          let b := patch (patch (patch (rflags b f) 40 (leBytes 8 e.loc)) 52 (leBytes 4 e.gen)) 64 (leBytes 4 e.refcnt)
          { st := s.inc F.DDX_HITS_COUNT 1, block := b, aux := 1 }

/-- VERIFY found a copy that differs from the granule whose fingerprint it has (R255). -/
def State.verifyDiff (s : State) (fp : Bytes) : State :=
  ((s.setb F.DDX_ERR_VERIFY_DIFF true).incSat F.DDX_VERIFY_CNT_COUNT 1).recordMs 0x0902 (w2 (leAt fp 0 8))

/-- INSERT. NOINDEX = 1 stores the granule as new whatever the index holds; where its program verifies and a good bucket has an entry for it,
that is the difference R255 reports (log 57). -/
def State.idxInsert (s : State) (r : IdxReq) : IdxAns :=
  let b := r.block
  let bk := s.bucketFor r
  let k := (s.half r.half).bucket bk
  let same := k.entries.find? (fun e => e.same (reqFp b) (reqDomain b))
  let plain (s : State) : IdxAns := (s.uniqueAdd r.half true).idxUnindexed r 1 0
  if !s.ddxOn then plain s
  else if bit (leAt b 49 1) 0 then plain (if r.verify && same.isSome && !k.bad then s.verifyDiff (reqFp b) else s)
  else if k.bad then idxErr s b 2
  else match same with
    | some e =>
      let a := s.addrefEntry r.half bk e
      a.1.idxDone (patch b 40 (leBytes 8 e.loc)) 2 r.half a.2.1 (some e) (1 + a.2.2.1) a.2.2.2
    | none =>
      let e := r.entry 1 (s.get F.DDX_GEN_GEN)
      match s.createEntry r.half e with
      | .error failed => plain (if failed then s.pathFail else s)
      | .ok t => ((t.uniqueAdd r.half true).liveAdd e.loc true).idxDone b 1 r.half e none 0 true

/-- A DECREF of a BAD bucket goes to the held list (R257). -/
def State.holdDecref (s : State) (r : IdxReq) : State :=
  s.updDdx (fun d => { d with heldList := d.heldList ++ [(r.half, r.entry 0 0)] })

/-- ADDREF and DECREF. -/
def State.idxRef (s : State) (r : IdxReq) (up : Bool) : IdxAns :=
  let b := r.block
  let bk := s.bucketFor r
  let k := (s.half r.half).bucket bk
  if k.bad then idxErr (if up then s else s.holdDecref r) b 2
  else match k.entries.find? (fun e => e.named (reqFp b) (reqDomain b) (reqLoc b)) with
    | some e =>
      let a := if up then s.addrefEntry r.half bk e else s.decrefEntry r.half bk e
      a.1.idxDone b (if up then 2 else 3) r.half a.2.1 (some e) a.2.2.1 a.2.2.2
    | none =>
      if up then idxErr s b 1
      else ((s.uniqueAdd r.half false).liveAdd (reqLoc b) false).idxUnindexed r 3 0xFFFFFFFF

/-- MAPSET and MAPGET. -/
def State.idxMap (s : State) (r : IdxReq) (set : Bool) : IdxAns :=
  let b := r.block
  let v := reqVol b
  let lba := reqLba b
  if !(s.vol v).present || (s.vol v).size ≤ lba then idxErr s b 3
  else
    let old := s.mapAt v lba
    if !set then { st := s, block := patch (rflags b 0) 72 old.bytes }
    else
      let new := MapEntry.ofBytes (slice b 72 32)
      if new.seq < old.seq then { st := s, block := rflags b 32 }
      else
        let p := (s.putMap v lba new).postIdx (.map [{ vol := v, lba, entry := new }]) (.map [{ vol := v, lba, entry := old }]) 4 v
        { st := p.1, block := patch (rflags b 0) 72 old.bytes, record := some p.2 }

/-- The domain of a request is in range where the op reads it, else DOMAIN. -/
def State.idxOp (s : State) (r : IdxReq) : IdxAns :=
  if r.op < 4 && 4095 < reqDomain r.block then idxErr s r.block 4
  else match r.op with
    | 0 => s.idxLookup r
    | 1 => s.idxInsert r
    | 2 => s.idxRef r true
    | 3 => s.idxRef r false
    | 4 => s.idxMap r true
    | _ => s.idxMap r false

/-- A bucket becomes BAD (R256). -/
def State.badBucket (s : State) (h key : Nat) : State :=
  let b := ((s.half h).bucketOf key).2
  if ((s.half h).bucket b).bad then s
  else
    let s := s.updHalf h (fun x => { x with buckets := Tab.upd x.buckets b {} (fun k => { k with bad := true }) })
    (s.setb F.DDX_ERR_BUCKET_BAD true).recordMs 0x0901 (w1 h ++ w2 (dirIndex (s.half h).depth key))

/-- Buckets read by half and directory index: one that fails R238 becomes BAD. -/
def State.seeBuckets (s : State) (reads : List (Nat × Nat × Bytes)) : State :=
  reads.foldl (fun s r => if bucketValid r.1 r.2.2 then s else s.badBucket r.1 (r.2.1 * 2 ^ (63 - (s.half r.1).depth))) s

/-! ### Answers -/

/-- The fields an op may write (R248, R250): RFLAGS; LOCATION and GEN of LOOKUP, LOCATION of INSERT, REFCNT; MAP. -/
def idxFields (op : Nat) : List (Nat × Nat) :=
  match op with
  | 0 => [(48, 1), (40, 8), (52, 4), (64, 4)]
  | 1 => [(48, 1), (40, 8), (64, 4)]
  | 2 | 3 => [(48, 1), (64, 4)]
  | _ => [(48, 1), (72, 32)]

/-- The fields the device wrote, from a request as sent and as left, laid on its block in local memory. -/
def idxWrite (op : Nat) (sent left now_ : Bytes) : Bytes :=
  (idxFields op).foldl (fun b f => if slice left f.1 f.2 == slice sent f.1 f.2 then b else patch b f.1 (slice left f.1 f.2)) now_

/-! ### Snapshot records (R439)

Programs 0x0001 and 0x0002 keep the entry a MAPSET left them when a cut lies between it and the entry that stands. The model does it as the MAPSET
ends: the text of a program is not part of the spec (log 138). -/

/-- A number in DDR; what the merging buffer holds of it is written first. -/
def State.ddrNum (s : State) (a n : Nat) : State × Nat := (s.extRead a n, leAt (Tab.readBytes (s.extRead a n).ddr a n) 0 n)

/-- The volume's bit is set in the bitmap. -/
def State.snapVol (s : State) (v : Nat) : State × Bool :=
  let a := s.get F.TICK_SNAP_VMAP_ADDR
  if a == 0 then (s, false)
  else
    let r := s.ddrNum (a + v / 8) 1
    (r.1, bit r.2 (v % 8))

/-- Some cut of the cut table has `e` below its END_T and `l` at or above it. -/
def State.snapCut (s : State) (e l : Nat) : State × Bool :=
  let a := s.get F.TICK_SNAP_RING_BASE * 2 ^ 20
  (List.range 64).foldl (fun (r : State × Bool) i =>
    let x := r.1.ddrNum (a + 16 * i + 8) 8
    (x.1, r.2 || (e < x.2 && x.2 ≤ l))) (s, false)

/-- The 64 bytes of a snapshot record. -/
def snapRecord (v lba seq : Nat) (e : Bytes) : Bytes := leBytes 2 v ++ zeroBytes 6 ++ leBytes 8 lba ++ leBytes 8 seq ++ zeroBytes 8 ++ e

/-- Append a record to the sub-ring of Stove `n`; none while it is full. -/
def State.snapAppend (s : State) (n : Nat) (rec_ : Bytes) : State × Bool :=
  let size := 2 ^ s.get F.TICK_SNAP_RING_SIZE_LOG2
  let a := s.get F.TICK_SNAP_RING_BASE * 2 ^ 20 + 0x400 + n * (64 + 64 * size)
  let h := s.ddrNum a 8
  let t := h.1.ddrNum (a + 8) 8
  if size ≤ (h.2 + 2 ^ 64 - t.2) % 2 ^ 64 then (t.1, false)
  else ((t.1.ddrWrite (a + 64 + 64 * (h.2 % size)) rec_).ddrWrite a (leBytes 8 ((h.2 + 1) % 2 ^ 64)), true)

/-- The entry E that a MAPSET leaves its program holding: the one it displaced, or its own under STALE; with the SEQ of the one that stands. -/
def State.snapEntry (s : State) (r : IdxReq) (after : Bytes) : Bytes × Nat :=
  let stale := bit (leAt after 48 1) 5
  let l := if stale then (s.mapAt (reqVol r.block) (reqLba r.block)).seq else leAt r.block 80 8
  (if stale then slice r.block 72 32 else slice after 72 32, l)

/-- A MAPSET of program 0x0001 or 0x0002 that is to end leaves its record behind; answers whether it may end. -/
def State.snapKeep (s : State) (p : IdxPend) : State × Bool :=
  match p.req.origin with
  | .ticket n k _ _ _ =>
    let e := s.snapEntry p.req p.block
    if p.req.op != 4 || p.status != 0 || !(s.pgmOf n k == 1 || s.pgmOf n k == 2) || !bit (leAt e.1 28 2) 0 then (s, true)
    else
      let v := s.snapVol (reqVol p.req.block)
      if !v.2 then (v.1, true)
      else
        let c := v.1.snapCut (leAt e.1 8 8) e.2
        if !c.2 then (c.1, true)
        else c.1.snapAppend n (snapRecord (reqVol p.req.block) (reqLba p.req.block) e.2 e.1)
  | _ => (s, true)

/-- An index request ends: a Stove's ticket gets the fields of its block and its status, the partner an IDX_RSP. -/
def State.idxClose (s : State) (r : IdxReq) (b : Bytes) (code aux : Nat) : State :=
  match r.origin with
  | .ticket n k e order addr =>
    let t := (s.strand n k).ticket e
    if t.used && t.order == order && t.job.isSome then
      (s.lmWrite n addr (idxWrite r.op r.block b (s.lmBytes n addr 128))).finishTicket n k e (statusWord code aux 0)
    else s
  | .partner tag => s.crlSend 3 0x29 (leBytes 8 tag ++ leBytes 8 (statusWord code aux 0) ++ b)
  | .device => s

/-- An index request ends, unless its snapshot record waits for room. -/
def State.idxEnd (s : State) (r : IdxReq) (b : Bytes) (code aux : Nat) : State :=
  let p : IdxPend := { req := r, block := b, status := code, aux, record := none }
  let k := s.snapKeep p
  if k.2 then k.1.idxClose r b code aux else k.1.updDdx (fun d => { d with snapWait := d.snapWait ++ [p] })

/-- The MAPSETs that wait for room in a sub-ring try again, oldest first. -/
def State.snapRetry (s : State) : State :=
  s.ddx.snapWait.foldl (fun s p => s.idxEnd p.req p.block p.status p.aux) (s.updDdx (fun d => { d with snapWait := [] }))

/-- With no command waiting, one cycle of the TICK clock passes, and waiting snapshot records are tried. -/
def State.idle (s : State) : State := if s.ddx.snapWait.isEmpty then s.tickCycle else s.tickCycle.snapRetry

/-- Give the answer of an op: now, or once its record is committed. -/
def IdxAns.give (a : IdxAns) (r : IdxReq) : State :=
  match a.record with
  | none => a.st.idxEnd r a.block a.code a.aux
  | some _ => a.st.updDdx (fun d => { d with pend := d.pend ++ [{ req := r, block := a.block, status := a.code, aux := a.aux, record := a.record }] })

/-- The op reads a bucket that is not BAD yet, or a map page (R236, R257, R260). -/
def State.idxReads (s : State) (r : IdxReq) : Bool :=
  let b := r.block
  if 4 ≤ r.op then (s.vol (reqVol b)).present && reqLba b < (s.vol (reqVol b)).size
  else if 4095 < reqDomain b || ((s.half r.half).bucket (s.bucketFor r)).bad then false
  else if r.op == 0 then s.ddxOn && ((s.half r.half).stale || filterHas s.ddxNb r.key (fpTag (reqFp b)) (s.half r.half).filter)
  else r.op != 1 || s.ddxOn

/-- What a request reads its bucket or map page as fails the check (R238, R249), and no rebuild gave it back. -/
def IdxReq.unreadable (r : IdxReq) : Bool :=
  match r.image with
  | none => false
  | some b => if r.op < 4 then !bucketValid r.half b else !pageValid b

/-- An op that finds its bucket or page so (R256, R251): DATA_ERR, and the bucket is BAD, where a DECREF is held. -/
def State.idxDataErr (s : State) (r : IdxReq) : IdxAns :=
  let s := if r.op < 4 then s.badBucket r.half r.key else s
  idxErr (if r.op == 3 then s.holdDecref r else s) r.block 5

/-- Under VERIFY an ADDREF that does not fail says that its program found the copies equal: the entry's VERIFIED flag is set (R255). -/
def State.idxVerified (s : State) (r : IdxReq) (a : IdxAns) : IdxAns :=
  if r.op == 2 && a.code == 0 && r.verify then
    let mine (e : IdxEntry) : Bool := e.named (reqFp r.block) (reqDomain r.block) (reqLoc r.block)
    { a with st := a.st.mapEntry r.half (s.bucketFor r) mine (fun y => { y with verified := true }) }
  else a

/-- What the holder answers to a request. -/
def State.idxAnswer (s : State) (r : IdxReq) : IdxAns :=
  if r.unreadable && s.idxReads r then s.idxDataErr r else s.idxVerified r (s.idxOp r)

/-- The holder runs a request, or keeps it while the store has no room for it. -/
def State.idxRun (s : State) (r : IdxReq) : State :=
  let a := s.idxAnswer r
  if s.fits a.st then a.give r else s.updDdx (fun d => { d with roomWait := d.roomWait ++ [r] })

/-- The half a request belongs to; a map request belongs to none and stays on its head. -/
def IdxReq.half? (r : IdxReq) : Option Nat := if r.op < 4 then some r.half else none

/-- Send an IDX_REQ (R401). The request layout has no place for the op: it crosses in byte 34, and in byte 35 whether the program verifies
(log 57). -/
def State.idxAsk (s : State) (tag : Nat) (r : IdxReq) : State :=
  s.crlSend 2 0x21 (leBytes 8 tag ++ patch r.block 34 [BitVec.ofNat 8 r.op, BitVec.ofNat 8 (b2n r.verify)])

/-- The request an IDX_REQ carries. -/
def reqOfPartner (b : Bytes) (image : Option Bytes) : IdxReq :=
  { origin := .partner (leAt b 0 8), op := leAt b 42 1, block := patch (slice b 8 128) 34 [0, 0], image, verify := bit (leAt b 43 1) 0 }

/-- A DONE record waits for the joiner's commit. -/
def State.donePending (s : State) : Bool :=
  s.jnl.recs.any (fun r => !r.mirror && !r.acked && match r.body with
    | .owner o => o.op == 5
    | _ => false)

/-- A request goes to the holder of its half (R234). Those of a half whose hand-over is being committed wait until it has one holder (R259). -/
def State.idxRoute (s : State) (r : IdxReq) : State :=
  if r.half?.any (fun h => !s.holdsHalf h) then
    let tag := s.crl.nextTag
    let s := (s.updCrl (fun c => { c with nextTag := tag + 1 })).updDdx (fun d => { d with fwd := Tab.put d.fwd tag r })
    s.idxAsk tag r
  else if r.half?.any (fun h => h == 1 - s.head) && s.and.survivor && s.donePending then s.updDdx (fun d => { d with roomWait := d.roomWait ++ [r] })
  else s.idxRun r

/-- Requests that wait go on once there may be room or a holder, oldest first. -/
def State.idxRetry (s : State) : State := s.ddx.roomWait.foldl State.idxRoute (s.updDdx (fun d => { d with roomWait := [] }))

/-- Requests forwarded and not answered run here once the head holds their half (R234, R258). -/
def State.idxReroute (s : State) : State :=
  let mine (r : IdxReq) := r.half?.all s.holdsHalf
  ((s.ddx.fwd.map (·.2)).filter mine).foldl State.idxRoute (s.updDdx (fun d => { d with fwd := Tab.keep d.fwd (fun _ r => !mine r) }))

/-- Requests whose record with a tag is committed as R115 requires end with their answers. -/
def State.idxCommitted (s : State) (tag : Nat) : State :=
  let ps := s.ddx.pend.filter (fun p => p.record == some tag)
  ps.foldl (fun s p => s.idxEnd p.req p.block p.status p.aux)
    (s.updDdx (fun d => { d with pend := d.pend.filter (fun p => p.record != some tag) }))

/-- A DECREF the device makes itself. -/
def decrefReq (fp : Bytes) (domain loc : Nat) : IdxReq :=
  { origin := .device, op := 3, block := slice (fp ++ zeroBytes 32) 0 32 ++ leBytes 2 domain ++ zeroBytes 6 ++ leBytes 8 loc ++ zeroBytes 80 }

/-! ### BAD buckets (R257) -/

/-- Firmware has rebuilt a BAD bucket from the volume maps and applied the held list: STATE is good, and each held DECREF takes effect. -/
def State.goodBucket (s : State) (h key : Nat) : State :=
  let b := ((s.half h).bucketOf key).2
  if !((s.half h).bucket b).bad then s
  else
    let mine (e : Nat × IdxEntry) : Bool := e.1 == h && ((s.half h).bucketOf (fpKey e.2.fp e.2.domain)).2 == b
    let held := s.ddx.heldList.filter mine
    let s := s.updHalf h (fun x => { x with buckets := Tab.upd x.buckets b {} (fun k => { k with bad := false }) })
    let s := (s.updDdx (fun d => { d with heldList := d.heldList.filter (fun e => !mine e) })).touch (h, b)
    (held.foldl (fun s e => s.idxRun (decrefReq e.2.fp e.2.domain e.2.loc)) s).idxRetry

/-- A KIND 7 item that ended with 0 and whose ARG names a bucket has rebuilt it. How firmware says which bucket the spec leaves open: ARG bits
63:48 hold 0x0901, bit 47 the half, bits 46:0 the directory index (log 57). -/
def State.firmwareItem (s : State) (arg value : Nat) : State :=
  let h := bits arg 47 1
  if value == 0 && arg / 2 ^ 48 == 0x0901 then s.goodBucket h (arg % 2 ^ 47 * 2 ^ (63 - (s.half h).depth)) else s

/-! ### The IDX instruction (R200, R202) -/

/-- A request of program 0x0001 for an item whose policy word has VERIFY = 1 (R255, R203). -/
def State.verifies (s : State) (n k : Nat) : Bool := s.pgmOf n k == 1 && (s.strand n k).item.any (fun w => w.kind ≤ 1 && bit w.arg 1)

/-- The IDX ticket just taken sends its request. -/
def State.idxStart (s : State) (n k e : Nat) (image : Option Bytes) : State :=
  let t := (s.strand n k).ticket e
  match t.job with
  | some (.idx ea op) => s.idxRoute { origin := .ticket n k e t.order ea, op, block := s.lmBytes n ea 128, image, verify := s.verifies n k }
  | _ => s

/-- An IDX instruction with the row's op in X[2:0]. `image` is what its bucket or page is read as where that is not as it was written. -/
def State.idxIns (s : State) (n k : Nat) (f : InsW) (op : Nat) (image : Option Bytes) : Res :=
  .next (if f.x.toNat % 8 == op || (op == 0 && 6 ≤ f.x.toNat % 8) then
    s.onTurn n k 0xB0 f (fun s =>
      let t := s.takeTicket n k f.a (f.c == 0 && f.x.toNat < 6 && f.imm == 0) none (fun s x =>
        match blockAt x f.b 128 with
        | .error c => .error c
        | .ok ea => .ok (s, .idx ea op))
      match (s.strand n k).freeEntry with
      | some e => t.idxStart n k e image
      | none => t)
  else s)

/-- LOOKUP, INSERT, ADDREF, DECREF, MAPSET, MAPGET; ops 6 and 7 are ILLEGAL and go with the first. -/
def execLookup (n k : Nat) (f : InsW) (image : Option Bytes) (s : State) : Res := s.idxIns n k f 0 image
def execInsert (n k : Nat) (f : InsW) (image : Option Bytes) (s : State) : Res := s.idxIns n k f 1 image
def execAddref (n k : Nat) (f : InsW) (image : Option Bytes) (s : State) : Res := s.idxIns n k f 2 image
def execDecref (n k : Nat) (f : InsW) (image : Option Bytes) (s : State) : Res := s.idxIns n k f 3 image
def execMapset (n k : Nat) (f : InsW) (image : Option Bytes) (s : State) : Res := s.idxIns n k f 4 image
def execMapget (n k : Nat) (f : InsW) (image : Option Bytes) (s : State) : Res := s.idxIns n k f 5 image

/-! ### Write-out (R241, R242) -/

/-- BSTORE_WRITEOUT: with less than a sixteenth of the store free, an item of program 0x0005 is posted that writes out its oldest versions by zone
append, at the index-zone addresses `locs`. Its TAG is 2 and its ARG the number of the write-out. -/
def execBstoreWriteout (locs : List Nat) (s : State) : Res :=
  .next (if s.storeMax + s.storeMax / 63 - s.storeLen < (s.storeMax + s.storeMax / 63) / 16 then
    let w := s.drvItem 5 6 2 s.ddx.writeNo
    match w.1.postItem w.2 with
    | none => s.noProgram 5
    | some t =>
      let out := t.ddx.store.zip locs
      t.updDdx (fun d => { d with store := d.store.drop out.length, writing := Tab.put d.writing d.writeNo out, writeNo := d.writeNo + 1 })
  else s)

/-- BLOC, or a map's page pointer, names a version that has been written. -/
def State.written (s : State) (w : (Nat × Nat) × Nat) : State :=
  if w.1.1 < 2 then s.updHalf w.1.1 (fun x =>
    if (Tab.find x.buckets w.1.2).isSome then
      { x with buckets := Tab.upd x.buckets w.1.2 {} (fun b => { b with bloc := w.2, version := b.version + 1 }) }
    else x)
  else s.updDdx (fun d => { d with pages := Tab.upd d.pages w.1.2 (0, 0) (fun p => (p.1 + 1, w.2)) })

/-- A write-out item ends: the room of what it wrote is free, and requests that waited go on; what it failed to write stands in the store again,
oldest. -/
def State.writeEnd (s : State) (no : Nat) (ok : Bool) : State :=
  let ws := Tab.getD s.ddx.writing no []
  let s := s.updDdx (fun d => { d with writing := Tab.del d.writing no })
  if ok then (ws.foldl State.written s).idxRetry
  else s.updDdx (fun d => { d with store := (ws.map (·.1)).filter (fun v => !d.store.contains v) ++ d.store })

/-! ### Reclamation (R254) -/

/-- GO of DDX_RECLAIM. -/
def State.reclaimGo (s : State) : State :=
  if s.getb F.DDX_RECLAIM_BUSY then s
  else
    let s := (s.inc F.DDX_GEN_GEN 1).setb F.DDX_RECLAIM_BUSY true
    let n := ((List.range 2).filter s.holdsHalf).foldl (fun n h => n + 2 ^ (s.half h).depth / 2 ^ 16) 0
    (List.range n).foldl (fun s i =>
      let w := s.drvItem 5 6 1 i
      match w.1.postItem w.2 with
      | some t => t.updDdx (fun d => { d with reclaimItems := d.reclaimItems + 1 })
      | none => s.noProgram 5) s

/-- RECLAIM_GO: a write of 1 to DDX_RECLAIM.GO. -/
def execReclaimGo (r : Req) (s : State) : Res := .next (s.withWrite r R.DDX_RECLAIM State.reclaimGo)

/-- The entries of a half that a pass removes. -/
def State.deadEntries (s : State) (h : Nat) : List IdxEntry :=
  (s.half h).buckets.flatMap (fun b => b.2.entries.filter (fun e =>
    !b.2.bad && e.refcnt == 0 && 2 ≤ (s.get F.DDX_GEN_GEN + 2 ^ 32 - e.gen) % 2 ^ 32))

/-- A removal, carried by a record; it waits while the store has no room for it (R242). -/
def State.reclaimEntry (s : State) (h : Nat) (e : IdxEntry) : State :=
  let t := s.removeEntry h e
  if s.fits t then (t.postIdxChange 4 h e (some e)).1 else s

/-- Write a checkpoint of a kind (R365): its location is given by the drive side. -/
def State.checkpoint (s : State) (kind loc : Nat) : State :=
  s.postRec { seq := 0, atime := 0, type := 6, mirror := false, origin := s.head, vol := 0, lba := kind, loc }

/-- RECLAIM_DONE: the last item of a pass has ended: what it removes is gone, BUSY clears, and each held half's directory and the stripe table are
checkpointed at the locations of META space the command names: when they are, the spec does not say (log 139). Removals for which the store
has no room keep the pass running. -/
def execReclaimDone (x : PassEnd) (s : State) : Res :=
  .next (if s.getb F.DDX_RECLAIM_BUSY && s.ddx.reclaimItems == 0 then
    let held := (List.range 2).filter s.holdsHalf
    let s := s.seeBuckets (x.reads.filter (fun r => held.contains r.1))
    let s := held.foldl (fun s h => (s.deadEntries h).foldl (fun s e => s.reclaimEntry h e) s) s
    if held.any (fun h => !(s.deadEntries h).isEmpty) then s
    else
      let s := (s.setb F.DDX_RECLAIM_BUSY false).recordMs 0x0908 []
      (held ++ [2]).foldl (fun s h => s.checkpoint h (x.locs.getD h 0)) s
  else s)

/-! ### Takeover and rebuild (R258, R259) -/

/-- Apply a change of a record to a half's image: the entry it names has the REFCNT and GEN it carries. -/
def State.applyIndex (s : State) (c : IdxChange) : State :=
  let bk := ((s.half c.half).bucketOf (fpKey c.fp c.domain)).2
  let e : IdxEntry := { fp := c.fp, domain := c.domain, loc := c.location, refcnt := c.refcnt, gen := c.gen }
  let there := ((s.half c.half).bucket bk).entries.any (fun y => y.named c.fp c.domain c.location)
  if c.noEntry then s
  else if c.op == 4 then (if there then s.dropEntry c.half e else s)
  else if there then s.mapEntry c.half bk (fun y => y.named c.fp c.domain c.location) (fun y => { e with fp := y.fp, verified := y.verified })
  else match (s.half c.half).addEntry s.ddxMax e with
    | none => s
    | some (x, ks) => ((s.updHalf c.half (fun _ => x)).touchAll c.half ks).tagIn c.half e

/-- Apply a map change: the higher sequence wins. -/
def State.applyMap (s : State) (c : MapChange) : State :=
  if (s.mapAt c.vol c.lba).seq ≤ c.entry.seq then s.setMap c.vol c.lba c.entry else s

/-- What a change of an index entry means for LIVE (R345). -/
def State.applyLive (s : State) (c : IdxChange) : State :=
  if c.op == 1 && !c.noEntry then s.liveAdd c.location true
  else if c.op == 4 || (c.op == 3 && c.noEntry) then s.liveAdd c.location false
  else s

/-- Take back a change whose record never committed, where it still stands. -/
def State.undoIndex (s : State) (c o : IdxChange) : State :=
  let bk := ((s.half c.half).bucketOf (fpKey c.fp c.domain)).2
  let there := ((s.half c.half).bucket bk).entries.find? (fun y => y.named c.fp c.domain c.location)
  let same := match there with
    | some y => c.op != 4 && y.refcnt == c.refcnt && y.gen == c.gen
    | none => c.op == 4
  if !same then s
  else
    let s := s.applyIndex o
    if c.op == 1 then s.liveAdd c.location false else if c.op == 4 then s.liveAdd c.location true else s
def State.undoMap (s : State) (c o : MapChange) : State :=
  if s.mapAt c.vol c.lba == c.entry then s.putMap c.vol c.lba o.entry else s
def State.undoStripe (s : State) (n : Nat) (b a : Bytes) : State :=
  if (s.stripe n).entry == b then s.putStripe n (Stripe.ofEntry a) else s
def State.undoRec (s : State) (u : Nat × RecBody × RecBody) : State :=
  match u.2.1, u.2.2 with
  | .index cs, .index os =>
    let s := (cs.zip os).foldl (fun s p => s.undoIndex p.1 p.2) s
    (cs.filter (fun c => c.op == 3 && c.noEntry)).foldl (fun s c => s.liveAdd c.location true) s
  | .map cs, .map os => (cs.zip os).foldl (fun s p => s.undoMap p.1 p.2) s
  | .stripe b, .stripe a => s.undoStripe u.1 b a
  | _, _ => s

/-- Take back every change whose record had not committed, newest first; the counts are rebuilt. -/
def State.undoAll (s : State) : State :=
  (s.ddx.undo.reverse.foldl (fun s e => s.undoRec e.2) (s.updDdx (fun d => { d with undo := [] }))).recount

/-- A half's image from its directory checkpoint and the buckets that names (R258): each row is a half, a directory index, and the 16 bytes of
the entry with the 4,096 bytes its BLOC reads as; D is the deepest entry's depth. A bucket that STATE or its bytes say is BAD is so. -/
def loadHalf (ckpt : List (Nat × Nat × Bytes)) (h : Nat) : Half :=
  let rows := ckpt.filter (fun r => r.1 == h)
  let d := rows.foldl (fun d r => max d (leAt r.2.2 8 1)) 16
  rows.foldl (fun (x : Half) r =>
    let l := leAt r.2.2 8 1
    let img := r.2.2.drop 16
    let bad := leAt r.2.2 10 1 == 1 || !bucketValid h img
    let k := 2 ^ l + r.2.1 / 2 ^ (d - l)
    let es := if bad then [] else (bucketSlots img).map IdxEntry.ofBytes
    if (Tab.find x.buckets k).isSome then x
    else { x with buckets := Tab.put x.buckets k { version := leAt r.2.2 12 4, bad, bloc := leAt r.2.2 0 8, entries := es }, entries := x.entries + es.length })
    { depth := d, stale := true }

/-- The image of a half this head does not hold is loaded; a bucket found BAD is reported. -/
def State.loadIndex (s : State) (ckpt : List (Nat × Nat × Bytes)) (h : Nat) : State :=
  let s := s.updDdx (fun d => { d with halves := Tab.put d.halves h (loadHalf ckpt h), store := d.store.filter (fun v => v.1 != h) })
  (ckpt.filter (fun r => r.1 == h && leAt r.2.2 10 1 != 1 && !bucketValid h (r.2.2.drop 16))).foldl (fun s r =>
    (s.setb F.DDX_ERR_BUCKET_BAD true).recordMs 0x0901 (w1 h ++ w2 r.2.1)) s

/-- The map pages among the rows of a checkpoint, numbered 2, join the maps; the higher sequence wins. How a head that comes back learns what the
survivor changed in the maps the spec does not say: the model reads them with the rebuild of R259 (log 141). -/
def State.loadMaps (s : State) (ckpt : List (Nat × Nat × Bytes)) : State :=
  (ckpt.filter (fun r => r.1 == 2 && pageValid r.2.2)).foldl (fun s r =>
    (List.range 127).foldl (fun s i =>
      let v := r.2.1 % 16384
      let lba := r.2.1 / 16384 * 127 + i
      let entry := MapEntry.ofBytes (slice r.2.2 (32 + 32 * i) 32)
      if (s.mapAt v lba).seq < entry.seq then s.setMap v lba entry else s) s) s

/-- The filter of a half is to be rebuilt (R258). -/
def State.startRebuild (s : State) (h : Nat) : State :=
  ((s.updHalf h (fun x => { x with filter := [], stale := true })).setBitOf F.DDX_STS_REBUILD h true).recordMs 0x0906 (w1 h)

/-- A half that a reset left with its filter unbuilt is rebuilt when Kindling ends (R236). -/
def State.resumeRebuild (s : State) : State :=
  ((List.range 2).filter (fun h => s.holdsHalf h && (s.half h).stale)).foldl State.startRebuild s

/-- Every tag of a half enters its filter. -/
def State.buildFilter (s : State) (h : Nat) : State :=
  let s := s.updHalf h (fun x => { x with stale := false })
  ((s.half h).buckets.flatMap (fun b => b.2.entries)).foldl (fun s e => s.tagIn h e) s

/-- The live mirror copies of the partner's index records (R258). -/
def State.mirroredIndex (s : State) : List IdxChange :=
  (bySeq (s.jnl.recs.filter (fun r => r.mirror && r.committed))).flatMap (fun r => match r.body with
    | .index cs => cs
    | _ => [])

/-- FILTER_REBUILD_DONE: every bucket of half `h` has been read and its tags entered (R258). A head that joins builds its own half here, from the
checkpoint and the records mirrored to it (R259). -/
def execFilterRebuildDone (x : HalfRead) (s : State) : Res :=
  let h := x.half
  .next (if s.bitOf F.DDX_STS_REBUILD h then
    let s := if s.holdsHalf h then s else (s.mirroredIndex.filter (fun c => c.half == h)).foldl State.applyIndex ((s.loadIndex x.ckpt h).loadMaps x.ckpt)
    let s := (s.seeBuckets (x.reads.filter (fun r => r.1 == h))).buildFilter h
    (s.setBitOf F.DDX_STS_REBUILD h false).recordMs 0x0907 (w1 h)
  else s)

end Sys2Proof.Machine
end

