-- ==== Sys2Proof/Machine/Bellows.lean ====
section
/-! DEFINITION. Bellows (ch. 04): which queue is served next (R106-R109), the checks of a command (R591), its stamps (R111-R114), its
start on this head or the partner (R412), the read path, and the write completion rule (R115). -/

namespace Sys2Proof.Machine

/-- A bit of a port's HST_ERR is set: vector 2,047 is raised, and the event recorded where R76 names one. -/
def State.hstErr (s : State) (p : Nat) (f : Nat → Fld) (code : Option Nat) : State :=
  let s := (s.setb (f p) true).irq p 2047
  match code with
  | some c => s.record c (w1 p)
  | none => s

/-! ### Power states (R126-R128) -/

/-- The link of a host port is in L0. -/
def State.linkL0 (s : State) (p : Nat) : Bool := s.get (F.HST_LINK_STS_LTSSM p) == 3

/-- The power state a controller counts as requesting. -/
def State.wantedPs (s : State) (p : Nat) : Nat := if s.linkL0 p then (s.ctrl p).ps else 2

/-- The dirty count in MiB. -/
def State.dirtyMiB (s : State) : Nat := s.dirty / 2 ^ 20

/-- Banked entry begins (R128): only from Duplex or Solo. The Index cache's merging buffer drains (R273). -/
def State.beginBanked (s : State) : State :=
  if (s.md == mDuplex || s.md == mSolo) && !s.mode.bankedEntry then
    ({ s.setb F.BEL_STS_ENTERING true with mode := { s.mode with bankedEntry := true } }).drainAll.ichAgain
  else s

/-- HEAD_PS follows the shallowest state requested (R127); a change is recorded, and PS2 begins Banked entry. -/
def State.showPower (s : State) : State :=
  let ps := min (s.wantedPs 0) (s.wantedPs 1)
  if s.get F.BEL_STS_HEAD_PS == ps then s
  else
    let s := (s.set F.BEL_STS_HEAD_PS ps).record 0x0602 (w1 s.dirtyMiB)
    if ps == 2 then s.beginBanked else s

/-- An I/O command that arrives in Banked moves its controller to PS0 (R129). -/
def State.wakeCtrl (s : State) (p : Nat) : State := (s.updCtrl p (fun c => { c with ps := 0 })).showPower

/-- A mode transition; a head whose power state is PS2 begins Banked entry when it enters Duplex or Solo (R128). -/
def State.enterMode (s : State) (mode num : Nat) : State :=
  let s := s.transition mode num
  if s.get F.BEL_STS_HEAD_PS == 2 then s.beginBanked else s

/-! ### Members and turns (R106-R109) -/

/-- Members of a port's rotation: submission queue `q` as `q`, window ring `r` as `ringMember r`. -/
def ringMember (r : Nat) : Nat := 4097 + r
def memberKey (m : Nat) : Bool × Nat := if m < 4097 then (false, m) else (true, m - 4097)

/-- Write fetch is stopped: under R109, by the journal ring (R372), or by a gap (R434). -/
def State.writeStopped (s : State) : Bool := s.bel.stopNeed != 0 || s.getb F.JNL_STS_STOP || s.tick.gapHold.isSome

/-- A queue or ring is stopped at a write. -/
def State.memberStopped (s : State) (p m : Nat) : Bool :=
  s.writeStopped && s.bel.stopped.contains (p, (memberKey m).1, (memberKey m).2)

/-- Bellows may fetch from a port: its fetch is enabled, the port is out of reset and no Quench runs. -/
def State.portFetches (s : State) (p : Nat) : Bool :=
  s.released dNoc && s.released dCch && s.released (dHst p) && s.bitOf F.BEL_CTL_FETCH_EN p && (s.port p).rst.isEmpty && s.qphase == 0

/-- The mode lets the head fetch I/O commands (R116, R472): in Sweep only while the Sanitize it was entered for runs. In Banked a fetch first ends Banked. -/
def State.ioMode (s : State) : Bool :=
  s.md == mJoining || s.md == mDuplex || s.md == mSolo || (s.md == mSweep && s.getb F.BEL_STS_SANITIZING && s.mode.sweepFrom != 0)

/-- A submission queue has a visible entry. -/
def State.sqVisible (s : State) (p q : Nat) : Bool :=
  let c := s.ctrl p
  c.en && c.rdy && match Tab.find c.sqs q with
    | some x => x.head != x.tail
    | none => false

/-- A window ring has a visible entry. -/
def State.ringVisible (s : State) (p r : Nat) : Bool :=
  s.getb (F.GRT_WIN_STS_READY p) && match Tab.find (s.win p).ring r with
    | some x => r < (s.win p).rings && x.head != x.tail
    | none => false

/-- The arbitration class of a member: one class under round robin; under weighted round robin the queue's priority, and Medium for a
ring (R106). -/
def State.memberClass (s : State) (p m : Nat) : Nat :=
  if (s.ctrl p).ams != 1 then 0
  else if m < 4097 then (Tab.getD (s.ctrl p).sqs m {}).prio else 2

/-- The I/O members of a port with a visible entry that are not stopped, in ascending order. -/
def State.members (s : State) (p : Nat) : List Nat :=
  if !s.ioMode then []
  else
    (((s.ctrl p).sqs.map (·.1)).filter (fun q => q != 0 && s.sqVisible p q) ++
      (((s.win p).ring.map (·.1)).filter (fun r => s.ringVisible p r)).map ringMember).filter (fun m => !s.memberStopped p m)

/-- The member of a class to serve next: the one in its burst, else the next after it. -/
def State.nextIn (s : State) (p c : Nat) (ms : List Nat) : Option Nat :=
  let cur := Tab.getN s.bel.member (4 * p + c)
  if ms.contains cur && Tab.getN s.bel.burstLeft (4 * p + c) != 0 then some cur
  else match ms.find? (fun m => cur < m) with
    | some m => some m
    | none => ms.head?

/-- The class to serve next: Urgent first, then High, Medium and Low while their weights last. -/
def State.nextClass (s : State) (p : Nat) (ms : List Nat) : Option Nat :=
  let live := (List.range 4).filter (fun c => ms.any (fun m => s.memberClass p m == c))
  if live.contains 0 then some 0
  else match live.find? (fun c => Tab.getN s.bel.wrrLeft (4 * p + c) != 0) with
    | some c => some c
    | none => live.head?

/-- The member a port serves next: the admin queue before any other. -/
def State.nextMember (s : State) (p : Nat) : Option Nat :=
  if s.sqVisible p 0 then some 0
  else
    let ms := s.members p
    (s.nextClass p ms).bind (fun c => s.nextIn p c (ms.filter (fun m => s.memberClass p m == c)))

/-- The port can use a turn (R108): it has a member to serve and its host channel does not wait for credit. -/
def State.canTurn (s : State) (p : Nat) : Bool :=
  s.portFetches p && (s.nextMember p).isSome && !s.pool.waiting.any (fun w => w.chan == p)

/-- It is the turn of member `m` of port `p`: turns alternate between the ports that can use them. -/
def State.turnOf (s : State) (p m : Nat) : Bool :=
  s.canTurn p && (p != s.bel.lastPort || !s.canTurn (1 - p)) && s.nextMember p == some m

/-- Entries fetched from one member before the next: 2 to the power of Arbitration Burst, 8 at most (R107). -/
def State.burst (s : State) (p : Nat) : Nat := if 3 ≤ (s.ctrl p).burst then 8 else 2 ^ (s.ctrl p).burst

/-- The weight of a class. -/
def State.weight (s : State) (p c : Nat) : Nat :=
  (if c == 1 then (s.ctrl p).hpw else if c == 2 then (s.ctrl p).mpw else (s.ctrl p).lpw) + 1

/-- The port and member have been served. -/
def State.served (s : State) (p m : Nat) : State :=
  if m == 0 then s.updBel (fun b => { b with lastPort := p })
  else
    let c := s.memberClass p m
    let k := 4 * p + c
    let live := (List.range 4).filter (fun c => (s.members p).any (fun m => s.memberClass p m == c))
    let refill := c != 0 && live.all (fun c => c == 0 || Tab.getN s.bel.wrrLeft (4 * p + c) == 0)
    let again := Tab.getN s.bel.member k == m && Tab.getN s.bel.burstLeft k != 0
    s.updBel (fun b =>
      let w := if refill then live.foldl (fun t c => if c == 0 then t else Tab.putN t (4 * p + c) (s.weight p c)) b.wrrLeft else b.wrrLeft
      { b with
        lastPort := p
        member := Tab.putN b.member k m
        burstLeft := Tab.putN b.burstLeft k ((if again then Tab.getN b.burstLeft k else s.burst p) - 1)
        wrrLeft := if c == 0 then w else Tab.putN w k (Tab.getN w k - 1) })

/-- The device cache gives up a queue line it held: DirtyEvict for one it owned, CleanEvict for another (R43). -/
def State.evictLine (s : State) (p : Nat) (l : Nat × Bool) : State := s.emit (.cacheReq p l.1 (if l.2 then 2 else 3))

/-- Bellows takes a queue line into the port's device cache of 2,048 lines while CXL.cache is in use (R46): an even key names a line of a
submission queue, read with RdShared, an odd one a line of a completion queue, taken with RdOwn. A line held already needs no request; the line
least recently used makes room. -/
def State.holdLine (s : State) (p key : Nat) (own : Bool) : State :=
  if !s.getb (F.HST_LINK_STS_CACHE_ON p) then s
  else
    let h := s.port p
    let s := if h.lines.any (fun l => l.1 == key && (l.2 || !own)) then s else s.emit (.cacheReq p key (b2n own))
    let all := (key, own) :: h.lines.filter (fun l => l.1 != key)
    (all.drop 2048).foldl (fun s l => s.evictLine p l) (s.updPort p (fun h => { h with lines := all.take 2048 }))

/-- The keys of the lines of queue `q` that hold entry `i`. -/
def sqLine (q i : Nat) : Nat := 2 * (q * 65536 + i)
def cqLine (q i : Nat) : Nat := 2 * (q * 65536 + i / 4) + 1

/-- One entry of a submission queue has been fetched. -/
def State.sqFetched (s : State) (p q : Nat) : State :=
  let i := (Tab.getD (s.ctrl p).sqs q {}).head
  ((s.served p q).holdLine p (sqLine q i) false).updCtrl p (fun c => { c with sqs := Tab.upd c.sqs q {} (fun x => { x with head := (x.head + 1) % x.size }) })

/-! ### Write stops (R109, R119) -/

/-- The dirty bound in bytes. -/
def State.bound (s : State) : Nat := s.get F.BEL_DIRTY_BOUND_LIMIT * 2 ^ 20

/-- A queue or ring stops at a write. -/
def State.stopAt (s : State) (p m : Nat) : State :=
  let base := if s.writeStopped then s.bel.stopped else []
  s.updBel (fun b => { b with stopped := base ++ [(p, (memberKey m).1, (memberKey m).2)] })

/-- Write fetch stops for a write of `len` bytes. -/
def State.startStop (s : State) (p m len : Nat) : State :=
  let s := (s.stopAt p m).updBel (fun b => { b with stopNeed := len })
  ((s.setb F.BEL_STS_DIRTY_STOP true).incSat F.BEL_STALL_CNT_COUNT 1).recordGap (sec 1) 0x0601 0 (w1 s.dirtyMiB)

/-- WRITE_FETCH_RESUME: the dirty count with the waiting write is within the bound (R109). -/
def execWriteFetchResume (s : State) : Res :=
  .next (if s.bel.stopNeed != 0 && s.dirty + s.bel.stopNeed ≤ s.bound then
    (s.updBel (fun b => { b with stopNeed := 0, stopped := [] })).setb F.BEL_STS_DIRTY_STOP false
  else s)

/-! ### Programs (R163, R203) -/

/-- The program a command resolves to. -/
def State.program (s : State) (v pgm : Nat) : Nat :=
  if pgm != 0 then pgm else if (s.vol v).policy / 2 ^ 16 != 0 then (s.vol v).policy / 2 ^ 16 else 1

/-- ARG of a work item of KIND 0 or 1. -/
def State.itemArg (s : State) (v : Nat) : Nat :=
  (s.vol v).policy % 2 ^ 32 + (s.vol v).domain % 2 ^ 12 * 2 ^ 32 + Config.domainSlot (s.vol v).domain % 2 ^ 12 * 2 ^ 44

/-- The kind number of a command's work item. -/
def CmdKind.item : CmdKind → Nat
  | .read => 1
  | _ => 0

/-- The work item of a command that holds its grates. -/
def State.cmdItem (s : State) (c : Cmd) : WorkItem :=
  let gs := s.gratesOf (cmdUser c.id)
  { bytes := itemBytes (s.program c.vol c.pgm) c.kind.item c.vol (if c.foreign.isSome then 2 else c.port) c.lba c.seq c.atime c.id
      (gs.headD 0) gs.length (if gs.length > 1 then c.list else 0) (s.itemArg c.vol)
    user := c.id }

/-! ### Checks (R591) -/

/-- An entry as Bellows has read it. `kind` is none for an opcode of no row; `sgl` is the SGL's total length and `sglBad` a descriptor
type that may not stand there. -/
structure Entry where
  port : Nat
  ring : Bool
  queue : Nat
  cid : Nat
  kind : Option CmdKind
  nsid : Nat
  lba : Nat := 0
  len : Nat := 0
  pgm : Nat := 0
  irq : Bool := false
  sgl : Nat := 0
  sglBad : Bool := false
  stream : Nat := 0
  ranges : List (Nat × Nat) := []
  buckets : List (Nat × Nat) := []

/-- The volume index of an entry. -/
def Entry.vol (e : Entry) : Nat := if e.ring then e.nsid else e.nsid - 1

/-- The head refuses writes for capacity (R122, R247, R335, R571). -/
def State.noCapacity (s : State) (v : Nat) (k : CmdKind) : Bool :=
  2 ^ 62 ≤ s.bel.seqNext ||
  (k == .write && ((s.getb F.DDX_STS_FULL && bit (s.vol v).policy 0) || !s.hasSpace))

/-- An entry names its volume: every ring command but NOP, FLUSH and REPL_GET; every NVMe command but a Flush of all namespaces. -/
def Entry.namesVol (e : Entry) (k : CmdKind) : Bool :=
  match k with
  | .nop | .replGet => false
  | .flush => !e.ring && e.nsid != 0xFFFFFFFF
  | _ => true

/-- An entry's LEN breaks its rule (R86, R445). -/
def State.lenBad (s : State) (e : Entry) (k : CmdKind) : Bool :=
  e.ring && match k with
    | .read | .write => e.len == 0 || e.len % 4096 != 0 || e.len > (s.win e.port).slotSize
    | .dealloc => e.len == 0 || e.len % 4096 != 0
    | .replGet => e.len % 4096 != 0 || e.len > (s.win e.port).slotSize || (e.stream < 16 && e.len < 2 ^ (16 + min 5 (s.stream e.stream).segLog2))
    | _ => false

/-- The granules an entry reaches lie beyond the volume. -/
def State.lbaBad (s : State) (e : Entry) (k : CmdKind) : Bool :=
  let size := (s.vol e.vol).size
  match k with
  | .read | .write | .writeZeroes => e.lba + e.len / 4096 > size
  | .dealloc => if e.ring then e.lba + e.len / 4096 > size else e.ranges.any (fun r => r.1 + r.2 > size)
  | _ => false

/-- The checks of R591 an owner makes of a volume and a command whoever fetched it, from the suspended volume on: how the command ends. -/
def State.volCheck (s : State) (v : Nat) : Option Ending :=
  let x := s.vol v
  if x.susp != 0 then some { sc := 0x06, ring := 0x0F }
  else if x.format != 0 then some { sc := 0x84, ring := 0x10 }
  else none

/-- The checks from the read-only volume on. -/
def State.lateCheck (s : State) (v pgm : Nat) (k : CmdKind) (own : Bool) : Option Ending :=
  if k.writes && ((s.vol v).ro || s.md == mJoining) then some { sc := 0x20, ring := 0x0C }
  else if own && k.writes && s.noCapacity v k then some { sc := 0x81, ring := 0x0C }
  else if own && (k == .read || k == .write) && (s.chooseStove (s.program v pgm) k.item).isNone then some { sc := 0x06, ring := 0x0D }
  else none

/-- The checks of R591 in order: how the command ends here, if it does. `own` says this head would run it. -/
def State.checkEntry (s : State) (e : Entry) (own : Bool) : Option Ending :=
  if s.getb F.BEL_STS_SANITIZING then some { sc := 0x1D, ring := 0x0E }
  else if s.bel.sanitizeFail then some { sc := 0x1C, ring := 0x0E }
  else match e.kind with
    | none => some { sc := 0x01, ring := 0x01 }
    | some k =>
      let x := s.vol e.vol
      if e.ring && s.bel.cmds.any (fun c => c.ring && c.foreign.isNone && !c.dead && c.port == e.port && c.queue == e.queue && c.cid == e.cid) then
        some { ring := 0x05 }
      else if s.lenBad e k then some { ring := 0x02 }
      else if e.namesVol k && (!x.present || (!e.ring && (e.nsid == 0 || !bit x.attach (2 * s.head + e.port))) ||
          (e.ring && !bit x.attach (2 * s.head + e.port))) then some { sc := 0x0B, ring := 0x03 }
      else if !e.namesVol k then none
      else match s.volCheck e.vol with
        | some r => some r
        | none =>
          if !e.ring && (k == .read || k == .write) && e.len > 2 ^ 21 then some { sc := 0x02 }
          else if s.lbaBad e k then some { sc := 0x80, ring := 0x04 }
          else if !e.ring && (k == .read || k == .write) && e.sgl < e.len then some { sc := 0x0F }
          else if !e.ring && e.sglBad then some { sc := 0x11 }
          else s.lateCheck e.vol e.pgm k own

/-- A write refused because DDX_STS.FULL is set shows in DDX_ERR (R247). -/
def State.noteCapacity (s : State) (vol : Nat) (r : Ending) : State :=
  if r.sc == 0x81 && s.getb F.DDX_STS_FULL && bit (s.vol vol).policy 0 then s.setb F.DDX_ERR_CAPACITY true else s

/-- What an ending shows in the error registers (R60, R138, R163). -/
def State.noteEnding (s : State) (e : Entry) (r : Ending) : State :=
  if !e.ring && r.sc == 0x0F then s.hstErr e.port F.HST_ERR_SGL_LEN none
  else if r.sc == 0x81 then ((s.setb F.BEL_ERR_CAPACITY true).record 0x0603 []).noteCapacity e.vol r
  else if r.ring == 0x0D then s.noProgram (s.program e.vol e.pgm)
  else s

/-! ### Starting a command (R412, R459, R466) -/

/-- Where a command for a volume runs. -/
inductive Route where
  | here | away | hold
deriving DecidableEq, Repr

/-- Where a command stamped `a` for volume `v` runs: held during a takeover (R459); in a hand-over by its side of TB (R466); otherwise
with the owner, held while no session reaches it. -/
def State.routeOf (s : State) (v a : Nat) : Route :=
  let reach : Route := if s.session then .away else .hold
  if s.moving v then
    if s.and.survivor then (if a < s.get F.AND_FB_TB_VALUE then .here else reach)
    else if a < s.get F.AND_FB_TB_VALUE then reach else .hold
  else if (s.vol v).owner == s.head && s.md != mJoining then .here
  else if s.and.takeoverAt.isSome then .hold
  else reach

/-- The DEALLOC records of a range: a record's LEN holds less than 4 GiB (R364). -/
def splitRange : Nat → Nat × Nat → List (Nat × Nat)
  | 0, r => [r]
  | n + 1, r => if r.2 < 2 ^ 20 then [r] else (r.1, 2 ^ 20 - 1) :: splitRange n (r.1 + (2 ^ 20 - 1), r.2 - (2 ^ 20 - 1))

/-- Post the DEALLOC records of a command: the first takes the command's sequence, each further range the next one. -/
def State.postDealloc (s : State) (c : Cmd) : State :=
  let rs := (c.ranges.filter (fun r => r.2 != 0)).flatMap (fun r => splitRange (r.2 / (2 ^ 20 - 1)) r)
  let post (s : State) (seq : Nat) (r : Nat × Nat) :=
    s.postRec { seq, atime := c.atime, type := 2, mirror := false, origin := s.head, vol := c.vol, len := 4096 * r.2, lba := r.1, tag := c.id }
  let s := s.updCmd c.id (fun c => { c with posted := true, recorded := rs.isEmpty, mirDone := rs.isEmpty })
  match rs with
  | [] => s
  | r :: rs => rs.foldl (fun s r => let q := s.nextSeq c.atime; post (s.takeSeq c.atime) q r) (post s c.seq r)

/-- Forward a command to the partner (R401, R412). A deallocation of several ranges is forwarded range by range, each once the one
before has its FWD_DONE. -/
def State.forward (s : State) (c : Cmd) (opc : Nat) : State :=
  let rs := (c.ranges.filter (fun r => r.2 != 0)).flatMap (fun r => splitRange (r.2 / (2 ^ 20 - 1)) r)
  let s := s.updCmd c.id (fun c => { c with stage := .forwarded, away := true, ranges := if opc == 3 then rs else c.ranges })
  let send (s : State) (lba len : Nat) :=
    s.crlSend 2 0x20 (leBytes 8 c.id ++ leBytes 8 c.atime ++ leBytes 8 lba ++ leBytes 4 len ++ leBytes 2 c.vol ++
      [BitVec.ofNat 8 opc, BitVec.ofNat 8 (c.port + 128 * b2n c.ring)] ++ leBytes 2 c.pgm ++ zeroBytes 14 ++
      (if opc == 1 then granuleDigests (c.len / 4096) c.payload ++ c.payload else []))
  if opc == 3 then
    match rs with
    | [] => s.finish c {}
    | r :: _ => send s r.1 (4096 * r.2)
  else send s c.lba c.len

/-- The OPC a command is forwarded with. -/
def Cmd.opc (c : Cmd) : Nat := if c.kind == .write then 1 else if c.kind == .read then 2 else 3

/-- Stage a write whose payload is in its grates: its record is posted, and the work item that destages it (R16). A write that no
Stove takes ends without a record (R163). -/
def State.stageWrite (s : State) (c : Cmd) : State :=
  match s.postItem (s.cmdItem c) with
  | none => (s.noProgram (s.program c.vol c.pgm)).abandon c { sc := 0x06, ring := 0x0D }
  | some t =>
    let t := t.updCmd c.id (fun c => { c with stage := .staged, posted := true })
    let t := t.updJnl (fun j => { j with staging := Tab.put j.staging (recKey false t.head c.seq) c.payload })
    t.postRec { seq := c.seq, atime := c.atime, type := 1, mirror := false, origin := t.head, vol := c.vol, len := c.len, lba := c.lba, loc := c.list,
                pdig := (sha256 c.payload).take 16, tag := c.id }

/-- The grates a command's payload needs, on its channel: the port's, or MIRI for one the partner forwarded. -/
def Cmd.chan (c : Cmd) : Nat := if c.foreign.isSome then 2 else c.port
def Cmd.granules (c : Cmd) : Nat := c.len / 4096

/-- Every grate the command asked for is granted. -/
def State.allGranted (s : State) (c : Cmd) : Bool := (s.gratesOf (cmdUser c.id)).length == c.granules

/-- The payload of a write is in its grates: its list of grates stands in DDR (R364), and the write is staged here or forwarded. -/
def State.landed (s : State) (c : Cmd) (payload : Bytes) : State :=
  let gs := s.gratesOf (cmdUser c.id)
  let list := s.freeValue.toNat
  let s := s.taken 1
  let s := ({ s with grates := fillGrates s.grates gs payload }).ddrWrite list (gs.flatMap (fun g => leBytes 4 g))
  let c := { c with payload, list }
  let s := s.updCmd c.id (fun _ => c)
  if c.away then s.forward c 1 else s.stageWrite c

/-! ### The read path (R16, R19, R467) -/

/-- A record covers a granule. -/
def JRec.covers (r : JRec) (v lba : Nat) : Bool :=
  (r.type == 1 || r.type == 2) && r.vol == v && r.lba ≤ lba && lba < r.lba + r.len / 4096

/-- The staged record of the highest sequence that covers a granule. -/
def State.stagedRec (s : State) (v lba : Nat) : Option JRec :=
  (s.jnl.recs ++ s.jnl.waiting).foldl (fun (best : Option JRec) r =>
    if r.covers v lba then
      match best with
      | some b => if b.seq < r.seq then some r else best
      | none => some r
    else best) none

/-- What a granule reads as. -/
inductive Found where
  | bytes (b : Bytes)
  | drive
  | lost
deriving DecidableEq, Repr

/-- A granule from staging while its newest record is not behind the map, zeros when it is deallocated, lost under R380, or on the
drives. -/
def State.granule (s : State) (v lba : Nat) : Found :=
  let m := s.mapAt v lba
  match s.stagedRec v lba with
  | some r =>
    if m.seq ≤ r.seq && (r.type == 2 || (Tab.find s.jnl.staging r.key).isSome) then
      .bytes (if r.type == 2 then zeroBytes 4096 else slice (Tab.getD s.jnl.staging r.key []) (4096 * (lba - r.lba)) 4096)
    else if s.isLost v lba m.seq then .lost
    else if m.present then .drive else .bytes (zeroBytes 4096)
  | none =>
    if s.isLost v lba m.seq then .lost
    else if m.present then .drive else .bytes (zeroBytes 4096)

/-- The bytes of a read that its bit bucket descriptors do not discard (R60). -/
def keptBytes (buckets : List (Nat × Nat)) : Nat → Bytes → Bytes
  | _, [] => []
  | i, b :: bs => if buckets.any (fun r => r.1 ≤ i && i < r.1 + r.2) then keptBytes buckets (i + 1) bs else b :: keptBytes buckets (i + 1) bs

/-- A read's data reaches its host: an NVMe read or one the partner forwarded completes; a ring read waits for its slot (R83). -/
def State.deliver (s : State) (c : Cmd) (data : Bytes) : State :=
  if c.foreign.isSome then s.abandon c { data }
  else if c.ring then s.updCmd c.id (fun c => { c with stage := .staged, payload := data })
  else (s.emit (.hostData c.port c.queue c.cid (keptBytes c.buckets 0 data))).abandon c {}

/-- Run a read that holds its grates: from staging and the maps, with a work item of KIND 1 for what the drives hold. -/
def State.runRead (s : State) (c : Cmd) : State :=
  let fs := (List.range c.granules).map (fun i => (i, s.granule c.vol (c.lba + i)))
  if fs.any (fun f => f.2 == .lost) then s.failRead c 2 0x81
  else
    let got := fs.filterMap (fun f => match f.2 with
      | .bytes _ => some (f.1, 1)
      | _ => none)
    let data := fs.flatMap (fun f => match f.2 with
      | .bytes b => b
      | _ => zeroBytes 4096)
    if got.length == c.granules then s.deliver c data
    else
      let gs := s.gratesOf (cmdUser c.id)
      let list := s.freeValue.toNat
      let s := (s.taken 1).ddrWrite list (gs.flatMap (fun g => leBytes 4 g))
      let c := { c with stage := .reading, payload := data, ranges := got, list }
      let s := s.updCmd c.id (fun _ => c)
      match s.postItem (s.cmdItem c) with
      | some t => t
      | none => (s.noProgram (s.program c.vol c.pgm)).failRead c 0 0x06 0x0D

/-- The work item of a read has ended: the granules it found are in the grates. -/
def State.readDone (s : State) (c : Cmd) : State :=
  let gs := s.gratesOf (cmdUser c.id)
  s.deliver c ((List.range c.granules).flatMap (fun i =>
    if c.ranges.any (fun r => r.1 == i) then slice c.payload (4096 * i) 4096 else Tab.readBytes s.grates (4096 * gs.getD i 0) 4096))

/-- Start a read that holds its grates, here or at the partner. -/
def State.startRead (s : State) (c : Cmd) : State := if c.away then s.forward c 2 else s.runRead c

/-- A MIR_DATA message whose payload has all its grates goes to program 0x0004 as an item of KIND 5 (R408). -/
def State.postMirror (s : State) (tag : Nat) (m : Bytes) : State :=
  let gs := s.gratesOf (cmdUser tag)
  if gs.length != (m.length - 160) / 4112 then s
  else
    let list := s.freeValue.toNat
    let s := (s.taken 1).ddrWrite list (gs.flatMap (fun g => leBytes 4 g))
    match s.postItem { bytes := itemBytes 4 5 0 2 0 0 0 tag (gs.headD 0) gs.length (if gs.length > 1 then list else 0) 0, user := tag } with
    | some t => t.updCrl (fun c => { c with mirIn := Tab.put c.mirIn tag (m, true) })
    | none => s

/-- Post the work item that destages a WRITE record from its staging under its own sequence. An item no Stove takes goes to firmware. -/
def State.destage (s : State) (r : JRec) : State :=
  let gs := s.gratesOf (cmdUser r.tag)
  let w : WorkItem :=
    { bytes := itemBytes (s.program r.vol 0) 0 r.vol 2 r.lba r.seq r.atime r.tag (gs.headD 0) gs.length (if gs.length > 1 then r.loc else 0) (s.itemArg r.vol)
      user := r.tag }
  match s.postItem w with
  | some t => t
  | none => (s.noProgram (s.program r.vol 0)).toFirmware w

/-- A payload found again lies in its grates once it holds them all, and is destaged under its original sequence. -/
def State.regained (s : State) (key : Nat) : State :=
  match s.jnl.recs.find? (fun r => r.key == key) with
  | none => s.updJnl (fun j => { j with regain := j.regain.filter (· != key) })
  | some r =>
    if !s.holdsAll (cmdUser r.tag) (r.len / 4096) then s
    else
      let gs := s.gratesOf (cmdUser r.tag)
      let list := s.freeValue.toNat
      let s := ({ s.taken 1 with grates := fillGrates s.grates gs (Tab.getD s.jnl.staging key []) }).ddrWrite list (gs.flatMap (fun g => leBytes 4 g))
      let s := s.updJnl (fun j => { j with
        regain := j.regain.filter (· != key), recs := j.recs.map (fun x => if x.is r.mirror r.origin r.seq then { x with loc := list } else x) })
      (s.markJournalled (cmdUser r.tag)).destage { r with loc := list }

/-- Whatever waited for grates goes on once it holds them all (R29): reads start, payloads the partner forwarded or mirrored and payloads found
again are used, drive requests and mirror messages are sent. -/
def State.runGranted (s : State) : State :=
  let s := (s.bel.cmds.filter (fun c => c.stage == .landing && s.allGranted c)).foldl (fun s c =>
    if c.kind == .read then s.startRead c
    else if c.foreign.isSome then s.landed c c.payload
    else s) s
  let s := (s.crl.mirIn.filter (fun e => !e.2.2)).foldl (fun s e => s.postMirror e.1 e.2.1) s
  s.jnl.regain.foldl State.regained s.sendReady.pumpMir

/-- GRATE_GRANT: credit has returned and the next waiting request is granted (R31). -/
def execGrateGrant (s : State) : Res := .next s.grantNext.runGranted

/-- As many writes are forwarded without their FWD_DONE as a head keeps: 2^19 (R434). -/
def State.forwardsFull (s : State) : Bool := 2 ^ 19 ≤ s.bel.cmds.countP (fun c => c.away && c.kind == .write)

/-- Take the stamps a command needs on its route and start it. A ring read or write first waits for a slot (R91). -/
def State.launchCmd (s : State) (c : Cmd) : State :=
  let r := if c.foreign.isSome then Route.here else s.routeOf c.vol c.atime
  let seqs := c.kind.writes && r == .here
  if r == .hold || (seqs && !s.seqReady c.atime) || (r == .away && c.kind == .write && s.forwardsFull) then s.updCmd c.id (fun _ => { c with stage := .holding })
  else
    let c := { c with away := r == Route.away, seq := if seqs then s.nextSeq c.atime else c.seq }
    let s := if seqs then s.takeSeq c.atime else s
    let slotted := c.ring && c.foreign.isNone && (c.kind == .read || c.kind == .write)
    let c := { c with stage := if slotted then .waitSlot else .landing }
    let s := s.updCmd c.id (fun _ => c)
    if c.kind == .dealloc || c.kind == .writeZeroes then (if c.away then s.forward c 3 else s.postDealloc c)
    else if slotted then s
    else (s.requestN { chan := c.chan, user := cmdUser c.id, atime := c.atime } c.granules).runGranted

/-- Commands held at fetch start again, oldest first (R459, R466). -/
def State.releaseHeld (s : State) : State :=
  ((s.bel.cmds.filter (fun c => c.stage == .holding)).map (·.id)).foldl (fun s id =>
    match s.cmd? id with
    | some c => s.launchCmd c
    | none => s) s

/-- Put a new command in flight. -/
def State.newCmd (s : State) (c : Cmd) : State := s.updBel (fun b => { b with cmds := b.cmds ++ [c], nextId := b.nextId + 1 })

/-- An entry has been fetched (R111): it ends at a check, completes or waits as a Flush, or starts. -/
def State.admitEntry (s : State) (e : Entry) (chead : Nat) : State :=
  let own := s.routeOf e.vol s.now != Route.away
  let c : Cmd := { id := s.bel.nextId, port := e.port, ring := e.ring, queue := e.queue, cid := e.cid, kind := e.kind.getD .nop, vol := e.vol,
                   lba := e.lba, len := e.len, pgm := e.pgm, irq := e.irq, atime := s.now, seq := 0, chead, stage := .landing, slot := 0,
                   ranges := if e.ring || e.kind == some .writeZeroes then [(e.lba, e.len / 4096)] else e.ranges, stream := e.stream, buckets := e.buckets }
  match s.checkEntry e own with
  | some r => ((s.newCmd c).noteEnding e r).finish c r
  | none =>
    let s := s.newCmd c
    match c.kind with
    | .nop => s.finish c {}
    | .flush => (s.updCmd c.id (fun c => { c with stage := .waitFlush })).settleFlush
    | .replGet => s.updCmd c.id (fun c => { c with stage := .waitSlot })
    | _ => s.launchCmd c

/-- What happens to the entry at the front of member `m`: fetched, or the member stops. A write that is to end at a check moves no payload and
so never stops the fetch for its length. -/
def State.stopOr (s : State) (p m : Nat) (e : Entry) (fetch : State → State) : State :=
  let k := e.kind.getD .nop
  if !s.turnOf p m then s
  else if k.writes && s.writeStopped then s.stopAt p m
  else if k == .write && s.dirty + e.len > s.bound && (s.checkEntry e true).isNone then s.startStop p m e.len
  else fetch s

/-- A sequence can be taken by an entry fetched now, or it needs none: it is no write, it ends at a check, or it runs elsewhere. -/
def State.seqsFor (s : State) (e : Entry) : Bool :=
  !(e.kind.any CmdKind.writes) || s.seqReady s.now || s.routeOf e.vol s.now != Route.here || (s.checkEntry e true).isSome

/-- A command that arrives in Banked waits for its end, which it triggers (R476). -/
def State.holdBanked (s : State) (i : Instr) : State := { s with mode := { s.mode with held := s.mode.held ++ [i] } }

/-- Fetch an I/O command of an NVMe submission queue. In Banked its controller moves to PS0 and the head leaves Banked first (R129). -/
def State.fetchSq (s : State) (i : Instr) (e : Entry) : State :=
  if e.queue == 0 then s
  else if s.md == mBanked then
    if s.portFetches e.port && s.sqVisible e.port e.queue then (s.wakeCtrl e.port).holdBanked i else s
  else if !s.seqsFor e then s
  else s.stopOr e.port e.queue e (fun s => (s.sqFetched e.port e.queue).admitEntry e 0)

/-- NVME_READ: a command with opcode `opc` is fetched: Read, or one of no row, which completes with Invalid Command Opcode (R124). `n` is
its granules, `sgl` its SGL (R60). -/
def execNvmeRead (p q cid nsid slba n : Nat) (sgl : Sgl) (opc : Nat) (s : State) : Res :=
  .next (s.fetchSq (.nvmeRead p q cid nsid slba n sgl opc) { port := p, ring := false, queue := q, cid, kind := if opc == 2 then some .read else none, nsid, lba := slba, len := 4096 * n, sgl := sgl.len, buckets := sgl.buckets })

/-- NVME_WRITE: a Write is fetched. `bucket` says its SGL holds a bit bucket descriptor (R60). -/
def execNvmeWrite (p q cid nsid slba n sgl : Nat) (bucket : Bool) (s : State) : Res :=
  .next (s.fetchSq (.nvmeWrite p q cid nsid slba n sgl bucket) { port := p, ring := false, queue := q, cid, kind := some .write, nsid, lba := slba, len := 4096 * n, sgl, sglBad := bucket })

/-- NVME_FLUSH: a Flush is fetched (R118). -/
def execNvmeFlush (p q cid nsid : Nat) (s : State) : Res :=
  .next (s.fetchSq (.nvmeFlush p q cid nsid) { port := p, ring := false, queue := q, cid, kind := some .flush, nsid })

/-- DATASET_MANAGEMENT: a Dataset Management command is fetched with its ranges; without the Deallocate attribute it does nothing. -/
def execDatasetManagement (p q cid nsid : Nat) (ad : Bool) (ranges : List (Nat × Nat)) (s : State) : Res :=
  .next (s.fetchSq (.datasetManagement p q cid nsid ad ranges) { port := p, ring := false, queue := q, cid, kind := some .dealloc, nsid, ranges := if ad then ranges else [] })

/-- WRITE_ZEROES: a Write Zeroes of `n` granules is fetched (R124). -/
def execWriteZeroes (p q cid nsid slba n : Nat) (s : State) : Res :=
  .next (s.fetchSq (.writeZeroes p q cid nsid slba n) { port := p, ring := false, queue := q, cid, kind := some .writeZeroes, nsid, lba := slba, len := 4096 * n })

/-- PAYLOAD_LANDS: the payload of an NVMe write is in its grates (R16). -/
def execPayloadLands (id : Nat) (payload : Bytes) (s : State) : Res :=
  .next (match s.cmd? id with
    | some c => if c.kind == .write && !c.ring && c.foreign.isNone && c.stage == .landing && s.allGranted c then
        s.landed c (slice payload 0 c.len) else s
    | none => s)

/-! ### Completion (R115-R117) -/

/-- Every condition of the head's mirror state holds for a write-class command. -/
def State.complete? (s : State) (c : Cmd) : Bool :=
  c.kind.writes && c.posted && c.recorded && (c.mirDone || !s.mirrored)

/-- WRITE_COMPLETE: every condition of the write completion rule holds for command `id`, and it completes (R115). -/
def execWriteComplete (id : Nat) (s : State) : Res :=
  .next (match s.cmd? id with
    | some c => if s.complete? c then s.finish c { count := c.len } else s
    | none => s)

/-! ### Doorbells and completion queues (R107, R110) -/

/-- SQ_DOORBELL: a new tail of submission queue `q` (R107). One that names no queue or no entry of it is ignored. -/
def execSqDoorbell (p q tail : Nat) (s : State) : Res :=
  .next (match Tab.find (s.ctrl p).sqs q with
    | some x => if (s.ctrl p).en && tail < x.size then s.updCtrl p (fun c => { c with sqs := Tab.put c.sqs q { x with tail } }) else s
    | none => s)

/-- CQ_DOORBELL: the host advances the head of completion queue `q` (R110). -/
def execCqDoorbell (p q head : Nat) (s : State) : Res :=
  .next (match Tab.find (s.ctrl p).cqs q with
    | some x => if (s.ctrl p).en && head < x.size then s.updCtrl p (fun c => { c with cqs := Tab.put c.cqs q { x with head } }) else s
    | none => s)

/-- CQ_ENTRY_POST: the oldest waiting completion is posted while the queue has a free entry (R110). -/
def execCqEntryPost (p q : Nat) (s : State) : Res :=
  .next (match Tab.find (s.ctrl p).cqs q with
    | none => s
    | some x =>
      match x.waiting with
      | [] => s
      | e :: es =>
        if (x.tail + 1) % x.size == x.head then s
        else
          let wrap := x.tail + 1 == x.size
          let s := s.updCtrl p (fun c => { c with cqs := Tab.put c.cqs q { x with waiting := es, tail := (x.tail + 1) % x.size, phase := if wrap then !x.phase else x.phase } })
          let s := (s.holdLine p (cqLine q x.tail) true).emit (.cqe p q x.tail e x.phase)
          if x.irq then s.irq p x.vector else s)

/-! ### Sequences (R113, R120) -/

/-- HWM_COMMITTED: the end of the next block of sequences is committed to Ember, and what waited for sequences goes on (R113, R370). -/
def execHwmCommitted (s : State) : Res :=
  .next (if s.bel.seqNext < s.bel.blockEnd || 2 ^ 62 ≤ s.bel.seqNext || !s.released dNoc then s
  else
    let e := blockTop s.bel.seqNext
    (((s.updBel (fun b => { b with blockEnd := e })).saveHwm e).acceptWaiting).releaseHeld)

/-- A write to BEL_SEQ_NEXT (R113). -/
def State.writeSeqNext (s : State) (v : Nat) : State :=
  if s.getb F.BEL_ERR_HWM_BAD && s.md == mKindling && s.bel.seqNext < v then
    let e := (v + 2 ^ 20 - 1) / 2 ^ 20 * 2 ^ 20
    if e ≤ 2 ^ 62 then (s.updBel (fun b => { b with seqNext := e, blockEnd := e })).saveHwm e else s
  else s

/-- SEQ_NEXT_WRITE: a write to BEL_SEQ_NEXT. -/
def execSeqNextWrite (r : Req) (value : Nat) (s : State) : Res := .next (s.withWrite r R.BEL_SEQ_NEXT (fun s => s.writeSeqNext value))

/-- A write to BEL_DIRTY_BOUND (R120). -/
def State.writeBound (s : State) (v : Nat) : State :=
  let n := v % 2 ^ 11
  if 64 ≤ n && n ≤ 1024 then s.set F.BEL_DIRTY_BOUND_LIMIT n else s.setb F.BEL_ERR_CFG true

end Sys2Proof.Machine
end

