-- ==== Sys2Proof/Machine/Window.lean ====
section
/-! DEFINITION. The Grate window of a host port (ch. 03): layout, rings and command packets, slots and their flag words, resets, and
replication segments (R442-R445). -/

namespace Sys2Proof.Machine

/-! ### Layout (R77, R78) -/

/-- The least multiple of `a` not below `x`. -/
def alignUp (x a : Nat) : Nat := (x + a - 1) / a * a

/-- SLOT_SZ's slot size in bytes; none for a reserved value. -/
def slotBytes (c : Nat) : Option Nat := [2 ^ 12, 2 ^ 14, 2 ^ 16, 2 ^ 18, 2 ^ 20, 2 ^ 21][c]?

/-- The four offsets and the end of a layout of `r` rings, depth `d`, `n` slots of `z` bytes. -/
structure Layout where
  cring : Nat
  cpl : Nat
  flag : Nat
  data : Nat
  stop : Nat
deriving DecidableEq, Repr

def layoutOf (r d n z : Nat) : Layout :=
  let cpl := 0x1000 + r * d * 64
  let flag := alignUp (cpl + r * d * 32) 0x1000
  let data := alignUp (flag + n * 64) 0x200000
  { cring := 0x1000, cpl, flag, data, stop := data + n * z }

/-- A bit of GRT_WIN_ERR is set: vector 2,043 while it is enabled, and the event of R105 at most once a millisecond. -/
def State.winErr (s : State) (p : Nat) (f : Nat → Fld) (code : Nat) : State :=
  let s := s.setb (f p) true
  let s := if s.bitOf (F.GRT_IRQ_EN_EN p) 3 then s.irq p 2043 else s
  if code == 0 then s else s.recordMsOf code p (w1 p)

/-- The layout the registers give, when the device accepts it. -/
def State.layout (s : State) (p : Nat) : Option (Layout × Nat) :=
  let l2 := s.get (F.GRT_WIN_CFG_DEPTH_LOG2 p)
  let n := s.get (F.GRT_WIN_SLOTS_SLOTS p)
  let size := s.get (F.GRT_WIN_CFG_SIZE p)
  match slotBytes (s.get (F.GRT_WIN_CFG_SLOT_SZ p)) with
  | none => none
  | some z =>
    let l := layoutOf (s.get (F.GRT_WIN_CFG_RINGS_M1 p) + 1) (2 ^ l2) n z
    if l2 < 6 || 12 < l2 || n == 0 || n > 65536 || size > 128 || l.stop > size * 2 ^ 28 then none else some (l, z)

/-- MEM_ON (R75, R102). -/
def State.showMem (s : State) (p : Nat) : State :=
  s.setb (F.HST_LINK_STS_MEM_ON p) ((s.port p).memNeg && (s.port p).committed && !s.getb (F.GRT_WIN_STS_RESETTING p))

/-- Firmware gives the window its DDR range before it first enables it (R535). No register names the range: where it begins is a free value,
at a multiple of 64. -/
def State.giveBacking (s : State) (p : Nat) : State :=
  if (s.port p).backing != 0 then s
  else (s.updPort p (fun h => { h with backing := s.freeValue.toNat % 2 ^ 36 * 64 })).taken 1

/-- EN goes from 0 to 1: the layout is taken and initialisation starts, or it is refused. Written while the reset that EN 1 to 0 began still
runs, it makes of the two one fresh start over the new layout: of that case the spec does not speak (log 129). -/
def State.winEnable (s : State) (p : Nat) : State :=
  match s.layout p with
  | none => s.winErr p F.GRT_WIN_ERR_LAYOUT 0x0714
  | some (l, z) =>
    let s := s.giveBacking p
    let s := (s.setb (F.GRT_WIN_CFG_EN p) true).setb (F.GRT_WIN_STS_RESETTING p) true
    let s := ((s.set (F.GRT_OFF_CRING_OFFSET p) l.cring).set (F.GRT_OFF_CPL_OFFSET p) l.cpl).set (F.GRT_OFF_FLAG_OFFSET p) l.flag
    let s := s.set (F.GRT_OFF_DATA_OFFSET p) l.data
    (s.updWin p (fun w => { w with rings := s.get (F.GRT_WIN_CFG_RINGS_M1 p) + 1, depth := 2 ^ s.get (F.GRT_WIN_CFG_DEPTH_LOG2 p),
                                   slots := s.get (F.GRT_WIN_SLOTS_SLOTS p), slotSize := z, byReset := false })).showMem p

/-! ### Commands in flight at a reset (R71) -/

/-- The records of a command that the journal has not accepted are withdrawn; answers whether none stands. -/
def State.withdraw (s : State) (id : Nat) : State × Bool :=
  let mine (r : JRec) : Bool := r.type == 2 && !r.mirror && r.tag == id
  if s.jnl.recs.any mine then (s, false) else (s.updJnl (fun j => { j with waiting := j.waiting.filter (fun r => !mine r) }), true)

/-- Commands a reset covers: a write whose whole payload has reached grates runs on and loses its completion; every other is abandoned. A
deallocation of a ring leaves no record (R102), unless the journal is already writing it; then it runs on, as one of a queue does. -/
def State.dropFetched (s : State) (sel : Cmd → Bool) : State :=
  (s.bel.cmds.filter (fun c => sel c && c.foreign.isNone && !c.dead)).foldl (fun s c =>
    let w := if c.ring && c.kind == .dealloc && c.posted then s.withdraw c.id else (s, !(c.posted || (c.kind.writes && c.stage == .forwarded)))
    if w.2 then (w.1.dropCmd c.id).freeUser (cmdUser c.id) else s.updCmd c.id (fun c => { c with dead := true })) s

/-- A window reset begins (R102). -/
def State.winReset (s : State) (p : Nat) (byPort : Bool) : State :=
  if (s.win p).slots == 0 then s
  else
    let s := ((s.setb (F.GRT_WIN_STS_RESETTING p) true).setb (F.GRT_WIN_STS_READY p) false).recordMsOf 0x0713 p (w1 p)
    let s := s.dropFetched (fun c => c.ring && c.port == p)
    ((s.updWin p (fun w => { w with byReset := byPort, writeFail := [], doneq := [] })).updPort p (fun h => { h with clean := [] })).showMem p

/-- A write to GRT_WIN_CFG (R78, R102, R104). -/
def State.writeWinCfg (s : State) (p v : Nat) : State :=
  if s.getb (F.GRT_WIN_CFG_EN p) then
    let size := bits v 8 8
    let w := s.win p
    let l := layoutOf w.rings w.depth w.slots w.slotSize
    let s := if size > 128 || size * 2 ^ 28 < l.stop then s.winErr p F.GRT_WIN_ERR_LAYOUT 0x0714 else s.set (F.GRT_WIN_CFG_SIZE p) size
    if bit v 31 then s else (s.setb (F.GRT_WIN_CFG_EN p) false).winReset p false
  else
    let s := (s.set (F.GRT_WIN_CFG_RINGS_M1 p) (bits v 24 6)).set (F.GRT_WIN_CFG_DEPTH_LOG2 p) (bits v 20 4)
    let s := (s.set (F.GRT_WIN_CFG_SLOT_SZ p) (bits v 16 4)).set (F.GRT_WIN_CFG_SIZE p) (bits v 8 8)
    if bit v 31 then s.winEnable p else s

/-- The address of a port's GRT_WIN_CFG. -/
def winCfgAt (p : Nat) : Nat := R.GRT_WIN_CFG + 0x10000 * p

/-- WIN_ENABLE: a write of GRT_WIN_CFG with EN 1. -/
def execWinEnable (r : Req) (p value : Nat) (s : State) : Res :=
  .next (s.withWrite r (winCfgAt p) (fun s => s.writeWinCfg p (setBit value 31)))

/-- WIN_DISABLE: a write of GRT_WIN_CFG with EN 0. -/
def execWinDisable (r : Req) (p value : Nat) (s : State) : Res :=
  .next (s.withWrite r (winCfgAt p) (fun s => s.writeWinCfg p (clrBit value 31)))

/-- WIN_SIZE_WRITE: a write of GRT_WIN_CFG that leaves EN as it is. -/
def execWinSizeWrite (r : Req) (p value : Nat) (s : State) : Res :=
  .next (s.withWrite r (winCfgAt p) (fun s => s.writeWinCfg p (putBit value 31 (s.getb (F.GRT_WIN_CFG_EN p)))))

/-- Every slot of the layout is FREE with GEN raised by 1; completion rings are zero; rings and slots start afresh. -/
def State.winFresh (s : State) (p : Nat) : State :=
  let w := s.win p
  let flags := (List.range w.slots).foldl (fun t i => Tab.put t i { gen := ((Tab.getD t i {}).gen + 1) % 256 }) w.flags
  let s := s.updWin p (fun w => { w with flags, ring := [], freeOrder := List.range w.slots, xrdyAt := [], writeFail := [], doneq := [] })
  let s := (List.range w.slots).foldl (fun s i => s.writeFlag p i) s
  s.devWrite p (s.get (F.GRT_OFF_CPL_OFFSET p)) (zeroBytes (w.rings * w.depth * 32))

/-- WINDOW_READY: the running window reset or initialisation ends (R78, R102). A reset by EN first removes every copy the host holds of the
lines it writes. -/
def execWindowReady (p : Nat) (s : State) : Res :=
  .next (if !s.getb (F.GRT_WIN_STS_RESETTING p) then s
  else
    let w := s.win p
    let lines := linesIn (s.get (F.GRT_OFF_CPL_OFFSET p)) (w.rings * w.depth * 32) ++ linesIn (s.get (F.GRT_OFF_FLAG_OFFSET p)) (64 * w.slots)
    if lines.any (s.tracked p) || !(s.port p).devq.isEmpty then lines.foldl (fun s l => s.snoop p true l) s
    else
      let s := (s.winFresh p).setb (F.GRT_WIN_STS_RESETTING p) false
      let s := if s.getb (F.GRT_WIN_CFG_EN p) then
          let s := s.setb (F.GRT_WIN_STS_READY p) true
          if s.bitOf (F.GRT_IRQ_EN_EN p) 2 then s.irq p 2042 else s
        else s
      s.showMem p)

/-! ### Doorbells (R87) -/

/-- A doorbell write: held in Banked, which it ends (R476, R102); ignored while READY is 0. -/
def State.doorbell (s : State) (q : Req) (i : Instr) (p a : Nat) (eff : State → State) : State :=
  if s.md == mBanked && s.canReach q then s.holdBanked i
  else s.withWrite q a (fun s => if s.getb (F.GRT_WIN_STS_READY p) then eff s else s)

/-- A ring. -/
def State.ring (s : State) (p r : Nat) : Ring := Tab.getD (s.win p).ring r {}
def State.updRing (s : State) (p r : Nat) (f : Ring → Ring) : State := s.updWin p (fun w => { w with ring := Tab.upd w.ring r {} f })

/-- The distance from `a` to `b` around a ring. -/
def ringDist (d a b : Nat) : Nat := (b + d - a) % d

/-- CMD_DOORBELL: a new tail of command ring `r`. -/
def execCmdDoorbell (q : Req) (p r index : Nat) (s : State) : Res :=
  .next (s.doorbell q (.cmdDoorbell q p r index) p (R.GRT_CMD_DB + 0x10000 * p + 8 * r) (fun s =>
    let d := (s.win p).depth
    let x := s.ring p r
    if index ≥ d || (s.win p).rings ≤ r || ringDist d x.head index < ringDist d x.head x.tail then s.winErr p F.GRT_WIN_ERR_DB_RANGE 0x0715
    else s.updRing p r (fun x => { x with tail := index })))

/-- CPL_DOORBELL: a new head of completion ring `r`. -/
def execCplDoorbell (q : Req) (p r index : Nat) (s : State) : Res :=
  .next (s.doorbell q (.cplDoorbell q p r index) p (R.GRT_CPL_DB + 0x10000 * p + 8 * r) (fun s =>
    let d := (s.win p).depth
    let x := s.ring p r
    if index ≥ d || (s.win p).rings ≤ r || ringDist d x.chead x.post < ringDist d x.chead index then s.winErr p F.GRT_WIN_ERR_DB_RANGE 0x0715
    else s.updRing p r (fun x => { x with chead := index })))

/-! ### Command rings (R84-R87, R590) -/

/-- The entry a 64-byte packet spells. -/
def packetEntry (p r : Nat) (b : Bytes) : Entry :=
  let opc := leAt b 0 1
  { port := p, ring := true, queue := r, cid := leAt b 2 2
    kind := if opc == 0 then some .nop else if opc == 1 then some .write else if opc == 2 then some .read else if opc == 3 then some .flush
      else if opc == 4 then some .dealloc else if opc == 0x20 then some .replGet else none
    nsid := leAt b 4 2, pgm := leAt b 6 2, lba := leAt b 8 8, len := leAt b 16 4, irq := bit (leAt b 1 1) 0, stream := leAt b 20 1 }

/-- One entry of a command ring has been fetched. -/
def State.ringFetched (s : State) (p r : Nat) : State :=
  (s.served p (ringMember r)).updRing p r (fun x => { x with head := (x.head + 1) % (s.win p).depth })

/-- Fetch the entry at the head of ring `r` when its opcode is one `want` accepts; `ecc` says that DDR returns an uncorrectable error for it
(R53, R590). -/
def State.fetchRing (s : State) (i : Instr) (p r : Nat) (ecc : Bool) (want : Nat → Bool) : State :=
  let m := ringMember r
  if s.md == mBanked then
    if s.portFetches p && s.ringVisible p r then (s.wakeCtrl p).holdBanked i else s
  else if !s.turnOf p m then s
  else
    let off := s.get (F.GRT_OFF_CRING_OFFSET p) + (r * (s.win p).depth + (s.ring p r).head) * 64
    let line := off / 64
    let s := if ecc && s.readable p line then s.spoil p line else s
    if !s.readable p line then s.askRead p [line]
    else if s.poisoned p [line] then
      let s := (s.usedLines p [line]).ringFetched p r
      (s.queueRing p r { tag := 0, status := 0x0A, notice := false, overrun := false, slotValid := false, chead := (s.ring p r).head, slot := 0,
                         count := 0, seq := 0, atime := s.now, irq := false }).winErr p F.GRT_WIN_ERR_DATA_FAULT 0x0712
    else
      let s := s.extRead ((s.port p).backing + 64 * line) 64
      let b := s.winBytes p off 64
      let e := packetEntry p r b
      if !want (leAt b 0 1) || !s.seqsFor e then s
      else (s.usedLines p [line]).stopOr p m e (fun s =>
        let s := s.ringFetched p r
        s.admitEntry e (s.ring p r).head)

/-- WIN_NOP: a NOP packet, or one whose OPC has no row and completes with INVALID_OPCODE, is fetched. -/
def execWinNop (p : Nat) (r : LineRead) (s : State) : Res :=
  .next (s.fetchRing (.winNop p r) p r.i r.ecc (fun o => o == 0 || !(o ≤ 4 || o == 0x20)))

/-- WIN_WRITE, WIN_READ, WIN_FLUSH, WIN_DEALLOCATE, REPL_GET: a packet of that opcode is fetched. -/
def execWinWrite (p : Nat) (r : LineRead) (s : State) : Res := .next (s.fetchRing (.winWrite p r) p r.i r.ecc (· == 1))
def execWinRead (p : Nat) (r : LineRead) (s : State) : Res := .next (s.fetchRing (.winRead p r) p r.i r.ecc (· == 2))
def execWinFlush (p : Nat) (r : LineRead) (s : State) : Res := .next (s.fetchRing (.winFlush p r) p r.i r.ecc (· == 3))
def execWinDeallocate (p : Nat) (r : LineRead) (s : State) : Res := .next (s.fetchRing (.winDeallocate p r) p r.i r.ecc (· == 4))
def execReplGet (p : Nat) (r : LineRead) (s : State) : Res := .next (s.fetchRing (.replGet p r) p r.i r.ecc (· == 0x20))

/-! ### Completion rings (R88, R89) -/

/-- The 32 bytes of an entry. -/
def RingCpl.bytes (e : RingCpl) (phase : Bool) : Bytes :=
  leBytes 2 e.tag ++ [BitVec.ofNat 8 e.status, BitVec.ofNat 8 (b2n phase + 2 * b2n e.notice + 4 * b2n e.overrun + 8 * b2n e.slotValid)] ++
  leBytes 2 e.chead ++ leBytes 2 e.slot ++ leBytes 4 e.count ++ zeroBytes 4 ++ leBytes 8 e.seq ++ leBytes 8 e.atime

/-- RING_COMPLETION_POST: the oldest waiting entry of ring `r` is posted while the ring has room. -/
def execRingCompletionPost (p r : Nat) (s : State) : Res :=
  .next (if !s.getb (F.GRT_WIN_STS_READY p) then s
  else
    let x := s.ring p r
    let d := (s.win p).depth
    match x.waiting with
    | [] => s
    | e :: es =>
      if (x.post + 1) % d == x.chead then s
      else
        let off := s.get (F.GRT_OFF_CPL_OFFSET p) + (r * d + x.post) * 32
        let wrap := x.post + 1 == d
        let s := s.updRing p r (fun x => { x with waiting := es, post := (x.post + 1) % d, phase := if wrap then !x.phase else x.phase })
        s.devWrite p off (e.bytes x.phase) (if e.irq && s.bitOf (F.GRT_IRQ_EN_EN p) 0 then some 2040 else none))

/-! ### Slots (R79-R83, R91-R93, R98-R100) -/

/-- A slot's flag line and its data lines. -/
def State.flagLine (s : State) (p slot : Nat) : Nat := s.get (F.GRT_OFF_FLAG_OFFSET p) / 64 + slot
def State.slotOff (s : State) (p slot : Nat) : Nat := s.get (F.GRT_OFF_DATA_OFFSET p) + slot * (s.win p).slotSize

/-- The command that uses a slot. -/
def State.slotCmd (s : State) (p slot : Nat) : Option Cmd :=
  s.bel.cmds.find? (fun c => c.ring && c.foreign.isNone && !c.dead && c.port == p && c.slot == slot &&
    (if c.kind == .write then c.stage == .slotHost || (c.stage == .landing && !c.posted)
     else (c.kind == .read || c.kind == .replGet) && c.stage != .waitSlot && c.stage != .holding))

/-- SLOT_ASSIGN: the slot-using command of port `p` that was fetched first takes the slot that has been free longest (R91). A WRITE's slot
enters XRDY at once, with a notice (R90). -/
def execSlotAssign (p : Nat) (s : State) : Res :=
  .next (if !s.getb (F.GRT_WIN_STS_READY p) then s
  else match s.bel.cmds.find? (fun c => c.ring && c.foreign.isNone && c.port == p && c.stage == .waitSlot), (s.win p).freeOrder with
    | some c, slot :: _ =>
      let s := s.setSlot p slot 1 0 0 c.cid
      if c.kind == .write then
        let s := (s.updCmd c.id (fun c => { c with slot, stage := .slotHost })).setSlot p slot 2 0 c.len c.cid
        s.queueRing p c.queue { tag := c.cid, status := 0, notice := true, overrun := false, slotValid := true, chead := c.chead, slot, count := 0,
                                seq := c.seq, atime := c.atime, irq := c.irq }
      else
        let s := s.updCmd c.id (fun c => { c with slot, stage := if c.kind == .read then .landing else .reading })
        (s.requestN { chan := if c.kind == .read then p else 7, user := cmdUser c.id, atime := c.atime } c.granules).runGranted
    | _, _ => s)

/-- A slot's data or flag line could not be moved (R100). -/
def State.slotFault (s : State) (p slot : Nat) : State :=
  let c := s.slotCmd p slot
  let s := s.setSlot p slot 7 0x0A 0 (s.flag p slot).tag
  let s := s.updWin p (fun w => { w with writeFail := w.writeFail.filter (· != slot), doneq := w.doneq.filter (· != slot) })
  let s := s.usedLines p [s.flagLine p slot]
  let s := s.winErr p F.GRT_WIN_ERR_DATA_FAULT 0x0712
  match c with
  | some c => s.abandon c { ring := 0x0A, slotValid := true }
  | none => s

/-- A host write that is no legal transition (R82). -/
def State.protoErr (s : State) (p slot : Nat) : State :=
  ((s.writeFlag p slot).winErr p F.GRT_WIN_ERR_PROTO 0x0710).incSat (F.GRT_PROTO_CNT_COUNT p) 1

/-- The flag word of a slot in the window. -/
def State.flagWord (s : State) (p slot : Nat) : Nat := leNat (s.winBytes p (64 * s.flagLine p slot) 8)

/-- The device copy is in a state the host owns. -/
def Flag.hostOwned (f : Flag) : Bool := f.state == 2 || f.state == 4 || f.state == 6 || f.state == 7

/-- The word shows the legal successor of the device copy. -/
def Flag.accepts (f : Flag) (w : Nat) : Bool :=
  bits w 60 4 == (if f.state == 2 then 3 else 5) && bits w 52 8 == f.gen && bits w 0 16 == f.tag

/-- An accepted host transition: DDONE with its count, after which a delivered payload asks for its grates; or a release. -/
def State.acceptSlot (s : State) (p slot w : Nat) : State :=
  let f := s.flag p slot
  if f.state == 2 then
    let n := bits w 16 24
    let c := s.slotCmd p slot
    let s := s.setSlot p slot 3 0 n f.tag
    match c with
    | some c =>
      if c.len ≤ n && n ≤ (s.win p).slotSize then
        (s.updCmd c.id (fun c => { c with stage := .landing, overrun := c.len < n })).requestN
          { chan := p, user := cmdUser c.id, atime := c.atime } c.granules
      else s
    | none => s
  else (s.setSlot p slot 5 0 0 f.tag).setSlot p slot 0 0 0 0

/-- Read a slot's flag word in answer to a doorbell (R82). -/
def State.readDone? (s : State) (p slot : Nat) : State :=
  if s.poisoned p [s.flagLine p slot] then s.slotFault p slot
  else if (s.flag p slot).accepts (s.flagWord p slot) then s.acceptSlot p slot (s.flagWord p slot)
  else s.protoErr p slot

/-- Answer the doorbells whose flag lines can be read. -/
def State.pumpDone (s : State) (p : Nat) : State :=
  (s.win p).doneq.foldl (fun s slot =>
    if !s.readable p (s.flagLine p slot) then s.askRead p [s.flagLine p slot]
    else
      let s := (s.usedLines p [s.flagLine p slot]).updWin p (fun w => { w with doneq := w.doneq.filter (· != slot) })
      let s := s.extRead ((s.port p).backing + 64 * s.flagLine p slot) 64
      if (s.flag p slot).hostOwned then s.readDone? p slot else s.protoErr p slot) s

/-- DONE_DOORBELL: the device reads the slot's flag word (R82, R53, R100). -/
def execDoneDoorbell (q : Req) (p : Nat) (x : LineRead) (s : State) : Res :=
  .next (s.doorbell q (.doneDoorbell q p x) p (R.GRT_DONE_DB + 0x10000 * p) (fun s =>
    let slot := x.i
    if (s.win p).slots ≤ slot then s.winErr p F.GRT_WIN_ERR_DB_RANGE 0x0715
    else if !(s.flag p slot).hostOwned then s.protoErr p slot
    else
      let s := if x.ecc && s.readable p (s.flagLine p slot) then s.spoil p (s.flagLine p slot) else s
      (s.updWin p (fun w => { w with doneq := w.doneq ++ [slot] })).pumpDone p))

/-- SLOT_CONSUME: what the host delivered in a DDONE slot is used or rejected by R93, and the slot returns to FREE. -/
def execSlotConsume (p slot : Nat) (s : State) : Res :=
  .next (if (s.flag p slot).state != 3 || !s.getb (F.GRT_WIN_STS_READY p) then s
  else match s.slotCmd p slot with
    | none => s
    | some c =>
      let n := (s.flag p slot).count
      let reject (code : Nat) := (s.setSlot p slot 0 0 0 0).abandon c { ring := code }
      if n > (s.win p).slotSize then reject 0x08
      else if n == 0 then reject 0x07
      else if n < c.len then reject 0x06
      else if !s.allGranted c then s
      else
        let lines := linesIn (s.slotOff p slot) c.len
        s.withLines p lines false (fun s =>
          if s.poisoned p lines then s.slotFault p slot
          else
            let b := s.winBytes p (s.slotOff p slot) c.len
            (s.setSlot p slot 0 0 0 0).landed c b))

/-- The slot's time in XRDY has run out (R98). -/
def State.slotExpired (s : State) (p slot : Nat) : State :=
  let c := s.slotCmd p slot
  let s := s.setSlot p slot 6 0x09 0 (s.flag p slot).tag
  let s := if s.bitOf (F.GRT_IRQ_EN_EN p) 1 then s.irq p 2041 else s
  let s := s.winErr p F.GRT_WIN_ERR_SLOT_TO 0x0711
  match c with
  | some c => s.abandon c { ring := 0x09, slotValid := true }
  | none => s

/-- SLOT_TIMEOUT: a slot has been in XRDY for GRT_SLOT_TO, and its flag word is read once (R98). -/
def execSlotTimeout (p : Nat) (x : LineRead) (s : State) : Res :=
  let slot := x.i
  let limit := s.get (F.GRT_SLOT_TO_TIMEOUT p)
  .next (match Tab.find (s.win p).xrdyAt slot with
    | some t =>
      if (s.flag p slot).state != 2 || limit == 0 || s.cyc < t + us limit then s
      else s.withLines p [s.flagLine p slot] x.ecc (fun s =>
        let f := s.flag p slot
        let w := s.flagWord p slot
        if s.poisoned p [s.flagLine p slot] then s.slotFault p slot
        else if f.accepts w then (s.acceptSlot p slot w).winErr p F.GRT_WIN_ERR_DB_MISS 0
        else if w == f.word then s.slotExpired p slot
        else (s.protoErr p slot).slotExpired p slot)
    | none => s)

/-- SLOT_DATA_FAULT: a line the device needs of the slot fails (R100): it is poisoned, or DDR returns an uncorrectable error at line `ecc` of
the slot's data (of its flag line, for a slot the host owns); or a data write met a second snoop timeout (R52). -/
def execSlotDataFault (p slot : Nat) (ecc : Option Nat) (s : State) : Res :=
  .next (if !s.getb (F.GRT_WIN_STS_READY p) || (s.win p).slots ≤ slot then s
  else
    let st := (s.flag p slot).state
    let data := linesIn (s.slotOff p slot) (s.win p).slotSize
    if st == 1 then (if (s.win p).writeFail.contains slot && (s.slotCmd p slot).isNone then s.slotFault p slot else s)
    else if st == 3 then
      let need := (s.slotCmd p slot).map (fun c => linesIn (s.slotOff p slot) c.len) |>.getD []
      match ecc.bind (fun i => need[i]?) with
      | some l => (s.spoil p l).slotFault p slot
      | none => if s.poisoned p need && need.all (fun l => data.contains l) then s.slotFault p slot else s
    else if (s.flag p slot).hostOwned && (s.win p).doneq.contains slot then
      if ecc.isSome || s.poisoned p [s.flagLine p slot] then s.slotFault p slot else s
    else s)

/-! ### Replication segments (R442-R445) -/

/-- The stream's header fields of segment `i` (R442). -/
def State.segHeaderOk (s : State) (n i : Nat) (x : Stream) (b : Bytes) : Bool :=
  leAt b 0 4 == 0x52505347 && leAt b 4 2 == 1 && leAt b 6 1 == s.head && leAt b 7 1 == n && leAt b 8 4 == i &&
  leAt b 12 4 / 2 == b2n x.full && leAt b 16 8 == x.t1 && leAt b 24 8 == x.t2 && leAt b 32 8 == x.end2 && slice b 40 8 == slice s.jnl.cur 32 8 &&
  leAt b 52 4 + 144 == b.length && leAt b 56 6 == x.armNo && leAt b 62 2 == 0 && b.length ≤ 2 ^ (16 + min 5 x.segLog2)

/-- The entries of a plaintext body: each 32 bytes with its data, the last ending with the body. -/
def segEntriesOk : Nat → Bytes → Bool
  | 0, b => b.isEmpty
  | n + 1, b =>
    let dlen := leAt b 4 4
    32 + dlen ≤ b.length && leAt b 2 2 < 2 && 1 ≤ leAt b 16 2 && leAt b 16 2 ≤ 8 && (leAt b 2 2 == 0 || dlen == 0) && segEntriesOk n (b.drop (32 + dlen))

/-- A segment is the one program 0x0003 builds: header, ciphertext and tag under ENC_SLOT, manifest under MAC_SLOT chained to the segment
before it (R443, R444); one delivered before is delivered again only as it was (R441). -/
def State.segOk (s : State) (n i : Nat) (x : Stream) (b : Bytes) : Bool :=
  let blen := leAt b 52 4
  let h := b.take 64
  let c := slice b 64 blen
  let iv := [BitVec.ofNat 8 s.head, BitVec.ofNat 8 n] ++ leBytes 4 i ++ leBytes 6 x.armNo
  let k := s.slotK1 x.encSlot
  let man := b.drop (80 + blen)
  s.segHeaderOk n i x b && gcmTag k iv h c == slice b (64 + blen) 16 && segEntriesOk (leAt b 48 4) (gcmCrypt k iv c) &&
  man.drop 32 == (if i == 0 then zeroBytes 32 else Tab.getD x.macs (i - 1) []) &&
  man.take 32 == hmac256 (s.slotK1 x.macSlot) (b.take (80 + blen) ++ man.drop 32) &&
  (match Tab.find x.macs i with
   | some m => m == man.take 32
   | none => true)

/-- What a REPL_GET is answered with (R445): no segment, a segment, or it waits. -/
def State.segFor (s : State) (p n : Nat) (seg : Option Bytes) : Option Bytes :=
  let x := s.stream n
  if n > 15 || !x.arm || x.port != p || (x.state == 2 && (x.last.any (fun l => l < x.index) || (seg.isNone && x.built ≤ x.index))) then some []
  else match seg with
    | some b => if s.segOk n x.index x b then some b else none
    | none => none

/-- The segment has been delivered. -/
def State.segSent (s : State) (n : Nat) (b : Bytes) : State :=
  if b.isEmpty then s
  else s.updStream n (fun x => { x with
    macs := Tab.put x.macs x.index (slice (b.drop (80 + leAt b 52 4)) 0 32)
    last := if bit (leAt b 12 4) 0 then some x.index else x.last
    built := max x.built (x.index + 1)
    index := (x.index + 1) % 2 ^ 32 })

/-- SLOT_RDATA: the data of the slot's READ or REPL_GET has been written into it, and it enters RDATA with the completion (R83, R90). `seg`
is the segment program 0x0003 built for a REPL_GET, which fills grates of FW (R27, R92); none says the stream has no further one. A write that
met a second snoop timeout is made, and the slot enters FAULT all the same (R52, R100). -/
def execSlotRdata (p slot : Nat) (seg : Option Bytes) (s : State) : Res :=
  .next (if (s.flag p slot).state != 1 || !s.getb (F.GRT_WIN_STS_READY p) then s
  else match s.slotCmd p slot with
    | none => s
    | some c =>
      let data := if c.kind == .replGet then s.segFor p c.stream seg else if c.stage == .staged then some c.payload else none
      match data with
      | none => s
      | some b =>
        let lines := linesIn (s.slotOff p slot) b.length
        if lines.any (s.tracked p) then lines.foldl (fun s l => s.snoop p true l) s
        else if c.kind == .replGet && !b.isEmpty && !s.allGranted c then s
        else if (s.win p).writeFail.contains slot then (s.putWin p (s.slotOff p slot) b).slotFault p slot
        else
          let s := if b.isEmpty then s else s.putWin p (s.slotOff p slot) b
          let s := if c.kind == .replGet then s.segSent c.stream b else s
          (s.setSlot p slot 4 0 b.length c.cid).abandon c { count := b.length, slotValid := true })

end Sys2Proof.Machine
end

