-- ==== Sys2Proof/Machine/Host.lean ====
section
/-! DEFINITION. The host ports (ch. 02): link training, the coherent window, IDE, port and controller resets. -/

namespace Sys2Proof.Machine

/-! ### Link state (R40-R46) -/

/-- The degraded bit of a host port: it is enabled and its link is not in L0 (R483). -/
def State.showHst (s : State) (p : Nat) : State := s.degradeUnit (30 + p) (s.getb (F.HST_CTL_PORT_EN p) && !s.linkL0 p)

/-- CACHE_ON (R46). With CXL.cache out of use, the device cache gives up the lines it holds. -/
def State.showCache (s : State) (p : Nat) : State :=
  let on := (s.port p).cacheNeg && (s.port p).cacheEnable && s.getb (F.HST_CTL_CACHE_EN p)
  let s := s.setb (F.HST_LINK_STS_CACHE_ON p) on
  if on then s else (s.port p).lines.foldl (fun s l => s.evictLine p l) (s.updPort p (fun h => { h with lines := [] }))

/-- The link has entered L0 below ×16 at 64 GT/s (R40). -/
def State.downtrain (s : State) (p : Nat) : State :=
  if s.get (F.HST_LINK_STS_RATE p) == 6 && s.get (F.HST_LINK_STS_WIDTH p) == 16 then s else s.hstErr p F.HST_ERR_DOWNTRAIN (some 0x0621)

/-- The LTSSM of a port without a link (R42, R74): training begins unless the port is held in Detect.Quiet, by a reset source, a domain not
released, or a head that holds in Kindling. -/
def State.idleLtssm (s : State) (p : Nat) : Nat :=
  if (s.port p).rst.isEmpty && s.released (dHst p) && s.getb (F.HST_CTL_PORT_EN p) && !s.getb F.KDL_STS_HOLD && !s.kdl.off.contains p then 1 else 0

/-- What a change of a link means for the head's power state and for Banked (R127, R476). -/
def State.linkPower (s : State) (p : Nat) : State :=
  let s := s.showPower
  if s.md == mBanked && s.linkL0 p && (s.ctrl p).ps < 2 then { s with mode := { s.mode with exitWanted := true } } else s

/-- The widths a link trains at (R40). -/
def laneWidths : List Nat := [1, 2, 4, 8, 16]

/-- The link comes back from L1 or L2 (R40): what was negotiated stands, and a rate and width that did not change set DOWNTRAIN no more. -/
def State.linkResume (s : State) (p rate width : Nat) : State :=
  let same := s.get (F.HST_LINK_STS_RATE p) == rate && s.get (F.HST_LINK_STS_WIDTH p) == width
  let s := ((s.set (F.HST_LINK_STS_LTSSM p) 3).set (F.HST_LINK_STS_RATE p) rate).set (F.HST_LINK_STS_WIDTH p) width
  ((if same then s else s.downtrain p).showHst p).linkPower p

/-- HOST_LINK_UP: a port reaches L0. `flit` is 0 for 68-byte flits, 1 and 2 for standard and latency-optimised 256-byte flits, 3 when the
host declined CXL (R41). The window size is taken in CXL mode (R48). From L1 or L2 the link only resumes. The table of R41 has no row for CXL
below 8 GT/s: the model gives such a link what its flits give it at 8 GT/s (log 128). -/
def execHostLinkUp (p rate width flit : Nat) (s : State) : Res :=
  .next (if s.idleLtssm p == 0 || s.linkL0 p || rate == 0 || !laneWidths.contains width then s
  else if s.get (F.HST_LINK_STS_LTSSM p) == 5 then s.linkResume p rate width
  else
    let cxl := flit != 3
    let size := min 128 (s.get (F.GRT_WIN_CFG_SIZE p)) * 2 ^ 28
    let s := (((s.set (F.HST_LINK_STS_LTSSM p) 3).set (F.HST_LINK_STS_RATE p) rate).set (F.HST_LINK_STS_WIDTH p) width).set (F.HST_LINK_STS_FLIT p) flit
    let s := s.setb (F.HST_LINK_STS_DL_UP p) true
    let s := s.updPort p (fun h =>
      let capable := if cxl then size != 0 && s.getb (F.HST_CTL_WIN_EN p) else h.memCapable
      { h with cxl, cacheNeg := cxl, memCapable := capable, memNeg := cxl && flit != 0 && capable, range1 := if cxl then size else h.range1 })
    ((((s.downtrain p).showCache p).showMem p).showHst p).linkPower p)

/-- HOST_LINK_RECOVERY: a Recovery the host started ends in L0 with some rate and width (R40). -/
def execHostLinkRecovery (p rate width : Nat) (s : State) : Res :=
  .next (if !s.linkL0 p || rate == 0 || !laneWidths.contains width then s
  else
    let same := s.get (F.HST_LINK_STS_RATE p) == rate && s.get (F.HST_LINK_STS_WIDTH p) == width
    let s := (s.set (F.HST_LINK_STS_RATE p) rate).set (F.HST_LINK_STS_WIDTH p) width
    if same then s else s.downtrain p)

/-! ### Resets (R70-R74) -/

/-- The controller of a port returns to its state after reset; what it reported of ANA states stands. Admin commands of it that are with
firmware complete to nobody. -/
def State.clearCtrl (s : State) (p : Nat) : State :=
  let s := s.updCtrl p (fun c => { ana1 := c.ana1, ana2 := c.ana2 })
  s.updBel (fun b => { b with
    admin := b.admin.map (fun a => if a.port == p then { a with port := 2 } else a)
    psCpl := if b.psCpl.any (fun x => x.1 == p) then none else b.psCpl
    stopped := b.stopped.filter (fun x => x.1 != p || x.2.1) })

/-- A controller-reach reset: the window is not touched. -/
def State.ctrlReset (s : State) (p : Nat) : State := ((s.dropFetched (fun c => !c.ring && c.port == p)).clearCtrl p).showPower

/-- The configuration space and the MSI-X table are cleared; PTM Enable with them (R69). -/
def State.clearConfig (s : State) (p : Nat) : State :=
  let s := if (s.port p).ptmEnable then s.ptmLost else s
  (s.updPort p (fun h => { h with msix := [], msixPend := [], msixEnable := false, msixMask := false, cacheEnable := false, ptmEnable := false })).showCache p

/-- The link of a port is down. -/
def State.linkOff (s : State) (p : Nat) : State :=
  let s := (((s.set (F.HST_LINK_STS_LTSSM p) 0).set (F.HST_LINK_STS_RATE p) 0).set (F.HST_LINK_STS_WIDTH p) 0).set (F.HST_LINK_STS_FLIT p) 0
  (s.setb (F.HST_LINK_STS_DL_UP p) false).setb (F.HST_LINK_STS_IDE_SEC p) false

/-- A port-reach reset (R70-R72). A `pin` source stays asserted until its release; an event is released at once. The host's copies of window
lines are lost, so waiting device-side writes are made. -/
def State.portReset (s : State) (p : Nat) (src : PortSrc) (pin : Bool) : State :=
  let s := if (s.port p).rst.isEmpty then s.record 0x0625 (w1 p) else s
  let s := if p == 0 then s.ptmLost else s
  let s := ((s.dropFetched (fun c => c.port == p)).clearCtrl p).linkOff p
  let s := s.updPort p (fun h => { h with
    cxl := false, memNeg := false, cacheNeg := false, committed := false, commitErr := false
    filter := [], clean := [], snoops := [], lines := [], ideIo := false, ideMem := false, ideIoSkid := false, ideMemSkid := false, ideKeys := []
    ready := false, relAt := s.cyc
    rst := if pin && !h.rst.contains src then src :: h.rst else h.rst })
  let s := ((s.clearConfig p).pumpWrites p (s.port p).devq.length).pumpAgents
  let s := s.set (F.HST_LINK_STS_LTSSM p) (s.idleLtssm p)
  let s := if (s.win p).slots != 0 then s.winReset p true else s.showMem p
  (s.showHst p).showPower

/-- A pin-like source of a port's reset is released: with the last, training begins (R74). -/
def State.portRelease (s : State) (p : Nat) (src : PortSrc) : State :=
  if !(s.port p).rst.contains src then s
  else
    let s := s.updPort p (fun h => { h with rst := h.rst.filter (· != src), relAt := s.cyc })
    if (s.port p).rst.isEmpty then s.set (F.HST_LINK_STS_LTSSM p) (s.idleLtssm p) else s

/-- The port's domain is released. -/
def State.portUp (s : State) (p : Nat) : Bool := s.released (dHst p)

/-- VIRAL_RECEIVED (R45). -/
def execViralReceived (p : Nat) (s : State) : Res :=
  .next (if s.linkL0 p then
    ((s.hstErr p F.HST_ERR_VIRAL (some 0x0624)).hstErr p F.HST_ERR_LINK_DOWN (some 0x0620)).portReset p .viral false
  else s)

/-- IDE_FAIL: an integrity failure on either stream (R66). -/
def execIdeFail (p : Nat) (s : State) : Res :=
  .next (if s.linkL0 p && ((s.port p).ideIo || (s.port p).ideMem) then
    ((s.hstErr p F.HST_ERR_IDE_FAIL (some 0x0623)).hstErr p F.HST_ERR_LINK_DOWN (some 0x0620)).portReset p .ide false
  else s)

/-- IDE_KEY_PROGRAM: IDE_KM delivers the key of the CXL.io or the CXL.cachemem stream, which becomes Secure in containment mode, or in skid mode
where the host chose it (R43, R65). -/
def execIdeKeyProgram (p : Nat) (x : IdeStream) (key : Bytes) (s : State) : Res :=
  .next (if s.linkL0 p && key.length == 32 then
    let s := s.updPort p (fun h => { h with
      ideKeys := Tab.put h.ideKeys (b2n x.mem) key, ideIo := h.ideIo || !x.mem, ideMem := h.ideMem || x.mem
      ideIoSkid := if x.mem then h.ideIoSkid else x.skid, ideMemSkid := if x.mem then x.skid else h.ideMemSkid })
    s.setb (F.HST_LINK_STS_IDE_SEC p) ((s.port p).ideIo && (s.port p).ideMem)
  else s)

/-- GPF: a phase of Global Persistent Flush is acknowledged at once and nothing else is done (R44). -/
def execGpf (g : GpfPhase) (s : State) : Res :=
  .next (if s.linkL0 g.port && (s.port g.port).cxl then s.emit (.gpfAck g.port g.phase) else s)

/-- HOST_PERST: HOSTn_PERST_N is asserted and has been so for `ns`; a pulse shorter than 100 ns is ignored (R70). While the port's own domain is
not released there is no port to reset, but the source holds it from its release on (R74). -/
def execHostPerst (p ns : Nat) (s : State) : Res :=
  .next (if ns < 100 || (s.port p).rst.contains .perst then s
  else if !s.portUp p then s.updPort p (fun h => { h with rst := .perst :: h.rst })
  else s.portReset p .perst true)

/-- HOST_LINK_DOWN: the link leaves L0 through DL_Down (R70). -/
def execHostLinkDown (p : Nat) (s : State) : Res :=
  .next (if s.linkL0 p then (s.hstErr p F.HST_ERR_LINK_DOWN (some 0x0620)).portReset p .linkDown false else s)

/-- HOT_RESET: a hot reset or secondary bus reset is received. -/
def execHotReset (p : Nat) (s : State) : Res := .next (if s.linkL0 p then s.portReset p .hotReset false else s)

/-- CXL_RESET: the host resets the port through the CXL DVSEC. -/
def execCxlReset (p : Nat) (s : State) : Res := .next (if s.linkL0 p && (s.port p).cxl then s.portReset p .cxlReset false else s)

/-- A write to HST_CTL (R75). -/
def State.writeHstCtl (s : State) (p v : Nat) : State :=
  let was := s.getb (F.HST_CTL_PORT_EN p)
  let s := ((s.setb (F.HST_CTL_WIN_EN p) (bit v 2)).setb (F.HST_CTL_CACHE_EN p) (bit v 1)).setb (F.HST_CTL_PORT_EN p) (bit v 0)
  let s := s.showCache p
  if was && !bit v 0 then s.portReset p .portEn true
  else if !was && bit v 0 then (s.portRelease p .portEn).showHst p
  else s

/-- PORT_EN_WRITE: a write to HST_CTL with PORT_EN 0. -/
def execPortEnWrite (r : Req) (p value : Nat) (s : State) : Res :=
  .next (s.withWrite r (R.HST_CTL + 0x100000 * p) (fun s => s.writeHstCtl p (clrBit value 0)))

/-- FLR: a function-level reset. -/
def execFlr (p : Nat) (s : State) : Res := .next (if s.linkL0 p then (s.ctrlReset p).clearConfig p else s)

/-- CC_EN_CLEAR: CC.EN goes from 1 to 0. -/
def execCcEnClear (p : Nat) (s : State) : Res := .next (if s.linkL0 p && (s.ctrl p).en then s.ctrlReset p else s)

/-- CC_EN_SET: CC.EN goes from 0 to 1 with CC.AMS and the sizes of the admin queues; CSTS.RDY follows (R59). -/
def execCcEnSet (p ams asqs acqs : Nat) (s : State) : Res :=
  .next (if s.linkL0 p && (s.port p).ready && !(s.ctrl p).en then
    s.updCtrl p (fun c => { c with en := true, rdy := true, ams, sqs := [(0, { size := max 2 asqs, prio := 0 })], cqs := [(0, { size := max 2 acqs })] })
  else s)

/-- PORT_RESET_RELEASE: HOSTn_PERST_N rises (R74). -/
def execPortResetRelease (p : Nat) (s : State) : Res := .next (s.portRelease p .perst)

/-- The function of a port as configuration requests find it (R48, R54, R55). -/
def State.function (s : State) (p : Nat) : Function :=
  { vendor := 0x1D7A, device := 0x7160, subVendor := 0x1D7A, subDevice := 0x7160
    revision := s.get F.GLB_ID_STEP_MAJOR * 16 + s.get F.GLB_ID_STEP_MINOR, cls := 0x010802
    bars := [0x10000, 0x4000000, 0x100000].map (fun size => { size, wide := true, prefetch := false })
    memCapable := (s.port p).memCapable, range1 := (s.port p).range1, range2 := 0 }

/-- FUNCTION_READY: the function is ready, and the host has programmed its configuration space: Cache_Enable, PTM Enable (port 0 only), MSI-X
Enable and its Function Mask. -/
def execFunctionReady (p : Nat) (cache ptm msix mask : Bool) (s : State) : Res :=
  .next (if s.linkL0 p then
    let lost := p == 0 && (s.port 0).ptmEnable && !ptm
    let s := (s.updPort p (fun h => { h with ready := true, cacheEnable := cache, ptmEnable := ptm && p == 0, msixEnable := msix, msixMask := mask })).showCache p
    (if lost then s.ptmLost else s).emit (.function p (s.function p))
  else s)

/-- HOST_LINK_L1_L2: the link leaves L0 for L1 or L2 without DL_Down (R127); port 0 reports PTM loss (R69). -/
def execHostLinkL1L2 (p : Nat) (s : State) : Res :=
  .next (if s.linkL0 p then
    let s := s.set (F.HST_LINK_STS_LTSSM p) 5
    let s := if p == 0 then s.ptmLost else s
    (s.showHst p).showPower
  else s)

/-! ### The coherent window (R48-R53) -/

/-- HDM_COMMIT: the host commits the decoder (R49). -/
def execHdmCommit (p base size ways : Nat) (s : State) : Res :=
  .next (if !s.linkL0 p || !(s.port p).cxl then s
  else if (s.port p).range1 < size || ways != 1 then
    (s.updPort p (fun h => { h with committed := false, commitErr := true })).showMem p
  else (s.updPort p (fun h => { h with committed := true, commitErr := false, hdmBase := base, hdmSize := size, hdmWays := ways })).showMem p)

/-- The port serves CXL.mem requests: they are completed as unsupported without a committed decoder, and while a window reset that came from
a port-reach reset runs (R49, R102). -/
def State.memServed (s : State) (p : Nat) : Bool :=
  (s.port p).memNeg && (s.port p).committed && !(s.getb (F.GRT_WIN_STS_RESETTING p) && (s.win p).byReset)

/-- A host's bytes reach the DDR backing of a line: a write of the whole line ends its poison, one of part of it leaves it (R52). -/
def State.hostStore (s : State) (p line o : Nat) (b : Bytes) : State :=
  let a := (s.port p).backing + 64 * line
  let s := if b.length == 64 then s.updPort p (fun h => { h with poison := h.poison.filter (· != line) }) else s
  let s := s.extWrite (a + o) b.length
  (State.cleanLines { s with ddr := Tab.writeBytes s.ddr (a + o) b } (a + o) b.length).ichAgain

/-- Carry out a host request: a poisoned line returns poison until a write that covers it whole ends the poison. -/
def State.serveMem (s : State) (p : Nat) (r : MemReq) : State :=
  let a := (s.port p).backing + 64 * r.line
  let s := match r.write with
    | none =>
      let s := (if r.ecc then s.spoil p r.line else s).extRead a 64
      s.emit (.memData p r.line (if s.poisoned p [r.line] then none else some (s.winBytes p (64 * r.line) 64)))
    | some (o, b) => (s.hostStore p r.line (o % 64) (b.take (64 - o % 64))).emit (.memDone p r.line)
  s.updPort p (fun h => { h with
    clean := h.clean.filter (· != r.line)
    filter := if r.track then (if h.filter.contains r.line then h.filter else h.filter ++ [r.line]) else h.filter.filter (· != r.line) })

/-- A host request is granted (R50): one that needs a new entry of a full filter waits until BISnpInv has evicted the oldest; it completes as
unsupported where the port does not serve the line. -/
def State.grantMem (s : State) (p : Nat) (r : MemReq) : State :=
  if !s.memServed p || (s.port p).hdmSize ≤ 64 * r.line then s.emit (.memUnsupported p r.line)
  else if r.track && !s.tracked p r.line && 1048576 ≤ (s.port p).filter.length then
    match (s.port p).filter with
    | [] => s
    | old :: _ =>
      if (s.port p).snoops.any (fun x => x.line == old) then
        s.updPort p (fun h => { h with snoops := h.snoops.map (fun x => if x.line == old then { x with host := x.host ++ [r] } else x) })
      else (s.updPort p (fun h => { h with snoops := h.snoops ++ [{ line := old, inv := true, sentAt := s.cyc, host := [r] }] })).emit (.bisnp p old true)
  else s.serveMem p r

/-- HOST_MEM_REQUEST: a host CXL.mem request to a window line (R50): `write` gives the offset in the line and the bytes of a write, `track` says
the host may hold the line afterwards, `ecc` that DDR returns an uncorrectable error for a read (R53). With the filter full, the oldest
entry is evicted first. In Banked the request waits for its end (R476). -/
def execHostMemRequest (p line : Nat) (write : Option (Nat × Bytes)) (track ecc : Bool) (s : State) : Res :=
  let r : MemReq := { line, write, track, ecc }
  .next (if !s.linkL0 p then s
  else if s.md == mBanked then s.holdBanked (.hostMemRequest p line write track ecc)
  else s.grantMem p r)

/-- A snoop has ended: the device-side accesses and the host requests that waited on it go on. -/
def State.snoopEnded (s : State) (p : Nat) (x : Snoop) : State :=
  let s := x.host.foldl (fun s r => s.grantMem p r) s
  ((s.pumpWrites p (s.port p).devq.length).pumpDone p).pumpAgents

/-- BIRSP: the host answers a BISnp of a line, with a write-back of its data when it held the line modified; after BISnpData it may keep a copy
(R51). -/
def execBirsp (p line : Nat) (wb : Option Bytes) (keep : Bool) (s : State) : Res :=
  .next (match (s.port p).snoops.find? (fun x => x.line == line) with
    | none => s
    | some x =>
      let s := match wb with
        | some b => s.hostStore p line 0 (slice b 0 64)
        | none => s
      let s := s.updPort p (fun h => { h with
        snoops := h.snoops.filter (fun y => y.line != line)
        filter := if keep && !x.inv then h.filter else h.filter.filter (· != line)
        clean := if keep && !x.inv && x.rd then line :: h.clean else h.clean })
      s.snoopEnded p x)

/-- The READ or REPL_GET slots whose data a line holds: the device could not remove the host's copy (R52). -/
def State.dataSlot (s : State) (p line : Nat) : Option Nat :=
  let off := s.get (F.GRT_OFF_DATA_OFFSET p)
  let z := (s.win p).slotSize
  if z == 0 || 64 * line < off then none
  else
    let slot := (64 * line - off) / z
    if slot < (s.win p).slots && (s.flag p slot).state == 1 then some slot else none

/-- BI_TIMEOUT: no BIRsp within HST_BI_TO: the BISnp is sent once more; the second time the line is dropped, and a read poisons it (R52). -/
def execBiTimeout (p line : Nat) (s : State) : Res :=
  .next (match (s.port p).snoops.find? (fun x => x.line == line) with
    | none => s
    | some x =>
      if s.cyc < x.sentAt + us (max 1 (s.get (F.HST_BI_TO_TIMEOUT p))) then s
      else if !x.again then
        (s.updPort p (fun h => { h with snoops := h.snoops.map (fun y => if y.line == line then { y with again := true, sentAt := s.cyc } else y) })).emit
          (.bisnp p line x.inv)
      else
        let s := s.updPort p (fun h => { h with
          snoops := h.snoops.filter (fun y => y.line != line)
          filter := h.filter.filter (· != line)
          poison := if !x.rd || h.poison.contains line then h.poison else line :: h.poison })
        let s := if x.wr then
            match s.dataSlot p line with
            | some slot => s.updWin p (fun w => { w with writeFail := if w.writeFail.contains slot then w.writeFail else slot :: w.writeFail })
            | none => s
          else s
        (s.hstErr p F.HST_ERR_BI_TO (some 0x0622)).snoopEnded p x)

/-- HOST_LINE_INVALIDATE: the host invalidates a queue line that Bellows holds, and Bellows drops it (R47). -/
def execHostLineInvalidate (p key : Nat) (s : State) : Res :=
  .next (s.updPort p (fun h => { h with lines := h.lines.filter (fun l => l.1 != key) }))

end Sys2Proof.Machine
end

