-- ==== Sys2Proof/Machine/Admin.lean ====
section
/-! DEFINITION. Admin commands (R106, R107, R122-R127, R135): the ones Bellows answers itself, queues, and what passes to firmware. -/

namespace Sys2Proof.Machine

/-- An admin command completes. -/
def State.adminCpl (s : State) (p cid sct sc dw0 : Nat) : State := s.queueCqe p { cid, sq := 0, sqHead := 0, sct, sc, dw0 }

/-- Fetch the command at the head of a port's admin queue: in the sanitize failure state only a command R135 names goes on. -/
def State.fetchAdmin (s : State) (p cid : Nat) (named : Bool) (eff : State → State) : State :=
  if !s.turnOf p 0 then s
  else
    let s := s.sqFetched p 0
    if s.bel.sanitizeFail && !named then s.adminCpl p cid 0 0x1C 0 else eff s

/-- A command that ends Banked waits for its end (R476). -/
def State.fetchWaking (s : State) (i : Instr) (p cid : Nat) (named : Bool) (eff : State → State) : State :=
  if s.md == mBanked then (if s.portFetches p && s.sqVisible p 0 then s.holdBanked i else s)
  else s.fetchAdmin p cid named eff

/-- A command passes to firmware. -/
def State.toAdmin (s : State) (p cid op vol : Nat) : State := s.updBel (fun b => { b with admin := b.admin ++ [{ port := p, cid, op, vol }] })

/-! ### Abort and features -/

/-- ABORT: command `cid` of queue `q` is aborted when it has no grate yet (R125). -/
def execAbort (p cid q target : Nat) (s : State) : Res :=
  .next (s.fetchWaking (.abort p cid q target) p cid false (fun s =>
    match s.bel.cmds.find? (fun c => !c.ring && c.foreign.isNone && !c.dead && c.port == p && c.queue == q && c.cid == target) with
    | some c =>
      if (s.gratesOf (cmdUser c.id)).isEmpty && !c.posted && c.stage != .forwarded then (s.abandon c { sc := 0x07 }).adminCpl p cid 0 0 0
      else s.adminCpl p cid 0 0 1
    | none => s.adminCpl p cid 0 0 1))

/-- SET_FEATURES_ARBITRATION: the burst and the weights (R107). -/
def execSetFeaturesArbitration (p cid ab lpw mpw hpw : Nat) (s : State) : Res :=
  .next (s.fetchAdmin p cid false (fun s => (s.updCtrl p (fun c => { c with burst := ab, lpw, mpw, hpw })).adminCpl p cid 0 0 0))

/-- SET_FEATURES_POWER: the controller requests a power state (R127); the completion of one that begins Banked entry waits for the entry's end
(R128). One that leaves PS2 ends Banked (R476). Of a state above PS2 the spec does not speak: it completes with Invalid Field in Command
(log 130). -/
def execSetFeaturesPower (p cid ps : Nat) (s : State) : Res :=
  .next (s.fetchAdmin p cid false (fun s =>
    if 2 < ps then s.adminCpl p cid 0 0x02 0
    else
      let entering := s.mode.bankedEntry
      let s := (s.updCtrl p (fun c => { c with ps })).showPower
      let s := if (s.md == mBanked || s.mode.bankedEntry) && min (s.wantedPs 0) (s.wantedPs 1) < 2 then
          { s with mode := { s.mode with exitWanted := true } } else s
      if !entering && s.mode.bankedEntry then s.updBel (fun b => { b with psCpl := some (p, cid) }) else s.adminCpl p cid 0 0 0))

/-- GET_FEATURES: Arbitration (1) and Power Management (2) are answered from what was last set, Number of Queues (7) with 4,096 pairs (R59); any
other passes to firmware. -/
def execGetFeatures (p cid fid : Nat) (s : State) : Res :=
  .next (s.fetchAdmin p cid false (fun s =>
    let c := s.ctrl p
    if fid == 1 then s.adminCpl p cid 0 0 (c.burst % 8 + c.lpw % 256 * 2 ^ 8 + c.mpw % 256 * 2 ^ 16 + c.hpw % 256 * 2 ^ 24)
    else if fid == 2 then s.adminCpl p cid 0 0 c.ps
    else if fid == 7 then s.adminCpl p cid 0 0 (4095 + 4095 * 2 ^ 16)
    else s.toAdmin p cid 0x0A 0))

/-! ### Identify and logs -/

/-- Bytes laid over others at offsets. -/
def overFields (b : Bytes) (fs : List (Nat × Bytes)) : Bytes := fs.foldl (fun b f => patch b f.1 f.2) b

/-- A power state descriptor: its maximum power in hundredths of a watt, whether it is non-operational, ENLAT and EXLAT. -/
def psDesc (mp nops enlat exlat : Nat) : Bytes := leBytes 2 mp ++ [0, BitVec.ofNat 8 (2 * nops)] ++ leBytes 4 enlat ++ leBytes 4 exlat

/-- What Identify Controller reports (R54, R58, R59, R118, R126, R129, R130), at the offsets of NVMe 2.0: the vendor identifiers, MDTS, CNTLID, the
byte of CTRATT whose bit 1 is Non-Operational Power State Permissive Mode (its other bits stay open), NPSS, APSTA, SANICAP, ANAGRPMAX, NN, FNA, VWC,
SGLS (supported, bit bucket, longer than data) and the power states. -/
def State.idCtrl (s : State) (p : Nat) : List (Nat × Bytes) :=
  [(0, leBytes 2 0x1D7A ++ leBytes 2 0x1D7A), (77, [9]), (78, leBytes 2 (1 + 2 * s.head + p)), (96, [s.freeValue.setWidth 8 &&& 0xFD]), (263, [2]),
   (265, [0]), (328, leBytes 4 3), (344, leBytes 4 2), (516, leBytes 4 16384), (524, [4]), (525, [0]), (536, leBytes 4 0x50001), (2048, psDesc 17500 0 0 0), (2080, psDesc 12000 0 10 10), (2112, psDesc 2200 1 20000 3000)]

/-- What Identify Namespace reports of a volume: NSZE, the one LBA format in use (R59: 4,096 bytes, no metadata), DLFEAT and ANAGRPID. -/
def State.idNs (s : State) (v : Nat) : List (Nat × Bytes) :=
  if (s.vol v).present then [(0, leBytes 8 (s.vol v).size), (25, [0, 0]), (33, [9]), (128, leBytes 2 0 ++ [12]), (92, leBytes 4 (1 + (s.vol v).owner))] else []

/-- Answer an admin command with data: free bytes where the spec states none. -/
def State.adminAnswer (s : State) (p cid n : Nat) (fs : List (Nat × Bytes)) : State :=
  let b := overFields (s.freeBytes n) fs
  ((s.taken n).emit (.adminData p cid b)).adminCpl p cid 0 0 0

/-- IDENTIFY: CNS 1 names the controller, CNS 0 the namespace (R59). -/
def execIdentify (p cid cns nsid : Nat) (s : State) : Res :=
  .next (s.fetchAdmin p cid true (fun s =>
    s.adminAnswer p cid 4096 (if cns == 1 then s.idCtrl p else if cns == 0 && nsid != 0 then s.idNs (nsid - 1) else [])))

/-- The progress of a Sanitize as the Sanitize Status log shows it. -/
def State.sprog (s : State) : Nat := ((s.pair 0).getD []).getD 7 0

/-- The ANA state of a group as its log shows it: Optimized 1, Non-Optimized 2, Inaccessible 3. -/
def anaCode (x : Nat) : Nat := if x == 0 then 3 else x

/-- The descriptor of an ANA group in the log: its number, its namespaces on this controller, its state. Its change count is open. -/
def State.anaGroup (s : State) (p g state count : Nat) : Bytes :=
  let vs := (s.bel.vols.filter (fun v => v.2.present && v.2.owner == g - 1 && bit v.2.attach (2 * s.head + p))).map (·.1)
  leBytes 4 g ++ leBytes 4 vs.length ++ leBytes 8 count ++ leBytes 1 (anaCode state) ++ zeroBytes 15 ++ vs.flatMap (fun v => leBytes 4 (v + 1))

/-- The Asymmetric Namespace Access log of a controller (R61). -/
def State.anaLog (s : State) (p : Nat) : Bytes :=
  let c := s.ctrl p
  let n := s.freeValue.toNat
  leBytes 8 n ++ leBytes 2 2 ++ zeroBytes 6 ++ s.anaGroup p 1 c.ana1 n ++ s.anaGroup p 2 c.ana2 n

/-- GET_LOG_PAGE: log 0x0C holds the ANA states of the controller (R61); log 0x81 holds SPROG and the state of the last Sanitize: 0 none, 1 done, 2 in progress, 3 failed (R132, R134). -/
def execGetLogPage (p cid lid : Nat) (s : State) : Res :=
  .next (s.fetchAdmin p cid true (fun s =>
    if lid == 0x0C then ((s.taken 1).emit (.adminData p cid (s.anaLog p))).adminCpl p cid 0 0 0
    else s.adminAnswer p cid 512 (if lid == 0x81 then [(0, leBytes 2 s.sprog ++ leBytes 1 s.bel.sanStatus)] else [])))

/-! ### Queues -/

/-- CREATE_IO_CQ (R64). -/
def execCreateIoCq (p cid qid size vector : Nat) (irq : Bool) (s : State) : Res :=
  .next (s.fetchWaking (.createIoCq p cid qid size vector irq) p cid false (fun s =>
    if 2039 < vector then s.adminCpl p cid 1 0x08 0
    else if qid == 0 || 4096 < qid || (Tab.find (s.ctrl p).cqs qid).isSome then s.adminCpl p cid 1 0x01 0
    else if size < 2 || 65536 < size then s.adminCpl p cid 1 0x02 0
    else (s.updCtrl p (fun c => { c with cqs := Tab.put c.cqs qid { size, vector, irq } })).adminCpl p cid 0 0 0))

/-- The head's effect of an admin command that has no row of its own: queues are created and deleted at once; any other passes to firmware. -/
def State.adminOther (s : State) (p cid op qid size cqid prio : Nat) : State :=
  let c := s.ctrl p
  if op == 0x01 then
    if cqid == 0 || (Tab.find c.cqs cqid).isNone then s.adminCpl p cid 1 0x00 0
    else if qid == 0 || 4096 < qid || (Tab.find c.sqs qid).isSome then s.adminCpl p cid 1 0x01 0
    else if size < 2 || 65536 < size then s.adminCpl p cid 1 0x02 0
    else (s.updCtrl p (fun c => { c with sqs := Tab.put c.sqs qid { size, cq := cqid, prio } })).adminCpl p cid 0 0 0
  else if op == 0x00 then
    if qid == 0 || (Tab.find c.sqs qid).isNone then s.adminCpl p cid 1 0x01 0
    else (s.updCtrl p (fun c => { c with sqs := Tab.del c.sqs qid })).adminCpl p cid 0 0 0
  else if op == 0x04 then
    if qid == 0 || (Tab.find c.cqs qid).isNone then s.adminCpl p cid 1 0x01 0
    else if c.sqs.any (fun q => q.2.cq == qid) then s.adminCpl p cid 1 0x0C 0
    else (s.updCtrl p (fun c => { c with cqs := Tab.del c.cqs qid })).adminCpl p cid 0 0 0
  else s.toAdmin p cid op 16384

/-- ADMIN_COMMAND: any admin command without a row of its own, by opcode. -/
def execAdminCommand (p cid op qid size cqid prio : Nat) (s : State) : Res :=
  .next (s.fetchWaking (.adminCommand p cid op qid size cqid prio) p cid false (fun s => s.adminOther p cid op qid size cqid prio))

/-! ### Namespaces (R122, R123) -/

/-- Volume `v` is being created. -/
def State.creating (s : State) (v : Nat) : Bool := s.bel.admin.any (fun a => a.op == 0x0D && a.vol == v)

/-- The lowest volume that neither exists nor is being created, among `n` from `v` on. -/
def State.freeVol (s : State) : Nat → Nat → Option Nat
  | 0, _ => none
  | n + 1, v => if (s.vol v).present || s.creating v then s.freeVol n (v + 1) else some v

/-- A volume's entry and size are cleared; its policy word is that of a volume to be created (R160). -/
def State.clearVol (s : State) (v : Nat) : State := s.updVol v (fun x => { loss := x.loss })

/-- NS_CREATE: a Namespace Management create (R123). -/
def execNsCreate (p cid : Nat) (s : State) : Res :=
  .next (s.fetchWaking (.nsCreate p cid) p cid false (fun s =>
    match s.freeVol 16384 0 with
    | none => s.adminCpl p cid 1 0x16 0
    | some v => ((s.clearVol v).updVol v (fun x => { x with owner := s.head })).toAdmin p cid 0x0D v))

/-- A volume size of R122: whole GiB from 1 GiB to 1 PiB. -/
def sizeOk (g : Nat) : Bool := g % 2 ^ 18 == 0 && 2 ^ 18 ≤ g && g ≤ 2 ^ 38

/-- The sum of all volume sizes in granules. -/
def State.sizeSum (s : State) : Nat := s.bel.vols.foldl (fun n v => if v.2.present then n + v.2.size else n) 0

/-- NS_CREATE_COMPLETE: firmware completes the create of volume `v` with a status (R123). -/
def execNsCreateComplete (v sct sc : Nat) (s : State) : Res :=
  .next (match s.bel.admin.find? (fun a => a.op == 0x0D && a.vol == v) with
  | none => s
  | some a =>
    let s := s.updBel (fun b => { b with admin := b.admin.filter (fun x => !(x.op == 0x0D && x.vol == v)) })
    let fail (sct sc : Nat) := (s.clearVol v).adminCpl a.port a.cid sct sc 0
    if sct != 0 || sc != 0 then fail sct sc
    else if !sizeOk (s.vol v).size then fail 1 0x0A
    else if 2 ^ 44 < s.sizeSum + (s.vol v).size then fail 1 0x15
    else (s.updVol v (fun x => { x with present := true, home := x.owner })).adminCpl a.port a.cid 0 0 (v + 1))

end Sys2Proof.Machine
end

