-- ==== Sys2Proof/Machine/Owner.lean ====
section
/-! DEFINITION. Ownership of volumes and index halves (ch. 16): the ownership pair, OWNER records, the move of the sequence counter, takeover
and the hand-over of failback as both heads see it. -/

namespace Sys2Proof.Machine

/-! ### The ownership pair (R456) -/

/-- The present fields EPOCH, HALVES, MIRROR, FB_STATE, SOLO_SEQ and TB go to the pair. -/
def State.saveOwner (s : State) : State :=
  s.savePair 34 [s.get F.AND_EPOCH_VALUE, s.and.halves, s.get F.GLB_MODE_UNMIRRORED, s.get F.AND_FB_CTL_STATE, s.and.soloSeq,
    s.get F.AND_FB_TB_VALUE]

/-- Change the failover sequencer's own state. -/
def State.updAnd (s : State) (f : AndSt → AndSt) : State := { s with and := f s.and }

/-- MIRROR is written (R456, R471). -/
def State.setMirror (s : State) (unmirrored : Bool) : State := (s.setb F.GLB_MODE_UNMIRRORED unmirrored).saveOwner

/-- The failback STATE and TB are written. -/
def State.setFb (s : State) (state tb : Nat) : State := ((s.set F.AND_FB_CTL_STATE state).set F.AND_FB_TB_VALUE tb).saveOwner

/-- A Soot event of the failover sequencer carries the other head and EPOCH (R470). -/
def State.recordAnd (s : State) (code : Nat) (more : List Nat) : State :=
  s.record code (w1 (1 - s.head) ++ w1 (s.get F.AND_EPOCH_VALUE) ++ more)

/-- The main counter moves to the next multiple of 2^20 above AND_PSEQ_MAX and its own next sequence, and the block it enters is
committed as the high-water mark (R458). -/
def counterTop (pseq next : Nat) : Nat := (max pseq next / 2 ^ 20 + 1) * 2 ^ 20
def State.moveCounter (s : State) : State :=
  let n := counterTop (s.get F.AND_PSEQ_MAX_VALUE) s.bel.seqNext
  (s.updBel (fun b => { b with seqNext := n, blockEnd := n + 2 ^ 20 })).saveHwm (n + 2 ^ 20)

/-! ### OWNER records (R457) -/

/-- Commit an OWNER record: it takes the next sequence, is mirrored while the head mirrors or joins (R407, R462), and its state stands in the
failover state. -/
def State.commitOwner (s : State) (o : OwnerBody) : State :=
  let seq := s.nextSeq s.now
  let at_ := s.now
  let um := s.getb F.GLB_MODE_UNMIRRORED
  let r : JRec := { seq, atime := at_, type := 7, mirror := false, origin := s.head, vol := 0, body := .owner o, committed := true, unmirrored := um }
  let r := { r with pdig := (sha256 r.data).take 16 }
  let p := (s.place r.lines).getD (s.jnl.head % ringLines, s.jnl.lap)
  let r := { r with line := p.1, lap := p.2 }
  let s := (s.takeSeq at_).spend (4 * r.lines)
  let s := s.updJnl (fun j => { j with recs := j.recs ++ [r], head := p.1 + r.lines, lap := p.2 })
  let s := (s.inc F.JNL_RECS_COUNT 1).showJnl
  if s.session && (s.mirrored || s.md == mJoining) then s.mirrorSend r 0 else s

/-- The body of an OWNER record of the head, with its HALVES and EPOCH after it. -/
def State.ownerBody (s : State) (op src dst : Nat) : OwnerBody :=
  { op, src, dst, halves := s.and.halves, epoch := s.get F.AND_EPOCH_VALUE, floor := 0, delay := 0, gran := 0, tb := 0 }

/-- An OWNER record can be committed: recovery has ended and a sequence can be issued. -/
def State.ownerReady (s : State) : Bool := s.getb F.JNL_STS_READY && s.seqReady s.now

/-- Every volume a test accepts changes its owner. -/
def State.setOwners (s : State) (p : Vol → Bool) (head : Nat) : State :=
  s.updBel (fun b => { b with vols := Tab.mapVals b.vols (fun _ v => if v.present && p v then { v with owner := head } else v) })

/-! ### What was taken over -/

/-- What a record of the partner means here once its mirror copy is committed: the maps and the stripe table follow at once, so that every later
request of either head sees the change (R250); of the index only the LIVE counts do, and the image of a half that this head rebuilds to take it
back (R259). -/
def State.followRec (s : State) (r : JRec) : State :=
  match r.body with
  | .index cs =>
    let s := cs.foldl State.applyLive s
    (cs.filter (fun c => c.half == s.head && !s.holdsHalf c.half && !(s.half c.half).stale)).foldl State.applyIndex s
  | .map cs => cs.foldl State.applyMap s
  | .stripe b => s.putStripe r.lba (Stripe.ofEntry b)
  | _ => s

/-- What a record taken over brings with it: its index changes, for the halves in `hs`, and the map pages that are to be written out. -/
def State.takeRec (s : State) (hs : List Nat) (r : JRec) : State :=
  match r.body with
  | .index cs => (cs.filter (fun c => hs.contains c.half)).foldl State.applyIndex s
  | .map cs => cs.foldl (fun s c => s.touch (mapPage c.vol c.lba)) s
  | _ => s

/-- A live mirror copy of the partner becomes the head's own record; its staged payload goes with it, and it brings the index changes of the
halves in `hs`. -/
def State.adopt (s : State) (hs : List Nat) (r : JRec) : State :=
  let own : JRec := { r with mirror := false }
  let pay := Tab.find s.jnl.staging r.key
  let s := s.updJnl (fun j => { j with
    recs := j.recs.map (fun x => if x.is r.mirror r.origin r.seq then own else x)
    staging := Tab.set (Tab.del j.staging r.key) own.key pay })
  let s := s.takeRec hs own
  if own.type == 1 && pay.isSome then s.destage own else s

/-! ### Takeover (R459, R460) -/

/-- SOLO_SEQ: the lowest sequence among the head's live records whose MCOMMIT has not arrived, or its next sequence. -/
def State.soloFloor (s : State) : Nat :=
  s.jnl.recs.foldl (fun m r => if !r.mirror && r.origin == s.head && !r.acked then min m r.seq else m) s.bel.seqNext

/-- Run again, as fetched here, a forwarded command that has no FWD_DONE: it keeps its admission AT and takes a new sequence (R413). -/
def State.runAgain (s : State) (c : Cmd) : State :=
  if c.kind == .read then
    let c := { c with away := false }
    (s.updCmd c.id (fun _ => c)).runRead c
  else
    let c := { c with away := false, seq := s.nextSeq c.atime }
    let s := (s.takeSeq c.atime).updCmd c.id (fun _ => c)
    if c.kind == .write then s.stageWrite c else s.postDealloc c

/-- Post the completion of the Set Features command that began Banked entry. -/
def State.postPs (s : State) : State :=
  match s.bel.psCpl with
  | none => s
  | some (p, cid) => (s.updBel (fun b => { b with psCpl := none })).queueCqe p { cid, sq := 0, sqHead := 0, sct := 0, sc := 0, dw0 := 0 }

/-- Takeover steps 3 to 6; `ckpt` is what the checkpoints of the directories, and the buckets they name, read as (R258). -/
def State.finishTakeover (s : State) (ckpt : List (Nat × Nat × Bytes)) : State :=
  let took := (s.now - s.and.takeoverAt.getD s.now) / 100
  let s := s.moveCounter
  -- step 4
  let had := s.and.halves
  let s := (s.updAnd (fun a => { a with halves := 3 })).inc F.AND_EPOCH_VALUE 1
  let s := s.commitOwner { s.ownerBody 1 (1 - s.head) s.head with floor := s.bel.seqNext }
  let s := (s.setOwners (fun v => v.owner != s.head) s.head).setFb 0 0
  let s := s.set F.AND_TK_TIME_US (min took (2 ^ 32 - 1))
  let s := s.recordAnd 0x0307 (w1 (s.get F.AND_TK_TIME_US))
  -- step 5
  let s := s.updAnd (fun a => { a with takeoverAt := none, survivor := true })
  let s := (s.showAna).irqAll 2045
  let s := (s.bel.cmds.filter (fun c => c.stage == .forwarded)).foldl State.runAgain s
  let s := s.releaseHeld
  let s := if s.mode.bankedEntry then s else s.postPs
  let s := if s.get F.BEL_STS_HEAD_PS == 2 then s.beginBanked else s
  -- step 6
  let s := s.takeStripes
  let hs := (List.range 2).filter (fun h => !bit had h)
  let s := hs.foldl (fun s h => s.loadIndex ckpt h) s
  let s := (bySeq (s.jnl.recs.filter (fun r => r.mirror && r.origin == 1 - s.head && r.committed))).foldl (fun s r => s.adopt hs r) s
  (hs.foldl State.startRebuild s.recount).idxReroute.idxRetry

/-- Answers to index requests that wait for the partner's MCOMMIT go out: nothing is mirrored from now on (R117, R250). -/
def State.freeAnswers (s : State) : State :=
  (s.jnl.recs.filter (fun r => !r.mirror && 3 ≤ r.type && r.committed && !r.acked)).foldl (fun s r => s.idxCommitted r.tag) s

/-- Takeover starts by transition `num` to Solo: MIRROR and SOLO_SEQ are written first. -/
def State.startTakeover (s : State) (num : Nat) : State :=
  let solo := s.soloFloor
  let s := (s.updAnd (fun a => { a with soloSeq := solo, takeoverAt := some s.now })).setMirror true
  (s.transition mSolo num).freeAnswers

/-- The drive table lists a drive. -/
def State.anyDrive (s : State) : Bool := s.drv.drives.any (fun e => e.2.present)

/-- Takeover begins by transition `num`, and the partner is preempted on every drive (R332); with no drive to ask it goes on at once. -/
def State.beginTakeover (s : State) (num : Nat) : State :=
  let s := (s.startTakeover num).preemptAll
  if s.anyDrive then s.updCrl (fun c => { c with arbWait := true }) else s.finishTakeover []

/-! ### Failback (R462-R468) -/

/-- TB of R465 from the ACCEPT record. -/
def handoverTb (at_ delay gran : Nat) : Nat :=
  let g := gran * 100000
  (at_ + delay * 100000 + g - 1) / g * g

/-- Volumes whose HOME is the joiner. -/
def State.joiner (s : State) : Nat := if s.and.survivor then 1 - s.head else s.head

/-- DONE stands in both heads: the moving volumes and the home half change hands (R466). The joiner moves its counter, lets go what it
held, and takes as its own the index records of its half that are still live, so that they retire with its own versions (log 59). Requests
of the half that waited at the survivor go to the joiner (R259). -/
def State.handOver (s : State) : State :=
  let j := s.joiner
  let mine := j == s.head
  let s := s.setOwners (fun v => v.home == j) j
  let s := s.updAnd (fun a => { a with halves := if mine then setBit a.halves j else clrBit a.halves j })
  let s := (s.inc F.AND_EPOCH_VALUE 1).setFb 6 0
  let s := ((s.irqAll 2045).recordAnd 0x0309 []).updAnd (fun a => { a with survivor := false })
  let index (r : JRec) : Bool := r.mirror && r.committed && match r.body with
    | .index cs => cs.any (fun c => c.half == j)
    | _ => false
  let s := if mine then ((s.jnl.recs.filter index).foldl (fun s r => s.adopt [] r) s.moveCounter).recount
    else (s.updDdx (fun d => { d with halves := Tab.del d.halves j, store := d.store.filter (fun v => v.1 != j) })).showFull
  s.idxRetry.releaseHeld

/-- Joining ends: transition 4 into Duplex, mirrored from now on. -/
def State.joined (s : State) : State := (s.setMirror false).enterMode mDuplex 4

/-- What an OWNER record of the partner does once its mirror copy is committed here (R464, R466, R468). -/
def State.ownerSeen (s : State) (r : JRec) (o : OwnerBody) : State :=
  match o.op with
  | 2 =>
    let s := (s.updAnd (fun a => { a with acceptPending := true, survivor := true })).setFb 1 0
    let s := s.setMirror false
    if s.md == mSolo then s.enterMode mDuplex 5 else s
  | 3 =>
    let s := (s.setb F.AND_FB_CTL_READY false).setFb 2 (handoverTb r.atime o.delay o.gran)
    if s.md == mJoining then s.joined else s
  | 4 =>
    let s := (s.setb F.AND_FB_CTL_READY false).setFb 4 0
    if s.md == mJoining then s.joined else s
  | 5 => s.handOver
  | 6 => ((s.setb F.AND_FB_CTL_READY false).setFb 5 0).releaseHeld
  | _ => s

end Sys2Proof.Machine
end

