-- ==== Sys2Proof/Machine/Sanitize.lean ====
section
/-! DEFINITION. Sanitize and Format (R130-R136), with their progress in the admin-progress pairs of Ember (R132). -/

namespace Sys2Proof.Machine

/-! ### Pairs (R132) -/

/-- A field of the state of pair `k`: KIND, FLAGS, NSID, START_AT, CURSOR, DONE_MASK, STEP, SPROG in that order; 0 where there is none. -/
def State.prog (s : State) (k i : Nat) : Nat := ((s.pair k).getD []).getD i 0

/-- The operation of pair `k` is in progress. -/
def State.inProgress (s : State) (k : Nat) : Bool := s.prog k 0 != 0 && s.prog k 6 != 3

/-- Formats in progress. -/
def State.formats (s : State) : Nat := (List.range 31).countP (fun i => s.inProgress (i + 1))

/-- The lowest free pair for a Format. -/
def State.freePair (s : State) : Option Nat := ((List.range 31).map (· + 1)).find? (fun k => !s.inProgress k)

/-- The pair's CURSOR, DONE_MASK, STEP and SPROG advance. -/
def State.stepPair (s : State) (k cursor mask step sprog : Nat) : State :=
  s.savePair k [s.prog k 0, s.prog k 1, s.prog k 2, s.prog k 3, cursor, mask, step, sprog]

/-- The pair's operation has ended; one that succeeded shows all of its progress. -/
def State.endPair (s : State) (k : Nat) (ok : Bool) : State :=
  s.stepPair k (s.prog k 4) (s.prog k 5) 3 (if ok then 0xFFFF else s.prog k 7)

/-! ### Sanitize (R130) -/

/-- The dedup index and every volume map are empty; nothing on the drives is live any more, and no loss stands. -/
def State.emptyIndex (s : State) : State :=
  let s := s.updDdx (fun d => { d with halves := Tab.mapVals d.halves (fun _ _ => {}), maps := [], pages := [], store := [], writing := [], heldList := [], oldMaps := [] })
  let s := s.updDrv (fun v => { v with stripes := Tab.mapVals v.stripes (fun _ t => if t.live == 0 then t else { t with live := 0, zeroAt := s.cyc }) })
  let s := s.updBel (fun b => { b with vols := Tab.mapVals b.vols (fun _ x => { x with loss := 0 }) })
  (s.updJnl (fun j => { j with lost := [] })).showFull

/-- The generation of slot 4 is raised, so that no slot wrapped before can be unwrapped (R322). -/
def State.raiseWrap (s : State) : State :=
  if s.keys.aroot.isNone || 2 ^ 32 - 1 ≤ Tab.getN s.keys.gens 4 then s else s.rederive 4

/-- A drive is told to sanitise itself by block erase. -/
def State.eraseDrive (s : State) (d : Nat) : State :=
  let c : DrvCmd := { id := s.drv.nextId, stove := 16, strand := 0, entry := 0, block := 0, op := 7, drive := d, zone := 0, off := 0, len := 0 }
  (s.updDrv (fun v => { v with nextId := v.nextId + 1, cmds := v.cmds ++ [c] })).sendDrv c

/-- The member drives a block erase has still to finish. -/
def State.drivesLeft (s : State) : List Nat := ((s.drv.drives.filter (fun e => e.2.online && !bit (s.prog 0 5) e.1)).map (·.1))

/-- A Sanitize goes on from its STEP (R130, R134): step 1 once the keys are zeroed, then the index and the maps, then for a block erase the drives
that DONE_MASK does not name. SPROG counts a quarter for each of the first two (the spec gives it no scale). -/
def State.sanGo (s : State) : State :=
  if !s.inProgress 0 || s.keys.erase.isSome then s
  else
    let s := if s.prog 0 6 == 0 then s.raiseWrap.stepPair 0 0 0 1 0x4000 else s
    if s.prog 0 6 != 1 || s.prog 0 4 != 0 then s
    else
      let s := s.emptyIndex.stepPair 0 (2 ^ 44 / 127 + 1) 0 (if s.prog 0 0 == 2 then 2 else 1) 0x8000
      if s.prog 0 0 == 2 then s.drivesLeft.foldl State.eraseDrive s else s

/-- The work of a Sanitize, from its pair: the key step first (R315). -/
def State.sanitizeWork (s : State) : State :=
  let s := (s.setb F.BEL_STS_SANITIZING true).updBel (fun b => { b with sanStatus := 2 })
  if s.prog 0 6 == 0 then ((s.updKeys (fun x => { x with erase := some s.cyc })).tryErase).sanGo
  else if s.prog 0 6 == 2 then s.drivesLeft.foldl State.eraseDrive s
  else s.sanGo

/-- KEY_ERASE_TIMEOUT: 20 ms after an erase step began, every strand that still uses a software slot faults, and the slots are zeroed
(R315). -/
def execKeyEraseTimeout (s : State) : Res :=
  .next (match s.keys.erase with
    | some t => if t + ms 20 ≤ s.cyc then s.faultSoft.tryErase.sanGo else s
    | none => s)

/-- A Sanitize begins: pair 0, its work, and transition 9 from Duplex or Solo. -/
def State.startSanitize (s : State) (kind : Nat) (ndas coord : Bool) : State :=
  let s := s.savePair 0 [kind, b2n coord + 2 * b2n ndas, 0xFFFFFFFF, s.now, 16, 0, 0, 0]
  let s := (s.record 0x0F01 []).sanitizeWork
  if s.md == mDuplex || s.md == mSolo then
    State.transition { s with mode := { s.mode with sweepFrom := s.md } } mSweep 9
  else s

/-- A Sanitize arrives: at this head, which coordinates it, or begun by the partner (`coord` false: no queue entry is fetched). -/
def State.sanitize (s : State) (i : Instr) (p cid kind : Nat) (ndas coord : Bool) : State :=
  if !coord then (if s.released dNoc && !s.getb F.BEL_STS_SANITIZING && s.qphase == 0 && s.md != mBanked then s.startSanitize kind ndas false else s)
  else s.fetchWaking i p cid true (fun s =>
    if s.getb F.BEL_STS_SANITIZING then s.adminCpl p cid 0 0x1D 0
    else (s.startSanitize kind ndas true).adminCpl p cid 0 0 0)

/-- SANITIZE_CRYPTO_ERASE. -/
def execSanitizeCryptoErase (p cid : Nat) (ndas coord : Bool) (s : State) : Res :=
  .next (s.sanitize (.sanitizeCryptoErase p cid ndas coord) p cid 1 ndas coord)

/-- SANITIZE_BLOCK_ERASE. -/
def execSanitizeBlockErase (p cid : Nat) (ndas coord : Bool) (s : State) : Res :=
  .next (s.sanitize (.sanitizeBlockErase p cid ndas coord) p cid 2 ndas coord)

/-- The operation has reached its end: the keys are zeroed, the index and maps empty, and no drive is left. -/
def State.sanDone (s : State) : Bool := 1 ≤ s.prog 0 6 && (s.prog 0 0 != 2 || (s.prog 0 6 == 2 && s.drivesLeft.isEmpty))

/-- SANITIZE_DONE: the operation ends, in success once its last step is done or in failure once its key step has ended; a head in the Sweep it entered for it returns (R474,
transition 10), to Solo and takeover when the partner was lost meanwhile. -/
def execSanitizeDone (ok : Bool) (s : State) : Res :=
  .next (
    let s := s.tryErase.sanGo
    if !s.getb F.BEL_STS_SANITIZING || s.keys.erase.isSome || s.qphase == 2 || (ok && !s.sanDone) then s
    else
      let s := (s.endPair 0 ok).updDrv (fun v => { v with cmds := v.cmds.filter (·.op != 7) })
      let s := (s.setb F.BEL_STS_SANITIZING false).updBel (fun b => { b with sanitizeFail := !ok, sanStatus := if ok then 1 else 3 })
      let s := s.record (if ok then 0x0F02 else 0x0F03) []
      let back := s.mode.sweepFrom
      let alone := s.mode.soloAfterSweep
      let s := { s with mode := { s.mode with sweepFrom := 0, soloAfterSweep := false } }
      if s.md != mSweep || back == 0 then s
      else if alone then s.beginTakeover 10
      else s.enterMode back 10)

/-! ### Format (R131) -/

/-- The volumes a Format acts on. -/
def State.formatVols (s : State) (nsid : Nat) : List Nat :=
  if nsid == 0xFFFFFFFF then (s.bel.vols.filter (fun v => v.2.present)).map (·.1)
  else if nsid != 0 && (s.vol (nsid - 1)).present then [nsid - 1] else []

/-- A map key belongs to volume `v`. -/
def ofVol (v key : Nat) : Bool := key % 16384 == v

/-- A Format of KIND 3, 4 or 5 on some volumes runs as pair `k`: their maps are empty from now on. -/
def State.startFormat (s : State) (k kind nsid : Nat) (vs : List Nat) : State :=
  let s := s.savePair k [kind, 1, nsid, s.now, 0, 0, 1, 0]
  let s := s.record 0x0F04 []
  let old := (s.ddx.maps.filter (fun e => vs.any (fun v => ofVol v e.1) && e.2.present)).map (fun e => ((s.vol (e.1 % 16384)).domain, e.2))
  let s := s.updDdx (fun d => { d with maps := Tab.keep d.maps (fun key _ => !vs.any (fun v => ofVol v key)), oldMaps := Tab.put d.oldMaps k old })
  vs.foldl (fun s v => (s.clearLost v).updVol v (fun x => { x with format := k })) s

/-- A Format goes on after a reset (R134): its maps are empty already; its volumes are under format and its references are still to be
released. -/
def State.resumeFormat (s : State) (k : Nat) : State :=
  (s.formatVols (s.prog k 2)).foldl (fun s v => s.updVol v (fun x => { x with format := k })) (s.record 0x0F06 (w1 k))

/-- The key slot of a domain is destroyed. -/
def State.dropDomain (s : State) (d : Nat) : State :=
  if 16 ≤ Config.domainSlot d then s.updKeys (fun x => { x with slots := Tab.del x.slots (Config.domainSlot d) }) else s

/-- A Format command. Of the status of one that arrives during a Sanitize, names no volume or names one under format, the spec does not speak:
the model gives those that an I/O command would get (log 131). -/
def State.format (s : State) (i : Instr) (p cid nsid kind : Nat) : State :=
  s.fetchWaking i p cid false (fun s =>
    let vs := s.formatVols nsid
    let others := s.bel.vols.any (fun v => v.2.present && !vs.contains v.1 && vs.any (fun w => (s.vol w).domain == v.2.domain))
    if s.getb F.BEL_STS_SANITIZING then s.adminCpl p cid 0 0x1D 0
    else if vs.isEmpty then s.adminCpl p cid 0 0x0B 0
    else if vs.any (fun v => (s.vol v).format != 0) then s.adminCpl p cid 0 0x84 0
    else if kind == 5 && others then s.adminCpl p cid 1 0x0A 0
    else match s.freePair with
      | none => s.adminCpl p cid 0 0x21 0
      | some k =>
        let s := if kind == 5 then vs.foldl (fun s v => s.dropDomain (s.vol v).domain) s else s
        (s.startFormat k kind nsid vs).adminCpl p cid 0 0 0)

/-- FORMAT: Secure Erase Settings 0 or 1. -/
def execFormat (p cid nsid ses : Nat) (s : State) : Res := .next (s.format (.format p cid nsid ses) p cid nsid (if ses == 0 then 3 else 4))

/-- FORMAT_CRYPTO_ERASE: Secure Erase Settings 2. -/
def execFormatCryptoErase (p cid nsid : Nat) (s : State) : Res := .next (s.format (.formatCryptoErase p cid nsid) p cid nsid 5)

/-- The device releases the reference of a map entry by DECREF. -/
def State.releaseEntry (s : State) (domain : Nat) (e : MapEntry) : State := s.idxRoute (decrefReq (leBytes 12 e.fp) domain e.loc)

/-- FORMAT_DONE: the background work of the Format of pair `k` ends: the references of the old maps have been released. -/
def execFormatDone (k : Nat) (s : State) : Res :=
  .next (if k == 0 || !s.inProgress k then s
  else
    let vs := (s.bel.vols.filter (fun v => v.2.format == k)).map (·.1)
    let s := (Tab.getD s.ddx.oldMaps k []).foldl (fun s e => s.releaseEntry e.1 e.2) (s.updDdx (fun d => { d with oldMaps := Tab.del d.oldMaps k }))
    let s := vs.foldl (fun s v => s.updVol v (fun x => { x with format := 0 })) s
    (s.endPair k true).record 0x0F05 [])

end Sys2Proof.Machine
end

