-- ==== Sys2Proof/Machine/Commit.lean ====
section
/-! DEFINITION. How journal records commit and retire (R368, R374, R375), the mirror copies of the partner's records (R369, R408), and the end
of a work item (R144). -/

namespace Sys2Proof.Machine

/-! ### Mirror copies (R369, R408, R409) -/

/-- Send one MCOMMIT entry. -/
def State.mcommit (s : State) (origin seq status gidx : Nat) : State :=
  if s.session then
    s.crlSend 1 0x10 (leBytes 8 seq ++ [BitVec.ofNat 8 origin, BitVec.ofNat 8 status] ++ leBytes 2 gidx ++ zeroBytes 4)
  else s

/-- The head holds a live mirror copy already: it answers once that one is committed and needs nothing of the new one. -/
def State.mirrorAgain (s : State) (r : JRec) : State := if r.committed then s.mcommit r.origin r.seq 0 0 else s

/-- A mirror record is accepted for writing. Its payload, when it has one, is in the grates of command number `tag`, whose list stands
in DDR. -/
def State.mirrorRecord (s : State) (r : JRec) (tag : Nat) (payload : Bytes) : State :=
  let r := { r with mirror := true, tag }
  if payload.isEmpty then s.postRec r
  else
    let gs := s.gratesOf (cmdUser tag)
    let list := s.freeValue.toNat
    let s := ({ s.taken 1 with grates := fillGrates s.grates gs payload }).ddrWrite list (gs.flatMap (fun g => leBytes 4 g))
    let s := s.updJnl (fun j => { j with staging := Tab.put j.staging r.key payload })
    s.postRec { r with loc := list }

/-- The record a MIR message carries from byte 0 of its body: header and body lines. -/
def mirRec (body : Bytes) : JRec := { JRec.ofBytes body with mirror := true }

/-- The granules of a MIR_DATA message. -/
def mirGranules (m : Bytes) : Nat := (m.length - 160) / 4112

/-- The plaintext of a message whose tag its receiver has not checked. -/
def State.plain (s : State) (m : Bytes) : Bytes :=
  gcmCrypt (s.slotK1 1) ([BitVec.ofNat 8 (1 - s.head), 0, 0, 0] ++ slice m 8 8) (slice m 16 (m.length - 32))

/-- Program 0x0004 has ended for a mirror receipt (R408): `value` holds the STATUS of R409 and, above it, GIDX. -/
def State.mirrorChecked (s : State) (tag value : Nat) : State :=
  match Tab.find s.crl.mirIn tag with
  | none => s
  | some (m, _) =>
    let s := s.updCrl (fun c => { c with mirIn := Tab.del c.mirIn tag })
    let body := s.plain m
    let r := mirRec body
    if value % 256 == 0 then
      match s.rec? true r.origin r.seq with
      | some old => (s.freeUser (cmdUser tag)).mirrorAgain old
      | none => s.mirrorRecord r tag (body.drop (128 + 16 * mirGranules m))
    else (s.freeUser (cmdUser tag)).mcommit r.origin r.seq (value % 256) (value / 256 % 65536)

/-! ### Commit (R368) -/

/-- Lists cut into pieces of 14, the changes one record carries (R365). -/
def pieces14 {α : Type} : Nat → List α → List (List α)
  | 0, _ => []
  | n + 1, l => if l.isEmpty then [] else l.take 14 :: pieces14 n (l.drop 14)

/-- A DEALLOC record's granules are deallocated where no later sequence stands (R250): their map entries keep only its sequence, MAP records
carry the changes, and the old references are released. -/
def State.applyDealloc (s : State) (r : JRec) : State :=
  let lbas := ((List.range (r.len / 4096)).map (fun i => r.lba + i)).filter (fun b => (s.mapAt r.vol b).seq ≤ r.seq)
  let was := lbas.map (fun b => (b, s.mapAt r.vol b))
  let old := (was.map (·.2)).filter MapEntry.present
  let change (b : Nat) (entry : MapEntry) : MapChange := { vol := r.vol, lba := b, entry }
  let entry : MapEntry := { loc := 0, seq := r.seq, fp := 0, flags := 0 }
  let s := lbas.foldl (fun s b => s.putMap r.vol b entry) s
  let s := (pieces14 lbas.length was).foldl (fun s ws =>
    (s.postIdx (.map (ws.map (fun w => change w.1 entry))) (.map (ws.map (fun w => change w.1 w.2))) 4 r.vol).1) s
  old.foldl (fun s e => s.releaseEntry (s.vol r.vol).domain e) s

/-- Every record of a write-class command is committed (R115). -/
def State.allRecorded (s : State) (tag : Nat) : Bool :=
  !(s.jnl.recs ++ s.jnl.waiting).any (fun r => !r.mirror && r.type ≤ 2 && r.tag == tag && !r.committed)

/-- What the head's own record does once it is committed. -/
def State.ownCommitted (s : State) (r : JRec) : State :=
  if r.type ≤ 2 then
    let s := s.markJournalled (cmdUser r.tag)
    let s := if s.allRecorded r.tag then s.updCmd r.tag (fun c => { c with recorded := true }) else s
    if r.type == 2 then s.applyDealloc r else s
  else
    let s := s.updDdx (fun d => { d with undo := Tab.del d.undo r.tag })
    if s.mirrored && !r.acked then s else s.idxCommitted r.tag

/-- What a mirror copy does once it is committed: it is reported to its owner (R369), AND_PSEQ_MAX follows it (R458), and an OWNER record takes
effect. -/
def State.mirrorCommitted (s : State) (r : JRec) : State :=
  let s := (s.markJournalled (cmdUser r.tag)).mcommit r.origin r.seq 0 0
  let s := (s.set F.AND_PSEQ_MAX_VALUE (max (s.get F.AND_PSEQ_MAX_VALUE) r.seq)).followRec r
  match r.body with
  | .owner o => s.ownerSeen r o
  | _ => s

/-- A record is committed. -/
def State.commitRec (s : State) (r : JRec) : State :=
  let unmirrored := !r.mirror && s.getb F.GLB_MODE_UNMIRRORED
  let s := s.updJnl (fun j => { j with recs := j.recs.map (fun x => if x.is r.mirror r.origin r.seq then { x with committed := true, unmirrored } else x) })
  let s := s.inc F.JNL_RECS_COUNT 1
  if r.mirror then s.mirrorCommitted r else s.ownCommitted r

/-- RECORD_COMMIT: the units of a record being written are acknowledged and the record is committed; without credit for its writes it waits
(R361, R368). -/
def execRecordCommit (mirror : Bool) (origin seq : Nat) (s : State) : Res :=
  .next (match s.rec? mirror origin seq with
    | none => s
    | some r =>
      if r.committed then s
      else if !s.hasCredit (4 * r.lines) then s.throttle
      else (s.spend (4 * r.lines)).commitRec r)

/-! ### Retirement (R374, R375) -/

/-- A record not yet committed carries a change a test accepts. -/
def State.pendingChange (s : State) (map : MapChange → Bool) (index : IdxChange → Bool) : Bool :=
  (s.jnl.recs ++ s.jnl.waiting).any (fun r => !r.committed && !r.mirror && match r.body with
    | .map cs => cs.any map
    | .index cs => cs.any index
    | _ => false)

/-- The granule's map carries the record's sequence or a later one, durably. -/
def State.granuleSettled (s : State) (r : JRec) (lba : Nat) : Bool :=
  let m := s.mapAt r.vol lba
  r.seq ≤ m.seq && (!m.present || s.rowDurable m.loc) &&
  !s.pendingChange (fun c => c.vol == r.vol && c.lba == lba) (fun c => m.present && c.location == m.loc)

/-- A later committed CHECKPOINT of a kind. -/
def State.checkpointAfter (s : State) (kind seq : Nat) : Bool :=
  s.jnl.recs.any (fun x => x.type == 6 && !x.mirror && x.committed && x.lba == kind && seq < x.seq)

/-- The condition of R374 holds for a committed record of the head. -/
def State.mayRetire (s : State) (r : JRec) : Bool :=
  r.committed && !r.mirror && (Tab.find s.crl.mirWait r.key).isNone &&
  match r.type, r.body with
  | 1, _ => (List.range (r.len / 4096)).all (fun i => s.granuleSettled r (r.lba + i))
  | 2, _ => (List.range (r.len / 4096)).all (fun i => s.granuleSettled r (r.lba + i))
  | 3, .index cs => cs.all (fun c =>
      !s.stored (c.half, ((s.half c.half).bucketOf (fpKey c.fp c.domain)).2) || s.checkpointAfter c.half r.seq)
  | 4, .map cs => cs.all (fun c => !s.stored (mapPage c.vol c.lba))
  | 5, _ => s.checkpointAfter 2 r.seq
  | 6, _ => s.checkpointAfter r.lba r.seq
  | 7, _ => true
  | 8, _ => r.settled
  | _, _ => false

/-- A record retires: its payload's grates are free again, and a partner that holds a mirror copy is told. -/
def State.retireRec (s : State) (r : JRec) : State :=
  let s := s.eraseRec r
  let s := if r.type == 1 then s.freeUser (cmdUser r.tag) else s
  if !r.mirror && s.session && r.acked then s.crlSend 1 0x11 (leBytes 8 r.seq ++ [BitVec.ofNat 8 r.origin] ++ zeroBytes 7) else s

/-- A granule of a staged write whose copy lay in a stripe that is LOST (R354). -/
def State.lostAgain (s : State) (r : JRec) : Bool :=
  r.type == 1 && !r.mirror && r.committed && (List.range (r.len / 4096)).any (fun i =>
    let m := s.mapAt r.vol (r.lba + i)
    m.present && m.seq == r.seq && (s.stripe (locStripe m.loc)).state == 5)

/-- A work item that destages a record is queued or running. -/
def State.destaging (s : State) (r : JRec) : Bool :=
  let mine (w : WorkItem) : Bool := w.kind == 0 && w.user == r.tag && leAt w.bytes 16 8 == r.seq
  s.stoves.any (fun v => v.2.queue.any mine || v.2.strands.any (fun x => x.2.item.any mine)) || s.fwq.any mine

/-- RECORD_RETIRE: a record of the head whose condition holds retires (R375) once there is credit for its unit write (R361). A mirror copy retires on its owner's notice only. What a LOST stripe
held of a write that is still staged is written again (R354). -/
def execRecordRetire (mirror : Bool) (origin seq : Nat) (s : State) : Res :=
  .next (match s.rec? mirror origin seq with
    | some r => if s.mayRetire r then (if s.hasCredit 1 then s.retireRec r else s) else if s.lostAgain r && !s.destaging r then s.destage r else s
    | none => s)

/-! ### END and CRL (R144, R200) -/

/-- END returns a value to an item's poster with its TAG (R187), and what a poster of the device does with it. -/
def State.itemEnded (s : State) (w : WorkItem) (value : Nat) : State :=
  let s := s.emit (.itemEnd (leAt w.bytes 6 2) w.tag value)
  match w.kind with
  | 1 =>
    match s.cmd? w.user with
    | some c => if c.kind == .read && c.stage == .reading then (if value == 0 then s.readDone c else s.failRead c 2 0x81) else s
    | none => s
  | 3 => s.rebuildEnd w.arg (value == 0)
  | 4 =>
    let i := w.arg % 16
    (s.updStream i (fun x => { x with items := x.items - 1 })).streamDone i
  | 5 => s.mirrorChecked w.user value
  | 6 =>
    if w.tag == 1 then s.updDdx (fun d => { d with reclaimItems := d.reclaimItems - 1 })
    else if w.tag == 2 then s.writeEnd w.arg (value == 0)
    else s
  | 7 => s.firmwareItem w.arg value
  | _ => s

/-- END (R144): it waits for every outstanding ticket, then the strand gives up what it holds and becomes idle, and its item's poster gets
(u32)g[B]. -/
def execEndItem (n k : Nat) (f : InsW) (s : State) : Res :=
  let legal := f.a == 0 && f.c == 0 && f.x == 0 && f.imm == 0
  .next (s.onTurn n k 0x01 f (fun s =>
    if legal && !(s.strand n k).allDone then s.stall n k .all
    else s.perform n k legal none (fun x => x.pc) (fun s x =>
      let value := (x.reg f.b).toNat % 2 ^ 32
      let s := (s.releaseStrand n k).updStrand n k (fun y => { y with st := .idle, item := none })
      .ok (match x.item with
        | some w => s.itemEnded w value
        | none => s))))

/-- CRL_TRANSMIT: a CRL instruction submits a transmit request (R200): it takes a DMA channel, and its block is read as the channel is granted. -/
def execCrlTransmit (n k : Nat) (f : InsW) (s : State) : Res :=
  .next ((s.launched n k 0xC1 f (f.c == 0 && f.x == 0 && f.imm == 0) (some 6) (some 4) (fun s x =>
    match blockAt x f.b 64 with
    | .error c => .error c
    | .ok ea => .ok (s, .crl ea []))).begun n)

end Sys2Proof.Machine
end

