-- ==== Sys2Proof/Machine/CrlLine.lean ====
section
/-! DEFINITION. The line coding of Creterlink (R387): the bit stream of the frames sent since the link came up, scrambled, cut into messages and
encoded with RS(544,514), codeword by codeword over the lanes. -/

namespace Sys2Proof.Machine

/-! ### The code of IEEE 802.3: GF(2^10) with x^10 + x^3 + 1 -/

/-- A field element times x, and the product of two. -/
def gf10Twice (a : Nat) : Nat := if 512 ≤ a then Nat.xor (2 * a % 1024) 9 else 2 * a
def gf10Mul : Nat → Nat → Nat → Nat
  | 0, _, _ => 0
  | n + 1, a, b => Nat.xor (if b % 2 == 1 then a else 0) (gf10Mul n (gf10Twice a) (b / 2))
def mul10 (a b : Nat) : Nat := gf10Mul 10 a b

/-- Multiply a polynomial, highest coefficient first and monic, by (x - a). -/
def polyStep (a : Nat) (g : List Nat) : List Nat := (g ++ [0]).zipWith Nat.xor (0 :: g.map (mul10 a))

/-- The generator polynomial with the roots 1, alpha, ..., alpha^29, and its coefficients below the leading one. -/
def rsRoots : Nat → Nat → List Nat
  | 0, _ => []
  | n + 1, a => a :: rsRoots n (gf10Twice a)
def rsGen : List Nat := ((rsRoots 30 1).foldl (fun g a => polyStep a g) [1]).drop 1

/-- Shift one message symbol into the division by a generator. -/
def rsStep (g : List Nat) (r : List Nat) (m : Nat) : List Nat :=
  let f := Nat.xor m (r.headD 0)
  (r.drop 1 ++ [0]).zipWith Nat.xor (g.map (mul10 f))

/-- The 30 parity symbols of a message, its highest symbol first. -/
def rsParity (m : List Nat) : List Nat := m.foldl (rsStep rsGen) (List.replicate 30 0)

/-- The 544 symbols of a codeword: the message, then the parity. -/
def rsCodeword (m : List Nat) : List Nat := m ++ rsParity m

/-! ### The stream -/

/-- The bits of bytes, least significant first. -/
def lineBits (b : Bytes) : List Bool := b.flatMap (fun x => (List.range 8).map (fun i => x.getLsbD i))

/-- The self-synchronising scrambler x^58 + x^39 + 1: `past` holds the last 58 bits sent, newest first. -/
def scramble : List Bool → List Bool → List Bool
  | _, [] => []
  | past, b :: bs =>
    let o := xor b (xor (past.getD 38 false) (past.getD 57 false))
    o :: scramble ((o :: past).take 58) bs

/-- A receiver's descrambler. -/
def descramble : List Bool → List Bool → List Bool
  | _, [] => []
  | past, o :: os => xor o (xor (past.getD 38 false) (past.getD 57 false)) :: descramble ((o :: past).take 58) os

/-- Ten bits as a symbol, the first the least significant. -/
def symbolOf (b : List Bool) : Nat := b.foldr (fun x n => b2n x + 2 * n) 0

/-- `n` messages of 5,140 bits, each as 514 symbols. -/
def messages : Nat → List Bool → List (List Nat)
  | 0, _ => []
  | n + 1, b => (List.range 514).map (fun i => symbolOf ((b.drop (10 * i)).take 10)) :: messages n (b.drop 5140)

/-- The codewords that a run of frames fills, from bit 0 of the first codeword after training. The scrambler's state when training ends the spec
leaves open, and a receiver needs none of it: `seed` is those 58 bits. -/
def codewords (seed : List Bool) (frames : List Bytes) : List (List Nat) :=
  let s := scramble seed (frames.flatMap lineBits)
  (messages (s.length / 5140) s).map rsCodeword

/-- What logical lane `j` of `w` carries: codeword c goes on lane c mod w. -/
def laneCodewords (w j : Nat) (cs : List (List Nat)) : List (List Nat) :=
  (List.range cs.length).filterMap (fun c => if c % w == j then cs[c]? else none)

/-- The frames sent, oldest first. -/
def State.framesSent (s : State) : List Bytes :=
  s.out.reverse.filterMap (fun o => match o with
    | .frame b => some b
    | _ => none)

/-- The codewords on logical lane `j` since the link came up, CRL_STS.WIDTH lanes wide. The seed is a free value. -/
def State.laneSignal (s : State) (j : Nat) : List (List Nat) :=
  let seed := (List.range 58).map (fun i => s.freeValue.toNat.testBit i)
  laneCodewords (max 1 (s.get F.CRL_STS_WIDTH)) j (codewords seed (s.framesSent.drop s.crl.lineFrom))

end Sys2Proof.Machine
end

