-- ==== Sys2Proof/Machine/Mailbox.lean ====
section
/-! DEFINITION. The mailboxes (R540-R551): posting, overwriting, emptying, timeouts, the wake of a parked slot, and messages to and
from the partner. -/

namespace Sys2Proof.Machine

/-- A requester's bank and a channel. -/
def State.bank (s : State) (a : Nat) : MbxBank := Tab.getD s.hrt.banks a {}
def State.chan (s : State) (c : Nat) : MbxChan := Tab.getD s.hrt.chans c {}

/-- Change a bank or a channel. -/
def State.updBank (s : State) (a : Nat) (f : MbxBank → MbxBank) : State :=
  { s with hrt := { s.hrt with banks := Tab.upd s.hrt.banks a {} f } }
def State.updChan (s : State) (c : Nat) (f : MbxChan → MbxChan) : State :=
  { s with hrt := { s.hrt with chans := Tab.upd s.hrt.chans c {} f } }

/-- The 64 bytes of an agent's MBX_TXBUF. -/
def MbxBank.bytes (b : MbxBank) : Bytes := (List.range 8).flatMap (fun w => leBytes 8 (Tab.getN b.txbuf w))

/-- The pair that serves a slot, 15 when none does (AND_MAP). -/
def State.pairOf (s : State) (slot : Nat) : Nat := bits (s.get F.AND_MAP_PAIR) (4 * slot) 4

/-- A receiver is dead or in reset (R548): an empty slot, or HRT in reset. -/
def State.receiverDead (s : State) (r : Nat) : Bool := r < 8 && (s.pairOf r == 15 || !s.released dHrt)

/-- A header is stamped with its sender (R547). -/
def State.stamping (s : State) : Bool := s.md == mKindling || s.md == mSweep || s.getb F.JNL_STS_RECOVERING

/-- The header of a post (R542). -/
def State.mbxHeader (s : State) (agent code num : Nat) : Nat :=
  s.now % 2 ^ 32 * 2 ^ 32 + code % 2 ^ 16 * 2 ^ 16 + (if s.stamping then 2 ^ 12 + agent * 2 ^ 8 else 15 * 2 ^ 8) + num

/-- A post or an ACK is refused (R543, R545). -/
def State.mbxDenied (s : State) (c : Nat) : State :=
  ((s.setb F.MBX_ERR_DENIED true).incSat F.MBX_DENY_CNT_COUNT 1).recordMs 0x0D03 (w1 c)

/-- The message of a channel has timed out (R548). -/
def State.mbxTimedOut (s : State) (c : Nat) : State :=
  let p := (s.chan c).poster
  ((((s.setb (F.MBX_STS_TIMEOUT c) true).setb F.MBX_ERR_TIMEOUT true).updBank p (fun b => { b with sevTo := setBit b.sevTo c })).updChan c
    (fun h => { h with timer := false })).recordMs 0x0D02 (w1 c)

/-- DMP_STS.PARKED bit 14 (index 2): some active pair other than slot 0's is parked (R549). -/
def State.parkedBit (s : State) : State := s.setBitOf F.DMP_STS_PARKED 2 (s.get F.HRT_STS_PARKED / 2 != 0)

/-- Unpark the pair of a slot: its watchdog counter goes on (R539). -/
def State.unparkSlot (s : State) (slot : Nat) : State :=
  let s := (s.setBitOf F.HRT_STS_PARKED slot false).setBitOf F.HRT_STS_RUN slot true
  let h := s.hrt
  State.parkedBit { s with hrt := { h with wdtFrom := Tab.putN h.wdtFrom slot (s.now - Tab.getN h.wdtHeld slot) } }

/-- Park the pair of a slot: its watchdog counter stands still. -/
def State.parkSlot (s : State) (slot : Nat) : State :=
  let s := (s.setBitOf F.HRT_STS_PARKED slot true).setBitOf F.HRT_STS_RUN slot false
  let h := s.hrt
  State.parkedBit { s with hrt := { h with wdtHeld := Tab.putN h.wdtHeld slot (s.now - Tab.getN h.wdtFrom slot) } }

/-- A post reaches a channel whose receiver slot is parked (R549). -/
def State.mbxWake (s : State) (c : Nat) : State :=
  let r := s.get (F.MBX_CFG_RECEIVER c)
  if r < 8 && s.bitOf F.HRT_STS_PARKED r then
    ((s.unparkSlot r).setb (F.MBX_STS_WOKE c) true).recordMs 0x0D04 (w1 c)
  else s

/-- The message a post overwrites is lost to its poster (R544). -/
def State.mbxCollide (s : State) (c : Nat) : State :=
  ((((s.setb (F.MBX_STS_COLLIDE c) true).setb F.MBX_ERR_COLLIDE true).incSat F.MBX_COLLIDE_CNT_COUNT 1).updBank (s.chan c).poster
    (fun b => { b with sevLost := setBit b.sevLost c })).recordMs 0x0D01 (w1 c)

/-- Set a sender's MBX_TX_RES: bit 0 DELIVERED, 1 COLLIDE, 2 TIMEOUT, 3 DENIED. -/
def State.txRes (s : State) (agent v : Nat) : State := s.updBank agent (fun b => { b with txRes := v })

/-- Post 64 bytes to a channel as an agent (R543, R544, R548-R551). -/
def State.post (s : State) (agent c code : Nat) (data : Bytes) : State :=
  if !s.released dNoc then s.txRes agent 4
  else if !s.getb (F.MBX_CFG_EN c) || !s.bitOf (F.MBX_CFG_SENDERS c) agent then (s.txRes agent 8).mbxDenied c
  else
    let rcv := s.get (F.MBX_CFG_RECEIVER c)
    if rcv == 9 && !s.session then s.txRes agent 4
    else
      let old := s.chan c
      let s := if old.full then s.mbxCollide c else s
      let num := (old.num + 1) % 256
      let hdr := s.mbxHeader agent code num
      let s := s.updChan c (fun h => { h with full := true, num, hdr, data, poster := agent, postAt := s.now, timer := true,
                                              away := rcv == 9 })
      let s := s.mbxWake c
      let s := if rcv == 9 then s.crlSend 4 0x30 ([BitVec.ofNat 8 c] ++ zeroBytes 7 ++ data) (some c) else s
      let dead := s.receiverDead rcv
      let s := if dead then s.mbxTimedOut c else s
      s.txRes agent (1 + 2 * b2n old.full + 4 * b2n dead)

/-- Empty a channel and tell its poster (R545). -/
def State.mbxEmpty (s : State) (c : Nat) : State :=
  let p := (s.chan c).poster
  (s.updChan c (fun h => { h with full := false, timer := false, away := false })).updBank p
    (fun b => { b with sevEmpty := setBit b.sevEmpty c })

/-- MBX_SEND: a write to MBX_SEND[c]; GO is bit 31 and CODE bits 15 to 0 (R543). -/
def execMbxSend (r : Req) (c value : Nat) (s : State) : Res :=
  .next (s.withWrite r (R.MBX_SEND + 0x100 * c) (fun s =>
    if bit value 31 then s.post (reqAgent r) c (value % 2 ^ 16) (s.bank (reqAgent r)).bytes else s))

/-- MBX_ACK: a write to MBX_ACK[c]; GO is bit 31 and NUM bits 7 to 0 (R545, R546). -/
def execMbxAck (r : Req) (c value : Nat) (s : State) : Res :=
  .next (s.withWrite r (R.MBX_ACK + 0x100 * c) (fun s =>
    if !bit value 31 || !s.released dNoc then s
    else if reqAgent r != s.get (F.MBX_CFG_RECEIVER c) then s.mbxDenied c
    else if (s.chan c).full && (s.chan c).num == value % 256 then s.mbxEmpty c
    else ((s.setb (F.MBX_STS_ACK_STALE c) true).setb F.MBX_ERR_ACK_STALE true).recordMs 0x0D05 (w1 c)))

/-- MBX_TIMEOUT: the timer of a channel's message ends with the message still in the channel (R548). -/
def execMbxTimeout (c : Nat) (s : State) : Res :=
  let h := s.chan c
  let limit := s.get (F.MBX_CFG_TO_MS c)
  .next (if h.full && h.timer && limit != 0 && h.postAt + ms limit ≤ s.now then s.mbxTimedOut c else s)

/-- MBX_PEER_ACKED: the frames of the message channel `c` sent to the partner have all been acknowledged (R550). -/
def execMbxPeerAcked (c : Nat) (s : State) : Res :=
  let waits (f : HeldFrame) := f.chan == some c
  .next (if (s.chan c).full && (s.chan c).away && !s.crl.txq.any waits && !s.crl.replay.any waits then s.mbxEmpty c else s)

/-! ### Hearth: timer, watchdog, parking (R537-R539, R549) -/

/-- A slot's counter in AT counts (R538, R539): it stands still while the slot is parked. -/
def State.wdtCount (s : State) (slot : Nat) : Nat :=
  if s.bitOf F.HRT_STS_PARKED slot then Tab.getN s.hrt.wdtHeld slot else s.now - Tab.getN s.hrt.wdtFrom slot

/-- Restart a slot's counter and clear its warning. -/
def State.wdtKick (s : State) (slot : Nat) : State :=
  let h := s.hrt
  State.setBitOf { s with hrt := { h with wdtFrom := Tab.putN h.wdtFrom slot s.now, wdtHeld := Tab.putN h.wdtHeld slot 0 } }
    F.HRT_WDT_STS_WARN slot false

/-- The slot has a counter that runs: the watchdog is enabled and a pair serves the slot. -/
def State.wdtOn (s : State) (slot : Nat) : Bool := s.getb F.HRT_WDT_CTL_EN && slot < 8 && s.pairOf slot != 15

/-- TIMER_INTERRUPT: a slot's machine timer interrupt becomes pending once the AT copy has reached its HRT_MTIMECMP (R537). -/
def execTimerInterrupt (slot : Nat) (s : State) : Res :=
  .next (if s.get (F.HRT_MTIMECMP_VALUE slot) ≤ s.now && !s.hrt.mtip.contains slot then
    { s with hrt := { s.hrt with mtip := slot :: s.hrt.mtip } } else s)

/-- WDT_KICK: a write to HRT_WDT_KICK[slot]; only the slot's own write counts (R538). -/
def execWdtKick (r : Req) (slot : Nat) (s : State) : Res :=
  .next (s.withWrite r (R.HRT_WDT_KICK + 4 * slot) (fun s =>
    match r with
    | .hart h _ => if h == slot && s.wdtOn slot then s.wdtKick slot else s
    | _ => s))

/-- WDT_WARN: a slot's counter reaches HRT_WDT_TO (R538, stage 1). -/
def execWdtWarn (slot : Nat) (s : State) : Res :=
  .next (if s.wdtOn slot && ms (s.get F.HRT_WDT_TO_TIMEOUT) ≤ s.wdtCount slot && !s.bitOf F.HRT_WDT_STS_WARN slot then
    ((s.setBitOf F.HRT_WDT_STS_WARN slot true).setb F.HRT_ERR_WDT_WARN true).recordMs 0x0320 (w1 slot) else s)

/-- WDT_RESTART: a write to HRT_WDT_RESTART; GO is bit 31 and SLOT bits 2 to 0. The pair of a warned slot starts afresh at
AND_RESTART_VEC (R538). -/
def execWdtRestart (r : Req) (value : Nat) (s : State) : Res :=
  let slot := value % 8
  .next (s.withWrite r R.HRT_WDT_RESTART (fun s =>
    if bit value 31 && s.bitOf F.HRT_WDT_STS_WARN slot then
      (((s.wdtKick slot).setb F.HRT_ERR_WDT_RESTART true).recordMs 0x0321 (w1 slot)).emit
        (.hartStart slot (4 * s.get F.AND_RESTART_VEC_ADDR) slot 3)
    else s))

/-- HRT_PARK: a write to HRT_PARK; GO is bit 31 and SLOT bits 2 to 0. Honoured from the slot itself, in Banked (R549); slot 0 is
never parked (R473). -/
def execHrtPark (r : Req) (value : Nat) (s : State) : Res :=
  let slot := value % 8
  .next (s.withWrite r R.HRT_PARK (fun s =>
    match r with
    | .hart h _ => if bit value 31 && h == slot && slot != 0 && s.md == mBanked then s.parkSlot slot else s
    | _ => s))

end Sys2Proof.Machine
end

