-- ==== Sys2Proof/Machine/Modes.lean ====
section
/-! DEFINITION. Operating modes (ch. 17): leaving Kindling (R475), the settlement of records that need the partner (R461), Banked entry and exit
(R476, R481, R525, R526), and requests through GLB_MODE_REQ (R477, R480). -/

namespace Sys2Proof.Machine

/-! ### Settlement of the head's own records (R379, R380, R461) -/

/-- The write of a record is lost (R380): it is listed and its record retires. -/
def State.loseRec (s : State) (r : JRec) : State :=
  ((s.inc F.JNL_RCV_LOST 1).addLost { vol := r.vol, first := r.lba, count := r.len / 4096, seq := r.seq }).retireRec r

/-- The head's own committed WRITE records whose payload it does not hold, and in Joining its DEALLOC records (R461). -/
def State.unsettled (s : State) : List JRec :=
  bySeq (s.jnl.recs.filter (fun r => !r.mirror && r.origin == s.head && r.committed &&
    ((r.type == 1 && (Tab.find s.jnl.staging r.key).isNone) || (r.type == 2 && s.md == mJoining))))

/-- A head that does not join applies its own DEALLOC records as far as its maps do not show them (R379). -/
def State.applyDeallocs (s : State) : State :=
  if s.md == mJoining then s
  else (bySeq (s.jnl.recs.filter (fun r => !r.mirror && r.origin == s.head && r.type == 2 && r.committed))).foldl State.applyDealloc s

/-- Ask the partner for a record's staged payload. -/
def State.askStage (s : State) (r : JRec) : State :=
  let tag := s.crl.nextTag
  (s.updCrl (fun c => { c with nextTag := tag + 1, stageOut := Tab.put c.stageOut tag r.key })).crlSend 2 0x22
    (leBytes 8 tag ++ leBytes 8 r.seq ++ [BitVec.ofNat 8 r.origin] ++ zeroBytes 7)

/-- Settlement begins: over the session, or with nobody to ask every such write is lost. -/
def State.startSettling (s : State) : State :=
  let s := s.applyDeallocs
  let rs := s.unsettled
  if s.session then rs.foldl State.askStage (s.updAnd (fun a => { a with settling := rs.map JRec.key }))
  else rs.foldl State.loseRec s

/-- A record has been settled. -/
def State.settledRec (s : State) (key : Nat) : State := s.updAnd (fun a => { a with settling := a.settling.filter (· != key) })

/-- The payload of a record is found again: it is staged, takes grates and is destaged under its original sequence. On which channel such a
payload is allocated the spec does not say: the model takes MIRI (log 135). -/
def State.regain (s : State) (r : JRec) (payload : Bytes) : State :=
  let s := s.updJnl (fun j => { j with staging := Tab.put j.staging r.key payload, regain := j.regain ++ [r.key] })
  (s.requestN { chan := 2, user := cmdUser r.tag, atime := r.atime } (r.len / 4096)).runGranted

/-- The partner's answer for a record: `status` 0 with the payload, 1 when it holds the mirror record only, 2 when it holds none (R401,
R461). -/
def State.settle (s : State) (r : JRec) (status : Nat) (payload : Bytes) : State :=
  let s := s.settledRec r.key
  if status == 0 && slice (sha256 payload) 0 16 == r.pdig && payload.length == r.len then s.regain r payload
  else if status == 2 && s.and.mirrorAtReset == 0 && s.md == mJoining then
    ((s.setb F.AND_ERR_NOACK_DROP true).recordAnd 0x030C (w2 r.seq)).retireRec r
  else s.loseRec r

/-! ### Leaving Kindling (R474, R475) -/

/-- The option MODES bit of a mode (R381); the bit for Duplex counts as set. -/
def State.modeAllowed (s : State) (m : Nat) : Bool := m == mDuplex || bit (leAt s.jnl.cur 15 1) m

/-- The table of R475: the mode for the head's own UNMIRRORED, its identity and the partner's mode byte; none where it waits. -/
def leaveMode (unmirrored : Bool) (head byte : Nat) : Option Nat :=
  let mode := byte % 16
  if mode == mSolo then some mJoining
  else if mode == mKindling && bit byte 4 then
    match unmirrored, bit byte 5 with
    | false, false => some mDuplex
    | false, true => none
    | true, false => some mSolo
    | true, true => if head == 0 then some mSolo else none
  else none

/-- A head that joins clears a Sanitize of its own that has not ended, which the survivor finished alone, and the keys of its domains (R136),
and raises the generation of slot 4 (R322). -/
def State.clearOwnSanitize (s : State) : State :=
  if s.inProgress 0 then
    let s := ((s.savePair 0 [0, 0, 0, 0, 0, 0, 0, 0]).setb F.BEL_STS_SANITIZING false).updBel (fun b => { b with sanStatus := 1 })
    (s.updKeys (fun x => { x with slots := Tab.keep x.slots (fun n _ => decide (n < 16)), erase := none })).raiseWrap
  else s

/-- Transition 1. A head that joins holds no half: it rebuilds its own until the survivor passes it back (R259). -/
def State.leaveKindling (s : State) (m : Nat) : State :=
  let s := s.setMode F.GLB_MODE_WAITING 0
  if m == mJoining then
    let s := (s.enterMode mJoining 1).clearOwnSanitize.updAnd (fun a => { a with halves := 0 })
    ((s.updDdx (fun d => { d with halves := [], store := d.store.filter (fun v => v.1 == 2) })).saveOwner.startRebuild s.head).startSettling
  else if m == mDuplex then
    ((s.updAnd (fun a => { a with halves := 2 ^ s.head })).saveOwner.enterMode mDuplex 1).resumeRebuild.startSettling
  else (s.resumeRebuild.beginTakeover 1).startSettling

/-- While WAITING is 1 and the session is up, the head decides its mode (R475); not while a Quench runs (R479). -/
def State.decideMode (s : State) : State :=
  if s.md != mKindling || !s.getb F.GLB_MODE_WAITING || !s.session || s.qphase != 0 then s
  else match s.mode.partnerByte.bind (leaveMode (s.getb F.GLB_MODE_UNMIRRORED) s.head) with
    | some m => if s.modeAllowed m then s.leaveKindling m else s
    | none => s

/-- The partner's mode byte arrives; a change decides again. -/
def State.partnerByte (s : State) (b : Nat) : State :=
  let changed := s.mode.partnerByte != some b
  let s := { s with mode := { s.mode with partnerByte := some b } }
  if changed then s.decideMode else s

/-! ### Banked (R476, R481, R525, R526) -/

/-- Run a command that waited for the end of Banked. -/
def State.replay (s : State) (i : Instr) : State :=
  let r : Res := match i with
    | .nvmeRead p q cid nsid slba n sgl opc => execNvmeRead p q cid nsid slba n sgl opc s
    | .nvmeWrite p q cid nsid slba n sgl b => execNvmeWrite p q cid nsid slba n sgl b s
    | .nvmeFlush p q cid nsid => execNvmeFlush p q cid nsid s
    | .datasetManagement p q cid nsid ad rs => execDatasetManagement p q cid nsid ad rs s
    | .writeZeroes p q cid nsid slba n => execWriteZeroes p q cid nsid slba n s
    | .winNop p r => execWinNop p r s
    | .winWrite p r => execWinWrite p r s
    | .winRead p r => execWinRead p r s
    | .winFlush p r => execWinFlush p r s
    | .winDeallocate p r => execWinDeallocate p r s
    | .replGet p r => execReplGet p r s
    | .cmdDoorbell q p r x => execCmdDoorbell q p r x s
    | .cplDoorbell q p r x => execCplDoorbell q p r x s
    | .doneDoorbell q p x => execDoneDoorbell q p x s
    | .hostMemRequest p l w t e => execHostMemRequest p l w t e s
    | .abort p cid q t => execAbort p cid q t s
    | .createIoCq p cid qid size v irq => execCreateIoCq p cid qid size v irq s
    | .adminCommand p cid op qid size cq prio => execAdminCommand p cid op qid size cq prio s
    | .nsCreate p cid => execNsCreate p cid s
    | .sanitizeCryptoErase p cid ndas c => execSanitizeCryptoErase p cid ndas c s
    | .sanitizeBlockErase p cid ndas c => execSanitizeBlockErase p cid ndas c s
    | .format p cid nsid ses => execFormat p cid nsid ses s
    | .formatCryptoErase p cid nsid => execFormatCryptoErase p cid nsid s
    | _ => .next s
  match r with
  | .next t => t
  | _ => s

/-- A message of the MIR or REQ channel waits. -/
def State.mirOrReq (s : State) : Bool := s.crl.inbox.any (fun m => m.1 == 0 || m.1 == 2)

/-- Banked entry may end (R128, R481). -/
def State.entryOver (s : State) : Bool :=
  s.mode.bankedEntry && (s.md == mDuplex || s.md == mSolo) && s.qphase != 2 && s.bel.cmds.isEmpty && s.dirty == 0 && s.ich.wb.isEmpty &&
  !s.mirOrReq && s.crl.mirIn.isEmpty

/-- The slots other than 0 that a pair serves. -/
def State.otherSlots (s : State) : List Nat := ((List.range 7).map (· + 1)).filter (fun k => s.pairOf k != 15)

/-- The entry is over or given up. -/
def State.entryClosed (s : State) : State :=
  { (s.setb F.BEL_STS_ENTERING false).setb F.GLB_MODE_REQ_BUSY false with mode := { s.mode with bankedEntry := false } }

/-- BANKED_ENTRY_END: the head enters Banked by transition 7 and Damper parks CCH, STV, the pairs of the other slots and the spare. -/
def execBankedEntryEnd (s : State) : Res :=
  .next (if !s.entryOver then s
  else
    let from_ := s.md
    let s := s.entryClosed.transition mBanked 7
    let s := { s with mode := { s.mode with bankedFrom := from_ } }
    let s := (s.setBitOf F.DMP_STS_PARKED 0 true).setBitOf F.DMP_STS_PARKED 1 true
    let s := (s.otherSlots.filter (fun k => !s.bitOf F.HRT_STS_PARKED k)).foldl State.parkSlot s
    let s := if s.get F.AND_STS_SPARE == 15 then s else s.setBitOf F.DMP_STS_PARKED 3 true
    (s.record 0x020A []).postPs)

/-- Banked ends (R526, transition 8): domains are unparked, held cut-table entries are written, and held commands run. -/
def State.leaveBanked (s : State) : State :=
  let back := s.mode.bankedFrom
  let held := s.mode.held
  let s := (s.setBitOf F.DMP_STS_PARKED 0 false).setBitOf F.DMP_STS_PARKED 1 false
  let s := (s.otherSlots.filter (fun k => s.bitOf F.HRT_STS_PARKED k)).foldl State.unparkSlot s
  let s := (s.setBitOf F.DMP_STS_PARKED 3 false).setb F.GLB_MODE_REQ_BUSY false
  let s := { s with mode := { s.mode with held := [], exitWanted := false, bankedFrom := 0 } }
  let took := s.freeValue.toNat % 3001
  let s := ((s.taken 1).record 0x020B (w1 took)).enterMode back 8
  let s := s.tick.heldCuts.foldl State.writeCutEntry (s.updTick (fun t => { t with heldCuts := [] }))
  held.foldl State.replay s

/-- BANKED_EXIT: a trigger of R476 takes the head back to the mode it was entered from. -/
def execBankedExit (s : State) : Res :=
  .next (if s.md == mBanked && s.qphase != 2 && (s.mode.exitWanted || !s.mode.held.isEmpty || s.mirOrReq) then s.leaveBanked else s)

/-! ### Requests (R477, R480) -/

/-- A request that fails a check. -/
def State.modeRefused (s : State) (target result : Nat) : State :=
  (s.set F.GLB_MODE_REQ_RESULT result).record 0x0F11 (w1 target ++ w1 result)

/-- Recovery and the resumption of R134 have ended. -/
def State.recovered (s : State) : Bool := s.getb F.JNL_STS_READY && !s.getb F.JNL_STS_RECOVERING

/-- The request is in the table of R480. -/
def State.modeListed (s : State) (target : Nat) (force : Bool) : Bool :=
  let w := s.getb F.GLB_MODE_WAITING
  if s.md == mKindling then (target == mJoining && !w) || (target == mSolo && force && w) || target == mSweep
  else if s.md == mDuplex || s.md == mSolo then target == mBanked
  else s.md == mBanked && (target == mDuplex || target == mSolo)

/-- The condition of the table holds. A Sanitize that the head resumed does not keep it from joining a partner in Solo, which finishes it alone
(R136). -/
def State.modeReady (s : State) (target : Nat) : Bool :=
  if s.md == mBanked then target == s.mode.bankedFrom
  else if target == mJoining then
    s.recovered && !(List.range 32).any (fun k => s.inProgress k && !(k == 0 && s.mode.partnerByte.any (fun b => b % 16 == mSolo)))
  else if target == mSolo then !s.session
  else if target == mSweep then s.recovered
  else !s.getb F.BEL_STS_SANITIZING && s.formats == 0

/-- Transition 3. -/
def State.enterSweep (s : State) : State := (s.setMode F.GLB_MODE_WAITING 0).enterMode mSweep 3

/-- BOOT_SWEEP takes a head whose Kindling sequence has ended to Sweep and is cleared; transition 3 does not take place in a Quench (R479). -/
def State.bootSweep (s : State) : State :=
  if s.getb F.GLB_CTL_BOOT_SWEEP && s.md == mKindling && s.recovered && !s.getb F.KDL_STS_BUSY && s.qphase == 0 then
    s.enterSweep.setb F.GLB_CTL_BOOT_SWEEP false
  else s

/-- What an accepted request does. -/
def State.modeEffect (s : State) (target : Nat) : State :=
  if s.md == mBanked then { s.setb F.GLB_MODE_REQ_BUSY true with mode := { s.mode with exitWanted := true } }
  else if target == mJoining then (s.setMode F.GLB_MODE_WAITING 1).decideMode
  else if target == mSolo then
    (((s.setMode F.GLB_MODE_WAITING 0).record 0x0F12 []).beginTakeover 2).startSettling
  else if target == mSweep then s.enterSweep
  else (s.setb F.GLB_MODE_REQ_BUSY true).beginBanked

/-- A write to GLB_MODE_REQ. GO is bit 31, FORCE bit 8, TARGET bits 3:0. -/
def State.writeModeReq (s : State) (v : Nat) : State :=
  let target := v % 16
  let s := (s.setb F.GLB_MODE_REQ_FORCE (bit v 8)).set F.GLB_MODE_REQ_TARGET target
  if !bit v 31 || s.getb F.GLB_MODE_REQ_BUSY then s
  else if s.qphase != 0 then s.modeRefused target 4
  else if !s.modeListed target (bit v 8) then s.modeRefused target 2
  else if (s.md != mBanked && (target == mSolo || target == mBanked || target == mSweep)) && !s.modeAllowed target then s.modeRefused target 1
  else if !s.modeReady target then s.modeRefused target 3
  else (s.set F.GLB_MODE_REQ_RESULT 0).modeEffect target

/-- A request of firmware for a mode. -/
def State.modeReq (s : State) (r : Req) (target : Nat) (force : Bool) : Res :=
  .next (s.withWrite r R.GLB_MODE_REQ (fun s => s.writeModeReq (2 ^ 31 + 2 ^ 8 * b2n force + target)))

/-- LEAVE_KINDLING_REQ: TARGET 0x2. -/
def execLeaveKindlingReq (r : Req) (s : State) : Res := s.modeReq r mJoining false

/-- FORCE_SOLO: TARGET 0x4 with FORCE (R477). -/
def execForceSolo (r : Req) (s : State) : Res := s.modeReq r mSolo true

/-- SWEEP_REQ: TARGET 0x6. -/
def execSweepReq (r : Req) (s : State) : Res := s.modeReq r mSweep false

/-- BANKED_REQ: TARGET 0x5. -/
def execBankedReq (r : Req) (s : State) : Res := s.modeReq r mBanked false

/-- BANKED_EXIT_REQ: the TARGET of a head in Banked, Duplex or Solo (`solo`). -/
def execBankedExitReq (r : Req) (solo : Bool) (s : State) : Res := s.modeReq r (if solo then mSolo else mDuplex) false

end Sys2Proof.Machine
end

