-- ==== Sys2Proof/Machine/Soot.lean ====
section
/-! DEFINITION. The Soot log (ch. 21): records and their bytes, flushing, freezing, clearing and reading. -/

namespace Sys2Proof.Machine

/-- The 64 bytes of a record at a position of the log (R555). -/
def sootBytes (index : Nat) (r : SootRec) : Bytes :=
  let b := leBytes 2 r.code ++ [BitVec.ofNat 8 (r.head + 2 * b2n r.frozen), 0] ++ leBytes 4 index ++ leBytes 8 r.stamp ++ leBytes 8 r.atime ++
    (List.range 8).flatMap (fun i => leBytes 4 (r.items.getD i 0)) ++ zeroBytes 4
  b ++ leBytes 4 (crc32c b)

/-- The record at a position; zeros at or above NEXT (R567). -/
def State.sootAt (s : State) (i : Nat) : Bytes :=
  if i < s.get F.SOOT_STS_NEXT then
    match Tab.find s.soot.log i with
    | some r => sootBytes i r
    | none => zeroBytes 64
  else zeroBytes 64

/-- A flush writes one record at NEXT, or drops and counts it when the log is full (R559, R562). -/
def State.sootWrite (s : State) (r : SootRec) : State :=
  let n := s.get F.SOOT_STS_NEXT
  if n ≥ 32768 then s.sootLose
  else
    let s := State.set { s with soot := { s.soot with log := Tab.put s.soot.log n r } } F.SOOT_STS_NEXT (n + 1)
    if n + 1 == 32768 then (s.setb F.SOOT_STS_FULL true).irqAll 2046 else s

/-- The oldest `n` staged records reach Ember, oldest first. -/
def State.sootFlushNow (s : State) (n : Nat) : State :=
  (s.soot.staged.take n).foldl State.sootWrite { s with soot := { s.soot with staged := s.soot.staged.drop n } }

/-- A running flush ends (R559, R560, R563): FLUSH clears; a trigger that met it flushes again; a freeze that waited begins. -/
def State.sootFlushEnd (s : State) : State :=
  match s.soot.flushing with
  | none => s
  | some n =>
    let s := s.sootFlushNow n
    let s := (s.setb F.SOOT_STS_FLUSHING false).setb F.SOOT_CTL_FLUSH false
    let again := s.soot.again
    let s := { s with soot := { s.soot with flushing := none, again := false } }
    if again then s.sootFlush
    else if s.soot.freezeWait then
      { s.setb F.SOOT_STS_FROZEN true with soot := { s.soot with freezeWait := false, freezeAt := some s.now } }
    else s

/-- A freeze ends (R563): FREEZE and FROZEN clear. -/
def State.sootThaw (s : State) : State :=
  { (s.setb F.SOOT_CTL_FREEZE false).setb F.SOOT_STS_FROZEN false with soot := { s.soot with freezeWait := false, freezeAt := none } }

/-- SOOT_FLUSH_TIMER: the AT copy reaches a whole second (R559). -/
def execSootFlushTimer (s : State) : Res :=
  let t := s.now / sec 1
  .next (if s.soot.second < t then State.sootFlush { s with soot := { s.soot with second := t } } else s)

/-- SOOT_FLUSH_REQ: a write of 1 to SOOT_CTL.FLUSH (R559). -/
def execSootFlushReq (r : Req) (s : State) : Res :=
  .next (s.withWrite r R.SOOT_CTL (fun s => (s.setb F.SOOT_CTL_FLUSH true).sootFlush))

/-- SOOT_FLUSH_DONE: the running flush ends, its records in Ember and NEXT advanced (R560). -/
def execSootFlushDone (s : State) : Res := .next s.sootFlushEnd

/-- SOOT_FREEZE: a write of 1 to SOOT_CTL.FREEZE flushes and then freezes; it waits for a running flush (R563). -/
def execSootFreeze (r : Req) (s : State) : Res :=
  .next (s.withWrite r R.SOOT_CTL (fun s =>
    if s.getb F.SOOT_STS_FROZEN then s
    else State.sootFlush { s.setb F.SOOT_CTL_FREEZE true with soot := { s.soot with freezeWait := true } }))

/-- SOOT_UNFREEZE: a write of 0 to SOOT_CTL.FREEZE ends the freeze and flushes what was staged (R563). -/
def execSootUnfreeze (r : Req) (s : State) : Res :=
  .next (s.withWrite r R.SOOT_CTL (fun s =>
    if s.getb F.SOOT_STS_FROZEN then s.sootThaw.sootFlush else s.sootThaw))

/-- SOOT_FREEZE_TIMEOUT: SOOT_FRZ_TO milliseconds of AT have passed since the freeze began (R563). -/
def execSootFreezeTimeout (s : State) : Res :=
  let limit := s.get F.SOOT_FRZ_TO_MS
  .next (match s.soot.freezeAt with
    | some t => if limit != 0 && t + ms limit ≤ s.now then s.sootThaw.sootFlush else s
    | none => s)

/-- The ARRAY_ID of the accepted option copy (R381). -/
def State.arrayId (s : State) : Bytes := slice s.jnl.cur 32 8

/-- The nonce shows in SOOT_CLR_NONCE; zero once it is used or has expired. -/
def State.showNonce (s : State) (n : Bytes) : State :=
  (List.range 4).foldl (fun s w => s.set (F.SOOT_CLR_NONCE_DATA w) (leAt n (4 * w) 4)) s

/-- SOOT_CHALLENGE: OP CHALLENGE with GO draws a nonce and posts it to the secure channel CHAN as agent 12 (R564, R565). -/
def execSootChallenge (r : Req) (s : State) : Res :=
  .next (s.withWrite r R.SOOT_CLR_CTL (fun s =>
    let s := s.set F.SOOT_CLR_CTL_OP 1
    let c := s.get F.SOOT_CLR_CFG_CHAN
    if s.getb F.SOOT_CLR_CTL_BUSY then s
    else if s.qphase != 0 then s.set F.SOOT_CLR_CTL_RESULT 3
    else if !s.getb (F.MBX_CFG_EN c) then s.set F.SOOT_CLR_CTL_RESULT 4
    else
      let n := s.freeBytes 16
      let s := (s.taken 16).showNonce n
      let s := { s with soot := { s.soot with nonce := some (n, s.now) } }
      (s.post 12 c 0x5C01 (n ++ zeroBytes 48)).set F.SOOT_CLR_CTL_RESULT 0))

/-- The clear of R566: the staged records go to the old log, the region is zeroed, NEXT, FULL and the lost count return to 0, and
SOOT_CLEAR is the record at INDEX 0. A freeze ends as it begins (R563). -/
def State.sootClear (s : State) : State :=
  let s := s.sootThaw
  let s := s.sootFlushNow s.soot.staged.length
  let old := s.get F.SOOT_STS_NEXT
  let lost := s.get F.SOOT_LOST_COUNT
  let s := ((s.set F.SOOT_STS_NEXT 0).setb F.SOOT_STS_FULL false).set F.SOOT_LOST_COUNT 0
  let s := (s.setb F.SOOT_STS_FLUSHING false).setb F.SOOT_CTL_FLUSH false
  let s := { s with soot := { s.soot with log := [], flushing := none, again := false, unread := false } }
  s.sootWrite { code := 0x0F20, frozen := false, head := s.head, stamp := s.stamp, atime := s.now, items := w1 old ++ w1 lost }

/-- The response the authority must give (R564): HMAC-SHA-256 under K1 of slot 3. -/
def State.clearMac (s : State) (nonce : Bytes) : Bytes :=
  hmac256 (s.slotK1 3) (ascii "SOOT-CLEAR" ++ [BitVec.ofNat 8 s.head] ++ s.arrayId ++ nonce)

/-- SOOT_RESPOND: OP RESPOND with GO checks SOOT_CLR_RESP against the challenge (R565). -/
def execSootRespond (r : Req) (s : State) : Res :=
  .next (s.withWrite r R.SOOT_CLR_CTL (fun s =>
    let s := s.set F.SOOT_CLR_CTL_OP 2
    let resp := (List.range 8).flatMap (fun w => leBytes 4 (s.get (F.SOOT_CLR_RESP_DATA w)))
    if s.getb F.SOOT_CLR_CTL_BUSY then s
    else if s.qphase != 0 then s.set F.SOOT_CLR_CTL_RESULT 3
    else if (Tab.find s.keys.slots 3).isNone then s.set F.SOOT_CLR_CTL_RESULT 2
    else
      let life := sec (s.get F.SOOT_CLR_CFG_TO_S)
      let ok := match s.soot.nonce with
        | some (n, t) => s.now < t + life && resp == s.clearMac n
        | none => false
      let s := { s.showNonce [] with soot := { s.soot with nonce := none } }
      if ok then s.sootClear.set F.SOOT_CLR_CTL_RESULT 0
      else ((s.set F.SOOT_CLR_CTL_RESULT 1).incSat F.SOOT_DENY_CNT_COUNT 1).record 0x0F21 (w1 1)))

/-- NONCE_EXPIRE: the nonce's life of SOOT_CLR_CFG.TO_S seconds has passed (R565). -/
def execNonceExpire (s : State) : Res :=
  .next (match s.soot.nonce with
    | some (_, t) =>
      if t + sec (s.get F.SOOT_CLR_CFG_TO_S) ≤ s.now then { s.showNonce [] with soot := { s.soot with nonce := none } } else s
    | none => s)

/-- SOOT_READ_MI: the NVMe-MI command 0xC1 reads `count` records from `first` on, ending at NEXT (R567). -/
def execSootReadMi (first count : Nat) (s : State) : Res :=
  .next (if s.released dSbd then
    s.emit (.sootRecords ((List.range (min count (s.get F.SOOT_STS_NEXT - first))).map (fun i => s.sootAt (first + i)))) else s)

/-- SOOT_LOST_READ: a read of SOOT_LOST returns the count and acknowledges its rise at the PLIC (R569). -/
def execSootLostRead (r : Req) (s : State) : Res :=
  .next (if s.canReach r then
    { s.emit (.readData (reqAgent r) R.SOOT_LOST (s.get F.SOOT_LOST_COUNT)) with soot := { s.soot with unread := false } } else s)

/-- OP_TIME_TICK: the operating time rises by 1 ms for every 100,000 counts of the AT copy (R557). -/
def execOpTimeTick (s : State) : Res :=
  .next (if s.soot.opFrom + ms 1 ≤ s.now then
    { s with soot := { s.soot with opTime := (s.soot.opTime + 1) % 2 ^ 40, opFrom := s.soot.opFrom + ms 1 } } else s)

end Sys2Proof.Machine
end

