-- ==== Sys2Proof/Machine/Creterlink.lean ====
section
/-! DEFINITION. Creterlink up to the session (ch. 14): training and loss of the link, frames received, replay, messages put together
(R402), and the start and end of a session. -/

namespace Sys2Proof.Machine

/-! ### The link (R386, R395) -/

/-- The lanes the option bytes enable (R385). -/
def State.crlLanes (s : State) : Nat := leAt s.jnl.cur 40 2

/-- The number of set bits among the 16 of a lane mask. -/
def lanesIn (m : Nat) : Nat := (List.range 16).countP (bit m)

/-- The widest width both heads' lanes allow (R386). -/
def crlWidth (n : Nat) : Nat := if 16 ≤ n then 16 else if 8 ≤ n then 8 else if 4 ≤ n then 4 else if 2 ≤ n then 2 else min n 1

/-- The `w` lowest lanes of a mask. -/
def lowLanes (m w : Nat) : Nat := (((List.range 16).filter (bit m)).take w).foldl (fun a i => a + 2 ^ i) 0

/-- The link goes down (R395): what a session knows is kept. -/
def State.crlDown (s : State) : State :=
  if !s.getb F.CRL_STS_LINK_UP then s
  else
    let s := ((s.setb F.CRL_STS_LINK_UP false).set F.CRL_STS_WIDTH 0).set F.CRL_STS_LANES_UP 0
    ((s.setb F.CRL_ERR_LINK_DOWN true).recordMs 0x0402 []).degrade F.GLB_FAULT_CRL 0 true

/-- The partner is to be declared lost (R416). -/
def State.lostDue (s : State) : Bool :=
  s.crl.watch && 4 ≤ s.get F.CRL_STS_MISS && (!s.getb F.CRL_STS_LINK_UP || s.crl.endedByHello || s.getb F.CRL_STS_PFAULT)

/-- Send one held frame again. -/
def State.resend (s : State) (f : HeldFrame) : State :=
  ((s.emitFrame 1 f.vc f.seq f.som f.eom f.payload).countIdle).incSat F.CRL_REPLAY_CNT_COUNT 1

/-- Replay every held frame, oldest first. -/
def State.replayAll (s : State) : State :=
  s.crl.replay.foldl State.resend (s.updCrl (fun c => { c with replayAt := s.cyc }))

/-- The mode byte of R471. -/
def State.modeByte (s : State) : Nat :=
  s.qphase % 4 * 64 + b2n (s.getb F.GLB_MODE_UNMIRRORED) * 32 + b2n (s.getb F.GLB_MODE_WAITING) * 16 + s.md % 16

/-- Send HELLO (R403); a new attempt draws a NONCE and takes GEN1. -/
def State.sendHello (s : State) : State :=
  let s := if s.crl.nonceOwn.isEmpty then
      (s.updCrl (fun c => { c with nonceOwn := s.freeBytes 16, genOwn := Tab.getN s.keys.gens 1 })).taken 16
    else s
  let body := leBytes 2 1 ++ [BitVec.ofNat 8 s.head, BitVec.ofNat 8 (b2n s.keys.aroot.isSome)] ++ leBytes 4 s.crl.genOwn ++ s.arrayId ++
    s.crl.nonceOwn ++ leBytes 8 s.now ++ [BitVec.ofNat 8 s.modeByte, BitVec.ofNat 8 (s.get F.TICK_CTL_SRC)] ++ zeroBytes 6
  (s.updCrl (fun c => { c with helloAt := s.cyc })).crlSend 7 0x60 body

/-- CRL_LINK_TRAIN: the link trains and reaches codeword lock. `lanes` are the head's lanes that train, `partner` how many of the partner's
do. -/
def execCrlLinkTrain (lanes partner : Nat) (s : State) : Res :=
  let own := Nat.land lanes s.crlLanes
  let w := crlWidth (min (lanesIn own) partner)
  .next (if !s.released dCrl || !s.getb F.CRL_CTL_EN || s.getb F.CRL_STS_LINK_UP || w == 0 || s.lostDue then s
  else
    let s := ((s.setb F.CRL_STS_LINK_UP true).set F.CRL_STS_WIDTH w).set F.CRL_STS_LANES_UP (lowLanes own w)
    let s := (s.updCrl (fun c => { c with frameAt := s.cyc, lineFrom := s.framesSent.length })).degrade F.GLB_FAULT_CRL 0 false
    let s := if w < 16 then s.recordMs 0x0403 [] else s
    let s := s.replayAll
    if s.session then s.pump
    else (s.updCrl (fun c => { c with hello := none, nonceOwn := [], refused := false })).sendHello)

/-- LANE_LOCK_LOSS: lane `lane` of the link loses lock. -/
def execLaneLockLoss (lane : Nat) (s : State) : Res := .next (if s.bitOf F.CRL_STS_LANES_UP lane then s.crlDown else s)

/-- LINK_TIMEOUT: no good frame for LINK_TO (R395). -/
def execLinkTimeout (s : State) : Res :=
  .next (if s.getb F.CRL_STS_LINK_UP && s.crl.frameAt + 10 * max 1 (s.get F.CRL_TIMERS_LINK_TO) ≤ s.cyc then s.crlDown else s)

/-! ### The end of a session (R406) -/

/-- A session ends: what belongs to it is dropped, and commands the partner forwarded have nobody to answer. -/
def State.endSession (s : State) : State :=
  if !s.session then s
  else
    let s := (s.setb F.CRL_STS_SESSION false).setb F.CRL_STS_PFAULT false
    let s := (s.crl.mirIn.map (·.1)).foldl (fun s t => s.freeUser (cmdUser t)) s
    let s := s.updCrl (fun c => { c with
      hello := none, nonceOwn := [], txq := c.txq.filter (fun f => f.vc == 7), replay := [], replays := 0, opened := []
      inbox := c.inbox.filter (fun m => m.1 == 7), sent := [], freed := [], rxFreed := [], changed := [], mirWait := [], mirOut := [], mirIn := [],
      stageOut := [], fenceIvc := 0 })
    let s := s.updPool (fun p => { p with waiting := p.waiting.filter (fun w => w.chan != 3 || w.user % 8 != 3) })
    let s := s.freeMir
    let s := (s.bel.cmds.filter (fun c => c.foreign.isSome)).foldl (fun s c =>
      if c.posted then s.updCmd c.id (fun c => { c with dead := true }) else (s.dropCmd c.id).freeUser (cmdUser c.id)) s
    let s := if s.get F.TICK_CTL_SRC == 3 then s.setb F.TICK_STS_HOLDOVER true else s
    { s with mode := { s.mode with partnerByte := none } }

/-- A write to CRL_CTL (R395, R406). -/
def State.writeCrlCtl (s : State) (v : Nat) : State :=
  let was := s.getb F.CRL_CTL_EN
  let s := (s.set F.CRL_CTL_ARB_DELAY (bits v 16 16)).setb F.CRL_CTL_EN (bit v 0)
  if was && !bit v 0 then s.endSession.crlDown else s

/-- CRL_EN_WRITE: a write to CRL_CTL. -/
def execCrlEnWrite (r : Req) (value : Nat) (s : State) : Res := .next (s.withWrite r R.CRL_CTL (fun s => s.writeCrlCtl value))

/-! ### The start of a session (R403-R405) -/

/-- Refuse the join (R404). -/
def State.refuseJoin (s : State) (reason : Nat) : State :=
  let s := s.crlSend 7 0x62 ([BitVec.ofNat 8 reason] ++ zeroBytes 7)
  let s := s.updCrl (fun c => { c with hello := none, nonceOwn := [], refused := true, helloAt := s.cyc })
  ((s.set F.CRL_STS_JOIN_FAIL reason).setb F.CRL_ERR_JOIN_REFUSED true).recordMs 0x040C (w1 reason)

/-- The MAC of a PROOF that head `h` sends (R405). -/
def State.proofMac (s : State) (h : Nat) (partnerNonce : Bytes) : Bytes :=
  let na := if s.head == 0 then s.crl.nonceOwn else partnerNonce
  let nb := if s.head == 0 then partnerNonce else s.crl.nonceOwn
  hmac256 (s.slotK1 1) (ascii "PROOF" ++ [BitVec.ofNat 8 h] ++ na ++ nb)

/-- The generation slot 1 takes for a session. -/
def sessionGen (a b : Nat) : Nat := min (max a b + 1) (2 ^ 32 - 1)

/-- The HELLO passes its checks: slot 1 takes generation G, committed first, and PROOF is sent. -/
def State.prove (s : State) (h : Hello) : State :=
  let g := sessionGen s.crl.genOwn h.gen
  let s := ((s.updKeys (fun x => { x with gens := Tab.putN x.gens 1 g })).saveKdf).derive 1
  let s := s.updCrl (fun c => { c with hello := some h, gen := g, refused := false })
  s.crlSend 7 0x61 (s.proofMac s.head h.nonce)

/-- The reason a HELLO is refused for, by its body; the first of R404's table when several hold. -/
def State.helloReason (s : State) (b : Bytes) : Nat :=
  if slice b 8 8 != s.arrayId then 1
  else if leAt b 2 1 == s.head then 2
  else if !bit (leAt b 3 1) 0 || s.keys.aroot.isNone then 3
  else if leAt b 0 2 != 1 then 4
  else 0

/-- A HELLO arrives: one that meets a session ends it. -/
def State.helloSeen (s : State) (b : Bytes) : State :=
  let s := if s.session then s.endSession.updCrl (fun c => { c with endedByHello := true }) else s
  let h : Hello := { head := leAt b 2 1, gen := leAt b 4 4, nonce := slice b 16 16, mode := leAt b 40 1, src := leAt b 41 1 % 4, atime := leAt b 32 8, arrived := s.now }
  let s := if s.crl.nonceOwn.isEmpty then s.sendHello else s
  match s.helloReason b with
  | 0 =>
    if s.crl.hello.any (fun x => x.nonce == h.nonce) then s.updCrl (fun c => { c with hello := some h })
    else s.prove h
  | n + 1 => s.refuseJoin (n + 1)

/-- AT joins the partner's (R428): only the head that is behind steps. -/
def State.joinAt (s : State) (h : Hello) : State :=
  let d : Int := (h.atime : Int) + s.linkDly - h.arrived
  let d := if s.get F.TICK_CTL_SRC == 1 && h.src == 1 then (d + 50000000) / 100000000 * 100000000 else d
  if d > s.get F.TICK_LIMITS_SKEW_MAX then
    let s := s.updTick (fun t => { t with count := t.count + d.toNat })
    (s.setb F.TICK_ERR_JOIN_STEP true).recordMs 0x0E02 (w2 d.toNat)
  else s

/-- Requests of this head that a session carries and that have no answer are sent on the new one. -/
def State.sendAgain (s : State) : State :=
  let s := (s.bel.cmds.filter (fun c => c.stage == .forwarded)).foldl (fun s c => s.forward c c.opc) s
  let s := s.ddx.fwd.foldl (fun s e => s.idxAsk e.1 e.2) s
  (s.jnl.recs.filter (fun r => s.and.settling.contains r.key)).foldl State.askStage s

/-- The session is up (R405): sequences, credit and IVC start again, heartbeats are watched from the second slot on, AT joins, and the
partner's mode byte counts (R475). -/
def State.sessionUp (s : State) (h : Hello) : State :=
  let s := ((s.setb F.CRL_STS_SESSION true).setb F.CRL_STS_LOST false).set F.CRL_STS_MISS 0
  let s := (s.set F.CRL_SEQ_TX_NEXT 0).set F.CRL_SEQ_RX_EXP 0
  let s := s.updCrl (fun c => { c with
    lastAck := 0xFFFFFF, replay := [], replays := 0, nakAt := none, sent := [], freed := [], rxFreed := [], changed := [], opened := []
    ivc := 1, fenceIvc := 0, watch := true, hbNext := s.now / 2000 + 2, hbGot := [], hbSent := s.now / 2000, endedByHello := false })
  let s := (s.recordMs 0x0401 (w1 s.crl.gen)).joinAt h
  let s := { s with mode := { s.mode with partnerByte := some h.mode } }
  (s.decideMode).sendAgain.releaseHeld

/-! ### Frames (R390-R394, R397) -/

/-- The fields of a received frame. -/
def fKind (b : Bytes) : Nat := leAt b 0 1 / 16
def fVc (b : Bytes) : Nat := leAt b 0 1 % 8
def fSeq (b : Bytes) : Nat := leAt b 1 3
def fAck (b : Bytes) : Nat := leAt b 4 3
def fFc (b : Bytes) : Nat := leAt b 7 3
def fLen (b : Bytes) : Nat := fFc b % 512

/-- A frame is corrupt by its own bytes (R391). -/
def frameCorrupt (b : Bytes) : Bool :=
  b.length != 270 || crc32c (b.take 266) != leAt b 266 4 || 2 < fKind b || bit (leAt b 0 1) 3 || 256 < fLen b ||
  (fKind b == 1 && fLen b == 0) || (fKind b != 1 && fLen b != 0)

/-- An ACK `a` acknowledges a held frame `q` (R394). -/
def acks (a q : Nat) : Bool := (a + 2 ^ 24 - q) % 2 ^ 24 < 2 ^ 23

/-- ACK and credit of a good frame. -/
def State.ackCredit (s : State) (b : Bytes) : State :=
  let a := fAck b
  let some_ := s.crl.replay.any (fun f => acks a f.seq)
  let cvc := bits (fFc b) 11 3
  let s := s.updCrl (fun c => { c with
    frameAt := s.cyc
    replay := c.replay.filter (fun f => !acks a f.seq)
    replays := if some_ then 0 else c.replays
    replayAt := if some_ then s.cyc else c.replayAt
    freed := if cvc < 5 then Tab.putN c.freed cvc (bits (fFc b) 14 10) else c.freed })
  if some_ then s.freeMir else s

/-- Discard a frame with at most one NAK (R393). -/
def State.nak (s : State) : State :=
  let again := match s.crl.nakAt with
    | none => true
    | some t => t + 10 * max 1 (s.get F.CRL_TIMERS_REPLAY_TO) ≤ s.cyc
  if again then ((s.updCrl (fun c => { c with nakAt := some s.cyc })).emitFrame 2 0 0 false false []).countIdle else s

/-- Frames of a channel are freed (R397). -/
def State.freeFrames (s : State) (vc n : Nat) : State :=
  if vc < 5 && 0 < n then
    s.updCrl (fun c => { c with
      rxFreed := Tab.putN c.rxFreed vc ((Tab.getN c.rxFreed vc + n) % 1024)
      changed := if c.changed.contains vc then c.changed else c.changed ++ [vc] })
  else s

/-- A message is faulted (R402): counted, and answered when what names it can be read. -/
def State.msgFault (s : State) (vc : Nat) (m : Bytes) : State :=
  let t := leAt m 0 1
  let s := ((s.setb F.CRL_ERR_MSG_FAULT true).incSat F.CRL_MSG_FAULT_CNT_COUNT 1).recordMs 0x0408 (w1 vc ++ w1 t)
  let body := gcmCrypt (s.slotK1 1) ([BitVec.ofNat 8 (1 - s.head), 0, 0, 0] ++ slice m 8 8) (m.drop 16)
  if !s.session then s
  else if vc == 0 && 80 ≤ m.length then s.mcommit (leAt body 17 1 / 32 % 2) (leAt body 0 8) 3 0
  else if (vc == 2 || vc == 3) && 24 ≤ m.length then
    s.crlSend 3 0x2B (slice body 0 8 ++ [BitVec.ofNat 8 t, 1] ++ zeroBytes 6)
  else s

/-- A whole message waits to be processed; HB, FEN and CTL hold the latest only (R397). -/
def State.putMsg (s : State) (vc n : Nat) (m : Bytes) : State :=
  s.updCrl (fun c => { c with opened := Tab.del c.opened vc, inbox := (if 5 ≤ vc then c.inbox.filter (fun x => x.1 != vc) else c.inbox) ++ [(vc, n, m)] })

/-- The payload of an accepted DATA frame joins its channel's message (R399, R402). -/
def State.assemble (s : State) (vc : Nat) (som eom : Bool) (p : Bytes) : State :=
  if vc != 7 && !s.session then s
  else
    let old := Tab.find s.crl.opened vc
    if !som && old.isNone then (s.freeFrames vc 1).msgFault vc []
    else
      let s := match som, old with
        | true, some o => ((s.updCrl (fun c => { c with opened := Tab.del c.opened vc })).freeFrames vc o.1).msgFault vc o.2
        | _, _ => s
      let n := if som then 1 else (old.map (·.1)).getD 0 + 1
      let m := if som then p else (old.map (·.2)).getD [] ++ p
      let mlen := leAt m 4 4
      if (som && (p.length < 16 || mlen < 16 || 2105504 < mlen || !mlenOk (leAt m 0 1) mlen)) || mlen < m.length || (eom && m.length < mlen) then
        ((s.updCrl (fun c => { c with opened := Tab.del c.opened vc })).freeFrames vc n).msgFault vc m
      else if eom then s.putMsg vc n m
      else s.updCrl (fun c => { c with opened := Tab.put c.opened vc (n, m) })

/-- A good DATA frame is accepted in order, or discarded (R393). -/
def State.dataFrame (s : State) (b : Bytes) : State :=
  let exp := s.get F.CRL_SEQ_RX_EXP
  let q := fSeq b
  if q == exp then
    let s := (s.set F.CRL_SEQ_RX_EXP (exp + 1)).updCrl (fun c => { c with lastAck := q, nakAt := none })
    let p := slice b 10 (fLen b)
    (s.inc F.CRL_RX_BYTES_COUNT p.length).assemble (fVc b) (bit (fFc b) 9) (bit (fFc b) 10) p
  else if (exp + 2 ^ 24 - q) % 2 ^ 24 < 2 ^ 23 then s
  else s.nak

/-- One frame has been replayed once more without progress: at REPLAY_MAX the link goes down (R394). -/
def State.countReplay (s : State) : State :=
  let n := s.crl.replays + 1
  let s := s.updCrl (fun c => { c with replays := n })
  if max 1 (s.get F.CRL_TIMERS_REPLAY_MAX) ≤ n then
    (((s.setb F.CRL_ERR_REPLAY_LIM true).recordMs 0x0404 []).updCrl (fun c => { c with replays := 0 })).crlDown
  else s

/-- A good NAK: every held frame after its ACK is sent again, before any new one. -/
def State.nakFrame (s : State) : State := if s.crl.replay.isEmpty then s else s.replayAll.countReplay

/-- Uncorrectable codewords are counted (R388). -/
def State.fecUnc (s : State) (n : Nat) : State :=
  if n == 0 then s else ((s.incSat F.CRL_FEC_UNC_COUNT n).setb F.CRL_ERR_FEC_UNC true).recordMs 0x040F []

/-- A frame arrives. `corr` codewords were corrected that first came with it; `unc` says it has a bit in an uncorrectable codeword, and how many of
those first came with it (R388). What was held back goes once the frame has been answered. -/
def State.frame (s : State) (kind : Nat) (b : Bytes) (corr : Nat) (unc : Option Nat) : State :=
  if !s.getb F.CRL_STS_LINK_UP then s
  else
    let s := s.inc F.CRL_FEC_CORR_COUNT corr
    let s := s.fecUnc (unc.getD 0)
    if unc.isSome || frameCorrupt b then s.nak
    else if fKind b != kind then s
    else
      let s := s.ackCredit b
      (if kind == 1 then s.dataFrame b else if kind == 2 then s.nakFrame else s).pump

/-- IDLE_FRAME, DATA_FRAME, NAK_FRAME: the 270 bytes of a frame of that KIND. -/
def execIdleFrame (b : Bytes) (corr : Nat) (unc : Option Nat) (s : State) : Res := .next (s.frame 0 b corr unc)
def execDataFrame (b : Bytes) (corr : Nat) (unc : Option Nat) (s : State) : Res := .next (s.frame 1 b corr unc)
def execNakFrame (b : Bytes) (corr : Nat) (unc : Option Nat) (s : State) : Res := .next (s.frame 2 b corr unc)

/-- REPLAY_TIMEOUT: the oldest held frame has waited REPLAY_TO (R394). -/
def execReplayTimeout (s : State) : Res :=
  .next (if s.getb F.CRL_STS_LINK_UP && !s.crl.replay.isEmpty && s.crl.replayAt + 10 * max 1 (s.get F.CRL_TIMERS_REPLAY_TO) ≤ s.cyc then
    s.replayAll.countReplay else s)

/-! ### Messages processed -/

/-- The oldest message of a channel that has an MTYPE leaves the inbox, and its frames are freed. -/
def State.takeMsg (s : State) (vc mtype : Nat) : Option (State × Bytes) :=
  match s.crl.inbox.find? (fun x => x.1 == vc) with
  | some (v, n, m) =>
    if leAt m 0 1 == mtype && s.released dCrl then
      some ((s.updCrl (fun c => { c with inbox := c.inbox.erase (v, n, m) })).freeFrames vc n, m)
    else none
  | none => none

/-- Process a sealed message: one whose tag fails is discarded (R400). MIR and REQ messages wait in Banked, which they end (R476), and in
phase 2 of a Quench (R521). -/
def State.receive (s : State) (vc mtype : Nat) (eff : State → Bytes → State) : State :=
  if (vc == 0 || vc == 2) && (s.md == mBanked || s.qphase == 2) then s
  else match s.takeMsg vc mtype with
    | none => s
    | some (t, m) =>
      match t.crlOpen m with
      | some body => eff t body
      | none => (t.setb F.CRL_ERR_AUTH_FAIL true).recordMs 0x0409 []

/-- HELLO: a HELLO is processed. -/
def execHello (s : State) : Res :=
  .next (match s.takeMsg 7 0x60 with
    | some (t, m) => t.helloSeen (m.drop 16)
    | none => s)

/-- HELLO_REPEAT: HELLO is sent again 1 ms after the last while the partner's has not come, and 1 s after it once the join was refused. -/
def execHelloRepeat (s : State) : Res :=
  let gap := if s.crl.refused then sec 1 else ms 1
  .next (if s.getb F.CRL_STS_LINK_UP && !s.session && (s.crl.refused || s.crl.hello.isNone) && s.crl.helloAt + gap ≤ s.cyc then s.sendHello else s)

/-- PROOF: a PROOF is processed; its MAC verified brings the session up. -/
def execProof (s : State) : Res :=
  .next (match s.takeMsg 7 0x61 with
    | none => s
    | some (t, m) =>
      match t.crl.hello with
      | none => t
      | some h =>
        if t.session then t
        else if slice m 16 32 == t.proofMac h.head h.nonce then t.sessionUp h
        else t.refuseJoin 5)

/-- JOIN_REFUSE: the partner refuses the join; nothing is asked of the head. -/
def execJoinRefuse (s : State) : Res :=
  .next (match s.takeMsg 7 0x62 with
    | some (t, _) => t
    | none => s)

end Sys2Proof.Machine
end

