-- ==== Sys2Proof/Machine/Mirror.lean ====
section
/-! DEFINITION. The messages of a session (R401): mirroring (R407-R411), forwarding (R412, R413), index and staging requests, mailbox
messages, heartbeats (R414-R417, R429) and the fence (R419, R420). -/

namespace Sys2Proof.Machine

/-- Cut bytes into `n` pieces of 16. -/
def entries16 : Nat → Bytes → List Bytes
  | 0, _ => []
  | n + 1, b => b.take 16 :: entries16 n (b.drop 16)

/-- The payload that ends a body whose first `base` bytes come before digests and granules (R401). -/
def granulesOf (base : Nat) (body : Bytes) : Bytes := body.drop (base + (body.length - base) / 4112 * 16)

/-! ### The fence (R417, R419, R420) -/

/-- Send a FENCE. -/
def State.sendFence (s : State) (reason : Nat) : State :=
  let s := s.crlSend 6 0x50 ([BitVec.ofNat 8 (1 - s.head), BitVec.ofNat 8 reason] ++ zeroBytes 6 ++ s.arrayId ++ leBytes 8 s.now)
  (s.set F.CRL_FENCE_RESULT 0).recordMs 0x040A (w1 reason)

/-- Head A sends FENCE; either head takes the link down (R417). -/
def State.cutLink (s : State) (reason : Nat) : State := (if s.head == 0 then s.sendFence reason else s).crlDown

/-- A write to CRL_FENCE (R419). -/
def State.writeFence (s : State) (v : Nat) : State :=
  let s := s.set F.CRL_FENCE_REASON v
  if !bit v 31 then s
  else if s.session then s.sendFence (v % 256)
  else s.set F.CRL_FENCE_RESULT 1

/-- FENCE_SEND: a write to CRL_FENCE; GO is bit 31, REASON bits 7 to 0. -/
def execFenceSend (r : Req) (value : Nat) (s : State) : Res := .next (s.withWrite r R.CRL_FENCE (fun s => s.writeFence value))

/-- FENCE: a FENCE is processed. One that fails a check other than its tag is discarded and nothing more. -/
def execFence (s : State) : Res :=
  .next (match s.takeMsg 6 0x50 with
    | none => s
    | some (t, m) =>
      match t.crlOpen m with
      | none => (t.setb F.CRL_ERR_AUTH_FAIL true).recordMs 0x0409 []
      | some b =>
        let ivc := leAt m 8 8
        if leAt b 0 1 == t.head && slice b 8 8 == t.arrayId && t.crl.fenceIvc < ivc then
          ((t.updCrl (fun c => { c with fenceIvc := ivc })).recordMs 0x040B []).assertSrc .fence .computeDie
        else t)

/-! ### Mirror copies (R408, R409) -/

/-- MIR messages are processed: not while MIRI waits for credit, nor while the journal ring is stopped (R398). -/
def State.mirOpen (s : State) : Bool :=
  !s.pool.waiting.any (fun w => w.chan == 2) && !s.getb F.JNL_STS_STOP && !s.jnl.waiting.any (fun r => r.mirror)

/-- A fresh number under which the pool knows what comes from the partner. -/
def State.freshId (s : State) : State := s.updBel (fun b => { b with nextId := b.nextId + 1 })

/-- MIR_DATA: the payload of a MIR_DATA takes MIRI grates; program 0x0004 checks it once it has them. -/
def execMirData (s : State) : Res :=
  .next (if !s.mirOpen || (s.chooseStove 4 5).isNone || s.md == mBanked || s.qphase == 2 then s
  else match s.takeMsg 0 1 with
    | none => s
    | some (t, m) =>
      let id := t.bel.nextId
      let t := t.freshId.updCrl (fun c => { c with mirIn := Tab.put c.mirIn id (m, false) })
      (t.requestN { chan := 2, user := cmdUser id, atime := (mirRec (t.plain m)).atime } (mirGranules m)).runGranted)

/-- The record of a MIR_REC agrees with its PDIG. -/
def recDigestOk (body : Bytes) : Bool :=
  let r := mirRec body
  (sha256 ((unlines (leAt body 17 1 % 16) (body.drop 64)).drop 8)).take 16 == r.pdig

/-- MIR_REC: its PDIG is checked and its record written. -/
def execMirRec (s : State) : Res :=
  .next (if !s.mirOpen then s
  else s.receive 0 2 (fun s body =>
    let r := mirRec body
    match s.rec? true r.origin r.seq with
    | some old => s.mirrorAgain old
    | none =>
      if recDigestOk body then s.freshId.mirrorRecord r s.bel.nextId [] else s.mcommit r.origin r.seq 1 0))

/-- The command forwarded under an FTAG. -/
def State.forwarded? (s : State) (tag : Nat) : Option Cmd := (s.cmd? tag).filter (fun c => c.stage == .forwarded)

/-- MIR_REF: the record of a write this head forwarded is checked against the payload it holds and written over its own grates. -/
def execMirRef (s : State) : Res :=
  .next (if !s.mirOpen then s
  else s.receive 0 3 (fun s body =>
    let r := mirRec body
    match s.rec? true r.origin r.seq with
    | some old => s.mirrorAgain old
    | none =>
      match s.forwarded? (leAt body 128 8) with
      | some c =>
        if c.kind == .write && (sha256 c.payload).take 16 == r.pdig then
          let r := { r with mirror := true, tag := c.id, loc := c.list }
          (s.updJnl (fun j => { j with staging := Tab.put j.staging r.key c.payload })).postRec r
        else s.mcommit r.origin r.seq 4 0
      | none => s.mcommit r.origin r.seq 4 0))

/-! ### Owner's side (R409-R411) -/

/-- Every record of a write-class command has its MCOMMIT OK. -/
def State.allAcked (s : State) (tag : Nat) : Bool :=
  !(s.jnl.recs ++ s.jnl.waiting).any (fun r => !r.mirror && r.type ≤ 2 && r.tag == tag && !r.acked)

/-- MCOMMIT OK for a record. -/
def State.mirrorOk (s : State) (r : JRec) : State :=
  let s := s.updCrl (fun c => { c with mirWait := Tab.del c.mirWait r.key })
  let s := s.updJnl (fun j => { j with recs := j.recs.map (fun x => if x.is r.mirror r.origin r.seq then { x with acked := true } else x) })
  if r.type ≤ 2 then (if s.allAcked r.tag then s.updCmd r.tag (fun c => { c with mirDone := true }) else s)
  else
    let s := if r.committed then s.idxCommitted r.tag else s
    match r.body with
    | .owner o => if o.op == 5 then s.handOver else s
    | _ => s

/-- A compare failure of a record: it is sent again, and RETRY + 1 of them in a row are a fault of the partner (R410, R417). -/
def State.mirrorFail (s : State) (r : JRec) (w : MirWait) : State :=
  let s := (s.incSat F.CRL_MIR_CMP_CNT_COUNT 1).mirrorSend r (w.fails + 1)
  if s.get F.CRL_MIR_CFG_RETRY + 1 ≤ w.fails + 1 && !s.getb F.CRL_STS_PFAULT then
    (((s.setb F.CRL_STS_PFAULT true).setb F.CRL_ERR_MIR_MISMATCH true).recordMs 0x0407 (w1 r.origin ++ w2 r.seq)).cutLink 2
  else s

/-- One MCOMMIT entry. -/
def State.mcommitSeen (s : State) (e : Bytes) : State :=
  match s.rec? false (leAt e 8 1) (leAt e 0 8) with
  | none => s
  | some r =>
    match Tab.find s.crl.mirWait r.key with
    | none => s
    | some w => if leAt e 9 1 == 0 then s.mirrorOk r else s.mirrorFail r w

/-- MCOMMIT: mirror commits are reported. -/
def execMcommit (s : State) : Res :=
  .next (s.receive 1 0x10 (fun s body => (entries16 (body.length / 16) body).foldl State.mcommitSeen s))

/-- COMMIT_TIMEOUT: a mirrored record has no MCOMMIT within COMMIT_TO and is sent again. -/
def execCommitTimeout (origin seq : Nat) (s : State) : Res :=
  .next (match s.rec? false origin seq with
    | none => s
    | some r =>
      match Tab.find s.crl.mirWait r.key with
      | none => s
      | some w => if s.session && w.sentAt + us (max 1 (s.get F.CRL_MIR_CFG_COMMIT_TO)) ≤ s.cyc then s.mirrorSend r w.fails else s)

/-- One RETIRE entry: the mirror copy is gone, and its payload's grates are free. -/
def State.retireSeen (s : State) (e : Bytes) : State :=
  match s.rec? true (leAt e 8 1) (leAt e 0 8) with
  | none => s
  | some r => (s.eraseRec r).freeUser (cmdUser r.tag)

/-- RETIRE: the named mirror copies retire. -/
def execRetire (s : State) : Res :=
  .next (s.receive 1 0x11 (fun s body => (entries16 (body.length / 16) body).foldl State.retireSeen s))

/-! ### Forwarding (R412) -/

/-- The checks of R591 that the owner makes of a forwarded command. -/
def State.ownerCheck (s : State) (c : Cmd) : Option Ending :=
  if s.getb F.BEL_STS_SANITIZING then some { sc := 0x1D, ring := 0x0E }
  else if s.bel.sanitizeFail then some { sc := 0x1C, ring := 0x0E }
  else match s.volCheck c.vol with
    | some e => some e
    | none => s.lateCheck c.vol c.pgm c.kind true

/-- FWD_CMD: the owner runs a command the partner fetched. A cut not above its AT is taken first (R432). It takes its sequence, with its own AT, and MIRI grates for its payload. -/
def execFwdCmd (s : State) : Res :=
  .next (s.receive 2 0x20 (fun s b =>
    let s := s.cutFor (leAt b 8 8)
    let len := leAt b 24 4
    let opc := leAt b 30 1
    let port := leAt b 31 1
    let c : Cmd := { id := s.bel.nextId, port := port % 2, ring := bit port 7, queue := 0, cid := 0
                     kind := if opc == 1 then .write else if opc == 2 then .read else .dealloc
                     vol := leAt b 28 2, lba := leAt b 16 8, len, pgm := leAt b 32 2, irq := false, atime := leAt b 8 8, seq := 0, chead := 0
                     stage := .landing, slot := 0, ranges := if opc == 3 then [(leAt b 16 8, len / 4096)] else []
                     payload := if opc == 1 then granulesOf 48 b else [], foreign := some (leAt b 0 8) }
    match s.ownerCheck c with
    | some e => ((s.noteCapacity c.vol e).newCmd c).finish c e
    | none => (s.newCmd c).launchCmd c))

/-- What an owner's answer means for the command that was forwarded. -/
def State.fwdDone (s : State) (c : Cmd) (seq status : Nat) (data : Bytes) : State :=
  let e : Ending := if c.ring then { ring := status } else { sct := bits status 8 3, sc := status % 256 }
  if status != 0 then
    if c.kind == .read then (if c.ring then s.failRead c 2 0x81 else s.abandon c e)
    else if c.kind == .write then s.abandon { c with seq } e
    else s.finish { c with seq } e
  else if c.kind == .read then s.deliver c data
  else if c.kind == .write then s.finish { c with seq } { e with count := c.len }
  else if c.ranges.length ≤ 1 then s.finish { c with seq } { e with count := c.len }
  else
    let c := { c with ranges := c.ranges.drop 1 }
    (s.updCmd c.id (fun _ => c)).forward c 3

/-- FWD_DONE: the owner's status and sequence end a forwarded command; writes that waited to be forwarded may go (R434). -/
def execFwdDone (s : State) : Res :=
  .next (s.receive 3 0x28 (fun s b =>
    match s.forwarded? (leAt b 0 8) with
    | some c => (s.fwdDone c (leAt b 8 8) (leAt b 16 2) (b.drop 24)).releaseHeld
    | none => s))

/-- IDX_REQ: an index request of the partner runs on the holder of its half. `image` is what its bucket is read as where that is not as it was
written. -/
def execIdxReq (image : Option Bytes) (s : State) : Res := .next (s.receive 2 0x21 (fun s b => s.idxRoute (reqOfPartner b image)))

/-- IDX_RSP: the answer to a forwarded index request ends it. -/
def execIdxRsp (s : State) : Res :=
  .next (s.receive 3 0x29 (fun s b =>
    let tag := leAt b 0 8
    match Tab.find s.ddx.fwd tag with
    | some r => (s.updDdx (fun d => { d with fwd := Tab.del d.fwd tag })).idxEnd r (slice b 16 128) (leAt b 8 1) (leAt b 9 1)
    | none => s))

/-- STAGE_GET: the partner asks for the staged payload of a record (R379). -/
def execStageGet (s : State) : Res :=
  .next (s.receive 2 0x22 (fun s b =>
    let origin := leAt b 16 1
    let seq := leAt b 8 8
    let head (status : Nat) : Bytes := slice b 0 8 ++ [BitVec.ofNat 8 status] ++ zeroBytes 7
    match (s.rec? true origin seq).orElse (fun _ => s.rec? false origin seq) with
    | none => s.crlSend 3 0x2A (head 2)
    | some r =>
      match Tab.find s.jnl.staging r.key with
      | none => s.crlSend 3 0x2A (head 1)
      | some p => s.crlSend 3 0x2A (head 0 ++ granuleDigests (p.length / 4096) p ++ p)))

/-- STAGE_DATA: the answer settles the record it was asked for (R379, R461). -/
def execStageData (s : State) : Res :=
  .next (s.receive 3 0x2A (fun s b =>
    let tag := leAt b 0 8
    match Tab.find s.crl.stageOut tag with
    | none => s
    | some key =>
      let s := s.updCrl (fun c => { c with stageOut := Tab.del c.stageOut tag })
      match s.jnl.recs.find? (fun r => r.key == key) with
      | some r => s.settle r (leAt b 8 1) (granulesOf 16 b)
      | none => s.settledRec key))

/-- REJECT: a request of this head was faulted; it is sent again. -/
def execReject (s : State) : Res :=
  .next (s.receive 3 0x2B (fun s b =>
    let tag := leAt b 0 8
    match leAt b 8 1 with
    | 0x20 =>
      match s.forwarded? tag with
      | some c => s.forward c c.opc
      | none => s
    | 0x21 =>
      match Tab.find s.ddx.fwd tag with
      | some r => s.idxAsk tag r
      | none => s
    | 0x22 =>
      match (Tab.find s.crl.stageOut tag).bind (fun key => s.jnl.recs.find? (fun r => r.key == key)) with
      | some r => (s.updCrl (fun c => { c with stageOut := Tab.del c.stageOut tag })).askStage r
      | none => s
    | _ => s))

/-- MBX_MSG: a mailbox message of the partner is posted by agent 9 or dropped (R550). The message carries no CODE: it is a free value. -/
def execMbxMsg (s : State) : Res :=
  .next (s.receive 4 0x30 (fun s b =>
    let c := leAt b 0 1
    if 31 < c || !s.getb (F.MBX_CFG_EN c) || !s.bitOf (F.MBX_CFG_SENDERS c) 9 then (s.setb F.MBX_ERR_PEER_DROP true).recordMs 0x0D06 []
    else (s.taken 1).post 9 c (s.freeValue.toNat % 2 ^ 16) (slice b 8 64)))

/-! ### Heartbeats (R414, R415, R417, R429) -/

/-- HB_GRACE in AT counts. -/
def State.hbGrace (s : State) : Nat := 100 * max 1 (min 19 (s.get F.CRL_TIMERS_HB_GRACE))

/-- The AT by which the heartbeat of a slot must arrive. -/
def State.hbDeadline (s : State) (slot : Nat) : Nat := 2000 * slot + s.hbGrace

/-- The skew of a heartbeat is shown, and disciplines AT when SRC is PARTNER (R425, R429). -/
def State.hbSkew (s : State) (at_ : Nat) : State :=
  let e : Int := (s.now : Int) - at_ - s.linkDly
  let s := s.set F.TICK_SKEW_VALUE (sat32 e)
  let s := if e.natAbs > s.get F.TICK_LIMITS_SKEW_MAX then
      ((s.setb F.TICK_ERR_SKEW true).incSat F.TICK_SKEW_CNT_COUNT 1).recordMs 0x0E06 (w1 (sat32 e))
    else s
  if s.get F.TICK_CTL_SRC == 3 && s.tick.loaded then s.correct false e else s

/-- HEARTBEAT: a heartbeat is processed. -/
def execHeartbeat (s : State) : Res :=
  .next (s.receive 5 0x40 (fun s b =>
    let slot := leAt b 0 8
    let s := if s.now ≤ s.hbDeadline slot then (s.set F.CRL_STS_MISS 0).updCrl (fun c => { c with hbGot := slot :: c.hbGot }) else s
    (s.hbSkew (leAt b 8 8)).partnerByte (leAt b 16 1)))

/-- HEARTBEAT_SEND: the AT copy reaches a multiple of 2,000. -/
def execHeartbeatSend (s : State) : Res :=
  let slot := s.now / 2000
  .next (if s.session && s.crl.hbSent < slot then
    (s.updCrl (fun c => { c with hbSent := slot })).crlSend 5 0x40
      (leBytes 8 slot ++ leBytes 8 s.now ++ [BitVec.ofNat 8 s.modeByte] ++ zeroBytes 7 ++ leBytes 4 s.dirtyMiB ++ zeroBytes 4)
  else s)

/-- HEARTBEAT_MISS: the deadline of the slot judged next has come. Four misses with the link up cut it. -/
def execHeartbeatMiss (s : State) : Res :=
  .next (if !s.crl.watch || s.now < s.hbDeadline s.crl.hbNext then s
  else
    let k := s.crl.hbNext
    let got := s.crl.hbGot.contains k
    let s := s.updCrl (fun c => { c with hbNext := k + 1, hbGot := c.hbGot.filter (fun x => k < x) })
    if got then s
    else
      let was := s.get F.CRL_STS_MISS
      let s := ((s.set F.CRL_STS_MISS (min 7 (was + 1))).setb F.CRL_ERR_HB_MISS true).recordMs 0x0405 []
      if was == 3 && s.session && s.getb F.CRL_STS_LINK_UP && !s.getb F.CRL_STS_PFAULT then s.cutLink 1 else s)

end Sys2Proof.Machine
end

