-- ==== Sys2Proof/Machine/Failover.lean ====
section
/-! DEFINITION. Loss of the partner (R416, R418, R474), lockstep pairs (R448-R455) and failback (R462-R468). -/

namespace Sys2Proof.Machine

/-! ### The partner is lost (R416, R418, R474) -/

/-- What the loss means for a head in Duplex. -/
def State.duplexLost (s : State) : State :=
  if !s.modeAllowed mSolo then s.assertSrc .noSolo .computeDie
  else if s.head == 0 then s.beginTakeover 6
  else s.updCrl (fun c => { c with arbAt := some (s.cyc + us (s.get F.CRL_CTL_ARB_DELAY)) })

/-- What the loss means by mode. -/
def State.lossByMode (s : State) : State :=
  if s.md == mJoining then (s.record 0x0F13 []).assertSrc .joinLost .computeDie
  else if s.md == mDuplex then s.duplexLost
  else if s.md == mSweep && s.mode.sweepFrom == mDuplex then { s with mode := { s.mode with soloAfterSweep := true } }
  else s

/-- PARTNER_LOST: the partner is declared lost. No transition takes place in phase 2 of a Quench (R479). -/
def execPartnerLost (s : State) : Res :=
  .next (if !s.lostDue || s.qphase == 2 then s
  else
    let s := s.endSession.updCrl (fun c => { c with watch := false, endedByHello := false, hbGot := [] })
    let s := (s.setb F.CRL_STS_LOST true).recordMs 0x0406 []
    let s := if s.mode.bankedEntry then s.entryClosed else s
    let s := if s.md == mBanked then s.leaveBanked else s
    s.lossByMode)

/-- ARB_DELAY_EXPIRE: head B's delay ends and it preempts the partner on its drives. -/
def execArbDelayExpire (s : State) : Res :=
  .next (match s.crl.arbAt with
    | none => s
    | some t =>
      if s.cyc < t || s.md != mDuplex || s.qphase == 2 then s
      else
        let s := s.updCrl (fun c => { c with arbAt := none })
        if s.anyDrive then s.preemptAll.updCrl (fun c => { c with arbWait := true }) else s.beginTakeover 6)

/-- ARB_RESULT: the first drive answers the Reservation Acquire: success, or Reservation Conflict. -/
def execArbResult (x : ArbAnswer) (s : State) : Res :=
  .next (if !s.crl.arbWait || s.qphase == 2 then s
  else
    let s := s.updCrl (fun c => { c with arbWait := false })
    if x.conflict then ((s.setb F.CRL_ERR_ARB_LOST true).recordMs 0x040E []).assertSrc .arbLost .computeDie
    else
      let s := if s.getb F.CRL_STS_LOST then s.recordMs 0x040D [] else s
      (if s.and.takeoverAt.isSome then s else s.startTakeover 6).finishTakeover x.ckpt)

/-! ### Pairs (R448-R453) -/

/-- The slot a pair serves. -/
def State.slotOf (s : State) (p : Nat) : Option Nat := (List.range 8).find? (fun k => s.pairOf k == p)

/-- Which pair serves a slot; 15 for none. -/
def State.mapSlot (s : State) (k p : Nat) : State := s.set F.AND_MAP_PAIR (s.get F.AND_MAP_PAIR - s.pairOf k * 16 ^ k + p * 16 ^ k)

/-- A fault of a pair is counted. -/
def State.pairFault (s : State) (p state : Nat) : State :=
  ((s.set (F.AND_PAIR_STS_FLT p) (min 3 (s.get (F.AND_PAIR_STS_FLT p) + 1))).set (F.AND_PAIR_STS_STATE p) state).degradeUnit (19 + p) true

/-- There is no spare any more. -/
def State.noSpare (s : State) : State := (s.set F.AND_STS_SPARE 15).setb F.AND_STS_SPARE_OK false

/-- The spare serves slot `k` from now on, started with the cause given (R451); the slot's watchdog counter restarts (R539). -/
def State.promote (s : State) (k cause : Nat) : State :=
  let p := s.get F.AND_STS_SPARE
  let s := (((s.noSpare.mapSlot k p).set (F.AND_PAIR_STS_STATE p) 1).set (F.AND_PAIR_STS_SLOT p) k).wdtKick k
  let s := (s.setb F.AND_ERR_PROMOTE true).record 0x0302 (w1 p ++ w1 k)
  (s.setBitOf F.DMP_STS_PARKED 3 false).emit (.hartStart k (4 * s.get F.AND_RESTART_VEC_ADDR) k cause)

/-- The running self-test has failed (R454). -/
def State.testFailed (s : State) (p : Nat) : State :=
  ((s.noSpare.pairFault p 5).setb F.AND_ERR_ST_FAIL true).record 0x0304 (w1 p ++ w1 (s.get (F.AND_PAIR_STS_SLOT p)))

/-- LOCKSTEP_MISMATCH: the outputs of pair `p` differ. A mismatch of a pair under test fails its test. -/
def execLockstepMismatch (p : Nat) (s : State) : Res :=
  let st := s.get (F.AND_PAIR_STS_STATE p)
  .next (if !s.released dHrt then s
  else if st == 3 then s.testFailed p
  else if st == 2 then ((s.noSpare.pairFault p 4).setb F.AND_ERR_MISMATCH true).record 0x0301 (w1 p ++ w1 (s.get (F.AND_PAIR_STS_SLOT p)))
  else match s.slotOf p with
    | none => s
    | some k =>
      let s := (((s.pairFault p 4).mapSlot k 15).setb F.AND_ERR_MISMATCH true).record 0x0301 (w1 p ++ w1 k)
      let s := if s.and.rotating.any (fun r => r.1 == k) then s.updAnd (fun a => { a with rotating := none }) else s
      if s.get F.AND_STS_SPARE != 15 then s.promote k 1
      else ((s.set F.AND_STS_ACTIVE (s.get F.AND_STS_ACTIVE - 1)).record 0x0303 (w1 p ++ w1 k)).assertSrc .doubleFault .computeDie)

/-! ### Self-test and rotation (R454, R455) -/

/-- The modes in which spare self-test and rotation run (R473). -/
def State.spareRuns (s : State) : Bool := s.md == mJoining || s.md == mDuplex || s.md == mSolo || s.md == mSweep

/-- The multiples of AT at which they are due. -/
def stPeriod : Nat := 25000000
def rotPeriod : Nat := 360000000000

/-- SPARE_SELF_TEST: the AT copy reaches a multiple of 250 ms. In Kindling and Banked the test is skipped. -/
def execSpareSelfTest (s : State) : Res :=
  let k := s.now / stPeriod
  .next (if k ≤ s.and.stMark then s
  else
    let p := s.get F.AND_STS_SPARE
    let s := s.updAnd (fun a => { a with stMark := k })
    if s.getb F.AND_CTL_ST_EN && s.spareRuns && p != 15 && s.get (F.AND_PAIR_STS_STATE p) == 2 then s.set (F.AND_PAIR_STS_STATE p) 3 else s)

/-- SELF_TEST_DONE: the spare's self-test ends. -/
def execSelfTestDone (pass : Bool) (s : State) : Res :=
  let p := s.get F.AND_STS_SPARE
  .next (if p == 15 || s.get (F.AND_PAIR_STS_STATE p) != 3 then s
  else if pass then ((s.set (F.AND_PAIR_STS_STATE p) 2).setb F.AND_STS_SPARE_OK true).incSat F.AND_ST_CNT_COUNT 1
  else s.testFailed p)

/-- The slot that rotates next: the next occupied one after the last, in ascending cyclic order. -/
def State.nextRot (s : State) : Option Nat :=
  let from_ := match s.and.lastRot with
    | some k => k + 1
    | none => 0
  ((List.range 8).map (fun i => (from_ + i) % 8)).find? (fun k => s.pairOf k != 15)

/-- A takeover or a hand-over runs. -/
def State.passing (s : State) : Bool :=
  s.and.takeoverAt.isSome || s.get F.AND_FB_CTL_STATE == 2 || s.get F.AND_FB_CTL_STATE == 3

/-- ROTATION: the AT copy reaches a full hour and the device asks the next slot to rotate out. -/
def execRotation (s : State) : Res :=
  let k := s.now / rotPeriod
  .next (if k ≤ s.and.rotMark then s
  else
    let s := s.updAnd (fun a => { a with rotMark := k })
    if s.getb F.AND_CTL_ROT_EN && s.getb F.AND_STS_SPARE_OK && s.spareRuns && !s.passing && s.and.rotating.isNone then
      s.updAnd (fun a => { a with rotating := s.nextRot.map (fun x => (x, s.cyc)) })
    else s)

/-- A write to AND_ROT_ACK (R455): the spare takes the slot, and the outgoing pair is the spare and under test. -/
def State.writeRotAck (s : State) (v : Nat) : State :=
  match s.and.rotating with
  | none => s
  | some (k, _) =>
    if v % 8 != k || s.get F.AND_STS_SPARE == 15 then s
    else
      let old := s.pairOf k
      let s := (s.updAnd (fun a => { a with rotating := none, lastRot := some k })).promote k 2
      ((s.set F.AND_STS_SPARE old).set (F.AND_PAIR_STS_STATE old) 3).record 0x0305 (w1 old ++ w1 k)

/-- ROT_ACK: a write to AND_ROT_ACK; SLOT is bits 2 to 0. -/
def execRotAck (r : Req) (value : Nat) (s : State) : Res := .next (s.withWrite r R.AND_ROT_ACK (fun s => s.writeRotAck value))

/-- ROT_TIMEOUT: no acknowledgement within 10 ms skips the rotation. -/
def execRotTimeout (s : State) : Res :=
  .next (match s.and.rotating with
    | some (k, t) =>
      if t + ms 10 ≤ s.cyc then
        ((s.updAnd (fun a => { a with rotating := none })).setb F.AND_ERR_ROT_SKIP true).record 0x0306 (w1 (s.pairOf k) ++ w1 k)
      else s
    | none => s)

/-! ### Failback (R463-R468) -/

/-- The conditions of R463, on a head that joins or that was refused or whose hand-over was aborted. -/
def State.mayAsk (s : State) : Bool :=
  (s.md == mJoining || (s.md == mDuplex && !s.and.survivor && (s.get F.AND_FB_CTL_STATE == 4 || s.get F.AND_FB_CTL_STATE == 5))) &&
  s.session && s.recovered && s.and.settling.isEmpty && !s.bitOf F.DDX_STS_REBUILD s.head && s.bel.seqNext < 2 ^ 62

/-- The block the next sequence lies in is committed as the high-water mark, when it is not yet (R113, R370). -/
def State.openBlock (s : State) : State :=
  if s.bel.seqNext < s.bel.blockEnd then s
  else
    let e := blockTop s.bel.seqNext
    (s.updBel (fun b => { b with blockEnd := e })).saveHwm e

/-- A write to AND_FB_CTL. -/
def State.writeFbCtl (s : State) (v : Nat) : State :=
  let s := s.setb F.AND_FB_CTL_INHIBIT (bit v 31)
  if bit v 30 && !s.getb F.AND_FB_CTL_READY && s.mayAsk then
    let s := ((s.setb F.AND_FB_CTL_READY true).setFb 1 0).openBlock
    (s.commitOwner (s.ownerBody 2 (1 - s.head) s.head)).recordAnd 0x0308 []
  else s

/-- FAILBACK_READY: a write to AND_FB_CTL; READY is bit 30, INHIBIT bit 31. -/
def execFailbackReady (r : Req) (value : Nat) (s : State) : Res := .next (s.withWrite r R.AND_FB_CTL (fun s => s.writeFbCtl value))

/-- GRAN of ACCEPT in ms. -/
def State.fbGran (s : State) : Nat := 10 * max 1 (s.get F.AND_FB_CFG_GRAN)

/-- FAILBACK_ACCEPT: no record the survivor committed with MIRROR = 1 is live any more, and it accepts or refuses. -/
def execFailbackAccept (s : State) : Res :=
  .next (if !s.and.acceptPending || !s.session || !s.ownerReady || s.qphase == 2 || s.jnl.recs.any (fun r => !r.mirror && r.unmirrored) then s
  else
    let s := s.updAnd (fun a => { a with acceptPending := false })
    let o := s.ownerBody 3 s.head (1 - s.head)
    if s.getb F.AND_FB_CTL_INHIBIT then
      ((s.setFb 4 0).commitOwner { o with op := 4 }).recordAnd 0x030B []
    else
      let delay := s.get F.AND_FB_CFG_DELAY
      let tb := handoverTb s.now delay s.fbGran
      (s.setFb 2 tb).commitOwner { o with delay, gran := s.fbGran, tb })

/-- HANDOVER_BOUNDARY: the AT copy reaches TB. -/
def execHandoverBoundary (s : State) : Res :=
  let tb := s.get F.AND_FB_TB_VALUE
  .next (if s.get F.AND_FB_CTL_STATE == 2 && tb != 0 && tb ≤ s.now && s.qphase != 2 then s.setFb 3 tb else s)

/-- FAILBACK_DONE: every command for a moving volume admitted below TB has completed and the survivor commits DONE. SEQ_FLOOR, which only the
joiner can know, is a free value. -/
def execFailbackDone (s : State) : Res :=
  let tb := s.get F.AND_FB_TB_VALUE
  let j := 1 - s.head
  .next (if !s.and.survivor || s.get F.AND_FB_CTL_STATE != 3 || s.donePending || !s.session || !s.ownerReady || s.qphase == 2 ||
      s.bel.cmds.any (fun c => !c.dead && s.moving c.vol && c.atime < tb) then s
  else
    let floor := s.freeValue.toNat
    let s := s.taken 1
    s.commitOwner { s.ownerBody 5 s.head j with halves := clrBit s.and.halves j, epoch := s.get F.AND_EPOCH_VALUE + 1, floor, tb })

/-- The hand-over is over without a change of owner. -/
def State.fbAborted (s : State) : State :=
  (((s.setFb 5 0).setb F.AND_ERR_FB_ABORT true).setb F.AND_FB_CTL_READY false).recordAnd 0x030A []

/-- FAILBACK_ABORT: DONE does not come within TO of TB, or the session ends first. -/
def execFailbackAbort (s : State) : Res :=
  let st := s.get F.AND_FB_CTL_STATE
  let tb := s.get F.AND_FB_TB_VALUE
  let late := tb != 0 && tb + ms (max 1 (s.get F.AND_FB_CFG_TO)) ≤ s.now
  .next (if !(1 ≤ st && st ≤ 3) || s.qphase == 2 || !(s.md == mDuplex || s.md == mBanked) || s.crl.arbAt.isSome || s.crl.arbWait then s
  else if s.and.survivor then
    if (late || !s.session) && !s.donePending && s.ownerReady then
      let s := s.commitOwner { s.ownerBody 6 s.head (1 - s.head) with tb }
      (s.fbAborted.updAnd (fun a => { a with acceptPending := false, survivor := false })).releaseHeld
    else s
  else if !s.session then s.fbAborted.releaseHeld
  else s)

end Sys2Proof.Machine
end

