-- ==== Sys2Proof/Machine/Damper.lean ====
section
/-! DEFINITION. Damper (ch. 19): rails and dips, the thermal throttle and trip, hold-up and Quench. -/

namespace Sys2Proof.Machine

/-- Change Damper's own state. -/
def State.updDmp (s : State) (f : DmpSt → DmpSt) : State := { s with dmp := f s.dmp }

/-! ### Rails (R506-R510) -/

/-- The levels of a rail, and the level at which it counts as back. -/
def State.warnMv (s : State) (r : Nat) : Nat := s.get (F.DMP_RAIL_LVL_WARN_MV r)
def State.resetMv (s : State) (r : Nat) : Nat := s.get (F.DMP_RAIL_LVL_RESET_MV r)
def State.railBack (s : State) (r mv : Nat) : Bool := s.warnMv r + 10 < mv

/-- A core rail (R506). -/
def coreRail (r : Nat) : Bool := 2 ≤ r && r ≤ 4

/-- A rail of the always-on group. -/
def aonRail (r : Nat) : Bool := r < 2

/-- The present voltage of a rail shows, and the lowest since the last read. -/
def State.seeRail (s : State) (r mv : Nat) : State :=
  (s.set (F.DMP_RAIL_MON_VOLT_MV r) mv).set (F.DMP_RAIL_MON_MIN_MV r) (min (s.get (F.DMP_RAIL_MON_MIN_MV r)) mv)

/-- The source of a rail's group (R508). -/
def railSrc (r : Nat) : RstSrc := if aonRail r then .powerOn else .cdSupply
def railReach (r : Nat) : Reach := if aonRail r then .powerOn else .computeDie

/-- A rail of the same group is below its reset level. -/
def State.groupDown (s : State) (r : Nat) : Bool := s.dmp.below.any (fun x => aonRail x == aonRail r)

/-- RAIL_BELOW_RESET: rail `r` has stayed below its reset level for 1 µs (R508). A dip on a core rail ends with the reset, and a Quench ends
where it stands (R524). -/
def execRailBelowReset (r mv : Nat) (s : State) : Res :=
  .next (if 9 ≤ r || s.resetMv r ≤ mv then s
  else
    let s := s.seeRail r mv
    if s.dmp.below.contains r then s
    else
      let first := !s.groupDown r
      let s := s.record 0x0203 (w1 r ++ w1 mv)
      let s := s.updDmp (fun d => { d with below := d.below ++ [r], dip := if coreRail r then none else d.dip })
      if !first then s
      else if s.qphase != 0 then (s.endQuench.takeSrc (railSrc r) (railReach r) true).takeHeld
      else s.takeSrc (railSrc r) (railReach r) true)

/-- RAIL_RESET_CLEAR: a rail that was below reset has been above warning plus hysteresis for 200 µs; its group's source ends once no rail of
it is left (R508, R577). -/
def execRailResetClear (r mv : Nat) (s : State) : Res :=
  .next (if !s.dmp.below.contains r || !s.railBack r mv then s
  else
    let s := (s.seeRail r mv).setBitOf F.DMP_STS_RAIL_WARN r false
    let s := s.updDmp (fun d => { d with below := d.below.filter (· != r) })
    if s.groupDown r then s
    else
      let s := s.releaseSrc (railSrc r)
      if aonRail r then s.updDmp (fun d => { d with cdPwrEn := true }) else s)

/-- RAIL_WARN: a rail that is not a core rail falls below warning and stays above its reset level (R509). -/
def execRailWarn (r mv : Nat) (s : State) : Res :=
  .next (if 9 ≤ r || coreRail r || mv < s.resetMv r || s.warnMv r ≤ mv || s.bitOf F.DMP_STS_RAIL_WARN r then s
  else
    let s := (s.seeRail r mv).setBitOf F.DMP_STS_RAIL_WARN r true
    (s.setb F.DMP_ERR_RAIL_WARN true).recordMs 0x0202 (w1 r ++ w1 mv))

/-- RAIL_WARN_CLEAR: that rail has been above warning plus hysteresis for 200 µs. -/
def execRailWarnClear (r mv : Nat) (s : State) : Res :=
  .next (if 9 ≤ r || coreRail r || !s.railBack r mv || !s.bitOf F.DMP_STS_RAIL_WARN r then s
  else (s.seeRail r mv).setBitOf F.DMP_STS_RAIL_WARN r false)

/-- RAIL_DIP: a core rail falls below warning and stays above its reset level: a dip episode begins, or goes on (R510). -/
def execRailDip (r mv : Nat) (s : State) : Res :=
  .next (if !coreRail r || mv < s.resetMv r || s.warnMv r ≤ mv || s.dmp.below.contains r then s
  else
    let s := (s.seeRail r mv).setBitOf F.DMP_STS_RAIL_WARN r true
    match s.dmp.dip with
    | some (r0, low, from_) => s.updDmp (fun d => { d with dip := some (r0, min low mv, from_) })
    | none =>
      let s := s.updDmp (fun d => { d with dip := some (r, mv, s.cyc) })
      ((s.setb F.DMP_ERR_DIP true).incSat F.DMP_DIP_CNT_COUNT 1).recordMs 0x0201 (w1 r ++ w1 mv))

/-- DIP_END: every core rail has been above warning plus hysteresis for 200 µs without a break; the arguments are the three rails' voltages
(R510). -/
def execDipEnd (core hrt sram : Nat) (s : State) : Res :=
  .next (if !(s.railBack 2 core && s.railBack 3 hrt && s.railBack 4 sram) || s.dmp.below.any coreRail then s
  else
    let s := ((s.seeRail 2 core).seeRail 3 hrt).seeRail 4 sram
    let s := ((s.setBitOf F.DMP_STS_RAIL_WARN 2 false).setBitOf F.DMP_STS_RAIL_WARN 3 false).setBitOf F.DMP_STS_RAIL_WARN 4 false
    match s.dmp.dip with
    | none => s
    | some (r, low, from_) =>
      let s := s.updDmp (fun d => { d with dip := none })
      ((s.set F.DMP_DIP_LAST_RAIL r).set F.DMP_DIP_LAST_MIN_MV low).set F.DMP_DIP_LAST_DUR_US (min 0xFFFF ((s.cyc - from_) / 100)))

/-! ### Throttling and heat (R511, R512, R586)

DMP_STS.THR_SRC keeps the THERM bit; the other sources and the halved clocks are computed when the register is read. -/

/-- Bit 2 of THR_SRC: the THERM source. -/
def State.thermOn (s : State) : Bool := s.bitOf F.DMP_STS_THR_SRC 2

/-- The THERM source starts or stops to be requested as THERM_EN, TEMP and WARN say. -/
def State.thermCheck (s : State) : State :=
  if !s.getb F.DMP_CTL_THERM_EN then s.setBitOf F.DMP_STS_THR_SRC 2 false
  else if s.thermOn || s.get F.DMP_THERM_TEMP ≤ s.get F.DMP_THERM_WARN then s
  else ((s.setBitOf F.DMP_STS_THR_SRC 2 true).setb F.DMP_ERR_THERM true).recordMs 0x0209 (w1 (s.get F.DMP_THERM_TEMP))

/-- THERM_WARN: the hottest sensor reads `temp` °C. -/
def execThermWarn (temp : Nat) (s : State) : Res := .next (s.set F.DMP_THERM_TEMP (min temp 255)).thermCheck

/-- THERM_CLEAR: the hottest sensor has stayed at or below WARN − 3 °C for 1 ms. -/
def execThermClear (temp : Nat) (s : State) : Res :=
  .next (let s := s.set F.DMP_THERM_TEMP (min temp 255)
  if temp + 3 ≤ s.get F.DMP_THERM_WARN then s.setBitOf F.DMP_STS_THR_SRC 2 false else s.thermCheck)

/-- THERMAL_TRIP: a sensor has read above 115 °C for 10 µs: THERMTRIP_N goes low (R586). -/
def execThermalTrip (temp : Nat) (s : State) : Res :=
  .next (if temp ≤ 115 then s
  else
    let s := (s.set F.DMP_THERM_TEMP (min temp 255)).thermCheck
    if s.dmp.tripAt.isSome then s else s.updDmp (fun d => { d with tripAt := some s.cyc }))

/-- CD_POWER_OFF: 50 ms after a trip CD_PWR_EN goes low (R586). -/
def execCdPowerOff (s : State) : Res :=
  .next (match s.dmp.tripAt with
    | some t => if t + ms 50 ≤ s.cyc then s.updDmp (fun d => { d with cdPwrEn := false }) else s
    | none => s)

/-! ### Hold-up (R514-R516) -/

/-- DMP_STS.HOLDUP: HOLDUP_WARN_N is asserted and acted on, or SIM is 1. -/
def State.holdup (s : State) : Bool := (s.dmp.pinAsserted && s.getb F.DMP_CTL_HOLDUP_EN) || s.getb F.DMP_QTEST_SIM

/-- E of R519 at present, in µs. -/
def State.qElapsed (s : State) : Nat :=
  if s.qphase == 1 then s.dmp.eBase + (s.cyc - s.dmp.eFrom) / 100 else s.dmp.eBase

/-- The sequencer runs: no episode of system reach or wider holds it in reset (R487). -/
def State.dmpRuns (s : State) : Bool := s.kdl.episode == none || s.kdl.episode == some .computeDie

/-- Quench phase 1 begins (R517-R519); while a Quench runs nothing new starts, and a head whose HOLDUP_EN is 0 never runs one (R514). -/
def State.beginQuench (s : State) (sim : Bool) : State :=
  if s.qphase != 0 || !s.dmpRuns || !s.getb F.DMP_CTL_HOLDUP_EN then s
  else
    let fresh : Bool := match s.dmp.revAt with
      | some t => decide (t + ms (s.get F.DMP_QCFG_RECHARGE) ≤ s.cyc)
      | none => true
    let e := if fresh then 0 else s.dmp.eBase
    let s := s.updDmp (fun d => { d with eBase := e, eFrom := s.cyc })
    let s := ((s.setMode F.GLB_MODE_QPHASE 1).incSat F.DMP_Q_CNT_COUNT 1).setb F.DMP_ERR_QUENCH true
    s.record 0x0204 (w1 e ++ w1 (b2n sim))

/-- Hold-up is asserted: a running 5 ms wait ends, and a Quench may begin. -/
def State.holdupOn (s : State) (sim : Bool) : State :=
  ((s.updDmp (fun d => { d with clearSince := none })).setb F.DMP_STS_CLEAR_WAIT false).beginQuench sim

/-- Hold-up may have been cleared: the 5 ms begin once neither the pin nor SIM asserts it (R520, R523). -/
def State.holdupOff (s : State) (was : Bool) : State :=
  if !was || s.holdup then s
  else (s.updDmp (fun d => { d with clearSince := some s.cyc })).setb F.DMP_STS_CLEAR_WAIT (s.qphase == 1)

/-- HOLDUP_ASSERT: HOLDUP_WARN_N has been low for 2 µs (R514). -/
def execHoldupAssert (s : State) : Res :=
  .next (if s.dmp.pinAsserted then s
  else
    let s := s.updDmp (fun d => { d with pinAsserted := true })
    if s.getb F.DMP_CTL_HOLDUP_EN then s.holdupOn false else s)

/-- HOLDUP_CLEAR: HOLDUP_WARN_N has been high for 2 µs. -/
def execHoldupClear (s : State) : Res := .next ((s.updDmp (fun d => { d with pinAsserted := false })).holdupOff s.holdup)

/-- A write to DMP_QTEST (R517). -/
def State.writeQtest (s : State) (v : Nat) : State :=
  let was := s.holdup
  let s := s.setb F.DMP_QTEST_SIM (bit v 0)
  if bit v 0 then s.holdupOn true else s.holdupOff was

/-- QUENCH_SIM: a write to DMP_QTEST. -/
def execQuenchSim (r : Req) (value : Nat) (s : State) : Res := .next (s.withWrite r R.DMP_QTEST (fun s => s.writeQtest value))

/-- A write to DMP_CTL. -/
def State.writeDmpCtl (s : State) (v : Nat) : State :=
  let was := s.holdup
  let en := s.getb F.DMP_CTL_HOLDUP_EN
  let s := ((s.setb F.DMP_CTL_FORCE_THR (bit v 2)).setb F.DMP_CTL_HOLDUP_EN (bit v 1)).setb F.DMP_CTL_THERM_EN (bit v 0)
  let s := s.thermCheck
  if !en && bit v 1 && s.dmp.pinAsserted then s.holdupOn false else s.holdupOff was

/-- HOLD_US is below 2,000 + B ÷ 40,000 (R516). -/
def State.holdShort (s : State) : Bool := s.get F.DMP_HOLDUP_HOLD_US * 40000 < 80000000 + s.bound

/-- A write to DMP_HOLDUP or to the dirty bound is compared with R516; becoming short is recorded. -/
def State.checkHold (s : State) (eff : State → State) : State :=
  let was := s.holdShort
  let s := eff s
  if !s.holdShort then s
  else
    let s := s.setb F.DMP_ERR_HOLD_SHORT true
    if was then s else s.record 0x020C (w1 (s.get F.DMP_HOLDUP_HOLD_US) ++ w1 s.bound)

/-- A write to DMP_HOLDUP. -/
def State.writeHoldup (s : State) (v : Nat) : State := s.checkHold (fun s => s.set F.DMP_HOLDUP_HOLD_US v)

/-- HOLDUP_TIME_WRITE: a write to DMP_HOLDUP. -/
def execHoldupTimeWrite (r : Req) (value : Nat) (s : State) : Res := .next (s.withWrite r R.DMP_HOLDUP (fun s => s.writeHoldup value))

/-- DIRTY_BOUND_WRITE: a write to BEL_DIRTY_BOUND (R120). -/
def execDirtyBoundWrite (r : Req) (value : Nat) (s : State) : Res :=
  .next (s.withWrite r R.BEL_DIRTY_BOUND (fun s => s.checkHold (fun s => s.writeBound value)))

/-! ### Phase 1 (R518-R520) -/

/-- The phase-1 limit in µs. -/
def State.qLimit (s : State) : Nat := s.get F.DMP_HOLDUP_HOLD_US - 2000

/-- The payload of a write, or the data of a read, has not wholly reached grates. -/
def Cmd.unlanded (c : Cmd) : Bool :=
  if c.kind == .write then c.stage == .waitSlot || c.stage == .slotHost || c.stage == .landing || (c.stage == .holding && c.payload.isEmpty)
  else (c.kind == .read || c.kind == .replGet) && c.stage != .staged

/-- A command is abandoned and never completes: its slot, if the host is filling it, goes to ABORT (R83). With which CODE the spec does not say:
a free value. -/
def State.leaveCmd (s : State) (c : Cmd) : State :=
  let s := if c.ring && c.foreign.isNone && !c.dead && c.stage == .slotHost then
      (s.taken 1).setSlot c.port c.slot 6 (s.freeValue.toNat % 256) 0 c.cid
    else s
  (s.dropCmd c.id).freeUser (cmdUser c.id)

/-- Step 1 of phase 2 (R521, R522). -/
def State.beginPhase2 (s : State) : State :=
  let e := s.qElapsed
  let d := s.dirty
  let s := s.updDmp (fun x => { x with eBase := e })
  let s := ((s.setMode F.GLB_MODE_QPHASE 2).setb F.DMP_STS_CLEAR_WAIT false).set F.DMP_QLAST_P1_US e
  let s := (s.set F.DMP_QLAST_DIRTY d).record 0x0206 (w1 e ++ w2 d)
  let s := if 0 < d then (s.setb F.DMP_ERR_Q_SHORT true).record 0x0207 (w2 d) else s
  (s.bel.cmds.filter Cmd.unlanded).foldl State.leaveCmd s

/-- PHASE1_LIMIT: E reaches the phase-1 limit. -/
def execPhase1Limit (s : State) : Res := .next (if s.qphase == 1 && s.qLimit ≤ s.qElapsed then s.beginPhase2 else s)

/-- PHASE1_DRAINED: the dirty count is 0, E is at least P1_MIN and hold-up is asserted. -/
def execPhase1Drained (s : State) : Res :=
  .next (if s.qphase == 1 && s.dirty == 0 && 100 * s.get F.DMP_QCFG_P1_MIN ≤ s.qElapsed && s.holdup then s.beginPhase2 else s)

/-- Hold-up has been clear for 5 ms without a break. -/
def State.clear5 (s : State) : Bool :=
  match s.dmp.clearSince with
  | some t => t + ms 5 ≤ s.cyc
  | none => false

/-- QUENCH_REVERSE: phase 1 reverses (R520); every held source is taken at once (R492). -/
def execQuenchReverse (s : State) : Res :=
  .next (if s.qphase != 1 || !s.clear5 || s.qLimit ≤ s.qElapsed then s
  else
    let e := s.qElapsed
    let s := (s.setMode F.GLB_MODE_QPHASE 0).setb F.DMP_STS_CLEAR_WAIT false
    let s := s.updDmp (fun d => { d with eBase := e, revAt := some s.cyc })
    let s := (s.set F.DMP_QLAST_P1_US e).record 0x0205 (w1 e)
    s.takeHeld.bootSweep.decideMode)

/-! ### Phase 2 (R521-R523) -/

/-- Step 2: every strand stops, drive commands on their way are left, and the merging buffer drains. -/
def State.quenchStop (s : State) : State :=
  let s := (List.range 16).foldl (fun s n => (List.range 4).foldl (fun s k =>
    if (s.strand n k).st == .running then (s.releaseStrand n k).updStrand n k (fun x => { x with st := .idle, item := none }) else s) s) s
  { s.drainAll with drv := { s.drv with cmds := [] } }

/-- Post what completion queues and rings have waiting, as far as there is room. -/
def State.postAll (s : State) : State :=
  let next (r : Res) (s : State) : State := match r with
    | .next t => t
    | _ => s
  (List.range 2).foldl (fun s p =>
    let s := (s.ctrl p).cqs.foldl (fun s q => q.2.waiting.foldl (fun s _ => next (execCqEntryPost p q.1 s) s) s) s
    (s.win p).ring.foldl (fun s r => r.2.waiting.foldl (fun s _ => next (execRingCompletionPost p r.1 s) s) s) s) s

/-- Step 3: every accepted record is committed, what completes by it is posted, and the QUENCH record with the dirty count follows as the
last. Without a recovered journal there is nothing to commit. -/
def State.quenchCommit (s : State) : State :=
  if !s.getb F.JNL_STS_READY then s
  else
    let s := (s.jnl.recs.filter (fun r => !r.committed)).foldl State.commitRec s
    let s := (s.bel.cmds.filter (fun c => s.complete? c)).foldl (fun s c => s.finish c { count := c.len }) s
    let s := s.postAll
    let at_ := s.now
    let r : JRec := { seq := s.nextSeq at_, atime := at_, type := 8, mirror := false, origin := s.head, vol := 0, len := s.dirty, committed := true,
                      unmirrored := s.getb F.GLB_MODE_UNMIRRORED }
    let r := { r with pdig := (sha256 r.data).take 16 }
    match s.place r.lines with
    | none => s
    | some (line, lap) =>
      let r := { r with line, lap }
      let s := (s.takeSeq at_).updJnl (fun j => { j with recs := j.recs ++ [r], head := line + r.lines, lap })
      (s.inc F.JNL_RECS_COUNT 1).showJnl

/-- Step 4: the last record is staged and everything staged reaches Ember. -/
def State.quenchLog (s : State) : State :=
  let s := s.sootThaw.record 0x0208 []
  let s := s.sootFlushNow s.soot.staged.length
  let s := (s.setb F.SOOT_STS_FLUSHING false).setb F.SOOT_CTL_FLUSH false
  { s with soot := { s.soot with flushing := none, again := false } }

/-- Step 5: the compute-die domains stop and the lanes go to electrical idle. -/
def State.quenchOff (s : State) : State :=
  let s := s.set F.KDL_REL_STS_DOMAIN (Nat.land (s.get F.KDL_REL_STS_DOMAIN) (keptDomains .computeDie))
  let s := ((s.setb F.CRL_STS_LINK_UP false).set F.CRL_STS_WIDTH 0).set F.CRL_STS_LANES_UP 0
  s.setb F.DMP_STS_QHOLD true

/-- The head leaves the quenched hold by an episode of system reach that every held source joins (R523). -/
def State.leaveHold (s : State) (src : RstSrc) (pin : Bool) : State := (s.endQuench.takeSrc src .system pin).takeHeld

/-- The sources that end the quenched hold as the warm restart (R492). -/
def ends (src : RstSrc) : Bool := src == .rstN || src == .miReset || src == .cmd

/-- QUENCHED_HOLD: phase 2 runs its steps and ends; a held RST_N, NVMe-MI reset or command is taken at once (R492). -/
def execQuenchedHold (s : State) : Res :=
  .next (if s.qphase != 2 || s.getb F.DMP_STS_QHOLD then s
  else
    let s := s.quenchStop.quenchCommit.quenchLog.quenchOff
    if s.kdl.held.any (fun h => ends h.1) then
      State.takeHeld { s.endQuench with kdl := { s.kdl with held := s.kdl.held.map (fun h => if ends h.1 then (h.1, .system) else h) } }
    else s)

/-- WARM_RESTART: power has been present for 5 ms in the quenched hold. -/
def execWarmRestart (s : State) : Res :=
  .next (if s.getb F.DMP_STS_QHOLD && s.clear5 then s.leaveHold .warm false else s)

end Sys2Proof.Machine
end

