-- ==== Sys2Proof/Machine/Kindling.lean ====
section
/-! DEFINITION. Kindling (ch. 18): the reset sources, clock-good gating and release of domains, the twelve steps of R497 with the firmware
image and journal recovery. -/

namespace Sys2Proof.Machine

/-- Change Kindling's own state. -/
def State.updKdl (s : State) (f : KdlSt → KdlSt) : State := { s with kdl := f s.kdl }

/-! ### Sources (R486-R489) -/

/-- RST_N_ASSERT: RST_N has been low for `ns`. From 5 µs it is recognised; from 1 µs it may be, as `seen` says (R488). -/
def execRstNAssert (ns : Nat) (seen : Bool) (s : State) : Res :=
  .next (if !s.kdl.rstLow && (5000 ≤ ns || (1000 ≤ ns && seen)) then
    (s.updKdl (fun k => { k with rstLow := true })).assertSrc .rstN .system true else s)

/-- RST_N_RELEASE: RST_N has been high for 1 µs. -/
def execRstNRelease (s : State) : Res :=
  .next (if s.kdl.rstLow then (s.updKdl (fun k => { k with rstLow := false })).releaseSrc .rstN else s)

/-- NVME_MI_RESET: an NVM Subsystem Reset received on the sideband, which answers once SBD is released. -/
def execNvmeMiReset (s : State) : Res := .next (if s.released dSbd then s.assertSrc .miReset .system else s)

/-- RESET_COMMAND: a write to KDL_RST_CMD. -/
def execResetCommand (r : Req) (value : Nat) (s : State) : Res :=
  .next (s.withWrite r R.KDL_RST_CMD (fun s =>
    if bits value 16 16 != 0x4B44 then s
    else if value % 4 == 1 then s.assertSrc .cmd .system
    else if value % 4 == 2 then s.assertSrc .cmd .computeDie
    else s))

/-- RESET_SOURCE_EXPIRE: 10 µs have passed since the event of a source. -/
def execResetSourceExpire (s : State) : Res := .next s.expireSrcs

/-- WDT_EXPIRE: the counter of slot `slot` reaches twice HRT_WDT_TO (R538, stage 2). -/
def execWdtExpire (slot : Nat) (s : State) : Res :=
  .next (if s.wdtOn slot && 2 * ms (s.get F.HRT_WDT_TO_TIMEOUT) ≤ s.wdtCount slot && !s.kdl.held.any (fun h => h.1 == .watchdog) then
    (s.recordMs 0x0322 (w1 slot)).assertSrc .watchdog .computeDie else s)

/-- MIN_SVN_WRITE: a write to KDL_MIN_SVN raises it or is ignored (R501). -/
def State.writeMinSvn (s : State) (v : Nat) : State :=
  if s.get F.KDL_MIN_SVN_SVN < v then (s.set F.KDL_MIN_SVN_SVN v).record 0x010A (w1 v) else s
def execMinSvnWrite (r : Req) (value : Nat) (s : State) : Res := .next (s.withWrite r R.KDL_MIN_SVN (fun s => s.writeMinSvn value))

/-- FAULT_N_EPISODE_TIMEOUT: an episode of system reach or wider has lasted 100 ms (R578). -/
def execFaultNEpisodeTimeout (s : State) : Res :=
  .next (if !s.dmpRuns && s.kdl.episodeAt + ms 100 ≤ s.cyc then s.updKdl (fun k => { k with faultN := true }) else s)

/-! ### Domains (R490, R494-R496, R579) -/

/-- The domains a step of R497 releases, in order. -/
def stepDomains (n : Nat) : List Nat :=
  match n with
  | 1 => [1, 2]
  | 2 => [dSbd, dEmb]
  | 4 => [dNoc, dCch]
  | 6 => [dDdrA, dDdrB]
  | 8 => [dStv]
  | 9 => [dHrt]
  | 10 => [dDrv 0, dDrv 1, dDrv 2, dDrv 3, dHst 0, dHst 1, dCrl, dDbg]
  | _ => []

/-- The units a domain clocks, as `State.unitFails` numbers them. -/
def domainUnits (d : Nat) : List Nat :=
  if d == 1 || d == dEmb then [1]
  else if d == dHst 0 || d == dHst 1 then [30 + (d - 3)]
  else if 5 ≤ d && d ≤ 8 then [32 + (d - 5)]
  else if d == dCrl then [53]
  else if d == dDdrA then [28]
  else if d == dDdrB then [29]
  else if d == dHrt then (List.range 9).map (19 + ·)
  else if d == dStv then (List.range 16).map (36 + ·)
  else if d == dNoc then [4]
  else if d == dCch then [52]
  else []

/-- Clock-good of a domain holds for its count. -/
def State.clockGood (s : State) (d : Nat) : Bool := s.bitOf F.KDL_CLK_GOOD_DOMAIN (d - 1)

/-- Kindling has given up waiting for a domain's clock. -/
def State.clockLost (s : State) (d : Nat) : Bool := s.kdl.missing.contains (64 + d)

/-- The step that runs; a reset episode stops it. -/
def State.kdlStep (s : State) : Nat := if s.getb F.KDL_STS_BUSY && s.kdl.episode.isNone then s.get F.KDL_STS_STEP else 0

/-- A unit is missing. -/
def State.missing (s : State) (u : Nat) : Bool := s.kdl.missing.contains u

/-- R498: a step is skipped when a unit it needs is missing. -/
def State.skips (s : State) (n : Nat) : Bool :=
  (4 ≤ n && n ≤ 10 && (s.missing 1 || s.jnl.cur.isEmpty)) || (5 ≤ n && n ≤ 10 && s.missing 4) ||
  (n == 7 && ((s.missing 28 && s.missing 29) || s.kdl.image.isNone))

/-- A domain leaves reset. A host port whose domain is released begins training, unless something still holds it (R42, R74). -/
def State.release (s : State) (d : Nat) : State :=
  let s := s.setBitOf F.KDL_REL_STS_DOMAIN (d - 1) true
  if d == dHst 0 || d == dHst 1 then s.set (F.HST_LINK_STS_LTSSM (d - 3)) (s.idleLtssm (d - 3))
  else if 5 ≤ d && d ≤ 8 then s.updKdl (fun k => { k with drvRel := Tab.put k.drvRel (d - 5) s.cyc })
  else s

/-! ### The pins (R580, R581): outputs that follow from the state; the table has no row that reads one -/

/-- DRVp_PERST_N is low: the group of drive port `p` is not released, or was released less than 100 ms ago. -/
def State.drvPerstLow (s : State) (p : Nat) : Bool :=
  !s.released (dDrv (p / 8)) || s.cyc < Tab.getN s.kdl.drvRel (p / 8) + ms 100

/-- The sideband pins and the boot flash pins are in high impedance; XSPI_RESET_N is low during an episode. -/
def State.sidebandFloats (s : State) : Bool := !s.released dSbd
def State.xspiFloats (s : State) : Bool := s.kdl.episode.isSome || s.getb F.KDL_STS_XSPI_FREE
def State.xspiResetLow (s : State) : Bool := s.kdl.episode.isSome && !s.getb F.KDL_STS_XSPI_FREE

/-- The static address of the sideband (R581): the head of the accepted option copy; head A's while none is accepted. -/
def State.sidebandAddr (s : State) : Nat := if !s.jnl.cur.isEmpty && s.head == 1 then 0x1E else 0x1D

/-- The running step releases its domains in order, as far as their clocks are good. -/
def releaseIn : List Nat → State → State
  | [], s => s
  | d :: ds, s =>
    if s.released d || s.clockLost d then releaseIn ds s
    else if s.clockGood d then releaseIn ds ((s.release d).setBitOf F.KDL_CLK_PEND_DOMAIN (d - 1) false)
    else s
def State.pumpRelease (s : State) : State :=
  let n := s.kdlStep
  if s.skips n then s else releaseIn (stepDomains n) s

/-- The first domain of the running step that is still awaited. -/
def State.awaited (s : State) : Option Nat := (stepDomains s.kdlStep).find? (fun d => !s.released d && !s.clockLost d)

/-- A source of the running episode covers the domain. -/
def State.covered (s : State) (d : Nat) : Bool :=
  match s.kdl.episode with
  | some e => !bit (keptDomains e) (d - 1)
  | none => false

/-- Forced releases whose clock is good and which no source covers happen (R496). -/
def State.resolveForced (s : State) : State :=
  (List.range 18).foldl (fun s i =>
    let d := i + 1
    if s.bitOf F.KDL_CLK_PEND_DOMAIN i && s.clockGood d && !s.covered d then
      (if s.released d then s else (s.release d).record 0x0107 (w1 d)).setBitOf F.KDL_CLK_PEND_DOMAIN i false
    else s) s

/-- CLOCK_GOOD: the clock-good indication of domain `d` has held for its count (R494). -/
def execClockGood (d : Nat) (s : State) : Res :=
  .next (if d == 0 || 18 < d then s else (s.setBitOf F.KDL_CLK_GOOD_DOMAIN (d - 1) true).pumpRelease.resolveForced)

/-- What the units of a domain do when its clock is lost, beside counting as failed. -/
def State.domainDies (s : State) (d : Nat) : State :=
  if d == dHst 0 || d == dHst 1 then
    let p := d - 3
    let s := if s.linkL0 p then (s.hstErr p F.HST_ERR_LINK_DOWN (some 0x0620)).portReset p .linkDown false else s
    s.linkOff p
  else if 5 ≤ d && d ≤ 8 then
    (List.range 8).foldl (fun s i => (s.setb (F.DRV_PORT_STS_DL_UP (8 * (d - 5) + i)) false).portDead (8 * (d - 5) + i)) s
  else if d == dCrl then s.crlDown
  else if d == dCch then s.ichDisable
  else s

/-- CLOCK_GOOD_LOSS: the clock-good indication of a domain falls (R495). -/
def execClockGoodLoss (d : Nat) (s : State) : Res :=
  .next (if d == 0 || 18 < d || !s.clockGood d then s
  else
    let s := s.setBitOf F.KDL_CLK_GOOD_DOMAIN (d - 1) false
    if !s.released d then s
    else
      let s := (s.setb F.KDL_ERR_CLK_LOSS true).record 0x0108 (w1 d)
      let s := (s.domainDies d).setBitOf F.KDL_REL_STS_DOMAIN (d - 1) false
      (domainUnits d).foldl State.unitFails s)

/-- A unit fails its test (R497, R498). -/
def State.unitMissing (s : State) (u : Nat) : State :=
  if s.missing u then s
  else ((s.updKdl (fun k => { k with missing := k.missing ++ [u] })).record 0x0106 (w1 u)).degradeUnit u true

/-- CLOCK_GOOD_TIMEOUT: 100 ms after Kindling reached domain `d` its clock is not good (R579). -/
def execClockGoodTimeout (d : Nat) (s : State) : Res :=
  .next (if s.awaited != some d || s.skips s.kdlStep || s.cyc < s.kdl.reachedAt + ms 100 then s
  else
    let s := s.updKdl (fun k => { k with missing := k.missing ++ [64 + d], reachedAt := s.cyc })
    let s := if (domainUnits d).isEmpty then s.record 0x0106 (w1 (64 + d)) else (domainUnits d).foldl State.unitMissing s
    s.pumpRelease)

/-- A write to KDL_REL_FORCE (R496). -/
def State.writeRelForce (s : State) (v : Nat) : State :=
  if s.md != mKindling && s.md != mSweep then s
  else
    let new := (List.range 18).filter (fun i => bit v i && !s.released (i + 1))
    let s := new.foldl (fun s i => (s.setBitOf F.KDL_REL_FORCE_DOMAIN i true).setBitOf F.KDL_CLK_PEND_DOMAIN i true) s
    s.resolveForced

/-- FORCE_RELEASE: a write to KDL_REL_FORCE. -/
def execForceRelease (r : Req) (value : Nat) (s : State) : Res := .next (s.withWrite r R.KDL_REL_FORCE (fun s => s.writeRelForce value))

/-- RESET_EPISODE_END: no source is asserted any more (R489). -/
def execResetEpisodeEnd (sbSel kept : Bool) (s : State) : Res :=
  .next (match s.kdl.episode with
    | some r => if s.expireSrcs.kdl.asserted.isEmpty then (s.endEpisode r sbSel kept).pumpRelease.resolveForced else s
    | none => s)

/-! ### Steps 1 to 3 -/

/-- KDL_RESET. -/
def State.recordReset (s : State) : State := s.record 0x0101 (w1 (s.get F.KDL_STS_REACH) ++ w1 s.kdlSrc)

/-- The head's ownership state is read from its pair (R456). -/
def State.loadOwner (s : State) : State :=
  let s := match s.pair 34 with
    | some [epoch, halves, mirror, fb, solo, tb] =>
      let s := (s.set F.AND_EPOCH_VALUE epoch).setb F.GLB_MODE_UNMIRRORED (mirror != 0)
      ((s.set F.AND_FB_CTL_STATE fb).set F.AND_FB_TB_VALUE tb).updAnd (fun a => { a with halves, soloSeq := solo })
    | _ =>
      let s := (s.set F.AND_EPOCH_VALUE 0).setb F.GLB_MODE_UNMIRRORED true
      let s := ((s.set F.AND_FB_CTL_STATE 0).set F.AND_FB_TB_VALUE 0).updAnd (fun a => { a with halves := 2 ^ s.head, soloSeq := 0 })
      (s.recordMs 0x0A04 (w1 0x322000)).saveOwner
  s.updAnd (fun a => { a with mirrorAtReset := s.get F.GLB_MODE_UNMIRRORED })

/-- The option copies are read (R381): the newer valid one is accepted and shows in the registers it sets. -/
def State.loadOptions (s : State) : State :=
  let copy (i : Nat) : Option Bytes := (Tab.find s.jnl.opt i).filter optValid
  let s := (s.setb F.JNL_OPT_STS_VALID0 (copy 0).isSome).setb F.JNL_OPT_STS_VALID1 (copy 1).isSome
  let s := if (copy 0).isNone then s.recordMs 0x0A08 (w1 0) else s
  let s := if (copy 1).isNone then s.recordMs 0x0A08 (w1 1) else s
  let pick : Option (Nat × Bytes) := match copy 0, copy 1 with
    | some a, some b => if newer (leAt b 8 4) (leAt a 8 4) then some (1, b) else some (0, a)
    | some a, none => some (0, a)
    | none, some b => some (1, b)
    | none, none => none
  match pick with
  | none => (s.updJnl (fun j => { j with cur := [] })).set F.GLB_ID_HEAD 0
  | some (i, b) =>
    let s := (s.updJnl (fun j => { j with cur := b })).set F.GLB_ID_HEAD (leAt b 12 1)
    let s := ((s.set F.JNL_OPT_STS_CUR i).setb F.JNL_OPT_STS_PEND false).set F.JNL_OPT_STS_UPDATES (leAt b 8 4)
    (s.set F.DRV_BIF_MODE (leAt b 13 1)).set F.CRL_STS_RATE (leAt b 44 1)

/-- Step 2: at power-on AT, the power-cycle count and the operating time go on from Ember. -/
def State.kdlStep2 (s : State) : State :=
  let s := if s.get F.KDL_STS_REACH == reachCode .powerOn then
      let s := s.loadAt.partnerSrc
      State.recordReset { s with soot := { s.soot with cycles := min (s.soot.cyclesE + 1) (2 ^ 24 - 1), opTime := s.soot.opTimeE } }
    else s
  s.loadOptions.loadOwner

/-- The checks of R500 on a flash, in order, up to the streamed body. -/
def State.verifyImage (s : State) (flash : Option Bytes) : Nat :=
  match flash with
  | none => 1
  | some f =>
    let h := slice f 0 512
    let len := leAt h 16 4
    if !(leAt h 0 4 == 0x46574B44 && leAt h 4 2 == 1 && leAt h 6 2 == 0 && leAt h 20 4 == 0 && (h.drop 280).all (· == 0) &&
        4096 ≤ len && len ≤ 2 ^ 25 && len % 4096 == 0) then 2
    else if sha384 (slice h 88 96) != Config.rootKeyHash then 3
    else if !ecdsaP384 (slice h 88 96) (sha384 (slice h 0 184)) (slice h 184 96) then 4
    else if imageSvn h < s.get F.KDL_MIN_SVN_SVN then 5
    else if sha384 (slice f 512 len) != slice h 40 48 then 6
    else 0

/-- The result register of a chip select. -/
def bootRes (cs : Nat) : Fld := if cs == 0 then F.KDL_BOOT_RES_CS0 else F.KDL_BOOT_RES_CS1

/-- A source fails. -/
def State.sourceFails (s : State) (cs result : Nat) : State :=
  ((s.set (bootRes cs) result).setb F.KDL_ERR_FW_FAIL true).record 0x0104 (w1 cs ++ w1 result)

/-- The chip selects the BOOT byte names, in order; none without an option copy. -/
def State.bootSources (s : State) : List Nat :=
  if s.jnl.cur.isEmpty then []
  else match leAt s.jnl.cur 14 1 with
    | 0 => [0]
    | 1 => [1]
    | 2 => [0, 1]
    | _ => []

/-- Try the sources not yet tried, in order. -/
def State.tryBoot (flash : Nat → Option Bytes) : List Nat → State → State
  | [], s => ((s.updKdl (fun k => { k with image := none })).set F.KDL_STS_BOOT_SRC 3).setb F.KDL_STS_XSPI_FREE true
  | cs :: rest, s =>
    if s.get (bootRes cs) != 0xFF then s.tryBoot flash rest
    else
      let s := if cs == 1 && s.bootSources.contains 0 then (s.setb F.KDL_ERR_FALLBACK true).record 0x0105 [] else s
      match s.verifyImage (flash cs) with
      | 0 => ((s.set (bootRes cs) 0).set F.KDL_STS_BOOT_SRC cs).updKdl (fun k => { k with image := (flash cs).map (fun f => slice f 0 512) })
      | e => (s.sourceFails cs e).tryBoot flash rest

/-- Step 3: the KDF counters are read and a firmware image is verified. -/
def State.kdlStep3 (s : State) (flash : Nat → Option Bytes) : State :=
  let s := match s.pair 32 with
    | some l => s.updKeys (fun k => { k with gens := (List.range 16).foldl (fun t n => Tab.putN t n (l.getD n 0)) [], wcount := l.getD 16 0 })
    | none => s.updKeys (fun k => { k with gens := [], wcount := 0 })
  s.tryBoot flash s.bootSources

/-! ### Steps 4 to 11 -/

/-- Step 5: the key store holds slot 0 only, then the derived slots. -/
def State.kdlStep5 (s : State) : State :=
  let s := s.updKeys (fun k => { k with slots := Tab.keep k.slots (fun n _ => n == 0) })
  if s.keys.aroot.isNone then s.recordMs 0x0C05 [] else [1, 2, 3, 4].foldl State.derive s

/-- Step 7: the body is copied to LOAD and its digest taken again; answers whether it still matches. -/
def State.kdlStep7 (s : State) (flash : Nat → Option Bytes) : State × Bool :=
  match s.kdl.image with
  | none => (s, true)
  | some h =>
    let cs := s.get F.KDL_STS_BOOT_SRC
    let body := slice ((flash cs).getD []) 512 (leAt h 16 4)
    let s := { s with ddr := Tab.writeBytes s.ddr (leAt h 24 8) body }
    if sha384 body == slice h 40 48 then (s, true) else (s.sourceFails cs 7, false)

/-- Step 9: the pairs that work fill the slots in ascending order, the ninth is the spare. A pair with two faults is left out, one that
failed its test is FAILED (R448, R453). -/
def State.kdlStep9 (s : State) : State :=
  let out (p : Nat) : Bool := 2 ≤ s.get (F.AND_PAIR_STS_FLT p)
  let good := (List.range 9).filter (fun p => !s.missing (19 + p) && !out p)
  let s := (List.range 9).foldl (fun s p =>
    if good.contains p then s
    else (s.set (F.AND_PAIR_STS_STATE p) (if out p then 0 else 5)).degradeUnit (19 + p) true) s
  let s := ((s.set F.AND_MAP_PAIR (2 ^ 32 - 1)).set F.AND_STS_SPARE 15).setb F.AND_STS_SPARE_OK false
  let s := (good.zip (List.range 9)).foldl (fun s e =>
    let (p, k) := e
    if k < 8 then ((s.mapSlot k p).set (F.AND_PAIR_STS_STATE p) 1).set (F.AND_PAIR_STS_SLOT p) k
    else ((s.set F.AND_STS_SPARE p).setb F.AND_STS_SPARE_OK true).set (F.AND_PAIR_STS_STATE p) 2) s
  s.set F.AND_STS_ACTIVE (min 8 good.length)

/-- No pair can serve a slot. -/
def State.noPair (s : State) : Bool := (List.range 8).all (fun k => s.pairOf k == 15)

/-- The code of R482 for the first missing unit; 0 when the head gives service. -/
def State.faultCode (s : State) : Nat :=
  if s.missing 1 then 1
  else if s.jnl.cur.isEmpty then 2
  else if s.kdl.image.isNone then 3
  else if s.missing 4 then 4
  else if s.noPair then 5
  else if s.missing 28 && s.missing 29 then 6
  else if s.missing 30 && s.missing 31 then 7
  else if s.missing 32 && s.missing 33 && s.missing 34 && s.missing 35 then 8
  else if (List.range 16).all (fun n => s.missing (36 + n)) then 9
  else if s.missing 10 || (Tab.find s.keys.slots 0).isNone then 10
  else 0

/-- Every active slot starts at ENTRY with a0 its number and a1 0 (R502). -/
def State.startSlots (s : State) : State :=
  let h := s.kdl.image.getD []
  let s := (s.set F.KDL_FW_VER_VALUE (leAt h 12 4)).set F.KDL_FW_SVN_VALUE (imageSvn h)
  (List.range 8).foldl (fun s k =>
    if s.pairOf k == 15 then s
    else ((s.wdtKick k).setBitOf F.HRT_STS_RUN k true).emit (.hartStart k (leAt h 32 8) k 0)) s

/-! ### Recovery (R376-R380) -/

/-- The LAP values of the live records. -/
def lapsOf (rs : List JRec) : List Nat := rs.foldl (fun l r => if l.contains r.lap then l else r.lap :: l) []

/-- The newest LAP (R377). -/
def newestLap (rs : List JRec) : Nat :=
  let best (l : List JRec) : Option JRec := l.foldl (fun (b : Option JRec) r => match b with
    | some x => if x.seq < r.seq then some r else b
    | none => some r) none
  match lapsOf rs with
  | [] => 0
  | [a] => a
  | [a, b] => if (a + 1) % 256 == b then b else a
  | _ => match best (rs.filter (fun r => !r.mirror)) with
    | some r => r.lap
    | none => ((best rs).map (·.lap)).getD 0

/-- The live record with the newest position: least passes old, then the highest line. -/
def newestRec (rs : List JRec) : Option JRec :=
  let n := newestLap rs
  let age (r : JRec) := (n + 256 - r.lap) % 256
  rs.foldl (fun (b : Option JRec) r => match b with
    | some x => if age r < age x || (age r == age x && x.line < r.line) then some r else b
    | none => some r) none

/-- A record recovery drops: a metadata record that holds a failed unit, or any record whose header failed (R378). -/
def State.badRec (s : State) (r : JRec) : State :=
  let s := s.updJnl (fun j => { j with recs := j.recs.filter (fun x => !x.is r.mirror r.origin r.seq), staging := Tab.del j.staging r.key })
  if r.type ≤ 2 then s
  else
    let half := match r.body with
      | .index (c :: _) => c.half
      | _ => 0
    let s := (s.setb F.JNL_ERR_BODY_BAD true).recordMs 0x0A03 []
    s.toFirmware { bytes := itemBytes 0 7 r.vol 0 r.lba r.seq r.atime 0 0 0 0 half }

/-- The sequence counter starts at the high-water mark, or above everything found when its pair is lost (R113). -/
def State.recoverSeq (s : State) : State :=
  match s.pair 33 with
  | some (h :: _) => s.updBel (fun b => { b with seqNext := max 1 h, blockEnd := max 1 h })
  | _ =>
    let top := s.jnl.recs.foldl (fun m r => max m r.seq) 0
    let top := (List.range (s.get F.TICK_CLOG_CTL_COUNT)).foldl (fun m i => max m (s.get (F.TICK_CLOG_END_VALUE ((s.get F.TICK_CLOG_CTL_RD + i) % 64)))) top
    let n := (top / 2 ^ 20 + 1) * 2 ^ 20
    let s := (s.updBel (fun b => { b with seqNext := n, blockEnd := n })).saveHwm n
    (s.setb F.BEL_ERR_HWM_BAD true).recordMs 0x0A04 (w1 0x300000)

/-- A WRITE record of the head is settled (R379): retired when its maps show it, staged again when its payload is here. -/
def State.recoverWrite (s : State) (r : JRec) : State :=
  if (List.range (r.len / 4096)).all (fun i => r.seq ≤ (s.mapAt r.vol (r.lba + i)).seq) then s.eraseRec r
  else match Tab.find s.jnl.staging r.key with
    | some p => if slice (sha256 p) 0 16 == r.pdig then s.regain r p else s.updJnl (fun j => { j with staging := Tab.del j.staging r.key })
    | none => s

/-- A DEALLOC record of the head is settled where its maps show it; the rest wait for the head's mode (R461). -/
def State.recoverDealloc (s : State) (r : JRec) : State :=
  if (List.range (r.len / 4096)).all (fun i => r.seq ≤ (s.mapAt r.vol (r.lba + i)).seq) then s.eraseRec r else s

/-- Live records of commands take fresh command numbers. -/
def State.retag (s : State) (r : JRec) : State :=
  if 2 < r.type then s
  else
    let id := s.bel.nextId
    (s.updJnl (fun j => { j with recs := j.recs.map (fun x => if x.is r.mirror r.origin r.seq then { x with tag := id } else x) })).updBel
      (fun b => { b with nextId := id + 1 })

/-- Recovery: changes whose record never committed do not exist, damaged records are dropped, the ring's ends are found, the head's own WRITE and
DEALLOC records are settled in the order of their sequences. -/
def State.recover (s : State) : State :=
  let s := s.undoAll
  let s := (s.jnl.recs.filter (·.bad)).foldl State.badRec s
  let s := s.jnl.recs.foldl State.retag s
  let s := s.updJnl (fun j => { j with waiting := [], recs := j.recs.map (fun r => { r with settled := true, acked := false }) })
  let found := s.jnl.recs.length
  let s := match newestRec s.jnl.recs with
    | some r => s.updJnl (fun j => { j with head := r.line + r.lines, lap := newestLap j.recs })
    | none => s.updJnl (fun j => { j with head := 0, lap := match s.pair 33 with
        | some l => (l.getD 1 0 + 1) % 256
        | none => 0 })
  let s := s.recoverSeq
  let s := (((s.set F.JNL_RCV_FOUND found).set F.JNL_RCV_LOST 0).setb F.JNL_STS_RECOVERING false).setb F.JNL_STS_READY true
  let s := s.showJnl
  let own := bySeq (s.jnl.recs.filter (fun r => !r.mirror))
  let s := own.foldl (fun s r => if r.type == 1 then s.recoverWrite r else if r.type == 2 then s.recoverDealloc r else s) s
  s.recordMs 0x0A01 (w1 found ++ w1 (s.get F.JNL_RCV_LOST))

/-- The resumption of R134. -/
def State.resumeAdmin (s : State) : State :=
  let damaged := (List.range 32).filter (fun k => (Tab.find s.jnl.pairs k).isSome && (s.pair k).isNone)
  let s := damaged.foldl (fun s k =>
    let s := (s.updJnl (fun j => { j with pairs := Tab.del j.pairs k })).record 0x0F07 (w1 k)
    if k == 0 then (s.updBel (fun b => { b with sanitizeFail := true, sanStatus := 3 })).record 0x0F03 [] else s) s
  let s := ((List.range 31).map (· + 1)).foldl (fun s k => if s.inProgress k then s.resumeFormat k else s) s
  if s.inProgress 0 then (s.record 0x0F06 (w1 0)).sanitizeWork else s

/-- Step 12. -/
def State.kdlStep12 (s : State) : State :=
  let s := s.recover.resumeAdmin
  let s := s.set F.KDL_DURATION_US (min (2 ^ 32 - 1) ((s.cyc - s.kdl.doneAt) / 100))
  let s := (s.record 0x0102 (w1 (s.get F.KDL_DURATION_US))).set F.KDL_STS_STEP 0
  let s := (s.setb F.KDL_STS_BUSY false).degrade F.GLB_FAULT_ICH 0 (!s.getb F.ICH_CTL_EN)
  let s := (s.degrade F.GLB_FAULT_CRL 0 (!s.getb F.CRL_STS_LINK_UP)).updAnd (fun a => { a with stMark := s.now / stPeriod, rotMark := s.now / rotPeriod })
  s.bootSweep

/-! ### The sequence -/

/-- The units each step tests. A host port and a drive group work when they have trained (R328, R482). -/
def stepUnits (n : Nat) : List Nat :=
  match n with
  | 2 => [1]
  | 4 => [4]
  | 5 => [10]
  | 6 => [28, 29]
  | 8 => (List.range 16).map (36 + ·)
  | 9 => (List.range 9).map (19 + ·)
  | 10 => [30, 31, 32, 33, 34, 35, 53]
  | _ => []

/-- The link of a unit of step 10 is up; true for every other unit. -/
def State.trained (s : State) (u : Nat) : Bool :=
  if u == 30 || u == 31 then s.linkL0 (u - 30)
  else if 32 ≤ u && u < 36 then (List.range 8).any (fun i => s.getb (F.DRV_PORT_STS_DL_UP (8 * (u - 32) + i)))
  else if u == 53 then s.getb F.CRL_STS_LINK_UP
  else true

/-- A host port that fails its test stays in Detect.Quiet (R498). -/
def State.portOff (s : State) (p : Nat) : State := (s.updKdl (fun k => { k with off := k.off ++ [p] })).linkOff p

/-- The tests of a step: `bad` are the units that fail. A host port that only has not trained counts as missing and may still train. -/
def State.testUnits (s : State) (n : Nat) (bad : List Nat) : State :=
  let s := if n == 10 then (bad.filter (fun u => u == 30 || u == 31)).foldl (fun s u => s.portOff (u - 30)) s else s
  (stepUnits n).foldl (fun s u =>
    if bad.contains u || !s.trained u then s.unitMissing u
    else if s.missing u then s
    else s.degradeUnit u false) s

/-- The units a skipped step would test count as missing. -/
def State.skipUnits (s : State) (n : Nat) : State :=
  (stepUnits n).foldl (fun s u =>
    if s.missing u then s else (s.updKdl (fun k => { k with missing := k.missing ++ [u] })).degradeUnit u true) s

/-- Step `n` runs from now on. -/
def State.goStep (s : State) (n : Nat) : State :=
  let s := (s.set F.KDL_STS_STEP n).updKdl (fun k => { k with reachedAt := s.cyc })
  (if n == 12 then s.setb F.JNL_STS_RECOVERING true else s).pumpRelease

/-- Step 11: the head holds, with its host ports in Detect.Quiet (R42), or its slots start. -/
def State.kdlStep11 (s : State) : State :=
  let code := s.faultCode
  let s := (s.setMode F.GLB_FAULT_CODE code).updKdl (fun k => { k with faultN := code != 0 })
  if code == 0 then s.startSlots.goStep 12
  else
    let s := ((s.setb F.KDL_STS_HOLD true).setb F.KDL_STS_BUSY false).record 0x0F14 (w1 code)
    (s.linkOff 0).linkOff 1

/-- What the end of a step does. -/
def State.endStep (s : State) (n : Nat) (flash : Nat → Option Bytes) : State :=
  match n with
  | 1 => ((if s.get F.KDL_STS_REACH == reachCode .powerOn then s else s.recordReset).derive 0).goStep 2
  | 2 => s.kdlStep2.goStep 3
  | 3 => (s.kdlStep3 flash).goStep 4
  | 5 => s.kdlStep5.goStep 6
  | 7 =>
    let (s, ok) := s.kdlStep7 flash
    s.goStep (if ok then 8 else 3)
  | 8 => ((List.range 16).foldl (fun s k => if s.missing (36 + k) then s.fence k 0 else s) s).goStep 9
  | 9 => s.kdlStep9.goStep 10
  | 11 => s.kdlStep11
  | 12 => s.kdlStep12
  | n => s.goStep (n + 1)

/-- KINDLING_STEP_END: the running step ends (R497). `bad` are the units that fail the step's tests; `cs0` and `cs1` what the two chip selects of
the boot flash answer, none when they do not. -/
def execKindlingStepEnd (bad : List Nat) (cs0 cs1 : Option Bytes) (s : State) : Res :=
  let n := s.kdlStep
  .next (if n == 0 then s
  else if s.skips n then
    let s := s.skipUnits n
    (if n == 9 then s.kdlStep9 else s).goStep (n + 1)
  else if s.awaited.isSome then s
  else (s.testUnits n bad).endStep n (fun cs => if cs == 0 then cs0 else cs1))

end Sys2Proof.Machine
end

