-- ==== Sys2Proof/Machine/Plic.lean ====
section
/-! DEFINITION. The PLIC of Hearth (R536): which sources are pending, and its registers in the standard layout at 0x0C00_0000. -/

namespace Sys2Proof.Machine

/-- An error register's bits that its enable register lets through. -/
def State.errOn (s : State) (en : Fld) (base : Nat) : Bool :=
  (List.range en.width).any (fun i => s.bitOf en i && s.getb ⟨base, i, 1⟩)

/-- Some bit of an error register of `n` bits is set. -/
def State.errAny (s : State) (base n : Nat) : Bool := (List.range n).any (fun i => s.getb ⟨base, i, 1⟩)

/-- A pair serves the slot. -/
def State.slotActive (s : State) (k : Nat) : Bool := s.pairOf k != 15

/-- The cause of a source is present. Each block's source follows its error register, through its enable register where it has one. -/
def State.srcLevel (s : State) (i : Nat) : Bool :=
  if 1 ≤ i && i ≤ 16 then
    let n := i - 1
    s.get (F.STV_FAULT_STRAND n) != 0 || s.errOn (F.CZ_IRQ_EN_EN n) (R.CZ_ERR + 0x200000 * n)
  else if i == 17 then s.errOn F.ICH_IRQ_EN_EN R.ICH_ERR
  else if i == 18 then s.errAny R.DDX_ERR 7
  else if i == 19 then s.errOn F.JNL_IRQ_EN_EN R.JNL_ERR
  else if i == 20 then s.errOn F.CRL_IRQ_EN_EN R.CRL_ERR
  else if i == 21 then s.errOn F.TICK_IRQ_EN_EN R.TICK_ERR
  else if i == 22 then s.errOn F.DMP_IRQ_EN_EN R.DMP_ERR
  else if i == 23 then s.hrt.glbPend
  else if i == 24 then s.errAny R.KEY_ERR 2
  else if i == 25 then s.getb F.SOOT_STS_FULL || s.soot.unread
  else if i == 26 then !s.fwq.isEmpty || !s.bel.admin.isEmpty
  else if i == 27 then
    s.get F.GRT_STALL_STALLED != 0 || s.getb F.GRT_POOL_CFG_CFG_ERR || s.errAny R.GRT_WIN_ERR 6 || s.errAny (R.GRT_WIN_ERR + 0x10000) 6
  else if i == 28 || i == 29 then s.errAny (R.HST_ERR + 0x100000 * (i - 28)) 6
  else if i == 30 then s.errAny R.DRV_ERR 7
  else if i == 31 then s.get F.HRT_WDT_STS_WARN != 0
  else if 33 ≤ i && i ≤ 40 then
    let k := i - 33
    s.slotActive k && (s.errOn F.AND_IRQ_EN_EN R.AND_ERR || s.and.rotating.any (fun x => x.1 == k))
  else if 41 ≤ i && i ≤ 72 then (s.chan (i - 41)).full && s.get (F.MBX_CFG_RECEIVER (i - 41)) < 8
  else if 73 ≤ i && i ≤ 80 then
    let b := s.bank (i - 73)
    b.sevEmpty != 0 || b.sevLost != 0 || b.sevTo != 0
  else false

/-- A source is pending at the PLIC: its cause is present and no context has claimed it. -/
def State.plicPending (s : State) (i : Nat) : Bool := s.srcLevel i && !s.hrt.plicClaimed.contains i

/-- A context enables a source. -/
def State.plicEnabled (s : State) (ctx i : Nat) : Bool := Tab.getN s.hrt.plicEnable (ctx * 128 + i) != 0

/-- The source a claim of a context gets: the pending enabled one of the highest priority, the lowest number on a tie; 0 for none. -/
def State.plicBest (s : State) (ctx : Nat) : Nat :=
  let prio (i : Nat) := Tab.getN s.hrt.plicPrio i
  (List.range 128).foldl (fun b i => if s.plicEnabled ctx i && s.plicPending i && prio b < prio i then i else b) 0

/-- A context's external interrupt is pending: some source it enables is above its threshold. -/
def State.plicIrq (s : State) (ctx : Nat) : Bool :=
  Tab.getN s.hrt.plicThr ctx < Tab.getN s.hrt.plicPrio (s.plicBest ctx)

/-- A claim (R536): the source is not pending again until it is completed. The GLB source was raised by an event, which the claim takes. -/
def State.plicClaim (s : State) (ctx : Nat) : State × Nat :=
  let i := s.plicBest ctx
  if i == 0 then (s, 0)
  else ({ s with hrt := { s.hrt with plicClaimed := i :: s.hrt.plicClaimed, glbPend := s.hrt.glbPend && i != 23 } }, i)

/-- A completion: a source the context does not enable is ignored. -/
def State.plicComplete (s : State) (ctx i : Nat) : State :=
  if s.plicEnabled ctx i then { s with hrt := { s.hrt with plicClaimed := s.hrt.plicClaimed.filter (· != i) } } else s

/-- The 32 bits of a test from source `32 w` on. -/
def bitsOf (w : Nat) (p : Nat → Bool) : Nat := (List.range 32).foldl (fun v j => if p (32 * w + j) then v + 2 ^ j else v) 0

/-- What a 32-bit read at an offset of the PLIC returns, and what it does: priorities, pending bits, enables of 16 contexts, thresholds,
claims. -/
def State.plicRead (s : State) (o : Nat) : State × Nat :=
  if o < 512 then (s, Tab.getN s.hrt.plicPrio (o / 4))
  else if 0x1000 ≤ o && o < 0x1010 then (s, bitsOf ((o - 0x1000) / 4) s.plicPending)
  else if 0x2000 ≤ o && o < 0x2800 then
    if (o - 0x2000) % 128 < 16 then (s, bitsOf ((o - 0x2000) % 128 / 4) (s.plicEnabled ((o - 0x2000) / 128))) else (s, 0)
  else if 0x200000 ≤ o && o < 0x210000 then
    let ctx := (o - 0x200000) / 4096
    if o % 4096 == 0 then (s, Tab.getN s.hrt.plicThr ctx) else if o % 4096 == 4 then s.plicClaim ctx else (s, 0)
  else (s, 0)

/-- A 32-bit write at an offset of the PLIC. Source 0 does not exist; priorities and thresholds have three bits. -/
def State.plicWrite (s : State) (o v : Nat) : State :=
  if o < 512 then (if o < 4 then s else { s with hrt := { s.hrt with plicPrio := Tab.putN s.hrt.plicPrio (o / 4) (v % 8) } })
  else if 0x2000 ≤ o && o < 0x2800 && (o - 0x2000) % 128 < 16 then
    let base := (o - 0x2000) / 128 * 128 + (o - 0x2000) % 128 / 4 * 32
    { s with hrt := { s.hrt with plicEnable := (List.range 32).foldl (fun t j =>
      if (base + j) % 128 == 0 then t else Tab.putN t (base + j) (b2n (bit v j))) s.hrt.plicEnable } }
  else if 0x200000 ≤ o && o < 0x210000 then
    let ctx := (o - 0x200000) / 4096
    if o % 4096 == 0 then { s with hrt := { s.hrt with plicThr := Tab.putN s.hrt.plicThr ctx (v % 8) } }
    else if o % 4096 == 4 then s.plicComplete ctx v
    else s
  else s

end Sys2Proof.Machine
end

