-- ==== Sys2Proof/Machine/RegRead.lean ====
section
/-! DEFINITION. Reading registers (R8, R9, R11-R15): what the fields show that are not kept in the register store, the read of a
register or of one of its halves, and what a read does. -/

namespace Sys2Proof.Machine

/-! ### Shown fields

A field that another part of the state decides is computed when it is read: each list gives the lowest bit and the value of such
fields of the register at an address. -/

/-- A mask of the numbers in a list. -/
def maskOf (l : List Nat) : Nat := l.foldl setBit 0

/-- GRT (R34, R104) and the host ports' lines (R75). -/
def State.shownGrt (s : State) (a : Nat) : List (Nat × Nat) :=
  let p := (a - R.GRT_WIN_CFG) / 0x10000
  if a == R.GRT_FREE then [(0, s.sharedFree)]
  else if inArray a R.GRT_CH_USE 4 8 4 then
    let c := (a - R.GRT_CH_USE) / 4
    [(16, s.chanShared c), (0, s.chanTotal c)]
  else if inArray a R.GRT_WIN_STS 0x10000 2 4 then [(0, (s.win p).freeOrder.length)]
  else if inArray a R.GRT_SLOT_OWN 0x10000 2 8 then
    [(0, (s.flag p (s.get (F.GRT_SLOT_SEL_SLOT p))).word)]
  else if inArray a R.HST_BI_OCC 0x100000 2 4 then [(0, (s.port ((a - R.HST_BI_OCC) / 0x100000)).filter.length)]
  else []

/-- BEL (R137). -/
def State.shownBel (s : State) (a : Nat) : List (Nat × Nat) :=
  let x := s.vol (s.get F.BEL_VOL_SEL_VOL)
  if a == R.BEL_STS then [(5, s.formats)]
  else if a == R.BEL_DIRTY then [(0, s.dirty)]
  else if a == R.BEL_SEQ_NEXT then [(0, s.bel.seqNext)]
  else if a == R.BEL_VOL_CFG then [(31, b2n x.present), (30, x.owner), (29, b2n x.ro), (24, x.attach), (0, x.domain)]
  else if a == R.BEL_VOL_SIZE then [(0, x.size)]
  else []

/-- A program slot as STV_PSLOT shows it. -/
def PSlot.shown (p : PSlot) : List (Nat × Nat) :=
  [(62, p.state), (61, b2n p.unsigned), (48, p.key), (32, p.pgm), (16, p.version), (7, p.size64), (0, p.base64)]

/-- A strand as STV_STRAND_STS shows it. -/
def State.strandShown (s : State) (x : Strand) : List (Nat × Nat) :=
  let st := match x.st with
    | .idle => 0
    | .faulted => 3
    | .running => if s.waitOver x then 1 else 2
  [(30, st), (16, x.outstanding), (0, x.pc)]

/-- The cipher lock as CI_LOCK shows it. -/
def Stove.lockShown (v : Stove) : List (Nat × Nat) :=
  (match v.lock with
    | some h => [(31, 1), (29, h.strand), (28, b2n h.urgent), (12, h.slot)]
    | none => []) ++
  (match v.susp with
    | some h => [(27, 1), (25, h.strand), (0, h.slot)]
    | none => [])

/-- A digest context as DG_CTX shows it. -/
def DgCtx.shownCtx (c : DgCtx) : List (Nat × Nat) :=
  [(30, c.state), (28, c.alg), (26, c.strand), (25, b2n c.trunc), (24, b2n c.short), (16, c.resNum)]

/-- A Stove's registers (R169, R230, R301, R324): `o` is the offset within the Stove's block. -/
def State.shownStv (s : State) (n o : Nat) : List (Nat × Nat) :=
  let v := s.stove n
  let ctxs (p : DgCtx → Bool) := maskOf ((List.range 8).filter (fun c => p (s.ctx n c)))
  if o == 4 then [(4, v.queue.length), (0, maskOf ((List.range 4).filter (fun k => (s.strand n k).st == .running)))]
  else if inArray o 0x20 4 4 4 then s.strandShown (s.strand n ((o - 0x20) / 4))
  else if inArray o 0x40 4 4 4 then
    let x := s.strand n ((o - 0x40) / 4)
    [(24, x.fltCode), (0, x.fltPc)]
  else if inArray o 0x200 8 16 8 then (s.pslot n ((o - 0x200) / 8)).shown
  else if o == 0x504 then
    let w := (s.vol (s.get (F.STV_POL_SEL_VOL 0))).policy
    [(16, bits w 16 16), (8, bits w 8 1), (4, bits w 4 3), (3, bits w 3 1), (2, bits w 2 1), (1, bits w 1 1), (0, bits w 0 1)]
  else if o == 0x20004 then [(24, v.laneOff), (16, maskOf ((v.inUse 0).filter (· < 6))), (8, maskOf (v.inUse 1))]
  else if o == 0x40004 then [(16, maskOf (v.inUse 2)), (8, ctxs (fun c => c.state == 2)), (0, ctxs (fun c => c.state != 0))]
  else if inArray o 0x40100 4 8 4 then (s.ctx n ((o - 0x40100) / 4)).shownCtx
  else if inArray o 0x40180 4 8 4 then
    let c := s.ctx n ((o - 0x40180) / 4)
    [(8, c.vbn), (0, c.vb)]
  else if inArray o 0x40200 16 8 8 then [(0, (s.ctx n ((o - 0x40200) / 16)).decl)]
  else if inArray o 0x40208 16 8 8 then [(0, (s.ctx n ((o - 0x40208) / 16)).absd)]
  else if inArray o 0x40400 64 8 64 then [(0, leAt (s.ctx n ((o - 0x40400) / 64)).res ((o - 0x40400) % 64 / 8 * 8) 8)]
  else if o == 0x60004 then v.lockShown
  else []

/-- DDX (R261) and ICH (R286). -/
def State.shownIdx (s : State) (a : Nat) : List (Nat × Nat) :=
  let held (h n : Nat) := if s.holdsHalf h then n else 0
  if a == R.DDX_STS then [(31, b2n (s.released dCch && s.ddxUnits != 0)), (26, s.and.halves), (25, b2n s.ddxDirect)]
  else if a == R.DDX_DIR then [(24, s.ddxMax), (8, held 1 (s.half 1).depth), (0, held 0 (s.half 0).depth)]
  else if inArray a R.DDX_ENTRIES 8 2 8 then
    let h := (a - R.DDX_ENTRIES) / 8
    [(0, held h (s.half h).entries)]
  else if inArray a R.DDX_UNIQUE 8 2 8 then
    let h := (a - R.DDX_UNIQUE) / 8
    [(0, held h (s.half h).unique)]
  else if a == R.ICH_STS then [(30, b2n (max 1 (s.get F.ICH_WB_CFG_HIGH) ≤ s.ich.wb.length || (s.mode.bankedEntry && !s.ich.wb.isEmpty))), (0, s.ich.wb.length)]
  else if a == R.ICH_LOCKED then [(0, s.ichLocked)]
  else []

/-- The key store (R325). -/
def State.shownKey (s : State) (a : Nat) : List (Nat × Nat) :=
  let n := s.get F.KEY_SLOT_SEL_SLOT
  if a == R.KEY_STS then
    [(30, b2n s.keys.aroot.isSome), (29, 1), (0, maskOf ((List.range 16).filter (fun i => (Tab.find s.keys.slots i).isSome)))]
  else if a == R.KEY_SLOT_ATTR then
    match Tab.find s.keys.slots n with
    | some k => [(31, 1), (16, k.cls)]
    | none => []
  else if a == R.KEY_SLOT_KCV then
    match Tab.find s.keys.slots n with
    | some k => if n == 0 || n == 3 || n == 4 then [] else [(0, leAt (aesEnc (k.key.take 32) (zeroBytes 16)) 0 4)]
    | none => []
  else if inArray a R.KEY_DGEN 4 16 4 then [(0, Tab.getN s.keys.gens ((a - R.KEY_DGEN) / 4))]
  else []

/-- The drive side (R355). -/
def State.shownDrv (s : State) (a : Nat) : List (Nat × Nat) :=
  let d := s.get F.DRV_DRV_SEL_DRIVE
  let x := s.drive d
  if a == R.DRV_STS then
    [(31, b2n (s.getb F.DRV_CTL_LOCK && s.getb F.DRV_CTL_EN && s.drv.drives.all (fun e => !e.2.online || e.2.resv))),
     (30, b2n s.drv.rebuild.isSome), (0, s.drv.drives.countP (fun e => e.2.state == 2))]
  else if a == R.DRV_RBLD_LEFT then [(0, s.drv.stripes.countP (fun e => (e.2.state == 3 || e.2.state == 4) && e.2.owner == s.head))]
  else if inArray a R.DRV_PORT_STS 4 32 4 then
    let p := (a - R.DRV_PORT_STS) / 4
    [(31, b2n (s.portExists p)), (0, s.drv.drives.countP (fun e => e.2.present && e.2.port == p))]
  else if a == R.DRV_DRV_CFG then
    [(63, bits x.cfg 63 1), (62, bits x.cfg 62 1), (61, bits x.cfg 61 1), (56, bits x.cfg 56 5), (51, bits x.cfg 51 5),
     (43, bits x.cfg 43 8), (38, bits x.cfg 38 5), (35, bits x.cfg 35 3), (0, bits x.cfg 0 32)]
  else if a == R.DRV_DRV_STS then
    [(30, x.state), (29, b2n x.resv), (28, b2n (x.present && s.getb (F.DRV_PORT_STS_DL_UP x.port))),
     (0, s.drv.stripes.foldl (fun n e =>
       if e.2.state == 1 && e.2.owner == s.head then n + e.2.members.countP (fun m => m.1 == d) else n) 0)]
  else if a == R.DRV_DRV_CTL then [(0, b2n x.fail)]
  else []

/-- The TICK block (R446). -/
def State.shownTick (s : State) (a : Nat) : List (Nat × Nat) :=
  let x := s.stream (s.get F.TICK_RS_SEL_STREAM)
  if a == R.TICK_AT then [(0, s.now)]
  else if a == R.TICK_RS_CFG then [(31, b2n x.arm), (30, b2n x.final), (29, x.port), (12, x.encSlot), (0, x.macSlot)]
  else if a == R.TICK_RS_CUTS then [(24, x.cut2), (16, x.cut1), (15, b2n x.full), (0, x.segLog2)]
  else if a == R.TICK_RS_IDX then [(0, x.index)]
  else if a == R.TICK_RS_STS then [(30, x.state), (0, x.built)]
  else if a == R.TICK_RS_ARMNO then [(0, x.armNo)]
  else []

/-- The throttle sources of R511, as THR_SRC numbers them: DIP, PS1, THERM, FW. -/
def State.throttles (s : State) : Nat :=
  b2n s.dmp.dip.isSome + 2 * b2n (s.get F.BEL_STS_HEAD_PS == 1) + 4 * b2n s.thermOn + 8 * s.get F.DMP_CTL_FORCE_THR

/-- DMP_STS (R527). -/
def State.shownDmp (s : State) : List (Nat × Nat) :=
  let t := s.throttles
  [(31, b2n s.holdup), (26, s.qphase), (22, t), (21, b2n (t != 0)), (20, b2n (t != 0 && t != 2))]

/-- The mailboxes (R553): a requester sees its own bank. While NOC is unreleased every field reads zero (R551). -/
def State.shownMbx (s : State) (r : Req) (a : Nat) : List (Nat × Nat) :=
  let b := s.bank (reqAgent r)
  let c := (a - R.MBX_CFG) / 0x100
  let h := s.chan c
  if a == R.MBX_TX_RES then [(3, bits b.txRes 3 1), (2, bits b.txRes 2 1), (1, bits b.txRes 1 1), (0, bits b.txRes 0 1)]
  else if a == R.MBX_SEV_EMPTY then [(0, b.sevEmpty)]
  else if a == R.MBX_SEV_LOST then [(0, b.sevLost)]
  else if a == R.MBX_SEV_TO then [(0, b.sevTo)]
  else if inArray a R.MBX_TXBUF 8 8 8 then [(0, Tab.getN b.txbuf ((a - R.MBX_TXBUF) / 8))]
  else if inArray a R.MBX_STS 0x100 32 4 then [(31, b2n h.full), (0, h.num)]
  else if inArray a R.MBX_HDR 0x100 32 8 then [(0, h.hdr)]
  else if inArray a R.MBX_RX 0x100 32 64 then [(0, leAt h.data ((a - R.MBX_RX) % 0x100 / 8 * 8) 8)]
  else []

/-- Soot (R569). -/
def State.shownSoot (s : State) (a : Nat) : List (Nat × Nat) :=
  if a == R.SOOT_STS then [(16, s.soot.staged.length)]
  else if a == R.SOOT_STAMP then [(0, s.stamp)]
  else if a == R.SOOT_OPHRS then [(0, s.soot.opTime / 3600000)]
  else if inArray a R.SOOT_RD_DATA 4 16 4 then [(0, leAt (s.sootAt (s.get F.SOOT_RD_IDX_INDEX)) (a - R.SOOT_RD_DATA) 4)]
  else []

/-- The shown fields of the register at an address, as a requester sees them. -/
def State.shown (s : State) (r : Req) (a : Nat) : List (Nat × Nat) :=
  if 0x1000000 ≤ a && a < 0x3000000 then s.shownStv ((a - 0x1000000) / 0x200000) ((a - 0x1000000) % 0x200000)
  else if 0x700000 ≤ a && a < 0x800000 || 0x4000000 ≤ a then s.shownGrt a
  else if 0x600000 ≤ a && a < 0x700000 then s.shownBel a
  else if 0x800000 ≤ a && a < 0xA00000 then s.shownIdx a
  else if 0x3100000 ≤ a && a < 0x3200000 then s.shownKey a
  else if 0xD00000 ≤ a && a < 0x1000000 then s.shownDrv a
  else if 0x500000 ≤ a && a < 0x600000 then s.shownTick a
  else if 0x400000 ≤ a && a < 0x500000 then s.shownMbx r a
  else if 0x300000 ≤ a && a < 0x400000 then s.shownSoot a
  else if a == R.DMP_STS then s.shownDmp
  else if inArray a R.JNL_OPT_CUR 4 64 4 then [(0, leAt s.jnl.cur (a - R.JNL_OPT_CUR) 4)]
  else if a == R.HRT_MTIME then [(0, s.now)]
  else []

/-! ### Values -/

/-- The offsets of STV_PKH, STV_POL_SEL and STV_POL are reserved in every Stove but the first (R169). -/
def absentReg (a : Nat) : Bool :=
  0x1200000 ≤ a && a < 0x3000000 && 0x400 ≤ (a - 0x1000000) % 0x200000 && (a - 0x1000000) % 0x200000 < 0x508

/-- The register whose first byte is at an address of the expert register space or of a port's BAR4. -/
def regOf (a : Nat) : Option RegDesc := if absentReg a then none else regAt a

/-- The width of the register at an address, 0 where there is none. -/
def widthAt (a : Nat) : Nat := match regOf a with
  | some d => d.width
  | none => 0

/-- The value a field shows. A write-only field reads zero. -/
def State.fieldValue (s : State) (shown : List (Nat × Nat)) (a : Nat) (f : FieldDesc) : Nat :=
  if f.access == .wo then 0
  else match shown.find? (fun e => e.1 == f.lo) with
    | some e => e.2 % 2 ^ f.width
    | none => s.get ⟨a, f.lo, f.width⟩

/-- The value of the register at an address as a requester reads it; reserved fields and offsets read zero (R12). -/
def State.regValue (s : State) (r : Req) (a : Nat) : Nat :=
  if 0x400000 ≤ a && a < 0x500000 && !s.released dNoc then 0
  else match regOf a with
    | none => 0
    | some d =>
      let shown := s.shown r a
      d.fields.foldl (fun v f => v + s.fieldValue shown a f * 2 ^ f.lo) 0

/-! ### What a read does -/

/-- What a cleared RC field holds: the lowest voltage starts at 0xFFFF (R527), a counter at 0. -/
def rcCleared (a : Nat) (f : FieldDesc) : Nat := if inArray a R.DMP_RAIL_MON 8 9 4 then 2 ^ f.width - 1 else 0

/-- A change of a device event in the same cycle as the clearing read, applied to the cleared value: a counter's increments, or a
rail's voltage (R15). `chg` has the changes by the register whose field they change. -/
def rcChanged (a : Nat) (f : FieldDesc) (chg : Tab Nat) : Nat :=
  match Tab.find chg a with
  | none => rcCleared a f
  | some c => if inArray a R.DMP_RAIL_MON 8 9 4 then min c (rcCleared a f) else satAdd f.width 0 c

/-- A read of bits `lo` to `lo + w - 1` of a register clears every RC field with a bit among them. -/
def State.clearRc (s : State) (a lo w : Nat) (chg : Tab Nat) : State :=
  match regOf a with
  | none => s
  | some d => d.fields.foldl (fun s f =>
      if f.access == .rc && f.lo < lo + w && lo < f.lo + f.width then s.set ⟨a, f.lo, f.width⟩ (rcChanged a f chg) else s) s

/-- A read of SOOT_LOST acknowledges its rise at the PLIC (R569). -/
def State.readAck (s : State) (a : Nat) : State :=
  if a == R.SOOT_LOST then { s with soot := { s.soot with unread := false } } else s

/-- A requester's latches and staged halves. The spec does not say whether a hart in machine mode is another requester than the same hart
outside it: the model keeps one set for each agent (log 125). -/
def State.accOf (s : State) (r : Req) : AccSt := Tab.getD s.acc (reqAgent r) {}
def State.updAcc (s : State) (r : Req) (f : AccSt → AccSt) : State := { s with acc := Tab.upd s.acc (reqAgent r) {} f }

/-- The low-half read of a 64-bit register latches its high half (R9). -/
def State.readLow (s : State) (r : Req) (a : Nat) : State × Nat :=
  let v := s.regValue r a
  (s.updAcc r (fun x => { x with latch := Tab.put x.latch a (v / 2 ^ 32) }), v % 2 ^ 32)

/-- The high-half read of the 64-bit register at `a` returns the latched half and releases the latch, or the current half (R9). -/
def State.readHigh (s : State) (r : Req) (a : Nat) : State × Nat :=
  match Tab.find (s.accOf r).latch a with
  | some v => (s.updAcc r (fun x => { x with latch := Tab.del x.latch a }), v)
  | none => (s, s.regValue r a / 2 ^ 32)

/-- A secure-only register read by another requester returns zero and does nothing (R13). -/
def readRefused (r : Req) (a : Nat) : Bool := secureOnly a && !reqSecure r

/-- A 32-bit read. -/
def State.read32 (s : State) (r : Req) (a : Nat) (chg : Tab Nat) : State × Nat :=
  if readRefused r a then (s, 0)
  else if widthAt a == 32 then ((s.clearRc a 0 32 chg).readAck a, s.regValue r a)
  else if widthAt a == 64 then s.readLow r a
  else if widthAt (a - 4) == 64 && 4 ≤ a then s.readHigh r (a - 4)
  else (s, 0)

/-- A 64-bit read: of a 64-bit register, which releases the requester's latch on it, or of two 32-bit offsets (R9, R11). -/
def State.read64 (s : State) (r : Req) (a : Nat) (chg : Tab Nat) : State × Nat :=
  if widthAt a == 64 then
    if readRefused r a then (s, 0) else (s.updAcc r (fun x => { x with latch := Tab.del x.latch a }), s.regValue r a)
  else
    let lo := s.read32 r a chg
    let hi := lo.1.read32 r (a + 4) chg
    (hi.1, lo.2 + hi.2 * 2 ^ 32)

/-- A sub-word read returns the addressed bytes (R11). -/
def State.readSub (s : State) (r : Req) (a size : Nat) (chg : Tab Nat) : State × Nat :=
  let b := if widthAt (a / 8 * 8) == 64 then a / 8 * 8 else a / 4 * 4
  if readRefused r (a / 4 * 4) then (s, 0)
  else ((s.clearRc b (8 * (a - b)) (8 * size) chg).readAck b, bits (s.regValue r b) (8 * (a - b)) (8 * size))

/-! ### The space an address lies in -/

/-- The requester reaches the address: a host the expert register space and its own port's BAR0 and BAR4, a hart everything but BAR0, the
sideband the expert register space (R55, R56, R533). -/
def reaches (r : Req) (a : Nat) : Bool :=
  a < 0x4000000 ||
  (match r with
    | .hart _ _ => (0x4000000 ≤ a && a < 0x4200000) || 0xC000000 ≤ a
    | .sideband => false
    | .host p => (0x4000000 + 0x100000 * p ≤ a && a < 0x4100000 + 0x100000 * p) || (0x5000000 + 0x10000 * p ≤ a && a < 0x5010000 + 0x10000 * p))

/-- The security posture opens the DBG block (R583). -/
def State.dbgOpen (s : State) : Bool := !bit s.posture 0 && bit s.posture 2

/-! ### The TAPs (R582, R583): the table has no row for a scan -/

/-- The IDCODE of the compute die's TAP or the companion's. -/
def State.idcode (s : State) (companion : Bool) : Nat :=
  (if companion then s.get F.GLB_ID_COMP_STEP else s.get F.GLB_ID_STEP_MAJOR) * 2 ^ 28 + (if companion then 0x7161 else 0x7160) * 2 ^ 12 + 0x4E3 * 2 + 1

/-- What TDO gives when both IDCODE registers are scanned out: the compute die's is next to TDO, and each goes out from bit 0. -/
def State.idcodeScan (s : State) : List Bool :=
  (List.range 32).map (fun i => (s.idcode false).testBit i) ++ (List.range 32).map (fun i => (s.idcode true).testBit i)

/-- A TAP instruction acts as itself, and not as BYPASS. -/
def tapAlways : List String := ["BYPASS", "IDCODE", "SAMPLE/PRELOAD", "EXTEST", "EXTEST_PULSE", "EXTEST_TRAIN"]
def State.tapActs (s : State) (name : String) : Bool := tapAlways.contains name || s.dbgOpen

/-- A byte of GLB_RSRAM. One that firmware has not written since power-on is undefined (R484): a free value. -/
def State.rsramByte (s : State) (o : Nat) : Byte := (Tab.find s.rsram o).getD (Config.rsram s.soot.cyclesE o)

/-- The port of a BAR0 or BAR4 address and the offset in it. -/
def bar4 (a : Nat) : Nat × Nat := ((a - 0x4000000) / 0x100000, (a - 0x4000000) % 0x100000)
def bar0 (a : Nat) : Nat × Nat := ((a - 0x5000000) / 0x10000, (a - 0x5000000) % 0x10000)

/-- The address lies in Stove local memory. -/
def inLocal (a : Nat) : Bool := 0x1000000 ≤ a && a < 0x3000000 && 0x100000 ≤ (a - 0x1000000) % 0x200000

/-- A dword of a port's MSI-X table (R64): address, upper address, data, mask. -/
def State.msixRead (s : State) (p o : Nat) : Nat :=
  let e := Tab.getD (s.port p).msix (o / 16) {}
  if o % 16 == 0 then e.addr % 2 ^ 32 else if o % 16 == 4 then e.addr / 2 ^ 32 % 2 ^ 32 else if o % 16 == 8 then e.data else b2n e.masked

/-- The NVMe controller registers of BAR0 (R55, R59), in the layout of NVMe 2.0: CAP, VS, CC, CSTS, AQA, ASQ, ACQ. -/
def State.nvmeRead (s : State) (p o : Nat) : Nat :=
  let c := s.ctrl p
  let kept := s.get ⟨0x5000000 + 0x10000 * p + o, 0, 32⟩
  if o == 0 then 0x3C03FFFF
  else if o == 4 then 0x00400020
  else if o == 8 then 0x00020000
  else if o == 0x14 then kept / 2 * 2 + b2n c.en
  else if o == 0x1C then b2n c.rdy
  else if o == 0x24 || (0x28 ≤ o && o < 0x38) then kept
  else 0

/-- The CXL component registers that hold what the spec gives a port, in the layout of CXL 3.1 (R43, R49, R56; log 22): the capability array at
0x1000 with RAS, link, HDM decoder and IDE; the HDM decoder's enable, base, size and control (one way, Commit, Committed, Error Not Committed);
the IDE status of the CXL.cachemem stream, containment 1 and skid 2 for receive and transmit, 4 while it is not Secure. -/
def HostPort.component (h : HostPort) (o : Nat) : Option Nat :=
  if o == 0x1000 then some 0x04110001
  else if o == 0x1004 then some 0x10010002
  else if o == 0x1008 then some 0x20010004
  else if o == 0x100C then some 0x30010005
  else if o == 0x1010 then some 0x40010007
  else if o == 0x1304 then some (2 * b2n h.committed)
  else if o == 0x1310 then some (h.hdmBase % 2 ^ 32 / 2 ^ 28 * 2 ^ 28)
  else if o == 0x1314 then some (h.hdmBase / 2 ^ 32 % 2 ^ 32)
  else if o == 0x1318 then some (h.hdmSize % 2 ^ 32 / 2 ^ 28 * 2 ^ 28)
  else if o == 0x131C then some (h.hdmSize / 2 ^ 32 % 2 ^ 32)
  else if o == 0x1320 then some (b2n (h.committed || h.commitErr) * 2 ^ 9 + b2n h.committed * 2 ^ 10 + b2n h.commitErr * 2 ^ 11)
  else if o == 0x1408 then some (17 * (if !h.ideMem then 4 else if h.ideMemSkid then 2 else 1))
  else none

/-- A 32-bit read of BAR0, BAR4 outside the port registers, or the PLIC. What the other CXL component registers hold is CXL's, and the spec does
not give it: a free value. -/
def State.readOther (s : State) (a : Nat) : State × Nat :=
  if 0xC000000 ≤ a then s.plicRead (a - 0xC000000)
  else if a < 0x5000000 then
    let p := (bar4 a).1
    let o := (bar4 a).2
    if o < 0x10000 then
      match (s.port p).component o with
      | some v => (s, v)
      | none => (s.taken 1, s.freeValue.toNat % 2 ^ 32)
    else if 0x20000 ≤ o && o < 0x28000 then (s, s.msixRead p (o - 0x20000))
    else if 0x30000 ≤ o && o < 0x30100 then (s, bitsOf ((o - 0x30000) / 4) (s.port p).msixPend.contains)
    else (s, 0)
  else (s, s.nvmeRead (bar0 a).1 (bar0 a).2)

/-- The address is outside the registers of the register map. -/
def otherSpace (a : Nat) : Bool := 0x4000000 ≤ a && !(a < 0x4200000 && 0x40000 ≤ (bar4 a).2)

/-- A read of `size` bytes. A misaligned read of more than one byte returns a free value: R8 forbids it and R11 gives it no result. -/
def State.readAt (s : State) (r : Req) (a size : Nat) (chg : Tab Nat) : State × Nat :=
  if !reaches r a then (s, 0)
  else if a % size != 0 then (s.taken 1, s.freeValue.toNat % 2 ^ (8 * size))
  else if 0x10000 ≤ a && a < 0x20000 then (s, leNat ((List.range size).map (fun i => s.rsramByte (a - 0x10000 + i))))
  else if inLocal a then (s, leNat (Tab.readBytes (s.stove ((a - 0x1000000) / 0x200000)).lmem ((a - 0x1000000) % 0x100000) size))
  else if otherSpace a then
    let lo := s.readOther (a / 4 * 4)
    if size == 8 then
      let hi := lo.1.readOther (a + 4)
      (hi.1, lo.2 + hi.2 * 2 ^ 32)
    else (lo.1, bits lo.2 (a % 4 * 8) (8 * size))
  else if size == 8 then s.read64 r a chg
  else if size == 4 then s.read32 r a chg
  else s.readSub r a size chg

/-- An access that must be refused: the DBG block answers only while the posture opens it, and the spec says nothing of its registers
(R583). -/
def State.dbgStop (s : State) (r : Req) (a : Nat) : Bool :=
  0x3200000 ≤ a && a < 0x3300000 && s.canReach r && !s.notReady a && s.dbgOpen

/-- A read that reaches the device is answered: with its data, or with the error response of R24. -/
def State.answerRead (s : State) (r : Req) (a : Nat) (eff : State → State × Nat) : State :=
  if !s.canReach r then s
  else if s.notReady a then s.emit (.notReady (reqAgent r) a)
  else (eff s).1.emit (.readData (reqAgent r) a (eff s).2)

/-- RC_FIELD_READ: a read of `2 ^ lg` bytes at an address. An RC field it covers is cleared; `chg` has, by register, a device event's change of it in
the same cycle (R15). -/
def execRcFieldRead (r : Req) (a lg : Nat) (chg : List (Nat × Nat)) (s : State) : Res :=
  if s.dbgStop r a then .refused .debugUnit else .next (s.answerRead r a (fun s => s.readAt r a (2 ^ lg) chg))

/-- LOW_HALF_READ: the 32-bit read of the low half of the 64-bit register at `a` (R9); of any other offset, a 32-bit read. -/
def execLowHalfRead (r : Req) (a : Nat) (s : State) : Res :=
  if s.dbgStop r a then .refused .debugUnit else .next (s.answerRead r a (fun s => s.readAt r a 4 []))

/-- HIGH_HALF_READ: the 32-bit read of the high half of the 64-bit register at `a` (R9). -/
def execHighHalfRead (r : Req) (a : Nat) (s : State) : Res :=
  if s.dbgStop r (a + 4) then .refused .debugUnit else .next (s.answerRead r (a + 4) (fun s => s.readAt r (a + 4) 4 []))

end Sys2Proof.Machine
end

