-- ==== Sys2Proof/Machine/RegWrite.lean ====
section
/-! DEFINITION. Writing registers (R10-R15, R588): each field by its access code, its lock bit and the value its description takes, and
the registers whose write does more. -/

namespace Sys2Proof.Machine

/-! ### Plain fields -/

/-- The lock bit of the register at an address is set (R14). -/
def State.lockedAt (s : State) (a : Nat) : Bool :=
  let n := (a - 0x1000000) / 0x200000
  if a < 0x800000 then s.getb F.GRT_POOL_CFG_LOCK
  else if a < 0x900000 then s.getb F.ICH_CTL_LOCK
  else if a < 0xA00000 then s.getb F.DDX_CTL_LOCK
  else if a < 0xC00000 then s.getb F.AND_CTL_LOCK
  else if a < 0x1000000 then s.getb F.DRV_CTL_LOCK
  else s.getb (F.STV_CTL_DMA_LOCK n)

/-- Bits `lo` to `lo + w - 1` of a written value, 0 taken as 1. -/
def atLeast1 (v lo w : Nat) : Nat := if bits v lo w == 0 then putBits v lo w 1 else v

/-- Bits `lo` to `lo + w - 1` of a written value, taken as the nearest of `a` to `b`. -/
def clampBits (v lo w a b : Nat) : Nat := putBits v lo w (max a (min b (bits v lo w)))

/-- A written value with the bits whose write the description says is ignored as the register holds them (R588): the low bits of a DDR
address that is 4 KiB aligned, and words 2 and 63 of the staged options. -/
def State.keepIgnored (s : State) (a v : Nat) : Nat :=
  if inArray a R.STV_LOAD_ADDR 0x200000 16 8 || a == R.DRV_STRIPE_BASE then putBits v 0 12 (s.get ⟨a, 0, 64⟩)
  else if a == R.JNL_OPT_DATA + 4 * 2 || a == R.JNL_OPT_DATA + 4 * 63 then s.get ⟨a, 0, 32⟩
  else v

/-- The value a written value is taken as (R588). -/
def takenAs (a v : Nat) : Nat :=
  if a == R.GRT_STALL_TO || inArray a R.HST_BI_TO 0x100000 2 4 || a == R.DRV_CMD_TO || a == R.TICK_PTM_INT || a == R.HRT_WDT_TO then
    atLeast1 v 0 16
  else if a == R.DDX_BUDGET then clampBits (atLeast1 v 8 8) 0 6 0 32
  else if a == R.ICH_WB_CFG then clampBits (atLeast1 v 0 16) 16 6 1 63
  else if a == R.DRV_GEOM then atLeast1 v 20 4
  else if a == R.DRV_RBLD_CFG then clampBits v 0 8 1 100
  else if a == R.JNL_CTL then clampBits v 0 16 0x400 0xFFFF
  else if a == R.CRL_TIMERS then clampBits (atLeast1 (atLeast1 (atLeast1 v 24 8) 16 8) 8 8) 0 8 1 19
  else if a == R.CRL_MIR_CFG then atLeast1 v 0 16
  else if a == R.TICK_SNAP_RING then clampBits v 0 5 10 24
  else if inArray a R.TICK_CS_PER 16 16 8 then (if v == 0 then 0 else max v 1000000)
  else if a == R.AND_FB_CFG then atLeast1 (atLeast1 v 8 8) 0 8
  else if inArray a R.MBX_CFG 0x100 32 4 then
    let v := if 9 < bits v 27 4 then putBits v 27 4 0 else v
    if a < R.MBX_CFG + 0x800 then clrBit (clrBit v 10) 11 else v
  else if a == R.SOOT_CLR_CFG then atLeast1 v 8 8
  else v

/-- A write of one field (R14); `same` has the W1C bits that a device event sets in the same cycle, which end set (R15). A write-only field
keeps what is written only where an action reads it later. -/
def State.writeField (s : State) (a v same : Nat) (f : FieldDesc) : State :=
  let fl : Fld := ⟨a, f.lo, f.width⟩
  let x := bits v f.lo f.width
  match f.access with
  | .rw | .rws | .rwe => s.set fl x
  | .w1c => s.set fl ((s.get fl - (s.get fl &&& x)) ||| bits same f.lo f.width)
  | .w1s => s.set fl (s.get fl ||| x)
  | .lk => if s.lockedAt a then s else s.set fl x
  | .wo => if inArray a R.KEY_DATA 4 16 4 || inArray a R.SOOT_CLR_RESP 4 8 4 then s.set fl x else s
  | .ro | .rc => s

/-- A write of every field by its access code. -/
def State.writePlain (s : State) (a v same : Nat) : State :=
  match regOf a with
  | none => s
  | some d =>
    let v := takenAs a (s.keepIgnored a v)
    d.fields.foldl (fun s f => s.writeField a v same f) s

/-- A write of the W1C fields alone. -/
def State.writeW1c (s : State) (a v same : Nat) : State :=
  match regOf a with
  | none => s
  | some d => d.fields.foldl (fun s f => if f.access == .w1c then s.writeField a v same f else s) s

/-! ### Registers whose write does more

Each function answers none where a plain write is all. -/

/-- The state after an effect that answers a next state. -/
def stepTo (x : Res) (s : State) : State :=
  match x with
  | .next t => t
  | _ => s

/-- GRT and the host ports. -/
def State.writeGrt (s : State) (r : Req) (a v same : Nat) : Option State :=
  let p := (a - R.GRT_WIN_CFG) / 0x10000
  let o := (a - R.GRT_WIN_CFG) % 0x10000
  if a == R.GRT_POOL_CFG then
    let s := s.writeW1c a v same
    some (if bit v 0 then s.poolLock else s)
  else if inArray a R.GRT_CH_RSV 4 8 4 then some (s.writeRsv ((a - R.GRT_CH_RSV) / 4) v)
  else if inArray a R.HST_CTL 0x100000 2 4 then some (s.writeHstCtl ((a - R.HST_CTL) / 0x100000) v)
  else if a < R.GRT_WIN_CFG || R.GRT_WIN_CFG + 0x20000 ≤ a then none
  else if o == 0 then some (s.writeWinCfg p v)
  else if o == 0x18 then some (if s.getb (F.GRT_WIN_CFG_EN p) then s else s.set (F.GRT_WIN_SLOTS_SLOTS p) v)
  else if o == 0x400 then some (stepTo (execDoneDoorbell r p ⟨v % 2 ^ 16, false⟩ s) s)
  else if 0x100 ≤ o && o < 0x300 then
    let k := (o - 0x100) / 8
    some (if o % 8 == 0 then stepTo (execCmdDoorbell r p k (v % 2 ^ 16) s) s else stepTo (execCplDoorbell r p k (v % 2 ^ 16) s) s)
  else none

/-- A write to the selected volume's BEL_VOL_CFG (R137, R363): DOMAIN is fixed while the volume is PRESENT, unless it is suspended; the size
of a volume that is no longer PRESENT reads 0. A volume that becomes PRESENT takes the policy word of a new volume (R160); one whose create is
with firmware stays not PRESENT (R123). -/
def State.writeVolCfg (s : State) (v : Nat) : State :=
  let n := s.get F.BEL_VOL_SEL_VOL
  (s.updVol n (fun x => { x with
    present := bit v 31 && !s.creating n, policy := if bit v 31 && !s.creating n && !x.present then 0x7D else x.policy, owner := bits v 30 1, ro := bit v 29, attach := bits v 24 4
    domain := if x.present && x.susp == 0 then x.domain else bits v 0 12
    size := if x.present && !bit v 31 then 0 else x.size })).restored n 0

/-- A write to the selected volume's BEL_VOL_SIZE: ignored while the volume is PRESENT, unless it is suspended. -/
def State.writeVolSize (s : State) (v : Nat) : State :=
  let n := s.get F.BEL_VOL_SEL_VOL
  if (s.vol n).present && (s.vol n).susp == 0 then s else (s.updVol n (fun x => { x with size := v % 2 ^ 39 })).restored n 1

/-- BEL. -/
def State.writeBel (s : State) (a v : Nat) : Option State :=
  if a == R.BEL_DIRTY_BOUND then some (s.checkHold (fun s => s.writeBound v))
  else if a == R.BEL_SEQ_NEXT then some (s.writeSeqNext v)
  else if a == R.BEL_VOL_CFG then some (s.writeVolCfg v)
  else if a == R.BEL_VOL_SIZE then some (s.writeVolSize v)
  else none

/-- A Stove's registers; `o` is the offset within its block. -/
def State.writeStv (s : State) (n o a v same : Nat) : Option State :=
  if o == 0 then
    let s := s.writePlain a (clrBit v 1) 0
    let s := if bit v 1 then s.fence n 0 else s
    some s.retryHeld
  else if o == 8 then some (s.clearStrands n (v % 16 - (v % 16 &&& same)))
  else if o == 0x108 then some (s.writeLoadCtl n v)
  else if o == 0x504 then some (s.writePolicy v)
  else if inArray o 0x800 4 16 4 then some (s.writePost n ((o - 0x800) / 4) v)
  else none

/-- DDX and ICH. -/
def State.writeIdx (s : State) (a v : Nat) : Option State :=
  if a == R.DDX_GEN then some s
  else if a == R.DDX_RECLAIM then some (if bit v 31 then s.reclaimGo else s)
  else if a == R.ICH_CTL then
    let s := if bit v 1 then s.setb F.ICH_CTL_LOCK true else s
    some (s.writeIchEn (bit v 0))
  else if a == R.ICH_MNT_CTL then some (s.writeMnt v)
  else none

/-- The drive side. -/
def State.writeDrv (s : State) (a v same : Nat) : Option State :=
  let d := s.get F.DRV_DRV_SEL_DRIVE
  if a == R.DRV_CTL then
    let s := (s.writeW1c a v same).writeDrvEn (bit v 0)
    some (if bit v 1 then s.drvLock else s)
  else if a == R.DRV_DRV_CFG then some (s.writeDrvCfg d v)
  else if a == R.DRV_DRV_CTL then some (if bit v 0 then s.writeDrvFail d else s)
  else none

/-- KEY, JNL and CRL. -/
def State.writeKeyJnlCrl (s : State) (a v : Nat) : Option State :=
  if a == R.KEY_SLOT_CMD then some (if bit v 31 then s.keyCmd (bits v 16 4) else s.set F.KEY_SLOT_CMD_OP (bits v 16 4))
  else if a == R.JNL_CTL then some ((s.writePlain a v 0).acceptWaiting)
  else if a == R.JNL_OPT_CMD then some (if bit v 31 then s.optWrite false else s)
  else if a == R.CRL_CTL then some (s.writeCrlCtl v)
  else if a == R.CRL_FENCE then some (s.writeFence v)
  else none

/-- The TICK block: the cut log's and the floor's writes are ignored; stream registers act on the selected stream, whose segment size above
5 is taken as 5. -/
def State.writeTick (s : State) (a v : Nat) : Option State :=
  let i := s.get F.TICK_RS_SEL_STREAM
  if a == R.TICK_CTL then some ((s.set F.TICK_CTL_SRC v).setCutEn (bit v 2)).partnerSrc
  else if a == R.TICK_FLOOR || inArray a R.TICK_CLOG_T 16 64 16 then some s
  else if a == R.TICK_CLOG_CTL then some (s.clogConsume (bits v 8 6))
  else if a == R.TICK_RS_CFG then some (s.writeRsCfg v)
  else if a == R.TICK_RS_CUTS then some (s.updStream i (fun x => { x with
    cut2 := bits v 24 6, cut1 := bits v 16 6, full := bit v 15, segLog2 := min 5 (v % 8) }))
  else if a == R.TICK_RS_IDX then some (s.updStream i (fun x => { x with index := v % 2 ^ 32 }))
  else none

/-- GLB, KDL, DMP and AND. -/
def State.writeGlb (s : State) (r : Req) (a v same : Nat) : Option State :=
  if a == R.GLB_MODE_REQ then some (s.writeModeReq v)
  else if a == R.KDL_RST_CMD then some (stepTo (execResetCommand r v s) s)
  else if a == R.KDL_REL_FORCE then some (s.writeRelForce v)
  else if a == R.KDL_MIN_SVN then some (s.writeMinSvn v)
  else if a == R.DMP_CTL then some (s.writeDmpCtl v)
  else if a == R.DMP_ERR then some ((s.writePlain a v same).checkHold id)
  else if a == R.DMP_HOLDUP then some (s.writeHoldup v)
  else if a == R.DMP_QTEST then some (s.writeQtest v)
  else if a == R.DMP_QLAST then some s
  else if a == R.DMP_THERM then some (s.writePlain a v same).thermCheck
  else if a == R.AND_ROT_ACK then some (s.writeRotAck v)
  else if a == R.AND_FB_CTL then some (s.writeFbCtl v)
  else none

/-- A write to HRT_WDT_CTL: the counters start when the watchdog is enabled (R538, R539). -/
def State.writeWdtCtl (s : State) (v : Nat) : State :=
  if bit v 0 && !s.getb F.HRT_WDT_CTL_EN then (List.range 8).foldl State.wdtKick (s.setb F.HRT_WDT_CTL_EN true) else s

/-- A write to a slot's HRT_MTIMECMP: its timer interrupt is pending while the AT copy is at or above it (R537). -/
def State.writeTimecmp (s : State) (k v : Nat) : State :=
  let s := s.set (F.HRT_MTIMECMP_VALUE k) v
  let rest := s.hrt.mtip.filter (· != k)
  { s with hrt := { s.hrt with mtip := if v ≤ s.now then k :: rest else rest } }

/-- HRT. -/
def State.writeHrt (s : State) (r : Req) (a v : Nat) : Option State :=
  if a == R.HRT_WDT_CTL then some (s.writeWdtCtl v)
  else if a == R.HRT_WDT_RESTART then some (stepTo (execWdtRestart r v s) s)
  else if a == R.HRT_PARK then some (stepTo (execHrtPark r v s) s)
  else if inArray a R.HRT_WDT_KICK 4 8 4 then some (stepTo (execWdtKick r ((a - R.HRT_WDT_KICK) / 4) s) s)
  else if inArray a R.HRT_MTIMECMP 8 8 8 then some (s.writeTimecmp ((a - R.HRT_MTIMECMP) / 8) v)
  else none

/-- The mailboxes: a requester writes its own bank. While NOC is unreleased only a send has an effect (R551). -/
def State.writeMbx (s : State) (r : Req) (a v same : Nat) : Option State :=
  let g := reqAgent r
  let c := (a - R.MBX_CFG) / 0x100
  let w1c (x : Nat) := (x - (x &&& v % 2 ^ 32)) ||| same % 2 ^ 32
  if inArray a R.MBX_SEND 0x100 32 4 then some (stepTo (execMbxSend r c v s) s)
  else if !s.released dNoc then some s
  else if inArray a R.MBX_ACK 0x100 32 4 then some (stepTo (execMbxAck r c v s) s)
  else if a == R.MBX_SEV_EMPTY then some (s.updBank g (fun b => { b with sevEmpty := w1c b.sevEmpty }))
  else if a == R.MBX_SEV_LOST then some (s.updBank g (fun b => { b with sevLost := w1c b.sevLost }))
  else if a == R.MBX_SEV_TO then some (s.updBank g (fun b => { b with sevTo := w1c b.sevTo }))
  else if inArray a R.MBX_TXBUF 8 8 8 then
    some (s.updBank g (fun b => { b with txbuf := Tab.putN b.txbuf ((a - R.MBX_TXBUF) / 8) (v % 2 ^ 64) }))
  else none

/-- Soot: STS and LOST are not writable; SOOT_CTL flushes and freezes, and a 0 in FREEZE ends a freeze; SOOT_CLR_CTL starts a challenge or a
clear (R559, R563, R565). -/
def State.writeSoot (s : State) (r : Req) (a v : Nat) : Option State :=
  if a == R.SOOT_STS || a == R.SOOT_LOST then some s
  else if a == R.SOOT_CTL then
    let s := if bit v 1 then stepTo (execSootFlushReq r s) s else s
    some (if bit v 0 then stepTo (execSootFreeze r s) s else stepTo (execSootUnfreeze r s) s)
  else if a == R.SOOT_CLR_CTL then
    let op := bits v 16 2
    some (if bit v 31 && op == 1 then stepTo (execSootChallenge r s) s
      else if bit v 31 && op == 2 then stepTo (execSootRespond r s) s
      else if op == 1 || op == 2 then s.set F.SOOT_CLR_CTL_OP op
      else s)
  else none

/-- What a write does beyond its plain fields, by block. -/
def State.writeSpecial (s : State) (r : Req) (a v same : Nat) : Option State :=
  if 0x1000000 ≤ a && a < 0x3000000 then s.writeStv ((a - 0x1000000) / 0x200000) ((a - 0x1000000) % 0x200000) a v same
  else if 0x700000 ≤ a && a < 0x800000 || 0x4000000 ≤ a then s.writeGrt r a v same
  else if 0x600000 ≤ a && a < 0x700000 then s.writeBel a v
  else if 0x800000 ≤ a && a < 0xA00000 then s.writeIdx a v
  else if 0xD00000 ≤ a && a < 0x1000000 then s.writeDrv a v same
  else if 0x3100000 ≤ a || 0xC00000 ≤ a && a < 0xD00000 || 0xA00000 ≤ a && a < 0xB00000 then s.writeKeyJnlCrl a v
  else if 0x500000 ≤ a && a < 0x600000 then s.writeTick a v
  else if 0x3000000 ≤ a then s.writeHrt r a v
  else if 0x400000 ≤ a && a < 0x500000 then s.writeMbx r a v same
  else if 0x300000 ≤ a && a < 0x400000 then s.writeSoot r a v
  else s.writeGlb r a v same

/-- A whole write of the register at an address. -/
def State.writeReg (s : State) (r : Req) (a v same : Nat) : State :=
  if widthAt a == 0 then s else (s.writeSpecial r a v same).getD (s.writePlain a v same)

/-! ### Halves (R10) -/

/-- The low-half write of the 64-bit register at `a` is staged. -/
def State.stageLow (s : State) (r : Req) (a v : Nat) : State :=
  s.updAcc r (fun x => { x with staged := Tab.put x.staged a (v % 2 ^ 32) })

/-- The high-half write commits the staged low half with it, or keeps the low half the register has. -/
def State.commitHigh (s : State) (r : Req) (a v same : Nat) : State :=
  let lo := (Tab.find (s.accOf r).staged a).getD (s.regValue r a % 2 ^ 32)
  (s.updAcc r (fun x => { x with staged := Tab.del x.staged a })).writeReg r a (v % 2 ^ 32 * 2 ^ 32 + lo) same

/-- The full write of a 64-bit register discards a staged low half. -/
def State.write64 (s : State) (r : Req) (a v same : Nat) : State :=
  (s.updAcc r (fun x => { x with staged := Tab.del x.staged a })).writeReg r a (v % 2 ^ 64) same

/-! ### The space an address lies in -/

/-- A dword of a port's MSI-X table: a vector that becomes unmasked sends the interrupt its pending bit records (R64). -/
def State.msixWrite (s : State) (p o v : Nat) : State :=
  let n := o / 16
  let s := s.updPort p (fun h => { h with msix := Tab.upd h.msix n {} (fun e =>
    if o % 16 == 0 then { e with addr := e.addr / 2 ^ 32 * 2 ^ 32 + v % 2 ^ 32 / 4 * 4 }
    else if o % 16 == 4 then { e with addr := v % 2 ^ 32 * 2 ^ 32 + e.addr % 2 ^ 32 }
    else if o % 16 == 8 then { e with data := v % 2 ^ 32 }
    else { e with masked := bit v 0 }) })
  if o % 16 == 12 && !bit v 0 && (s.port p).msixPend.contains n then
    (s.updPort p (fun h => { h with msixPend := h.msixPend.filter (· != n) })).irq p n
  else s

/-- A dword of a port's NVMe registers (R55): CC.EN enables or resets the controller with the admin queue sizes of AQA; doorbells. -/
def State.nvmeWrite (s : State) (p o v : Nat) : State :=
  let at_ (k : Nat) : Fld := ⟨0x5000000 + 0x10000 * p + k, 0, 32⟩
  let aqa := s.get (at_ 0x24)
  if o == 0x14 then
    let t := s.set (at_ o) v
    if bit v 0 then stepTo (execCcEnSet p (bits v 11 3) (bits aqa 0 12 + 1) (bits aqa 16 12 + 1) t) t else stepTo (execCcEnClear p t) t
  else if o == 0x24 || (0x28 ≤ o && o < 0x38) then (if (s.ctrl p).en then s else s.set (at_ o) v)
  else if 0x1000 ≤ o && o < 0x9008 then
    let q := (o - 0x1000) / 8
    if o % 8 == 0 then stepTo (execSqDoorbell p q (v % 2 ^ 16) s) s else stepTo (execCqDoorbell p q (v % 2 ^ 16) s) s
  else s

/-- A 32-bit write to BAR0, to BAR4 outside the port registers, or to the PLIC. The CXL component registers take effect through HDM_COMMIT and
IDE_KEY_PROGRAM alone. -/
def State.writeOther (s : State) (a v : Nat) : State :=
  if 0xC000000 ≤ a then s.plicWrite (a - 0xC000000) v
  else if a < 0x5000000 then
    let o := (bar4 a).2
    if 0x20000 ≤ o && o < 0x28000 then s.msixWrite (bar4 a).1 (o - 0x20000) v else s
  else s.nvmeWrite (bar0 a).1 (bar0 a).2 v

/-- A write of bytes to GLB_RSRAM. -/
def putRsram (m : Tab Byte) (o : Nat) : Bytes → Tab Byte
  | [] => m
  | b :: bs => putRsram (Tab.put m o b) (o + 1) bs

/-- A write of `size` bytes: misaligned or sub-word writes to registers are ignored, as is a 64-bit write over two 32-bit offsets (R11). -/
def State.writeAt (s : State) (r : Req) (a size v same : Nat) : State :=
  if !reaches r a || a % size != 0 then s
  else if 0x10000 ≤ a && a < 0x20000 then { s with rsram := putRsram s.rsram (a - 0x10000) (leBytes size v) }
  else if inLocal a then s.lmWrite ((a - 0x1000000) / 0x200000) ((a - 0x1000000) % 0x100000) (leBytes size v)
  else if size == 8 then
    if otherSpace a then (s.writeOther a (v % 2 ^ 32)).writeOther (a + 4) (v / 2 ^ 32)
    else if widthAt a == 64 then s.write64 r a v same
    else s
  else if size != 4 then s
  else if otherSpace a then s.writeOther a v
  else if widthAt a == 32 then s.writeReg r a (v % 2 ^ 32) same
  else if widthAt a == 64 then s.stageLow r a v
  else if 4 ≤ a && widthAt (a - 4) == 64 then s.commitHigh r (a - 4) v same
  else s

/-- REGISTER_WRITE: a write of `2 ^ lg` bytes at an address; `same` has the bits that device events set in the same cycle. -/
def execRegisterWrite (r : Req) (a lg value same : Nat) (s : State) : Res :=
  if s.dbgStop r a then .refused .debugUnit else .next (s.withWrite r a (fun s => s.writeAt r a (2 ^ lg) value same))

/-- LOW_HALF_WRITE: a 32-bit write of the low half of the 64-bit register at `a` (R10); of any other offset, a 32-bit write. -/
def execLowHalfWrite (r : Req) (a value : Nat) (s : State) : Res :=
  if s.dbgStop r a then .refused .debugUnit else .next (s.withWrite r a (fun s => s.writeAt r a 4 value 0))

/-- HIGH_HALF_WRITE: a 32-bit write of the high half of the 64-bit register at `a` (R10). -/
def execHighHalfWrite (r : Req) (a value : Nat) (s : State) : Res :=
  if s.dbgStop r (a + 4) then .refused .debugUnit else .next (s.withWrite r (a + 4) (fun s => s.writeAt r (a + 4) 4 value 0))

end Sys2Proof.Machine
end

