-- ==== Sys2Proof/Machine/Dispatch.lean ====
section
/-! DEFINITION. The meaning of each command, one arm per row of the opcode table. -/

namespace Sys2Proof.Machine

def exec (i : Instr) (s : State) : Host.Outcome State Fault Refusal :=
  match i with
  | .registerWrite r a lg value same => Sys2Proof.Machine.execRegisterWrite r a lg value same s
  | .rcFieldRead r a lg chg => Sys2Proof.Machine.execRcFieldRead r a lg chg s
  | .lowHalfRead r a => Sys2Proof.Machine.execLowHalfRead r a s
  | .highHalfRead r a => Sys2Proof.Machine.execHighHalfRead r a s
  | .lowHalfWrite r a value => Sys2Proof.Machine.execLowHalfWrite r a value s
  | .highHalfWrite r a value => Sys2Proof.Machine.execHighHalfWrite r a value s
  | .grateAllocRequest chan user => Sys2Proof.Machine.execGrateAllocRequest chan user s
  | .grateGrant => Sys2Proof.Machine.execGrateGrant s
  | .grateFree g => Sys2Proof.Machine.execGrateFree g s
  | .grtStall c => Sys2Proof.Machine.execGrtStall c s
  | .grateSpill => Sys2Proof.Machine.execGrateSpill s
  | .poolLock r => Sys2Proof.Machine.execPoolLock r s
  | .chRsvWrite r c value => Sys2Proof.Machine.execChRsvWrite r c value s
  | .unitLostReset u => Sys2Proof.Machine.execUnitLostReset u s
  | .payloadLands id payload => Sys2Proof.Machine.execPayloadLands id payload s
  | .writeComplete id => Sys2Proof.Machine.execWriteComplete id s
  | .hostLinkUp p rate width flit => Sys2Proof.Machine.execHostLinkUp p rate width flit s
  | .hostLinkRecovery p rate width => Sys2Proof.Machine.execHostLinkRecovery p rate width s
  | .viralReceived p => Sys2Proof.Machine.execViralReceived p s
  | .gpf g => Sys2Proof.Machine.execGpf g s
  | .hdmCommit p base size ways => Sys2Proof.Machine.execHdmCommit p base size ways s
  | .hostMemRequest p line write track ecc => Sys2Proof.Machine.execHostMemRequest p line write track ecc s
  | .birsp p line wb keep => Sys2Proof.Machine.execBirsp p line wb keep s
  | .biTimeout p line => Sys2Proof.Machine.execBiTimeout p line s
  | .hostLineInvalidate p key => Sys2Proof.Machine.execHostLineInvalidate p key s
  | .ideFail p => Sys2Proof.Machine.execIdeFail p s
  | .ideKeyProgram p stream key => Sys2Proof.Machine.execIdeKeyProgram p stream key s
  | .ptmDialog masterNs capture => Sys2Proof.Machine.execPtmDialog masterNs capture s
  | .ptmLoss => Sys2Proof.Machine.execPtmLoss s
  | .hostPerst p ns => Sys2Proof.Machine.execHostPerst p ns s
  | .hostLinkDown p => Sys2Proof.Machine.execHostLinkDown p s
  | .hotReset p => Sys2Proof.Machine.execHotReset p s
  | .cxlReset p => Sys2Proof.Machine.execCxlReset p s
  | .portEnWrite r p value => Sys2Proof.Machine.execPortEnWrite r p value s
  | .flr p => Sys2Proof.Machine.execFlr p s
  | .ccEnClear p => Sys2Proof.Machine.execCcEnClear p s
  | .portResetRelease p => Sys2Proof.Machine.execPortResetRelease p s
  | .functionReady p cache ptm msix mask => Sys2Proof.Machine.execFunctionReady p cache ptm msix mask s
  | .winEnable r p value => Sys2Proof.Machine.execWinEnable r p value s
  | .winDisable r p value => Sys2Proof.Machine.execWinDisable r p value s
  | .windowReady p => Sys2Proof.Machine.execWindowReady p s
  | .winSizeWrite r p value => Sys2Proof.Machine.execWinSizeWrite r p value s
  | .cmdDoorbell q p r index => Sys2Proof.Machine.execCmdDoorbell q p r index s
  | .cplDoorbell q p r index => Sys2Proof.Machine.execCplDoorbell q p r index s
  | .doneDoorbell q p slot => Sys2Proof.Machine.execDoneDoorbell q p slot s
  | .winNop p r => Sys2Proof.Machine.execWinNop p r s
  | .winWrite p r => Sys2Proof.Machine.execWinWrite p r s
  | .winRead p r => Sys2Proof.Machine.execWinRead p r s
  | .winFlush p r => Sys2Proof.Machine.execWinFlush p r s
  | .winDeallocate p r => Sys2Proof.Machine.execWinDeallocate p r s
  | .replGet p r => Sys2Proof.Machine.execReplGet p r s
  | .slotAssign p => Sys2Proof.Machine.execSlotAssign p s
  | .slotRdata p slot seg => Sys2Proof.Machine.execSlotRdata p slot seg s
  | .slotConsume p slot => Sys2Proof.Machine.execSlotConsume p slot s
  | .slotTimeout p slot => Sys2Proof.Machine.execSlotTimeout p slot s
  | .slotDataFault p slot ecc => Sys2Proof.Machine.execSlotDataFault p slot ecc s
  | .ringCompletionPost p r => Sys2Proof.Machine.execRingCompletionPost p r s
  | .sqDoorbell p q tail => Sys2Proof.Machine.execSqDoorbell p q tail s
  | .cqDoorbell p q head => Sys2Proof.Machine.execCqDoorbell p q head s
  | .cqEntryPost p q => Sys2Proof.Machine.execCqEntryPost p q s
  | .nvmeRead p q cid nsid slba n sgl opc => Sys2Proof.Machine.execNvmeRead p q cid nsid slba n sgl opc s
  | .nvmeWrite p q cid nsid slba n sgl bucket => Sys2Proof.Machine.execNvmeWrite p q cid nsid slba n sgl bucket s
  | .nvmeFlush p q cid nsid => Sys2Proof.Machine.execNvmeFlush p q cid nsid s
  | .datasetManagement p q cid nsid ad ranges => Sys2Proof.Machine.execDatasetManagement p q cid nsid ad ranges s
  | .writeZeroes p q cid nsid slba n => Sys2Proof.Machine.execWriteZeroes p q cid nsid slba n s
  | .writeFetchResume => Sys2Proof.Machine.execWriteFetchResume s
  | .hwmCommitted => Sys2Proof.Machine.execHwmCommitted s
  | .seqNextWrite r value => Sys2Proof.Machine.execSeqNextWrite r value s
  | .dirtyBoundWrite r value => Sys2Proof.Machine.execDirtyBoundWrite r value s
  | .abort p cid q target => Sys2Proof.Machine.execAbort p cid q target s
  | .setFeaturesArbitration p cid ab lpw mpw hpw => Sys2Proof.Machine.execSetFeaturesArbitration p cid ab lpw mpw hpw s
  | .setFeaturesPower p cid ps => Sys2Proof.Machine.execSetFeaturesPower p cid ps s
  | .getFeatures p cid fid => Sys2Proof.Machine.execGetFeatures p cid fid s
  | .identify p cid cns nsid => Sys2Proof.Machine.execIdentify p cid cns nsid s
  | .getLogPage p cid lid => Sys2Proof.Machine.execGetLogPage p cid lid s
  | .createIoCq p cid qid size vector irq => Sys2Proof.Machine.execCreateIoCq p cid qid size vector irq s
  | .nsCreate p cid => Sys2Proof.Machine.execNsCreate p cid s
  | .nsCreateComplete v sct sc => Sys2Proof.Machine.execNsCreateComplete v sct sc s
  | .sanitizeCryptoErase p cid ndas coord => Sys2Proof.Machine.execSanitizeCryptoErase p cid ndas coord s
  | .sanitizeBlockErase p cid ndas coord => Sys2Proof.Machine.execSanitizeBlockErase p cid ndas coord s
  | .sanitizeDone ok => Sys2Proof.Machine.execSanitizeDone ok s
  | .format p cid nsid ses => Sys2Proof.Machine.execFormat p cid nsid ses s
  | .formatCryptoErase p cid nsid => Sys2Proof.Machine.execFormatCryptoErase p cid nsid s
  | .formatDone k => Sys2Proof.Machine.execFormatDone k s
  | .bankedEntryEnd => Sys2Proof.Machine.execBankedEntryEnd s
  | .bstoreWriteout locs => Sys2Proof.Machine.execBstoreWriteout locs s
  | .reclaimGo r => Sys2Proof.Machine.execReclaimGo r s
  | .reclaimDone x => Sys2Proof.Machine.execReclaimDone x s
  | .filterRebuildDone x => Sys2Proof.Machine.execFilterRebuildDone x s
  | .driveCompletion id res dstatus rlba offline data => Sys2Proof.Machine.execDriveCompletion id res dstatus rlba offline data s
  | .drvCmdTimeout id => Sys2Proof.Machine.execDrvCmdTimeout id s
  | .drvLinkUp p rate width zones => Sys2Proof.Machine.execDrvLinkUp p rate width zones s
  | .drvLinkLoss p surprise => Sys2Proof.Machine.execDrvLinkLoss p surprise s
  | .stripeOpen cls => Sys2Proof.Machine.execStripeOpen cls s
  | .stripeRebuild => Sys2Proof.Machine.execStripeRebuild s
  | .stripeReclaim n => Sys2Proof.Machine.execStripeReclaim n s
  | .drvLock r => Sys2Proof.Machine.execDrvLock r s
  | .recordCommit mirror origin seq => Sys2Proof.Machine.execRecordCommit mirror origin seq s
  | .recordRelocate => Sys2Proof.Machine.execRecordRelocate s
  | .recordRetire mirror origin seq => Sys2Proof.Machine.execRecordRetire mirror origin seq s
  | .emberEccError addr unc both held => Sys2Proof.Machine.execEmberEccError addr unc both held s
  | .optionWrite r value fails => Sys2Proof.Machine.execOptionWrite r value fails s
  | .crlLinkTrain lanes partner => Sys2Proof.Machine.execCrlLinkTrain lanes partner s
  | .laneLockLoss lane => Sys2Proof.Machine.execLaneLockLoss lane s
  | .idleFrame b corr unc => Sys2Proof.Machine.execIdleFrame b corr unc s
  | .dataFrame b corr unc => Sys2Proof.Machine.execDataFrame b corr unc s
  | .nakFrame b corr unc => Sys2Proof.Machine.execNakFrame b corr unc s
  | .replayTimeout => Sys2Proof.Machine.execReplayTimeout s
  | .linkTimeout => Sys2Proof.Machine.execLinkTimeout s
  | .crlEnWrite r value => Sys2Proof.Machine.execCrlEnWrite r value s
  | .hello => Sys2Proof.Machine.execHello s
  | .helloRepeat => Sys2Proof.Machine.execHelloRepeat s
  | .proof => Sys2Proof.Machine.execProof s
  | .joinRefuse => Sys2Proof.Machine.execJoinRefuse s
  | .mirData => Sys2Proof.Machine.execMirData s
  | .mirRec => Sys2Proof.Machine.execMirRec s
  | .mirRef => Sys2Proof.Machine.execMirRef s
  | .mcommit => Sys2Proof.Machine.execMcommit s
  | .commitTimeout origin seq => Sys2Proof.Machine.execCommitTimeout origin seq s
  | .retire => Sys2Proof.Machine.execRetire s
  | .fwdCmd => Sys2Proof.Machine.execFwdCmd s
  | .fwdDone => Sys2Proof.Machine.execFwdDone s
  | .idxReq image => Sys2Proof.Machine.execIdxReq image s
  | .idxRsp => Sys2Proof.Machine.execIdxRsp s
  | .stageGet => Sys2Proof.Machine.execStageGet s
  | .stageData => Sys2Proof.Machine.execStageData s
  | .reject => Sys2Proof.Machine.execReject s
  | .mbxMsg => Sys2Proof.Machine.execMbxMsg s
  | .heartbeat => Sys2Proof.Machine.execHeartbeat s
  | .heartbeatSend => Sys2Proof.Machine.execHeartbeatSend s
  | .heartbeatMiss => Sys2Proof.Machine.execHeartbeatMiss s
  | .partnerLost => Sys2Proof.Machine.execPartnerLost s
  | .fenceSend r value => Sys2Proof.Machine.execFenceSend r value s
  | .fence => Sys2Proof.Machine.execFence s
  | .arbDelayExpire => Sys2Proof.Machine.execArbDelayExpire s
  | .arbResult x => Sys2Proof.Machine.execArbResult x s
  | .tickSyncEdge => Sys2Proof.Machine.execTickSyncEdge s
  | .tickClkLoss => Sys2Proof.Machine.execTickClkLoss s
  | .tickSyncLoss => Sys2Proof.Machine.execTickSyncLoss s
  | .tickFloorWrite => Sys2Proof.Machine.execTickFloorWrite s
  | .opTimeTick => Sys2Proof.Machine.execOpTimeTick s
  | .cut c => Sys2Proof.Machine.execCut c s
  | .cutEnable r => Sys2Proof.Machine.execCutEnable r s
  | .clogConsume r rd => Sys2Proof.Machine.execClogConsume r rd s
  | .streamArm r value => Sys2Proof.Machine.execStreamArm r value s
  | .streamFinal r value => Sys2Proof.Machine.execStreamFinal r value s
  | .streamRewind r index => Sys2Proof.Machine.execStreamRewind r index s
  | .lockstepMismatch p => Sys2Proof.Machine.execLockstepMismatch p s
  | .spareSelfTest => Sys2Proof.Machine.execSpareSelfTest s
  | .selfTestDone pass => Sys2Proof.Machine.execSelfTestDone pass s
  | .rotation => Sys2Proof.Machine.execRotation s
  | .rotAck r value => Sys2Proof.Machine.execRotAck r value s
  | .rotTimeout => Sys2Proof.Machine.execRotTimeout s
  | .failbackReady r value => Sys2Proof.Machine.execFailbackReady r value s
  | .failbackAccept => Sys2Proof.Machine.execFailbackAccept s
  | .handoverBoundary => Sys2Proof.Machine.execHandoverBoundary s
  | .failbackDone => Sys2Proof.Machine.execFailbackDone s
  | .failbackAbort => Sys2Proof.Machine.execFailbackAbort s
  | .leaveKindlingReq r => Sys2Proof.Machine.execLeaveKindlingReq r s
  | .forceSolo r => Sys2Proof.Machine.execForceSolo r s
  | .sweepReq r => Sys2Proof.Machine.execSweepReq r s
  | .bankedReq r => Sys2Proof.Machine.execBankedReq r s
  | .bankedExitReq r solo => Sys2Proof.Machine.execBankedExitReq r solo s
  | .bankedExit => Sys2Proof.Machine.execBankedExit s
  | .rstNAssert ns seen => Sys2Proof.Machine.execRstNAssert ns seen s
  | .rstNRelease => Sys2Proof.Machine.execRstNRelease s
  | .nvmeMiReset => Sys2Proof.Machine.execNvmeMiReset s
  | .resetCommand r value => Sys2Proof.Machine.execResetCommand r value s
  | .resetSourceExpire => Sys2Proof.Machine.execResetSourceExpire s
  | .resetEpisodeEnd sbSel kept => Sys2Proof.Machine.execResetEpisodeEnd sbSel kept s
  | .kindlingStepEnd bad cs0 cs1 => Sys2Proof.Machine.execKindlingStepEnd bad cs0 cs1 s
  | .clockGood d => Sys2Proof.Machine.execClockGood d s
  | .clockGoodLoss d => Sys2Proof.Machine.execClockGoodLoss d s
  | .forceRelease r value => Sys2Proof.Machine.execForceRelease r value s
  | .minSvnWrite r value => Sys2Proof.Machine.execMinSvnWrite r value s
  | .railBelowReset r mv => Sys2Proof.Machine.execRailBelowReset r mv s
  | .railResetClear r mv => Sys2Proof.Machine.execRailResetClear r mv s
  | .railWarn r mv => Sys2Proof.Machine.execRailWarn r mv s
  | .railWarnClear r mv => Sys2Proof.Machine.execRailWarnClear r mv s
  | .railDip r mv => Sys2Proof.Machine.execRailDip r mv s
  | .dipEnd core hrt sram => Sys2Proof.Machine.execDipEnd core hrt sram s
  | .thermWarn temp => Sys2Proof.Machine.execThermWarn temp s
  | .thermClear temp => Sys2Proof.Machine.execThermClear temp s
  | .holdupAssert => Sys2Proof.Machine.execHoldupAssert s
  | .holdupClear => Sys2Proof.Machine.execHoldupClear s
  | .quenchSim r value => Sys2Proof.Machine.execQuenchSim r value s
  | .phase1Limit => Sys2Proof.Machine.execPhase1Limit s
  | .phase1Drained => Sys2Proof.Machine.execPhase1Drained s
  | .quenchReverse => Sys2Proof.Machine.execQuenchReverse s
  | .quenchedHold => Sys2Proof.Machine.execQuenchedHold s
  | .warmRestart => Sys2Proof.Machine.execWarmRestart s
  | .holdupTimeWrite r value => Sys2Proof.Machine.execHoldupTimeWrite r value s
  | .thermalTrip temp => Sys2Proof.Machine.execThermalTrip temp s
  | .cdPowerOff => Sys2Proof.Machine.execCdPowerOff s
  | .timerInterrupt slot => Sys2Proof.Machine.execTimerInterrupt slot s
  | .wdtKick r slot => Sys2Proof.Machine.execWdtKick r slot s
  | .wdtWarn slot => Sys2Proof.Machine.execWdtWarn slot s
  | .wdtExpire slot => Sys2Proof.Machine.execWdtExpire slot s
  | .wdtRestart r value => Sys2Proof.Machine.execWdtRestart r value s
  | .hrtPark r value => Sys2Proof.Machine.execHrtPark r value s
  | .mbxSend r c value => Sys2Proof.Machine.execMbxSend r c value s
  | .mbxAck r c value => Sys2Proof.Machine.execMbxAck r c value s
  | .mbxTimeout c => Sys2Proof.Machine.execMbxTimeout c s
  | .mbxPeerAcked c => Sys2Proof.Machine.execMbxPeerAcked c s
  | .sootFlushTimer => Sys2Proof.Machine.execSootFlushTimer s
  | .sootFlushReq r => Sys2Proof.Machine.execSootFlushReq r s
  | .sootFlushDone => Sys2Proof.Machine.execSootFlushDone s
  | .sootFreeze r => Sys2Proof.Machine.execSootFreeze r s
  | .sootUnfreeze r => Sys2Proof.Machine.execSootUnfreeze r s
  | .sootFreezeTimeout => Sys2Proof.Machine.execSootFreezeTimeout s
  | .sootChallenge r => Sys2Proof.Machine.execSootChallenge r s
  | .sootRespond r => Sys2Proof.Machine.execSootRespond r s
  | .nonceExpire => Sys2Proof.Machine.execNonceExpire s
  | .sootReadMi first count => Sys2Proof.Machine.execSootReadMi first count s
  | .keyWrite r => Sys2Proof.Machine.execKeyWrite r s
  | .keyZero r => Sys2Proof.Machine.execKeyZero r s
  | .wrap r => Sys2Proof.Machine.execWrap r s
  | .unwrap r => Sys2Proof.Machine.execUnwrap r s
  | .rederive r => Sys2Proof.Machine.execRederive r s
  | .programAroot r => Sys2Proof.Machine.execProgramAroot r s
  | .keyEraseTimeout => Sys2Proof.Machine.execKeyEraseTimeout s
  | .ichRequest id addr len data pf => Sys2Proof.Machine.execIchRequest id addr len data pf s
  | .ichBurst x => Sys2Proof.Machine.execIchBurst x s
  | .ichFillDone x => Sys2Proof.Machine.execIchFillDone x s
  | .wbDrain => Sys2Proof.Machine.execWbDrain s
  | .extAgentRead addr len => Sys2Proof.Machine.execExtAgentRead addr len s
  | .extAgentWrite addr data => Sys2Proof.Machine.execExtAgentWrite addr data s
  | .ichInval r force range => Sys2Proof.Machine.execIchInval r force range s
  | .ichClean r force range => Sys2Proof.Machine.execIchClean r force range s
  | .ichFlush r force range => Sys2Proof.Machine.execIchFlush r force range s
  | .ichLock r force range => Sys2Proof.Machine.execIchLock r force range s
  | .ichUnlock r force range => Sys2Proof.Machine.execIchUnlock r force range s
  | .ichPrefetch r force range => Sys2Proof.Machine.execIchPrefetch r force range s
  | .mntDone => Sys2Proof.Machine.execMntDone s
  | .ichEccError kind line => Sys2Proof.Machine.execIchEccError kind line s
  | .ichEnable r en => Sys2Proof.Machine.execIchEnable r en s
  | .ichTagsReady => Sys2Proof.Machine.execIchTagsReady s
  | .hostLinkL1L2 p => Sys2Proof.Machine.execHostLinkL1L2 p s
  | .ccEnSet p ams asqs acqs => Sys2Proof.Machine.execCcEnSet p ams asqs acqs s
  | .adminCommand p cid op qid size cqid prio => Sys2Proof.Machine.execAdminCommand p cid op qid size cqid prio s
  | .drvFailWrite r => Sys2Proof.Machine.execDrvFailWrite r s
  | .drvControllerFatal d => Sys2Proof.Machine.execDrvControllerFatal d s
  | .tickClkReturn => Sys2Proof.Machine.execTickClkReturn s
  | .atCorrectionEnd => Sys2Proof.Machine.execAtCorrectionEnd s
  | .clockGoodTimeout d => Sys2Proof.Machine.execClockGoodTimeout d s
  | .faultNEpisodeTimeout => Sys2Proof.Machine.execFaultNEpisodeTimeout s
  | .gapHoldRelease => Sys2Proof.Machine.execGapHoldRelease s
  | .sootLostRead r => Sys2Proof.Machine.execSootLostRead r s
  | .stvWiPost r n value => Sys2Proof.Machine.execStvWiPost r n value s
  | .strandDispatch n k => Sys2Proof.Machine.execStrandDispatch n k s
  | .wiTimeout n k => Sys2Proof.Machine.execWiTimeout n k s
  | .strandFaultClear r n value => Sys2Proof.Machine.execStrandFaultClear r n value s
  | .stoveEccError n lmem => Sys2Proof.Machine.execStoveEccError n lmem s
  | .stvFenceWrite r n => Sys2Proof.Machine.execStvFenceWrite r n s
  | .programLoad r n value => Sys2Proof.Machine.execProgramLoad r n value s
  | .loadDone n dmaErr => Sys2Proof.Machine.execLoadDone n dmaErr s
  | .programUnload r n value => Sys2Proof.Machine.execProgramUnload r n value s
  | .slotDrained n slot => Sys2Proof.Machine.execSlotDrained n slot s
  | .policyWrite r value => Sys2Proof.Machine.execPolicyWrite r value s
  | .laneGrant n u pause => Sys2Proof.Machine.execLaneGrant n u pause s
  | .streamFinish n k e err fault => Sys2Proof.Machine.execStreamFinish n k e err fault s
  | .nop n k f => Sys2Proof.Machine.execNop n k f s
  | .endItem n k f => Sys2Proof.Machine.execEndItem n k f s
  | .trap n k f => Sys2Proof.Machine.execTrap n k f s
  | .stop n k f => Sys2Proof.Machine.execStop n k f s
  | .rdat n k f => Sys2Proof.Machine.execRdat n k f s
  | .waitat n k f => Sys2Proof.Machine.execWaitat n k f s
  | .rdid n k f => Sys2Proof.Machine.execRdid n k f s
  | .wait n k f => Sys2Proof.Machine.execWait n k f s
  | .poll n k f => Sys2Proof.Machine.execPoll n k f s
  | .add n k f => Sys2Proof.Machine.execAdd n k f s
  | .sub n k f => Sys2Proof.Machine.execSub n k f s
  | .and n k f => Sys2Proof.Machine.execAnd n k f s
  | .or n k f => Sys2Proof.Machine.execOr n k f s
  | .xor n k f => Sys2Proof.Machine.execXor n k f s
  | .sll n k f => Sys2Proof.Machine.execSll n k f s
  | .srl n k f => Sys2Proof.Machine.execSrl n k f s
  | .sra n k f => Sys2Proof.Machine.execSra n k f s
  | .slt n k f => Sys2Proof.Machine.execSlt n k f s
  | .sltu n k f => Sys2Proof.Machine.execSltu n k f s
  | .mul n k f => Sys2Proof.Machine.execMul n k f s
  | .mulhu n k f => Sys2Proof.Machine.execMulhu n k f s
  | .clz n k f => Sys2Proof.Machine.execClz n k f s
  | .popc n k f => Sys2Proof.Machine.execPopc n k f s
  | .bswap n k f => Sys2Proof.Machine.execBswap n k f s
  | .addi n k f => Sys2Proof.Machine.execAddi n k f s
  | .andi n k f => Sys2Proof.Machine.execAndi n k f s
  | .ori n k f => Sys2Proof.Machine.execOri n k f s
  | .xori n k f => Sys2Proof.Machine.execXori n k f s
  | .slli n k f => Sys2Proof.Machine.execSlli n k f s
  | .srli n k f => Sys2Proof.Machine.execSrli n k f s
  | .srai n k f => Sys2Proof.Machine.execSrai n k f s
  | .slti n k f => Sys2Proof.Machine.execSlti n k f s
  | .sltui n k f => Sys2Proof.Machine.execSltui n k f s
  | .lih n k f => Sys2Proof.Machine.execLih n k f s
  | .beq n k f => Sys2Proof.Machine.execBeq n k f s
  | .bne n k f => Sys2Proof.Machine.execBne n k f s
  | .blt n k f => Sys2Proof.Machine.execBlt n k f s
  | .bge n k f => Sys2Proof.Machine.execBge n k f s
  | .bltu n k f => Sys2Proof.Machine.execBltu n k f s
  | .bgeu n k f => Sys2Proof.Machine.execBgeu n k f s
  | .jal n k f => Sys2Proof.Machine.execJal n k f s
  | .jalr n k f => Sys2Proof.Machine.execJalr n k f s
  | .ld n k f => Sys2Proof.Machine.execLd n k f s
  | .st n k f => Sys2Proof.Machine.execSt n k f s
  | .amoadd n k f => Sys2Proof.Machine.execAmoadd n k f s
  | .cas n k f => Sys2Proof.Machine.execCas n k f s
  | .dmk n k f => Sys2Proof.Machine.execDmk n k f s
  | .dld n k f => Sys2Proof.Machine.execDld n k f s
  | .dst n k f => Sys2Proof.Machine.execDst n k f s
  | .dadv n k f => Sys2Proof.Machine.execDadv n k f s
  | .dclip n k f => Sys2Proof.Machine.execDclip n k f s
  | .dget n k f => Sys2Proof.Machine.execDget n k f s
  | .cpy n k f => Sys2Proof.Machine.execCpy n k f s
  | .fill n k f => Sys2Proof.Machine.execFill n k f s
  | .cmp n k f => Sys2Proof.Machine.execCmp n k f s
  | .post n k f => Sys2Proof.Machine.execPost n k f s
  | .grAlloc n k f => Sys2Proof.Machine.execGrAlloc n k f s
  | .grFree n k f => Sys2Proof.Machine.execGrFree n k f s
  | .czOpen n k f => Sys2Proof.Machine.execCzOpen n k f s
  | .czPut n k f => Sys2Proof.Machine.execCzPut n k f s
  | .czFlush n k f => Sys2Proof.Machine.execCzFlush n k f s
  | .czDec n k f => Sys2Proof.Machine.execCzDec n k f s
  | .czBlockRelease n b mismatch => Sys2Proof.Machine.execCzBlockRelease n b mismatch s
  | .dgAlloc n k f => Sys2Proof.Machine.execDgAlloc n k f s
  | .dgContextGrant n => Sys2Proof.Machine.execDgContextGrant n s
  | .dgAbs n k f => Sys2Proof.Machine.execDgAbs n k f s
  | .dgFin n k f => Sys2Proof.Machine.execDgFin n k f s
  | .dgRd n k f => Sys2Proof.Machine.execDgRd n k f s
  | .dgCmp n k f => Sys2Proof.Machine.execDgCmp n k f s
  | .dgFree n k f => Sys2Proof.Machine.execDgFree n k f s
  | .dgCtxEcc n c => Sys2Proof.Machine.execDgCtxEcc n c s
  | .ciLock n k f => Sys2Proof.Machine.execCiLock n k f s
  | .cipherLockGrant n => Sys2Proof.Machine.execCipherLockGrant n s
  | .ciXts n k f => Sys2Proof.Machine.execCiXts n k f s
  | .ciGcm n k f => Sys2Proof.Machine.execCiGcm n k f s
  | .ciUnlk n k f => Sys2Proof.Machine.execCiUnlk n k f s
  | .par n k f => Sys2Proof.Machine.execPar n k f s
  | .lookup n k f image => Sys2Proof.Machine.execLookup n k f image s
  | .insert n k f image => Sys2Proof.Machine.execInsert n k f image s
  | .addref n k f image => Sys2Proof.Machine.execAddref n k f image s
  | .decref n k f image => Sys2Proof.Machine.execDecref n k f image s
  | .mapset n k f image => Sys2Proof.Machine.execMapset n k f image s
  | .mapget n k f image => Sys2Proof.Machine.execMapget n k f image s
  | .drvRead n k f => Sys2Proof.Machine.execDrvRead n k f s
  | .drvAppend n k f => Sys2Proof.Machine.execDrvAppend n k f s
  | .drvReset n k f => Sys2Proof.Machine.execDrvReset n k f s
  | .drvFinish n k f => Sys2Proof.Machine.execDrvFinish n k f s
  | .crlTransmit n k f => Sys2Proof.Machine.execCrlTransmit n k f s

end Sys2Proof.Machine
end

