-- ==== Sys2Proof/Machine/Step.lean ====
section
/-! DEFINITION. One step of the head: the command at the front of the queue has its effect on everything but the queue. With no command
waiting, the head idles. -/

namespace Sys2Proof.Machine

/-- Take the command at the front of the queue and run it with the queue's rest. On an empty queue one cycle of the TICK clock passes (R423)
and what waits for time alone goes on: the table has no row for it. -/
def step (s : State) : Host.Outcome State Fault Refusal :=
  match s.pending with
  | [] => .next s.idle
  | c :: rest => exec c { s with pending := rest }

/-- The state with a command put at the front of the queue. -/
def State.send (s : State) (c : Instr) : State := { s with pending := c :: s.pending }

/-- The state with the command that a word of the opcode table spells in front of the queue; unchanged where the word spells none. -/
def State.withFetchWord (s : State) (nbits w : Nat) : State :=
  match decodeTableWord nbits w with
  | some c => s.send c
  | none => s

end Sys2Proof.Machine
end

