-- ==== Sys2Proof/Safety.lean ====
section
/-! DEFINITION. The terms the statements are written in: what a command answers, what it leaves as it was, which event it stages, and when a
write reaches its register. -/

namespace Sys2Proof.Machine

/-! ### What a command answers -/

/-- The command answers a next state, of which `P` holds. -/
def Gives (c : Instr) (s : State) (P : State → Prop) : Prop := ∃ t, exec c s = .next t ∧ P t

/-! ### Frames -/

/-- The parts of a head's state beside its register fields and its queue. `stage` is what Soot has staged and has still to flush, `soot` the rest
of Soot; `irqPend` the pending MSI-X vectors of the ports, `ports` the rest of the ports; Hearth's own state is named by its six parts. -/
inductive Part where
  | acc | soot | stage | wdt | plic | glbPend | mtip | banks | chans | kdl | mode | dmp | tick | and | jnl | crl | pool | ports | irqPend | bel
  | wins | stoves | ddx | ich | keys | drv | fwq | heldItems | ddr | grates | rsram | agentq | out | free
deriving DecidableEq, Repr

/-- The Soot unit without what it has staged. -/
def SootSt.rest (x : SootSt) : SootSt := { x with staged := [], flushing := none, again := false, lastAt := [], unread := false }

/-- Two states agree in a part. -/
def Part.same : Part → State → State → Prop
  | .acc, s, t => t.acc = s.acc
  | .soot, s, t => t.soot.rest = s.soot.rest
  | .stage, s, t => t.soot = { t.soot with staged := s.soot.staged, flushing := s.soot.flushing, again := s.soot.again,
                                           lastAt := s.soot.lastAt, unread := s.soot.unread }
  | .wdt, s, t => t.hrt.wdtFrom = s.hrt.wdtFrom ∧ t.hrt.wdtHeld = s.hrt.wdtHeld
  | .plic, s, t => t.hrt.plicPrio = s.hrt.plicPrio ∧ t.hrt.plicEnable = s.hrt.plicEnable ∧ t.hrt.plicThr = s.hrt.plicThr ∧
                   t.hrt.plicClaimed = s.hrt.plicClaimed
  | .glbPend, s, t => t.hrt.glbPend = s.hrt.glbPend
  | .mtip, s, t => t.hrt.mtip = s.hrt.mtip
  | .banks, s, t => t.hrt.banks = s.hrt.banks
  | .chans, s, t => t.hrt.chans = s.hrt.chans
  | .kdl, s, t => t.kdl = s.kdl
  | .mode, s, t => t.mode = s.mode
  | .dmp, s, t => t.dmp = s.dmp
  | .tick, s, t => t.tick = s.tick
  | .and, s, t => t.and = s.and
  | .jnl, s, t => t.jnl = s.jnl
  | .crl, s, t => t.crl = s.crl
  | .pool, s, t => t.pool = s.pool
  | .ports, s, t => ∀ p, { t.port p with msixPend := [] } = { s.port p with msixPend := [] }
  | .irqPend, s, t => ∀ p, (t.port p).msixPend = (s.port p).msixPend
  | .bel, s, t => t.bel = s.bel
  | .wins, s, t => t.wins = s.wins
  | .stoves, s, t => t.stoves = s.stoves
  | .ddx, s, t => t.ddx = s.ddx
  | .ich, s, t => t.ich = s.ich
  | .keys, s, t => t.keys = s.keys
  | .drv, s, t => t.drv = s.drv
  | .fwq, s, t => t.fwq = s.fwq
  | .heldItems, s, t => t.heldItems = s.heldItems
  | .ddr, s, t => t.ddr = s.ddr
  | .grates, s, t => t.grates = s.grates
  | .rsram, s, t => t.rsram = s.rsram
  | .agentq, s, t => t.agentq = s.agentq
  | .out, s, t => t.out = s.out
  | .free, s, t => t.freeCtr = s.freeCtr

/-- From `s` to `t` the queue, every part but those named and every register field but those named are unchanged: every byte of memory with
them, unless the part that holds it is named. -/
def Kept (ps : List Part) (fs : List Fld) (s t : State) : Prop :=
  t.pending = s.pending ∧ (∀ p : Part, p ∉ ps → p.same s t) ∧ ∀ f : Fld, f.key ∉ fs.map Fld.key → t.get f = s.get f

/-- The command answers a next state of which `P` holds and in which all but the named parts and register fields is unchanged. -/
def Does (c : Instr) (s : State) (ps : List Part) (fs : List Fld) (P : State → Prop) : Prop := Gives c s (fun t => P t ∧ Kept ps fs s t)

/-- What staging an event can change (R558-R562): the staging memory, and where it is full the lost-event count with its vector. -/
def logParts : List Part := [.stage, .irqPend, .out]
def logFlds : List Fld := [F.SOOT_STS_FLUSHING, F.SOOT_LOST_COUNT]

/-- What taking an entry out of a submission queue changes: Bellows, and with CXL.cache in use the queue lines the port holds and what it asks of
the host for them (R46). -/
def fetchParts (s : State) (p : Nat) : List Part := if s.getb (F.HST_LINK_STS_CACHE_ON p) then [.bel, .ports, .out] else [.bel]

/-! ### Events -/

/-- Where Soot's staging memory has room, one event of the code and items is staged after those that were. -/
def Staged (code : Nat) (items : List Nat) (s t : State) : Prop :=
  s.soot.staged.length < 256 →
    ∃ r : SootRec, t.soot.staged = s.soot.staged ++ [r] ∧ r.code = code ∧ r.items = items ∧ r.atime = s.now

/-- The limit of one event per millisecond for the code and unit lets an event through (R589). -/
def State.eventDue (s : State) (code unit : Nat) : Bool :=
  match Tab.find s.soot.lastAt (code * 2 ^ 24 + unit) with
  | none => true
  | some t => t + ms 1 ≤ s.now

/-- An event under that limit. -/
def StagedMs (code unit : Nat) (items : List Nat) (s t : State) : Prop :=
  if s.eventDue code unit then Staged code items s t else t.soot = s.soot

/-! ### Register writes -/

/-- A write by the requester reaches the register: its path and the block's domain are released, and neither rule of R13 nor the chapter's
own discards it. -/
def State.writable (s : State) (r : Req) (a : Nat) : Bool :=
  s.canReach r && !s.notReady a && !(secureOnly a && !reqSecure r) && !(hostIgnored a && reqHost r)

/-! ### Resets -/

/-- No reset episode, Kindling run or Quench is in progress: a source that is recognised takes effect at once (R489, R491, R492). -/
def State.calm (s : State) : Bool :=
  s.qphase == 0 && !s.getb F.DMP_STS_QHOLD && s.kdl.episode.isNone && !s.getb F.KDL_STS_BUSY

/-- The domains each reach leaves released (R487): of power-on none, of system AON and TICK, of compute-die AON, TICK, EMB and SBD. -/
def stillReleased : Reach → Nat
  | .powerOn => 0
  | .system => 0x00003
  | .computeDie => 0x18003

/-- A reset episode of the reach has begun with the source (R487, R489, R503): its domains are in reset, the mode is Kindling, and the blocks of
the compute die hold nothing. -/
def BeginsReset (src : RstSrc) (reach : Reach) (s t : State) : Prop :=
  t.kdl.episode = some reach ∧ t.kdl.took = 2 ^ srcBit src ∧ t.kdl.episodeAt = s.cyc ∧ t.get F.GLB_MODE_MODE = 1 ∧
  t.get F.KDL_REL_STS_DOMAIN = Nat.land (s.get F.KDL_REL_STS_DOMAIN) (stillReleased reach) ∧
  t.stoves = [] ∧ t.pool = {} ∧ t.crl = {} ∧ t.hrt = {} ∧ t.wins = [] ∧ t.agentq = [] ∧ t.ich.wb = [] ∧ t.keys.slots = [] ∧
  (reach ≠ .powerOn → s.ich.wb = [] → t.ddr = s.ddr) ∧ t.jnl.recs = s.jnl.recs.filter (·.committed)

/-! ### Stoves -/

/-- Beyond strand `k` of Stove `n`, its order of issue and what is named, nothing of the Stoves changes: `rest` says how the Stove's own parts other
than its strands may differ. -/
def StoveKept (n k : Nat) (rest : Stove → Stove) (s t : State) : Prop :=
  (∀ m, m ≠ n → t.stove m = s.stove m) ∧ (∀ j, j ≠ k → t.strand n j = s.strand n j) ∧
  t.stove n = { rest (s.stove n) with strands := (t.stove n).strands, turn := k }

/-- It is the strand's turn to issue, and the word at its PC is an instruction with the opcode and the fields (R140, R177). -/
def State.fetches (s : State) (n k opc : Nat) (f : InsW) : Bool :=
  s.strandTurn n k && insKnown (s.fetched n k) && insOpc (s.fetched n k) == opc && insOf (s.fetched n k) == f

/-- The strand fetches the instruction on its turn, the fields are in their format, and the PC it goes on from lies in its program slot (R140, R172,
R179). -/
def State.issues (s : State) (n k opc : Nat) (f : InsW) (legal : Bool) (pc : Nat) : Bool :=
  s.fetches n k opc f && legal && (s.runSlot n k).holds pc

/-- The strand can issue a ticketed instruction: besides, its image declares the unit and `e` is its lowest free ticket entry (R179, R181). -/
def State.tickets (s : State) (n k opc : Nat) (f : InsW) (legal : Bool) (unit : Option Nat) (e : Nat) : Bool :=
  s.issues n k opc f legal ((s.strand n k).pc + 1) && (s.runSlot n k).hasUnit unit && (s.strand n k).freeEntry == some e

/-- The strand has gone on to `pc` with register `a` holding `v` (register 0 stays 0) and its other registers, descriptors, tickets and item as
they were. -/
def WroteG (n k : Nat) (a : BitVec 5) (v : W64) (pc : Nat) (s t : State) : Prop :=
  (∀ i, (t.strand n k).reg i = if i = a ∧ a ≠ 0 then v else (s.strand n k).reg i) ∧
  t.strand n k = { s.strand n k with g := (t.strand n k).g, pc := pc, wait := none }

/-- The strand has gone on to `pc` and is otherwise as it was. -/
def Moved (n k pc : Nat) (s t : State) : Prop := t.strand n k = { s.strand n k with pc := pc, wait := none }

/-- The strand has taken the lowest free ticket entry `e` for a job (R142, R181): its epoch is one higher, register `a` names it, and the strand
has gone on. -/
def TookTicket (n k : Nat) (a : BitVec 5) (e : Nat) (j : Job) (s t : State) : Prop :=
  ((t.strand n k).ticket e).epoch = (((s.strand n k).ticket e).epoch + 1) % 16 ∧ ((t.strand n k).ticket e).used = true ∧
  ((t.strand n k).ticket e).job = some j ∧ ((t.strand n k).ticket e).order = (s.stove n).order ∧
  (∀ i, (t.strand n k).reg i = if i = a ∧ a ≠ 0 then BitVec.ofNat 64 (16 * ((((s.strand n k).ticket e).epoch + 1) % 16) + e)
    else (s.strand n k).reg i) ∧
  (t.strand n k).pc = (s.strand n k).pc + 1 ∧ (t.strand n k).wait = none ∧ (t.strand n k).d = (s.strand n k).d ∧
  (t.strand n k).item = (s.strand n k).item ∧ (∀ m, m ≠ n → t.stove m = s.stove m) ∧
  ∀ j, j ≠ k → (t.strand n j).g = (s.strand n j).g ∧ (t.strand n j).pc = (s.strand n j).pc ∧ (t.strand n j).st = (s.strand n j).st

/-- The strand has taken ticket entry `e` for a job `j` of a unit of class `u` (R145): where no unit is free the job waits; where one is, and no
other job waits for the class or comes first, the job has it at once, as `j'`. -/
def TookUnit (n k u : Nat) (a : BitVec 5) (e : Nat) (j j' : Job) (s t : State) : Prop :=
  ((s.stove n).freeUnit u = none → TookTicket n k a e j s t ∧ ((t.strand n k).ticket e).granted = false) ∧
  ∀ l, (s.stove n).freeUnit u = some l →
    (s.stove n).jobs.all (fun w => (w.2.2.granted || w.2.2.job.bind Job.unit != some u) &&
      (w.1 != k || j.chain.isNone || w.2.2.job.bind Job.chain != j.chain)) = true →
    TookTicket n k a e j' s t ∧ (t.strand n k).ticket e =
      { epoch := (((s.strand n k).ticket e).epoch + 1) % 16, used := true, job := some j', granted := true, lane := l, since := s.cyc
        order := (s.stove n).order }

/-- Every drive request of the Stove whose DMA channel is granted has started. -/
def State.drvsBegun (s : State) (n : Nat) : Bool :=
  (s.stove n).jobs.all (fun w => match w.2.2.job with
    | some (.drv _) => !w.2.2.granted || s.drv.cmds.any (fun c => c.stove == n && c.strand == w.1 && c.entry == w.2.1)
    | _ => true)

/-- The strand has faulted with the code (R164): it keeps its registers and its PC, and its item waits with firmware. -/
def Faulted (n k code : Nat) (s t : State) : Prop :=
  (t.strand n k).st = .faulted ∧ (t.strand n k).fltCode = code ∧ (t.strand n k).fltPc = (s.strand n k).pc ∧ (t.strand n k).item = none ∧
  (t.strand n k).pc = (s.strand n k).pc ∧ (t.strand n k).g = (s.strand n k).g ∧ bit (t.get (F.STV_FAULT_STRAND n)) k = true ∧
  t.fwq = s.fwq ++ (s.strand n k).item.toList

/-- The ticket's job has ended with the status word (R182). -/
def Ended (n k e status : Nat) (t : State) : Prop := ((t.strand n k).ticket e).job = none ∧ ((t.strand n k).ticket e).status = status

/-! ### Memories -/

/-- The canonical form of every store of numbers and bytes a state holds: the register fields, DDR, the grates and the Stoves' local memories list no zero and their keys rise; so do the keys of the retained memory, of the held grates, of the drive table, of the stripes and
of the bytes of every merging-buffer entry, of which each line has one. -/
def State.memoryOk (s : State) : Bool :=
  Tab.wfN s.regs && Tab.wfB s.ddr && Tab.wfB s.grates && Tab.sorted s.rsram && s.stoves.all (fun e => Tab.wfB e.2.lmem) &&
  Tab.sorted s.pool.held && Tab.sorted s.drv.drives && Tab.sorted s.drv.stripes &&
  s.ich.wb.all (fun e => Tab.sorted e.bytes) && decide (s.ich.wb.map (·.line)).Nodup

/-- The Index cache holds no line, fill, write, request or poisoned line. -/
def State.bareIch (s : State) : Bool :=
  s.ich.wb.isEmpty && s.ich.sets.isEmpty && s.ich.side.isEmpty && s.ich.fills.isEmpty && s.ich.waiting.isEmpty && s.ich.poisoned.isEmpty

/-- Nothing but plain memory stands behind DDR: the Index cache holds nothing, no line is poisoned, and no host may hold a line of a window. -/
def State.bareDdr (s : State) : Bool :=
  s.bareIch && [0, 1].all (fun p => (s.port p).filter.isEmpty && (s.port p).poison.isEmpty && (s.port p).devq.isEmpty)

end Sys2Proof.Machine
end

