-- ==== Sys2Proof/Certificates/Slice0/Obligations.lean ====
section
/-! DEFINITION. The statements about the head, family by family of the opcode table. Each clause says of one command that it answers a next
state, under hypotheses on the state and the operands alone, what that state holds, and what it leaves as it was (`Does`, `Kept`). -/

open Sys2Proof Sys2Proof.Machine

/-! ### The Soot log (ch. 21) -/

/-- How Soot flushes, ends a flush and freezes.
The model's choices it rests on: log entries 4, 5 and 110. -/
def Obligations.SootFlushes : Prop :=
  /- R559: the flush of a whole second, and the flush a write of 1 to SOOT_CTL.FLUSH asks for, take every staged record; a trigger that meets a
running flush flushes again when it ends; while the log is frozen nothing is flushed. -/
  ((∀ s : State, s.soot.second < s.now / 100000000 → s.getb F.SOOT_STS_FROZEN = false → s.soot.flushing = none →
    Does .sootFlushTimer s [.soot, .stage] [F.SOOT_STS_FLUSHING] (fun t =>
      t.get F.SOOT_STS_FLUSHING = 1 ∧ t.soot.flushing = some s.soot.staged.length ∧ t.soot.staged = s.soot.staged)) ∧
  (∀ (s : State) (n : Nat), s.soot.second < s.now / 100000000 → s.getb F.SOOT_STS_FROZEN = false → s.soot.flushing = some n →
    Does .sootFlushTimer s [.soot, .stage] [] (fun t => t.soot.again = true ∧ t.soot.flushing = some n)) ∧
  (∀ (s : State) (r : Req), s.writable r R.SOOT_CTL = true → s.getb F.SOOT_STS_FROZEN = false → s.soot.flushing = none →
    Does (.sootFlushReq r) s [.stage] [F.SOOT_STS_FLUSHING, F.SOOT_CTL_FLUSH] (fun t =>
      t.get F.SOOT_CTL_FLUSH = 1 ∧ t.get F.SOOT_STS_FLUSHING = 1 ∧ t.soot.flushing = some s.soot.staged.length)) ∧
  (∀ s : State, s.getb F.SOOT_STS_FROZEN = true → Does .sootFlushTimer s [.soot] [] (fun t => t.soot.flushing = s.soot.flushing))) ∧
  /- R560, R562: a flush that ends has its records in Ember from NEXT on, oldest first, NEXT advanced past them and FLUSH clear. -/
  (∀ (s : State) (n : Nat), s.soot.flushing = some n → s.soot.again = false → s.soot.freezeWait = false → n ≤ s.soot.staged.length →
    s.get F.SOOT_STS_NEXT + n < 32768 →
    Does .sootFlushDone s [.soot, .stage] [F.SOOT_STS_FLUSHING, F.SOOT_CTL_FLUSH, F.SOOT_STS_NEXT] (fun t =>
      t.get F.SOOT_STS_NEXT = s.get F.SOOT_STS_NEXT + n ∧ t.get F.SOOT_STS_FLUSHING = 0 ∧ t.get F.SOOT_CTL_FLUSH = 0 ∧
      t.soot.flushing = none ∧ t.soot.staged = s.soot.staged.drop n ∧
      (∀ i, i < n → Tab.find t.soot.log (s.get F.SOOT_STS_NEXT + i) = s.soot.staged[i]?) ∧
      (∀ j, j < s.get F.SOOT_STS_NEXT ∨ s.get F.SOOT_STS_NEXT + n ≤ j → Tab.find t.soot.log j = Tab.find s.soot.log j))) ∧
  /- R563: a freeze flushes first and waits for that flush; its end, by a write of 0 or when SOOT_FRZ_TO milliseconds have passed, clears FREEZE
and FROZEN and flushes what was staged meanwhile. -/
  ((∀ (s : State) (r : Req), s.writable r R.SOOT_CTL = true → s.getb F.SOOT_STS_FROZEN = false → s.soot.flushing = none →
    Does (.sootFreeze r) s [.soot, .stage] [F.SOOT_STS_FLUSHING, F.SOOT_CTL_FREEZE] (fun t =>
      t.get F.SOOT_CTL_FREEZE = 1 ∧ t.soot.flushing = some s.soot.staged.length ∧ t.soot.freezeWait = true ∧
      t.getb F.SOOT_STS_FROZEN = false)) ∧
  (∀ (s : State) (n : Nat), s.soot.flushing = some n → s.soot.again = false → s.soot.freezeWait = true → n = 0 →
    Does .sootFlushDone s [.soot, .stage] [F.SOOT_STS_FLUSHING, F.SOOT_CTL_FLUSH, F.SOOT_STS_FROZEN] (fun t =>
      t.get F.SOOT_STS_FROZEN = 1 ∧ t.soot.freezeAt = some s.now ∧ t.soot.freezeWait = false)) ∧
  (∀ (s : State) (r : Req), s.writable r R.SOOT_CTL = true → s.getb F.SOOT_STS_FROZEN = true → s.soot.flushing = none →
    Does (.sootUnfreeze r) s [.soot, .stage] [F.SOOT_STS_FLUSHING, F.SOOT_CTL_FREEZE, F.SOOT_STS_FROZEN] (fun t =>
      t.get F.SOOT_CTL_FREEZE = 0 ∧ t.get F.SOOT_STS_FROZEN = 0 ∧ t.soot.flushing = some s.soot.staged.length)) ∧
  (∀ (s : State) (a : Nat), s.soot.freezeAt = some a → s.get F.SOOT_FRZ_TO_MS ≠ 0 → a + s.get F.SOOT_FRZ_TO_MS * 100000 ≤ s.now →
    s.soot.flushing = none →
    Does .sootFreezeTimeout s [.soot, .stage] [F.SOOT_STS_FLUSHING, F.SOOT_CTL_FREEZE, F.SOOT_STS_FROZEN] (fun t =>
      t.get F.SOOT_CTL_FREEZE = 0 ∧ t.get F.SOOT_STS_FROZEN = 0 ∧ t.soot.flushing = some s.soot.staged.length ∧
      t.soot.freezeAt = none)))

/-- How Soot's log is cleared and read.
The model's choices it rests on: log entries 4, 5 and 8. -/
def Obligations.SootClearsAndReads : Prop :=
  /- R564, R565, R566: a challenge draws a nonce that SOOT_CLR_NONCE shows; a right response in time clears the log, leaving SOOT_CLEAR at INDEX
0; any other response is denied, counted and recorded, and uses the nonce up; the nonce ends after SOOT_CLR_CFG.TO_S seconds. The nonce's bytes
are free values. -/
  ((∀ (s : State) (r : Req), s.writable r R.SOOT_CLR_CTL = true → s.get F.SOOT_CLR_CTL_BUSY = 0 → s.qphase = 0 →
    s.get (F.MBX_CFG_EN (s.get F.SOOT_CLR_CFG_CHAN)) = 1 →
    Gives (.sootChallenge r) s (fun t =>
      t.get F.SOOT_CLR_CTL_RESULT = 0 ∧ t.get F.SOOT_CLR_CTL_OP = 1 ∧ t.soot.nonce = some (s.freeBytes 16, s.now) ∧
      t.freeCtr = s.freeCtr + 16 ∧ ∀ w, w < 4 → t.get (F.SOOT_CLR_NONCE_DATA w) = leAt (s.freeBytes 16) (4 * w) 4)) ∧
  (∀ (s : State) (r : Req) (nonce : Bytes) (a : Nat), s.writable r R.SOOT_CLR_CTL = true → s.get F.SOOT_CLR_CTL_BUSY = 0 → s.qphase = 0 →
    (Tab.find s.keys.slots 3).isSome = true → s.soot.nonce = some (nonce, a) → s.now < a + s.get F.SOOT_CLR_CFG_TO_S * 100000000 →
    (List.range 8).flatMap (fun w => leBytes 4 (s.get (F.SOOT_CLR_RESP_DATA w))) = s.clearMac nonce →
    Gives (.sootRespond r) s (fun t =>
      t.get F.SOOT_CLR_CTL_RESULT = 0 ∧ t.get F.SOOT_STS_NEXT = 1 ∧ t.get F.SOOT_STS_FULL = 0 ∧ t.get F.SOOT_LOST_COUNT = 0 ∧
      t.soot.nonce = none ∧ t.soot.staged = [] ∧ ∃ x : SootRec, t.soot.log = [(0, x)] ∧ x.code = 0x0F20 ∧ x.atime = s.now)) ∧
  (∀ (s : State) (r : Req), s.writable r R.SOOT_CLR_CTL = true → s.get F.SOOT_CLR_CTL_BUSY = 0 → s.qphase = 0 →
    (Tab.find s.keys.slots 3).isSome = true → s.soot.nonce = none →
    Does (.sootRespond r) s (.soot :: logParts)
      (F.SOOT_CLR_CTL_OP :: F.SOOT_CLR_CTL_RESULT :: F.SOOT_DENY_CNT_COUNT :: (List.range 4).map F.SOOT_CLR_NONCE_DATA ++ logFlds) (fun t =>
      t.get F.SOOT_CLR_CTL_RESULT = 1 ∧ t.get F.SOOT_DENY_CNT_COUNT = min (s.get F.SOOT_DENY_CNT_COUNT + 1) 0xFFFFFFFF ∧
      Staged 0x0F21 [1] s t)) ∧
  (∀ (s : State) (nonce : Bytes) (a : Nat), s.soot.nonce = some (nonce, a) → a + s.get F.SOOT_CLR_CFG_TO_S * 100000000 ≤ s.now →
    Does .nonceExpire s [.soot] ((List.range 4).map F.SOOT_CLR_NONCE_DATA) (fun t =>
      t.soot.nonce = none ∧ ∀ w, w < 4 → t.get (F.SOOT_CLR_NONCE_DATA w) = 0))) ∧
  /- R567, R569, R557: the NVMe-MI read returns the records asked for up to NEXT; a read of SOOT_LOST returns the count and acknowledges its
rise; the operating time counts milliseconds of AT at 40 bits. -/
  ((∀ (s : State) (first count : Nat), s.released dSbd = true →
    Does (.sootReadMi first count) s [.out] [] (fun t =>
      t.out = .sootRecords ((List.range (min count (s.get F.SOOT_STS_NEXT - first))).map (fun i => s.sootAt (first + i))) :: s.out)) ∧
  (∀ (s : State) (r : Req), s.canReach r = true →
    Does (.sootLostRead r) s [.out, .stage] [] (fun t =>
      t.out = .readData (reqAgent r) R.SOOT_LOST (s.get F.SOOT_LOST_COUNT) :: s.out ∧ t.soot.unread = false ∧
      t.soot.staged = s.soot.staged)) ∧
  (∀ s : State, s.soot.opFrom + 100000 ≤ s.now →
    Does .opTimeTick s [.soot] [] (fun t =>
      t.soot.opTime = (s.soot.opTime + 1) % 2 ^ 40 ∧ t.soot.opFrom = s.soot.opFrom + 100000 ∧ t.soot.cycles = s.soot.cycles ∧
      t.soot.log = s.soot.log)))

/-! ### Mailboxes and Hearth (ch. 20) -/

/-- How a mailbox message is posted and what ends it, and what Hearth's slots do.
The model's choices it rests on: log entries 4, 5 and 108. -/
def Obligations.MailboxesAndHearthSlots : Prop :=
  /- R542, R543, R544: a post by a sender of an empty channel leaves the message in it, NUM one higher, and tells the poster DELIVERED; a post to a
full channel overwrites the message, whose poster learns that it is lost; a post to a slot no pair
serves times out at once (R548); a post to a parked slot wakes it (R549); any other post is denied and leaves the channel as it was. -/
  ((∀ (s : State) (r : Req) (c value : Nat), s.writable r (R.MBX_SEND + 0x100 * c) = true → bit value 31 = true → s.released dNoc = true →
    s.get (F.MBX_CFG_EN c) = 1 → bit (s.get (F.MBX_CFG_SENDERS c)) (reqAgent r) = true → s.get (F.MBX_CFG_RECEIVER c) ≠ 9 →
    s.receiverDead (s.get (F.MBX_CFG_RECEIVER c)) = false → bit (s.get F.HRT_STS_PARKED) (s.get (F.MBX_CFG_RECEIVER c)) = false →
    (s.chan c).full = false →
    Does (.mbxSend r c value) s [.banks, .chans] [] (fun t =>
      t.chan c = { full := true, num := ((s.chan c).num + 1) % 256, data := (s.bank (reqAgent r)).bytes, poster := reqAgent r,
                   postAt := s.now, timer := true, away := false,
                   hdr := s.now % 2 ^ 32 * 2 ^ 32 + value % 2 ^ 16 * 2 ^ 16 + (if s.stamping then 0x1000 + reqAgent r * 0x100 else 0xF00) +
                          ((s.chan c).num + 1) % 256 } ∧
      (t.bank (reqAgent r)).txRes = 1 ∧ (∀ d, d ≠ c → t.chan d = s.chan d) ∧ ∀ a, a ≠ reqAgent r → t.bank a = s.bank a)) ∧
  (∀ (s : State) (r : Req) (c value : Nat), s.writable r (R.MBX_SEND + 0x100 * c) = true → bit value 31 = true → s.released dNoc = true →
    s.get (F.MBX_CFG_EN c) = 1 → bit (s.get (F.MBX_CFG_SENDERS c)) (reqAgent r) = true → s.get (F.MBX_CFG_RECEIVER c) ≠ 9 →
    s.receiverDead (s.get (F.MBX_CFG_RECEIVER c)) = false → bit (s.get F.HRT_STS_PARKED) (s.get (F.MBX_CFG_RECEIVER c)) = false →
    (s.chan c).full = true → c < 32 →
    Does (.mbxSend r c value) s (logParts ++ [.banks, .chans])
      (logFlds ++ [F.MBX_STS_COLLIDE c, F.MBX_ERR_COLLIDE, F.MBX_COLLIDE_CNT_COUNT]) (fun t =>
      (t.chan c).full = true ∧ (t.chan c).num = ((s.chan c).num + 1) % 256 ∧ (t.chan c).data = (s.bank (reqAgent r)).bytes ∧
      t.get (F.MBX_STS_COLLIDE c) = 1 ∧ t.get F.MBX_ERR_COLLIDE = 1 ∧ (t.bank (reqAgent r)).txRes = 3 ∧
      bit (t.bank (s.chan c).poster).sevLost c = true)) ∧
  (∀ (s : State) (r : Req) (c value : Nat), s.writable r (R.MBX_SEND + 0x100 * c) = true → bit value 31 = true → s.released dNoc = true →
    s.get (F.MBX_CFG_EN c) = 1 → bit (s.get (F.MBX_CFG_SENDERS c)) (reqAgent r) = true → s.get (F.MBX_CFG_RECEIVER c) < 8 →
    s.pairOf (s.get (F.MBX_CFG_RECEIVER c)) = 15 → bit (s.get F.HRT_STS_PARKED) (s.get (F.MBX_CFG_RECEIVER c)) = false →
    (s.chan c).full = false → c < 32 →
    Does (.mbxSend r c value) s (logParts ++ [.banks, .chans]) (logFlds ++ [F.MBX_STS_TIMEOUT c, F.MBX_ERR_TIMEOUT]) (fun t =>
      (t.chan c).full = true ∧ (t.chan c).timer = false ∧ t.get (F.MBX_STS_TIMEOUT c) = 1 ∧ (t.bank (reqAgent r)).txRes = 5)) ∧
  (∀ (s : State) (r : Req) (c value : Nat), s.writable r (R.MBX_SEND + 0x100 * c) = true → bit value 31 = true → s.released dNoc = true →
    s.get (F.MBX_CFG_EN c) = 1 → bit (s.get (F.MBX_CFG_SENDERS c)) (reqAgent r) = true → s.get (F.MBX_CFG_RECEIVER c) < 8 →
    s.receiverDead (s.get (F.MBX_CFG_RECEIVER c)) = false → bit (s.get F.HRT_STS_PARKED) (s.get (F.MBX_CFG_RECEIVER c)) = true →
    (s.chan c).full = false → c < 32 →
    Does (.mbxSend r c value) s (logParts ++ [.banks, .chans, .wdt])
      (logFlds ++ [F.MBX_STS_WOKE c, F.HRT_STS_PARKED, F.HRT_STS_RUN, F.DMP_STS_PARKED]) (fun t =>
      (t.chan c).full = true ∧ t.get (F.MBX_STS_WOKE c) = 1 ∧ bit (t.get F.HRT_STS_PARKED) (s.get (F.MBX_CFG_RECEIVER c)) = false ∧
      bit (t.get F.HRT_STS_RUN) (s.get (F.MBX_CFG_RECEIVER c)) = true ∧ (t.bank (reqAgent r)).txRes = 1)) ∧
  (∀ (s : State) (r : Req) (c value : Nat), s.writable r (R.MBX_SEND + 0x100 * c) = true → bit value 31 = true → s.released dNoc = true →
    bit (s.get (F.MBX_CFG_SENDERS c)) (reqAgent r) = false →
    Does (.mbxSend r c value) s (logParts ++ [.banks]) (logFlds ++ [F.MBX_ERR_DENIED, F.MBX_DENY_CNT_COUNT]) (fun t =>
      t.chan c = s.chan c ∧ (t.bank (reqAgent r)).txRes = 8 ∧ t.get F.MBX_ERR_DENIED = 1 ∧
      t.get F.MBX_DENY_CNT_COUNT = min (s.get F.MBX_DENY_CNT_COUNT + 1) 0xFFFFFFFF))) ∧
  /- R545, R546, R548, R550: the receiver's ACK of the message it read empties the channel and its poster's EMPTY event rises; a stale ACK
changes no channel; a message that waits TO_MS milliseconds times out and stays; a message for the partner ends with its frames acknowledged. -/
  ((∀ (s : State) (r : Req) (c value : Nat), s.writable r (R.MBX_ACK + 0x100 * c) = true → bit value 31 = true → s.released dNoc = true →
    reqAgent r = s.get (F.MBX_CFG_RECEIVER c) → (s.chan c).full = true → (s.chan c).num = value % 256 →
    Does (.mbxAck r c value) s [.banks, .chans] [] (fun t =>
      t.chan c = { s.chan c with full := false, timer := false, away := false } ∧ (∀ d, d ≠ c → t.chan d = s.chan d) ∧
      bit (t.bank (s.chan c).poster).sevEmpty c = true)) ∧
  (∀ (s : State) (r : Req) (c value : Nat), s.writable r (R.MBX_ACK + 0x100 * c) = true → bit value 31 = true → s.released dNoc = true →
    reqAgent r = s.get (F.MBX_CFG_RECEIVER c) → (s.chan c).num ≠ value % 256 →
    Does (.mbxAck r c value) s logParts (logFlds ++ [F.MBX_STS_ACK_STALE c, F.MBX_ERR_ACK_STALE]) (fun t =>
      t.get (F.MBX_STS_ACK_STALE c) = 1 ∧ StagedMs 0x0D05 0 [c % 2 ^ 32] s t)) ∧
  (∀ (s : State) (c : Nat), (s.chan c).full = true → (s.chan c).timer = true → s.get (F.MBX_CFG_TO_MS c) ≠ 0 →
    (s.chan c).postAt + s.get (F.MBX_CFG_TO_MS c) * 100000 ≤ s.now →
    Does (.mbxTimeout c) s (logParts ++ [.banks, .chans]) (logFlds ++ [F.MBX_STS_TIMEOUT c, F.MBX_ERR_TIMEOUT]) (fun t =>
      t.get (F.MBX_STS_TIMEOUT c) = 1 ∧ t.chan c = { s.chan c with timer := false } ∧
      bit (t.bank (s.chan c).poster).sevTo c = true ∧ StagedMs 0x0D02 0 [c % 2 ^ 32] s t)) ∧
  (∀ (s : State) (c : Nat), (s.chan c).full = true → (s.chan c).away = true →
    s.crl.txq.all (fun f => f.chan != some c) = true → s.crl.replay.all (fun f => f.chan != some c) = true →
    Does (.mbxPeerAcked c) s [.banks, .chans] [] (fun t =>
      (t.chan c).full = false ∧ bit (t.bank (s.chan c).poster).sevEmpty c = true))) ∧
  /- R537, R538, R549: a slot's timer interrupt, its watchdog's kick by its own hart, warning, restart of a warned slot at AND_RESTART_VEC and, at
twice the time, reset of the compute die; and the parking of a slot by itself in Banked. -/
  ((∀ (s : State) (slot : Nat), s.get (F.HRT_MTIMECMP_VALUE slot) ≤ s.now → slot ∉ s.hrt.mtip →
    Does (.timerInterrupt slot) s [.mtip] [] (fun t => t.hrt.mtip = slot :: s.hrt.mtip)) ∧
  (∀ (s : State) (slot : Nat) (m : Bool), s.writable (.hart slot m) (R.HRT_WDT_KICK + 4 * slot) = true → s.wdtOn slot = true →
    Does (.wdtKick (.hart slot m) slot) s [.wdt] [F.HRT_WDT_STS_WARN] (fun t =>
      Tab.getN t.hrt.wdtFrom slot = s.now ∧ bit (t.get F.HRT_WDT_STS_WARN) slot = false)) ∧
  (∀ (s : State) (slot : Nat), s.wdtOn slot = true → s.get F.HRT_WDT_TO_TIMEOUT * 100000 ≤ s.wdtCount slot →
    bit (s.get F.HRT_WDT_STS_WARN) slot = false →
    Does (.wdtWarn slot) s logParts (logFlds ++ [F.HRT_WDT_STS_WARN, F.HRT_ERR_WDT_WARN]) (fun t =>
      bit (t.get F.HRT_WDT_STS_WARN) slot = true ∧ t.get F.HRT_ERR_WDT_WARN = 1 ∧ StagedMs 0x0320 0 [slot % 2 ^ 32] s t)) ∧
  (∀ (s : State) (slot : Nat), s.wdtOn slot = true → 2 * (s.get F.HRT_WDT_TO_TIMEOUT * 100000) ≤ s.wdtCount slot → s.calm = true →
    s.kdl.held = [] →
    Gives (.wdtExpire slot) s (fun t => BeginsReset .watchdog .computeDie s t)) ∧
  (∀ (s : State) (r : Req) (value : Nat), s.writable r R.HRT_WDT_RESTART = true → bit value 31 = true →
    bit (s.get F.HRT_WDT_STS_WARN) (value % 8) = true →
    Does (.wdtRestart r value) s (logParts ++ [.wdt]) (logFlds ++ [F.HRT_WDT_STS_WARN, F.HRT_ERR_WDT_RESTART]) (fun t =>
      t.out.head? = some (.hartStart (value % 8) (4 * s.get F.AND_RESTART_VEC_ADDR) (value % 8) 3) ∧
      bit (t.get F.HRT_WDT_STS_WARN) (value % 8) = false ∧ t.get F.HRT_ERR_WDT_RESTART = 1 ∧
      Tab.getN t.hrt.wdtFrom (value % 8) = s.now)) ∧
  (∀ (s : State) (m : Bool) (value : Nat), s.writable (.hart (value % 8) m) R.HRT_PARK = true → bit value 31 = true → value % 8 ≠ 0 →
    s.md = 5 →
    Does (.hrtPark (.hart (value % 8) m) value) s [.wdt] [F.HRT_STS_PARKED, F.HRT_STS_RUN, F.DMP_STS_PARKED] (fun t =>
      bit (t.get F.HRT_STS_PARKED) (value % 8) = true ∧ bit (t.get F.HRT_STS_RUN) (value % 8) = false ∧
      bit (t.get F.DMP_STS_PARKED) 2 = true)))

/-! ### Array Time (ch. 15) -/

/-- How Array Time follows its sources, and what their loss does.
The model's choices it rests on: log entries 4, 5, 86 and 140. -/
def Obligations.ArrayTimeIsCorrected : Prop :=
  /- R425, R426: a TICK_SYNC edge corrects AT towards the whole second when SRC is 1: within SLEW_MAX by slewing for 100 cycles a count, ahead or
behind; outside it by a step forward, which is recorded. With another source it only shows SYNC_OK. TICK_PHASE shows the error. While TICK_CLK is lost, an
edge does not end holdover (R427). -/
  ((∀ s : State, s.get F.TICK_CTL_SRC = 1 → s.get F.TICK_STS_CLK_OK = 1 → s.tick.loaded = true → 0 < s.now % 100000000 → s.now % 100000000 < 50000000 →
    s.now % 100000000 ≤ s.get F.TICK_LIMITS_SLEW_MAX →
    Does .tickSyncEdge s [.tick] [F.TICK_STS_SYNC_OK, F.TICK_PHASE_VALUE, F.TICK_STS_HOLDOVER, F.TICK_STS_LOCKED] (fun t =>
      t.get F.TICK_STS_SYNC_OK = 1 ∧ t.get F.TICK_PHASE_VALUE = s.now % 100000000 ∧ t.get F.TICK_STS_HOLDOVER = 0 ∧
      t.get F.TICK_STS_LOCKED = 1 ∧ t.tick.slew = .slew true (s.now % 100000000 * 100) ∧ t.now = s.now)) ∧
  (∀ s : State, s.get F.TICK_CTL_SRC = 1 → s.get F.TICK_STS_CLK_OK = 1 → s.tick.loaded = true → 50000000 ≤ s.now % 100000000 →
    100000000 - s.now % 100000000 ≤ s.get F.TICK_LIMITS_SLEW_MAX →
    Does .tickSyncEdge s [.tick] [F.TICK_STS_SYNC_OK, F.TICK_PHASE_VALUE, F.TICK_STS_HOLDOVER, F.TICK_STS_LOCKED] (fun t =>
      t.get F.TICK_PHASE_VALUE = 2 ^ 32 - (100000000 - s.now % 100000000) ∧ t.get F.TICK_STS_LOCKED = 1 ∧
      t.tick.slew = .slew false ((100000000 - s.now % 100000000) * 100) ∧ t.now = s.now)) ∧
  (∀ s : State, s.get F.TICK_CTL_SRC = 1 → s.tick.loaded = true →
    s.get F.TICK_LIMITS_SLEW_MAX < s.now % 100000000 → s.get F.TICK_LIMITS_SLEW_MAX < 100000000 - s.now % 100000000 →
    Does .tickSyncEdge s (logParts ++ [.tick])
      (logFlds ++ [F.TICK_STS_SYNC_OK, F.TICK_PHASE_VALUE, F.TICK_STS_HOLDOVER, F.TICK_STS_LOCKED, F.TICK_ERR_STEP]) (fun t =>
      t.now = s.now + (100000000 - s.now % 100000000) ∧ t.tick.slew = .none ∧ t.get F.TICK_ERR_STEP = 1 ∧ t.get F.TICK_STS_LOCKED = 0)) ∧
  (∀ s : State, s.get F.TICK_CTL_SRC = 1 → s.get F.TICK_STS_CLK_OK = 0 → s.tick.loaded = true → s.get F.TICK_STS_HOLDOVER = 1 →
    Gives .tickSyncEdge s (fun t => t.get F.TICK_STS_HOLDOVER = 1 ∧ t.get F.TICK_STS_SYNC_OK = 1)) ∧
  (∀ s : State, s.get F.TICK_CTL_SRC ≠ 1 →
    Does .tickSyncEdge s [] [F.TICK_STS_SYNC_OK] (fun t => t.get F.TICK_STS_SYNC_OK = 1))) ∧
  /- R425, R426, R68: a PTM dialog corrects AT towards the master's time plus TICK_PTM_OFS when SRC is 2: within SLEW_MAX by slewing, behind by
more by a step forward, ahead by more at half rate for 2e cycles. Dialogs take place in L0, at most one an interval. A correction that has made its
cycles ends. -/
  ((∀ (s : State) (ns cap : Nat) (e : Int), (s.port 0).ptmEnable = true → s.get (F.HST_LINK_STS_LTSSM 0) = 3 →
    s.get F.TICK_CTL_SRC = 2 → s.tick.loaded = true → (s.port 0).ptmAt + max 1 (s.get F.TICK_PTM_INT_INTERVAL) * 100 ≤ s.cyc →
    e = (cap : Int) - ((ns / 10 : Nat) + (BitVec.ofNat 64 (s.get F.TICK_PTM_OFS_OFS)).toInt) → e ≠ 0 →
    -(s.get F.TICK_LIMITS_SLEW_MAX : Int) ≤ e → e ≤ (s.get F.TICK_LIMITS_SLEW_MAX : Int) →
    Does (.ptmDialog ns cap) s [.tick, .ports] [F.TICK_STS_PTM_OK, F.TICK_PHASE_VALUE, F.TICK_STS_HOLDOVER, F.TICK_STS_LOCKED] (fun t =>
      t.get F.TICK_STS_PTM_OK = 1 ∧ t.get F.TICK_STS_LOCKED = 1 ∧ t.tick.slew = .slew (decide (0 < e)) (e.natAbs * 100) ∧
      (t.port 0).ptmAt = s.cyc ∧ t.now = s.now)) ∧
  (∀ (s : State) (ns cap : Nat) (e : Int), (s.port 0).ptmEnable = true → s.get (F.HST_LINK_STS_LTSSM 0) = 3 →
    s.get F.TICK_CTL_SRC = 2 → s.tick.loaded = true → (s.port 0).ptmAt + max 1 (s.get F.TICK_PTM_INT_INTERVAL) * 100 ≤ s.cyc →
    e = (cap : Int) - ((ns / 10 : Nat) + (BitVec.ofNat 64 (s.get F.TICK_PTM_OFS_OFS)).toInt) → (s.get F.TICK_LIMITS_SLEW_MAX : Int) < e →
    Does (.ptmDialog ns cap) s [.tick, .ports] [F.TICK_STS_PTM_OK, F.TICK_PHASE_VALUE, F.TICK_STS_HOLDOVER, F.TICK_STS_LOCKED] (fun t =>
      t.tick.slew = .half (2 * e.toNat) ∧ t.get F.TICK_STS_LOCKED = 0 ∧ t.now = s.now)) ∧
  (∀ (s : State) (ns cap : Nat) (e : Int), (s.port 0).ptmEnable = true → s.get (F.HST_LINK_STS_LTSSM 0) = 3 →
    s.get F.TICK_CTL_SRC = 2 → s.tick.loaded = true → (s.port 0).ptmAt + max 1 (s.get F.TICK_PTM_INT_INTERVAL) * 100 ≤ s.cyc →
    e = (cap : Int) - ((ns / 10 : Nat) + (BitVec.ofNat 64 (s.get F.TICK_PTM_OFS_OFS)).toInt) → e < -(s.get F.TICK_LIMITS_SLEW_MAX : Int) →
    Does (.ptmDialog ns cap) s (logParts ++ [.tick, .ports])
      (logFlds ++ [F.TICK_STS_PTM_OK, F.TICK_PHASE_VALUE, F.TICK_STS_HOLDOVER, F.TICK_STS_LOCKED, F.TICK_ERR_STEP]) (fun t =>
      t.now = s.now + e.natAbs ∧ t.tick.slew = .none ∧ t.get F.TICK_ERR_STEP = 1)) ∧
  (∀ (s : State) (a : Bool), s.tick.slew = .slew a 0 ∨ s.tick.slew = .half 0 →
    Does .atCorrectionEnd s [.tick] [F.TICK_STS_LOCKED] (fun t =>
      t.tick.slew = .none ∧ t.get F.TICK_STS_LOCKED = b2n s.tick.inLimit ∧ t.now = s.now))) ∧
  /- R427: the loss of the source that SRC selects sets HOLDOVER and its error flag and is recorded; of another source only its OK bit clears. -/
  ((∀ s : State, s.get F.TICK_CTL_SRC = 1 →
    Does .tickClkLoss s logParts (logFlds ++ [F.TICK_STS_CLK_OK, F.TICK_STS_HOLDOVER, F.TICK_ERR_CLK_LOSS]) (fun t =>
      t.get F.TICK_STS_CLK_OK = 0 ∧ t.get F.TICK_STS_HOLDOVER = 1 ∧ t.get F.TICK_ERR_CLK_LOSS = 1 ∧ StagedMs 0x0E03 0 [] s t)) ∧
  (∀ s : State, s.get F.TICK_CTL_SRC = 1 →
    Does .tickSyncLoss s logParts (logFlds ++ [F.TICK_STS_SYNC_OK, F.TICK_STS_HOLDOVER, F.TICK_ERR_SYNC_LOSS]) (fun t =>
      t.get F.TICK_STS_SYNC_OK = 0 ∧ t.get F.TICK_STS_HOLDOVER = 1 ∧ t.get F.TICK_ERR_SYNC_LOSS = 1 ∧ StagedMs 0x0E04 0 [] s t)) ∧
  (∀ s : State, s.get F.TICK_CTL_SRC = 2 →
    Does .ptmLoss s logParts (logFlds ++ [F.TICK_STS_PTM_OK, F.TICK_STS_HOLDOVER, F.TICK_ERR_PTM_LOSS]) (fun t =>
      t.get F.TICK_STS_PTM_OK = 0 ∧ t.get F.TICK_STS_HOLDOVER = 1 ∧ t.get F.TICK_ERR_PTM_LOSS = 1 ∧ StagedMs 0x0E05 0 [] s t)) ∧
  (∀ s : State, s.get F.TICK_CTL_SRC = 0 → Does .tickClkLoss s [] [F.TICK_STS_CLK_OK] (fun t => t.get F.TICK_STS_CLK_OK = 0) ∧
    Does .tickSyncLoss s [] [F.TICK_STS_SYNC_OK] (fun t => t.get F.TICK_STS_SYNC_OK = 0) ∧
    Does .ptmLoss s [] [F.TICK_STS_PTM_OK] (fun t => t.get F.TICK_STS_PTM_OK = 0)) ∧
  (∀ s : State, Does .tickClkReturn s [] [F.TICK_STS_CLK_OK] (fun t => t.get F.TICK_STS_CLK_OK = 1)) ∧
  (∀ s : State, s.tick.loaded = true → s.tick.floorSec < s.now / 100000000 → s.released dEmb = true →
    Does .tickFloorWrite s [.tick, .soot] [F.TICK_FLOOR_AT] (fun t =>
      t.get F.TICK_FLOOR_AT = s.now % 2 ^ 64 ∧ t.tick.floorSec = s.now / 100000000 ∧ t.now = s.now ∧
      t.soot.cyclesE = s.soot.cycles ∧ t.soot.opTimeE = s.soot.opTime ∧ t.soot.log = s.soot.log)))

/-- R423, R424: with no command waiting one TICK cycle passes. Without a correction AT rises by one, and only once it has been loaded; a slew
leaves out or doubles the count of its last cycle of each 100; at half rate every second cycle counts. (That a cycle is what an empty queue runs
is the model's choice, and that waiting snapshot records are tried then: assumptions 1 and 138.)
The model's choices it rests on: log entries 1, 86 and 138. -/
def Obligations.TickCycles : Prop :=
  ∀ s : State, s.pending = [] → s.ddx.snapWait = [] → ∃ t, step s = .next t ∧ Kept [.tick] [] s t ∧ t.cyc = s.cyc + 1 ∧
    (s.tick.loaded = false → t.now = s.now) ∧
    (s.tick.loaded = true →
      (s.tick.slew = .none → t.now = s.now + 1) ∧
      (∀ n, s.tick.slew = .slew true (100 * n + 1) → t.now = s.now ∧ t.tick.slew = .slew true (100 * n)) ∧
      (∀ n, s.tick.slew = .slew false (100 * n + 1) → t.now = s.now + 2 ∧ t.tick.slew = .slew false (100 * n)) ∧
      (∀ a n r, 1 < r → r ≤ 100 → s.tick.slew = .slew a (100 * n + r) → t.now = s.now + 1 ∧ t.tick.slew = .slew a (100 * n + r - 1)) ∧
      (∀ n, s.tick.slew = .half (2 * n + 2) → t.now = s.now) ∧ (∀ n, s.tick.slew = .half (2 * n + 1) → t.now = s.now + 1))

/-- How cuts are taken, and snapshot streams armed and run.
The model's choices it rests on: log entries 4 and 87. -/
def Obligations.CutsAndStreams : Prop :=
  /- R431, R433, R437, R438: a cut moves the main journal counter to the end of a gap of 2^20 sequences that begins at the next boundary, commits
that end as the high-water mark, and enters T and END_T in the cut log and in the cut table; the entry advances by its period. A write of 1 to
CUT_EN skips what has passed (R432). Firmware consumes the cut log by advancing RD. -/
  ((∀ (s : State) (c n : Nat), c < 16 → s.get F.TICK_CTL_CUT_EN = 1 → s.released dNoc = true → s.dueCut s.now = some c →
    s.get F.TICK_CLOG_CTL_COUNT < 64 → s.md ≠ 5 → n = (s.bel.seqNext + 2 ^ 20 - 1) / 2 ^ 20 * 2 ^ 20 → n + 2 ^ 20 ≤ 2 ^ 62 →
    s.tick.gaps.length < 64 → s.get F.TICK_CLOG_CTL_WR < 64 → s.ich.waiting = [] →
    Does (.cut c) s (logParts ++ [.bel, .jnl, .tick, .ddr, .ich, .ports])
      (logFlds ++ [F.TICK_CS_T_VALUE c, F.TICK_CLOG_T_VALUE (s.get F.TICK_CLOG_CTL_WR), F.TICK_CLOG_END_VALUE (s.get F.TICK_CLOG_CTL_WR),
        F.TICK_CLOG_CTL_WR, F.TICK_CLOG_CTL_COUNT]) (fun t =>
      t.bel = { s.bel with seqNext := n + 2 ^ 20, blockEnd := n + 2 ^ 20 } ∧ t.jnl.hwm = n + 2 ^ 20 ∧ t.jnl.recs = s.jnl.recs ∧
      t.tick.gaps = s.tick.gaps ++ [{ t := s.get (F.TICK_CS_T_VALUE c), first := n, next := n, endT := n + 2 ^ 20 }] ∧
      t.get (F.TICK_CLOG_T_VALUE (s.get F.TICK_CLOG_CTL_WR)) = s.get (F.TICK_CS_T_VALUE c) % 2 ^ 64 ∧
      t.get (F.TICK_CLOG_END_VALUE (s.get F.TICK_CLOG_CTL_WR)) = n + 2 ^ 20 ∧
      t.get F.TICK_CLOG_CTL_WR = (s.get F.TICK_CLOG_CTL_WR + 1) % 64 ∧ t.get F.TICK_CLOG_CTL_COUNT = s.get F.TICK_CLOG_CTL_COUNT + 1 ∧
      t.get (F.TICK_CS_T_VALUE c) = (if s.get (F.TICK_CS_PER_VALUE c) = 0 then 0
        else (s.get (F.TICK_CS_T_VALUE c) + s.get (F.TICK_CS_PER_VALUE c)) % 2 ^ 64) ∧
      Tab.readBytes t.ddr (s.get F.TICK_SNAP_RING_BASE * 2 ^ 20 + 16 * (s.get F.TICK_CLOG_CTL_WR % 64)) 16 =
        leBytes 8 (s.get (F.TICK_CS_T_VALUE c)) ++ leBytes 8 (n + 2 ^ 20) ∧
      (s.bareDdr = true → t.ich = s.ich ∧ t.ports = s.ports ∧ ∀ a, a < s.get F.TICK_SNAP_RING_BASE * 2 ^ 20 + 16 * (s.get F.TICK_CLOG_CTL_WR % 64) ∨
        s.get F.TICK_SNAP_RING_BASE * 2 ^ 20 + 16 * (s.get F.TICK_CLOG_CTL_WR % 64) + 16 ≤ a → Tab.getB t.ddr a = Tab.getB s.ddr a))) ∧
  (∀ (s : State) (r : Req), s.writable r R.TICK_CTL = true → s.get F.TICK_CTL_CUT_EN = 0 →
    Does (.cutEnable r) s [] (F.TICK_CTL_CUT_EN :: (List.range 16).map F.TICK_CS_T_VALUE) (fun t =>
      t.get F.TICK_CTL_CUT_EN = 1 ∧
      (∀ c, c < 16 → s.get (F.TICK_CS_T_VALUE c) ≠ 0 → s.get (F.TICK_CS_T_VALUE c) ≤ s.now → s.get (F.TICK_CS_PER_VALUE c) = 0 →
        t.get (F.TICK_CS_T_VALUE c) = 0) ∧
      ∀ c, c < 16 → s.get (F.TICK_CS_T_VALUE c) ≠ 0 → s.get (F.TICK_CS_T_VALUE c) ≤ s.now → s.get (F.TICK_CS_PER_VALUE c) ≠ 0 →
        s.now + s.get (F.TICK_CS_PER_VALUE c) < 2 ^ 64 →
        s.now < t.get (F.TICK_CS_T_VALUE c) ∧ t.get (F.TICK_CS_T_VALUE c) ≤ s.now + s.get (F.TICK_CS_PER_VALUE c) ∧
        (t.get (F.TICK_CS_T_VALUE c) - s.get (F.TICK_CS_T_VALUE c)) % s.get (F.TICK_CS_PER_VALUE c) = 0)) ∧
  (∀ (s : State) (r : Req) (rd : Nat), s.writable r R.TICK_CLOG_CTL = true → rd < 64 →
    (rd + 64 - s.get F.TICK_CLOG_CTL_RD) % 64 ≤ s.get F.TICK_CLOG_CTL_COUNT → s.get F.TICK_CLOG_CTL_COUNT < 128 →
    Does (.clogConsume r rd) s [] [F.TICK_CLOG_CTL_RD, F.TICK_CLOG_CTL_COUNT] (fun t =>
      t.get F.TICK_CLOG_CTL_RD = rd ∧
      t.get F.TICK_CLOG_CTL_COUNT = s.get F.TICK_CLOG_CTL_COUNT - (rd + 64 - s.get F.TICK_CLOG_CTL_RD) % 64)) ∧
  (∀ (s : State) (a : Nat), s.tick.gapHold = some a → a ≤ s.now →
    Does .gapHoldRelease s [.tick] [] (fun t => t.tick = { s.tick with gapHold := none }))) ∧
  /- R440, R441: arming a stream draws the head's arm count and captures its cuts from the cut log; FINAL marks its last item; TICK_RS_IDX names
the segment delivered next. Other streams are unchanged. -/
  ((∀ (s : State) (r : Req) (value i : Nat), s.writable r R.TICK_RS_CFG = true → i = s.get F.TICK_RS_SEL_STREAM → (s.stream i).arm = false →
    s.tick.armCount < 2 ^ 48 →
    Does (.streamArm r value) s [.tick] [] (fun t =>
      t.stream i = { s.stream i with
        arm := true, final := false, index := 0, state := 1, built := 0, armNo := s.tick.armCount, macs := [], last := none, items := 0,
        port := bits value 29 1, encSlot := bits value 12 12, macSlot := bits value 0 12,
        t1 := if (s.stream i).full then 0 else s.get (F.TICK_CLOG_T_VALUE (s.stream i).cut1),
        t2 := s.get (F.TICK_CLOG_T_VALUE (s.stream i).cut2), end1 := s.get (F.TICK_CLOG_END_VALUE (s.stream i).cut1),
        end2 := s.get (F.TICK_CLOG_END_VALUE (s.stream i).cut2) } ∧
      t.tick.armCount = s.tick.armCount + 1 ∧ (∀ j, j ≠ i → t.stream j = s.stream j) ∧ t.now = s.now)) ∧
  (∀ (s : State) (r : Req) (value i : Nat), s.writable r R.TICK_RS_CFG = true → i = s.get F.TICK_RS_SEL_STREAM → (s.stream i).arm = true →
    bit value 31 = true → (s.stream i).items ≠ 0 →
    Does (.streamFinal r value) s [.tick] [] (fun t =>
      t.stream i = { s.stream i with final := true, port := bits value 29 1 } ∧ ∀ j, j ≠ i → t.stream j = s.stream j)) ∧
  (∀ (s : State) (r : Req) (value i : Nat), s.writable r R.TICK_RS_CFG = true → i = s.get F.TICK_RS_SEL_STREAM → (s.stream i).arm = true →
    bit value 31 = true → (s.stream i).items = 0 → (s.stream i).state = 1 →
    Does (.streamFinal r value) s (logParts ++ [.tick]) logFlds (fun t => (t.stream i).state = 2 ∧ (t.stream i).final = true)) ∧
  (∀ (s : State) (r : Req) (index i : Nat), s.writable r R.TICK_RS_IDX = true → i = s.get F.TICK_RS_SEL_STREAM →
    Does (.streamRewind r index) s [.tick] [] (fun t =>
      t.stream i = { s.stream i with index := index % 2 ^ 32 } ∧ ∀ j, j ≠ i → t.stream j = s.stream j)))

/-! ### The Grate pool (ch. 01) -/

/-- R30, R32, R33: a freed grate returns to the shared remainder while its channel holds shared grates, else to the reservation, and ends the
channel's stall; a channel that has freed none for GRT_STALL_TO is stalled and the stall recorded; a spill moves the oldest journalled grate's bytes to DDR, at an address
the spec leaves open (a free value, log 134), and frees it.
The model's choices it rests on: log entries 4, 5, 25, 127 and 134. -/
def Obligations.GratesAreFreed : Prop :=
  (∀ (s : State) (g : Nat) (x : Grate), Tab.find s.pool.held g = some x →
    Does (.grateFree g) s [.pool] [] (fun t =>
      Tab.find t.pool.held g = none ∧ (∀ h, h ≠ g → Tab.find t.pool.held h = Tab.find s.pool.held h) ∧
      t.chanShared x.chan = s.chanShared x.chan - 1 ∧ (∀ c, c ≠ x.chan → t.chanShared c = s.chanShared c) ∧
      (Tab.sorted s.pool.held = true → t.chanTotal x.chan + 1 = s.chanTotal x.chan ∧
        t.chanTotal x.chan - t.chanShared x.chan = s.chanTotal x.chan - s.chanShared x.chan - (if 0 < s.chanShared x.chan then 0 else 1)) ∧
      x.chan ∉ t.pool.stalled ∧ t.pool.waiting = s.pool.waiting)) ∧
  (∀ (s : State) (c : Nat), c < 8 → 0 < s.chanShared c → c ∉ s.pool.stalled →
    Tab.getN s.pool.stallFrom c + s.get F.GRT_STALL_TO_TIMEOUT * 100 ≤ s.cyc →
    Does (.grtStall c) s (logParts ++ [.pool]) (logFlds ++ [F.GRT_STALL_STALLED]) (fun t =>
      c ∈ t.pool.stalled ∧ t.pool.held = s.pool.held ∧ bit (t.get F.GRT_STALL_STALLED) c = true ∧ Staged 0x0701 [] s t)) ∧
  (∀ (s : State) (g : Nat) (x : Grate), s.sharedFree < s.get F.GRT_SPILL_LO_LEVEL → s.spillNext = some g → Tab.find s.pool.held g = some x → s.ich.waiting = [] →
    Does .grateSpill s [.pool, .ddr, .ich, .ports, .free] [] (fun t =>
      Tab.find t.pool.held g = none ∧ t.pool.overflow = s.pool.overflow ++ [(x.user, g, 4096 * s.freeValue.toNat)] ∧
      Tab.readBytes t.ddr (4096 * s.freeValue.toNat) 4096 = Tab.readBytes s.grates (4096 * g) 4096 ∧ t.freeCtr = s.freeCtr + 1 ∧
      ∀ h, h ≠ g → Tab.find t.pool.held h = Tab.find s.pool.held h))

/-- How grates are granted, and reservations written.
The model's choices it rests on: log entry 26. -/
def Obligations.GratesAreGranted : Prop :=
  /- R29, R31: a request that can be granted, with none of its channel waiting, takes the lowest free grate at once: against the reservation while
that has room, else against the shared remainder. A request that cannot be granted waits and is counted. A waiting request is granted in its
channel's turn, and no request of another channel overtakes those that wait for the shared remainder. -/
  ((∀ (s : State) (c user g : Nat), s.released dCch = true → s.chanTotal c - s.chanShared c < s.get (F.GRT_CH_RSV_RSV c) →
    s.pool.waiting.all (fun w => w.chan != c) = true → s.freeGrate = some g →
    Does (.grateAllocRequest c user) s [.pool] [] (fun t =>
      Tab.find t.pool.held g = some { chan := c, journalled := false, atime := s.now, user } ∧
      (∀ h, h ≠ g → Tab.find t.pool.held h = Tab.find s.pool.held h) ∧ t.pool.shared = s.pool.shared ∧ t.pool.waiting = s.pool.waiting)) ∧
  (∀ (s : State) (c user g : Nat), s.released dCch = true → s.get (F.GRT_CH_RSV_RSV c) ≤ s.chanTotal c - s.chanShared c →
    s.chanShared c < s.get (F.GRT_CH_CAP_CAP c) → s.sharersWaiting < s.sharedFree → c ∉ s.pool.stalled →
    s.pool.waiting.all (fun w => w.chan != c) = true → s.freeGrate = some g →
    Does (.grateAllocRequest c user) s [.pool] [] (fun t =>
      Tab.find t.pool.held g = some { chan := c, journalled := false, atime := s.now, user } ∧
      t.chanShared c = s.chanShared c + 1 ∧ t.pool.lastShared = c ∧ t.pool.waiting = s.pool.waiting)) ∧
  (∀ (s : State) (c user : Nat), s.released dCch = true → s.get (F.GRT_CH_RSV_RSV c) ≤ s.chanTotal c - s.chanShared c →
    s.get (F.GRT_CH_CAP_CAP c) ≤ s.chanShared c ∨ s.sharedFree ≤ s.sharersWaiting →
    Does (.grateAllocRequest c user) s [.pool] [F.GRT_BP_CNT_COUNT c] (fun t =>
      t.pool = { s.pool with waiting := s.pool.waiting ++ [{ chan := c, user, atime := s.now }] } ∧
      t.get (F.GRT_BP_CNT_COUNT c) = min (s.get (F.GRT_BP_CNT_COUNT c) + 1) 0xFFFFFFFF)) ∧
  (∀ (s : State) (r : GrateReq) (g : Nat), s.released dCch = true → s.nextGrant = some r → s.freeGrate = some g →
    s.canReserve r.chan = true → s.bel.cmds.all (fun c => c.stage != .landing) = true → s.crl.mirIn = [] → s.crl.mirOut = [] →
    s.drv.cmds.all (·.sent) = true → s.jnl.regain = [] →
    Does .grateGrant s [.pool] [] (fun t =>
      Tab.find t.pool.held g = some { chan := r.chan, journalled := false, atime := r.atime, user := r.user } ∧
      t.pool.waiting = dropReq r s.pool.waiting ∧ t.pool.shared = s.pool.shared))) ∧
  /- R34: reservations are written until they are locked, and never to more than 12,288 grates in all; they lock when they leave a shared remainder of
1,024 or more; either refusal sets CFG_ERR. -/
  ((∀ (s : State) (r : Req) (c value : Nat), c < 8 → s.writable r (R.GRT_CH_RSV + 4 * c) = true → s.get F.GRT_POOL_CFG_LOCK = 0 →
    s.rsvSum - s.get (F.GRT_CH_RSV_RSV c) + value % 2 ^ 14 ≤ 12288 →
    Does (.chRsvWrite r c value) s [] [F.GRT_CH_RSV_RSV c] (fun t => t.get (F.GRT_CH_RSV_RSV c) = value % 2 ^ 14)) ∧
  (∀ (s : State) (r : Req) (c value : Nat), c < 8 → s.writable r (R.GRT_CH_RSV + 4 * c) = true → s.get F.GRT_POOL_CFG_LOCK = 0 →
    12288 < s.rsvSum - s.get (F.GRT_CH_RSV_RSV c) + value % 2 ^ 14 →
    Does (.chRsvWrite r c value) s [] [F.GRT_POOL_CFG_CFG_ERR] (fun t => t.get F.GRT_POOL_CFG_CFG_ERR = 1)) ∧
  (∀ (s : State) (r : Req) (c value : Nat), c < 8 → s.writable r (R.GRT_CH_RSV + 4 * c) = true → s.get F.GRT_POOL_CFG_LOCK = 1 →
    Does (.chRsvWrite r c value) s [] [] (fun t => t = s)) ∧
  (∀ (s : State) (r : Req), s.writable r R.GRT_POOL_CFG = true → s.rsvSum ≤ 11264 →
    Does (.poolLock r) s [] [F.GRT_POOL_CFG_LOCK] (fun t => t.get F.GRT_POOL_CFG_LOCK = 1)) ∧
  (∀ (s : State) (r : Req), s.writable r R.GRT_POOL_CFG = true → 11264 < s.rsvSum →
    Does (.poolLock r) s [] [F.GRT_POOL_CFG_CFG_ERR] (fun t =>
      t.get F.GRT_POOL_CFG_CFG_ERR = 1 ∧ t.get F.GRT_POOL_CFG_LOCK = s.get F.GRT_POOL_CFG_LOCK)))

/-! ### The journal and the Ember store (ch. 13) -/

/-- How journal records commit and retire, and what an Ember error does to them.
The model's choices it rests on: log entries 4, 66, 67, 68, 71 and 143. -/
def Obligations.JournalRecords : Prop :=
  /- R361, R368: a record whose units are written is committed and counted, and its unit writes are charged; without credit for them it waits
and THROTTLE is set. A committed WRITE marks its grates journalled; a committed mirror copy raises AND_PSEQ_MAX (R458). -/
  ((∀ (s : State) (o q : Nat) (x : JRec), s.rec? false o q = some x → x.committed = false → x.type = 1 → 160 * (4 * x.lines) ≤ s.creditNow →
    Does (.recordCommit false o q) s [.jnl, .pool, .bel] [F.JNL_RECS_COUNT] (fun t =>
      t.jnl.recs = s.jnl.recs.map (fun y => if y.is false o q then { y with committed := true, unmirrored := s.getb F.GLB_MODE_UNMIRRORED } else y) ∧
      t.jnl.credit = s.creditNow - 160 * (4 * x.lines) ∧ t.jnl.creditAt = s.cyc ∧ t.jnl.waiting = s.jnl.waiting ∧
      t.get F.JNL_RECS_COUNT = (s.get F.JNL_RECS_COUNT + 1) % 2 ^ F.JNL_RECS_COUNT.width ∧
      ∀ g y, Tab.find s.pool.held g = some y → Tab.find t.pool.held g = some { y with journalled := y.journalled || y.user == 8 * x.tag })) ∧
  (∀ (s : State) (o q : Nat) (x : JRec), s.rec? true o q = some x → x.committed = false → x.type = 1 → x.body = .none →
    160 * (4 * x.lines) ≤ s.creditNow → s.session = false →
    Does (.recordCommit true o q) s [.jnl, .pool] [F.JNL_RECS_COUNT, F.AND_PSEQ_MAX_VALUE] (fun t =>
      t.jnl.recs = s.jnl.recs.map (fun y => if y.is true o q then { y with committed := true, unmirrored := false } else y) ∧
      t.get F.AND_PSEQ_MAX_VALUE = max (s.get F.AND_PSEQ_MAX_VALUE) q % 2 ^ F.AND_PSEQ_MAX_VALUE.width)) ∧
  (∀ (s : State) (m : Bool) (o q : Nat) (x : JRec), s.rec? m o q = some x → x.committed = false → s.creditNow < 160 * (4 * x.lines) →
    Does (.recordCommit m o q) s logParts (logFlds ++ [F.JNL_ERR_THROTTLE]) (fun t =>
      t.get F.JNL_ERR_THROTTLE = 1 ∧ StagedMs 0x0A06 0 [] s t))) ∧
  /- R373, R374, R375: a committed OWNER record retires once no mirror copy of it is awaited and there is credit for its unit write, and its lines and staged payload are free; a mirror
copy never retires of itself. A relocation moves the live record at the tail to the head. -/
  ((∀ (s : State) (o q : Nat) (x : JRec), s.rec? false o q = some x → x.committed = true → x.type = 7 → Tab.find s.crl.mirWait x.key = none →
    s.jnl.waiting = [] → s.session = false → 160 ≤ s.creditNow →
    Does (.recordRetire false o q) s (logParts ++ [.jnl]) (logFlds ++ [F.JNL_RETIRED_COUNT, F.JNL_STS_STOP, F.JNL_STS_FREE, F.JNL_STS_LAP,
        F.JNL_PTR_HEAD, F.JNL_PTR_TAIL, F.JNL_ERR_STOP]) (fun t =>
      t.jnl.recs = s.jnl.recs.filter (fun y => !y.is false o q) ∧ Tab.find t.jnl.staging x.key = none ∧
      t.get F.JNL_RETIRED_COUNT = (s.get F.JNL_RETIRED_COUNT + 1) % 2 ^ F.JNL_RETIRED_COUNT.width)) ∧
  (∀ (s : State) (o q : Nat), Does (.recordRetire true o q) s [] [] (fun t => t = s)) ∧
  (∀ (s : State) (x : JRec) (line lap : Nat), s.get F.JNL_CTL_RELOC_EN = 1 → s.get F.JNL_STS_READY = 1 →
    s.freeLines < 2 * s.get F.JNL_CTL_LOW → s.tailRec = some x → x.committed = true → s.place x.lines = some (line, lap) →
    160 * (4 * x.lines + 1) ≤ s.creditNow →
    Does .recordRelocate s (logParts ++ [.jnl]) (logFlds ++ [F.JNL_RELOC_CNT_COUNT, F.JNL_STS_STOP, F.JNL_STS_FREE, F.JNL_STS_LAP,
        F.JNL_PTR_HEAD, F.JNL_PTR_TAIL, F.JNL_ERR_STOP]) (fun t =>
      t.jnl.recs = s.jnl.recs.map (fun y => if y.is x.mirror x.origin x.seq then { y with line, lap } else y) ∧
      t.jnl.head = line + x.lines ∧ t.jnl.lap = lap ∧ t.jnl.credit = s.creditNow - 160 * (4 * x.lines + 1) ∧
      t.get F.JNL_RELOC_CNT_COUNT = min (s.get F.JNL_RELOC_CNT_COUNT + 1) 0xFFFFFFFF))) ∧
  /- R360, R381, R382: a corrected Ember error is counted; an uncorrectable one in the ring marks the records that hold the unit, one in an option
copy loses the copy. Option bytes are written in Sweep only, into the copy that is not current, with UPDATES one higher and their CRC. -/
  ((∀ (s : State) (a : Nat) (both : Bool) (held : List Nat),
    Does (.emberEccError a false both held) s [] [F.JNL_ECC_CNT_COUNT] (fun t =>
      t.get F.JNL_ECC_CNT_COUNT = min (s.get F.JNL_ECC_CNT_COUNT + 1) 0xFFFFFFFF)) ∧
  (∀ (s : State) (a : Nat) (both : Bool) (held : List Nat), 0x400000 ≤ a → a < 0x1C00000 →
    Does (.emberEccError a true both held) s (logParts ++ [.jnl]) (logFlds ++ [F.JNL_ERR_ECC_UNC]) (fun t =>
      t.get F.JNL_ERR_ECC_UNC = 1 ∧ StagedMs 0x0A04 0 [a] s t ∧
      t.jnl = { s.jnl with recs := s.jnl.recs.map (fun r =>
        if r.line ≤ (a - 0x400000) / 64 ∧ (a - 0x400000) / 64 < r.line + r.lines then { r with bad := true } else r) })) ∧
  (∀ (s : State) (k : Nat) (both : Bool) (held : List Nat), k < 2 →
    Does (.emberEccError (0x1000 * k) true both held) s [.jnl] [] (fun t =>
      Tab.find t.jnl.opt k = none ∧ Tab.find t.jnl.opt (1 - k) = Tab.find s.jnl.opt (1 - k) ∧ t.jnl.recs = s.jnl.recs)) ∧
  (∀ (s : State) (r : Req) (value n u : Nat), s.writable r R.JNL_OPT_CMD = true → bit value 31 = true → s.md = 6 →
    leAt s.optStaged 0 4 = 0x4F505442 → leAt s.optStaged 4 2 = 1 →
    n = 1 - s.get F.JNL_OPT_STS_CUR → u = (leAt s.jnl.cur 8 4 + 1) % 2 ^ 32 →
    Does (.optionWrite r value false) s (logParts ++ [.jnl])
      (logFlds ++ [F.JNL_OPT_STS_VALID0, F.JNL_OPT_STS_VALID1, F.JNL_OPT_STS_PEND, F.JNL_OPT_CMD_RESULT]) (fun t =>
      t.get F.JNL_OPT_CMD_RESULT = 0 ∧ t.get F.JNL_OPT_STS_PEND = 1 ∧
      t.get (if n = 1 then F.JNL_OPT_STS_VALID1 else F.JNL_OPT_STS_VALID0) = 1 ∧
      Tab.find t.jnl.opt n = some ((patch s.optStaged 8 (leBytes 4 u)).take 252 ++ leBytes 4 (crc32c ((patch s.optStaged 8 (leBytes 4 u)).take 252))) ∧
      t.jnl.cur = s.jnl.cur)) ∧
  (∀ (s : State) (r : Req) (value : Nat) (f : Bool), s.writable r R.JNL_OPT_CMD = true → bit value 31 = true → s.md ≠ 6 →
    Does (.optionWrite r value f) s [] [F.JNL_OPT_CMD_RESULT, F.JNL_ERR_OPT_FAIL] (fun t =>
      t.get F.JNL_OPT_CMD_RESULT = 1 ∧ t.get F.JNL_ERR_OPT_FAIL = 1)))

/-! ### The key store (ch. 11) -/

/-- What every key command leaves as it was but for its report. -/
def keyFlds : List Fld := [F.KEY_SLOT_CMD_OP, F.KEY_SLOT_CMD_RESULT] ++ (List.range 16).map F.KEY_DATA_DATA

/-- R317: WRAP puts the slot's key under slot 4's K1 into KEY_WRAP with the head, a fresh WCOUNT, the slot, its class and slot 4's generation, and
leaves the slot; UNWRAP with those bytes restores key and class to the slot once it is empty, and only to it.
The model's choices it rests on: log entry 12. -/
def Obligations.KeyWrapRoundTrip : Prop :=
  ∀ (s : State) (r : Req) (n : Nat) (k w : KeySlot), s.writable r R.KEY_SLOT_CMD = true → n = s.get F.KEY_SLOT_SEL_SLOT → 16 ≤ n → n < 4096 →
    Tab.find s.keys.slots n = some k → Tab.find s.keys.slots 4 = some w → k.key.length = 64 → k.cls < 3 → Tab.getN s.keys.gens 4 < 2 ^ 32 →
    Does (.wrap r) s [.keys, .jnl] (keyFlds ++ (List.range 26).map F.KEY_WRAP_DATA) (fun t =>
      t.get F.KEY_SLOT_CMD_RESULT = 0 ∧ t.keys.slots = s.keys.slots ∧ t.keys.wcount = s.keys.wcount + 1 ∧
      t.keyWrap.take 20 = [BitVec.ofNat 8 s.head, 0, 0, 0] ++ leBytes 8 (s.keys.wcount + 1) ++ leBytes 2 n ++
        [BitVec.ofNat 8 k.cls, 0] ++ leBytes 4 (Tab.getN s.keys.gens 4) ∧
      Does (.unwrap r) { t with keys := { t.keys with slots := Tab.del t.keys.slots n } } [.keys] keyFlds (fun u =>
        u.get F.KEY_SLOT_CMD_RESULT = 0 ∧ ∀ m, Tab.find u.keys.slots m = Tab.find s.keys.slots m))

/-- How key slots are written, emptied and derived.
The model's choices it rests on: log entries 12 and 54. -/
def Obligations.KeySlots : Prop :=
  /- R316: KEY_WRITE stores KEY_DATA in an empty software slot with its class, KEY_ZERO empties one; both clear KEY_DATA. A command on a slot it may
not act on, or on equal halves, is refused, reported and changes no slot. -/
  ((∀ (s : State) (r : Req) (n : Nat), s.writable r R.KEY_SLOT_CMD = true → n = s.get F.KEY_SLOT_SEL_SLOT → 16 ≤ n → Tab.find s.keys.slots n = none →
    s.keyData.take 32 ≠ s.keyData.drop 32 →
    Does (.keyWrite r) s [.keys] keyFlds (fun t =>
      t.get F.KEY_SLOT_CMD_RESULT = 0 ∧ Tab.find t.keys.slots n = some { key := s.keyData, cls := s.get F.KEY_SLOT_ATTR_CLASS } ∧
      (∀ m, m ≠ n → Tab.find t.keys.slots m = Tab.find s.keys.slots m) ∧ t.keys.aroot = s.keys.aroot ∧
      ∀ w, w < 16 → t.get (F.KEY_DATA_DATA w) = 0)) ∧
  (∀ (s : State) (r : Req) (n : Nat), s.writable r R.KEY_SLOT_CMD = true → n = s.get F.KEY_SLOT_SEL_SLOT → 16 ≤ n →
    Does (.keyZero r) s [.keys] keyFlds (fun t =>
      t.get F.KEY_SLOT_CMD_RESULT = 0 ∧ Tab.find t.keys.slots n = none ∧ (∀ m, m ≠ n → Tab.find t.keys.slots m = Tab.find s.keys.slots m) ∧
      ∀ w, w < 16 → t.get (F.KEY_DATA_DATA w) = 0)) ∧
  (∀ (s : State) (r : Req), s.writable r R.KEY_SLOT_CMD = true → s.get F.KEY_SLOT_SEL_SLOT < 16 →
    Does (.keyWrite r) s logParts (logFlds ++ F.KEY_ERR_CMD_FAIL :: keyFlds) (fun t =>
      t.get F.KEY_SLOT_CMD_RESULT = 1 ∧ t.get F.KEY_ERR_CMD_FAIL = 1 ∧ ∀ w, w < 16 → t.get (F.KEY_DATA_DATA w) = 0)) ∧
  (∀ (s : State) (r : Req), s.writable r R.KEY_SLOT_CMD = true → 16 ≤ s.get F.KEY_SLOT_SEL_SLOT →
    Tab.find s.keys.slots (s.get F.KEY_SLOT_SEL_SLOT) = none → s.keyData.take 32 = s.keyData.drop 32 →
    Does (.keyWrite r) s logParts (logFlds ++ F.KEY_ERR_CMD_FAIL :: keyFlds) (fun t => t.get F.KEY_SLOT_CMD_RESULT = 4))) ∧
  /- R316, R319, R320, R321, R318, R315: REDERIVE raises a derived slot's generation and derives its key from the array root by the generation's KDF
input; the array root is programmed once, in Sweep; the erase of a Sanitize that no strand holds up zeroes every software slot. -/
  ((∀ (s : State) (r : Req) (n : Nat) (root : Bytes), s.writable r R.KEY_SLOT_CMD = true → n = s.get F.KEY_SLOT_SEL_SLOT → 1 ≤ n → n ≤ 4 →
    s.keys.aroot = some root → Tab.getN s.keys.gens n + 1 < 2 ^ 32 →
    Does (.rederive r) s (logParts ++ [.keys, .jnl]) (logFlds ++ keyFlds) (fun t =>
      t.get F.KEY_SLOT_CMD_RESULT = 0 ∧ Tab.getN t.keys.gens n = Tab.getN s.keys.gens n + 1 ∧
      Tab.find t.keys.slots n = some { key := kdf512 root (slotLabel n) (beBytes 4 n ++ beBytes 4 (Tab.getN s.keys.gens n + 1)),
                                       cls := if n ≤ 2 then 1 else 2 } ∧
      ∀ m, m ≠ n → Tab.find t.keys.slots m = Tab.find s.keys.slots m)) ∧
  (∀ (s : State) (r : Req), s.writable r R.KEY_SLOT_CMD = true → s.keys.aroot = none → s.md = 6 →
    Does (.programAroot r) s (logParts ++ [.keys]) (logFlds ++ keyFlds) (fun t =>
      t.get F.KEY_SLOT_CMD_RESULT = 0 ∧ t.keys.aroot = some (s.keyData.take 32) ∧ t.keys.slots = s.keys.slots)) ∧
  (∀ (s : State) (r : Req), s.writable r R.KEY_SLOT_CMD = true → s.keys.aroot ≠ none →
    Does (.programAroot r) s logParts (logFlds ++ F.KEY_ERR_CMD_FAIL :: keyFlds) (fun t =>
      t.get F.KEY_SLOT_CMD_RESULT = 7 ∧ t.get F.KEY_ERR_CMD_FAIL = 1)) ∧
  (∀ (s : State) (a : Nat), s.keys.erase = some a → a + 2000000 ≤ s.cyc → s.stoves = [] →
    Does .keyEraseTimeout s [.keys] [] (fun t =>
      t.keys.erase = none ∧ (∀ n, 16 ≤ n → Tab.find t.keys.slots n = none) ∧
      ∀ n, n < 16 → Tab.find t.keys.slots n = Tab.find s.keys.slots n)))

/-! ### The Stove instruction set (ch. 06) -/

/-- An instruction that writes register A: legal in the forms `legal` accepts, with a value that `val` relates to the strand and the fields. -/
def WritesA (opc : Nat) (c : Nat → Nat → InsW → Instr) (legal : InsW → Bool) (val : Strand → InsW → W64 → Prop) : Prop :=
  ∀ (s : State) (n k : Nat) (f : InsW), s.issues n k opc f (legal f) ((s.strand n k).pc + 1) = true →
    Does (c n k f) s [.stoves] [] (fun t =>
      ∃ v, val (s.strand n k) f v ∧ WroteG n k f.a v ((s.strand n k).pc + 1) s t ∧ StoveKept n k id s t)

/-- Formats G and I of R178 with the fields they do not use zero. -/
def legalG (f : InsW) : Bool := f.x == 0 && f.imm == 0
def legalI (f : InsW) : Bool := f.c == 0 && f.x == 0

/-- The Stove's instruction words, and its instructions on general registers.
The model's choices it rests on: log entry 43. -/
def Obligations.StoveArithmetic : Prop :=
  /- R177: the word of an opcode and its fields is read back as that opcode and those fields. -/
  (∀ (opc : Nat) (f : InsW), opc < 256 → insOpc (insWord opc f) = opc ∧ insOf (insWord opc f) = f) ∧
  /- R190: the three-register instructions. -/
  (WritesA 0x10 .add legalG (fun x f v => v = x.reg f.b + x.reg f.c) ∧
  WritesA 0x11 .sub legalG (fun x f v => v = x.reg f.b - x.reg f.c) ∧
  WritesA 0x12 .and legalG (fun x f v => v = x.reg f.b &&& x.reg f.c) ∧
  WritesA 0x13 .or legalG (fun x f v => v = x.reg f.b ||| x.reg f.c) ∧
  WritesA 0x14 .xor legalG (fun x f v => v = x.reg f.b ^^^ x.reg f.c) ∧
  WritesA 0x15 .sll legalG (fun x f v => v = x.reg f.b <<< ((x.reg f.c).toNat % 64)) ∧
  WritesA 0x16 .srl legalG (fun x f v => v.toNat = (x.reg f.b).toNat / 2 ^ ((x.reg f.c).toNat % 64)) ∧
  WritesA 0x17 .sra legalG (fun x f v => v.toInt = (x.reg f.b).toInt / 2 ^ ((x.reg f.c).toNat % 64)) ∧
  WritesA 0x18 .slt legalG (fun x f v => v = if (x.reg f.b).toInt < (x.reg f.c).toInt then 1 else 0) ∧
  WritesA 0x19 .sltu legalG (fun x f v => v = if (x.reg f.b).toNat < (x.reg f.c).toNat then 1 else 0) ∧
  WritesA 0x1A .mul legalG (fun x f v => v.toNat = (x.reg f.b).toNat * (x.reg f.c).toNat % 2 ^ 64) ∧
  WritesA 0x1B .mulhu legalG (fun x f v => v.toNat = (x.reg f.b).toNat * (x.reg f.c).toNat / 2 ^ 64)) ∧
  /- R190: the one-operand instructions: leading zeros, one bits, the bytes in reverse. -/
  (WritesA 0x1C .clz (fun f => legalG f && f.c == 0) (fun x f v =>
    (x.reg f.b = 0 → v = 64) ∧ (x.reg f.b ≠ 0 → v.toNat < 64 ∧ 2 ^ (63 - v.toNat) ≤ (x.reg f.b).toNat ∧ (x.reg f.b).toNat < 2 ^ (64 - v.toNat))) ∧
  WritesA 0x1D .popc (fun f => legalG f && f.c == 0) (fun x f v => v.toNat = (List.range 64).countP (fun i => (x.reg f.b).getLsbD i)) ∧
  WritesA 0x1E .bswap (fun f => legalG f && f.c == 0) (fun x f v => leBytes 8 v.toNat = (leBytes 8 (x.reg f.b).toNat).reverse)) ∧
  /- R190: the immediate instructions; a shift by more than 63 is ILLEGAL. -/
  (WritesA 0x20 .addi legalI (fun x f v => v = x.reg f.b + f.imm.signExtend 64) ∧
  WritesA 0x22 .andi legalI (fun x f v => v = x.reg f.b &&& f.imm.setWidth 64) ∧
  WritesA 0x23 .ori legalI (fun x f v => v = x.reg f.b ||| f.imm.setWidth 64) ∧
  WritesA 0x24 .xori legalI (fun x f v => v = x.reg f.b ^^^ f.imm.setWidth 64) ∧
  WritesA 0x25 .slli (fun f => legalI f && f.imm.toNat < 64) (fun x f v => v = x.reg f.b <<< f.imm.toNat) ∧
  WritesA 0x26 .srli (fun f => legalI f && f.imm.toNat < 64) (fun x f v => v.toNat = (x.reg f.b).toNat / 2 ^ f.imm.toNat) ∧
  WritesA 0x27 .srai (fun f => legalI f && f.imm.toNat < 64) (fun x f v => v.toInt = (x.reg f.b).toInt / 2 ^ f.imm.toNat) ∧
  WritesA 0x28 .slti legalI (fun x f v => v = if (x.reg f.b).toInt < f.imm.toInt then 1 else 0) ∧
  WritesA 0x29 .sltui legalI (fun x f v => v = if (x.reg f.b).toNat < (f.imm.signExtend 64).toNat then 1 else 0) ∧
  WritesA 0x2A .lih legalI (fun x f v => v.toNat = f.imm.toNat * 2 ^ 32 + (x.reg f.b).toNat % 2 ^ 32) ∧
  (∀ (s : State) (n k : Nat) (f : InsW), 64 ≤ f.imm.toNat → n < 16 →
    (s.fetches n k 0x25 f = true → Gives (.slli n k f) s (Faulted n k 1 s)) ∧
    (s.fetches n k 0x26 f = true → Gives (.srli n k f) s (Faulted n k 1 s)) ∧
    (s.fetches n k 0x27 f = true → Gives (.srai n k f) s (Faulted n k 1 s))))

/-- No PC of the strand's slot is where the instruction goes on: a program-store address outside the slot, or one below 0 (R172). -/
def LeavesSlot (s : State) (n k : Nat) (tgt : Int) : Prop :=
  (∃ pc : Nat, (pc : Int) = tgt ∧ (s.runSlot n k).holds pc = false) ∨ (tgt < 0 ∧ (s.runSlot n k).base64 + (s.runSlot n k).size64 ≤ 2 ^ 32)

/-- A conditional branch: it goes to PC + sx(IMM) when `taken` holds and to PC + 1 when it does not; it is ILLEGAL where that leaves the slot. -/
def Branches (opc : Nat) (c : Nat → Nat → InsW → Instr) (taken : W64 → W64 → Prop) : Prop :=
  (∀ (s : State) (n k : Nat) (f : InsW) (pc : Nat), taken ((s.strand n k).reg f.a) ((s.strand n k).reg f.b) →
    (pc : Int) = (s.strand n k).pc + f.imm.toInt → s.issues n k opc f (legalI f) pc = true →
    Does (c n k f) s [.stoves] [] (fun t => Moved n k pc s t ∧ StoveKept n k id s t)) ∧
  (∀ (s : State) (n k : Nat) (f : InsW), ¬taken ((s.strand n k).reg f.a) ((s.strand n k).reg f.b) →
    s.issues n k opc f (legalI f) ((s.strand n k).pc + 1) = true →
    Does (c n k f) s [.stoves] [] (fun t => Moved n k ((s.strand n k).pc + 1) s t ∧ StoveKept n k id s t)) ∧
  (∀ (s : State) (n k : Nat) (f : InsW), s.fetches n k opc f = true → legalI f = true → n < 16 →
    (taken ((s.strand n k).reg f.a) ((s.strand n k).reg f.b) → LeavesSlot s n k ((s.strand n k).pc + f.imm.toInt) →
      Gives (c n k f) s (Faulted n k 1 s)) ∧
    (¬taken ((s.strand n k).reg f.a) ((s.strand n k).reg f.b) → LeavesSlot s n k ((s.strand n k).pc + 1) → Gives (c n k f) s (Faulted n k 1 s)))

/-- R190, R172: BEQ, BNE, BLT, BGE, BLTU and BGEU go on at PC + sx(IMM) when their two registers compare so, signed or unsigned, and at PC + 1
when they do not; JAL and JALR write PC + 1 to register A and go on at PC + sx(IMM), or at register B + sx(IMM). Each completes in every state in which
its strand has the turn, its fields are in their format and the PC it goes on from lies in the program slot, and changes nothing else. One
that would leave the slot faults its strand with ILLEGAL at its own PC.
The model's choices it rests on: log entry 43. -/
def Obligations.StoveBranches : Prop :=
  Branches 0x40 .beq (fun a b => a = b) ∧ Branches 0x41 .bne (fun a b => a ≠ b) ∧
  Branches 0x42 .blt (fun a b => a.toInt < b.toInt) ∧ Branches 0x43 .bge (fun a b => b.toInt ≤ a.toInt) ∧
  Branches 0x44 .bltu (fun a b => a.toNat < b.toNat) ∧ Branches 0x45 .bgeu (fun a b => b.toNat ≤ a.toNat) ∧
  (∀ (s : State) (n k : Nat) (f : InsW) (pc : Nat), (pc : Int) = (s.strand n k).pc + f.imm.toInt →
    s.issues n k 0x46 f (legalI f && f.b == 0) pc = true →
    Does (.jal n k f) s [.stoves] [] (fun t =>
      WroteG n k f.a (BitVec.ofNat 64 ((s.strand n k).pc + 1)) pc s t ∧ StoveKept n k id s t)) ∧
  (∀ (s : State) (n k : Nat) (f : InsW), s.issues n k 0x47 f (legalI f) ((s.strand n k).reg f.b + f.imm.signExtend 64).toNat = true →
    Does (.jalr n k f) s [.stoves] [] (fun t =>
      WroteG n k f.a (BitVec.ofNat 64 ((s.strand n k).pc + 1)) ((s.strand n k).reg f.b + f.imm.signExtend 64).toNat s t ∧
      StoveKept n k id s t)) ∧
  (∀ (s : State) (n k : Nat) (f : InsW), s.fetches n k 0x46 f = true → legalI f = true → f.b = 0 → n < 16 →
    LeavesSlot s n k ((s.strand n k).pc + f.imm.toInt) → Gives (.jal n k f) s (Faulted n k 1 s)) ∧
  (∀ (s : State) (n k : Nat) (f : InsW), s.fetches n k 0x47 f = true → legalI f = true → n < 16 →
    (s.runSlot n k).holds ((s.strand n k).reg f.b + f.imm.signExtend 64).toNat = false →
    Gives (.jalr n k f) s (Faulted n k 1 s))

/-- The instructions of R187 but END. -/
def SystemIns (c : Nat → Nat → InsW → Instr) : Prop :=
  c = .nop ∨ c = .trap ∨ c = .stop ∨ c = .rdat ∨ c = .waitat ∨ c = .rdid ∨ c = .wait ∨ c = .poll

/-- R187, R189, R143: NOP goes on and does nothing else. RDAT writes the AT copy to register A, RDID the identity word. WAITAT goes on once the AT
copy is at least register B, and waits until then. WAIT waits while the ticket register B names is unfinished, and else returns its status word and
frees its entry; POLL writes whether it has finished; a register that names no ticket in use is TICKET. TRAP faults the strand with TRAP. STOP fences
the Stove with CIPHER_RT, whose strands give up their work. TRAP with a number above 16 bits, and STOP of any other code, are ILLEGAL. A word of
no opcode is ILLEGAL, whichever instruction is commanded; an instruction out of its strand's turn does nothing (R140, R179).
The model's choices it rests on: log entry 43. -/
def Obligations.StoveControl : Prop :=
  (∀ (s : State) (n k : Nat) (f : InsW), s.issues n k 0x00 f f.bare ((s.strand n k).pc + 1) = true →
    Does (.nop n k f) s [.stoves] [] (fun t => Moved n k ((s.strand n k).pc + 1) s t ∧ StoveKept n k id s t)) ∧
  (∀ (s : State) (n k : Nat) (f : InsW), s.fetches n k 0x02 f = true → f.noABC = true → f.x = 0 → f.imm.toNat < 2 ^ 16 → n < 16 →
    Gives (.trap n k f) s (Faulted n k 6 s)) ∧
  (∀ (s : State) (n k : Nat) (f : InsW), s.fetches n k 0x02 f = true → (f.noABC && f.x == 0) = false ∨ 2 ^ 16 ≤ f.imm.toNat → n < 16 →
    Gives (.trap n k f) s (Faulted n k 1 s)) ∧
  (∀ (s : State) (n k : Nat) (f : InsW), s.fetches n k 0x03 f = true → f.noABC = true → f.x = 0 → f.imm = 0x11 → n < 16 →
    (∃ m, m < 16 ∧ m ≠ n ∧ (s.stove m).fenced = false ∧ s.bitOf F.GLB_FAULT_STV m = false) →
    Gives (.stop n k f) s (fun t =>
      (t.stove n).fenced = true ∧ t.get (F.STV_STS_FENCED n) = 1 ∧ t.get (F.STV_FAULT_UNIT_CODE n) = 0x11 ∧
      bit (t.get F.GLB_FAULT_STV) n = true ∧ (t.stove n).queue = [] ∧ ∀ j, j < 4 → (t.strand n j).st ≠ .running ∧ (t.strand n j).item = none)) ∧
  (∀ (s : State) (n k : Nat) (f : InsW), s.fetches n k 0x03 f = true → f.imm ≠ 0x11 → n < 16 → Gives (.stop n k f) s (Faulted n k 1 s)) ∧
  (∀ (s : State) (n k : Nat) (f : InsW) (c : Nat → Nat → InsW → Instr), SystemIns c →
    (s.strandTurn n k = false → exec (c n k f) s = .next s) ∧
    (s.strandTurn n k = true → insKnown (s.fetched n k) = false → n < 16 → Gives (c n k f) s (Faulted n k 1 s))) ∧
  (∀ (s : State) (n k : Nat) (f : InsW),
    s.issues n k 0x04 f (f.b == 0 && f.c == 0 && f.x == 0 && f.imm == 0) ((s.strand n k).pc + 1) = true →
    Does (.rdat n k f) s [.stoves] [] (fun t =>
      WroteG n k f.a (BitVec.ofNat 64 s.now) ((s.strand n k).pc + 1) s t ∧ StoveKept n k id s t)) ∧
  (∀ (s : State) (n k : Nat) (f : InsW),
    s.issues n k 0x06 f (f.b == 0 && f.c == 0 && f.x == 0 && f.imm == 0) ((s.strand n k).pc + 1) = true →
    Does (.rdid n k f) s [.stoves] [] (fun t =>
      WroteG n k f.a (BitVec.ofNat 64 ((s.runSlot n k).version * 2 ^ 48 + (s.runSlot n k).pgm * 2 ^ 32 + 64 * (s.runSlot n k).base64 * 2 ^ 16 +
        s.get F.GLB_ID_HEAD * 2 ^ 12 + (s.strand n k).slot * 2 ^ 8 + n * 2 ^ 4 + k)) ((s.strand n k).pc + 1) s t ∧ StoveKept n k id s t)) ∧
  (∀ (s : State) (n k : Nat) (f : InsW),
    s.issues n k 0x05 f (f.a == 0 && f.c == 0 && f.x == 0 && f.imm == 0) ((s.strand n k).pc + 1) = true →
    (s.now < ((s.strand n k).reg f.b).toNat →
      Does (.waitat n k f) s [.stoves] [] (fun t =>
        t.strand n k = { s.strand n k with wait := some (.time ((s.strand n k).reg f.b).toNat) } ∧ ∀ m, m ≠ n → t.stove m = s.stove m)) ∧
    (((s.strand n k).reg f.b).toNat ≤ s.now →
      Does (.waitat n k f) s [.stoves] [] (fun t => Moved n k ((s.strand n k).pc + 1) s t ∧ StoveKept n k id s t))) ∧
  (∀ (s : State) (n k e : Nat) (f : InsW), s.issues n k 0x07 f (legalI f && f.imm == 0) ((s.strand n k).pc + 1) = true →
    (s.strand n k).named ((s.strand n k).reg f.b) = some e →
    (((s.strand n k).ticket e).job ≠ none →
      Does (.wait n k f) s [.stoves] [] (fun t =>
        t.strand n k = { s.strand n k with wait := some (.ticket e) } ∧ StoveKept n k id s t)) ∧
    (((s.strand n k).ticket e).job = none →
      Does (.wait n k f) s [.stoves] [] (fun t =>
        (∀ i, (t.strand n k).reg i =
          if i = f.a ∧ f.a ≠ 0 then BitVec.ofNat 64 ((s.strand n k).ticket e).status else (s.strand n k).reg i) ∧
        (t.strand n k).pc = (s.strand n k).pc + 1 ∧ ((t.strand n k).ticket e).used = false ∧
        ((t.strand n k).ticket e).epoch = ((s.strand n k).ticket e).epoch ∧
        (((s.strand n k).ticket e).fin = none → StoveKept n k id s t) ∧
        ∀ c, ((s.strand n k).ticket e).fin = some c → Tab.getD (t.stove n).ctxs c {} = { Tab.getD (s.stove n).ctxs c {} with shown := true }))) ∧
  (∀ (s : State) (n k e : Nat) (f : InsW), s.issues n k 0x08 f (legalI f && f.imm == 0) ((s.strand n k).pc + 1) = true →
    (s.strand n k).named ((s.strand n k).reg f.b) = some e →
    Does (.poll n k f) s [.stoves] [] (fun t =>
      WroteG n k f.a (if ((s.strand n k).ticket e).job = none then 1 else 0) ((s.strand n k).pc + 1) s t ∧ StoveKept n k id s t)) ∧
  (∀ (s : State) (n k : Nat) (f : InsW), (legalI f && f.imm == 0) = true → n < 16 → (s.strand n k).named ((s.strand n k).reg f.b) = none →
    (s.fetches n k 0x07 f = true → Gives (.wait n k f) s (Faulted n k 4 s)) ∧
    (s.fetches n k 0x08 f = true → Gives (.poll n k f) s (Faulted n k 4 s)))

/-- Descriptor register `i` holds `d` and the strand has gone on; its other descriptors are as they were. -/
def WroteD (n k : Nat) (i : BitVec 5) (d : Desc) (s t : State) : Prop :=
  (∀ j : BitVec 5, (t.strand n k).desc j = if j = i then d else (s.strand n k).desc j) ∧
  t.strand n k = { s.strand n k with d := (t.strand n k).d, pc := (s.strand n k).pc + 1, wait := none } ∧ StoveKept n k id s t

/-- The Stove's local-memory and descriptor instructions.
The model's choices it rests on: log entries 9 and 43. -/
def Obligations.StoveMemory : Prop :=
  /- R191, R192: loads, stores, fetch-and-add and compare-and-swap of local memory, at the aligned address, low byte first; an address past the end of
local memory is a strand fault. A store changes the bytes it stores and no other. -/
  ((∀ (s : State) (n k ea sz : Nat) (f : InsW), s.issues n k 0x30 f (f.c == 0 && f.x.toNat < 7) ((s.strand n k).pc + 1) = true →
    sz = 2 ^ (f.x.toNat % 4) → ea = ((s.strand n k).reg f.b + f.imm.signExtend 64).toNat / sz * sz → ea < 0x100000 →
    Does (.ld n k f) s [.stoves] [] (fun t =>
      ∃ v : W64, (f.x.toNat < 4 → v.toNat = leNat (Tab.readBytes (s.stove n).lmem ea sz)) ∧
        (4 ≤ f.x.toNat → v.toInt = (BitVec.ofNat (8 * sz) (leNat (Tab.readBytes (s.stove n).lmem ea sz))).toInt) ∧
        WroteG n k f.a v ((s.strand n k).pc + 1) s t ∧ StoveKept n k id s t)) ∧
  (∀ (s : State) (n k ea sz : Nat) (f : InsW), s.issues n k 0x31 f (f.c == 0 && f.x.toNat < 4) ((s.strand n k).pc + 1) = true →
    sz = 2 ^ (f.x.toNat % 4) → ea = ((s.strand n k).reg f.b + f.imm.signExtend 64).toNat / sz * sz → ea < 0x100000 →
    Does (.st n k f) s [.stoves] [] (fun t =>
      Moved n k ((s.strand n k).pc + 1) s t ∧ StoveKept n k (fun v => { v with lmem := (t.stove n).lmem }) s t ∧
      Tab.readBytes (t.stove n).lmem ea sz = leBytes sz ((s.strand n k).reg f.a).toNat ∧
      ∀ a, a < ea ∨ ea + sz ≤ a → Tab.getB (t.stove n).lmem a = Tab.getB (s.stove n).lmem a)) ∧
  (∀ (s : State) (n k ea : Nat) (f : InsW), s.issues n k 0x32 f (legalG f) ((s.strand n k).pc + 1) = true →
    ea = ((s.strand n k).reg f.b).toNat / 8 * 8 → ea < 0x100000 →
    Does (.amoadd n k f) s [.stoves] [] (fun t =>
      WroteG n k f.a (BitVec.ofNat 64 (leNat (Tab.readBytes (s.stove n).lmem ea 8))) ((s.strand n k).pc + 1) s t ∧
      StoveKept n k (fun v => { v with lmem := (t.stove n).lmem }) s t ∧
      leNat (Tab.readBytes (t.stove n).lmem ea 8) = (leNat (Tab.readBytes (s.stove n).lmem ea 8) + ((s.strand n k).reg f.c).toNat) % 2 ^ 64 ∧
      ∀ a, a < ea ∨ ea + 8 ≤ a → Tab.getB (t.stove n).lmem a = Tab.getB (s.stove n).lmem a)) ∧
  (∀ (s : State) (n k ea : Nat) (f : InsW), s.issues n k 0x33 f (legalG f) ((s.strand n k).pc + 1) = true →
    ea = ((s.strand n k).reg f.b).toNat / 8 * 8 → ea < 0x100000 →
    Does (.cas n k f) s [.stoves] [] (fun t =>
      WroteG n k f.a (BitVec.ofNat 64 (leNat (Tab.readBytes (s.stove n).lmem ea 8))) ((s.strand n k).pc + 1) s t ∧
      StoveKept n k (fun v => { v with lmem := (t.stove n).lmem }) s t ∧
      leNat (Tab.readBytes (t.stove n).lmem ea 8) =
        (if leNat (Tab.readBytes (s.stove n).lmem ea 8) = ((s.strand n k).reg f.a).toNat then ((s.strand n k).reg f.c).toNat
         else leNat (Tab.readBytes (s.stove n).lmem ea 8)) ∧
      ∀ a, a < ea ∨ ea + 8 ≤ a → Tab.getB (t.stove n).lmem a = Tab.getB (s.stove n).lmem a)) ∧
  (∀ (s : State) (n k : Nat) (f : InsW), (f.c == 0 && f.x.toNat < 4) = true → n < 16 →
    0x100000 ≤ ((s.strand n k).reg f.b + f.imm.signExtend 64).toNat →
    (s.fetches n k 0x30 f = true → Gives (.ld n k f) s (Faulted n k 2 s)) ∧
    (s.fetches n k 0x31 f = true → Gives (.st n k f) s (Faulted n k 2 s)))) ∧
  /- R193, R175: descriptors are made, loaded, stored, advanced, clipped and read; an advance never lengthens a range. -/
  ((∀ (s : State) (n k : Nat) (f : InsW),
    s.issues n k 0x50 f (f.a.toNat < 8 && f.imm == 0 && f.x.toNat < 4) ((s.strand n k).pc + 1) = true → ((s.strand n k).reg f.c).toNat < 2 ^ 32 →
    Does (.dmk n k f) s [.stoves] [] (fun t =>
      WroteD n k f.a { space := f.x.toNat, addr := ((s.strand n k).reg f.b).toNat, len := ((s.strand n k).reg f.c).toNat, off := 0 } s t)) ∧
  (∀ (s : State) (n k ea : Nat) (f : InsW),
    s.issues n k 0x51 f (f.a.toNat < 8 && legalI f) ((s.strand n k).pc + 1) = true →
    ea = ((s.strand n k).reg f.b + f.imm.signExtend 64).toNat / 16 * 16 → ea ≤ 0xFFFF0 → (Tab.getB (s.stove n).lmem (ea + 15)).toNat < 4 →
    Does (.dld n k f) s [.stoves] [] (fun t =>
      WroteD n k f.a { addr := leNat (Tab.readBytes (s.stove n).lmem ea 8), len := leNat (Tab.readBytes (s.stove n).lmem (ea + 8) 4),
                       off := leNat (Tab.readBytes (s.stove n).lmem (ea + 12) 3), space := (Tab.getB (s.stove n).lmem (ea + 15)).toNat } s t)) ∧
  (∀ (s : State) (n k ea : Nat) (f : InsW),
    s.issues n k 0x52 f (f.a.toNat < 8 && legalI f) ((s.strand n k).pc + 1) = true →
    ea = ((s.strand n k).reg f.b + f.imm.signExtend 64).toNat / 16 * 16 → ea ≤ 0xFFFF0 →
    Does (.dst n k f) s [.stoves] [] (fun t =>
      Moved n k ((s.strand n k).pc + 1) s t ∧ StoveKept n k (fun v => { v with lmem := (t.stove n).lmem }) s t ∧
      Tab.readBytes (t.stove n).lmem ea 16 = leBytes 8 ((s.strand n k).desc f.a).addr ++ leBytes 4 ((s.strand n k).desc f.a).len ++
        leBytes 3 ((s.strand n k).desc f.a).off ++ leBytes 1 ((s.strand n k).desc f.a).space ∧
      ∀ a, a < ea ∨ ea + 16 ≤ a → Tab.getB (t.stove n).lmem a = Tab.getB (s.stove n).lmem a)) ∧
  (∀ (s : State) (n k m : Nat) (f : InsW) (d : Desc),
    s.issues n k 0x53 f (f.a.toNat < 8 && legalI f && f.imm == 0) ((s.strand n k).pc + 1) = true → d = (s.strand n k).desc f.a →
    m = min ((s.strand n k).reg f.b).toNat d.len →
    (d.space ≠ 2 → Does (.dadv n k f) s [.stoves] [] (fun t =>
      WroteD n k f.a { d with len := d.len - m, addr := (d.addr + m) % 2 ^ 64 } s t)) ∧
    (d.space = 2 → d.off + m ≤ 0xFFFFFF → Does (.dadv n k f) s [.stoves] [] (fun t =>
      WroteD n k f.a { d with len := d.len - m, off := d.off + m } s t)) ∧
    (d.space = 2 → 0xFFFFFF < d.off + m → n < 16 → Gives (.dadv n k f) s (Faulted n k 1 s))) ∧
  (∀ (s : State) (n k : Nat) (f : InsW) (d : Desc),
    s.issues n k 0x54 f (f.a.toNat < 8 && legalI f && f.imm == 0) ((s.strand n k).pc + 1) = true → d = (s.strand n k).desc f.a →
    Does (.dclip n k f) s [.stoves] [] (fun t => WroteD n k f.a { d with len := min d.len ((s.strand n k).reg f.b).toNat } s t)) ∧
  WritesA 0x55 .dget (fun f => f.b.toNat < 8 && f.c == 0 && f.imm == 0 && f.x.toNat < 4) (fun x f v =>
    v = BitVec.ofNat 64 (if f.x = 0 then (x.desc f.b).addr else if f.x = 1 then (x.desc f.b).len else if f.x = 2 then (x.desc f.b).off
      else (x.desc f.b).space)))

/-! ### Ticketed instructions (R142, R181, R194-R202) -/

/-- The Stove's compressor, digest and cipher instructions as they issue.
The model's choices it rests on: log entries 43 and 44. -/
def Obligations.StoveUnitsAreIssued : Prop :=
  /- R196, R206: CZ.OPEN opens a block of one to eight granules for its strand; CZ.PUT promises it whole granules and closes it with the last;
CZ.FLUSH closes it early; CZ.DEC takes a ticket for a decode. -/
  ((∀ (s : State) (n k e : Nat) (f : InsW), f.b.toNat < 8 → s.tickets n k 0x70 f (f.c == 0 && f.x.toNat < 8 && f.imm == 0) (some 0) e = true →
    (s.strand n k).block = none → s.descFault n ((s.strand n k).desc f.b) = none → Tab.find (s.stove n).blocks (s.stove n).nextBlk = none →
    (s.stove n).jobs.all (fun w => w.2.2.granted || w.2.2.job.bind Job.unit != some 0) = true →
    Does (.czOpen n k f) s [.stoves] [] (fun t =>
      (t.strand n k).block = some (s.stove n).nextBlk ∧ (t.stove n).nextBlk = (s.stove n).nextBlk + 1 ∧
      (t.strand n k).pc = (s.strand n k).pc + 1 ∧ ((t.strand n k).ticket e).used = true ∧
      ((t.strand n k).ticket e).epoch = (((s.strand n k).ticket e).epoch + 1) % 16 ∧
      ∃ y : CzBlk, Tab.find (t.stove n).blocks (s.stove n).nextBlk = some y ∧ y.strand = k ∧ y.dst = (s.strand n k).desc f.b ∧
        y.limit = f.x.toNat + 1 ∧ y.promised = 0 ∧ y.isOpen = true ∧ y.data = [] ∧
        (s.getb (F.CZ_CTL_FORCE_RAW n) = true ∨ (s.stove n).laneOff = 63 → y.bypass = true ∧ y.lane = some 6 ∧ Ended n k e 0 t) ∧
        (s.getb (F.CZ_CTL_FORCE_RAW n) = false → (s.stove n).laneOff ≠ 63 → y.bypass = false ∧ y.lane = (s.stove n).freeUnit 0 ∧
          (((s.stove n).freeUnit 0).isSome = true → Ended n k e 0 t) ∧
          ((s.stove n).freeUnit 0 = none → ((t.strand n k).ticket e).job = some (.czOpen (s.stove n).nextBlk))))) ∧
  (∀ (s : State) (n k e b : Nat) (f : InsW) (d : Desc) (y : CzBlk), f.c.toNat < 8 → d = (s.strand n k).desc f.c →
    s.tickets n k 0x71 f (f.b == 0 && f.x == 0 && f.imm == 0) (some 0) e = true → (s.strand n k).block = some b →
    Tab.find (s.stove n).blocks b = some y → d.len ≠ 0 → d.len % 4096 = 0 → y.promised + d.len / 4096 ≤ y.limit → s.descFault n d = none →
    Does (.czPut n k f) s [.stoves] [] (fun t =>
      TookTicket n k f.a e (.czPut b d (decide (y.promised + d.len / 4096 = y.limit))) s t ∧
      Tab.find (t.stove n).blocks b = some { y with promised := y.promised + d.len / 4096,
                                                    isOpen := decide (y.promised + d.len / 4096 ≠ y.limit) } ∧
      (t.strand n k).block = if y.promised + d.len / 4096 = y.limit then none else some b)) ∧
  (∀ (s : State) (n k e b : Nat) (f : InsW) (y : CzBlk), s.tickets n k 0x72 f (f.b == 0 && f.c == 0 && f.x == 0 && f.imm == 0) (some 0) e = true →
    (s.strand n k).block = some b → Tab.find (s.stove n).blocks b = some y →
    Does (.czFlush n k f) s [.stoves] [] (fun t =>
      TookTicket n k f.a e (.czFlush b) s t ∧ Tab.find (t.stove n).blocks b = some { y with isOpen := false } ∧ (t.strand n k).block = none)) ∧
  (∀ (s : State) (n k e : Nat) (f : InsW) (b c : Desc), b = (s.strand n k).desc f.b → c = (s.strand n k).desc f.c → f.b.toNat < 8 → f.c.toNat < 8 →
    s.tickets n k 0x73 f (f.x == 0 && f.imm == 0) (some 1) e = true → s.descFault n b = none → s.descFault n c = none →
    Does (.czDec n k f) s [.stoves] [] (TookUnit n k 1 f.a e (.czDec b c) (.czDec b c) s))) ∧
  /- R198, R297: DG.ALLOC asks for a context; DG.ABS, DG.FIN and DG.CMP use one the strand holds and fault ILLEGAL on any other; DG.RD reads a result
word once the status of DG.FIN has been returned, 0 before; DG.FREE frees a context no stream uses. -/
  ((∀ (s : State) (n k e : Nat) (f : InsW), s.tickets n k 0x80 f (f.x.toNat < 4 && f.imm == 0) (some 2) e = true →
    Does (.dgAlloc n k f) s [.stoves] [] (TookTicket n k f.a e
      (.dgAlloc f.x.toNat (min ((s.strand n k).reg f.b).toNat (2 ^ 61 - 1)) ((s.strand n k).reg f.c).toNat) s)) ∧
  (∀ (s : State) (n k e c : Nat) (f : InsW), c = ((s.strand n k).reg f.b).toNat → c < 8 → (s.ctx n c).strand = k →
    (s.ctx n c).state = 1 ∨ (s.ctx n c).state = 2 →
    (s.tickets n k 0x81 f (f.c.toNat < 8 && f.x == 0 && f.imm == 0) (some 2) e = true → s.descFault n ((s.strand n k).desc f.c) = none →
      Does (.dgAbs n k f) s [.stoves] [] (TookUnit n k 2 f.a e (.dgAbs c ((s.strand n k).desc f.c)) (.dgAbs c ((s.strand n k).desc f.c)) s)) ∧
    (s.tickets n k 0x82 f (f.x.toNat ≤ 8 && f.imm == 0) (some 2) e = true →
      Does (.dgFin n k f) s [.stoves] [] (TookUnit n k 2 f.a e (.dgFin c ((s.strand n k).reg f.c) f.x.toNat)
        (.dgFin c ((s.strand n k).reg f.c) f.x.toNat) s)) ∧
    (s.tickets n k 0x84 f (f.c.toNat < 8 && f.x == 0 && f.imm == 0) (some 2) e = true → s.descFault n ((s.strand n k).desc f.c) = none →
      0 < ((s.strand n k).desc f.c).len → ((s.strand n k).desc f.c).len ≤ (if (s.ctx n c).alg % 2 = 1 then 48 else 32) →
      Does (.dgCmp n k f) s [.stoves] [] (TookTicket n k f.a e (.dgCmp c ((s.strand n k).desc f.c)) s)) ∧
    (s.issues n k 0x83 f (legalI f && f.imm.toNat < 8) ((s.strand n k).pc + 1) = true → (s.runSlot n k).hasUnit (some 2) = true →
      Does (.dgRd n k f) s [.stoves] [] (fun t => StoveKept n k id s t ∧
        WroteG n k f.a (if (s.ctx n c).shown then BitVec.ofNat 64 (leAt (s.ctx n c).res (8 * f.imm.toNat) 8) else 0) ((s.strand n k).pc + 1) s t)) ∧
    (s.issues n k 0x85 f (f.a == 0 && f.c == 0 && f.x == 0 && f.imm == 0) ((s.strand n k).pc + 1) = true → (s.runSlot n k).hasUnit (some 2) = true →
      ((s.stove n).jobs.all (fun j => j.2.2.job.bind Job.chain != some (0, c)) = true →
        Does (.dgFree n k f) s [.stoves, .keys] [] (fun t =>
          (t.ctx n c).state = 0 ∧ (t.ctx n c).msg = [] ∧ (t.ctx n c).key = [] ∧ (t.strand n k).pc = (s.strand n k).pc + 1 ∧
          (t.strand n k).g = (s.strand n k).g ∧ (t.strand n k).d = (s.strand n k).d ∧ (s.keys.erase = none → t.keys = s.keys) ∧
          (∀ e, ((s.strand n k).ticket e).fin ≠ some c → (t.strand n k).ticket e = (s.strand n k).ticket e) ∧
          ∀ d, d ≠ c → t.ctx n d = s.ctx n d)) ∧
      ((s.stove n).jobs.any (fun j => j.2.2.job.bind Job.chain == some (0, c)) = true →
        Does (.dgFree n k f) s [.stoves] [] (fun t => t.ctx n c = { s.ctx n c with state := 3 } ∧ Moved n k ((s.strand n k).pc + 1) s t ∧
          ∀ d, d ≠ c → t.ctx n d = s.ctx n d)))) ∧
  (∀ (s : State) (n k : Nat) (f : InsW), (s.runSlot n k).hasUnit (some 2) = true → n < 16 →
    s.holds n k ((s.strand n k).reg f.b) = false → f.c.toNat < 8 → f.x = 0 → f.imm = 0 →
    (s.fetches n k 0x81 f = true → Gives (.dgAbs n k f) s (Faulted n k 1 s)) ∧
    (s.fetches n k 0x82 f = true → Gives (.dgFin n k f) s (Faulted n k 1 s)) ∧
    (s.fetches n k 0x83 f = true → Gives (.dgRd n k f) s (Faulted n k 1 s)) ∧
    (s.fetches n k 0x84 f = true → Gives (.dgCmp n k f) s (Faulted n k 1 s)) ∧
    (s.fetches n k 0x85 f = true → Gives (.dgFree n k f) s (Faulted n k 1 s)))) ∧
  /- R199, R306: CI.LOCK asks for the lock when the strand holds none; XTS and GCM streams run under the key the lock was granted with; CI.UNLK gives
the lock up, and a strand that it suspended holds it again; without the lock they fault ILLEGAL. -/
  ((∀ (s : State) (n k e : Nat) (f : InsW), s.tickets n k 0x90 f (f.c == 0 && f.x == 0 && f.imm == 0) (some 3) e = true → (s.stove n).hold k = none →
    Does (.ciLock n k f) s [.stoves] [] (TookTicket n k f.a e (.ciLock ((s.strand n k).reg f.b).toNat false) s)) ∧
  (∀ (s : State) (n k e : Nat) (f : InsW), s.tickets n k 0x90 f (f.c == 0 && f.x == 1 && f.imm == 0) (some 3) e = true → (s.stove n).hold k = none →
    Does (.ciLock n k f) s [.stoves] [] (TookTicket n k f.a e (.ciLock ((s.strand n k).reg f.b).toNat
      (decide (1 ≤ s.pgmOf n k ∧ s.pgmOf n k < 0x100) || s.getb (F.CI_CTL_URG_EXP n))) s)) ∧
  (∀ (s : State) (n k e : Nat) (f : InsW) (h : CiHold) (b c : Desc), b = (s.strand n k).desc f.b → c = (s.strand n k).desc f.c →
    (s.stove n).hold k = some h → s.descFault n b = none → s.descFault n c = none →
    (s.tickets n k 0x91 f (f.b.toNat < 8 && f.c.toNat < 8 && f.x.toNat < 64 && f.imm == 0) (some 3) e = true → 16 ≤ c.len → Does (.ciXts n k f) s [.stoves] [] (TookTicket n k f.a e
      (.ciXts h.key b c ((s.strand n k).reg (BitVec.setWidth 5 f.x)) (f.x.getLsbD 5)) s)) ∧
    (∀ ea p, s.tickets n k 0x92 f (f.b.toNat < 8 && f.c.toNat < 8 && f.x.toNat < 64 && f.imm == 0) (some 3) e = true → ea = ((s.strand n k).reg (BitVec.setWidth 5 f.x)).toNat / 16 * 16 → p = Tab.readBytes (s.stove n).lmem ea 32 → ea + 32 ≤ 0x100000 →
      leAt p 12 4 = 0 ∨ leAt p 12 4 + leAt p 16 4 ≤ 0x100000 → leAt p 20 4 + 16 ≤ 0x100000 →
      Does (.ciGcm n k f) s [.stoves] [] (TookTicket n k f.a e (.ciGcm h.key b c p (f.x.getLsbD 5)) s))) ∧
  (∀ (s : State) (n k : Nat) (f : InsW) (h : CiHold), s.issues n k 0x93 f f.bare ((s.strand n k).pc + 1) = true →
    (s.runSlot n k).hasUnit (some 3) = true → s.keys.erase = none →
    ((s.stove n).lock = some h → h.strand = k →
      Does (.ciUnlk n k f) s [.stoves] [] (fun t =>
        Moved n k ((s.strand n k).pc + 1) s t ∧ StoveKept n k (fun v => { v with lock := v.susp, susp := none }) s t)) ∧
    ((s.stove n).susp = some h → h.strand = k → (∀ u, (s.stove n).lock = some u → u.strand ≠ k) →
      Does (.ciUnlk n k f) s [.stoves] [] (fun t =>
        Moved n k ((s.strand n k).pc + 1) s t ∧ StoveKept n k (fun v => { v with susp := none }) s t))) ∧
  (∀ (s : State) (n k : Nat) (f : InsW), (s.runSlot n k).hasUnit (some 3) = true → n < 16 →
    (s.stove n).hold k = none → f.imm = 0 →
    (s.fetches n k 0x93 f = true → f.bare = true → Gives (.ciUnlk n k f) s (Faulted n k 1 s)) ∧
    (f.b.toNat < 8 → f.c.toNat < 8 → f.x.toNat < 64 →
      (s.fetches n k 0x91 f = true → Gives (.ciXts n k f) s (Faulted n k 1 s)) ∧
      (s.fetches n k 0x92 f = true → Gives (.ciGcm n k f) s (Faulted n k 1 s)))))

/-- The Stove's data-movement, parity and Creterlink instructions as they issue.
The model's choices it rests on: log entries 43 and 44. -/
def Obligations.StoveMovesAndRequests : Prop :=
  /- R194, R195: the data-movement instructions take a ticket for their job with copies of their descriptors; GR.FREE gives a grate back; a
descriptor that reaches outside its space faults the strand (R176). -/
  ((∀ (s : State) (n k e : Nat) (f : InsW) (b c : Desc), b = (s.strand n k).desc f.b → c = (s.strand n k).desc f.c → f.b.toNat < 8 → f.c.toNat < 8 →
    s.descFault n b = none → s.descFault n c = none →
    (s.tickets n k 0x60 f (f.x == 0 && f.imm == 0) none e = true →
      Does (.cpy n k f) s [.stoves] [] (TookUnit n k 4 f.a e (.cpy b c) (.cpy b c) s)) ∧
    (s.tickets n k 0x62 f (f.x == 0 && f.imm == 0) none e = true →
      Does (.cmp n k f) s [.stoves] [] (TookUnit n k 4 f.a e (.cmp b c) (.cmp b c) s))) ∧
  (∀ (s : State) (n k e : Nat) (f : InsW) (b : Desc), b = (s.strand n k).desc f.b → f.b.toNat < 8 →
    s.tickets n k 0x61 f (f.x == 0 && f.imm == 0) none e = true → s.descFault n b = none →
    Does (.fill n k f) s [.stoves] [] (TookUnit n k 4 f.a e (.fill b ((s.strand n k).reg f.c)) (.fill b ((s.strand n k).reg f.c)) s)) ∧
  (∀ (s : State) (n k : Nat) (f : InsW) (c : Nat), f.b.toNat < 8 → f.c.toNat < 8 → n < 16 → f.x = 0 → f.imm = 0 →
    s.descFault n ((s.strand n k).desc f.b) = some c →
    (s.fetches n k 0x60 f = true → Gives (.cpy n k f) s (Faulted n k c s)) ∧
    (s.fetches n k 0x61 f = true → Gives (.fill n k f) s (Faulted n k c s)) ∧
    (s.fetches n k 0x62 f = true → Gives (.cmp n k f) s (Faulted n k c s))) ∧
  (∀ (s : State) (n k e ea : Nat) (f : InsW), s.tickets n k 0x63 f (legalI f && f.imm == 0) none e = true →
    ea = ((s.strand n k).reg f.b).toNat / 64 * 64 → ea ≤ 0xFFFC0 →
    Does (.post n k f) s [.stoves] [] (TookTicket n k f.a e (.post (Tab.readBytes (s.stove n).lmem ea 64)) s)) ∧
  (∀ (s : State) (n k e : Nat) (f : InsW), s.tickets n k 0x64 f (legalI f && f.imm == 0 && f.b == 0) none e = true →
    Does (.grAlloc n k f) s [.stoves, .bel, .pool] [F.GRT_BP_CNT_COUNT 4] (fun t =>
      TookTicket n k f.a e (.grAlloc (8 * s.bel.nextId + 1)) s t ∧ t.bel = { s.bel with nextId := s.bel.nextId + 1 } ∧
      (t.pool.waiting = s.pool.waiting ++ [{ chan := 4, user := 8 * s.bel.nextId + 1, atime := s.now }] ∨
       ∃ g, Tab.find s.pool.held g = none ∧
         Tab.find t.pool.held g = some { chan := 4, journalled := false, atime := s.now, user := 8 * s.bel.nextId + 1 }))) ∧
  (∀ (s : State) (n k g : Nat) (f : InsW) (x : Grate),
    s.issues n k 0x65 f (f.a == 0 && f.c == 0 && f.x == 0 && f.imm == 0) ((s.strand n k).pc + 1) = true →
    g = ((s.strand n k).reg f.b).toNat → g < 12288 → Tab.find s.pool.held g = some x →
    Does (.grFree n k f) s [.stoves, .pool] [] (fun t =>
      Moved n k ((s.strand n k).pc + 1) s t ∧ StoveKept n k id s t ∧ Tab.find t.pool.held g = none ∧
      ∀ h, h ≠ g → Tab.find t.pool.held h = Tab.find s.pool.held h))) ∧
  /- R200, R201: PAR takes a ticket for a well-formed parity request of its block in local memory, CRL for a transmit request; a block that does not lie in
local memory faults its strand. -/
  ((∀ (s : State) (n k e ea kk m : Nat) (f : InsW) (ds : List Desc), s.tickets n k 0xA0 f (legalI f && f.imm == 0) (some 4) e = true →
    ea = ((s.strand n k).reg f.b).toNat / 16 * 16 → kk = (Tab.getB (s.stove n).lmem ea).toNat → m = (Tab.getB (s.stove n).lmem (ea + 1)).toNat →
    1 ≤ kk → kk ≤ 29 → 1 ≤ m → m ≤ 3 → (Tab.getB (s.stove n).lmem (ea + 2)).toNat ≤ 1 →
    0 < leNat (Tab.readBytes (s.stove n).lmem (ea + 4) 4) → leNat (Tab.readBytes (s.stove n).lmem (ea + 4) 4) % 64 = 0 →
    ea + 16 + 16 * (kk + m) ≤ 0x100000 → parMembers (Tab.readBytes (s.stove n).lmem ea (16 + 16 * (kk + m))) (kk + m) = some ds →
    ds.all (fun d => leNat (Tab.readBytes (s.stove n).lmem (ea + 4) 4) ≤ d.len && (s.descFault n d).isNone) = true →
    Does (.par n k f) s [.stoves] [] (TookUnit n k 3 f.a e (.par ea (Tab.readBytes (s.stove n).lmem ea (16 + 16 * (kk + m))))
      (.par ea (Tab.readBytes (s.stove n).lmem ea (16 + 16 * (kk + m)))) s)) ∧
  (∀ (s : State) (n k e ea : Nat) (f : InsW), s.tickets n k 0xC1 f (legalI f && f.imm == 0) (some 6) e = true → s.drvsBegun n = true →
    ea = ((s.strand n k).reg f.b).toNat / 64 * 64 → ea + 64 ≤ 0x100000 →
    Does (.crlTransmit n k f) s [.stoves] [] (TookUnit n k 4 f.a e (.crl ea []) (.crl ea (Tab.readBytes (s.stove n).lmem ea 64)) s)) ∧
  (∀ (s : State) (n k ea : Nat) (f : InsW), n < 16 → legalI f = true → f.imm = 0 →
    ea = ((s.strand n k).reg f.b).toNat / 64 * 64 → 0x100000 < ea + 64 → s.drvsBegun n = true → s.keys.erase = none →
    (s.fetches n k 0xC1 f = true → (s.runSlot n k).hasUnit (some 6) = true → Gives (.crlTransmit n k f) s (Faulted n k 2 s)) ∧
    (s.fetches n k 0xC0 f = true → (s.runSlot n k).hasUnit (some 5) = true → Gives (.drvRead n k f) s (Faulted n k 2 s))))

/-! ### Work items, programs and faults of a Stove (R148-R168, R160) -/

/-- The item that word 15 of STV_WI_POST posts: the sixteen words posted, `v` the last (R148). -/
def postedItem (s : State) (n v : Nat) : Bytes :=
  (List.range 16).flatMap (fun i => leBytes 4 (if i = 15 then v % 2 ^ 32 else Tab.getN (s.stove n).post i))

/-- Stove `n` is fenced for `code`: it runs and holds nothing, and is reported. -/
def FencedFor (n code : Nat) (s t : State) : Prop :=
  (t.stove n).fenced = true ∧ (t.stove n).queue = [] ∧ (t.stove n).lock = none ∧ (t.stove n).susp = none ∧ (t.stove n).blocks = [] ∧
  (∀ k, k < 4 → (t.strand n k).item = none ∧ (t.strand n k).st = if (s.strand n k).st = .faulted then .faulted else .idle) ∧
  t.getb (F.STV_STS_FENCED n) = true ∧ t.get (F.STV_FAULT_UNIT_CODE n) = code ∧ t.bitOf F.GLB_FAULT_STV n = true

/-- What faults a strand and fences a Stove.
The model's choices it rests on: log entries 4, 5 and 48. -/
def Obligations.StoveFaults : Prop :=
  /- R151, R164: an item that runs longer than STV_WI_TO faults its strand with TIMEOUT; a faulted strand whose STV_FAULT bit is written 1 is idle again,
its ticket epochs and the fault's record kept. -/
  ((∀ (s : State) (n k : Nat), k < 4 → n < 16 → (s.strand n k).st = .running → s.get (F.STV_WI_TO_TIMEOUT n) ≠ 0 →
    (s.strand n k).startAt + us (s.get (F.STV_WI_TO_TIMEOUT n)) < s.cyc → (s.stove n).fenced = false →
    Gives (.wiTimeout n k) s (fun t => Faulted n k 5 s t ∧ Staged 0x0501 [n % 2 ^ 32, k, s.pgmOf n k % 2 ^ 32, 5] s t)) ∧
  (∀ (s : State) (r : Req) (n v : Nat), s.writable r (R.STV_FAULT + 0x200000 * n) = true →
    Does (.strandFaultClear r n v) s [.stoves] [F.STV_FAULT_STRAND n] (fun t =>
      ∀ k, k < 4 → bit (t.get (F.STV_FAULT_STRAND n)) k = (bit (s.get (F.STV_FAULT_STRAND n)) k && !bit v k) ∧
        t.strand n k = if bit v k && bit (s.get (F.STV_FAULT_STRAND n)) k
          then { tickets := (s.strand n k).tickets, fltCode := (s.strand n k).fltCode, fltPc := (s.strand n k).fltPc }
          else s.strand n k))) ∧
  /- R165, R300: an uncorrectable error in the program store or in local memory, FENCE written 1, and an uncorrectable error in a digest context fence
the Stove, with the unit code of the cause, while another Stove still works. -/
  (∀ (s : State) (n m : Nat), n < 16 → m < 16 → m ≠ n → (s.stove n).fenced = false → (s.stove m).fenced = false →
    s.bitOf F.GLB_FAULT_STV m = false → (∀ k, k < 4 → ∀ w ∈ (s.strand n k).item, w.fails = 0) → (∀ w ∈ (s.stove n).queue, w.fails = 0) →
    Gives (.stoveEccError n false) s (FencedFor n 0x12 s) ∧ Gives (.stoveEccError n true) s (FencedFor n 0x13 s) ∧
    (∀ r, s.writable r (R.STV_CTL + 0x200000 * n) = true → Gives (.stvFenceWrite r n) s (FencedFor n 0 s)) ∧
    (∀ c, c < 8 → Gives (.dgCtxEcc n c) s (fun t => FencedFor n 0x10 s t ∧ (t.ctx n c).vb = 0 ∧ (t.ctx n c).vbn = 0 ∧
      t.getb (F.DG_ERR_VERDICT n) = true)))

/-- R156-R158: a load GO makes its checks and makes the slot LOADING; the load ends VALID when the image's body has its digest, with the code at the
slot's base and the data in local memory, and EMPTY with the first result that failed; an unload GO drains its slot, which is EMPTY once nothing
uses it.
The model's choices it rests on: log entry 49. -/
def Obligations.ProgramsLoad : Prop :=
  (∀ (s : State) (r : Req) (n v i a : Nat) (h : Bytes), n < 16 → s.writable r (R.STV_LOAD_CTL + 0x200000 * n) = true →
    s.getb (F.STV_LOAD_STS_BUSY n) = false → i = v / 2 ^ 16 % 16 → a = s.get (F.STV_LOAD_ADDR_ADDR n) / 4096 * 4096 →
    h = Tab.readBytes s.ddr a 512 → s.bareDdr = true →
    Does (.programLoad r n v) s [.stoves] [F.STV_LOAD_CTL_OP n, F.STV_LOAD_CTL_SLOT n, F.STV_LOAD_CTL_BASE64 n, F.STV_LOAD_STS_BUSY n,
      F.STV_STS_UNSIGNED n] (fun t =>
      t.getb (F.STV_LOAD_STS_BUSY n) = true ∧
      (∃ c, (t.stove n).load = some { slot := i, addr := a, header := h, result := c } ∧
        ((s.pslot n i).state ≠ 0 → c = 9) ∧
        ((s.pslot n i).state = 0 → leAt h 0 4 ≠ 0x53545650 → c = 1) ∧
        ((s.pslot n i).state = 0 → leAt h 0 4 = 0x53545650 → leAt h 4 2 ≠ 1 → c = 2) ∧
        ((s.pslot n i).state = 0 → leAt h 0 4 = 0x53545650 → leAt h 4 2 = 1 → leAt h 12 4 = 0 → c = 3)) ∧
      ((s.pslot n i).state = 0 → (t.pslot n i).state = 1 ∧ (t.pslot n i).pgm = leAt h 8 2 ∧ (t.pslot n i).version = leAt h 10 2 ∧
        (t.pslot n i).base64 = v % 128) ∧
      ((s.pslot n i).state ≠ 0 → t.pslot n i = s.pslot n i) ∧ ∀ j, j ≠ i → t.pslot n j = s.pslot n j)) ∧
  (∀ (s : State) (n : Nat) (l : Load) (h body : Bytes) (dmaErr : Bool), (s.stove n).load = some l → s.heldItems = [] → l.result ≠ 9 →
    h = l.header → s.bareDdr = true →
    body = Tab.readBytes s.ddr (l.addr + 512) (8 * leAt h 12 4 + (s.pslot n l.slot).dataLen) →
    Gives (.loadDone n dmaErr) s (fun t => (t.stove n).load = none ∧ t.getb (F.STV_LOAD_STS_BUSY n) = false ∧ t.ddr = s.ddr ∧
      (∀ j, j ≠ l.slot → t.pslot n j = s.pslot n j) ∧
      (l.result = 0 → dmaErr = false → sha384 body = slice h 48 48 → t.get (F.STV_LOAD_STS_RESULT n) = 0 ∧
        t.pslot n l.slot = { s.pslot n l.slot with state := 2 } ∧
        (∀ i, i < leAt h 12 4 → Tab.find (t.stove n).pstore (64 * (s.pslot n l.slot).base64 + i) = some (BitVec.ofNat 64 (leAt body (8 * i) 8))) ∧
        Tab.readBytes (t.stove n).lmem (s.pslot n l.slot).dataOff (s.pslot n l.slot).dataLen =
          body.drop (8 * leAt h 12 4) ∧
        Staged 0x0503 [n % 2 ^ 32, (s.pslot n l.slot).pgm % 2 ^ 32, 0] s t) ∧
      (l.result = 0 → dmaErr = false → sha384 body ≠ slice h 48 48 → t.get (F.STV_LOAD_STS_RESULT n) = 7 ∧ (t.pslot n l.slot).state = 0) ∧
      (l.result = 0 → dmaErr = true → t.get (F.STV_LOAD_STS_RESULT n) = 0x0B ∧ (t.pslot n l.slot).state = 0) ∧
      (l.result ≠ 0 → t.get (F.STV_LOAD_STS_RESULT n) = l.result % 256 ∧ (t.pslot n l.slot).state = 0))) ∧
  (∀ (s : State) (r : Req) (n v i : Nat), s.writable r (R.STV_LOAD_CTL + 0x200000 * n) = true → i = v / 2 ^ 16 % 16 → (s.pslot n i).state = 2 →
    Does (.programUnload r n v) s [.stoves] [F.STV_LOAD_CTL_OP n, F.STV_LOAD_CTL_SLOT n, F.STV_LOAD_CTL_BASE64 n] (fun t =>
      t.pslot n i = { s.pslot n i with state := 3 } ∧ ∀ j, j ≠ i → t.pslot n j = s.pslot n j)) ∧
  (∀ (s : State) (n i : Nat), (s.pslot n i).state = 3 → (s.stove n).queue = [] → (∀ x ∈ (s.stove n).strands, x.2.item = none) →
    Does (.slotDrained n i) s [.stoves] [F.STV_STS_UNSIGNED n] (fun t => t.pslot n i = {} ∧ ∀ j, j ≠ i → t.pslot n j = s.pslot n j))

/-! ### Streams and the units that run them (R183-R186, R194-R201, R222-R226, R290-R311) -/

/-- Ticket `e` of the strand has a job whose unit is granted and whose turn has come. -/
def Turn (s : State) (n k e : Nat) (t : Ticket) (j : Job) : Prop :=
  (s.strand n k).ticket e = t ∧ t.job = some j ∧ t.used = true ∧ s.answers dStv = true ∧ (s.stove n).fenced = false ∧ s.canFinish n k t j = true

/-- How data-movement and digest jobs end.
The model's choices it rests on: log entries 45, 46 and 53. -/
def Obligations.StreamsEnd : Prop :=
  /- R183, R194, R195: FILL writes the eight bytes of its value over and over; CPY copies in ascending order and ends DST_SHORT when the destination is
the shorter; CMP ends OK for equal strings and at the first difference; COUNT says how far each came. Local memory throughout. -/
  ((∀ (s : State) (n k e : Nat) (t : Ticket) (d : Desc) (v : W64), Turn s n k e t (.fill d v) → d.space = 0 →
    Does (.streamFinish n k e none 0) s [.stoves] [] (fun u => Ended n k e (d.len % 2 ^ 32 * 2 ^ 32) u ∧
      (∀ i, i < d.len → Tab.getB (u.stove n).lmem (d.addr + i) = (v >>> (8 * (i % 8))).setWidth 8) ∧
      ∀ a, a < d.addr ∨ d.addr + d.len ≤ a → Tab.getB (u.stove n).lmem a = Tab.getB (s.stove n).lmem a)) ∧
  (∀ (s : State) (n k e m : Nat) (t : Ticket) (d x : Desc), Turn s n k e t (.cpy d x) → d.space = 0 → x.space = 0 → m = min x.len d.len →
    d.addr ≤ x.addr ∨ x.addr + m ≤ d.addr →
    Does (.streamFinish n k e none 0) s [.stoves] [] (fun u =>
      Ended n k e ((if d.len < x.len then 1 else 0) + m % 2 ^ 32 * 2 ^ 32) u ∧
      (∀ i, i < m → Tab.getB (u.stove n).lmem (d.addr + i) = Tab.getB (s.stove n).lmem (x.addr + i)) ∧
      ∀ a, a < d.addr ∨ d.addr + m ≤ a → Tab.getB (u.stove n).lmem a = Tab.getB (s.stove n).lmem a)) ∧
  (∀ (s : State) (n k e : Nat) (t : Ticket) (x y : Desc), Turn s n k e t (.cmp x y) → x.space = 0 → y.space = 0 →
    ((∀ i, i < x.len → Tab.getB (s.stove n).lmem (x.addr + i) = Tab.getB (s.stove n).lmem (y.addr + i)) → x.len = y.len →
      Does (.streamFinish n k e none 0) s [.stoves] [] (fun u => Ended n k e (x.len % 2 ^ 32 * 2 ^ 32) u ∧ (u.stove n).lmem = (s.stove n).lmem)) ∧
    ∀ i, i < x.len → i < y.len → Tab.getB (s.stove n).lmem (x.addr + i) ≠ Tab.getB (s.stove n).lmem (y.addr + i) →
      (∀ j, j < i → Tab.getB (s.stove n).lmem (x.addr + j) = Tab.getB (s.stove n).lmem (y.addr + j)) →
      Does (.streamFinish n k e none 0) s [.stoves] [] (fun u => Ended n k e (4 + i % 2 ^ 32 * 2 ^ 32) u ∧
        (u.stove n).lmem = (s.stove n).lmem))) ∧
  /- R292, R293, R298: DG.ABS absorbs its source up to the declared length and sets TRUNC beyond it; DG.FIN of a complete message of a SHA-256 context
leaves the message's digest; DG.CMP of a finished context leaves the verdict pair 0x3C, 0xC3 for an equal reference and 0xC3, 0x3C for any other. -/
  ((∀ (s : State) (n k e c : Nat) (t : Ticket) (d : Desc) (b : Bytes), Turn s n k e t (.dgAbs c d) → d.space = 0 → t.sliced = false →
    (s.ctx n c).state = 1 → (s.ctx n c).res = [] → (s.ctx n c).trunc = false → b = Tab.readBytes (s.stove n).lmem d.addr d.len →
    ((s.ctx n c).absd + d.len ≤ (s.ctx n c).decl →
      Does (.streamFinish n k e none 0) s [.stoves] [F.DG_BYTES_COUNT n] (fun u => Ended n k e (d.len % 2 ^ 32 * 2 ^ 32) u ∧
        u.ctx n c = { s.ctx n c with msg := (s.ctx n c).msg ++ b, absd := (s.ctx n c).absd + d.len } ∧ ∀ j, j ≠ c → u.ctx n j = s.ctx n j)) ∧
    ((s.ctx n c).absd ≤ (s.ctx n c).decl → (s.ctx n c).decl < (s.ctx n c).absd + d.len →
      Gives (.streamFinish n k e none 0) s (fun u => (u.ctx n c).trunc = true ∧ (u.ctx n c).absd = (s.ctx n c).decl ∧
        (u.ctx n c).msg = (s.ctx n c).msg ++ b.take ((s.ctx n c).decl - (s.ctx n c).absd) ∧ u.getb (F.DG_ERR_TRUNC n) = true ∧
        Ended n k e (256 + ((s.ctx n c).decl - (s.ctx n c).absd) % 2 ^ 32 * 2 ^ 32) u))) ∧
  (∀ (s : State) (n k e c m : Nat) (t : Ticket) (v : W64), Turn s n k e t (.dgFin c v m) → t.sliced = false → m ≤ 8 →
    (s.ctx n c).state = 1 → (s.ctx n c).alg = 0 → (s.ctx n c).res = [] → (s.ctx n c).trunc = false → (s.ctx n c).absd + m = (s.ctx n c).decl →
    Does (.streamFinish n k e none 0) s [.stoves] [F.DG_BYTES_COUNT n] (fun u =>
      (u.ctx n c).res = sha256 ((s.ctx n c).msg ++ (leBytes 8 v.toNat).take m) ∧ (u.ctx n c).state = 2 ∧
      (u.ctx n c).resNum = ((s.ctx n c).resNum + 1) % 256 ∧ Ended n k e ((s.ctx n c).decl % 2 ^ 32 * 2 ^ 32) u)) ∧
  (∀ (s : State) (n k e c : Nat) (t : Ticket) (d : Desc), Turn s n k e t (.dgCmp c d) → d.space = 0 → (s.ctx n c).state = 2 →
    (s.ctx n c).res ≠ [] → d.len ≤ (s.ctx n c).res.length →
    ((s.ctx n c).res.take d.len = Tab.readBytes (s.stove n).lmem d.addr d.len →
      Does (.streamFinish n k e none 0) s [.stoves] [] (fun u => (u.ctx n c).vb = 0x3C ∧ (u.ctx n c).vbn = 0xC3 ∧
        Ended n k e (0x3C * 256 + d.len % 2 ^ 32 * 2 ^ 32) u)) ∧
    ((s.ctx n c).res.take d.len ≠ Tab.readBytes (s.stove n).lmem d.addr d.len →
      Does (.streamFinish n k e none 0) s [.stoves] [] (fun u => (u.ctx n c).vb = 0xC3 ∧ (u.ctx n c).vbn = 0x3C ∧
        Ended n k e (0xC3 * 256 + d.len % 2 ^ 32 * 2 ^ 32) u))))

/-- How digest contexts and the cipher lock are granted, cipher streams end and Cinder's blocks are released.
The model's choices it rests on: log entries 45, 51, 52, 149 and 150. -/
def Obligations.ContextsLocksAndBlocks : Prop :=
  /- R290, R295, R304-R307: a waiting DG.ALLOC that its strand may have is granted the lowest free context; a waiting CI.LOCK is granted when the lock is
free, an urgent one also from a normal holder, which is suspended; a request for a key its program may not name is denied with KEY_DENIED. -/
  ((∀ (s : State) (n k e c len slot alg : Nat) (t : Ticket), (s.stove n).fenced = false → s.answers dStv = true → alg < 2 → t.used = true →
    (s.stove n).jobs = [(k, e, t)] → (s.strand n k).ticket e = t → k < 4 → t.job = some (.dgAlloc alg len slot) → (s.stove n).ctxAllowed k = true →
    c < 8 → (s.ctx n c).state = 0 → (∀ j, j < c → (s.ctx n j).state ≠ 0) →
    Does (.dgContextGrant n) s [.stoves] [] (fun u => (u.ctx n c).state = 1 ∧ (u.ctx n c).alg = alg ∧ (u.ctx n c).strand = k ∧
      (u.ctx n c).decl = len ∧ (u.ctx n c).msg = [] ∧ (u.ctx n c).res = [] ∧ Ended n k e (c * 256) u ∧
      ∀ j, j ≠ c → u.ctx n j = s.ctx n j)) ∧
  (∀ (s : State) (n k e slot : Nat) (t : Ticket) (urgent : Bool), (s.stove n).fenced = false → s.answers dStv = true → t.used = true →
    (s.stove n).jobs = [(k, e, t)] → (s.strand n k).ticket e = t → k < 4 → t.job = some (.ciLock slot urgent) → s.keys.erase = none →
    ((s.stove n).lock = none → s.mayName slot (s.pgmOf n k) = true →
      Does (.cipherLockGrant n) s [.stoves] [] (fun u => Ended n k e 0 u ∧ (u.stove n).susp = (s.stove n).susp ∧
        (u.stove n).lock = some { strand := k, urgent, slot, key := ((Tab.find s.keys.slots slot).map (·.key)).getD [] })) ∧
    (∀ h, (s.stove n).lock = some h → h.urgent = false → urgent = true → (s.stove n).susp = none → s.mayName slot (s.pgmOf n k) = true →
      Does (.cipherLockGrant n) s [.stoves] [F.CI_SUSP_CNT_COUNT n] (fun u => Ended n k e 0 u ∧ (u.stove n).susp = some h ∧
        (u.stove n).lock = some { strand := k, urgent, slot, key := ((Tab.find s.keys.slots slot).map (·.key)).getD [] } ∧
        u.get (F.CI_SUSP_CNT_COUNT n) = min (s.get (F.CI_SUSP_CNT_COUNT n) + 1) 0xFFFFFFFF)) ∧
    ((s.stove n).lock = none → s.mayName slot (s.pgmOf n k) = false →
      Gives (.cipherLockGrant n) s (fun u => Ended n k e 9 u ∧ (u.stove n).lock = none ∧ u.getb (F.CI_ERR_KEY_DENIED n) = true ∧
        u.getb F.KEY_ERR_KEY_DENIED = true)))) ∧
  /- R222, R223, R225: a closed block whose granules were absorbed leaves its lane: raw under the bypass, recoded as a raw block with AUX 3 when it was
coded and the shadow decode differs, as its encoder gives it otherwise; the block is gone and the closing ticket counts its bytes; a block that its strand has left leaves no result (R147). A raw block decodes to its
data (R226). -/
  ((∀ (s : State) (n b e lane : Nat) (y : CzBlk) (mismatch : Bool), Tab.find (s.stove n).blocks b = some y → y.closer = some e → y.lane = some lane →
    (s.stove n).fenced = false → y.bad = none → y.strand < 4 → ((s.strand n y.strand).ticket e).used = true → y.dst.space = 0 →
    (y.bypass = true → 32 + y.data.length ≤ y.dst.len →
      Does (.czBlockRelease n b mismatch) s [.stoves] [F.CZ_BLK_CNT_COUNT n, F.CZ_RAW_CNT_COUNT n, F.CZ_OUT_BYTES_COUNT n] (fun t =>
        Tab.find (t.stove n).blocks b = none ∧ Tab.readBytes (t.stove n).lmem y.dst.addr (32 + y.data.length) = czRaw false y.data ∧
        Ended n y.strand e (256 + (32 + y.data.length) % 2 ^ 32 * 2 ^ 32) t)) ∧
    (∀ raw, raw = (czBlock y.data).2 → y.bypass = false → mismatch = true → 32 + y.data.length ≤ y.dst.len →
      Gives (.czBlockRelease n b mismatch) s (fun t =>
        Tab.find (t.stove n).blocks b = none ∧ Tab.readBytes (t.stove n).lmem y.dst.addr (32 + y.data.length) = czRaw (!raw) y.data ∧
        t.getb (F.CZ_ERR_RECODE n) = (s.getb (F.CZ_ERR_RECODE n) || !raw) ∧
        Tab.getN (t.stove n).laneMiss lane = (if raw then 0 else Tab.getN (s.stove n).laneMiss lane + 1) ∧
        (raw = false → 1 ≤ Tab.getN (s.stove n).laneMiss lane → lane < 6 → bit (t.stove n).laneOff lane = true ∧ t.getb (F.CZ_ERR_LANE_OFF n) = true) ∧
        Ended n y.strand e ((if raw then 1 else 3) * 256 + (32 + y.data.length) % 2 ^ 32 * 2 ^ 32) t)) ∧
    (y.bypass = false → mismatch = false → (czBlock y.data).1.length ≤ y.dst.len →
      Does (.czBlockRelease n b mismatch) s [.stoves] [F.CZ_BLK_CNT_COUNT n, F.CZ_RAW_CNT_COUNT n, F.CZ_OUT_BYTES_COUNT n] (fun t =>
        Tab.find (t.stove n).blocks b = none ∧
        Tab.readBytes (t.stove n).lmem y.dst.addr (czBlock y.data).1.length = (czBlock y.data).1 ∧
        Tab.getN (t.stove n).laneMiss lane = 0))) ∧
  (∀ (s : State) (n b : Nat) (y : CzBlk) (mismatch : Bool), Tab.find (s.stove n).blocks b = some y → y.strand = 4 →
    Does (.czBlockRelease n b mismatch) s [.stoves] [] (fun t => Tab.find (t.stove n).blocks b = none ∧
      ∀ k, t.strand n k = s.strand n k)) ∧
  (∀ (data : Bytes) (recoded : Bool) (len : Nat), data.length % 4096 = 0 → 4096 ≤ data.length → data.length ≤ 32768 → data.length ≤ len →
    (czDecode (czRaw recoded data) len).code = 0 ∧ (czDecode (czRaw recoded data) len).out = data))

/-- R336, R337: with one parity, that parity is the exclusive or of the data members, and any one member of a row is rebuilt from the others.
The model's choices it rests on: log entry 65. -/
def Obligations.OneParityRebuilds : Prop :=
  ∀ (k len lost : Nat) (ms : List Bytes), 1 ≤ k → k ≤ 29 → ms.length = k + 1 → lost < k + 1 → (∀ b ∈ ms, b.length = len) →
    (∀ i, i < len → (ms.getD k []).getD i 0#8 = (ms.take k).foldl (fun x b => x ^^^ b.getD i 0#8) 0#8) →
    rebuildMembers k 1 len (fun i => i == lost) (fun i => if i = lost then [] else ms.getD i []) = some ms

/-- How a work item comes to a strand, gets its units, and ends.
The model's choices it rests on: log entries 43, 47, 133 and 136. -/
def Obligations.WorkItemsRun : Prop :=
  /- R148-R150: a posted item joins the queue of the Stove R149 chooses; an idle strand takes the oldest item of its Stove's queue, its work item in
local memory, g1 at it and every other register 0; during phase 1 of a Quench the items of KINDs 0 and 2 go first (R518). -/
  ((∀ (s : State) (r : Req) (n v m : Nat) (b : Bytes), s.writable r (R.STV_WI_POST + 0x200000 * n + 60) = true → b = postedItem s n v →
    leAt b 2 1 ≠ 4 → s.chooseStove (leAt b 0 2) (leAt b 2 1) = some m → (s.stove m).queue.length < 256 →
    Does (.stvWiPost r n v) s [.stoves] [] (fun t =>
      (t.stove m).queue = (s.stove m).queue ++ [{ bytes := b, slot := (s.slotFor m (leAt b 0 2) (leAt b 2 1)).getD 0 }] ∧
      (∀ j, j ≠ m → (t.stove j).queue = (s.stove j).queue) ∧ ∀ j k, t.strand j k = s.strand j k)) ∧
  (∀ (s : State) (n k : Nat) (w : WorkItem) (rest : List WorkItem), s.stoveTakes n = true → s.answers dStv = true → (s.strand n k).st = .idle →
    s.qphase = 0 → (s.stove n).queue = w :: rest → s.heldItems = [] →
    Does (.strandDispatch n k) s [.stoves] [] (fun t =>
      (t.stove n).queue = rest ∧ (t.strand n k).st = .running ∧ (t.strand n k).item = some w ∧ (t.strand n k).slot = w.slot ∧
      (t.strand n k).pc = 64 * (s.pslot n w.slot).base64 + (s.pslot n w.slot).entries.getD w.kind 0 ∧ (t.strand n k).wait = none ∧
      (∀ i, (t.strand n k).reg i = if i = 1 then BitVec.ofNat 64 (0xFFF00 + 64 * k) else 0) ∧ (t.strand n k).d = [] ∧
      Tab.readBytes (t.stove n).lmem (0xFFF00 + 64 * k) 64 = slice w.bytes 0 64 ∧ ∀ j, j ≠ k → t.strand n j = s.strand n j)) ∧
  (∀ (s : State) (n k : Nat) (w : WorkItem) (a b : List WorkItem), s.stoveTakes n = true → s.answers dStv = true → (s.strand n k).st = .idle →
    s.qphase = 1 → (s.stove n).queue = a ++ w :: b → (∀ x ∈ a, x.kind ≠ 0 ∧ x.kind ≠ 2) → w.kind = 0 ∨ w.kind = 2 → s.heldItems = [] →
    Does (.strandDispatch n k) s [.stoves] [] (fun t =>
      (t.stove n).queue = a ++ b ∧ (t.strand n k).st = .running ∧ (t.strand n k).item = some w))) ∧
  /- R160: a write to STV_POL sets the selected volume's policy word, its reserved bits 0, and no other volume's. R145: a free unit goes to the waiting
request that comes first, as R145 orders them: its ticket has it from now, and a request block is read; a CZ.OPEN ends with its lane (R196). -/
  ((∀ (s : State) (r : Req) (v : Nat), s.writable r R.STV_POL = true →
    Does (.policyWrite r v) s [.bel] [] (fun t =>
      (t.vol (s.get (F.STV_POL_SEL_VOL 0))).policy = Nat.land v 0xFFFF017F ∧
      (∀ j, j ≠ s.get (F.STV_POL_SEL_VOL 0) → t.vol j = s.vol j))) ∧
  (∀ (s : State) (n k e u l : Nat) (t : Ticket) (j : Job), (s.stove n).fenced = false → t.job = some j → j.unit = some u →
    (s.strand n k).ticket e = t → (s.stove n).freeUnit u = some l → (s.stove n).orphans = [] → s.drvsBegun n = true →
    (s.stove n).nextJob (fun k t => t.job.bind Job.unit == some u && !t.granted && (s.stove n).first k t) = some (k, e, t) →
    (s.stove n).nextJob (fun k t => (t.job.bind Job.unit == some u && !t.granted && (s.stove n).first k t) && s.bypassed n t) = none →
    ((∀ b, j ≠ .czOpen b) → (∀ ea, j ≠ .drv ea) →
      Does (.laneGrant n u none) s [.stoves] [] (fun t' =>
        (t'.strand n k).ticket e = { t with granted := true, lane := l, since := s.cyc, job := some (s.readBlock n j) } ∧
        (t'.strand n k).g = (s.strand n k).g ∧ (t'.strand n k).pc = (s.strand n k).pc)) ∧
    (∀ b y, j = .czOpen b → t.used = true → Tab.find (s.stove n).blocks b = some y →
      Does (.laneGrant n u none) s [.stoves] [] (fun t' => Ended n k e 0 t' ∧ Tab.find (t'.stove n).blocks b = some { y with lane := some l } ∧
        (t'.strand n k).g = (s.strand n k).g ∧ (t'.strand n k).pc = (s.strand n k).pc)))) ∧
  /- R144, R148, R187: END waits for every ticket, then frees the strand, whose item's poster gets (u32)g[B] with the item's TAG: a digest context it held is free, the lock goes
to whom it suspended. -/
  ((∀ (s : State) (n k : Nat) (f : InsW), s.fetches n k 0x01 f = true → f.a = 0 → f.c = 0 → f.x = 0 → f.imm = 0 → (s.strand n k).allDone = false →
    Does (.endItem n k f) s [.stoves] [] (fun t => t.strand n k = { s.strand n k with wait := some .all } ∧ StoveKept n k id s t)) ∧
  (∀ (s : State) (n k : Nat) (f : InsW) (w : WorkItem),
    s.issues n k 0x01 f (f.a == 0 && f.c == 0 && f.x == 0 && f.imm == 0) (s.strand n k).pc = true → (s.strand n k).allDone = true →
    (s.strand n k).item = some w → w.kind = 0 ∨ w.kind = 2 ∨ (w.kind = 7 ∧ w.arg / 2 ^ 48 ≠ 0x0901) →
    Does (.endItem n k f) s [.stoves, .ddx, .drv, .pool, .keys, .out] [] (fun t =>
      t.out = .itemEnd (leAt w.bytes 6 2) w.tag (((s.strand n k).reg f.b).toNat % 2 ^ 32) :: s.out ∧ (s.keys.erase = none → t.keys = s.keys) ∧
      (t.strand n k).st = .idle ∧ (t.strand n k).item = none ∧ (t.strand n k).block = none ∧
      (∀ e, (t.strand n k).ticket e = { epoch := ((s.strand n k).ticket e).epoch }) ∧
      (∀ c, (s.ctx n c).strand = k → (t.ctx n c).state = 0) ∧ (∀ c, (s.ctx n c).strand ≠ k → t.ctx n c = s.ctx n c) ∧
      (∀ h, (s.stove n).lock = some h → h.strand = k → ∀ u, (s.stove n).susp = some u → u.strand ≠ k → (t.stove n).lock = some u) ∧
      ∀ j, j ≠ k → t.strand n j = s.strand n j)))

/-! ### The deduplication index (ch. 08) -/

/-- The strand issues an IDX instruction with op `op` for the request block `b` at `ea`, with a domain the index has and, for the first four ops, a
half this head holds and no hand-over is moving (R200, R202, R234, R259). -/
def IdxAsks (s : State) (n k e ea op : Nat) (f : InsW) (b : Bytes) : Prop :=
  s.tickets n k 0xB0 f (f.c == 0 && f.x.toNat < 6 && f.imm == 0) none e = true ∧ f.x.toNat = op ∧ ea = ((s.strand n k).reg f.b).toNat / 64 * 64 ∧
  ea + 128 ≤ 0x100000 ∧ b = Tab.readBytes (s.stove n).lmem ea 128 ∧
  (op < 4 → reqDomain b ≤ 4095 ∧ s.holdsHalf (fpHalf (reqFp b) (reqDomain b)) = true ∧ s.donePending = false)

/-- The request has been answered at once, with the status word. -/
def Answered (n k e status : Nat) (s t : State) : Prop := Ended n k e status t ∧ (t.strand n k).pc = (s.strand n k).pc + 1

/-- The request waits for its journal record: its answer names REFCNT `c` (R250, R115). -/
def AwaitsRecord (n k e ea c : Nat) (s t : State) : Prop :=
  ((t.strand n k).ticket e).job.isSome = true ∧ (t.strand n k).pc = (s.strand n k).pc + 1 ∧
  ∃ p ∈ t.ddx.pend, p.req.origin = .ticket n k e (s.stove n).order ea ∧ p.status = 0 ∧ p.record = some s.jnl.nextTag ∧ leAt p.block 64 4 = c

/-- The bucket of half `h` that holds a request's fingerprint. -/
def bucketFor (s : State) (b : Bytes) : Bucket :=
  (s.half (fpHalf (reqFp b) (reqDomain b))).bucket ((s.half (fpHalf (reqFp b) (reqDomain b))).bucketOf (fpKey (reqFp b) (reqDomain b))).2

/-- What the dedup index answers, and how its entries and buckets lie in memory.
The model's choices it rests on: log entry 55. -/
def Obligations.IndexAnswers : Prop :=
  /- R238, R239, R240, R249: the 64 bytes of an index entry and the 32 of a map entry are read back as the entry, an entry's bytes are valid, and so is
the 4,096-byte image of a bucket of such entries for its half, and for no other. -/
  ((∀ e : IdxEntry, e.fp.length = 32 → e.domain < 4096 → e.loc < 2 ^ 64 → e.refcnt < 2 ^ 32 → e.gen < 2 ^ 32 →
    e.bytes.length = 64 ∧ IdxEntry.ofBytes e.bytes = e ∧ (e.loc ≠ 0 → entryValid e.bytes = true) ∧ (e.loc = 0 → entryValid e.bytes = false)) ∧
  (∀ e : MapEntry, e.loc < 2 ^ 64 → e.seq < 2 ^ 64 → e.fp < 2 ^ 96 → e.flags < 2 ^ 16 → e.bytes.length = 32 ∧ MapEntry.ofBytes e.bytes = e) ∧
  (∀ (h l p v : Nat) (es : List IdxEntry), h < 2 → es.length ≤ 63 → (∀ e ∈ es, e.fp.length = 32 ∧ 0 < e.loc ∧ e.loc < 2 ^ 64 ∧ e.refcnt < 2 ^ 32) →
    (bucketImage h l p v es).length = 4096 ∧ bucketValid h (bucketImage h l p v es) = true ∧ bucketValid (1 - h) (bucketImage h l p v es) = false ∧
    (bucketSlots (bucketImage h l p v es)).length = es.length)) ∧
  /- R234, R236, R250, R249: a LOOKUP whose filter probe misses answers FILTER_MISS and reads no bucket; one that finds an entry answers AUX 1 with its
LOCATION, REFCNT and GEN; MAPGET answers the volume map's entry; a request for a half the head does not hold goes to the partner;
a bucket that fails its check is BAD from then on, and its request ends with DATA_ERR (R256). -/
  ((∀ (s : State) (n k e ea : Nat) (f : InsW) (b : Bytes) (image : Option Bytes), IdxAsks s n k e ea 0 f b → s.ddxOn = true →
    (s.half (fpHalf (reqFp b) (reqDomain b))).stale = false →
    filterHas s.ddxNb (fpKey (reqFp b) (reqDomain b)) (fpTag (reqFp b)) (s.half (fpHalf (reqFp b) (reqDomain b))).filter = false →
    Does (.lookup n k f image) s [.stoves] [F.DDX_LOOKUPS_COUNT, F.DDX_FMISS_COUNT] (fun t => Answered n k e 0 s t ∧
      t.get F.DDX_FMISS_COUNT = (s.get F.DDX_FMISS_COUNT + 1) % 2 ^ 64 ∧ t.get F.DDX_LOOKUPS_COUNT = (s.get F.DDX_LOOKUPS_COUNT + 1) % 2 ^ 64 ∧
      Tab.readBytes (t.stove n).lmem ea 128 = patch b 48 [16])) ∧
  (∀ (s : State) (n k e ea : Nat) (f : InsW) (b : Bytes) (x : IdxEntry), IdxAsks s n k e ea 0 f b → s.ddxOn = true →
    filterHas s.ddxNb (fpKey (reqFp b) (reqDomain b)) (fpTag (reqFp b)) (s.half (fpHalf (reqFp b) (reqDomain b))).filter = true →
    (bucketFor s b).bad = false → (bucketFor s b).entries.find? (fun y => y.same (reqFp b) (reqDomain b)) = some x →
    Does (.lookup n k f none) s [.stoves] [F.DDX_LOOKUPS_COUNT, F.DDX_HITS_COUNT] (fun t => Answered n k e 256 s t ∧
      t.get F.DDX_HITS_COUNT = (s.get F.DDX_HITS_COUNT + 1) % 2 ^ 64 ∧
      Tab.readBytes (t.stove n).lmem (ea + 40) 8 = leBytes 8 x.loc ∧ Tab.readBytes (t.stove n).lmem (ea + 64) 4 = leBytes 4 x.refcnt ∧
      Tab.readBytes (t.stove n).lmem (ea + 52) 4 = leBytes 4 x.gen ∧
      (Tab.getB (t.stove n).lmem (ea + 48)).toNat = (if x.refcnt = 0 then 8 else 0) + (if x.refcnt = 0xFFFFFFFF then 4 else 0) ∧
      ∀ a, a < ea + 40 ∨ (ea + 56 ≤ a ∧ a < ea + 64) ∨ ea + 68 ≤ a → Tab.getB (t.stove n).lmem a = Tab.getB (s.stove n).lmem a)) ∧
  (∀ (s : State) (n k e ea : Nat) (f : InsW) (b i : Bytes), IdxAsks s n k e ea 0 f b → s.ddxOn = true →
    filterHas s.ddxNb (fpKey (reqFp b) (reqDomain b)) (fpTag (reqFp b)) (s.half (fpHalf (reqFp b) (reqDomain b))).filter = true →
    (bucketFor s b).bad = false → bucketValid (fpHalf (reqFp b) (reqDomain b)) i = false →
    Gives (.lookup n k f (some i)) s (fun t => Answered n k e (0x0C + 5 * 256) s t ∧ (bucketFor t b).bad = true ∧
      t.getb F.DDX_ERR_BUCKET_BAD = true)) ∧
  (∀ (s : State) (n k e ea : Nat) (f : InsW) (b : Bytes), IdxAsks s n k e ea 5 f b → (s.vol (reqVol b)).present = true →
    reqLba b < (s.vol (reqVol b)).size →
    Does (.mapget n k f none) s [.stoves] [] (fun t => Answered n k e 0 s t ∧
      Tab.readBytes (t.stove n).lmem (ea + 72) 32 = (s.mapAt (reqVol b) (reqLba b)).bytes)) ∧
  (∀ (s : State) (n k e ea : Nat) (f : InsW) (b : Bytes), IdxAsks s n k e ea 5 f b → (s.vol (reqVol b)).size ≤ reqLba b →
    Does (.mapget n k f none) s [.stoves] [] (fun t => Answered n k e (0x0C + 3 * 256) s t)) ∧
  (∀ (s : State) (n k e ea : Nat) (f : InsW) (b : Bytes) (image : Option Bytes), s.tickets n k 0xB0 f (f.c == 0 && f.x.toNat < 6 && f.imm == 0) none e = true →
    f.x = 0 → ea = ((s.strand n k).reg f.b).toNat / 64 * 64 → ea + 128 ≤ 0x100000 → b = Tab.readBytes (s.stove n).lmem ea 128 →
    s.holdsHalf (fpHalf (reqFp b) (reqDomain b)) = false →
    Gives (.lookup n k f image) s (fun t =>
      Tab.find t.ddx.fwd s.crl.nextTag =
        some { origin := .ticket n k e (s.stove n).order ea, op := 0, block := b, image := image, verify := s.verifies n k } ∧
      ((t.strand n k).ticket e).job.isSome = true ∧ (t.strand n k).pc = (s.strand n k).pc + 1)))

/-- How the dedup index changes, is written out and reclaimed.
The model's choices it rests on: log entries 55, 56, 57, 58, 59, 138 and 139. -/
def Obligations.IndexChanges : Prop :=
  /- R250, R252, R253, R255: INSERT of a fingerprint the index holds and ADDREF raise the entry's REFCNT by 1 (ADDREF of program 0x0001 under VERIFY
sets VERIFIED), DECREF lowers it by 1, MAPSET stores the entry
unless the map holds a later sequence; each waits for the record of its change. An INSERT while the index is off counts the granule as new,
UNINDEXED, and waits for its record too. -/
  ((∀ (s : State) (n k e ea : Nat) (f : InsW) (b : Bytes) (x : IdxEntry), s.ddxOn = true → (bucketFor s b).bad = false → x.refcnt + 1 < 0xFFFFFFFF →
    (IdxAsks s n k e ea 1 f b → s.storeLen < s.storeMax → bit (leAt b 49 1) 0 = false →
      (bucketFor s b).entries.find? (fun y => y.same (reqFp b) (reqDomain b)) = some x →
      Gives (.insert n k f none) s (fun t => AwaitsRecord n k e ea (x.refcnt + 1) s t ∧
        (bucketFor t b).entries = (bucketFor s b).entries.map (fun y => if y.named x.fp x.domain x.loc
          then { x with refcnt := x.refcnt + 1, gen := if x.refcnt = 0 then s.get F.DDX_GEN_GEN else x.gen } else y))) ∧
    (IdxAsks s n k e ea 2 f b → s.storeLen < s.storeMax →
      (bucketFor s b).entries.find? (fun y => y.named (reqFp b) (reqDomain b) (reqLoc b)) = some x →
      Gives (.addref n k f none) s (fun t => AwaitsRecord n k e ea (x.refcnt + 1) s t ∧
        (bucketFor t b).entries = (bucketFor s b).entries.map (fun y => if y.named x.fp x.domain x.loc
          then { x with refcnt := x.refcnt + 1, gen := if x.refcnt = 0 then s.get F.DDX_GEN_GEN else x.gen,
                        verified := x.verified || s.verifies n k } else y))) ∧
    (IdxAsks s n k e ea 3 f b → s.storeLen < s.storeMax → 0 < x.refcnt →
      (bucketFor s b).entries.find? (fun y => y.named (reqFp b) (reqDomain b) (reqLoc b)) = some x →
      Gives (.decref n k f none) s (fun t => AwaitsRecord n k e ea (x.refcnt - 1) s t ∧
        (bucketFor t b).entries = (bucketFor s b).entries.map (fun y => if y.named x.fp x.domain x.loc
          then { x with refcnt := x.refcnt - 1, gen := if x.refcnt = 1 then s.get F.DDX_GEN_GEN else x.gen } else y)))) ∧
  (∀ (s : State) (n k e ea : Nat) (f : InsW) (b : Bytes) (image : Option Bytes), IdxAsks s n k e ea 1 f b → s.ddxOn = false →
    Gives (.insert n k f image) s (fun t => AwaitsRecord n k e ea (leAt b 64 4) s t ∧ (∃ p ∈ t.ddx.pend, p.block = patch b 48 [2]) ∧
      (t.half (fpHalf (reqFp b) (reqDomain b))).unique = (s.half (fpHalf (reqFp b) (reqDomain b))).unique + 1)) ∧
  (∀ (s : State) (n k e ea : Nat) (f : InsW) (b : Bytes), IdxAsks s n k e ea 4 f b → (s.vol (reqVol b)).present = true →
    reqLba b < (s.vol (reqVol b)).size → s.storeLen < s.storeMax →
    ((s.mapAt (reqVol b) (reqLba b)).seq ≤ (MapEntry.ofBytes (slice b 72 32)).seq →
      Gives (.mapset n k f none) s (fun t => t.mapAt (reqVol b) (reqLba b) = MapEntry.ofBytes (slice b 72 32) ∧
        ((t.strand n k).ticket e).job.isSome = true ∧
        ∃ p ∈ t.ddx.pend, p.req.origin = .ticket n k e (s.stove n).order ea ∧ p.status = 0 ∧ p.record = some s.jnl.nextTag ∧
          slice p.block 72 32 = (s.mapAt (reqVol b) (reqLba b)).bytes)) ∧
    ((MapEntry.ofBytes (slice b 72 32)).seq < (s.mapAt (reqVol b) (reqLba b)).seq → s.get F.TICK_SNAP_VMAP_ADDR = 0 →
      Does (.mapset n k f none) s [.stoves] [] (fun t => Answered n k e 0 s t ∧ Tab.getB (t.stove n).lmem (ea + 48) = 32)))) ∧
  /- R242, R254, R258: with less than a sixteenth of the bucket store free its oldest versions go out with an item, and their room is free once it has
ended; a reclamation pass raises GEN, is BUSY until its items end, and removes an entry dead for two passes; a filter's rebuild ends with REBUILD
clear and recorded. -/
  ((∀ (s : State) (locs : List Nat) (m : Nat),
    s.storeMax + s.storeMax / 63 - s.storeLen < (s.storeMax + s.storeMax / 63) / 16 → s.chooseStove 5 6 = some m →
    (s.stove m).queue.length < 256 →
    Does (.bstoreWriteout locs) s [.stoves, .ddx, .free] [] (fun t => t.ddx.store = s.ddx.store.drop (min s.ddx.store.length locs.length) ∧
      Tab.find t.ddx.writing s.ddx.writeNo = some (s.ddx.store.zip locs) ∧ t.ddx.writeNo = s.ddx.writeNo + 1 ∧
      (t.stove m).queue.length = (s.stove m).queue.length + 1)) ∧
  (∀ (s : State) (r : Req), s.writable r R.DDX_RECLAIM = true → s.getb F.DDX_RECLAIM_BUSY = false →
    Gives (.reclaimGo r) s (fun t => t.getb F.DDX_RECLAIM_BUSY = true ∧ t.get F.DDX_GEN_GEN = (s.get F.DDX_GEN_GEN + 1) % 2 ^ 32 ∧
      t.ddx.halves = s.ddx.halves)) ∧
  (∀ (s : State) (locs : List Nat), s.getb F.DDX_RECLAIM_BUSY = true → s.ddx.reclaimItems = 0 →
    (∀ h, h < 2 → s.holdsHalf h = true → s.deadEntries h = []) →
    Gives (.reclaimDone ⟨locs, []⟩) s (fun t => t.getb F.DDX_RECLAIM_BUSY = false ∧ t.get F.DDX_GEN_GEN = s.get F.DDX_GEN_GEN ∧
      t.ddx.halves = s.ddx.halves)) ∧
  (∀ (s : State) (locs : List Nat) (h b : Nat) (k : Bucket) (x : IdxEntry), s.getb F.DDX_RECLAIM_BUSY = true → s.ddx.reclaimItems = 0 →
    h < 2 → s.and.halves = 2 ^ h → (s.half h).buckets = [(b, k)] → k.bad = false → k.entries = [x] → x.refcnt = 0 →
    2 ≤ (s.get F.DDX_GEN_GEN + 2 ^ 32 - x.gen) % 2 ^ 32 → ((s.half h).bucketOf (fpKey x.fp x.domain)).2 = b → s.storeLen < s.storeMax →
    Gives (.reclaimDone ⟨locs, []⟩) s (fun t => t.getb F.DDX_RECLAIM_BUSY = false ∧ t.get F.DDX_GEN_GEN = s.get F.DDX_GEN_GEN ∧
      ((t.half h).bucket b).entries = [] ∧ (t.half h).entries = (s.half h).entries - 1 ∧ (t.half h).unique = (s.half h).unique - 1)) ∧
  (∀ (s : State) (h : Nat) (ckpt : List (Nat × Nat × Bytes)), h < 2 → s.bitOf F.DDX_STS_REBUILD h = true → s.holdsHalf h = true →
    Does (.filterRebuildDone ⟨h, ckpt, []⟩) s (.ddx :: logParts) (F.DDX_STS_REBUILD :: F.DDX_ERR_PATH_FAIL :: F.DDX_PATH_FAIL_CNT_COUNT :: logFlds)
      (fun t => t.bitOf F.DDX_STS_REBUILD h = false ∧ (t.half h).stale = false ∧ (t.half h).buckets = (s.half h).buckets ∧
        (s.eventDue 0x0907 0 = true → s.soot.staged.length < 255 →
          ∃ r ∈ t.soot.staged, r.code = 0x0907 ∧ r.items = [h] ∧ r.atime = s.now) ∧
        ∀ j, j ≠ h → t.half j = s.half j)))

/-! ### Drives and stripes (ch. 12) -/

/-- The strand issues a DRV instruction with the request block `b` at `ea`, and nothing that waits for a drive or a DMA channel comes before it
(R145, R200, R338). -/
def DrvIssues (s : State) (n k e ea op : Nat) (f : InsW) (b : Bytes) : Prop :=
  s.tickets n k 0xC0 f (f.c == 0 && f.x == 0 && f.imm == 0) (some 5) e = true ∧ ea = ((s.strand n k).reg f.b).toNat / 64 * 64 ∧
  ea + 64 ≤ 0x100000 ∧ b = Tab.readBytes (s.stove n).lmem ea 64 ∧ leAt b 0 1 = op ∧ s.drvsBegun n = true ∧
  (s.stove n).jobs.all (fun w => w.2.2.granted || w.2.2.job.bind Job.unit != some 4) = true ∧ s.drv.cmds.all (fun c => !s.maySend c) = true ∧
  ∀ x ∈ s.drv.cmds, x.id ≠ s.drv.nextId ∧ ¬(x.stove = n ∧ x.strand = k ∧ x.entry = e)

/-- Besides, a DMA channel is free, and the request names a zone of a drive that is ONLINE while EN is 1 (R347, R348). -/
def DrvReq (s : State) (n k e ea op : Nat) (f : InsW) (b : Bytes) : Prop :=
  DrvIssues s n k e ea op f b ∧ ((s.stove n).freeUnit 4).isSome = true ∧ leAt b 2 2 < 128 ∧ s.getb F.DRV_CTL_EN = true ∧
  (s.drive (leAt b 2 2)).online = true ∧ leAt b 4 4 < (s.drive (leAt b 2 2)).zones

/-- What a drive gets for an op on a zone (R347, R333): on a Flexible Data Placement namespace an append is a Write at the zone's position and a
reset a deallocate of the whole zone. -/
def driveGets (s : State) (d op z off len : Nat) (data : Bytes) : Out :=
  if (s.drive d).fdp = true ∧ op = 1 then .drive d 8 z ((Tab.find s.drv.wps (d * 2 ^ 32 + z)).getD off) len data
  else if (s.drive d).fdp = true ∧ op = 2 then .drive d 9 z 0 ((s.drive d).zoneLbas * 4096) []
  else .drive d op z off len data

/-- The request is with the drive ports, its ticket outstanding; it is handed to the drive once it holds its `g` grates (R27), which a request
without data does at once. -/
def DrvSent (n k e g : Nat) (b data : Bytes) (s t : State) : Prop :=
  t.drv.nextId = s.drv.nextId + 1 ∧ ((t.strand n k).ticket e).job.isSome = true ∧ ((t.strand n k).ticket e).granted = true ∧
  (t.strand n k).pc = (s.strand n k).pc + 1 ∧
  ∃ c, t.drv.cmds = s.drv.cmds ++ [c] ∧ c.id = s.drv.nextId ∧ c.stove = n ∧ c.strand = k ∧ c.entry = e ∧ c.data = data ∧
    c.sent = t.holdsAll (drvUser c.id) g ∧
    (c.sent = true → c.sentAt = s.cyc ∧
      t.out = driveGets s (leAt b 2 2) (leAt b 0 1) (leAt b 4 4) (leAt b 8 8) (leAt b 16 4) data :: s.out) ∧
    (c.sent = false → t.out = s.out)

/-- How drive requests are sent and complete.
The model's choices it rests on: log entries 4, 5, 63 and 151. -/
def Obligations.DriveCommands : Prop :=
  /- R347, R348, R338: a DRV request in its format goes to its drive: READ and APPEND of whole granules within the buffer and the zone, an APPEND when no
other of its zone is on its way; RESET and FINISH of a zone. While no DMA channel is free the request waits (R145). A request for a drive that
is not ONLINE ends at once with UNIT_ERR 1, one with a drive number or zone out of range with UNIT_ERR 7. -/
  ((∀ (s : State) (n k e ea : Nat) (f : InsW) (b : Bytes) (d : Desc), Desc.ofBytes (slice b 32 16) = some d → s.descFault n d = none →
    leAt b 8 8 % 4096 = 0 → leAt b 16 4 % 4096 = 0 → 0 < leAt b 16 4 → leAt b 16 4 ≤ d.len →
    leAt b 8 8 + leAt b 16 4 ≤ (s.drive (leAt b 2 2)).zoneLbas * 4096 →
    (DrvReq s n k e ea 0 f b → leAt b 16 4 ≤ 2097152 →
      (∀ w, Tab.find s.drv.wps (leAt b 2 2 * 2 ^ 32 + leAt b 4 4) = some w → leAt b 8 8 + leAt b 16 4 ≤ w) →
      Does (.drvRead n k f) s [.stoves, .drv, .pool, .out] [F.GRT_BP_CNT_COUNT 6] (DrvSent n k e (leAt b 16 4 / 4096) b [] s)) ∧
    (DrvReq s n k e ea 1 f b → leAt b 16 4 ≤ 131072 → d.space = 0 →
      (∀ x ∈ s.drv.cmds, x.op = 1 → x.drive = leAt b 2 2 → x.zone ≠ leAt b 4 4) →
      Does (.drvAppend n k f) s [.stoves, .drv, .pool, .out] [F.GRT_BP_CNT_COUNT 5]
        (DrvSent n k e (leAt b 16 4 / 4096) b (Tab.readBytes (s.stove n).lmem d.addr (leAt b 16 4)) s))) ∧
  (∀ (s : State) (n k e ea : Nat) (f : InsW) (b : Bytes),
    (DrvReq s n k e ea 2 f b → s.gratesOf (drvUser s.drv.nextId) = [] →
      Does (.drvReset n k f) s [.stoves, .drv, .out] [] (DrvSent n k e 0 b [] s)) ∧
    (DrvReq s n k e ea 3 f b → s.gratesOf (drvUser s.drv.nextId) = [] →
      Does (.drvFinish n k f) s [.stoves, .drv, .out] [] (DrvSent n k e 0 b [] s))) ∧
  (∀ (s : State) (n k e ea : Nat) (f : InsW) (b : Bytes) (d : Desc), (s.stove n).freeUnit 4 = none →
    (Desc.ofBytes (slice b 32 16) = some d → s.descFault n d = none →
      (DrvIssues s n k e ea 0 f b → Does (.drvRead n k f) s [.stoves] [] (TookTicket n k f.a e (.drv ea) s)) ∧
      (DrvIssues s n k e ea 1 f b → Does (.drvAppend n k f) s [.stoves] [] (TookTicket n k f.a e (.drv ea) s))) ∧
    (DrvIssues s n k e ea 2 f b → Does (.drvReset n k f) s [.stoves] [] (TookTicket n k f.a e (.drv ea) s)) ∧
    (DrvIssues s n k e ea 3 f b → Does (.drvFinish n k f) s [.stoves] [] (TookTicket n k f.a e (.drv ea) s))) ∧
  (∀ (s : State) (n k e ea : Nat) (f : InsW) (b : Bytes), DrvIssues s n k e ea 2 f b → ((s.stove n).freeUnit 4).isSome = true →
    (leAt b 2 2 < 128 → (s.drive (leAt b 2 2)).online = false →
      Does (.drvReset n k f) s [.stoves, .drv, .pool] [] (fun t => Ended n k e (0x0C + 1 * 256) t)) ∧
    (128 ≤ leAt b 2 2 → Does (.drvReset n k f) s [.stoves, .drv, .pool] [] (fun t => Ended n k e (0x0C + 7 * 256) t)) ∧
    (leAt b 2 2 < 128 → s.getb F.DRV_CTL_EN = true → (s.drive (leAt b 2 2)).online = true → (s.drive (leAt b 2 2)).zones ≤ leAt b 4 4 →
      Does (.drvReset n k f) s [.stoves, .drv, .pool] [] (fun t => Ended n k e (0x0C + 7 * 256) t)))) ∧
  /- R338, R347, R349: a READ that completes has its data in its buffer; an APPEND completes when the drive returned the LBA it was to take, else it is
MISPLACED and its member fails; any error status ends the request with UNIT_ERR and its row's AUX; a request with no completion for DRV_CMD_TO is
aborted and ends with AUX 5 (R350). -/
  ((∀ (s : State) (id ds rlba : Nat) (off : Bool) (c : DrvCmd) (data : Bytes), s.drv.cmds.find? (fun x => x.id == id && x.sent) = some c →
    c.stove < 16 → ((s.strand c.stove c.strand).ticket c.entry).used = true →
    (c.op = 0 → c.buf.space = 0 → c.len ≤ c.buf.len → c.block + 58 ≤ c.buf.addr ∨ c.buf.addr + c.len ≤ c.block + 48 →
      Gives (.driveCompletion id 0 ds rlba off data) s (fun t => Ended c.stove c.strand c.entry (c.len % 2 ^ 32 * 2 ^ 32) t ∧
        Tab.readBytes (t.stove c.stove).lmem c.buf.addr c.len = slice data 0 c.len ∧
        t.get F.DRV_READ_BYTES_COUNT = (s.get F.DRV_READ_BYTES_COUNT + c.len) % 2 ^ 64 ∧ ∀ x ∈ t.drv.cmds, x.id ≠ c.id)) ∧
    (c.op = 1 → (s.drive c.drive).fdp = false → rlba = s.expectedLba c →
      Gives (.driveCompletion id 0 ds rlba off data) s (fun t => Ended c.stove c.strand c.entry (c.len % 2 ^ 32 * 2 ^ 32) t ∧
        Tab.readBytes (t.stove c.stove).lmem (c.block + 48) 8 = leBytes 8 rlba ∧
        Tab.find t.drv.wps (c.drive * 2 ^ 32 + c.zone) = some (c.off + c.len))) ∧
    (c.op = 1 → (s.drive c.drive).fdp = false → rlba ≠ s.expectedLba c → ∀ m i, s.memberOf c.drive c.zone = some (m, i) → i < 32 → (s.stripe m).state ≠ 0 → (s.stripe m).state ≠ 5 →
      Gives (.driveCompletion id 0 ds rlba off data) s (fun t => Ended c.stove c.strand c.entry (0x0C + 4 * 256) t ∧
        t.getb F.DRV_ERR_MISPLACED = true ∧ bit (t.stripe m).failed i = true)) ∧
    (c.op = 2 → Gives (.driveCompletion id 0 ds rlba off data) s (fun t => Ended c.stove c.strand c.entry 0 t)) ∧
    (∀ res, res ≠ 0 → res ≠ 2 → res < 8 → off = false →
      Gives (.driveCompletion id res ds rlba off data) s (fun t => Ended c.stove c.strand c.entry (0x0C + res * 256) t ∧
        Tab.readBytes (t.stove c.stove).lmem (c.block + 56) 2 = leBytes 2 ds ∧ ∀ x ∈ t.drv.cmds, x.id ≠ c.id)) ∧
    (s.get F.DRV_RBLD_CFG_MEDIA_LIMIT = 0 →
      Gives (.driveCompletion id 2 ds rlba off data) s (fun t => Ended c.stove c.strand c.entry (0x0C + 2 * 256) t ∧
        t.getb F.DRV_ERR_MEDIA = true ∧ (t.drive c.drive).media = (s.drive c.drive).media + 1))) ∧
  (∀ (s : State) (id : Nat) (c : DrvCmd), s.drv.cmds.find? (fun x => x.id == id && x.sent) = some c → c.stove < 16 →
    ((s.strand c.stove c.strand).ticket c.entry).used = true → c.sentAt + ms (max 1 (s.get F.DRV_CMD_TO_TIMEOUT)) ≤ s.cyc → c.op ≠ 7 →
    (s.drive c.drive).timeouts = [] →
    Gives (.drvCmdTimeout id) s (fun t => Ended c.stove c.strand c.entry (0x0C + 5 * 256) t ∧ t.getb F.DRV_ERR_TIMEOUT = true ∧
      .drive c.drive 4 0 0 0 [] ∈ t.out ∧ (t.drive c.drive).timeouts = [s.now] ∧ ∀ x ∈ t.drv.cmds, x.id ≠ c.id)))

/-- R328, R332, R351, R355: a port in L0 brings its ABSENT drives ONLINE, with the head's registration while EN is 1; a port out of L0 for a second, FAIL
and a Controller Fatal Status fail a drive: its requests end and every stripe's member on it is failed; LOCK takes a geometry the rule
allows.
The model's choices it rests on: log entries 4, 5 and 62. -/
def Obligations.DrivesComeAndGo : Prop :=
  (∀ (s : State) (p rate width d z : Nat), p < 32 → 1 ≤ rate → rate ≤ 6 → width ∈ [1, 2, 4, 8, 16] → width ≤ s.portWidth p → d < 128 → s.released (dDrv (p / 8)) = true → s.portExists p = true →
    (s.drive d).state = 0 → (s.drive d).present = true → (s.drive d).port = p →
    Gives (.drvLinkUp p rate width [(d, z)]) s (fun t => t.getb (F.DRV_PORT_STS_DL_UP p) = true ∧ t.get (F.DRV_PORT_STS_RATE p) = rate ∧
      t.get (F.DRV_PORT_STS_WIDTH p) = width ∧ (t.drive d).state = 1 ∧ (t.drive d).zones = z ∧ (t.drive d).resv = s.getb F.DRV_CTL_EN ∧
      ∀ j, j ≠ d → t.drive j = s.drive j)) ∧
  (∀ (s : State) (p : Nat), p < 32 → s.getb (F.DRV_PORT_STS_DL_UP p) = true →
    Does (.drvLinkLoss p false) s (.drv :: logParts) (logFlds ++ [F.DRV_PORT_STS_DL_UP p, F.DRV_PORT_STS_RATE p, F.DRV_PORT_STS_WIDTH p, F.DRV_ERR_LINK_DOWN])
      (fun t => t.getb (F.DRV_PORT_STS_DL_UP p) = false ∧ t.getb F.DRV_ERR_LINK_DOWN = true ∧ Tab.find t.drv.downAt p = some s.cyc ∧
        StagedMs 0x0B01 0 [p] s t ∧ ∀ d, t.drive d = s.drive d)) ∧
  (∀ (s : State) (p i a d : Nat) (x : Drive), p < 32 → s.getb (F.DRV_PORT_STS_DL_UP p) = false → Tab.find s.drv.downAt p = some a → a + sec 1 ≤ s.cyc →
    i < 8 → s.getb (F.DRV_PORT_STS_DL_UP (p / 8 * 8 + i)) = true → Tab.find s.drv.drives d = some x → x.present = true → x.port = p →
    Gives (.drvLinkLoss p false) s (fun t => (t.drive d).online = false ∧ Tab.find t.drv.downAt p = none)) ∧
  (∀ (s : State) (d : Nat), (s.drive d).online = true → Tab.sorted s.drv.stripes = true →
    let Gone (t : State) : Prop := (t.drive d).online = false ∧ t.getb F.DRV_ERR_DRIVE_FAIL = true ∧ (∀ c ∈ t.drv.cmds, c.drive ≠ d) ∧
      ∀ m x i, Tab.find s.drv.stripes m = some x → x.state ≠ 0 → x.state ≠ 5 → i < x.members.length →
        (∀ j, (x.members.getD j (128, false, 0)).1 = d ↔ j = i) → bit (t.stripe m).failed i = true
    Gives (.drvControllerFatal d) s Gone ∧
    (∀ r, s.get F.DRV_DRV_SEL_DRIVE = d → s.writable r R.DRV_DRV_CTL = true → Gives (.drvFailWrite r) s Gone)) ∧
  (∀ (s : State) (r : Req), s.writable r R.DRV_CTL = true →
    (1 ≤ s.get F.DRV_GEOM_K → s.get F.DRV_GEOM_K ≤ 29 → 1 ≤ s.get F.DRV_GEOM_M → 1 ≤ s.get F.DRV_GEOM_M_META →
      s.get F.DRV_GEOM_K + s.get F.DRV_GEOM_M ≤ 32 → s.get F.DRV_GEOM_K + s.get F.DRV_GEOM_M_META ≤ 32 →
      Does (.drvLock r) s [] [F.DRV_CTL_LOCK] (fun t => t.getb F.DRV_CTL_LOCK = true)) ∧
    (s.get F.DRV_GEOM_K = 0 ∨ 29 < s.get F.DRV_GEOM_K → Does (.drvLock r) s [] [F.DRV_CTL_CFG_ERR] (fun t => t.getb F.DRV_CTL_CFG_ERR = true)))

/-- A stripe of the class as it opens: with the geometry of its class, owned by the head, since now. -/
def openedStripe (s : State) (cls : Nat) (ms : List (Nat × Bool × Nat)) : Stripe :=
  { state := 1, cls, k := s.get F.DRV_GEOM_K, m := if cls = 0 then s.get F.DRV_GEOM_M else s.get F.DRV_GEOM_M_META, owner := s.head
    openAt := s.now, members := ms, zeroAt := s.cyc }

/-- R335, R344, R345, R353: a stripe opens on the members R335 chooses, with a STRIPE record of its entry; the most degraded stripe's rebuild is
posted with program 0x0002; a closed stripe with nothing live and nothing in the journal, whose META zones hold no latest version, is reset and free after DRV_RECLAIM_DLY.
The model's choices it rests on: log entry 64. -/
def Obligations.StripesOpenAndClose : Prop :=
  (∀ (s : State) (cls n : Nat) (ms : List (Nat × Bool × Nat)), s.getb F.DRV_CTL_EN = true → s.openStripes cls < max 1 (s.get F.DRV_GEOM_OPEN) →
    s.nextStripe cls = some (n, ms) → Tab.sorted s.drv.drives = true →
    Gives (.stripeOpen cls) s (fun t => t.stripe n = openedStripe s cls ms ∧
      n < s.get F.DRV_STRIPE_CNT_COUNT ∧ Tab.find s.drv.stripes n = none ∧ (s.md = mDuplex → n % 2 = s.head) ∧
      (∀ x ∈ ms, (s.drive x.1).online = true ∧ (s.drive x.1).resv = true ∧ (s.drive x.1).spare = false) ∧
      ∃ r ∈ t.jnl.recs ++ t.jnl.waiting, r.type = 5 ∧ r.lba = n ∧ r.body = .stripe (t.stripe n).entry)) ∧
  (∀ (s : State) (n m : Nat) (repl : List (Nat × Nat × Nat)), s.getb F.DRV_RBLD_CFG_AUTO = true → s.drv.rebuild = none → s.nextRebuild = some n →
    s.replacements (s.stripe n) = some repl → s.chooseStove 2 3 = some m → (s.stove m).queue.length < 256 → n < 2 ^ 22 →
    Gives (.stripeRebuild) s (fun t => (t.stripe n).state = 4 ∧ (t.stripe n).repl = repl ∧ t.drv.rebuild = some n ∧
      ∃ w, (t.stove m).queue = (s.stove m).queue ++ [w] ∧ w.pgm = 2 ∧ w.kind = 3 ∧ w.arg = n ∧ leAt w.bytes 6 2 = 3)) ∧
  (∀ (s : State) (n : Nat), (s.stripe n).state = 2 ∨ (s.stripe n).state = 3 → (s.stripe n).owner = s.head → (s.stripe n).live = 0 →
    s.jnl.recs.any (·.namesStripe n) = false → (s.stripe n).zeroAt + ms (s.get F.DRV_RECLAIM_DLY_DELAY) ≤ s.cyc →
    (s.stripe n).cls = 0 ∨ s.zoneNames n = false →
    Gives (.stripeReclaim n) s (fun t => Tab.find t.drv.stripes n = none ∧
      ∀ i x, (s.stripe n).members[i]? = some x → bit (s.stripe n).failed i = false → driveGets s x.1 2 x.2.2 0 0 [] ∈ t.out))

/-! ### The Index cache (ch. 09) -/

/-- The cache is ENabled, answers, and holds line `l` in way `w` of its set alone, which is all it holds. -/
def OneLine (s : State) (l w : Nat) (y : IchWay) : Prop :=
  s.answers dCch = true ∧ s.getb F.ICH_CTL_EN = true ∧ s.inRegion l = true ∧ l < 2 ^ 34 ∧ w < 16 ∧ y.valid = true ∧ y.tag = ichTag l ∧
  s.ich.sets = [(ichSet l, { ways := [(w, y)] })] ∧ s.ich.side = [] ∧ s.ich.fills = [] ∧ s.ich.waiting = [] ∧ s.ich.mnt = none

/-- No host may hold a line of a window, and none is poisoned: another agent's access to DDR is made at once (R51). -/
def NoHostLines (s : State) : Prop :=
  s.ddrUp = true ∧ (∀ p, (s.port p).filter = [] ∧ (s.port p).devq = [] ∧ (s.port p).poison = []) ∧ s.ich.poisoned = []

/-- How the Index cache serves reads and writes, and what other agents see.
The model's choices it rests on: log entries 60 and 61. -/
def Obligations.IndexCacheServes : Prop :=
  /- R265, R268, R269, R271, R272: a read of a cached line is answered and counts a hit, one of a filter bucket
prefetches its alternate; a read of any other starts a fill, its own burst first; outside the
regions, or while EN is 0, DDR answers; a write waits in the merging buffer and DDR keeps its bytes; a burst answers the reads whose bytes are then
all in, and the last installs the line in the lowest invalid way. -/
  ((∀ (s : State) (id a len l w : Nat) (y : IchWay), OneLine s l w y → l = a / 256 → len ≤ 64 → a % 256 + len ≤ 256 →
    Does (.ichRequest id a len none .plain) s [.ich, .out] [F.ICH_HITS_COUNT] (fun t =>
      t.out = .ichData id (some (slice y.data (a % 256) len)) :: s.out ∧ t.get F.ICH_HITS_COUNT = (s.get F.ICH_HITS_COUNT + 1) % 2 ^ 64 ∧
      (t.iset (ichSet l)).ways = (s.iset (ichSet l)).ways)) ∧
  (∀ (s : State) (id a len l w alt : Nat) (y : IchWay), OneLine s l w y → l = a / 256 → ichSet alt ≠ ichSet l → s.inRegion alt = true →
    Does (.ichRequest id a len none (.filter alt)) s [.ich, .out] [F.ICH_HITS_COUNT, F.ICH_PF_ISSUED_COUNT] (fun t =>
      t.get F.ICH_PF_ISSUED_COUNT = (s.get F.ICH_PF_ISSUED_COUNT + 1) % 2 ^ 64 ∧ ∃ x, t.ich.fills = [x] ∧ x.line = alt ∧ x.prefetch = true)) ∧
  (∀ (s : State) (id a len l : Nat), s.answers dCch = true → s.getb F.ICH_CTL_EN = true → l = a / 256 → s.inRegion l = true → len ≤ 64 →
    a % 256 + len ≤ 256 → Tab.find s.ich.sets (ichSet l) = none → s.ich.side = [] → s.ich.fills = [] → s.ich.wb = [] → s.ich.waiting = [] →
    Does (.ichRequest id a len none .plain) s [.ich] [F.ICH_MISSES_COUNT] (fun t =>
      t.get F.ICH_MISSES_COUNT = (s.get F.ICH_MISSES_COUNT + 1) % 2 ^ 64 ∧ t.ich.sets = s.ich.sets ∧
      ∃ x, t.ich.fills = [x] ∧ x.line = l ∧ x.bursts = (List.range 4).map (fun i => (a % 256 / 64 + i) % 4) ∧
        x.data = Tab.readBytes s.ddr (256 * l) 256 ∧ x.joined = [{ id, addr := a, len, data := some (slice x.data (a % 256) len) }])) ∧
  (∀ (s : State) (id a len : Nat), s.answers dCch = true → s.getb F.ICH_CTL_EN = false ∨ s.inRegion (a / 256) = false → len ≤ 64 →
    a % 256 + len ≤ 256 → a / 256 ∉ s.ich.poisoned → s.ich.waiting = [] →
    Does (.ichRequest id a len none .plain) s [.out] [] (fun t => t.out = .ichData id (some (Tab.readBytes s.ddr a len)) :: s.out)) ∧
  (∀ (s : State) (id a l : Nat) (b : Bytes), s.answers dCch = true → s.getb F.ICH_CTL_EN = true → l = a / 256 → s.inRegion l = true →
    b.length ≤ 64 → a % 256 + b.length ≤ 256 → Tab.find s.ich.sets (ichSet l) = none → s.ich.side = [] → s.ich.fills = [] →
    s.ich.wb.length < 64 → s.ich.waiting = [] → (∀ x ∈ s.ich.wb, x.line ≠ l) →
    Does (.ichRequest id a b.length (some b) .plain) s [.ich] [F.ICH_MISSES_COUNT] (fun t =>
      ∃ x, t.ich.wb = s.ich.wb ++ [x] ∧ x.line = l ∧ x.since = s.cyc ∧
        ∀ i, i < b.length → Tab.find x.bytes (a % 256 + i) = some (b.getD i 0#8))) ∧
  (∀ (s : State) (i b : Nat) (f : IchFill) (rest : List Nat) (r : IchReq), s.ich.fills[i]? = some f → f.bursts = b :: rest → f.joined = [r] →
    0 < r.len → r.addr % 256 + r.len ≤ 256 → r.addr % 256 / 64 ≤ b → b ≤ (r.addr % 256 + r.len - 1) / 64 →
    ((∀ c ∈ rest, c < r.addr % 256 / 64 ∨ (r.addr % 256 + r.len - 1) / 64 < c) →
      Does (.ichBurst i) s [.ich, .out] [] (fun t =>
        t.ich.fills = s.ich.fills.set i { f with bursts := rest, joined := [] } ∧
        t.out = .ichData r.id (if f.poison then none else r.data) :: s.out)) ∧
    (∀ c ∈ rest, r.addr % 256 / 64 ≤ c → c ≤ (r.addr % 256 + r.len - 1) / 64 →
      Does (.ichBurst i) s [.ich] [] (fun t => t.ich.fills = s.ich.fills.set i { f with bursts := rest }))) ∧
  (∀ (s : State) (i : Nat) (f : IchFill), s.ich.fills[i]? = some f → f.bursts = [] → f.stale = false → f.poison = false → f.lock = false →
    f.prefetch = false → s.ich.waiting = [] → s.ich.mnt = none → Tab.find s.ich.sets (ichSet f.line) = none →
    Does (.ichFillDone i) s [.ich] [] (fun t => t.ich.fills = s.ich.fills.eraseIdx i ∧
      (t.iset (ichSet f.line)).way 0 = { valid := true, tag := ichTag f.line, locked := false, data := overlay f.data f.laid }))) ∧
  /- R51, R273, R276-R279, R535: the oldest merging-buffer entry drains when the buffer holds HIGH entries, its bytes to DDR; another agent's read of a line first
drains its entry; its write is in DDR and takes the line out of the cache, the side buffer and the fills; while a host may hold a window line of the range it waits, with a
BISnpInv sent. -/
  ((∀ (s : State) (e : WbEntry) (rest : List WbEntry), s.ich.wb = e :: rest → max 1 (s.get F.ICH_WB_CFG_HIGH) ≤ rest.length + 1 →
    s.ich.waiting = [] → (∀ x ∈ rest, x.line ≠ e.line) → Tab.sorted e.bytes = true →
    Does .wbDrain s [.ich, .ddr] [] (fun t => t.ich.wb = rest ∧
      ∀ a, Tab.getB t.ddr a = if e.line * 256 ≤ a then (Tab.find e.bytes (a - e.line * 256)).getD (Tab.getB s.ddr a) else Tab.getB s.ddr a)) ∧
  (∀ (s : State) (a len : Nat) (e : WbEntry), s.ich.wb = [e] → 0 < len → a / 256 ≤ e.line → e.line ≤ (a + len - 1) / 256 →
    Tab.sorted e.bytes = true → NoHostLines s → s.ich.waiting = [] →
    Does (.extAgentRead a len) s [.ich, .ddr, .out] [] (fun t => t.ich.wb = [] ∧ t.out = .agentData a (some (Tab.readBytes t.ddr a len)) :: s.out ∧
      ∀ o b, Tab.find e.bytes o = some b → Tab.getB t.ddr (e.line * 256 + o) = b)) ∧
  (∀ (s : State) (a l w : Nat) (b : Bytes) (y : IchWay), OneLine s l w y → NoHostLines s → s.ich.wb = [] → b ≠ [] → a / 256 ≤ l → l ≤ (a + b.length - 1) / 256 →
    Does (.extAgentWrite a b) s [.ich, .ddr] [] (fun t => Tab.readBytes t.ddr a b.length = b ∧
      (∀ x, x < a ∨ a + b.length ≤ x → Tab.getB t.ddr x = Tab.getB s.ddr x) ∧ (t.iset (ichSet l)).find (ichTag l) = none)) ∧
  (∀ (s : State) (a : Nat) (b : Bytes) (f : IchFill), s.ich.fills = [f] → s.ich.waiting = [] → NoHostLines s → b ≠ [] → a / 256 ≤ f.line →
    f.line ≤ (a + b.length - 1) / 256 → Gives (.extAgentWrite a b) s (fun t => t.ich.fills = [{ f with stale := true }])) ∧
  (∀ (s : State) (p a l : Nat) (b : Bytes), p < 2 → s.ddrUp = true → (s.port p).filter = [l] → (s.port p).snoops = [] → (s.port (1 - p)).filter = [] →
    (s.port p).backing + 64 * l < a + b.length → a < (s.port p).backing + 64 * l + 64 →
    Does (.extAgentWrite a b) s [.ports, .out, .agentq] [] (fun t => t.agentq = s.agentq ++ [(a, b.length, some b)] ∧
      t.out = .bisnp p l true :: s.out)))

/-- How the Index cache is maintained, and what its errors do.
The model's choices it rests on: log entries 60 and 61. -/
def Obligations.IndexCacheMaintains : Prop :=
  /- R280, R281: an operation on one line: INVAL drops an unlocked line, a locked one only with FORCE; CLEAN drains its merging-buffer entry; FLUSH does
both; LOCK pins a line of ways 0 to 3; UNLOCK lets it go; PREFETCH starts its fill; DONE counts it and BUSY lasts until MNT_DONE. While EN is 0 the
operation ends at once with result 4. -/
  ((∀ (s : State) (r : Req) (l w : Nat) (y : IchWay) (force : Bool), s.writable r R.ICH_MNT_CTL = true → s.getb F.ICH_MNT_STS_BUSY = false →
    OneLine s l w y → s.get F.ICH_MNT_ADDR_LINE = l →
    let fs : List Fld := [F.ICH_MNT_CTL_FORCE, F.ICH_MNT_CTL_RANGE, F.ICH_MNT_CTL_OP, F.ICH_MNT_SKIP_COUNT, F.ICH_MNT_DONE_COUNT, F.ICH_MNT_STS_BUSY]
    (y.locked = false ∨ force = true →
      Does (.ichInval r force false) s [.ich] fs (fun t => (t.iset (ichSet l)).find (ichTag l) = none ∧ t.get F.ICH_MNT_DONE_COUNT = 1 ∧
        t.get F.ICH_MNT_SKIP_COUNT = 0 ∧ t.getb F.ICH_MNT_STS_BUSY = true)) ∧
    (y.locked = true →
      Does (.ichInval r false false) s [.ich] fs (fun t => (t.iset (ichSet l)).find (ichTag l) = some w ∧ t.get F.ICH_MNT_DONE_COUNT = 0 ∧
        t.get F.ICH_MNT_SKIP_COUNT = 1)) ∧
    (∀ e, s.ich.wb = [e] → e.line = l → y.locked = false →
      Does (.ichClean r force false) s [.ich, .ddr] fs (fun t => t.ich.wb = [] ∧ t.get F.ICH_MNT_DONE_COUNT = 1 ∧ t.ich.sets = s.ich.sets) ∧
      Does (.ichFlush r force false) s [.ich, .ddr] fs (fun t => t.ich.wb = [] ∧ t.get F.ICH_MNT_DONE_COUNT = 1 ∧
        (t.iset (ichSet l)).find (ichTag l) = none)) ∧
    (w < 4 → Does (.ichLock r force false) s [.ich] fs (fun t => (t.iset (ichSet l)).way w = { y with locked := true } ∧
      (y.locked = false → t.get F.ICH_MNT_DONE_COUNT = 1))) ∧
    (y.locked = true → Does (.ichUnlock r force false) s [.ich] fs (fun t => (t.iset (ichSet l)).way w = { y with locked := false } ∧
      t.get F.ICH_MNT_DONE_COUNT = 1))) ∧
  (∀ (s : State) (r : Req) (l : Nat) (force : Bool), s.writable r R.ICH_MNT_CTL = true → s.getb F.ICH_MNT_STS_BUSY = false →
    s.getb F.ICH_CTL_EN = true → s.get F.ICH_MNT_ADDR_LINE = l → s.inRegion l = true → Tab.find s.ich.sets (ichSet l) = none → s.ich.side = [] →
    s.ich.fills = [] → s.ich.waiting = [] → s.ich.mnt = none →
    Does (.ichPrefetch r force false) s [.ich] [F.ICH_MNT_CTL_FORCE, F.ICH_MNT_CTL_RANGE, F.ICH_MNT_CTL_OP, F.ICH_MNT_SKIP_COUNT,
        F.ICH_MNT_DONE_COUNT, F.ICH_MNT_STS_BUSY, F.ICH_PF_ISSUED_COUNT] (fun t => t.get F.ICH_MNT_DONE_COUNT = 1 ∧
      t.get F.ICH_PF_ISSUED_COUNT = (s.get F.ICH_PF_ISSUED_COUNT + 1) % 2 ^ 64 ∧ ∃ x, t.ich.fills = [x] ∧ x.line = l ∧ x.prefetch = true)) ∧
  (∀ (s : State) (r : Req) (force range : Bool), s.writable r R.ICH_MNT_CTL = true → s.getb F.ICH_MNT_STS_BUSY = false →
    s.getb F.ICH_CTL_EN = false →
    let fs : List Fld := [F.ICH_MNT_CTL_FORCE, F.ICH_MNT_CTL_RANGE, F.ICH_MNT_CTL_OP, F.ICH_MNT_SKIP_COUNT, F.ICH_MNT_DONE_COUNT, F.ICH_MNT_STS_RESULT]
    Does (.ichInval r force range) s [] fs (fun t => t.get F.ICH_MNT_STS_RESULT = 4) ∧
    Does (.ichLock r force range) s [] fs (fun t => t.get F.ICH_MNT_STS_RESULT = 4)) ∧
  (∀ (s : State) (m : IchMnt), s.ich.mnt = some m → m.todo = [] → m.waits = [] → m.unlocked = false →
    Does .mntDone s [.ich] [F.ICH_MNT_STS_BUSY, F.ICH_MNT_STS_RESULT] (fun t => t.ich = { s.ich with mnt := none } ∧
      t.getb F.ICH_MNT_STS_BUSY = false ∧ t.get F.ICH_MNT_STS_RESULT = if m.full then 1 else 0))) ∧
  /- R282-R284: a correctable error is counted; an error in a cached line drops it, one in a tag drops its set, one in the merging buffer loses the
entry and poisons its line; EN going to 0 drains the buffer and empties the cache; READY comes when the tags are invalid after CCH's release. -/
  ((∀ (s : State) (l : Nat), Does (.ichEccError 0 l) s [] [F.ICH_ECC_CNT_COUNT] (fun t =>
    t.get F.ICH_ECC_CNT_COUNT = min (s.get F.ICH_ECC_CNT_COUNT + 1) 0xFFFFFFFF)) ∧
  (∀ (s : State) (l w : Nat) (y : IchWay), OneLine s l w y →
    Does (.ichEccError 1 l) s (.ich :: logParts) (F.ICH_ERR_DATA_ECC :: logFlds) (fun t => (t.iset (ichSet l)).find (ichTag l) = none ∧
      t.getb F.ICH_ERR_DATA_ECC = true ∧ StagedMs 0x0801 0 [256 * l % 2 ^ 32, 256 * l / 2 ^ 32 % 2 ^ 32] s t)) ∧
  (∀ (s : State) (l : Nat), s.get F.ICH_ECC_LIMIT_LIMIT = 0 →
    Does (.ichEccError 2 l) s (.ich :: logParts) (F.ICH_ERR_TAG_ECC :: logFlds) (fun t => Tab.find t.ich.sets (ichSet l) = none ∧
      (∀ i, i ≠ ichSet l → Tab.find t.ich.sets i = Tab.find s.ich.sets i) ∧ t.getb F.ICH_ERR_TAG_ECC = true)) ∧
  (∀ (s : State) (e : WbEntry), e ∈ s.ich.wb → s.ich.waiting = [] →
    Does (.ichEccError 3 e.line) s (.ich :: .ddr :: logParts) (F.ICH_ERR_WB_ECC :: logFlds) (fun t => (∀ x ∈ t.ich.wb, x.line ≠ e.line) ∧
      e.line ∈ t.ich.poisoned ∧ (t.iset (ichSet e.line)).find (ichTag e.line) = none ∧ (∀ x ∈ t.ich.side, x.1 ≠ e.line) ∧ t.getb F.ICH_ERR_WB_ECC = true)) ∧
  (∀ (s : State) (r : Req), s.writable r R.ICH_CTL = true →
    (s.getb F.ICH_STS_READY = true → Gives (.ichEnable r true) s (fun t => t.getb F.ICH_CTL_EN = true ∧ t.bitOf F.GLB_FAULT_ICH 0 = false ∧
      t.ich = s.ich)) ∧
    (s.getb F.ICH_CTL_EN = true → s.ich.waiting = [] → s.md ≠ mKindling →
      Gives (.ichEnable r false) s (fun t => t.getb F.ICH_CTL_EN = false ∧ t.ich.wb = [] ∧ t.ich.sets = [] ∧ t.ich.side = [] ∧
        t.bitOf F.GLB_FAULT_ICH 0 = true))) ∧
  (∀ (s : State), s.released dCch = true → Does .ichTagsReady s [] [F.ICH_STS_READY] (fun t => t.getb F.ICH_STS_READY = true)))

/-! ### Bellows (ch. 04) -/

/-- It is the turn of submission queue `q` of port `p`, the first command in flight, with no Sanitize and no write stop. -/
def OneFetch (s : State) (p q : Nat) (x : SubQ) (y : CplQ) : Prop :=
  s.turnOf p q = true ∧ q ≠ 0 ∧ q < 4097 ∧ s.md ≠ mBanked ∧ s.writeStopped = false ∧ s.bel.cmds = [] ∧ s.getb F.BEL_STS_SANITIZING = false ∧
  s.bel.sanitizeFail = false ∧ Tab.find (s.ctrl p).sqs q = some x ∧ Tab.find (s.ctrl p).cqs x.cq = some y

/-- The volume is usable through port `p`, writable and owned by this head, which is in no hand-over. -/
def Usable (s : State) (p v : Nat) : Prop :=
  (s.vol v).present = true ∧ bit (s.vol v).attach (2 * s.head + p) = true ∧ (s.vol v).susp = 0 ∧ (s.vol v).format = 0 ∧ (s.vol v).ro = false ∧
  (s.vol v).owner = s.head ∧ s.md ≠ mJoining ∧ s.get F.AND_FB_TB_VALUE = 0

/-- Sequences can be issued from the main counter, and there is capacity for a write of the volume (R113, R122, R335). -/
def CanWrite (s : State) : Prop :=
  s.tick.gaps = [] ∧ 0 < s.bel.seqNext ∧ s.bel.seqNext < s.bel.blockEnd ∧ s.bel.seqNext < 2 ^ 62 ∧ s.getb F.DDX_STS_FULL = false ∧
  s.hasSpace = true

/-- The command completed at once with the status: its completion waits in its completion queue and nothing is in flight (R110). -/
def CompletedWith (p q cid sc : Nat) (x : SubQ) (y : CplQ) (s t : State) : Prop :=
  t.bel.cmds = [] ∧ t.bel.nextId = s.bel.nextId + 1 ∧ Tab.find (t.ctrl p).sqs q = some { x with head := (x.head + 1) % x.size } ∧
  Tab.find (t.ctrl p).cqs x.cq = some { y with waiting := y.waiting ++ [{ cid, sq := q, sqHead := (x.head + 1) % x.size, sct := 0, sc, dw0 := 0 }] }

/-- The entry at the head of the submission queue has been taken: the head is past it, the rest of the queue as it was, and one more command has
been given its number. -/
def EntryTaken (p q : Nat) (x : SubQ) (s t : State) : Prop :=
  Tab.find (t.ctrl p).sqs q = some { x with head := (x.head + 1) % x.size } ∧ t.bel.nextId = s.bel.nextId + 1

/-- How Read, Write, Flush, Dataset Management and Write Zeroes are fetched, and what ends one at once.
The model's choices it rests on: log entries 36 and 38. -/
def Obligations.CommandsAreFetched : Prop :=
  /- R107, R109, R111: in its queue's turn, outside Banked, the entry is taken whatever else is in flight: a Read, one of no row and a Flush always; a Write, a
Write Zeroes and a Dataset Management while write fetch is not stopped and a sequence can be issued, the Write also within the dirty bound. In Banked
it waits (R129, R476), and out of its queue's turn nothing happens. -/
  (∀ (s : State) (p q cid nsid : Nat), q ≠ 0 → q < 4097 →
    (∀ x, s.turnOf p q = true → s.md ≠ mBanked → Tab.find (s.ctrl p).sqs q = some x →
      (∀ slba n sgl opc bk, Gives (.nvmeRead p q cid nsid slba n ⟨sgl, bk⟩ opc) s (EntryTaken p q x s)) ∧
      Gives (.nvmeFlush p q cid nsid) s (EntryTaken p q x s) ∧
      (s.writeStopped = false → s.seqReady s.now = true →
        (∀ slba n sgl bk, s.dirty + 4096 * n ≤ s.bound → Gives (.nvmeWrite p q cid nsid slba n sgl bk) s (EntryTaken p q x s)) ∧
        (∀ slba n, Gives (.writeZeroes p q cid nsid slba n) s (EntryTaken p q x s)) ∧
        ∀ ad rs, Gives (.datasetManagement p q cid nsid ad rs) s (EntryTaken p q x s))) ∧
    (s.turnOf p q = false → s.md ≠ mBanked →
      (∀ slba n sgl opc bk, exec (.nvmeRead p q cid nsid slba n ⟨sgl, bk⟩ opc) s = .next s) ∧ exec (.nvmeFlush p q cid nsid) s = .next s ∧
      (∀ slba n sgl bk, exec (.nvmeWrite p q cid nsid slba n sgl bk) s = .next s) ∧
      (∀ slba n, exec (.writeZeroes p q cid nsid slba n) s = .next s) ∧
      ∀ ad rs, exec (.datasetManagement p q cid nsid ad rs) s = .next s) ∧
    (s.md = mBanked → s.portFetches p = true → s.sqVisible p q = true →
      Gives (.nvmeFlush p q cid nsid) s (fun t => t.mode.held = s.mode.held ++ [.nvmeFlush p q cid nsid] ∧ (t.ctrl p).ps = 0 ∧ t.bel.cmds = s.bel.cmds) ∧
      ∀ slba n sgl bk, Gives (.nvmeWrite p q cid nsid slba n sgl bk) s (fun t =>
        t.mode.held = s.mode.held ++ [.nvmeWrite p q cid nsid slba n sgl bk] ∧ (t.ctrl p).ps = 0 ∧ t.bel.cmds = s.bel.cmds))) ∧
  /- R110, R118, R124, R591: what ends an entry at once, its completion waiting in its completion queue: an opcode of no row ends with 0x01, a volume
that is not there with 0x0B, one under format with 0x84, a Read above 2 MiB with 0x02, a granule beyond the volume with 0x80, an SGL shorter than the
data with 0x0F (R60), a write-class command to a read-only volume with 0x20, a Flush of a volume or of everything with nothing in flight with
success. -/
  (∀ (s : State) (p q cid : Nat) (x : SubQ) (y : CplQ), OneFetch s p q x y →
    (∀ nsid, nsid ≠ 0 → (s.vol (nsid - 1)).present = true → bit (s.vol (nsid - 1)).attach (2 * s.head + p) = true → (s.vol (nsid - 1)).susp = 0 →
      ((s.vol (nsid - 1)).format ≠ 0 →
        (∀ slba n sgl bk, Does (.nvmeRead p q cid nsid slba n ⟨sgl, bk⟩ 2) s (fetchParts s p) [] (CompletedWith p q cid 0x84 x y s)) ∧
        ∀ slba n, Does (.writeZeroes p q cid nsid slba n) s (fetchParts s p) [] (CompletedWith p q cid 0x84 x y s)) ∧
      ((s.vol (nsid - 1)).format = 0 → (s.vol (nsid - 1)).ro = true →
        (∀ slba n sgl, n ≤ 512 → slba + n ≤ (s.vol (nsid - 1)).size → 4096 * n ≤ sgl →
          Does (.nvmeWrite p q cid nsid slba n sgl false) s (fetchParts s p) [] (CompletedWith p q cid 0x20 x y s)) ∧
        (∀ slba n, slba + n ≤ (s.vol (nsid - 1)).size →
          Does (.writeZeroes p q cid nsid slba n) s (fetchParts s p) [] (CompletedWith p q cid 0x20 x y s)) ∧
        ∀ rs, (∀ r ∈ rs, r.1 + r.2 ≤ (s.vol (nsid - 1)).size) →
          Does (.datasetManagement p q cid nsid true rs) s (fetchParts s p) [] (CompletedWith p q cid 0x20 x y s))) ∧
    (∀ nsid slba n sgl bk, nsid ≠ 0 → Usable s p (nsid - 1) → 512 < n →
      Does (.nvmeRead p q cid nsid slba n ⟨sgl, bk⟩ 2) s (fetchParts s p) [] (CompletedWith p q cid 0x02 x y s)) ∧
    (∀ nsid slba n sgl opc bk, opc ≠ 2 →
      Does (.nvmeRead p q cid nsid slba n ⟨sgl, bk⟩ opc) s (fetchParts s p) [] (CompletedWith p q cid 1 x y s)) ∧
    (∀ nsid slba n sgl bk, nsid ≠ 0 → (s.vol (nsid - 1)).present = false →
      Does (.nvmeRead p q cid nsid slba n ⟨sgl, bk⟩ 2) s (fetchParts s p) [] (CompletedWith p q cid 0x0B x y s)) ∧
    (∀ nsid slba n sgl bk, nsid ≠ 0 → Usable s p (nsid - 1) → n ≤ 512 → (s.vol (nsid - 1)).size < slba + n →
      Does (.nvmeRead p q cid nsid slba n ⟨sgl, bk⟩ 2) s (fetchParts s p) [] (CompletedWith p q cid 0x80 x y s)) ∧
    (∀ nsid slba n sgl, nsid ≠ 0 → Usable s p (nsid - 1) → n ≤ 512 → slba + n ≤ (s.vol (nsid - 1)).size → sgl < 4096 * n → CanWrite s →
      Gives (.nvmeWrite p q cid nsid slba n sgl false) s (fun t => CompletedWith p q cid 0x0F x y s t ∧ t.getb (F.HST_ERR_SGL_LEN p) = true)) ∧
    Does (.nvmeFlush p q cid 0xFFFFFFFF) s (fetchParts s p) [] (CompletedWith p q cid 0 x y s) ∧
    (∀ nsid, nsid ≠ 0 → Usable s p (nsid - 1) →
      Does (.nvmeFlush p q cid nsid) s (fetchParts s p) [] (CompletedWith p q cid 0 x y s)))

/-- Nothing else waits for grates: no mirror receipt, no payload found again, no drive request, no mirror message. -/
def NoneWait (s : State) : Prop :=
  s.crl.mirIn = [] ∧ s.crl.mirOut = [] ∧ s.jnl.regain = [] ∧ s.drv.cmds.all (·.sent) = true

/-- R29, R111-R113, R124: a Read and a Write that pass the checks are stamped, the Write with the next sequence, and wait for their grates; a deallocation
posts its DEALLOC record of that sequence, Write Zeroes for its granules and Dataset Management for its ranges, none without the Deallocate
bit.
The model's choices it rests on: log entry 36. -/
def Obligations.CommandsStart : Prop :=
  ∀ (s : State) (p q cid nsid slba n : Nat) (x : SubQ) (y : CplQ), OneFetch s p q x y → nsid ≠ 0 → Usable s p (nsid - 1) → 0 < n → n ≤ 512 →
    slba + n ≤ (s.vol (nsid - 1)).size →
    (∀ sgl, 4096 * n ≤ sgl → s.canReserve p = false → s.canShare p = false → s.gratesOf (cmdUser s.bel.nextId) = [] → NoneWait s →
      ((s.chooseStove (s.program (nsid - 1) 0) 1).isSome = true →
        ∀ bk, Does (.nvmeRead p q cid nsid slba n ⟨sgl, bk⟩ 2) s (fetchParts s p ++ [.pool]) [F.GRT_BP_CNT_COUNT p] (fun t => ∃ c, t.bel.cmds = [c] ∧
          c.id = s.bel.nextId ∧ c.kind = .read ∧ c.buckets = bk ∧ c.vol = nsid - 1 ∧ c.lba = slba ∧ c.len = 4096 * n ∧ c.atime = s.now ∧ c.stage = .landing ∧
          t.pool.waiting.length = s.pool.waiting.length + n)) ∧
      (CanWrite s → (s.chooseStove (s.program (nsid - 1) 0) 0).isSome = true → s.dirty + 4096 * n ≤ s.bound →
        Does (.nvmeWrite p q cid nsid slba n sgl false) s (fetchParts s p ++ [.pool]) [F.GRT_BP_CNT_COUNT p] (fun t => ∃ c, t.bel.cmds = [c] ∧
          c.id = s.bel.nextId ∧ c.kind = .write ∧ c.vol = nsid - 1 ∧ c.lba = slba ∧ c.len = 4096 * n ∧ c.atime = s.now ∧ c.seq = s.bel.seqNext ∧
          c.stage = .landing ∧ t.bel.seqNext = s.bel.seqNext + 1 ∧ t.pool.waiting.length = s.pool.waiting.length + n))) ∧
    (CanWrite s →
      (Gives (.writeZeroes p q cid nsid slba n) s (fun t => (∃ c, t.bel.cmds = [c] ∧ c.kind = .writeZeroes ∧ c.posted = true ∧ c.recorded = false) ∧
        ∃ r ∈ t.jnl.recs ++ t.jnl.waiting, r.type = 2 ∧ r.seq = s.bel.seqNext ∧ r.vol = nsid - 1 ∧ r.lba = slba ∧ r.len = 4096 * n ∧ r.tag = s.bel.nextId)) ∧
      (Gives (.datasetManagement p q cid nsid true [(slba, n)]) s (fun t =>
        (∃ c, t.bel.cmds = [c] ∧ c.kind = .dealloc ∧ c.posted = true ∧ c.recorded = false) ∧
        ∃ r ∈ t.jnl.recs ++ t.jnl.waiting, r.type = 2 ∧ r.seq = s.bel.seqNext ∧ r.vol = nsid - 1 ∧ r.lba = slba ∧ r.len = 4096 * n ∧ r.tag = s.bel.nextId)) ∧
      Does (.datasetManagement p q cid nsid false [(slba, n)]) s (fetchParts s p) [] (fun t =>
        ∃ c, t.bel.cmds = [c] ∧ c.kind = .dealloc ∧ c.posted = true ∧ c.recorded = true ∧ c.mirDone = true))

/-- How a write completes, and what moves Bellows' counts.
The model's choices it rests on: log entries 37 and 137. -/
def Obligations.WritesComplete : Prop :=
  /- R16, R110, R115: a payload that lands is in its grate, its WRITE record posted and its work item queued; a write-class command whose conditions hold
completes; a waiting completion is posted with its PHASE while the queue has a free entry. -/
  ((∀ (s : State) (id g m : Nat) (payload : Bytes) (c : Cmd), s.cmd? id = some c → c.kind = .write → c.ring = false → c.foreign = none →
    c.stage = .landing → c.away = false → c.len = 4096 → s.gratesOf (cmdUser c.id) = [g] → payload.length = 4096 → 0 < c.seq →
    s.program c.vol c.pgm < 65536 → s.chooseStove (s.program c.vol c.pgm) 0 = some m → (s.stove m).queue.length < 256 →
    Gives (.payloadLands id payload) s (fun t => Tab.readBytes t.grates (4096 * g) 4096 = payload ∧
      (∃ d, t.cmd? id = some d ∧ d.stage = .staged ∧ d.posted = true) ∧
      (∃ w, (t.stove m).queue = (s.stove m).queue ++ [w] ∧ w.kind = 0 ∧ w.user = c.id) ∧
      ∃ r ∈ t.jnl.recs ++ t.jnl.waiting, r.type = 1 ∧ r.seq = c.seq ∧ r.vol = c.vol ∧ r.lba = c.lba ∧ r.len = c.len ∧ r.atime = c.atime ∧
        r.tag = c.id ∧ r.pdig = (sha256 payload).take 16)) ∧
  (∀ (s : State) (c : Cmd) (x : SubQ) (y : CplQ), s.bel.cmds = [c] → c.kind.writes = true → c.posted = true → c.recorded = true →
    c.mirDone = true ∨ s.mirrored = false → c.dead = false → c.foreign = none → c.ring = false → Tab.find (s.ctrl c.port).sqs c.queue = some x →
    Tab.find (s.ctrl c.port).cqs x.cq = some y →
    Does (.writeComplete c.id) s [.bel] [] (fun t => t.bel.cmds = [] ∧ Tab.find (t.ctrl c.port).cqs x.cq =
      some { y with waiting := y.waiting ++ [{ cid := c.cid, sq := c.queue, sqHead := x.head, sct := 0, sc := 0, dw0 := 0 }] })) ∧
  (∀ (s : State) (p q : Nat) (y : CplQ) (e : Cqe) (es : List Cqe), Tab.find (s.ctrl p).cqs q = some y → y.waiting = e :: es →
    (y.tail + 1) % y.size ≠ y.head → y.irq = false →
    Does (.cqEntryPost p q) s [.bel, .ports, .out] [] (fun t => t.out.head? = some (.cqe p q y.tail e y.phase) ∧
      (s.getb (F.HST_LINK_STS_CACHE_ON p) = false → t.out = .cqe p q y.tail e y.phase :: s.out) ∧
      Tab.find (t.ctrl p).cqs q = some { y with waiting := es, tail := (y.tail + 1) % y.size,
                                                phase := if y.tail + 1 = y.size then !y.phase else y.phase }))) ∧
  /- R107, R109, R110, R113, R120: doorbells move a queue's tail and head; write fetch resumes when the dirty count is within the bound; the next block of
2^20 sequences is committed before it is used; firmware may raise the counter in Kindling after HWM_BAD; the bound is 64 to 1,024 MiB. -/
  ((∀ (s : State) (p q tail : Nat) (x : SubQ), Tab.find (s.ctrl p).sqs q = some x → (s.ctrl p).en = true → tail < x.size →
    Does (.sqDoorbell p q tail) s [.bel] [] (fun t => Tab.find (t.ctrl p).sqs q = some { x with tail := tail } ∧
      ∀ j, j ≠ q → Tab.find (t.ctrl p).sqs j = Tab.find (s.ctrl p).sqs j)) ∧
  (∀ (s : State) (p q head : Nat) (y : CplQ), Tab.find (s.ctrl p).cqs q = some y → (s.ctrl p).en = true → head < y.size →
    Does (.cqDoorbell p q head) s [.bel] [] (fun t => Tab.find (t.ctrl p).cqs q = some { y with head := head } ∧
      ∀ j, j ≠ q → Tab.find (t.ctrl p).cqs j = Tab.find (s.ctrl p).cqs j)) ∧
  (∀ (s : State), s.bel.stopNeed ≠ 0 → s.dirty + s.bel.stopNeed ≤ s.bound →
    Does .writeFetchResume s [.bel] [F.BEL_STS_DIRTY_STOP] (fun t => t.bel.stopNeed = 0 ∧ t.bel.stopped = [] ∧ t.getb F.BEL_STS_DIRTY_STOP = false)) ∧
  (∀ (s : State), s.bel.blockEnd ≤ s.bel.seqNext → s.bel.seqNext < 2 ^ 62 → s.released dNoc = true → s.jnl.waiting = [] → s.bel.cmds = [] →
    Gives .hwmCommitted s (fun t => t.bel.blockEnd = (s.bel.seqNext / 1048576 + 1) * 1048576 ∧ t.bel.seqNext = s.bel.seqNext ∧
      t.jnl.hwm = (s.bel.seqNext / 1048576 + 1) * 1048576 ∧ t.pair 33 = some [t.jnl.hwm, s.jnl.lap])) ∧
  (∀ (s : State) (r : Req) (v : Nat), s.writable r R.BEL_SEQ_NEXT = true → s.getb F.BEL_ERR_HWM_BAD = true → s.md = mKindling → s.bel.seqNext < v →
    v ≤ 2 ^ 62 →
    Does (.seqNextWrite r v) s [.bel, .jnl] [] (fun t => t.bel.seqNext = (v + 1048575) / 1048576 * 1048576 ∧ t.jnl.hwm = t.bel.seqNext ∧
      t.bel.blockEnd = t.bel.seqNext)) ∧
  (∀ (s : State) (r : Req) (v : Nat), s.writable r R.BEL_SEQ_NEXT = true → s.md ≠ mKindling →
    Does (.seqNextWrite r v) s [] [] (fun t => t = s)) ∧
  (∀ (s : State) (r : Req) (v : Nat), s.writable r R.BEL_DIRTY_BOUND = true →
    (64 ≤ v → v ≤ 1024 → Gives (.dirtyBoundWrite r v) s (fun t => t.get F.BEL_DIRTY_BOUND_LIMIT = v ∧ t.bel = s.bel)) ∧
    (v < 64 → Gives (.dirtyBoundWrite r v) s (fun t => t.get F.BEL_DIRTY_BOUND_LIMIT = s.get F.BEL_DIRTY_BOUND_LIMIT ∧ t.getb F.BEL_ERR_CFG = true))))

/-! ### The Grate window (ch. 03) -/

/-- How a Grate window comes up and takes its doorbells.
The model's choices it rests on: log entries 42 and 129. -/
def Obligations.WindowsComeUp : Prop :=
  /- R77, R78, R102, R104: EN written 1 takes the layout the registers give, with its four offsets, and starts initialisation; a layout that breaks the
rules sets ERR.LAYOUT; EN written 0 starts a window reset; SIZE may grow while EN is 1; at the end of either every slot is FREE with GEN one higher
and READY follows EN. -/
  ((∀ (s : State) (r : Req) (p v rg d n z : Nat), p < 2 → s.writable r (R.GRT_WIN_CFG + 0x10000 * p) = true → s.getb (F.GRT_WIN_CFG_EN p) = false →
    rg = v / 2 ^ 24 % 64 + 1 → d = 2 ^ (v / 2 ^ 20 % 16) → n = s.get (F.GRT_WIN_SLOTS_SLOTS p) →
    let bad (t : State) : Prop := t.getb (F.GRT_WIN_CFG_EN p) = false ∧ t.getb (F.GRT_WIN_ERR_LAYOUT p) = true ∧ t.wins = s.wins
    (64 ≤ d → d ≤ 4096 → 1 ≤ n → n ≤ 65536 → slotBytes (v / 2 ^ 16 % 16) = some z → v / 2 ^ 8 % 256 ≤ 128 →
      (layoutOf rg d n z).stop ≤ v / 2 ^ 8 % 256 * 2 ^ 28 →
      Does (.winEnable r p v) s [.wins, .ports, .free] [F.GRT_WIN_CFG_RINGS_M1 p, F.GRT_WIN_CFG_DEPTH_LOG2 p, F.GRT_WIN_CFG_SLOT_SZ p, F.GRT_WIN_CFG_SIZE p,
          F.GRT_WIN_CFG_EN p, F.GRT_WIN_STS_RESETTING p, F.GRT_OFF_CRING_OFFSET p, F.GRT_OFF_CPL_OFFSET p, F.GRT_OFF_FLAG_OFFSET p,
          F.GRT_OFF_DATA_OFFSET p, F.HST_LINK_STS_MEM_ON p] (fun t =>
        t.getb (F.GRT_WIN_CFG_EN p) = true ∧ t.getb (F.GRT_WIN_STS_RESETTING p) = true ∧ t.get (F.GRT_OFF_CRING_OFFSET p) = 0x1000 ∧
        t.get (F.GRT_OFF_CPL_OFFSET p) = 0x1000 + rg * d * 64 ∧
        t.get (F.GRT_OFF_FLAG_OFFSET p) = (0x1000 + rg * d * 96 + 4095) / 4096 * 4096 ∧
        t.get (F.GRT_OFF_DATA_OFFSET p) = ((0x1000 + rg * d * 96 + 4095) / 4096 * 4096 + n * 64 + 2097151) / 2097152 * 2097152 ∧
        ((s.port p).backing ≠ 0 → (t.port p).backing = (s.port p).backing) ∧ (t.win p).rings = rg ∧ (t.win p).depth = d ∧ (t.win p).slots = n ∧ (t.win p).slotSize = z)) ∧
    (n = 0 → Gives (.winEnable r p v) s bad) ∧ (6 ≤ v / 2 ^ 16 % 16 → Gives (.winEnable r p v) s bad)) ∧
  (∀ (s : State) (r : Req) (p v : Nat), p < 2 → s.writable r (R.GRT_WIN_CFG + 0x10000 * p) = true → s.getb (F.GRT_WIN_CFG_EN p) = true →
    (s.win p).slots ≠ 0 → v / 2 ^ 8 % 256 ≤ 128 →
    (layoutOf (s.win p).rings (s.win p).depth (s.win p).slots (s.win p).slotSize).stop ≤ v / 2 ^ 8 % 256 * 2 ^ 28 →
    Gives (.winDisable r p v) s (fun t => t.getb (F.GRT_WIN_CFG_EN p) = false ∧ t.getb (F.GRT_WIN_STS_RESETTING p) = true ∧
      t.getb (F.GRT_WIN_STS_READY p) = false) ∧
    Does (.winSizeWrite r p v) s [] [F.GRT_WIN_CFG_SIZE p] (fun t => t.get (F.GRT_WIN_CFG_SIZE p) = v / 2 ^ 8 % 256)) ∧
  (∀ (s : State) (p : Nat), p < 2 → s.getb (F.GRT_WIN_STS_RESETTING p) = true → s.bareDdr = true →
    Gives (.windowReady p) s (fun t => t.getb (F.GRT_WIN_STS_RESETTING p) = false ∧
      (s.getb (F.GRT_WIN_CFG_EN p) = true → t.getb (F.GRT_WIN_STS_READY p) = true) ∧
      (∀ i, i < (s.win p).slots → t.flag p i = { gen := ((s.flag p i).gen + 1) % 256 }) ∧ (t.win p).freeOrder = List.range (s.win p).slots ∧
      (t.win p).ring = []))) ∧
  /- R82, R87: while READY is 1 a command doorbell moves its ring's tail and a completion doorbell its head, within what the ring holds, else ERR.DB_RANGE is
set; a DONE doorbell frees a slot whose flag word shows its release and counts any other word as a protocol error; a flag line that DDR cannot return makes its slot FAULT (R53, R100). -/
  ((∀ (s : State) (q : Req) (p r i : Nat), p < 2 → s.md ≠ mBanked → s.writable q (R.GRT_CMD_DB + 0x10000 * p + 8 * r) = true →
    s.getb (F.GRT_WIN_STS_READY p) = true → r < (s.win p).rings →
    (i < (s.win p).depth → ringDist (s.win p).depth (s.ring p r).head (s.ring p r).tail ≤ ringDist (s.win p).depth (s.ring p r).head i →
      Does (.cmdDoorbell q p r i) s [.wins] [] (fun t => t.ring p r = { s.ring p r with tail := i } ∧ ∀ j, j ≠ r → t.ring p j = s.ring p j)) ∧
    ((s.win p).depth ≤ i → Gives (.cmdDoorbell q p r i) s (fun t => t.getb (F.GRT_WIN_ERR_DB_RANGE p) = true ∧ t.wins = s.wins))) ∧
  (∀ (s : State) (q : Req) (p r i : Nat), p < 2 → s.md ≠ mBanked → s.writable q (R.GRT_CPL_DB + 0x10000 * p + 8 * r) = true →
    s.getb (F.GRT_WIN_STS_READY p) = true → r < (s.win p).rings → i < (s.win p).depth →
    ringDist (s.win p).depth (s.ring p r).chead i ≤ ringDist (s.win p).depth (s.ring p r).chead (s.ring p r).post →
    Does (.cplDoorbell q p r i) s [.wins] [] (fun t => t.ring p r = { s.ring p r with chead := i })) ∧
  (∀ (s : State) (q : Req) (p i : Nat) (f : Flag), p < 2 → s.md ≠ mBanked → s.writable q (R.GRT_DONE_DB + 0x10000 * p) = true →
    s.getb (F.GRT_WIN_STS_READY p) = true → i < (s.win p).slots → s.bareDdr = true →
    (s.win p).doneq = [] → f = s.flag p i → f.state = 4 →
    (f.accepts (s.flagWord p i) = true →
      Gives (.doneDoorbell q p ⟨i, false⟩) s (fun t => t.flag p i = { gen := f.gen } ∧ (t.win p).freeOrder = (s.win p).freeOrder.filter (· != i) ++ [i])) ∧
    (f.accepts (s.flagWord p i) = false →
      Gives (.doneDoorbell q p ⟨i, false⟩) s (fun t => t.flag p i = f ∧ t.getb (F.GRT_WIN_ERR_PROTO p) = true ∧
        t.get (F.GRT_PROTO_CNT_COUNT p) = min (s.get (F.GRT_PROTO_CNT_COUNT p) + 1) 0xFFFFFFFF)) ∧
    (s.bel.cmds = [] → Gives (.doneDoorbell q p ⟨i, true⟩) s (fun t => (t.flag p i).state = 7 ∧ (t.flag p i).code = 0x0A ∧
      t.getb (F.GRT_WIN_ERR_DATA_FAULT p) = true))))

/-- It is the turn of command ring `r` of port `p`, the first command in flight; its packet `b` is readable, and nothing stops commands. -/
def OnePacket (s : State) (p r : Nat) (b : Bytes) : Prop :=
  s.turnOf p (ringMember r) = true ∧ s.md ≠ mBanked ∧ s.writeStopped = false ∧ s.bel.cmds = [] ∧ s.getb F.BEL_STS_SANITIZING = false ∧
  s.bel.sanitizeFail = false ∧ s.bareDdr = true ∧
  b = s.winBytes p (s.get (F.GRT_OFF_CRING_OFFSET p) + (r * (s.win p).depth + (s.ring p r).head) * 64) 64

/-- The command completed at once with the window status: its entry waits for its completion ring, the command ring's head moved past it (R88). -/
def RingCompleted (p r status : Nat) (b : Bytes) (s t : State) : Prop :=
  t.bel.cmds = [] ∧ (t.ring p r).head = ((s.ring p r).head + 1) % (s.win p).depth ∧ (t.ring p r).waiting = (s.ring p r).waiting ++
    [{ tag := leAt b 2 2, status, notice := false, overrun := false, slotValid := false, chead := ((s.ring p r).head + 1) % (s.win p).depth,
       slot := 0, count := 0, seq := 0, atime := s.now, irq := bit (leAt b 1 1) 0 }]

/-- The command is in flight and waits for a slot. -/
def WaitsForSlot (p r seq : Nat) (kind : CmdKind) (b : Bytes) (s t : State) : Prop :=
  (t.ring p r).head = ((s.ring p r).head + 1) % (s.win p).depth ∧ ∃ c, t.bel.cmds = [c] ∧ c.id = s.bel.nextId ∧ c.ring = true ∧ c.kind = kind ∧
    c.cid = leAt b 2 2 ∧ c.stage = .waitSlot ∧ c.atime = s.now ∧ c.seq = seq

/-- How command packets are fetched and slots move.
The model's choices it rests on: log entries 27, 41, 132 and 145. -/
def Obligations.PacketsAndSlots : Prop :=
  /- R84-R86, R91, R445: a packet is fetched in its ring's turn: NOP, an opcode of no row and a FLUSH with nothing in flight complete at once; READ, WRITE and
REPL_GET wait for a slot, the WRITE with its sequence; DEALLOCATE posts its record; one that DDR cannot return completes with DATA_FAULT (R590). -/
  (∀ (s : State) (p r : Nat) (b : Bytes), OnePacket s p r b →
    (leAt b 0 1 = 0 → Does (.winNop p ⟨r, false⟩) s [.bel, .ports, .wins] [] (RingCompleted p r 0 b s)) ∧
    (5 ≤ leAt b 0 1 → leAt b 0 1 ≠ 0x20 → Does (.winNop p ⟨r, false⟩) s [.bel, .ports, .wins] [] (RingCompleted p r 1 b s)) ∧
    Gives (.winNop p ⟨r, true⟩) s (fun t => t.getb (F.GRT_WIN_ERR_DATA_FAULT p) = true ∧ t.bel.cmds = [] ∧
      (t.ring p r).head = ((s.ring p r).head + 1) % (s.win p).depth ∧ (t.ring p r).waiting = (s.ring p r).waiting ++
        [{ tag := 0, status := 0x0A, notice := false, overrun := false, slotValid := false, chead := ((s.ring p r).head + 1) % (s.win p).depth,
           slot := 0, count := 0, seq := 0, atime := s.now, irq := false }]) ∧
    (leAt b 0 1 = 3 → Does (.winFlush p ⟨r, false⟩) s [.bel, .ports, .wins] [] (RingCompleted p r 0 b s)) ∧
    (leAt b 0 1 = 0x20 → leAt b 16 4 % 4096 = 0 → leAt b 16 4 ≤ (s.win p).slotSize → 16 ≤ leAt b 20 1 →
      Does (.replGet p ⟨r, false⟩) s [.bel, .ports, .wins] [] (WaitsForSlot p r 0 .replGet b s)) ∧
    (Usable s p (leAt b 4 2) → 0 < leAt b 16 4 → leAt b 16 4 % 4096 = 0 → leAt b 8 8 + leAt b 16 4 / 4096 ≤ (s.vol (leAt b 4 2)).size →
      (leAt b 0 1 = 2 → leAt b 16 4 ≤ (s.win p).slotSize → (s.chooseStove (s.program (leAt b 4 2) (leAt b 6 2)) 1).isSome = true →
        Does (.winRead p ⟨r, false⟩) s [.bel, .ports, .wins] [] (WaitsForSlot p r 0 .read b s)) ∧
      (leAt b 0 1 = 1 → leAt b 16 4 ≤ (s.win p).slotSize → CanWrite s → s.dirty + leAt b 16 4 ≤ s.bound →
        (s.chooseStove (s.program (leAt b 4 2) (leAt b 6 2)) 0).isSome = true →
        Does (.winWrite p ⟨r, false⟩) s [.bel, .ports, .wins] [] (WaitsForSlot p r s.bel.seqNext .write b s)) ∧
      (leAt b 0 1 = 4 → CanWrite s →
        Gives (.winDeallocate p ⟨r, false⟩) s (fun t => ∃ x ∈ t.jnl.recs ++ t.jnl.waiting, x.type = 2 ∧ x.seq = s.bel.seqNext ∧ x.vol = leAt b 4 2 ∧
          x.lba = leAt b 8 8 ∧ x.len = leAt b 16 4)))) ∧
  /- R79-R83, R90-R93, R98, R100: the oldest waiting command takes the slot free longest, a WRITE's enters XRDY with a notice; delivered data goes to its
grates, or is rejected when it is short; read data enters its slot, which becomes RDATA with the completion; a slot too long in XRDY aborts, one whose
data fails becomes FAULT; a completion is written into its ring while that has room. -/
  ((∀ (s : State) (p i : Nat) (c : Cmd) (rest : List Nat), p < 2 → s.getb (F.GRT_WIN_STS_READY p) = true → s.bel.cmds = [c] → c.ring = true →
    c.foreign = none → c.port = p → c.stage = .waitSlot → (s.win p).freeOrder = i :: rest → i ∉ rest → (s.flag p i).state = 0 →
    (c.kind = .write → Gives (.slotAssign p) s (fun t =>
      t.flag p i = { state := 2, gen := ((s.flag p i).gen + 1) % 256, code := 0, count := c.len, tag := c.cid } ∧ (t.win p).freeOrder = rest ∧
      t.bel.cmds = [{ c with slot := i, stage := .slotHost }] ∧ Tab.find (t.win p).xrdyAt i = some s.cyc ∧
      ∃ e, (t.ring p c.queue).waiting = (s.ring p c.queue).waiting ++ [e] ∧ e.notice = true ∧ e.slot = i ∧ e.tag = c.cid ∧ e.slotValid = true)) ∧
    (c.kind = .replGet → NoneWait s → Gives (.slotAssign p) s (fun t =>
      t.flag p i = { state := 1, gen := ((s.flag p i).gen + 1) % 256, code := 0, count := 0, tag := c.cid } ∧
      t.bel.cmds = [{ c with slot := i, stage := .reading }]))) ∧
  (∀ (s : State) (p i : Nat) (c : Cmd) (f : Flag), p < 2 → s.getb (F.GRT_WIN_STS_READY p) = true → s.bel.cmds = [c] → s.slotCmd p i = some c →
    f = s.flag p i → s.bareDdr = true →
    (f.state = 3 → 0 < f.count → f.count < c.len → f.count ≤ (s.win p).slotSize →
      Gives (.slotConsume p i) s (fun t => (t.flag p i).state = 0 ∧ t.bel.cmds = [] ∧
        ∃ e, (t.ring p c.queue).waiting = (s.ring p c.queue).waiting ++ [e] ∧ e.status = 6 ∧ e.tag = c.cid)) ∧
    (∀ g m, f.state = 3 → c.kind = .write → c.len = 4096 → f.count = 4096 → 4096 ≤ (s.win p).slotSize → s.gratesOf (cmdUser c.id) = [g] → 0 < c.seq →
      c.away = false → s.program c.vol c.pgm < 65536 → s.chooseStove (s.program c.vol c.pgm) 0 = some m → (s.stove m).queue.length < 256 →
      Gives (.slotConsume p i) s (fun t => (t.flag p i).state = 0 ∧ Tab.readBytes t.grates (4096 * g) 4096 = s.winBytes p (s.slotOff p i) 4096 ∧
        ∃ r ∈ t.jnl.recs ++ t.jnl.waiting, r.type = 1 ∧ r.seq = c.seq ∧ r.lba = c.lba)) ∧
    (f.state = 1 → (s.win p).writeFail = [] → c.kind = .read → c.stage = .staged → c.payload ≠ [] → c.payload.length < 2 ^ 24 →
      s.get (F.GRT_OFF_FLAG_OFFSET p) + 64 * i + 8 ≤ s.slotOff p i →
      Gives (.slotRdata p i none) s (fun t => t.flag p i = { state := 4, gen := f.gen, code := 0, count := c.payload.length, tag := c.cid } ∧
        t.winBytes p (s.slotOff p i) c.payload.length = c.payload ∧ t.bel.cmds = [] ∧
        ∃ e, (t.ring p c.queue).waiting = (s.ring p c.queue).waiting ++ [e] ∧ e.status = 0 ∧ e.slot = c.slot ∧ e.slotValid = true ∧
          e.count = c.payload.length))) ∧
  (∀ (s : State) (p i a : Nat), p < 2 → s.getb (F.GRT_WIN_STS_READY p) = true → i < (s.win p).slots → s.bel.cmds = [] → s.bareDdr = true →
    (Tab.find (s.win p).xrdyAt i = some a → (s.flag p i).state = 2 → s.get (F.GRT_SLOT_TO_TIMEOUT p) ≠ 0 →
      a + us (s.get (F.GRT_SLOT_TO_TIMEOUT p)) ≤ s.cyc → s.flagWord p i = (s.flag p i).word → (s.flag p i).accepts (s.flagWord p i) = false →
      Gives (.slotTimeout p ⟨i, false⟩) s (fun t => (t.flag p i).state = 6 ∧ (t.flag p i).code = 9 ∧ t.getb (F.GRT_WIN_ERR_SLOT_TO p) = true)) ∧
    ((s.flag p i).state = 1 → i ∈ (s.win p).writeFail →
      Gives (.slotDataFault p i none) s (fun t => (t.flag p i).state = 7 ∧ (t.flag p i).code = 0x0A ∧ t.getb (F.GRT_WIN_ERR_DATA_FAULT p) = true))) ∧
  (∀ (s : State) (p r off : Nat) (x : Ring) (e : RingCpl) (es : List RingCpl), p < 2 → s.getb (F.GRT_WIN_STS_READY p) = true → x = s.ring p r →
    x.waiting = e :: es → (x.post + 1) % (s.win p).depth ≠ x.chead → e.irq = false → s.bareDdr = true →
    off = s.get (F.GRT_OFF_CPL_OFFSET p) + (r * (s.win p).depth + x.post) * 32 →
    Does (.ringCompletionPost p r) s [.wins, .ddr, .ports] [] (fun t => t.winBytes p off 32 = e.bytes x.phase ∧
      t.ring p r = { x with waiting := es, post := (x.post + 1) % (s.win p).depth,
                            phase := if x.post + 1 = (s.win p).depth then !x.phase else x.phase })))

/-! ### Host ports (ch. 02) -/

/-- A port-reach reset has been done to port `p` (R70-R72): its link is down, in training unless a source, its domain, PORT_EN or Kindling holds it, its
controller and configuration are cleared, and the device forgets what the host held and its IDE keys. -/
def PortWasReset (p ltssm : Nat) (t : State) : Prop :=
  t.getb (F.HST_LINK_STS_DL_UP p) = false ∧ t.get (F.HST_LINK_STS_LTSSM p) = ltssm ∧ t.getb (F.HST_LINK_STS_CACHE_ON p) = false ∧
  t.getb (F.HST_LINK_STS_MEM_ON p) = false ∧ (t.port p).filter = [] ∧ (t.port p).snoops = [] ∧ (t.port p).lines = [] ∧ (t.port p).cxl = false ∧
  (t.port p).committed = false ∧ (t.port p).ready = false ∧ (t.port p).msix = [] ∧ (t.port p).msixEnable = false ∧ (t.port p).ideKeys = [] ∧
  t.getb (F.HST_LINK_STS_IDE_SEC p) = false ∧ (t.ctrl p).en = false ∧ (t.ctrl p).rdy = false ∧ (t.ctrl p).sqs = []

/-- How host links train and fail, and what resets a port.
The model's choices it rests on: log entries 22, 28, 32, 128 and 148. -/
def Obligations.HostLinks : Prop :=
  /- R40-R44, R54, R55, R65, R66, R68, R69, R75: a port that may train reaches L0 with its rate, width and flit mode, and CXL.mem with 256-byte flits where
the window is enabled; out of L1 or L2 it resumes, and DOWNTRAIN is set only by a rate or width that changed; so in a Recovery; a GPF phase is acknowledged and does
nothing else; a stream is secure with its key and mode; a link that leaves L0 for L1 or L2 keeps its controller; a ready function shows its identity and BARs. -/
  ((∀ (s : State) (p rate width flit : Nat), p < 2 → 0 < rate → rate < 8 → width ∈ [1, 2, 4, 8, 16] → flit < 4 → s.idleLtssm p = 1 → s.linkL0 p = false →
    (s.get (F.HST_LINK_STS_LTSSM p) ≠ 5 →
      Gives (.hostLinkUp p rate width flit) s (fun t => t.get (F.HST_LINK_STS_LTSSM p) = 3 ∧ t.get (F.HST_LINK_STS_RATE p) = rate ∧
        t.get (F.HST_LINK_STS_WIDTH p) = width ∧ t.get (F.HST_LINK_STS_FLIT p) = flit ∧ t.getb (F.HST_LINK_STS_DL_UP p) = true ∧
        (t.port p).cxl = decide (flit ≠ 3) ∧
        ((t.port p).memNeg = true ↔ (flit = 1 ∨ flit = 2) ∧ s.get (F.GRT_WIN_CFG_SIZE p) ≠ 0 ∧ s.getb (F.HST_CTL_WIN_EN p) = true) ∧
        (flit ≠ 3 → (t.port p).range1 = min 128 (s.get (F.GRT_WIN_CFG_SIZE p)) * 2 ^ 28) ∧
        (rate ≠ 6 ∨ width ≠ 16 → t.getb (F.HST_ERR_DOWNTRAIN p) = true))) ∧
    (s.get (F.HST_LINK_STS_LTSSM p) = 5 →
      Gives (.hostLinkUp p rate width flit) s (fun t => t.get (F.HST_LINK_STS_LTSSM p) = 3 ∧ t.get (F.HST_LINK_STS_RATE p) = rate ∧
        t.get (F.HST_LINK_STS_WIDTH p) = width ∧ t.port p = { s.port p with msixPend := (t.port p).msixPend } ∧
        (s.get (F.HST_LINK_STS_RATE p) = rate → s.get (F.HST_LINK_STS_WIDTH p) = width →
          t.getb (F.HST_ERR_DOWNTRAIN p) = s.getb (F.HST_ERR_DOWNTRAIN p))))) ∧
  (∀ (s : State) (p rate width : Nat), p < 2 → 0 < rate → rate < 8 → width ∈ [1, 2, 4, 8, 16] → s.linkL0 p = true →
    ((rate = 6 ∧ width = 16) ∨ (s.get (F.HST_LINK_STS_RATE p) = rate ∧ s.get (F.HST_LINK_STS_WIDTH p) = width) →
      Does (.hostLinkRecovery p rate width) s [] [F.HST_LINK_STS_RATE p, F.HST_LINK_STS_WIDTH p] (fun t =>
        t.get (F.HST_LINK_STS_RATE p) = rate ∧ t.get (F.HST_LINK_STS_WIDTH p) = width)) ∧
    (rate ≠ 6 ∨ width ≠ 16 → s.get (F.HST_LINK_STS_RATE p) ≠ rate ∨ s.get (F.HST_LINK_STS_WIDTH p) ≠ width →
      Does (.hostLinkRecovery p rate width) s logParts (logFlds ++ [F.HST_LINK_STS_RATE p, F.HST_LINK_STS_WIDTH p, F.HST_ERR_DOWNTRAIN p]) (fun t =>
        t.getb (F.HST_ERR_DOWNTRAIN p) = true ∧ t.get (F.HST_LINK_STS_RATE p) = rate ∧ t.get (F.HST_LINK_STS_WIDTH p) = width ∧ Staged 0x0621 [p] s t))) ∧
  (∀ (s : State) (p phase : Nat), s.linkL0 p = true → (s.port p).cxl = true →
    Does (.gpf ⟨p, phase⟩) s [.out] [] (fun t => t.out = .gpfAck p phase :: s.out)) ∧
  (∀ (s : State) (p : Nat) (mem skid : Bool) (key : Bytes), p < 2 → s.linkL0 p = true → key.length = 32 →
    Does (.ideKeyProgram p ⟨mem, skid⟩ key) s [.ports] [F.HST_LINK_STS_IDE_SEC p] (fun t =>
      Tab.find (t.port p).ideKeys (if mem then 1 else 0) = some key ∧ (if mem then (t.port p).ideMemSkid else (t.port p).ideIoSkid) = skid ∧
      (if mem then (t.port p).ideIoSkid else (t.port p).ideMemSkid) = (if mem then (s.port p).ideIoSkid else (s.port p).ideMemSkid) ∧
      (t.getb (F.HST_LINK_STS_IDE_SEC p) = true ↔ if mem then (s.port p).ideIo = true else (s.port p).ideMem = true))) ∧
  (∀ (s : State) (p : Nat), p < 2 → s.linkL0 p = true →
    Gives (.hostLinkL1L2 p) s (fun t => t.get (F.HST_LINK_STS_LTSSM p) = 5 ∧ (t.ctrl p).en = (s.ctrl p).en ∧ (t.ctrl p).sqs = (s.ctrl p).sqs ∧
      (p = 0 → t.getb F.TICK_STS_PTM_OK = false))) ∧
  (∀ (s : State) (p : Nat) (cache ptm msix mask : Bool), p < 2 → s.linkL0 p = true → (s.port p).lines = [] →
    (p = 0 → (s.port 0).ptmEnable = true → ptm = true) →
    Does (.functionReady p cache ptm msix mask) s [.ports, .out] [F.HST_LINK_STS_CACHE_ON p] (fun t => (t.port p).ready = true ∧
      (t.port p).msixEnable = msix ∧ (t.port p).msixMask = mask ∧ (t.port p).ptmEnable = (ptm && p == 0) ∧
      (t.getb (F.HST_LINK_STS_CACHE_ON p) = true ↔ (s.port p).cacheNeg = true ∧ cache = true ∧ s.getb (F.HST_CTL_CACHE_EN p) = true) ∧
      ∃ f : Function, t.out = .function p f :: s.out ∧ f.vendor = 0x1D7A ∧ f.device = 0x7160 ∧ f.subVendor = 0x1D7A ∧ f.subDevice = 0x7160 ∧ f.cls = 0x010802 ∧
        f.bars = [⟨0x10000, true, false⟩, ⟨0x4000000, true, false⟩, ⟨0x100000, true, false⟩] ∧ f.memCapable = (s.port p).memCapable ∧
        f.range1 = (s.port p).range1 ∧ f.range2 = 0)) ∧
  (∀ (s : State) (cache msix mask : Bool), s.linkL0 0 = true → (s.port 0).ptmEnable = true →
    Gives (.functionReady 0 cache false msix mask) s (fun t => (t.port 0).ptmEnable = false ∧ t.getb F.TICK_STS_PTM_OK = false))) ∧
  /- R45, R59, R66, R69-R74: viral, an IDE failure, a link that goes down, a hot reset, a CXL reset, PERST_N for 100 ns or more and PORT_EN 0 reset the
port, the first two with their error bit; PERST_N held before the port's domain is released holds the port after it; a PERST_N release starts training
where nothing else holds the port; a function-level reset and CC.EN 0 clear the controller and leave the link; CC.EN 1 makes it ready with its admin queues. -/
  ((∀ (s : State) (p : Nat), p < 2 → (s.port p).rst = [] →
    (s.linkL0 p = true →
      Gives (.viralReceived p) s (fun t => PortWasReset p (s.idleLtssm p) t ∧ t.getb (F.HST_ERR_VIRAL p) = true ∧ t.getb (F.HST_ERR_LINK_DOWN p) = true) ∧
      ((s.port p).ideIo = true ∨ (s.port p).ideMem = true →
        Gives (.ideFail p) s (fun t => PortWasReset p (s.idleLtssm p) t ∧ t.getb (F.HST_ERR_IDE_FAIL p) = true ∧ t.getb (F.HST_ERR_LINK_DOWN p) = true)) ∧
      Gives (.hostLinkDown p) s (fun t => PortWasReset p (s.idleLtssm p) t ∧ t.getb (F.HST_ERR_LINK_DOWN p) = true) ∧
      Gives (.hotReset p) s (PortWasReset p (s.idleLtssm p)) ∧
      ((s.port p).cxl = true → Gives (.cxlReset p) s (PortWasReset p (s.idleLtssm p)))) ∧
    (∀ ns, 100 ≤ ns →
      (s.released (dHst p) = true → Gives (.hostPerst p ns) s (fun t => PortWasReset p 0 t ∧ (t.port p).rst = [.perst])) ∧
      (s.released (dHst p) = false → Does (.hostPerst p ns) s [.ports] [] (fun t => t.port p = { s.port p with rst := [.perst] }))) ∧
    (∀ ns, ns < 100 → Does (.hostPerst p ns) s [] [] (fun t => t = s)) ∧
    (∀ r v, s.writable r (R.HST_CTL + 0x100000 * p) = true → s.getb (F.HST_CTL_PORT_EN p) = true →
      Gives (.portEnWrite r p v) s (fun t => PortWasReset p 0 t ∧ (t.port p).rst = [.portEn] ∧ t.getb (F.HST_CTL_PORT_EN p) = false))) ∧
  (∀ (s : State) (p : Nat), p < 2 → (s.port p).rst = [.perst] →
    Does (.portResetRelease p) s [.ports] [F.HST_LINK_STS_LTSSM p] (fun t => (t.port p).rst = [] ∧ (t.port p).relAt = s.cyc ∧
      (s.released (dHst p) = true → s.getb (F.HST_CTL_PORT_EN p) = true → s.getb F.KDL_STS_HOLD = false → p ∉ s.kdl.off →
        t.get (F.HST_LINK_STS_LTSSM p) = 1) ∧
      (s.released (dHst p) = false ∨ s.getb (F.HST_CTL_PORT_EN p) = false ∨ s.getb F.KDL_STS_HOLD = true → t.get (F.HST_LINK_STS_LTSSM p) = 0))) ∧
  (∀ (s : State) (p : Nat), p < 2 → s.linkL0 p = true →
    Gives (.flr p) s (fun t => (t.ctrl p).en = false ∧ (t.ctrl p).sqs = [] ∧ (t.port p).msix = [] ∧ (t.port p).msixEnable = false ∧
      (t.port p).ptmEnable = false ∧ (p = 0 → (s.port 0).ptmEnable = true → t.getb F.TICK_STS_PTM_OK = false) ∧
      (t.port p).filter = (s.port p).filter ∧ t.get (F.HST_LINK_STS_LTSSM p) = 3) ∧
    ((s.ctrl p).en = true → Gives (.ccEnClear p) s (fun t => (t.ctrl p).en = false ∧ (t.ctrl p).rdy = false ∧ (t.ctrl p).sqs = [] ∧
      (t.ctrl p).cqs = [] ∧ (t.port p).msix = (s.port p).msix ∧ t.get (F.HST_LINK_STS_LTSSM p) = 3)) ∧
    (∀ ams asqs acqs, (s.port p).ready = true → (s.ctrl p).en = false →
      Does (.ccEnSet p ams asqs acqs) s [.bel] [] (fun t => (t.ctrl p).en = true ∧ (t.ctrl p).rdy = true ∧ (t.ctrl p).ams = ams ∧
        (t.ctrl p).sqs = [(0, { size := max 2 asqs, prio := 0 })] ∧ (t.ctrl p).cqs = [(0, { size := max 2 acqs })]))))

/-- R47, R49-R53: the decoder commits at one way within range 1, else it does not; a host request to the window is served from its DDR backing and
tracked, waits for the eviction of the oldest line where the filter is full, or is unsupported without a decoder and beyond it; a line DDR cannot return is poisoned; a
write of part of a line changes its bytes alone and leaves the poison; a BIRsp ends its snoop with the line's write-back and lets the waiting device
write go on; a snoop is sent again after HST_BI_TO, and the second time its line is dropped, poisoned where the device meant to read it; Bellows drops a queue line.
The model's choices it rests on: log entries 29 and 30. -/
def Obligations.CoherentWindow : Prop :=
  (∀ (s : State) (p base size ways : Nat), p < 2 → s.linkL0 p = true → (s.port p).cxl = true →
    (size ≤ (s.port p).range1 → ways = 1 → Does (.hdmCommit p base size ways) s [.ports] [F.HST_LINK_STS_MEM_ON p] (fun t =>
      (t.port p).committed = true ∧ (t.port p).commitErr = false ∧ (t.port p).hdmBase = base ∧ (t.port p).hdmSize = size ∧
      (t.getb (F.HST_LINK_STS_MEM_ON p) = true ↔ (s.port p).memNeg = true ∧ s.getb (F.GRT_WIN_STS_RESETTING p) = false))) ∧
    ((s.port p).range1 < size ∨ ways ≠ 1 → Does (.hdmCommit p base size ways) s [.ports] [F.HST_LINK_STS_MEM_ON p] (fun t =>
      (t.port p).committed = false ∧ (t.port p).commitErr = true ∧ t.getb (F.HST_LINK_STS_MEM_ON p) = false))) ∧
  (∀ (s : State) (p line : Nat), p < 2 → s.linkL0 p = true → s.md ≠ mBanked → s.bareIch = true →
    (s.memServed p = true → 64 * line < (s.port p).hdmSize → (s.port p).filter.length < 1048576 →
      (line ∉ (s.port p).poison → Does (.hostMemRequest p line none true false) s [.ports, .out] [] (fun t =>
        t.out = .memData p line (some (s.winBytes p (64 * line) 64)) :: s.out ∧ line ∈ (t.port p).filter)) ∧
      (line ∈ (s.port p).poison → Does (.hostMemRequest p line none true false) s [.ports, .out] [] (fun t =>
        t.out = .memData p line none :: s.out ∧ line ∈ (t.port p).filter)) ∧
      Does (.hostMemRequest p line none true true) s [.ports, .out] [] (fun t => t.out = .memData p line none :: s.out ∧ line ∈ (t.port p).poison) ∧
      (∀ (o : Nat) (b : Bytes), o + b.length ≤ 64 → o < 64 →
        Does (.hostMemRequest p line (some (o, b)) false false) s [.ports, .out, .ddr] [] (fun t =>
          t.out = .memDone p line :: s.out ∧ t.winBytes p (64 * line + o) b.length = b ∧ line ∉ (t.port p).filter ∧
          (b.length = 64 → line ∉ (t.port p).poison) ∧ (b.length < 64 → (t.port p).poison = (s.port p).poison) ∧
          ∀ a, (a < (s.port p).backing + 64 * line + o ∨ (s.port p).backing + 64 * line + o + b.length ≤ a) → Tab.getB t.ddr a = Tab.getB s.ddr a))) ∧
    (∀ old rest, s.memServed p = true → 64 * line < (s.port p).hdmSize → 1048576 ≤ (s.port p).filter.length → s.tracked p line = false →
      (s.port p).filter = old :: rest → (s.port p).snoops.any (fun x => x.line == old) = false →
      Does (.hostMemRequest p line none true false) s [.ports, .out] [] (fun t => t.out = .bisnp p old true :: s.out ∧ (t.port p).filter = (s.port p).filter ∧
        (t.port p).snoops = (s.port p).snoops ++ [{ line := old, inv := true, sentAt := s.cyc, host := [⟨line, none, true, false⟩] }])) ∧
    (s.memServed p = false ∨ (s.port p).hdmSize ≤ 64 * line →
      Does (.hostMemRequest p line none true false) s [.out] [] (fun t => t.out = .memUnsupported p line :: s.out))) ∧
  (∀ (s : State) (p line : Nat) (x : Snoop) (w : DevWrite) (b : Bytes), p < 2 → (s.port p).snoops = [x] → x.line = line → x.inv = true → x.host = [] →
    (s.port p).devq = [w] → w.irq = none → linesIn w.off w.bytes.length = [line] → (s.port p).filter = [line] → (s.win p).doneq = [] → s.agentq = [] →
    s.bareIch = true → (s.port 0).poison = [] → (s.port 1).poison = [] → b.length = 64 → w.bytes ≠ [] →
    Does (.birsp p line (some b) false) s [.ports, .ddr] [] (fun t => (t.port p).snoops = [] ∧ (t.port p).filter = [] ∧ (t.port p).devq = [] ∧
      t.winBytes p w.off w.bytes.length = w.bytes ∧
      (∀ a, 64 * line ≤ a → a < 64 * line + 64 → a < w.off ∨ w.off + w.bytes.length ≤ a →
        Tab.getB t.ddr ((s.port p).backing + a) = b.getD (a - 64 * line) 0#8) ∧
      ∀ a, (a < (s.port p).backing + 64 * line ∨ (s.port p).backing + 64 * line + 64 ≤ a) → Tab.getB t.ddr a = Tab.getB s.ddr a)) ∧
  (∀ (s : State) (p line : Nat) (x : Snoop), p < 2 → (s.port p).snoops = [x] → x.line = line →
    x.sentAt + us (max 1 (s.get (F.HST_BI_TO_TIMEOUT p))) ≤ s.cyc →
    (x.again = false → Does (.biTimeout p line) s [.ports, .out] [] (fun t => t.out = .bisnp p line x.inv :: s.out ∧
      (t.port p).snoops = [{ x with again := true, sentAt := s.cyc }])) ∧
    (x.again = true → x.host = [] → (s.port p).devq = [] → (s.win p).doneq = [] → s.agentq = [] →
      Gives (.biTimeout p line) s (fun t => (t.port p).snoops = [] ∧ line ∉ (t.port p).filter ∧ (x.rd = true → line ∈ (t.port p).poison) ∧
        (x.rd = false → (t.port p).poison = (s.port p).poison) ∧
        (∀ slot, x.wr = true → s.dataSlot p line = some slot → slot ∈ (t.win p).writeFail) ∧ t.getb (F.HST_ERR_BI_TO p) = true))) ∧
  (∀ (s : State) (p key : Nat), p < 2 → Does (.hostLineInvalidate p key) s [.ports] [] (fun t =>
    (∀ l ∈ (t.port p).lines, l.1 ≠ key) ∧ ∀ l ∈ (s.port p).lines, l.1 ≠ key → l ∈ (t.port p).lines))

/-! ### Admin commands (ch. 04) -/

/-- The admin queue of port `p` has its turn. -/
def AdminTurn (s : State) (p : Nat) (x : SubQ) (y : CplQ) : Prop :=
  p < 2 ∧ s.turnOf p 0 = true ∧ s.md ≠ mBanked ∧ s.bel.sanitizeFail = false ∧ Tab.find (s.ctrl p).sqs 0 = some x ∧
  Tab.find (s.ctrl p).cqs x.cq = some y

/-- The admin command has been fetched and has completed. -/
def AdminDone (p cid sct sc dw0 : Nat) (x : SubQ) (y : CplQ) (t : State) : Prop :=
  Tab.find (t.ctrl p).sqs 0 = some { x with head := (x.head + 1) % x.size } ∧ Tab.find (t.ctrl p).cqs x.cq =
    some { y with waiting := y.waiting ++ [{ cid, sq := 0, sqHead := (x.head + 1) % x.size, sct, sc, dw0 }] }

/-- The admin command has answered with the bytes `b` and completed. -/
def AdminGave (p cid len : Nat) (x : SubQ) (y : CplQ) (P : Bytes → Prop) (s t : State) : Prop :=
  AdminDone p cid 0 0 0 x y t ∧ ∃ b o, t.out = .adminData p cid b :: o ∧ (s.getb (F.HST_LINK_STS_CACHE_ON p) = false → o = s.out) ∧
    (len ≠ 0 → b.length = len) ∧ P b

/-- How admin commands are carried out.
The model's choices it rests on: log entries 8, 18, 33, 34 and 130. -/
def Obligations.AdminCommands : Prop :=
  /- R64, R106, R107, R125-R127: Abort ends a command that holds no grate with 0x07 and says so in Dword 0; Set Features takes the burst and weights, or a
power state up to 2, of which PS2 on every port begins Banked entry and its completion waits; Get Features returns them and the 4,096 queue pairs; queues are
created and deleted; any other command passes to firmware. -/
  (∀ (s : State) (p cid : Nat) (x : SubQ) (y : CplQ), AdminTurn s p x y →
    (∀ (q target : Nat) (c : Cmd) (x2 : SubQ) (y2 : CplQ), s.bel.cmds = [c] → c.ring = false → c.foreign = none → c.dead = false → c.port = p →
      c.queue = q → c.cid = target → s.gratesOf (cmdUser c.id) = [] → c.posted = false → c.stage ≠ .forwarded → q ≠ 0 →
      Tab.find (s.ctrl p).sqs q = some x2 → Tab.find (s.ctrl p).cqs x2.cq = some y2 → x2.cq ≠ x.cq →
      Does (.abort p cid q target) s (fetchParts s p ++ [.pool]) [] (fun t => t.bel.cmds = [] ∧ AdminDone p cid 0 0 0 x y t ∧ Tab.find (t.ctrl p).cqs x2.cq =
        some { y2 with waiting := y2.waiting ++ [{ cid := target, sq := q, sqHead := x2.head, sct := 0, sc := 7, dw0 := 0 }] })) ∧
    (∀ q target, s.bel.cmds = [] → Does (.abort p cid q target) s (fetchParts s p) [] (AdminDone p cid 0 0 1 x y)) ∧
    (∀ ab lpw mpw hpw, Does (.setFeaturesArbitration p cid ab lpw mpw hpw) s (fetchParts s p) [] (fun t => AdminDone p cid 0 0 0 x y t ∧
      (t.ctrl p).burst = ab ∧ (t.ctrl p).lpw = lpw ∧ (t.ctrl p).mpw = mpw ∧ (t.ctrl p).hpw = hpw)) ∧
    (∀ ps, ps < 2 → s.linkL0 p = true → Gives (.setFeaturesPower p cid ps) s (fun t => AdminDone p cid 0 0 0 x y t ∧ (t.ctrl p).ps = ps)) ∧
    (∀ ps, 2 < ps → Does (.setFeaturesPower p cid ps) s (fetchParts s p) [] (AdminDone p cid 0 2 0 x y)) ∧
    (s.linkL0 p = true → s.wantedPs (1 - p) = 2 → s.md = mDuplex ∨ s.md = mSolo → s.mode.bankedEntry = false → s.get F.BEL_STS_HEAD_PS ≠ 2 →
      Gives (.setFeaturesPower p cid 2) s (fun t => (t.ctrl p).ps = 2 ∧ t.bel.psCpl = some (p, cid) ∧ t.mode.bankedEntry = true ∧
        t.getb F.BEL_STS_ENTERING = true ∧ t.get F.BEL_STS_HEAD_PS = 2)) ∧
    Does (.getFeatures p cid 1) s (fetchParts s p) [] (AdminDone p cid 0 0 ((s.ctrl p).burst % 8 + (s.ctrl p).lpw % 256 * 256 +
      (s.ctrl p).mpw % 256 * 65536 + (s.ctrl p).hpw % 256 * 16777216) x y) ∧
    Does (.getFeatures p cid 2) s (fetchParts s p) [] (AdminDone p cid 0 0 (s.ctrl p).ps x y) ∧
    Does (.getFeatures p cid 7) s (fetchParts s p) [] (AdminDone p cid 0 0 (4095 + 4095 * 65536) x y) ∧
    (∀ fid, fid ≠ 1 → fid ≠ 2 → fid ≠ 7 → Does (.getFeatures p cid fid) s (fetchParts s p) [] (fun t =>
      t.bel.admin = s.bel.admin ++ [{ port := p, cid, op := 0x0A, vol := 0 }] ∧ Tab.find (t.ctrl p).cqs x.cq = some y)) ∧
    (∀ qid size vector irq, vector ≤ 2039 → 0 < qid → qid ≤ 4096 → Tab.find (s.ctrl p).cqs qid = none → 2 ≤ size → size ≤ 65536 →
      Does (.createIoCq p cid qid size vector irq) s (fetchParts s p) [] (fun t => AdminDone p cid 0 0 0 x y t ∧
        Tab.find (t.ctrl p).cqs qid = some { size, vector, irq })) ∧
    (∀ qid size vector irq, 2039 < vector → Does (.createIoCq p cid qid size vector irq) s (fetchParts s p) [] (AdminDone p cid 1 8 0 x y)) ∧
    (∀ qid size prio c z, 0 < qid → qid ≤ 4096 → Tab.find (s.ctrl p).sqs qid = none → c ≠ 0 → Tab.find (s.ctrl p).cqs c = some z → 2 ≤ size →
      size ≤ 65536 →
      Does (.adminCommand p cid 1 qid size c prio) s (fetchParts s p) [] (fun t => AdminDone p cid 0 0 0 x y t ∧
        Tab.find (t.ctrl p).sqs qid = some { size, cq := c, prio })) ∧
    (∀ qid size prio c z, qid ≠ 0 → Tab.find (s.ctrl p).sqs qid = some z →
      Does (.adminCommand p cid 0 qid size c prio) s (fetchParts s p) [] (fun t => AdminDone p cid 0 0 0 x y t ∧ Tab.find (t.ctrl p).sqs qid = none)) ∧
    (∀ qid size prio c z, qid ≠ 0 → Tab.find (s.ctrl p).cqs qid = some z → (∀ e ∈ (s.ctrl p).sqs, e.2.cq ≠ qid) →
      Does (.adminCommand p cid 4 qid size c prio) s (fetchParts s p) [] (fun t => AdminDone p cid 0 0 0 x y t ∧ Tab.find (t.ctrl p).cqs qid = none)) ∧
    (∀ op qid size cqid prio, 4 < op → Does (.adminCommand p cid op qid size cqid prio) s (fetchParts s p) [] (fun t =>
      t.bel.admin = s.bel.admin ++ [{ port := p, cid, op, vol := 16384 }] ∧ Tab.find (t.ctrl p).cqs x.cq = some y))) ∧
  /- R54, R58, R59, R61, R122, R123, R126, R129, R132, R134: Identify Controller gives the vendor, CNTLID 1 + 2 x HEAD + port, MDTS 9, 16,384 namespaces, the
power states and no autonomous transition, Identify Namespace a volume's size, group and one LBA format; the ANA log gives the states the controller reports, the
Sanitize log the progress; a create takes the lowest free volume for firmware to size, and its completion makes it present with NSID one above its index, unless the
size breaks R122. Bytes the spec does not state are free values. -/
  ((∀ (s : State) (p cid : Nat) (x : SubQ) (y : CplQ), AdminTurn s p x y →
    (∀ nsid, Does (.identify p cid 1 nsid) s (fetchParts s p ++ [.out, .free]) [] (fun t => t.freeCtr = s.freeCtr + 4096 ∧
      AdminGave p cid 4096 x y (fun b => leAt b 0 2 = 0x1D7A ∧ leAt b 2 2 = 0x1D7A ∧ leAt b 77 1 = 9 ∧ leAt b 78 2 = (1 + 2 * s.head + p) % 65536 ∧
        leAt b 516 4 = 16384 ∧ leAt b 263 1 = 2 ∧ leAt b 265 1 = 0 ∧ leAt b 96 1 / 2 % 2 = 0 ∧ leAt b 328 4 = 3 ∧ leAt b 344 4 = 2 ∧ leAt b 2048 2 = 17500 ∧
        leAt b 2080 2 = 12000 ∧ leAt b 2112 2 = 2200) s t)) ∧
    (∀ nsid, nsid ≠ 0 → (s.vol (nsid - 1)).present = true → Does (.identify p cid 0 nsid) s (fetchParts s p ++ [.out, .free]) [] (fun t =>
      AdminGave p cid 4096 x y (fun b => leAt b 0 8 = (s.vol (nsid - 1)).size % 2 ^ 64 ∧ leAt b 25 1 = 0 ∧ leAt b 92 4 = (1 + (s.vol (nsid - 1)).owner) % 2 ^ 32 ∧
        leAt b 128 2 = 0 ∧ leAt b 130 1 = 12) s t)) ∧
    Does (.getLogPage p cid 0x0C) s (fetchParts s p ++ [.out, .free]) [] (fun t =>
      AdminGave p cid 0 x y (fun b => leAt b 8 2 = 2 ∧ leAt b 16 4 = 1 ∧
        leAt b 32 1 = (if (s.ctrl p).ana1 = 0 then 3 else (s.ctrl p).ana1 % 256)) s t) ∧
    Does (.getLogPage p cid 0x81) s (fetchParts s p ++ [.out, .free]) [] (fun t =>
      AdminGave p cid 512 x y (fun b => leAt b 0 2 = s.sprog % 65536 ∧ leAt b 2 1 = s.bel.sanStatus % 256) s t) ∧
    (∀ v, s.freeVol 16384 0 = some v →
      Does (.nsCreate p cid) s (fetchParts s p) [] (fun t => t.bel.admin = s.bel.admin ++ [{ port := p, cid, op := 0x0D, vol := v }] ∧
        (t.vol v).present = false ∧ (t.vol v).owner = s.head ∧ (t.vol v).size = 0 ∧ ∀ w, w ≠ v → t.vol w = s.vol w))) ∧
  (∀ (s : State) (v : Nat) (a : AdminCmd) (x : SubQ) (y : CplQ), s.bel.admin = [a] → a.op = 0x0D → a.vol = v →
    Tab.find (s.ctrl a.port).sqs 0 = some x → Tab.find (s.ctrl a.port).cqs x.cq = some y →
    ((s.vol v).size % 262144 = 0 → 262144 ≤ (s.vol v).size → (s.vol v).size ≤ 2 ^ 38 → s.sizeSum + (s.vol v).size ≤ 2 ^ 44 →
      Does (.nsCreateComplete v 0 0) s [.bel] [] (fun t => t.vol v = { s.vol v with present := true, home := (s.vol v).owner } ∧ t.bel.admin = [] ∧
        Tab.find (t.ctrl a.port).cqs x.cq =
          some { y with waiting := y.waiting ++ [{ cid := a.cid, sq := 0, sqHead := x.head, sct := 0, sc := 0, dw0 := v + 1 }] })) ∧
    ((s.vol v).size % 262144 ≠ 0 →
      Does (.nsCreateComplete v 0 0) s [.bel] [] (fun t => (t.vol v).present = false ∧ Tab.find (t.ctrl a.port).cqs x.cq =
        some { y with waiting := y.waiting ++ [{ cid := a.cid, sq := 0, sqHead := x.head, sct := 1, sc := 0x0A, dw0 := 0 }] }))))

/-- R130-R136, R315, R474: a Sanitize records itself and takes Duplex and Solo to Sweep; software keys a strand uses hold its first step back, without one the keys, the
index and the maps are gone at once, and a block erase goes out to every drive; it is done when its last step is, and the head returns. A Format empties
its volumes' maps at once, destroying their domain's key for a cryptographic erase, and its volumes come back when its work is done.
The model's choices it rests on: log entries 35, 54, 119 and 131. -/
def Obligations.SanitizeAndFormat : Prop :=
  (∀ (s : State) (p cid : Nat) (ndas : Bool) (x : SubQ) (y : CplQ), AdminTurn s p x y → s.getb F.BEL_STS_SANITIZING = false →
    s.md = mDuplex ∨ s.md = mSolo →
    let Started (kind : Nat) (t : State) : Prop := AdminDone p cid 0 0 0 x y t ∧ t.getb F.BEL_STS_SANITIZING = true ∧ t.md = mSweep ∧
      t.mode.sweepFrom = s.md ∧ t.prog 0 0 = kind ∧ t.prog 0 1 = 1 + (if ndas then 2 else 0) ∧ t.prog 0 3 = s.now ∧
      (s.stoves = [] → t.pair 0 = some [kind, 1 + (if ndas then 2 else 0), 0xFFFFFFFF, s.now, 2 ^ 44 / 127 + 1, 0, kind, 0x8000] ∧ t.ddx.maps = [] ∧
        ∀ n k, Tab.find t.keys.slots n = some k → n < 16) ∧
      ((∃ n v k, (n, v) ∈ s.stoves ∧ k < 4 ∧ v.usesSoft k = true) → t.prog 0 6 = 0 ∧ t.keys.erase = some s.cyc ∧ t.ddx.maps = s.ddx.maps ∧
        t.keys.slots = s.keys.slots)
    Gives (.sanitizeCryptoErase p cid ndas true) s (Started 1) ∧
    Gives (.sanitizeBlockErase p cid ndas true) s (fun t => Started 2 t ∧
      (s.stoves = [] → ∀ d z, Tab.find s.drv.drives d = some z → z.online = true → .drive d 7 0 0 0 [] ∈ t.out))) ∧
  (∀ (s : State) (ok : Bool), s.getb F.BEL_STS_SANITIZING = true → s.keys.erase = none → s.qphase ≠ 2 → s.md = mSweep →
    s.mode.sweepFrom = mDuplex ∨ s.mode.sweepFrom = mSolo → s.mode.soloAfterSweep = false → 1 ≤ s.prog 0 6 → (s.prog 0 6 = 1 → s.prog 0 4 ≠ 0) →
    ((ok = true → s.sanDone = true) →
      Gives (.sanitizeDone ok) s (fun t => t.getb F.BEL_STS_SANITIZING = false ∧ t.bel.sanitizeFail = !ok ∧ t.md = s.mode.sweepFrom ∧
        t.inProgress 0 = false)) ∧
    (ok = true → s.sanDone = false → Does (.sanitizeDone ok) s [] [] (fun t => t = s))) ∧
  (∀ (s : State) (p cid nsid k : Nat) (x : SubQ) (y : CplQ), AdminTurn s p x y → s.getb F.BEL_STS_SANITIZING = false → nsid ≠ 0 → nsid ≤ 16384 →
    (s.vol (nsid - 1)).present = true → (s.vol (nsid - 1)).format = 0 → s.freePair = some k →
    let Begun (kind : Nat) (t : State) : Prop := AdminDone p cid 0 0 0 x y t ∧ (t.vol (nsid - 1)).format = k ∧
      (∀ lba, t.mapAt (nsid - 1) lba = MapEntry.zero) ∧ (∀ v lba, v < 16384 → v ≠ nsid - 1 → t.mapAt v lba = s.mapAt v lba) ∧
      t.prog k 0 = kind ∧ t.prog k 6 = 1 ∧ t.prog k 2 = nsid
    Gives (.format p cid nsid 0) s (Begun 3) ∧ Gives (.format p cid nsid 1) s (Begun 4) ∧
    ((∀ e ∈ s.bel.vols, e.1 ≠ nsid - 1 → e.2.present = true → e.2.domain ≠ (s.vol (nsid - 1)).domain) →
      Gives (.formatCryptoErase p cid nsid) s (fun t => Begun 5 t ∧ Tab.find t.keys.slots (Config.domainSlot (s.vol (nsid - 1)).domain) =
        if 16 ≤ Config.domainSlot (s.vol (nsid - 1)).domain then none
        else Tab.find s.keys.slots (Config.domainSlot (s.vol (nsid - 1)).domain)))) ∧
  (∀ (s : State) (k : Nat), k ≠ 0 → s.inProgress k = true → Tab.getD s.ddx.oldMaps k [] = [] →
    Gives (.formatDone k) s (fun t => t.inProgress k = false ∧ (∀ v, (s.vol v).format = k → (t.vol v).format = 0) ∧ Staged 0x0F05 [] s t))

/-! ### Operating modes (ch. 17) -/

/-- The fields every transition writes (R474), with what its event can change. -/
def transFlds : List Fld := [F.GLB_MODE_MODE, F.GLB_MODE_PREV, F.GLB_TRANS_CNT_COUNT] ++ logFlds

/-- A transition from `a` to `b` (R474): the mode and the previous mode, the GLB interrupt, and the count of transitions. -/
def Transits (a b : Nat) (s t : State) : Prop :=
  t.md = b ∧ t.get F.GLB_MODE_PREV = a ∧ t.hrt.glbPend = true ∧
  t.get F.GLB_TRANS_CNT_COUNT = min (s.get F.GLB_TRANS_CNT_COUNT + 1) (2 ^ 32 - 1)

/-- A request through GLB_MODE_REQ that the head examines (R480): it reaches the register, none is being executed and no Quench runs. -/
def asksMode (s : State) (r : Req) : Bool :=
  s.writable r R.GLB_MODE_REQ && !s.getb F.GLB_MODE_REQ_BUSY && s.qphase == 0

/-- The fields of a request (R480). -/
def reqFlds : List Fld := [F.GLB_MODE_REQ_FORCE, F.GLB_MODE_REQ_TARGET, F.GLB_MODE_REQ_RESULT]

/-- How the head changes its mode.
The model's choices it rests on: log entries 93, 94 and 95. -/
def Obligations.ModesChange : Prop :=
  /- R475, R477, R480: TARGET Joining sets WAITING once recovery and resumption have ended, and with the partner's byte the head leaves Kindling for the
mode of the table; a forced Solo writes MIRROR first and takes over; Sweep is entered once recovery has ended. A request that is not in the table, whose
MODES bit is clear or whose condition does not hold changes nothing but RESULT and is recorded. -/
  ((∀ (s : State) (r : Req), asksMode s r = true → s.md = mKindling → s.recovered = true →
    (s.getb F.GLB_MODE_WAITING = false → (∀ k < 32, s.inProgress k = false) →
      (s.session = false ∨ s.mode.partnerByte = none →
        Does (.leaveKindlingReq r) s [.irqPend, .out] (F.GLB_MODE_WAITING :: reqFlds) (fun t => t.getb F.GLB_MODE_WAITING = true ∧ t.get F.GLB_MODE_REQ_RESULT = 0)) ∧
      (∀ b, s.session = true → s.mode.partnerByte = some b → s.jnl.recs = [] →
        (b % 16 = mSolo → s.modeAllowed mJoining = true →
          Gives (.leaveKindlingReq r) s (fun t => Transits 1 2 s t ∧ t.getb F.GLB_MODE_WAITING = false ∧ t.and.halves = 0 ∧
            t.bitOf F.DDX_STS_REBUILD s.head = true)) ∧
        (b % 64 = 0x11 → s.getb F.GLB_MODE_UNMIRRORED = false →
          Gives (.leaveKindlingReq r) s (fun t => Transits 1 3 s t ∧ t.and.halves = 2 ^ s.head)) ∧
        (b % 64 = 0x31 → s.getb F.GLB_MODE_UNMIRRORED = false →
          Gives (.leaveKindlingReq r) s (fun t => t.md = 1 ∧ t.getb F.GLB_MODE_WAITING = true)))) ∧
    (s.modeAllowed mSweep = true →
      Does (.sweepReq r) s (.glbPend :: logParts) (F.GLB_MODE_WAITING :: transFlds ++ reqFlds)
        (fun t => Transits 1 6 s t ∧ Staged 0x0F10 [1, 6, 3] s t ∧ t.get F.GLB_MODE_REQ_RESULT = 0))) ∧
  (∀ (s : State) (r : Req), asksMode s r = true → s.md = mKindling → s.getb F.GLB_MODE_WAITING = true → s.session = false →
    s.modeAllowed mSolo = true → s.jnl.recs = [] → s.anyDrive = true →
    Gives (.forceSolo r) s (fun t => Transits 1 4 s t ∧ t.getb F.GLB_MODE_UNMIRRORED = true ∧ t.and.takeoverAt = some s.now ∧
      t.and.soloSeq = s.bel.seqNext ∧ t.crl.arbWait = true ∧ (s.soot.staged.length < 250 →
        ∃ rs, t.soot.staged = s.soot.staged ++ rs ∧ (rs.map (·.code)).take 2 = [0x0F12, 0x0F10]))) ∧
  (∀ (s : State) (r : Req), s.writable r R.GLB_MODE_REQ = true → s.getb F.GLB_MODE_REQ_BUSY = false →
    let Refused (c : Instr) (target result : Nat) : Prop := Does c s logParts (reqFlds ++ logFlds) (fun t =>
      t.get F.GLB_MODE_REQ_RESULT = result ∧ Staged 0x0F11 [target, result] s t)
    (s.qphase ≠ 0 → Refused (.sweepReq r) 6 4 ∧ Refused (.bankedReq r) 5 4) ∧
    (s.qphase = 0 → s.md = mDuplex → Refused (.sweepReq r) 6 2 ∧ Refused (.leaveKindlingReq r) 2 2 ∧ Refused (.forceSolo r) 4 2 ∧
      ∀ solo, Refused (.bankedExitReq r solo) (if solo then 4 else 3) 2) ∧
    (s.qphase = 0 → s.md = mDuplex → s.modeAllowed mBanked = false → Refused (.bankedReq r) 5 1) ∧
    (s.qphase = 0 → s.md = mKindling → s.modeAllowed mSweep = true → s.recovered = false → Refused (.sweepReq r) 6 3))) ∧
  /- R128, R129, R273, R476, R480, R481, R525, R526: a request for Banked begins its entry, which drains the merging buffer and ends when nothing is dirty, merging
or in flight: the head goes from its mode to Banked by transition 7 and CCH, STV and the spare are parked. In Banked a host's request to the window and an I/O
command wait, the command with its controller in PS0. A request for the mode it was entered from ends it, and the head comes back by
transition 8 with everything unparked. -/
  ((∀ (s : State) (r : Req), asksMode s r = true → s.md = mDuplex ∨ s.md = mSolo → s.modeAllowed mBanked = true → s.getb F.BEL_STS_SANITIZING = false →
    s.formats = 0 → s.mode.bankedEntry = false → s.ich.waiting = [] →
    Does (.bankedReq r) s [.mode, .ich, .ddr] (F.GLB_MODE_REQ_BUSY :: F.BEL_STS_ENTERING :: reqFlds) (fun t => t.getb F.GLB_MODE_REQ_BUSY = true ∧
      t.getb F.BEL_STS_ENTERING = true ∧ t.mode = { s.mode with bankedEntry := true } ∧ t.get F.GLB_MODE_REQ_RESULT = 0 ∧
      t.ich = { s.ich with wb := [] } ∧ (s.ich.wb = [] → t.ddr = s.ddr))) ∧
  (∀ (s : State) (p line : Nat) (w : Option (Nat × Bytes)) (track ecc : Bool), s.md = mBanked → s.linkL0 p = true →
    Does (.hostMemRequest p line w track ecc) s [.mode] [] (fun t => t.mode.held = s.mode.held ++ [.hostMemRequest p line w track ecc])) ∧
  (∀ (s : State) (p q cid nsid : Nat), p < 2 → q ≠ 0 → s.md = mBanked → s.portFetches p = true → s.sqVisible p q = true →
    Gives (.nvmeFlush p q cid nsid) s (fun t => (t.ctrl p).ps = 0 ∧ t.mode.held = s.mode.held ++ [.nvmeFlush p q cid nsid] ∧
      (s.linkL0 p = true → t.get F.BEL_STS_HEAD_PS = 0))) ∧
  (∀ (s : State), s.entryOver = true → s.otherSlots = [] →
    Gives .bankedEntryEnd s (fun t => Transits s.md 5 s t ∧ t.mode.bankedFrom = s.md ∧ t.mode.bankedEntry = false ∧
      t.getb F.BEL_STS_ENTERING = false ∧ t.getb F.GLB_MODE_REQ_BUSY = false ∧ t.bitOf F.DMP_STS_PARKED 0 = true ∧ t.bitOf F.DMP_STS_PARKED 1 = true ∧
      (s.get F.AND_STS_SPARE ≠ 15 → t.bitOf F.DMP_STS_PARKED 3 = true) ∧ t.bel.psCpl = none)) ∧
  (∀ (s : State), s.entryOver = false → exec .bankedEntryEnd s = .next s) ∧
  (∀ (s : State) (r : Req) (solo : Bool), asksMode s r = true → s.md = mBanked → s.mode.bankedFrom = (if solo then mSolo else mDuplex) →
    Does (.bankedExitReq r solo) s [.mode] (F.GLB_MODE_REQ_BUSY :: reqFlds) (fun t => t.mode = { s.mode with exitWanted := true } ∧
      t.getb F.GLB_MODE_REQ_BUSY = true)) ∧
  (∀ (s : State), s.md = mBanked → s.mode.bankedFrom = mDuplex ∨ s.mode.bankedFrom = mSolo → s.qphase ≠ 2 → s.mode.exitWanted = true → s.mode.held = [] → s.tick.heldCuts = [] → s.otherSlots = [] →
    Gives .bankedExit s (fun t => Transits 5 s.mode.bankedFrom s t ∧ t.getb F.GLB_MODE_REQ_BUSY = false ∧ t.bitOf F.DMP_STS_PARKED 0 = false ∧
      t.bitOf F.DMP_STS_PARKED 1 = false ∧ t.bitOf F.DMP_STS_PARKED 3 = false ∧ t.mode.exitWanted = false ∧ t.mode.bankedFrom = 0 ∧
      t.freeCtr = s.freeCtr + 1)) ∧
  (∀ (s : State), s.md ≠ mBanked → exec .bankedExit s = .next s))

/-! ### Creterlink: the link, its frames and its session (ch. 14) -/

/-- With the link down a message waits in frames: the message of the type, header, sealed body and tag (R399, R400), is queued behind what waits. -/
def Queues (vc mtype : Nat) (body : Bytes) (s t : State) : Prop :=
  t.crl.txq = s.crl.txq ++ msgFrames vc none none (((s.crlMessage vc mtype body).length + 255) / 256) true (s.crlMessage vc mtype body)

/-- A message of the type is the oldest that waits on its channel, in `n` frames. -/
def Arrived (s : State) (vc mtype n : Nat) (m : Bytes) (rest : List (Nat × Nat × Bytes)) : Prop :=
  s.released dCrl = true ∧ s.crl.inbox = (vc, n, m) :: rest ∧ leAt m 0 1 = mtype

/-- It opens under the session's key, and the mode lets its channel be processed (R398, R400, R476). -/
def Opened (s : State) (vc mtype n : Nat) (m : Bytes) (rest : List (Nat × Nat × Bytes)) (body : Bytes) : Prop :=
  Arrived s vc mtype n m rest ∧ s.crlOpen m = some body ∧ (vc = 0 ∨ vc = 2 → s.md ≠ mBanked ∧ s.qphase ≠ 2)

/-- The message is gone from the inbox and the frames of its channel are freed (R397). -/
def Taken (vc n : Nat) (rest : List (Nat × Nat × Bytes)) (s t : State) : Prop :=
  t.crl.inbox = rest ∧ (vc < 5 → Tab.getN t.crl.rxFreed vc = (Tab.getN s.crl.rxFreed vc + n) % 1024)

/-- The fields a link that goes down writes (R395). -/
def downFlds : List Fld := [F.CRL_STS_LINK_UP, F.CRL_STS_WIDTH, F.CRL_STS_LANES_UP, F.CRL_ERR_LINK_DOWN, F.GLB_FAULT_CRL] ++ logFlds

/-- The link is down (R395). -/
def LinkDown (t : State) : Prop :=
  t.getb F.CRL_STS_LINK_UP = false ∧ t.get F.CRL_STS_WIDTH = 0 ∧ t.get F.CRL_STS_LANES_UP = 0 ∧ t.getb F.CRL_ERR_LINK_DOWN = true ∧
  t.bitOf F.GLB_FAULT_CRL 0 = true

/-- A good frame of a KIND reaches the head with its link up; nothing waits to be sent, and no mirror message holds grates. -/
def GoodFrame (s : State) (kind : Nat) (b : Bytes) : Prop :=
  s.getb F.CRL_STS_LINK_UP = true ∧ frameCorrupt b = false ∧ fKind b = kind ∧ s.crl.txq = [] ∧ ∀ e ∈ s.pool.held, e.2.chan ≠ 3

/-- How frames are coded on the lanes, accepted, refused and replayed.
The model's choices it rests on: log entries 73, 75 and 152. -/
def Obligations.FramesAreExchanged : Prop :=
  /- R388-R394, R397, R399, R402: a good frame counts its corrected codewords, acknowledges what its ACK covers and carries credit; a DATA frame in
sequence is accepted, and one that holds a whole message puts it where it waits; one already accepted is dropped; a corrupt one, and one with a bit in an uncorrectable
codeword, which is counted, is discarded with one NAK; a NAK sends every held frame again, and so does REPLAY_TO, until REPLAY_MAX takes the link down. -/
  ((∀ (s : State) (b : Bytes) (corr : Nat), GoodFrame s 0 b →
    Does (.idleFrame b corr none) s [.crl] [F.CRL_FEC_CORR_COUNT] (fun t =>
      t.get F.CRL_FEC_CORR_COUNT = (s.get F.CRL_FEC_CORR_COUNT + corr) % 2 ^ 64 ∧
      t.crl.replay = s.crl.replay.filter (fun f => !acks (fAck b) f.seq) ∧ t.crl.frameAt = s.cyc ∧
      (bits (fFc b) 11 3 < 5 → Tab.getN t.crl.freed (bits (fFc b) 11 3) = bits (fFc b) 14 10))) ∧
  (∀ (s : State) (b p : Bytes) (corr : Nat), GoodFrame s 1 b → fSeq b = s.get F.CRL_SEQ_RX_EXP → p = slice b 10 (fLen b) →
    bit (fFc b) 9 = true → bit (fFc b) 10 = true → 16 ≤ p.length → leAt p 4 4 = p.length → mlenOk (leAt p 0 1) p.length = true →
    fVc b < 5 → s.session = true → Tab.find s.crl.opened (fVc b) = none →
    Does (.dataFrame b corr none) s [.crl] [F.CRL_FEC_CORR_COUNT, F.CRL_SEQ_RX_EXP, F.CRL_RX_BYTES_COUNT] (fun t =>
      t.crl.inbox = s.crl.inbox ++ [(fVc b, 1, p)] ∧ t.get F.CRL_SEQ_RX_EXP = (fSeq b + 1) % 2 ^ 24 ∧ t.crl.lastAck = fSeq b ∧
      t.get F.CRL_RX_BYTES_COUNT = (s.get F.CRL_RX_BYTES_COUNT + p.length) % 2 ^ 64)) ∧
  (∀ (s : State) (b : Bytes) (corr : Nat), GoodFrame s 1 b → fSeq b ≠ s.get F.CRL_SEQ_RX_EXP →
    (s.get F.CRL_SEQ_RX_EXP + 2 ^ 24 - fSeq b) % 2 ^ 24 < 2 ^ 23 →
    Does (.dataFrame b corr none) s [.crl] [F.CRL_FEC_CORR_COUNT] (fun t => t.crl.inbox = s.crl.inbox ∧ t.crl.opened = s.crl.opened)) ∧
  (∀ (s : State) (b : Bytes) (corr : Nat), s.getb F.CRL_STS_LINK_UP = true → frameCorrupt b = true → s.crl.nakAt = none → s.crl.sinceIdle < 2047 →
    let Naks (t : State) : Prop := t.crl.nakAt = some s.cyc ∧ t.crl.inbox = s.crl.inbox ∧ t.crl.replay = s.crl.replay ∧
      ∃ v n, t.out = .frame (frameBytes 2 0 0 s.crl.lastAck false false v n []) :: s.out
    Does (.dataFrame b corr none) s [.crl, .out] [F.CRL_FEC_CORR_COUNT] Naks ∧ Does (.idleFrame b corr none) s [.crl, .out] [F.CRL_FEC_CORR_COUNT] Naks ∧
    Does (.nakFrame b corr none) s [.crl, .out] [F.CRL_FEC_CORR_COUNT] Naks) ∧
  (∀ (s : State) (b : Bytes) (corr n : Nat), s.getb F.CRL_STS_LINK_UP = true → s.crl.nakAt = none → s.crl.sinceIdle < 2047 → 0 < n →
    Does (.dataFrame b corr (some n)) s (.crl :: logParts) (F.CRL_FEC_CORR_COUNT :: F.CRL_FEC_UNC_COUNT :: F.CRL_ERR_FEC_UNC :: logFlds) (fun t =>
      t.crl.nakAt = some s.cyc ∧ t.crl.inbox = s.crl.inbox ∧ t.crl.opened = s.crl.opened ∧ t.getb F.CRL_ERR_FEC_UNC = true ∧
      t.get F.CRL_FEC_UNC_COUNT = min (s.get F.CRL_FEC_UNC_COUNT + n) 0xFFFFFFFF ∧ ∃ v k, t.out.head? =
        some (.frame (frameBytes 2 0 0 s.crl.lastAck false false v k [])))) ∧
  (∀ (s : State) (b : Bytes) (corr : Nat), GoodFrame s 2 b → s.crl.replay ≠ [] → (∀ f ∈ s.crl.replay, acks (fAck b) f.seq = false) →
    s.crl.replays + 1 < max 1 (s.get F.CRL_TIMERS_REPLAY_MAX) →
    Does (.nakFrame b corr none) s [.crl, .out] [F.CRL_FEC_CORR_COUNT, F.CRL_REPLAY_CNT_COUNT] (fun t => t.crl.replay = s.crl.replay ∧
      t.crl.replays = s.crl.replays + 1 ∧ t.crl.replayAt = s.cyc ∧
      t.get F.CRL_REPLAY_CNT_COUNT = min (s.get F.CRL_REPLAY_CNT_COUNT + s.crl.replay.length) 0xFFFFFFFF)) ∧
  (∀ (s : State), s.getb F.CRL_STS_LINK_UP = true → s.crl.replay ≠ [] → s.crl.replayAt + 10 * max 1 (s.get F.CRL_TIMERS_REPLAY_TO) ≤ s.cyc →
    (s.crl.replays + 1 < max 1 (s.get F.CRL_TIMERS_REPLAY_MAX) →
      Does .replayTimeout s [.crl, .out] [F.CRL_REPLAY_CNT_COUNT] (fun t => t.crl.replay = s.crl.replay ∧ t.crl.replays = s.crl.replays + 1 ∧
        t.crl.replayAt = s.cyc)) ∧
    (max 1 (s.get F.CRL_TIMERS_REPLAY_MAX) ≤ s.crl.replays + 1 →
      Does .replayTimeout s (.crl :: .glbPend :: logParts) (F.CRL_REPLAY_CNT_COUNT :: F.CRL_ERR_REPLAY_LIM :: downFlds) (fun t =>
        LinkDown t ∧ t.getb F.CRL_ERR_REPLAY_LIM = true ∧ t.crl.replays = 0 ∧ t.crl.replay = s.crl.replay)))) ∧
  /- R387: the receiver's descrambler gives back what the sender scrambled, and from the 59th bit on it does so whatever 58 bits it started with. A codeword
is its 514 symbols of message, then 30 of parity; each 5,140 bits of the stream fill one, and codeword `c` goes on logical lane `c` mod the width. -/
  ((∀ past bits : List Bool, (scramble past bits).length = bits.length ∧ descramble past (scramble past bits) = bits) ∧
  (∀ past other bits : List Bool, (descramble other (scramble past bits)).drop 58 = bits.drop 58) ∧
  (∀ m : List Nat, (rsCodeword m).length = m.length + 30 ∧ (rsCodeword m).take m.length = m) ∧
  (∀ (seed : List Bool) (frames : List Bytes), (codewords seed frames).length = 8 * (frames.map List.length).sum / 5140) ∧
  ∀ (w j i : Nat) (cs : List (List Nat)), 0 < w → j < w → (laneCodewords w j cs)[i]? = cs[w * i + j]?)

/-- The body of the HELLO a head sends (R403). -/
def helloBody (s : State) : Bytes :=
  leBytes 2 1 ++ [BitVec.ofNat 8 s.head, BitVec.ofNat 8 (b2n s.keys.aroot.isSome)] ++ leBytes 4 s.crl.genOwn ++ slice s.jnl.cur 32 8 ++
  s.crl.nonceOwn ++ leBytes 8 s.now ++
  [BitVec.ofNat 8 (s.qphase % 4 * 64 + b2n (s.getb F.GLB_MODE_UNMIRRORED) * 32 + b2n (s.getb F.GLB_MODE_WAITING) * 16 + s.md % 16),
   BitVec.ofNat 8 (s.get F.TICK_CTL_SRC)] ++ zeroBytes 6

/-- How the Creterlink and its sessions come and go.
The model's choices it rests on: log entries 72, 76 and 85. -/
def Obligations.LinkAndSessions : Prop :=
  /- R385, R386, R395, R406: the link comes up at the widest width of 16, 8, 4, 2 and 1 that the lanes of both heads allow, and a session that is up goes
on; it goes down, with the session kept, when a lane loses lock or no good frame comes for LINK_TO; EN written 0 ends the session too. -/
  ((∀ (s : State) (lanes partner w : Nat), s.released dCrl = true → s.getb F.CRL_CTL_EN = true → s.getb F.CRL_STS_LINK_UP = false → s.lostDue = false →
    w = crlWidth (min (lanesIn (Nat.land lanes (leAt s.jnl.cur 40 2))) partner) → w ≠ 0 → s.session = true → s.crl.replay = [] → s.crl.txq = [] →
    Does (.crlLinkTrain lanes partner) s (.crl :: .glbPend :: logParts) ([F.CRL_STS_LINK_UP, F.CRL_STS_WIDTH, F.CRL_STS_LANES_UP, F.GLB_FAULT_CRL] ++ logFlds)
      (fun t => t.getb F.CRL_STS_LINK_UP = true ∧ t.get F.CRL_STS_WIDTH = w ∧
        t.get F.CRL_STS_LANES_UP = lowLanes (Nat.land lanes (leAt s.jnl.cur 40 2)) w ∧ t.bitOf F.GLB_FAULT_CRL 0 = false ∧ t.crl.frameAt = s.cyc)) ∧
  (∀ (s : State) (lanes partner w : Nat), s.released dCrl = true → s.getb F.CRL_CTL_EN = true → s.getb F.CRL_STS_LINK_UP = false → s.lostDue = false →
    w = crlWidth (min (lanesIn (Nat.land lanes (leAt s.jnl.cur 40 2))) partner) → w ≠ 0 → s.session = false →
    Gives (.crlLinkTrain lanes partner) s (fun t => t.getb F.CRL_STS_LINK_UP = true ∧ t.get F.CRL_STS_WIDTH = w ∧ t.crl.hello = none ∧
      t.crl.refused = false ∧ t.crl.helloAt = s.cyc ∧ t.crl.genOwn = Tab.getN s.keys.gens 1 ∧ t.freeCtr = s.freeCtr + 16)) ∧
  (∀ (s : State) (lanes partner : Nat), s.getb F.CRL_CTL_EN = false ∨ Nat.land lanes (leAt s.jnl.cur 40 2) = 0 ∨ partner = 0 →
    exec (.crlLinkTrain lanes partner) s = .next s) ∧
  (∀ (s : State) (lane : Nat), s.getb F.CRL_STS_LINK_UP = true →
    (s.bitOf F.CRL_STS_LANES_UP lane = true → Does (.laneLockLoss lane) s (.glbPend :: logParts) downFlds LinkDown) ∧
    (s.bitOf F.CRL_STS_LANES_UP lane = false → exec (.laneLockLoss lane) s = .next s)) ∧
  (∀ (s : State), s.getb F.CRL_STS_LINK_UP = true → s.crl.frameAt + 10 * max 1 (s.get F.CRL_TIMERS_LINK_TO) ≤ s.cyc →
    Does .linkTimeout s (.glbPend :: logParts) downFlds LinkDown) ∧
  (∀ (s : State) (r : Req) (value : Nat), s.writable r R.CRL_CTL = true →
    (bit value 0 = true ∨ s.getb F.CRL_CTL_EN = false → Does (.crlEnWrite r value) s [] [F.CRL_CTL_EN, F.CRL_CTL_ARB_DELAY] (fun t =>
      t.getb F.CRL_CTL_EN = bit value 0 ∧ t.get F.CRL_CTL_ARB_DELAY = bits value 16 16)) ∧
    (bit value 0 = false → s.getb F.CRL_CTL_EN = true → s.session = true → s.getb F.CRL_STS_LINK_UP = true → Gives (.crlEnWrite r value) s (fun t =>
      t.session = false ∧ LinkDown t ∧ t.crl.replay = [] ∧ t.crl.mirWait = [] ∧ t.crl.mirIn = [] ∧ t.mode.partnerByte = none)))) ∧
  /- R403-R406, R428: HELLO is sent again every millisecond until the partner's has come; one that passes the checks takes slot 1 to G and is answered by
PROOF, one that fails is refused with its REASON; the partner's MAC verified brings the session up with everything it counts started again, and the
head that is behind steps its AT; a MAC that differs is refused with REASON 5. A refusal that arrives changes nothing else. -/
  ((∀ (s : State), s.getb F.CRL_STS_LINK_UP = true → s.session = false → s.crl.refused = false → s.crl.hello = none → s.crl.helloAt + ms 1 ≤ s.cyc →
    s.crl.nonceOwn ≠ [] → s.crl.txq = [] → s.crl.replay = [] → s.crl.sinceIdle < 2047 → s.crl.nonceOwn.length = 16 →
    Does .helloRepeat s [.crl, .out] [F.CRL_SEQ_TX_NEXT, F.CRL_TX_BYTES_COUNT] (fun t => t.crl.helloAt = s.cyc ∧
      ∃ v n, t.out = .frame (frameBytes 1 7 (s.get F.CRL_SEQ_TX_NEXT) s.crl.lastAck true true v n
        ([0x60, 0, 0, 0] ++ leBytes 4 64 ++ zeroBytes 8 ++ helloBody s)) :: s.out)) ∧
  (∀ (s : State), s.getb F.CRL_STS_LINK_UP = true → s.session = false → s.crl.refused = true → s.crl.helloAt + sec 1 ≤ s.cyc →
    Gives .helloRepeat s (fun t => t.crl.helloAt = s.cyc ∧ (s.crl.nonceOwn = [] → t.freeCtr = s.freeCtr + 16 ∧ t.crl.genOwn = Tab.getN s.keys.gens 1))) ∧
  (∀ (s : State) (n : Nat) (m : Bytes) (rest : List (Nat × Nat × Bytes)), Arrived s 7 0x60 n m rest → s.session = true →
    Gives .hello s (fun t => t.session = false ∧ t.crl.endedByHello = true ∧ t.crl.mirWait = [] ∧ t.mode.partnerByte = none)) ∧
  (∀ (s : State) (n : Nat) (m : Bytes) (rest : List (Nat × Nat × Bytes)), Arrived s 7 0x60 n m rest → s.session = false → s.crl.nonceOwn ≠ [] →
    s.getb F.CRL_STS_LINK_UP = false →
    (s.crl.hello = none → slice m 24 8 = slice s.jnl.cur 32 8 → leAt m 18 1 = 1 - s.head → s.head < 2 → bit (leAt m 19 1) 0 = true →
      s.keys.aroot.isSome = true → leAt m 16 2 = 1 →
      Gives .hello s (fun t => t.crl.inbox = rest ∧ t.crl.gen = min (max s.crl.genOwn (leAt m 20 4) + 1) (2 ^ 32 - 1) ∧
        Tab.getN t.keys.gens 1 = t.crl.gen ∧ t.crl.hello.map (fun h => (h.head, h.nonce, h.mode, h.atime, h.arrived)) =
          some (leAt m 18 1, slice m 32 16, leAt m 56 1, leAt m 48 8, s.now) ∧
        Queues 7 0x61 (hmac256 (t.slotK1 1) (ascii "PROOF" ++ [BitVec.ofNat 8 s.head] ++
          (if s.head = 0 then s.crl.nonceOwn ++ slice m 32 16 else slice m 32 16 ++ s.crl.nonceOwn))) s t)) ∧
    (∀ x, x = s.helloReason (m.drop 16) → x ≠ 0 →
      Does .hello s (.crl :: logParts) ([F.CRL_STS_JOIN_FAIL, F.CRL_ERR_JOIN_REFUSED] ++ logFlds) (fun t => t.crl.inbox = rest ∧ t.crl.refused = true ∧
        t.get F.CRL_STS_JOIN_FAIL = x ∧ t.getb F.CRL_ERR_JOIN_REFUSED = true ∧ Queues 7 0x62 ([BitVec.ofNat 8 x] ++ zeroBytes 7) s t))) ∧
  (∀ (s : State) (n : Nat) (m : Bytes) (rest : List (Nat × Nat × Bytes)) (h : Hello), Arrived s 7 0x61 n m rest → s.crl.hello = some h →
    s.session = false →
    (slice m 16 32 = s.proofMac h.head h.nonce → s.md ≠ mKindling → s.bel.cmds = [] → s.ddx.fwd = [] → s.and.settling = [] →
      (s.get F.TICK_CTL_SRC ≠ 1 ∨ h.src ≠ 1) →
      Gives .proof s (fun t => t.session = true ∧ t.getb F.CRL_STS_LOST = false ∧ t.get F.CRL_STS_MISS = 0 ∧ t.get F.CRL_SEQ_TX_NEXT = 0 ∧
        t.get F.CRL_SEQ_RX_EXP = 0 ∧ t.crl.ivc = 1 ∧ t.crl.replay = [] ∧ t.crl.sent = [] ∧ t.crl.freed = [] ∧ t.mode.partnerByte = some h.mode ∧
        t.now = (if (h.atime : Int) + s.linkDly - h.arrived > s.get F.TICK_LIMITS_SKEW_MAX then
          s.now + ((h.atime : Int) + s.linkDly - h.arrived).toNat else s.now))) ∧
    (slice m 16 32 ≠ s.proofMac h.head h.nonce → s.getb F.CRL_STS_LINK_UP = false →
      Does .proof s (.crl :: logParts) ([F.CRL_STS_JOIN_FAIL, F.CRL_ERR_JOIN_REFUSED] ++ logFlds) (fun t => t.session = false ∧ t.crl.refused = true ∧
        t.get F.CRL_STS_JOIN_FAIL = 5))) ∧
  (∀ (s : State) (n : Nat) (m : Bytes) (rest : List (Nat × Nat × Bytes)), Arrived s 7 0x62 n m rest →
    Does .joinRefuse s [.crl] [] (fun t => t.crl = { s.crl with inbox := rest })))

/-! ### Creterlink: mirroring, forwarding and the requests of the partner (ch. 14) -/

/-- The fields a journal ring that gains or loses a record shows (R372). -/
def ringFlds : List Fld := [F.JNL_STS_STOP, F.JNL_STS_FREE, F.JNL_STS_LAP, F.JNL_PTR_HEAD, F.JNL_PTR_TAIL, F.JNL_ERR_STOP] ++ logFlds

/-- The head's answer to a mirror message (R401, R409). -/
def mcommitBody (origin seq status : Nat) : Bytes := leBytes 8 seq ++ [BitVec.ofNat 8 origin, BitVec.ofNat 8 status] ++ zeroBytes 6

/-- The journal unit can take a record of `lines` lines from the partner. -/
def RingTakes (s : State) (lines : Nat) : Prop :=
  s.getb F.JNL_STS_READY = true ∧ s.jnlStopped = false ∧ (s.place lines).isSome = true ∧ s.jnl.waiting = []

/-- With the link down the record's mirror message waits in frames: it holds the MIRO grate `g` that its frames take (R27, R407). -/
def MirQueued (r : JRec) (g : Nat) (s t : State) : Prop :=
  t.bel.nextId = s.bel.nextId + 1 ∧ t.crl.mirOut = [] ∧
  Tab.find t.pool.held g = some { chan := 3, journalled := false, atime := r.atime, user := mirUser s.bel.nextId } ∧
  t.crl.txq = s.crl.txq ++ msgFrames 0 none (some (mirUser s.bel.nextId)) (((s.crlMessage 0 2 r.bytes).length + 255) / 256) true (s.crlMessage 0 2 r.bytes)

/-- No MIRO grate is in use and one is free; the message of the record takes one. -/
def MirFits (r : JRec) (g : Nat) (s : State) : Prop :=
  s.crl.mirOut = [] ∧ s.canReserve 3 = true ∧ s.pool.waiting = [] ∧ s.freeGrate = some g ∧ s.gratesOf (mirUser s.bel.nextId) = [] ∧ mirGrates r.bytes = 1

/-- How mirror copies arrive and are answered.
The model's choices it rests on: log entries 12, 80, 81 and 82. -/
def Obligations.MirrorCopies : Prop :=
  /- R400, R407-R409, R412: a MIR_DATA takes MIRI grates and goes to program 0x0004 as an item of KIND 5; a MIR_REC whose PDIG agrees is written as a mirror
copy, one that does not is answered MISMATCH, one the head holds committed is answered OK again; a MIR_REF is checked against the payload of the
write the head forwarded, and answered REF_BAD when it does not match; a tag that fails discards the message. -/
  ((∀ (s : State) (n g : Nat) (m : Bytes) (rest : List (Nat × Nat × Bytes)), Arrived s 0 1 n m rest → s.mirOpen = true → s.md ≠ mBanked → s.qphase ≠ 2 →
    (∃ v, s.chooseStove 4 5 = some v ∧ (s.stove v).queue.length < 256) → mirGranules m = 1 → s.bel.cmds = [] → NoneWait s → s.canReserve 2 = true →
    s.freeGrate = some g → s.gratesOf (cmdUser s.bel.nextId) = [] →
    Gives .mirData s (fun t => Taken 0 n rest s t ∧ t.bel.nextId = s.bel.nextId + 1 ∧
      Tab.find t.crl.mirIn s.bel.nextId = some (m, true) ∧ Tab.find t.pool.held g =
        some { chan := 2, journalled := false, atime := (mirRec (s.plain m)).atime, user := cmdUser s.bel.nextId } ∧ t.freeCtr = s.freeCtr + 1 ∧
      ∃ v w, (t.stove v).queue = (s.stove v).queue ++ [w] ∧ w.kind = 5 ∧ w.pgm = 4 ∧ w.user = s.bel.nextId)) ∧
  (∀ (s : State) (n : Nat) (m body : Bytes) (rest : List (Nat × Nat × Bytes)) (r : JRec), Opened s 0 2 n m rest body → s.mirOpen = true →
    r = mirRec body →
    (s.rec? true r.origin r.seq = none → recDigestOk body = true → r.seq ≠ 0 → RingTakes s r.lines →
      Does .mirRec s ([.crl, .bel, .jnl] ++ logParts) ringFlds (fun t => Taken 0 n rest s t ∧ t.bel = { s.bel with nextId := s.bel.nextId + 1 } ∧
        ∃ x, t.jnl.recs = s.jnl.recs ++ [x] ∧ x = { r with mirror := true, tag := s.bel.nextId, line := x.line, lap := x.lap } ∧
          s.place r.lines = some (x.line, x.lap))) ∧
    (s.rec? true r.origin r.seq = none → recDigestOk body = false → s.session = true → s.getb F.CRL_STS_LINK_UP = false →
      Does .mirRec s [.crl] [] (fun t => Taken 0 n rest s t ∧ Queues 1 0x10 (mcommitBody r.origin r.seq 1) s t)) ∧
    (∀ old, s.rec? true r.origin r.seq = some old → old.committed = true → s.session = true → s.getb F.CRL_STS_LINK_UP = false →
      Does .mirRec s [.crl] [] (fun t => Taken 0 n rest s t ∧ Queues 1 0x10 (mcommitBody old.origin old.seq 0) s t)) ∧
    (∀ old, s.rec? true r.origin r.seq = some old → old.committed = false →
      Does .mirRec s [.crl] [] (fun t => Taken 0 n rest s t ∧ t.crl.txq = s.crl.txq))) ∧
  (∀ (s : State) (n : Nat) (m body : Bytes) (rest : List (Nat × Nat × Bytes)) (r : JRec), Opened s 0 3 n m rest body → s.mirOpen = true →
    r = mirRec body → s.rec? true r.origin r.seq = none →
    (∀ c, s.forwarded? (leAt body 128 8) = some c → c.kind = .write → (sha256 c.payload).take 16 = r.pdig → r.seq ≠ 0 → RingTakes s r.lines →
      Does .mirRef s ([.crl, .jnl] ++ logParts) ringFlds (fun t => Taken 0 n rest s t ∧
        Tab.find t.jnl.staging (recKey true r.origin r.seq) = some c.payload ∧
        ∃ x, t.jnl.recs = s.jnl.recs ++ [x] ∧ x = { r with mirror := true, tag := c.id, loc := c.list, line := x.line, lap := x.lap })) ∧
    (s.forwarded? (leAt body 128 8) = none → s.session = true → s.getb F.CRL_STS_LINK_UP = false →
      Does .mirRef s [.crl] [] (fun t => Taken 0 n rest s t ∧ Queues 1 0x10 (mcommitBody r.origin r.seq 4) s t))) ∧
  (∀ (s : State) (n : Nat) (m : Bytes) (rest : List (Nat × Nat × Bytes)), Arrived s 0 2 n m rest → s.mirOpen = true → s.md ≠ mBanked → s.qphase ≠ 2 →
    s.crlOpen m = none → Does .mirRec s (.crl :: logParts) (F.CRL_ERR_AUTH_FAIL :: logFlds) (fun t => Taken 0 n rest s t ∧
      t.getb F.CRL_ERR_AUTH_FAIL = true ∧ StagedMs 0x0409 0 [] s t))) ∧
  /- R27, R409-R411, R417: MCOMMIT OK of a command's last record lets it complete; any other STATUS is a compare failure, after which the record is sent again,
and RETRY + 1 of them in a row set PFAULT; a record whose MCOMMIT does not come within COMMIT_TO is sent again; a RETIRE entry retires its mirror
copy and frees its grates. -/
  ((∀ (s : State) (n : Nat) (m e : Bytes) (rest : List (Nat × Nat × Bytes)) (r : JRec) (w : MirWait), Opened s 1 0x10 n m rest e → e.length = 16 →
    s.rec? false (leAt e 8 1) (leAt e 0 8) = some r → Tab.find s.crl.mirWait r.key = some w →
    (leAt e 9 1 = 0 → r.type ≤ 2 → s.jnl.waiting = [] →
      (∀ x ∈ s.jnl.recs, x.mirror = false → x.type ≤ 2 → x.tag = r.tag → x.is false r.origin r.seq = true ∨ x.acked = true) →
      Does .mcommit s [.crl, .jnl, .bel] [] (fun t => Taken 1 n rest s t ∧ Tab.find t.crl.mirWait r.key = none ∧
        t.jnl.recs = s.jnl.recs.map (fun x => if x.is false r.origin r.seq then { x with acked := true } else x) ∧
        t.bel.cmds = s.bel.cmds.map (fun c => if c.id = r.tag then { c with mirDone := true } else c))) ∧
    (∀ g, leAt e 9 1 ≠ 0 → w.fails + 1 < s.get F.CRL_MIR_CFG_RETRY + 1 → s.getb F.CRL_STS_LINK_UP = false → r.type ≠ 1 → MirFits r g s →
      Does .mcommit s [.crl, .bel, .pool] [F.CRL_MIR_CMP_CNT_COUNT] (fun t => Taken 1 n rest s t ∧ MirQueued r g s t ∧
        Tab.find t.crl.mirWait r.key = some { sentAt := s.cyc, fails := w.fails + 1 } ∧
        t.get F.CRL_MIR_CMP_CNT_COUNT = min (s.get F.CRL_MIR_CMP_CNT_COUNT + 1) 0xFFFFFFFF)) ∧
    (leAt e 9 1 ≠ 0 → s.get F.CRL_MIR_CFG_RETRY + 1 ≤ w.fails + 1 → s.getb F.CRL_STS_PFAULT = false →
      Gives .mcommit s (fun t => t.getb F.CRL_STS_PFAULT = true ∧ t.getb F.CRL_ERR_MIR_MISMATCH = true ∧ t.getb F.CRL_STS_LINK_UP = false ∧
        t.session = s.session))) ∧
  (∀ (s : State) (origin seq : Nat) (r : JRec) (w : MirWait), s.rec? false origin seq = some r → Tab.find s.crl.mirWait r.key = some w → s.session = true →
    (∀ g, w.sentAt + us (max 1 (s.get F.CRL_MIR_CFG_COMMIT_TO)) ≤ s.cyc → s.getb F.CRL_STS_LINK_UP = false → r.type ≠ 1 → MirFits r g s →
      Does (.commitTimeout origin seq) s [.crl, .bel, .pool] [] (fun t => MirQueued r g s t ∧
        Tab.find t.crl.mirWait r.key = some { sentAt := s.cyc, fails := w.fails })) ∧
    (w.sentAt + us (max 1 (s.get F.CRL_MIR_CFG_COMMIT_TO)) ≤ s.cyc → r.type ≠ 1 → s.crl.mirOut = [] → s.canReserve 3 = false → s.canShare 3 = false →
      s.gratesOf (mirUser s.bel.nextId) = [] → mirGrates r.bytes = 1 →
      Does (.commitTimeout origin seq) s [.crl, .bel, .pool] [F.GRT_BP_CNT_COUNT 3] (fun t => t.crl.txq = s.crl.txq ∧
        t.crl.mirOut = [(mirUser s.bel.nextId, 2, r.bytes)] ∧
        t.pool.waiting = s.pool.waiting ++ [{ chan := 3, user := mirUser s.bel.nextId, atime := r.atime }])) ∧
    (s.cyc < w.sentAt + us (max 1 (s.get F.CRL_MIR_CFG_COMMIT_TO)) → exec (.commitTimeout origin seq) s = .next s)) ∧
  (∀ (s : State) (n : Nat) (m e : Bytes) (rest : List (Nat × Nat × Bytes)) (r : JRec), Opened s 1 0x11 n m rest e → e.length = 16 →
    s.rec? true (leAt e 8 1) (leAt e 0 8) = some r → r.body = .none → s.jnl.waiting = [] →
    Does .retire s ([.crl, .jnl, .pool] ++ logParts) (F.JNL_RETIRED_COUNT :: ringFlds) (fun t => Taken 1 n rest s t ∧
      t.jnl.recs = s.jnl.recs.filter (fun x => !x.is true r.origin r.seq) ∧ Tab.find t.jnl.staging r.key = none ∧ t.gratesOf (cmdUser r.tag) = [])))

/-- What the heads ask of each other.
The model's choices it rests on: log entries 78, 79, 83 and 156. -/
def Obligations.RequestsCross : Prop :=
  /- R412, R413, R591: a forwarded write that passes the owner's checks takes the owner's sequence and waits for MIRI grates; one the owner refuses is answered
by FWD_DONE with its status. FWD_DONE ends the command where it was fetched, with the owner's sequence. -/
  ((∀ (s : State) (n : Nat) (m b : Bytes) (rest : List (Nat × Nat × Bytes)), Opened s 2 0x20 n m rest b → s.bel.cmds = [] →
    (s.getb F.BEL_STS_SANITIZING = false → s.bel.sanitizeFail = false → s.volCheck (leAt b 28 2) = none →
      s.lateCheck (leAt b 28 2) (leAt b 32 2) .write true = none → leAt b 30 1 = 1 → leAt b 24 4 = 4096 → s.gapFor (leAt b 8 8) = none →
      s.bel.seqNext < s.bel.blockEnd → s.bel.seqNext < 2 ^ 62 → s.canReserve 2 = false → s.canShare 2 = false →
      s.gratesOf (cmdUser s.bel.nextId) = [] → NoneWait s → s.getb F.TICK_CTL_CUT_EN = false →
      Does .fwdCmd s [.crl, .bel, .pool] [F.GRT_BP_CNT_COUNT 2] (fun t => Taken 2 n rest s t ∧
        t.pool.waiting = s.pool.waiting ++ [{ chan := 2, user := cmdUser s.bel.nextId, atime := leAt b 8 8 }] ∧
        t.bel.seqNext = s.bel.seqNext + 1 ∧ t.bel.nextId = s.bel.nextId + 1 ∧
        ∃ c, t.bel.cmds = [c] ∧ c.id = s.bel.nextId ∧ c.foreign = some (leAt b 0 8) ∧ c.kind = .write ∧ c.vol = leAt b 28 2 ∧ c.lba = leAt b 16 8 ∧
          c.len = 4096 ∧ c.atime = leAt b 8 8 ∧ c.seq = s.bel.seqNext ∧ c.payload = granulesOf 48 b)) ∧
    (s.getb F.BEL_STS_SANITIZING = true → bit (leAt b 31 1) 7 = false → s.getb F.TICK_CTL_CUT_EN = false → s.getb F.CRL_STS_LINK_UP = false →
      Does .fwdCmd s [.crl, .bel] [] (fun t => Taken 2 n rest s t ∧ t.bel = { s.bel with nextId := s.bel.nextId + 1 } ∧
        Queues 3 0x28 (leBytes 8 (leAt b 0 8) ++ leBytes 8 0 ++ leBytes 2 0x1D ++ zeroBytes 6) s t))) ∧
  (∀ (s : State) (n : Nat) (m b : Bytes) (rest : List (Nat × Nat × Bytes)) (c : Cmd) (x : SubQ) (y : CplQ), Opened s 3 0x28 n m rest b →
    s.bel.cmds = [c] → c.id = leAt b 0 8 → c.stage = .forwarded → c.kind = .write → c.ring = false → c.foreign = none → c.dead = false →
    Tab.find (s.ctrl c.port).sqs c.queue = some x → Tab.find (s.ctrl c.port).cqs x.cq = some y →
    let Posted (sct sc : Nat) (t : State) : Prop := Taken 3 n rest s t ∧ t.bel.cmds = [] ∧ Tab.find (t.ctrl c.port).cqs x.cq =
      some { y with waiting := y.waiting ++ [{ cid := c.cid, sq := c.queue, sqHead := x.head, sct, sc, dw0 := 0 }] }
    (leAt b 16 2 = 0 → Does .fwdDone s [.crl, .bel] [] (Posted 0 0)) ∧
    (leAt b 16 2 ≠ 0 → Does .fwdDone s [.crl, .bel, .pool] [] (fun t => Posted (bits (leAt b 16 2) 8 3) (leAt b 16 2 % 256) t ∧
      t.gratesOf (cmdUser c.id) = [])))) ∧
  /- R248, R234, R379, R402, R461, R550: the holder of a half answers the partner's index request; an answer ends the request here; STAGE_GET is answered
with the staged payload and its digests, or with why there is none; STAGE_DATA settles its record: its payload is staged again, or its write is lost; a
REJECTed request is sent again; a mailbox message of the partner is posted by agent 9, or dropped where that may not post. -/
  ((∀ (s : State) (n : Nat) (m b q : Bytes) (rest : List (Nat × Nat × Bytes)) (image : Option Bytes), Opened s 2 0x21 n m rest b →
    q = patch (slice b 8 128) 34 [0, 0] → leAt b 42 1 = 0 → reqDomain q ≤ 4095 → s.holdsHalf (fpHalf (reqFp q) (reqDomain q)) = true → s.ddxOn = true →
    (s.half (fpHalf (reqFp q) (reqDomain q))).stale = false → s.donePending = false →
    filterHas s.ddxNb (fpKey (reqFp q) (reqDomain q)) (fpTag (reqFp q)) (s.half (fpHalf (reqFp q) (reqDomain q))).filter = false →
    s.getb F.CRL_STS_LINK_UP = false →
    Does (.idxReq image) s [.crl] [F.DDX_LOOKUPS_COUNT, F.DDX_FMISS_COUNT] (fun t => Taken 2 n rest s t ∧
      Queues 3 0x29 (leBytes 8 (leAt b 0 8) ++ leBytes 8 0 ++ patch q 48 [16]) s t)) ∧
  (∀ (s : State) (n k e v ea : Nat) (m b : Bytes) (r : IdxReq) (rest : List (Nat × Nat × Bytes)), Opened s 3 0x29 n m rest b →
    Tab.find s.ddx.fwd (leAt b 0 8) = some r → r.origin = .ticket v k e ((s.strand v k).ticket e).order ea → r.op < 4 →
    ((s.strand v k).ticket e).used = true → ((s.strand v k).ticket e).job.isSome = true → Tab.readBytes (s.stove v).lmem ea 128 = r.block →
    Does .idxRsp s [.crl, .ddx, .stoves] [] (fun t => Taken 3 n rest s t ∧ Tab.find t.ddx.fwd (leAt b 0 8) = none ∧
      Ended v k e (leAt b 8 1 + leAt b 9 1 * 256) t ∧
      (∀ f ∈ idxFields r.op, Tab.readBytes (t.stove v).lmem (ea + f.1) f.2 = slice b (16 + f.1) f.2) ∧
      ∀ a, (∀ f ∈ idxFields r.op, a < ea + f.1 ∨ ea + f.1 + f.2 ≤ a) → Tab.getB (t.stove v).lmem a = Tab.getB (s.stove v).lmem a)) ∧
  (∀ (s : State) (n : Nat) (m b : Bytes) (rest : List (Nat × Nat × Bytes)), Opened s 2 0x22 n m rest b → s.getb F.CRL_STS_LINK_UP = false →
    s.rec? true (leAt b 16 1) (leAt b 8 8) = none →
    (s.rec? false (leAt b 16 1) (leAt b 8 8) = none →
      Does .stageGet s [.crl] [] (fun t => Taken 2 n rest s t ∧ Queues 3 0x2A (slice b 0 8 ++ [2] ++ zeroBytes 7) s t)) ∧
    ∀ r, s.rec? false (leAt b 16 1) (leAt b 8 8) = some r →
      (Tab.find s.jnl.staging r.key = none →
        Does .stageGet s [.crl] [] (fun t => Taken 2 n rest s t ∧ Queues 3 0x2A (slice b 0 8 ++ [1] ++ zeroBytes 7) s t)) ∧
      ∀ p, Tab.find s.jnl.staging r.key = some p → Does .stageGet s [.crl] [] (fun t => Taken 2 n rest s t ∧
        Queues 3 0x2A (slice b 0 8 ++ [0] ++ zeroBytes 7 ++ (granuleDigests (p.length / 4096) p ++ p)) s t)) ∧
  (∀ (s : State) (n : Nat) (m b : Bytes) (rest : List (Nat × Nat × Bytes)) (r : JRec), Opened s 3 0x2A n m rest b →
    Tab.find s.crl.stageOut (leAt b 0 8) = some r.key → s.jnl.recs.find? (fun x => x.key == r.key) = some r → s.session = true →
    (leAt b 8 1 = 0 → (sha256 (granulesOf 16 b)).take 16 = r.pdig → (granulesOf 16 b).length = r.len →
      Gives .stageData s (fun t => Taken 3 n rest s t ∧ Tab.find t.crl.stageOut (leAt b 0 8) = none ∧ r.key ∉ t.and.settling ∧
        Tab.find t.jnl.staging r.key = some (granulesOf 16 b))) ∧
    (leAt b 8 1 = 1 → s.jnl.waiting = [] → Gives .stageData s (fun t => r.key ∉ t.and.settling ∧
      t.jnl.recs = s.jnl.recs.filter (fun x => !x.is r.mirror r.origin r.seq) ∧ t.getb F.JNL_ERR_LOST = true ∧
      t.get F.JNL_RCV_LOST = (s.get F.JNL_RCV_LOST + 1) % 2 ^ F.JNL_RCV_LOST.width))) ∧
  (∀ (s : State) (n : Nat) (m b : Bytes) (rest : List (Nat × Nat × Bytes)), Opened s 3 0x2B n m rest b →
    (∀ r, leAt b 8 1 = 0x21 → Tab.find s.ddx.fwd (leAt b 0 8) = some r → s.getb F.CRL_STS_LINK_UP = false →
      Does .reject s [.crl] [] (fun t => Taken 3 n rest s t ∧
        Queues 2 0x21 (leBytes 8 (leAt b 0 8) ++ patch r.block 34 [BitVec.ofNat 8 r.op, if r.verify then 1 else 0]) s t)) ∧
    (leAt b 8 1 < 0x20 → Does .reject s [.crl] [] (fun t => Taken 3 n rest s t ∧ t.crl.txq = s.crl.txq))) ∧
  (∀ (s : State) (n c : Nat) (m b : Bytes) (rest : List (Nat × Nat × Bytes)), Opened s 4 0x30 n m rest b → c = leAt b 0 1 →
    (31 < c ∨ s.getb (F.MBX_CFG_EN c) = false ∨ s.bitOf (F.MBX_CFG_SENDERS c) 9 = false →
      Does .mbxMsg s (.crl :: logParts) (F.MBX_ERR_PEER_DROP :: logFlds) (fun t => Taken 4 n rest s t ∧ t.getb F.MBX_ERR_PEER_DROP = true ∧
        StagedMs 0x0D06 0 [] s t)) ∧
    (c < 32 → s.released dNoc = true → s.getb (F.MBX_CFG_EN c) = true → s.bitOf (F.MBX_CFG_SENDERS c) 9 = true → s.get (F.MBX_CFG_RECEIVER c) < 8 →
      s.receiverDead (s.get (F.MBX_CFG_RECEIVER c)) = false → s.bitOf F.HRT_STS_PARKED (s.get (F.MBX_CFG_RECEIVER c)) = false → (s.chan c).full = false →
      Does .mbxMsg s [.crl, .chans, .banks, .free] [] (fun t => Taken 4 n rest s t ∧ (t.chan c).full = true ∧ (t.chan c).poster = 9 ∧
        (t.chan c).data = slice b 8 64 ∧ (t.chan c).num = ((s.chan c).num + 1) % 256 ∧ (t.chan c).postAt = s.now ∧ t.freeCtr = s.freeCtr + 1))))

/-! ### Heartbeats, the fence and the loss of the partner (ch. 14, 16, 17) -/

/-- The AT by which the heartbeat of a slot counts (R415). -/
def hbLimit (s : State) (slot : Nat) : Nat := 2000 * slot + 100 * max 1 (min 19 (s.get F.CRL_TIMERS_HB_GRACE))

/-- How the partner is watched and fenced.
The model's choices it rests on: log entries 77 and 142. -/
def Obligations.HeartbeatsAndFences : Prop :=
  /- R414, R415, R417, R429, R471: at each multiple of 2,000 the head sends its slot, AT, mode byte and dirty count; a heartbeat in time sets MISS to 0 and
shows the skew; a slot that passes without one raises MISS, and the fourth of them in a row takes down a link that is still up. -/
  ((∀ (s : State), s.session = true → s.crl.hbSent < s.now / 2000 → s.getb F.CRL_STS_LINK_UP = false →
    Does .heartbeatSend s [.crl] [] (fun t => t.crl.hbSent = s.now / 2000 ∧ Queues 5 0x40
      (leBytes 8 (s.now / 2000) ++ leBytes 8 s.now ++
       [BitVec.ofNat 8 (s.qphase % 4 * 64 + b2n (s.getb F.GLB_MODE_UNMIRRORED) * 32 + b2n (s.getb F.GLB_MODE_WAITING) * 16 + s.md % 16)] ++
       zeroBytes 7 ++ leBytes 4 (s.dirty / 2 ^ 20) ++ zeroBytes 4) s t)) ∧
  (∀ (s : State), s.session = false ∨ s.now / 2000 ≤ s.crl.hbSent → exec .heartbeatSend s = .next s) ∧
  (∀ (s : State) (n : Nat) (m b : Bytes) (rest : List (Nat × Nat × Bytes)) (e : Int), Opened s 5 0x40 n m rest b →
    e = (s.now : Int) - leAt b 8 8 - s.linkDly → e.natAbs ≤ s.get F.TICK_LIMITS_SKEW_MAX → s.get F.TICK_CTL_SRC ≠ 3 → s.md ≠ mKindling →
    Does .heartbeat s [.crl, .mode] [F.CRL_STS_MISS, F.TICK_SKEW_VALUE] (fun t => t.crl.inbox = rest ∧
      t.mode = { s.mode with partnerByte := some (leAt b 16 1) } ∧ t.get F.TICK_SKEW_VALUE = sat32 e ∧
      (s.now ≤ hbLimit s (leAt b 0 8) → t.get F.CRL_STS_MISS = 0 ∧ leAt b 0 8 ∈ t.crl.hbGot) ∧
      (hbLimit s (leAt b 0 8) < s.now → t.get F.CRL_STS_MISS = s.get F.CRL_STS_MISS ∧ t.crl.hbGot = s.crl.hbGot))) ∧
  (∀ (s : State), s.crl.watch = true → hbLimit s s.crl.hbNext ≤ s.now →
    (s.crl.hbNext ∈ s.crl.hbGot → Does .heartbeatMiss s [.crl] [] (fun t => t.crl.hbNext = s.crl.hbNext + 1)) ∧
    (s.crl.hbNext ∉ s.crl.hbGot → s.get F.CRL_STS_MISS ≠ 3 ∨ s.session = false ∨ s.getb F.CRL_STS_LINK_UP = false ∨ s.getb F.CRL_STS_PFAULT = true →
      Does .heartbeatMiss s (.crl :: logParts) ([F.CRL_STS_MISS, F.CRL_ERR_HB_MISS] ++ logFlds) (fun t => t.crl.hbNext = s.crl.hbNext + 1 ∧
        t.get F.CRL_STS_MISS = min 7 (s.get F.CRL_STS_MISS + 1) ∧ t.getb F.CRL_ERR_HB_MISS = true ∧ StagedMs 0x0405 0 [] s t)) ∧
    (s.crl.hbNext ∉ s.crl.hbGot → s.get F.CRL_STS_MISS = 3 → s.session = true → s.getb F.CRL_STS_LINK_UP = true → s.getb F.CRL_STS_PFAULT = false →
      s.head = 1 → Does .heartbeatMiss s (.crl :: .glbPend :: logParts) ([F.CRL_STS_MISS, F.CRL_ERR_HB_MISS] ++ downFlds) (fun t =>
        t.get F.CRL_STS_MISS = 4 ∧ LinkDown t)) ∧
    (s.crl.hbNext ∉ s.crl.hbGot → s.get F.CRL_STS_MISS = 3 → s.session = true → s.getb F.CRL_STS_LINK_UP = true → s.getb F.CRL_STS_PFAULT = false →
      s.head = 0 → Gives .heartbeatMiss s (fun t => t.get F.CRL_STS_MISS = 4 ∧ LinkDown t ∧ t.session = true ∧ t.get F.CRL_FENCE_RESULT = 0))) ∧
  (∀ (s : State), s.crl.watch = false ∨ s.now < hbLimit s s.crl.hbNext → exec .heartbeatMiss s = .next s)) ∧
  /- R419, R420: a write to CRL_FENCE with GO sends FENCE in a session, and shows RESULT 1 without one; a FENCE for this head, of its array and newer than the
last, resets the head's compute die; one that is not is discarded. -/
  ((∀ (s : State) (r : Req) (value : Nat), s.writable r R.CRL_FENCE = true →
    (bit value 31 = false → Does (.fenceSend r value) s [] [F.CRL_FENCE_REASON] (fun t => t.get F.CRL_FENCE_REASON = value % 256)) ∧
    (bit value 31 = true → s.session = false → Does (.fenceSend r value) s [] [F.CRL_FENCE_REASON, F.CRL_FENCE_RESULT] (fun t =>
      t.get F.CRL_FENCE_REASON = value % 256 ∧ t.get F.CRL_FENCE_RESULT = 1)) ∧
    (bit value 31 = true → s.session = true → s.getb F.CRL_STS_LINK_UP = false →
      Does (.fenceSend r value) s (.crl :: logParts) ([F.CRL_FENCE_REASON, F.CRL_FENCE_RESULT] ++ logFlds) (fun t => t.get F.CRL_FENCE_RESULT = 0 ∧
        StagedMs 0x040A 0 [value % 256] s t ∧
        Queues 6 0x50 ([BitVec.ofNat 8 (1 - s.head), BitVec.ofNat 8 value] ++ zeroBytes 6 ++ slice s.jnl.cur 32 8 ++ leBytes 8 s.now) s t))) ∧
  (∀ (s : State) (n : Nat) (m b : Bytes) (rest : List (Nat × Nat × Bytes)), Opened s 6 0x50 n m rest b →
    (leAt b 0 1 = s.head → slice b 8 8 = slice s.jnl.cur 32 8 → s.crl.fenceIvc < leAt m 8 8 → s.calm = true →
      Gives .fence s (BeginsReset .fence .computeDie s)) ∧
    (leAt b 0 1 ≠ s.head ∨ slice b 8 8 ≠ slice s.jnl.cur 32 8 ∨ leAt m 8 8 ≤ s.crl.fenceIvc → Does .fence s [.crl] [] (fun t => t.crl = { s.crl with inbox := rest }))))

/-- R416, R418, R474, R486: the partner declared lost sets LOST. In Duplex head A, and head B when its delay has ended, preempt the partner on the drives; a
head whose MODES lack Solo and a head that joins reset their compute die instead. A Reservation Conflict resets it too, and success ends the
takeover: every volume is this head's, EPOCH is one higher, and the sequence counter has moved past what the partner issued (R458, R459).
The model's choices it rests on: log entries 88 and 89. -/
def Obligations.PartnerLossAndTakeover : Prop :=
  (∀ (s : State), s.lostDue = true → s.qphase ≠ 2 →
    (s.session = false → s.md = mSolo → s.mode.bankedEntry = false → Does .partnerLost s (.crl :: logParts) (F.CRL_STS_LOST :: logFlds) (fun t =>
      t.getb F.CRL_STS_LOST = true ∧ t.crl.watch = false)) ∧
    (s.session = false → s.md = mDuplex → s.mode.bankedEntry = false → s.modeAllowed mSolo = true → s.head = 0 → s.jnl.recs = [] → s.anyDrive = true →
      Gives .partnerLost s (fun t => Transits 3 4 s t ∧ t.getb F.CRL_STS_LOST = true ∧ t.getb F.GLB_MODE_UNMIRRORED = true ∧
        t.and.takeoverAt = some s.now ∧ t.and.soloSeq = s.bel.seqNext ∧ t.crl.arbWait = true ∧
        ∀ d z, Tab.find s.drv.drives d = some z → z.present = true → .drive d 6 0 0 0 [0xB1] ∈ t.out)) ∧
    (s.session = false → s.md = mDuplex → s.mode.bankedEntry = false → s.modeAllowed mSolo = true → s.head = 1 →
      Does .partnerLost s (.crl :: logParts) (F.CRL_STS_LOST :: logFlds) (fun t => t.getb F.CRL_STS_LOST = true ∧
        t.crl.arbAt = some (s.cyc + us (s.get F.CRL_CTL_ARB_DELAY)))) ∧
    (s.md = mDuplex → s.modeAllowed mSolo = false → s.calm = true → Gives .partnerLost s (BeginsReset .noSolo .computeDie s)) ∧
    (s.md = mJoining → s.calm = true → Gives .partnerLost s (BeginsReset .joinLost .computeDie s))) ∧
  (∀ (s : State) (x : Nat), s.crl.arbAt = some x →
    (x ≤ s.cyc → s.md = mDuplex → s.qphase ≠ 2 → s.anyDrive = true → Does .arbDelayExpire s ([.crl, .drv] ++ logParts) logFlds (fun t =>
      t.crl.arbAt = none ∧ t.crl.arbWait = true ∧ StagedMs 0x0B09 0 [] s t)) ∧
    (s.cyc < x → exec .arbDelayExpire s = .next s)) ∧
  (∀ (s : State) (ckpt : List (Nat × Nat × Bytes)), s.crl.arbWait = true → s.qphase ≠ 2 →
    (s.calm = true → Gives (.arbResult ⟨true, ckpt⟩) s (BeginsReset .arbLost .computeDie s)) ∧
    (∀ x, s.and.takeoverAt = some x → s.jnl.recs = [] → s.bel.cmds = [] → s.drv.stripes = [] → s.ddx.fwd = [] → s.ddx.roomWait = [] → s.and.halves = 3 →
      s.gapFor s.now = none → s.session = false →
      Gives (.arbResult ⟨false, ckpt⟩) s (fun t => t.and.survivor = true ∧ t.and.takeoverAt = none ∧ t.and.halves = 3 ∧
        t.get F.AND_EPOCH_VALUE = (s.get F.AND_EPOCH_VALUE + 1) % 2 ^ 32 ∧ t.get F.AND_FB_CTL_STATE = 0 ∧ t.get F.AND_FB_TB_VALUE = 0 ∧
        t.bel.seqNext = (max (s.get F.AND_PSEQ_MAX_VALUE) s.bel.seqNext / 2 ^ 20 + 1) * 2 ^ 20 + 1 ∧
        t.get F.AND_TK_TIME_US = min ((s.now - x) / 100) (2 ^ 32 - 1) ∧
        (∀ v, (s.vol v).present = true → (t.vol v).owner = s.head) ∧
        ∃ r, t.jnl.recs = [r] ∧ r.type = 7 ∧ r.committed = true ∧ r.origin = s.head)))

/-! ### Lockstep pairs, the spare and failback (ch. 16) -/

/-- The fields a fault of pair `p` writes (R450). -/
def faultFlds (p : Nat) : List Fld := [F.AND_PAIR_STS_FLT p, F.AND_PAIR_STS_STATE p, F.GLB_FAULT_AND] ++ logFlds

/-- Pair `p` has faulted and shows `state`. -/
def PairFaulted (p state : Nat) (s t : State) : Prop :=
  t.get (F.AND_PAIR_STS_FLT p) = min 3 (s.get (F.AND_PAIR_STS_FLT p) + 1) ∧ t.get (F.AND_PAIR_STS_STATE p) = state ∧ t.bitOf F.GLB_FAULT_AND p = true

/-- Pair `q` serves slot `k` from now on, and every other slot is served as before. -/
def Serves (k q : Nat) (s t : State) : Prop :=
  t.pairOf k = q ∧ t.get (F.AND_PAIR_STS_STATE q) = 1 ∧ t.get (F.AND_PAIR_STS_SLOT q) = k ∧ ∀ j < 8, j ≠ k → t.pairOf j = s.pairOf j

/-- R450-R455, R539: a mismatch fails its pair, and the spare takes the slot, with its watchdog counter at zero, and starts at AND_RESTART_VEC with cause 1; with no
spare the compute die is reset; a spare that fails is the spare no more; a pair under test fails its test. The spare is tested every 250 ms and counts its passes. Every hour a slot is asked to rotate: its
acknowledgement gives it the spare, and the outgoing pair is tested as the spare; without one in 10 ms the rotation is skipped.
The model's choices it rests on: log entries 4 and 92. -/
def Obligations.PairsAreSpared : Prop :=
  (∀ (s : State) (p k q : Nat), p < 9 → s.released dHrt = true → s.get (F.AND_PAIR_STS_STATE p) ≠ 2 → s.get (F.AND_PAIR_STS_STATE p) ≠ 3 →
    s.slotOf p = some k → s.get F.AND_STS_SPARE = q →
    (q < 9 → q ≠ p → Does (.lockstepMismatch p) s ([.glbPend, .and, .wdt] ++ logParts) (faultFlds p ++ [F.AND_PAIR_STS_STATE q, F.AND_PAIR_STS_SLOT q,
        F.AND_MAP_PAIR, F.HRT_WDT_STS_WARN, F.AND_STS_SPARE, F.AND_STS_SPARE_OK, F.AND_ERR_MISMATCH, F.AND_ERR_PROMOTE, F.DMP_STS_PARKED]) (fun t =>
      PairFaulted p 4 s t ∧ Serves k q s t ∧ t.get F.AND_STS_SPARE = 15 ∧ t.getb F.AND_STS_SPARE_OK = false ∧ t.getb F.AND_ERR_MISMATCH = true ∧
      t.getb F.AND_ERR_PROMOTE = true ∧ Tab.getN t.hrt.wdtFrom k = s.now ∧ .hartStart k (4 * s.get F.AND_RESTART_VEC_ADDR) k 1 ∈ t.out)) ∧
    (q = 15 → s.calm = true → Gives (.lockstepMismatch p) s (BeginsReset .doubleFault .computeDie s))) ∧
  (∀ (s : State) (p : Nat), p < 9 → s.released dHrt = true →
    (s.get (F.AND_PAIR_STS_STATE p) = 2 → Does (.lockstepMismatch p) s (.glbPend :: logParts)
      (faultFlds p ++ [F.AND_STS_SPARE, F.AND_STS_SPARE_OK, F.AND_ERR_MISMATCH]) (fun t =>
        PairFaulted p 4 s t ∧ t.get F.AND_STS_SPARE = 15 ∧ t.getb F.AND_STS_SPARE_OK = false ∧ t.getb F.AND_ERR_MISMATCH = true)) ∧
    (s.get (F.AND_PAIR_STS_STATE p) ≠ 2 → s.get (F.AND_PAIR_STS_STATE p) ≠ 3 → s.slotOf p = none → exec (.lockstepMismatch p) s = .next s)) ∧
  (∀ (s : State) (p : Nat), p < 9 → s.released dHrt = true → s.get (F.AND_PAIR_STS_STATE p) = 3 →
    let Failed (t : State) : Prop := PairFaulted p 5 s t ∧ t.get F.AND_STS_SPARE = 15 ∧ t.getb F.AND_STS_SPARE_OK = false ∧
      t.getb F.AND_ERR_ST_FAIL = true
    let fs := faultFlds p ++ [F.AND_STS_SPARE, F.AND_STS_SPARE_OK, F.AND_ERR_ST_FAIL]
    Does (.lockstepMismatch p) s (.glbPend :: logParts) fs Failed ∧
    (s.get F.AND_STS_SPARE = p →
      Does (.selfTestDone false) s (.glbPend :: logParts) fs Failed ∧
      Does (.selfTestDone true) s [] [F.AND_PAIR_STS_STATE p, F.AND_STS_SPARE_OK, F.AND_ST_CNT_COUNT] (fun t => t.get (F.AND_PAIR_STS_STATE p) = 2 ∧
        t.getb F.AND_STS_SPARE_OK = true ∧ t.get F.AND_ST_CNT_COUNT = min (s.get F.AND_ST_CNT_COUNT + 1) 0xFFFFFFFF))) ∧
  (∀ (s : State) (p : Nat), s.get F.AND_STS_SPARE = p → p ≠ 15 → s.get (F.AND_PAIR_STS_STATE p) = 2 →
    (s.and.stMark < s.now / 25000000 → s.getb F.AND_CTL_ST_EN = true → s.spareRuns = true →
      Does .spareSelfTest s [.and] [F.AND_PAIR_STS_STATE p] (fun t => t.get (F.AND_PAIR_STS_STATE p) = 3 ∧
        t.and = { s.and with stMark := s.now / 25000000 })) ∧
    (s.md = mBanked ∨ s.md = mKindling → Gives .spareSelfTest s (fun t => t.get (F.AND_PAIR_STS_STATE p) = 2)) ∧
    (s.now / 25000000 ≤ s.and.stMark → exec .spareSelfTest s = .next s)) ∧
  (∀ (s : State) (k : Nat), s.and.rotMark < s.now / 360000000000 → s.getb F.AND_CTL_ROT_EN = true → s.getb F.AND_STS_SPARE_OK = true →
    s.spareRuns = true → s.passing = false → s.and.rotating = none → s.and.lastRot = some k → s.pairOf ((k + 1) % 8) ≠ 15 →
    Does .rotation s [.and] [] (fun t => t.and = { s.and with rotMark := s.now / 360000000000, rotating := some ((k + 1) % 8, s.cyc) })) ∧
  (∀ (s : State) (r : Req) (value k x q old : Nat), s.writable r R.AND_ROT_ACK = true → s.and.rotating = some (k, x) → s.get F.AND_STS_SPARE = q →
    (value % 8 = k → q < 9 → s.pairOf k = old → old < 9 → old ≠ q →
      Does (.rotAck r value) s (.and :: .wdt :: logParts) ([F.HRT_WDT_STS_WARN, F.AND_PAIR_STS_STATE old, F.AND_PAIR_STS_STATE q, F.AND_PAIR_STS_SLOT q, F.AND_MAP_PAIR, F.AND_STS_SPARE,
          F.AND_STS_SPARE_OK, F.AND_ERR_PROMOTE, F.DMP_STS_PARKED] ++ logFlds) (fun t => Serves k q s t ∧ t.get F.AND_STS_SPARE = old ∧
        t.get (F.AND_PAIR_STS_STATE old) = 3 ∧ t.and = { s.and with rotating := none, lastRot := some k } ∧
        .hartStart k (4 * s.get F.AND_RESTART_VEC_ADDR) k 2 ∈ t.out)) ∧
    (value % 8 ≠ k → exec (.rotAck r value) s = .next s)) ∧
  (∀ (s : State) (k x : Nat), s.and.rotating = some (k, x) →
    (x + ms 10 ≤ s.cyc → k < 8 → Does .rotTimeout s (.and :: logParts) (F.AND_ERR_ROT_SKIP :: logFlds) (fun t => t.and = { s.and with rotating := none } ∧
      t.getb F.AND_ERR_ROT_SKIP = true ∧ Staged 0x0306 [s.pairOf k, k] s t)) ∧
    (s.cyc < x + ms 10 → exec .rotTimeout s = .next s))

/-- The head has committed an OWNER record of its own with the op, the present owner and the next (R457). -/
def CommitsOwner (op src dst : Nat) (s t : State) : Prop :=
  ∃ (r : JRec) (o : OwnerBody), t.jnl.recs = s.jnl.recs ++ [r] ∧ r.type = 7 ∧ r.committed = true ∧ r.mirror = false ∧ r.origin = s.head ∧
    r.body = .owner o ∧ o.op = op ∧ o.src = src ∧ o.dst = dst

/-- R457, R463-R468: the joiner commits READY when recovery and settlement have ended; the survivor answers ACCEPT with TB, the first multiple of GRAN at
least DELAY ahead, or REFUSE while INHIBIT is set, once no record it committed unmirrored is live; at TB the hand-over goes on, and DONE is committed
when no command for a moving volume admitted below TB is left; without DONE in TO after TB it is aborted.
The model's choices it rests on: log entries 90 and 91. -/
def Obligations.FailbackHandsOver : Prop :=
  (∀ (s : State) (r : Req) (value : Nat), s.writable r R.AND_FB_CTL = true →
    (bit value 30 = true → s.getb F.AND_FB_CTL_READY = false → s.mayAsk = true →
      Gives (.failbackReady r value) s (fun t => t.getb F.AND_FB_CTL_READY = true ∧ t.getb F.AND_FB_CTL_INHIBIT = bit value 31 ∧
        t.get F.AND_FB_CTL_STATE = 1 ∧ CommitsOwner 2 (1 - s.head) s.head s t)) ∧
    (bit value 30 = false ∨ s.mayAsk = false ∨ s.getb F.AND_FB_CTL_READY = true → Does (.failbackReady r value) s [] [F.AND_FB_CTL_INHIBIT] (fun t =>
      t.getb F.AND_FB_CTL_INHIBIT = bit value 31))) ∧
  (∀ (s : State) (g : Nat), s.and.acceptPending = true → s.session = true → s.ownerReady = true → s.qphase ≠ 2 →
    (∀ r ∈ s.jnl.recs, r.mirror = true ∨ r.unmirrored = false) → g = 10 * max 1 (s.get F.AND_FB_CFG_GRAN) * 100000 →
    (s.getb F.AND_FB_CTL_INHIBIT = false →
      Gives .failbackAccept s (fun t => t.and.acceptPending = false ∧ t.get F.AND_FB_CTL_STATE = 2 ∧ CommitsOwner 3 s.head (1 - s.head) s t ∧
        t.get F.AND_FB_TB_VALUE = ((s.now + s.get F.AND_FB_CFG_DELAY * 100000 + g - 1) / g * g) % 2 ^ 64)) ∧
    (s.getb F.AND_FB_CTL_INHIBIT = true →
      Gives .failbackAccept s (fun t => t.and.acceptPending = false ∧ t.get F.AND_FB_CTL_STATE = 4 ∧ CommitsOwner 4 s.head (1 - s.head) s t))) ∧
  (∀ (s : State), s.get F.AND_FB_CTL_STATE = 2 → s.get F.AND_FB_TB_VALUE ≠ 0 → s.qphase ≠ 2 →
    (s.get F.AND_FB_TB_VALUE ≤ s.now → Does .handoverBoundary s [.jnl] [F.AND_FB_CTL_STATE, F.AND_FB_TB_VALUE] (fun t =>
      t.get F.AND_FB_CTL_STATE = 3 ∧ t.jnl.recs = s.jnl.recs)) ∧
    (s.now < s.get F.AND_FB_TB_VALUE → exec .handoverBoundary s = .next s)) ∧
  (∀ (s : State), s.and.survivor = true → s.get F.AND_FB_CTL_STATE = 3 → s.session = true → s.ownerReady = true → s.qphase ≠ 2 → s.donePending = false →
    ((∀ c ∈ s.bel.cmds, c.dead = true ∨ s.moving c.vol = false ∨ s.get F.AND_FB_TB_VALUE ≤ c.atime) →
      Gives .failbackDone s (fun t => CommitsOwner 5 s.head (1 - s.head) s t ∧ t.get F.AND_FB_CTL_STATE = 3 ∧ t.freeCtr = s.freeCtr + 1)) ∧
    (∀ c ∈ s.bel.cmds, c.dead = false → s.moving c.vol = true → c.atime < s.get F.AND_FB_TB_VALUE → exec .failbackDone s = .next s)) ∧
  (∀ (s : State), s.get F.AND_FB_CTL_STATE = 3 → s.qphase ≠ 2 → s.md = mDuplex → s.crl.arbAt = none → s.crl.arbWait = false → s.bel.cmds = [] →
    let Aborted (t : State) : Prop := t.get F.AND_FB_CTL_STATE = 5 ∧ t.get F.AND_FB_TB_VALUE = 0 ∧ t.getb F.AND_ERR_FB_ABORT = true ∧
      t.getb F.AND_FB_CTL_READY = false ∧ ∀ v, (t.vol v).owner = (s.vol v).owner
    (s.and.survivor = true → s.donePending = false → s.ownerReady = true → s.get F.AND_FB_TB_VALUE ≠ 0 →
      s.get F.AND_FB_TB_VALUE + ms (max 1 (s.get F.AND_FB_CFG_TO)) ≤ s.now →
      Gives .failbackAbort s (fun t => Aborted t ∧ t.and.survivor = false ∧ CommitsOwner 6 s.head (1 - s.head) s t)) ∧
    (s.and.survivor = false → s.session = false → Gives .failbackAbort s (fun t => Aborted t ∧ t.jnl.recs = s.jnl.recs)) ∧
    (s.and.survivor = false → s.session = true → exec .failbackAbort s = .next s)) ∧
  (∀ (s : State), s.get F.AND_FB_CTL_STATE = 0 → exec .failbackAbort s = .next s)

/-! ### Damper (ch. 19) -/

/-- The fields a voltage of rail `r` shows in. -/
def monFlds (r : Nat) : List Fld := [F.DMP_RAIL_MON_VOLT_MV r, F.DMP_RAIL_MON_MIN_MV r]

/-- The rail's voltage shows, and the lowest since the last read (R527). -/
def Shows (r mv : Nat) (s t : State) : Prop :=
  t.get (F.DMP_RAIL_MON_VOLT_MV r) = mv ∧ t.get (F.DMP_RAIL_MON_MIN_MV r) = min (s.get (F.DMP_RAIL_MON_MIN_MV r)) mv % 2 ^ 16

/-- What Damper does about rails and heat.
The model's choices it rests on: log entries 97 and 117. -/
def Obligations.RailsAndHeat : Prop :=
  /- R506-R510: the first rail of a group below its reset level resets the always-on group at power-on reach and any other at compute-die reach, and
the group's source ends when its last rail is back; a rail below warning sets its bit until it is back above warning and hysteresis; a core rail's
fall below warning is a dip, counted once, whose lowest voltage and length DMP_DIP_LAST keeps. -/
  ((∀ (s : State) (r mv : Nat), r < 9 → mv < s.get (F.DMP_RAIL_LVL_RESET_MV r) → r ∉ s.dmp.below → mv < 2 ^ 16 →
    (s.dmp.below = [] → s.calm = true → Gives (.railBelowReset r mv) s (fun t => t.dmp.below = [r] ∧
      BeginsReset (if r < 2 then .powerOn else .cdSupply) (if r < 2 then .powerOn else .computeDie) s t)) ∧
    (∀ q ∈ s.dmp.below, (q < 2 ↔ r < 2) → Does (.railBelowReset r mv) s (.dmp :: logParts) (monFlds r ++ logFlds) (fun t => Shows r mv s t ∧
      t.dmp.below = s.dmp.below ++ [r] ∧ Staged 0x0203 [r, mv] s t))) ∧
  (∀ (s : State) (r mv : Nat), s.get (F.DMP_RAIL_LVL_RESET_MV r) ≤ mv ∨ 9 ≤ r → exec (.railBelowReset r mv) s = .next s) ∧
  (∀ (s : State) (r mv : Nat), s.get (F.DMP_RAIL_LVL_WARN_MV r) + 10 < mv → mv < 2 ^ 16 → r < 9 →
    (s.dmp.below = [r] → Does (.railResetClear r mv) s [.dmp, .kdl] (F.DMP_STS_RAIL_WARN :: monFlds r) (fun t => t.dmp.below = [] ∧
      t.bitOf F.DMP_STS_RAIL_WARN r = false ∧ (∀ x ∈ t.kdl.asserted, x.src = (if r < 2 then RstSrc.powerOn else .cdSupply) → x.untilAt.isSome = true) ∧
      t.dmp.cdPwrEn = (decide (r < 2) || s.dmp.cdPwrEn))) ∧
    (2 ≤ r → r ≤ 4 → exec (.railWarnClear r mv) s = .next s) ∧
    (r < 2 ∨ 4 < r → s.bitOf F.DMP_STS_RAIL_WARN r = true → Does (.railWarnClear r mv) s [] (F.DMP_STS_RAIL_WARN :: monFlds r) (fun t =>
      Shows r mv s t ∧ t.bitOf F.DMP_STS_RAIL_WARN r = false))) ∧
  (∀ (s : State) (r mv : Nat), s.get (F.DMP_RAIL_LVL_RESET_MV r) ≤ mv → mv < s.get (F.DMP_RAIL_LVL_WARN_MV r) → mv < 2 ^ 16 → r < 9 →
    (r < 2 ∨ 4 < r → s.bitOf F.DMP_STS_RAIL_WARN r = false →
      Does (.railWarn r mv) s logParts ([F.DMP_STS_RAIL_WARN, F.DMP_ERR_RAIL_WARN] ++ monFlds r ++ logFlds) (fun t => Shows r mv s t ∧
        t.bitOf F.DMP_STS_RAIL_WARN r = true ∧ t.getb F.DMP_ERR_RAIL_WARN = true ∧ StagedMs 0x0202 0 [r, mv] s t)) ∧
    (2 ≤ r → r ≤ 4 → r ∉ s.dmp.below →
      (s.dmp.dip = none → Does (.railDip r mv) s (.dmp :: logParts)
          ([F.DMP_STS_RAIL_WARN, F.DMP_ERR_DIP, F.DMP_DIP_CNT_COUNT] ++ monFlds r ++ logFlds) (fun t => Shows r mv s t ∧
        t.dmp = { s.dmp with dip := some (r, mv, s.cyc) } ∧ t.getb F.DMP_ERR_DIP = true ∧ t.bitOf F.DMP_STS_RAIL_WARN r = true ∧
        t.get F.DMP_DIP_CNT_COUNT = min (s.get F.DMP_DIP_CNT_COUNT + 1) 0xFFFFFFFF ∧ StagedMs 0x0201 0 [r, mv] s t)) ∧
      (∀ r0 low t0, s.dmp.dip = some (r0, low, t0) → Does (.railDip r mv) s [.dmp] (F.DMP_STS_RAIL_WARN :: monFlds r) (fun t =>
        t.dmp = { s.dmp with dip := some (r0, min low mv, t0) })))) ∧
  (∀ (s : State) (core hrt sram r0 low t0 : Nat), s.get (F.DMP_RAIL_LVL_WARN_MV 2) + 10 < core → s.get (F.DMP_RAIL_LVL_WARN_MV 3) + 10 < hrt →
    s.get (F.DMP_RAIL_LVL_WARN_MV 4) + 10 < sram → (∀ r ∈ s.dmp.below, r < 2 ∨ 4 < r) → s.dmp.dip = some (r0, low, t0) → r0 < 16 → low < 4096 →
    Does (.dipEnd core hrt sram) s [.dmp] (F.DMP_STS_RAIL_WARN :: F.DMP_DIP_LAST_RAIL :: F.DMP_DIP_LAST_MIN_MV :: F.DMP_DIP_LAST_DUR_US ::
        (monFlds 2 ++ monFlds 3 ++ monFlds 4)) (fun t => t.dmp = { s.dmp with dip := none } ∧ t.get F.DMP_DIP_LAST_RAIL = r0 ∧
      t.get F.DMP_DIP_LAST_MIN_MV = low ∧ t.get F.DMP_DIP_LAST_DUR_US = min 0xFFFF ((s.cyc - t0) / 100) ∧
      ∀ r, 2 ≤ r → r ≤ 4 → t.bitOf F.DMP_STS_RAIL_WARN r = false))) ∧
  /- R511, R512, R586: a sensor above WARN requests the THERM throttle until it has cooled by 3 °C, and one above 115 °C trips: 50 ms later the
compute die's power is cut. -/
  ((∀ (s : State) (temp : Nat), temp < 256 → s.getb F.DMP_CTL_THERM_EN = true →
    (s.get F.DMP_THERM_WARN < temp → s.bitOf F.DMP_STS_THR_SRC 2 = false →
      Does (.thermWarn temp) s logParts ([F.DMP_THERM_TEMP, F.DMP_STS_THR_SRC, F.DMP_ERR_THERM] ++ logFlds) (fun t => t.get F.DMP_THERM_TEMP = temp ∧
        t.bitOf F.DMP_STS_THR_SRC 2 = true ∧ t.getb F.DMP_ERR_THERM = true ∧ StagedMs 0x0209 0 [temp] s t)) ∧
    (temp ≤ s.get F.DMP_THERM_WARN → Does (.thermWarn temp) s [] [F.DMP_THERM_TEMP] (fun t => t.get F.DMP_THERM_TEMP = temp)) ∧
    (temp + 3 ≤ s.get F.DMP_THERM_WARN → Does (.thermClear temp) s [] [F.DMP_THERM_TEMP, F.DMP_STS_THR_SRC] (fun t =>
      t.get F.DMP_THERM_TEMP = temp ∧ t.bitOf F.DMP_STS_THR_SRC 2 = false))) ∧
  (∀ (s : State) (temp : Nat), temp < 256 →
    (115 < temp → s.dmp.tripAt = none → Gives (.thermalTrip temp) s (fun t => t.dmp = { s.dmp with tripAt := some s.cyc } ∧ t.get F.DMP_THERM_TEMP = temp)) ∧
    (temp ≤ 115 → exec (.thermalTrip temp) s = .next s)) ∧
  (∀ (s : State) (x : Nat), s.dmp.tripAt = some x →
    (x + ms 50 ≤ s.cyc → Does .cdPowerOff s [.dmp] [] (fun t => t.dmp = { s.dmp with cdPwrEn := false })) ∧
    (s.cyc < x + ms 50 → exec .cdPowerOff s = .next s)))

/-- A Quench may begin (R514, R517): none runs, hold-up is acted on, and Damper is out of reset. -/
def mayQuench (s : State) : Prop := s.qphase = 0 ∧ s.dmpRuns = true ∧ s.getb F.DMP_CTL_HOLDUP_EN = true

/-- Phase 1 has begun with `e` µs of hold-up spent (R517-R519). -/
def Quenches (e : Nat) (s t : State) : Prop :=
  t.qphase = 1 ∧ t.getb F.DMP_ERR_QUENCH = true ∧ t.get F.DMP_Q_CNT_COUNT = min (s.get F.DMP_Q_CNT_COUNT + 1) 0xFFFFFFFF ∧ t.dmp.eBase = e ∧
  t.dmp.eFrom = s.cyc ∧ t.dmp.clearSince = none ∧ t.getb F.DMP_STS_CLEAR_WAIT = false

/-- The fields of a Quench that begins. -/
def quenchFlds : List Fld := [F.GLB_MODE_QPHASE, F.DMP_Q_CNT_COUNT, F.DMP_ERR_QUENCH, F.DMP_STS_CLEAR_WAIT] ++ logFlds

/-- How a Quench begins, runs and ends.
The model's choices it rests on: log entries 98, 99, 100 and 101. -/
def Obligations.QuenchRuns : Prop :=
  /- R514-R519: HOLDUP_WARN_N or SIM begins phase 1, on a fresh E once the hold-up supply has recharged since a reversal and on the E it had before that;
with HOLDUP_EN 0 the pin is only seen. Hold-up that clears starts the 5 ms of a reversal. A HOLD_US that falls short of R516 is shown and recorded. -/
  ((∀ (s : State), s.dmp.pinAsserted = false →
    (mayQuench s → s.dmp.revAt = none → Does .holdupAssert s (.dmp :: logParts) quenchFlds (fun t => Quenches 0 s t ∧ t.dmp.pinAsserted = true ∧
      Staged 0x0204 [0, 0] s t)) ∧
    (∀ x, mayQuench s → s.dmp.revAt = some x → s.cyc < x + ms (s.get F.DMP_QCFG_RECHARGE) →
      Does .holdupAssert s (.dmp :: logParts) quenchFlds (Quenches s.dmp.eBase s)) ∧
    (s.getb F.DMP_CTL_HOLDUP_EN = false → Does .holdupAssert s [.dmp] [] (fun t => t.dmp = { s.dmp with pinAsserted := true }))) ∧
  (∀ (s : State), s.dmp.pinAsserted = true → exec .holdupAssert s = .next s) ∧
  (∀ (s : State), s.dmp.pinAsserted = true → s.getb F.DMP_CTL_HOLDUP_EN = true → s.getb F.DMP_QTEST_SIM = false →
    Does .holdupClear s [.dmp] [F.DMP_STS_CLEAR_WAIT] (fun t => t.dmp = { s.dmp with pinAsserted := false, clearSince := some s.cyc } ∧
      t.getb F.DMP_STS_CLEAR_WAIT = (s.qphase == 1))) ∧
  (∀ (s : State) (r : Req) (value : Nat), s.writable r R.DMP_QTEST = true →
    (bit value 0 = true → mayQuench s → s.dmp.revAt = none →
      Does (.quenchSim r value) s (.dmp :: logParts) (F.DMP_QTEST_SIM :: quenchFlds) (fun t => Quenches 0 s t ∧ t.getb F.DMP_QTEST_SIM = true ∧
        Staged 0x0204 [0, 1] s t)) ∧
    (bit value 0 = false → s.getb F.DMP_QTEST_SIM = true → s.dmp.pinAsserted = false →
      Does (.quenchSim r value) s [.dmp] [F.DMP_QTEST_SIM, F.DMP_STS_CLEAR_WAIT] (fun t => t.getb F.DMP_QTEST_SIM = false ∧
        t.dmp = { s.dmp with clearSince := some s.cyc }))) ∧
  (∀ (s : State) (r : Req) (value : Nat), s.writable r R.DMP_HOLDUP = true → value < 2 ^ 16 →
    (80000000 + s.get F.BEL_DIRTY_BOUND_LIMIT * 2 ^ 20 ≤ value * 40000 →
      Does (.holdupTimeWrite r value) s [] [F.DMP_HOLDUP_HOLD_US] (fun t => t.get F.DMP_HOLDUP_HOLD_US = value)) ∧
    (value * 40000 < 80000000 + s.get F.BEL_DIRTY_BOUND_LIMIT * 2 ^ 20 →
      Does (.holdupTimeWrite r value) s logParts ([F.DMP_HOLDUP_HOLD_US, F.DMP_ERR_HOLD_SHORT] ++ logFlds) (fun t =>
        t.get F.DMP_HOLDUP_HOLD_US = value ∧ t.getb F.DMP_ERR_HOLD_SHORT = true ∧
        (80000000 + s.get F.BEL_DIRTY_BOUND_LIMIT * 2 ^ 20 ≤ s.get F.DMP_HOLDUP_HOLD_US * 40000 →
          Staged 0x020C [value, s.get F.BEL_DIRTY_BOUND_LIMIT * 2 ^ 20 % 2 ^ 32] s t))))) ∧
  /- R518-R524: phase 1 ends at its limit, or with nothing dirty after P1_MIN while hold-up stands: every command whose payload has not landed is gone, and
dirty bytes that are left set Q_SHORT. It reverses once hold-up has been clear for 5 ms below the limit, and then the held sources are taken. Phase 2
commits what was accepted, ends the journal with a QUENCH record, logs, and leaves only the companion die and EMB, SBD released; power present for 5 ms
in the hold restarts the head. -/
  ((∀ (s : State), s.qphase = 1 →
    let Phase2 (t : State) : Prop := t.qphase = 2 ∧ t.getb F.DMP_STS_CLEAR_WAIT = false ∧ t.get F.DMP_QLAST_P1_US = s.qElapsed % 2 ^ 32 ∧
      t.get F.DMP_QLAST_DIRTY = s.dirty % 2 ^ 31 ∧ (0 < s.dirty → t.getb F.DMP_ERR_Q_SHORT = true) ∧ ∀ c ∈ t.bel.cmds, c.unlanded = false
    (s.get F.DMP_HOLDUP_HOLD_US - 2000 ≤ s.qElapsed → Gives .phase1Limit s Phase2) ∧
    (s.qElapsed < s.get F.DMP_HOLDUP_HOLD_US - 2000 → exec .phase1Limit s = .next s) ∧
    (s.dirty = 0 → 100 * s.get F.DMP_QCFG_P1_MIN ≤ s.qElapsed → s.holdup = true → Gives .phase1Drained s Phase2) ∧
    (0 < s.dirty ∨ s.holdup = false ∨ s.qElapsed < 100 * s.get F.DMP_QCFG_P1_MIN → exec .phase1Drained s = .next s)) ∧
  (∀ (s : State) (x : Nat), s.qphase = 1 → s.dmp.clearSince = some x →
    (x + ms 5 ≤ s.cyc → s.qElapsed < s.get F.DMP_HOLDUP_HOLD_US - 2000 → s.kdl.held = [] → s.md ≠ mKindling →
      Does .quenchReverse s (.dmp :: logParts) ([F.GLB_MODE_QPHASE, F.DMP_STS_CLEAR_WAIT, F.DMP_QLAST_P1_US] ++ logFlds) (fun t => t.qphase = 0 ∧
        t.dmp = { s.dmp with eBase := s.qElapsed, revAt := some s.cyc } ∧ Staged 0x0205 [s.qElapsed % 2 ^ 32] s t)) ∧
    (∀ src reach, x + ms 5 ≤ s.cyc → s.qElapsed < s.get F.DMP_HOLDUP_HOLD_US - 2000 → s.kdl.held = [(src, reach)] → s.kdl.episode = none →
      s.getb F.KDL_STS_BUSY = false → Gives .quenchReverse s (BeginsReset src reach s)) ∧
    (s.cyc < x + ms 5 → exec .quenchReverse s = .next s)) ∧
  (∀ (s : State), s.qphase = 2 → s.getb F.DMP_STS_QHOLD = false → s.kdl.held = [] → s.stoves = [] →
    (s.getb F.JNL_STS_READY = false → Gives .quenchedHold s (fun t => t.getb F.DMP_STS_QHOLD = true ∧ t.getb F.CRL_STS_LINK_UP = false ∧
      t.get F.KDL_REL_STS_DOMAIN = Nat.land (s.get F.KDL_REL_STS_DOMAIN) 0x18003 ∧ t.drv.cmds = [] ∧ t.soot.flushing = none ∧
      t.jnl.recs = s.jnl.recs)) ∧
    (s.getb F.JNL_STS_READY = true → s.jnl.recs = [] → s.jnl.waiting = [] → s.bel.cmds = [] → s.bel.ctrls = [] → s.wins = [] →
      Gives .quenchedHold s (fun t => t.getb F.DMP_STS_QHOLD = true ∧
        ∃ r, t.jnl.recs = [r] ∧ r.type = 8 ∧ r.committed = true ∧ r.len = 0 ∧ r.origin = s.head))) ∧
  (∀ (s : State), s.getb F.DMP_STS_QHOLD = true →
    (s.clear5 = true → s.kdl.held = [] → s.kdl.episode = none → s.getb F.KDL_STS_BUSY = false →
      Gives .warmRestart s (fun t => BeginsReset .warm .system s t ∧ t.qphase = 0 ∧ t.getb F.DMP_STS_QHOLD = false)) ∧
    (s.clear5 = false → exec .warmRestart s = .next s)))

/-! ### Reset sources and Kindling (ch. 18) -/

/-- How domains are released, and units lost.
The model's choices it rests on: log entries 102, 104, 105 and 147. -/
def Obligations.DomainsAndUnits : Prop :=
  /- R36, R37, R483: a unit of the minimum service set that fails sets its degraded bit, raising vector 2,044 and the GLB interrupt; the loss of the
last of its kind resets the compute die. -/
  ((∀ (s : State) (u : Nat), 36 ≤ u → u < 52 → bit (s.get F.GLB_FAULT_STV) (u - 36) = false →
    putBit (s.get F.GLB_FAULT_STV) (u - 36) true % 2 ^ 16 ≠ 0xFFFF →
    Does (.unitLostReset u) s (logParts ++ [.glbPend]) (logFlds ++ [F.GLB_FAULT_STV]) (fun t =>
      bit (t.get F.GLB_FAULT_STV) (u - 36) = true ∧ t.hrt.glbPend = true)) ∧
  (∀ s : State, s.calm = true → bit (s.get F.GLB_FAULT_DDR) 0 = false → s.get F.GLB_FAULT_DDR = 2 →
    Gives (.unitLostReset 28) s (fun t => t.get F.GLB_FAULT_DDR = 3 ∧ BeginsReset .unitLost .computeDie s t))) ∧
  /- R494-R496, R579: a clock that becomes good releases the domain the running step awaits; one that is lost takes its domain back into reset and is
recorded; one that is not good 100 ms after Kindling came to its domain is given up. In Kindling or Sweep firmware may force a release: it happens when
the clock is good and no source covers the domain, and is pending until then. -/
  ((∀ (s : State) (d : Nat), 1 ≤ d → d ≤ 18 → s.get F.KDL_CLK_PEND_DOMAIN = 0 →
    (s.kdlStep = 0 → Does (.clockGood d) s [] [F.KDL_CLK_GOOD_DOMAIN] (fun t => t.bitOf F.KDL_CLK_GOOD_DOMAIN (d - 1) = true)) ∧
    (d = dStv → s.kdlStep = 8 → s.skips 8 = false → s.released d = false → s.clockLost d = false →
      Does (.clockGood d) s [] [F.KDL_CLK_GOOD_DOMAIN, F.KDL_REL_STS_DOMAIN, F.KDL_CLK_PEND_DOMAIN] (fun t => t.released d = true ∧
        ∀ e, 1 ≤ e → e ≤ 18 → e ≠ d → t.released e = s.released e))) ∧
  (∀ (s : State) (d : Nat), s.bitOf F.KDL_CLK_GOOD_DOMAIN (d - 1) = true → 1 ≤ d → d ≤ 18 →
    (s.released d = false → Does (.clockGoodLoss d) s [] [F.KDL_CLK_GOOD_DOMAIN] (fun t => t.bitOf F.KDL_CLK_GOOD_DOMAIN (d - 1) = false)) ∧
    (s.released d = true → d = dDbg ∨ d = dSbd →
      Does (.clockGoodLoss d) s logParts ([F.KDL_CLK_GOOD_DOMAIN, F.KDL_REL_STS_DOMAIN, F.KDL_ERR_CLK_LOSS] ++ logFlds) (fun t =>
        t.released d = false ∧ t.getb F.KDL_ERR_CLK_LOSS = true ∧ Staged 0x0108 [d] s t)) ∧
    (s.released d = true → d = dDdrA → s.get F.GLB_FAULT_DDR = 0 →
      Gives (.clockGoodLoss d) s (fun t => t.released d = false ∧ t.getb F.KDL_ERR_CLK_LOSS = true ∧ t.get F.GLB_FAULT_DDR = 1))) ∧
  (∀ (s : State), s.awaited = some 2 → s.kdlStep = 1 →
    (s.kdl.reachedAt + ms 100 ≤ s.cyc → Does (.clockGoodTimeout 2) s (.kdl :: logParts) logFlds (fun t =>
      t.kdl = { s.kdl with missing := s.kdl.missing ++ [66], reachedAt := s.cyc } ∧ Staged 0x0106 [66] s t)) ∧
    (s.cyc < s.kdl.reachedAt + ms 100 → exec (.clockGoodTimeout 2) s = .next s)) ∧
  (∀ (s : State) (r : Req) (d : Nat), s.writable r R.KDL_REL_FORCE = true → 1 ≤ d → d ≤ 18 → s.released d = false → s.get F.KDL_CLK_PEND_DOMAIN = 0 →
    (s.md = mKindling ∨ s.md = mSweep → s.bitOf F.KDL_CLK_GOOD_DOMAIN (d - 1) = true → s.kdl.episode = none →
      Does (.forceRelease r (2 ^ (d - 1))) s (if 5 ≤ d ∧ d ≤ 8 then .kdl :: logParts else logParts) ([F.KDL_REL_STS_DOMAIN, F.KDL_REL_FORCE_DOMAIN,
          F.KDL_CLK_PEND_DOMAIN] ++ (if d = dHst 0 ∨ d = dHst 1 then [F.HST_LINK_STS_LTSSM (d - 3)] else []) ++ logFlds) (fun t =>
        (d = dHst 0 ∨ d = dHst 1 → t.get (F.HST_LINK_STS_LTSSM (d - 3)) = t.idleLtssm (d - 3)) ∧
        (5 ≤ d → d ≤ 8 → t.kdl = { s.kdl with drvRel := Tab.put s.kdl.drvRel (d - 5) s.cyc }) ∧
        t.released d = true ∧ t.bitOf F.KDL_REL_FORCE_DOMAIN (d - 1) = true ∧ t.get F.KDL_CLK_PEND_DOMAIN = 0 ∧ Staged 0x0107 [d] s t)) ∧
    (s.md = mKindling ∨ s.md = mSweep → s.bitOf F.KDL_CLK_GOOD_DOMAIN (d - 1) = false →
      Does (.forceRelease r (2 ^ (d - 1))) s [] [F.KDL_REL_FORCE_DOMAIN, F.KDL_CLK_PEND_DOMAIN] (fun t => t.released d = false ∧
        t.bitOf F.KDL_REL_FORCE_DOMAIN (d - 1) = true ∧ t.bitOf F.KDL_CLK_PEND_DOMAIN (d - 1) = true)) ∧
    (s.md = mDuplex → exec (.forceRelease r (2 ^ (d - 1))) s = .next s)))

/-- The step that runs is `n`, is not skipped, and awaits no domain. -/
def StepEnds (s : State) (n : Nat) : Prop := s.kdlStep = n ∧ s.skips n = false ∧ s.awaited = none

/-- How a reset episode begins and ends, and what Kindling's steps do.
The model's choices it rests on: log entries 71, 103 and 107. -/
def Obligations.ResetsAndKindling : Prop :=
  /- R486-R492: RST_N low for 5 µs, or seen low for 1 µs, an NVM Subsystem Reset and a write with the key to KDL_RST_CMD each begin an episode of their reach; in phase 1 of a
Quench such a source is held. A source's assertion ends 10 µs after its event, RST_N's when the pin is high; with none left the episode ends and
Kindling runs step 1 with its sources shown and every boot source untried. An episode of system reach that lasts 100 ms asserts FAULT_N. -/
  ((∀ (s : State) (ns : Nat) (seen : Bool), s.kdl.rstLow = false →
    (5000 ≤ ns ∨ (1000 ≤ ns ∧ seen = true) → s.calm = true → Gives (.rstNAssert ns seen) s (fun t => BeginsReset .rstN .system s t ∧ t.kdl.rstLow = true)) ∧
    (5000 ≤ ns ∨ (1000 ≤ ns ∧ seen = true) → s.qphase = 1 → s.kdl.held = [] → Does (.rstNAssert ns seen) s (.kdl :: logParts) (F.KDL_ERR_RST_HELD :: logFlds) (fun t =>
      t.kdl = { s.kdl with rstLow := true, held := [(.rstN, .system)] } ∧ t.getb F.KDL_ERR_RST_HELD = true ∧ Staged 0x0109 [2] s t)) ∧
    (ns < 1000 ∨ (ns < 5000 ∧ seen = false) → exec (.rstNAssert ns seen) s = .next s)) ∧
  (∀ (s : State), s.kdl.rstLow = true → Does .rstNRelease s [.kdl] [] (fun t => t.kdl.rstLow = false ∧
    t.kdl.asserted = s.kdl.asserted.filter (fun a => a.src != .rstN || a.untilAt.isSome))) ∧
  (∀ (s : State), s.calm = true → (s.released dSbd = true → Gives .nvmeMiReset s (BeginsReset .miReset .system s)) ∧
    (s.released dSbd = false → exec .nvmeMiReset s = .next s)) ∧
  (∀ (s : State) (r : Req) (value : Nat), s.writable r R.KDL_RST_CMD = true → s.calm = true →
    (bits value 16 16 = 0x4B44 → value % 4 = 1 → Gives (.resetCommand r value) s (BeginsReset .cmd .system s)) ∧
    (bits value 16 16 = 0x4B44 → value % 4 = 2 → Gives (.resetCommand r value) s (BeginsReset .cmd .computeDie s)) ∧
    (bits value 16 16 ≠ 0x4B44 → exec (.resetCommand r value) s = .next s)) ∧
  (∀ (s : State), Does .resetSourceExpire s [.kdl] [] (fun t =>
    ∀ a, a ∈ t.kdl.asserted ↔ a ∈ s.kdl.asserted ∧ ∀ x, a.untilAt = some x → s.cyc < x)) ∧
  (∀ (s : State) (reach : Reach) (sbSel kept : Bool), s.kdl.episode = some reach →
    (s.kdl.asserted = [] → Gives (.resetEpisodeEnd sbSel kept) s (fun t => t.kdl.episode = none ∧ t.get F.KDL_STS_STEP = 1 ∧ t.getb F.KDL_STS_BUSY = true ∧
      t.getb F.KDL_STS_HOLD = false ∧ t.get F.KDL_STS_REACH = (match reach with | .powerOn => 1 | .system => 2 | .computeDie => 3) ∧
      t.get F.KDL_BOOT_RES_CS0 = 0xFF ∧ t.get F.KDL_BOOT_RES_CS1 = 0xFF ∧ t.get F.KDL_STS_BOOT_SRC = 3 ∧
      (kept = false → t.ddr = [] ∧ t.grates = []) ∧ (kept = true → s.getb F.KDL_STS_DDR_KEPT = true → t.ddr = s.ddr ∧ t.grates = s.grates) ∧
      (reach ≠ .powerOn → t.now = s.now ∧ t.get F.KDL_LAST_AT_AT = s.now % 2 ^ 64) ∧
      ∀ i < 13, bit s.kdl.took i = true → t.get ⟨R.KDL_RST_SRC, i, 1⟩ = 1)) ∧
    (∀ a ∈ s.kdl.asserted, a.untilAt = none → exec (.resetEpisodeEnd sbSel kept) s = .next s)) ∧
  (∀ (s : State), (s.kdl.episode = some .system → s.kdl.episodeAt + ms 100 ≤ s.cyc →
      Does .faultNEpisodeTimeout s [.kdl] [] (fun t => t.kdl = { s.kdl with faultN := true })) ∧
    (s.kdl.episode = some .computeDie → exec .faultNEpisodeTimeout s = .next s)) ∧
  (∀ (s : State) (r : Req) (value : Nat), s.writable r R.KDL_MIN_SVN = true → value < 2 ^ 32 →
    (s.get F.KDL_MIN_SVN_SVN < value → Does (.minSvnWrite r value) s logParts (F.KDL_MIN_SVN_SVN :: logFlds) (fun t =>
      t.get F.KDL_MIN_SVN_SVN = value ∧ Staged 0x010A [value] s t)) ∧
    (value ≤ s.get F.KDL_MIN_SVN_SVN → exec (.minSvnWrite r value) s = .next s))) ∧
  /- R381, R497-R502, R456: a step that ends gives way to the next: step 1 derives slot 0, step 2 accepts the newer valid option copy and reads the
ownership pair, step 3 tries the boot sources in BOOT order and keeps the first image that passes the checks of R500, step 9 fills the slots with the
pairs that work, a host port that fails its test in step 10 stays in Detect.Quiet, step 11 starts the slots or holds with the code of R482, answering on the sideband alone, and step 12 ends Kindling with the journal recovered. A step whose unit is
missing is skipped. -/
  ((∀ (s : State) (bad : List Nat) (cs0 cs1 : Option Bytes), s.kdlStep = 0 ∨ (s.skips s.kdlStep = false ∧ s.awaited.isSome = true) →
    exec (.kindlingStepEnd bad cs0 cs1) s = .next s) ∧
  (∀ (s : State) (bad : List Nat) (cs0 cs1 : Option Bytes), StepEnds s 1 → s.get F.KDL_STS_REACH = 3 →
    Gives (.kindlingStepEnd bad cs0 cs1) s (fun t => t.get F.KDL_STS_STEP = 2 ∧ (∀ k, s.derivedKey 0 = some k →
      (Tab.find t.keys.slots 0).map (·.key) = some k) ∧ (s.soot.staged.length < 200 → (t.soot.staged.map (·.code)).contains 0x0101 = true))) ∧
  (∀ (s : State) (bad : List Nat) (cs0 cs1 : Option Bytes) (b : Bytes), StepEnds s 2 → 1 ∉ bad → 1 ∉ s.kdl.missing → s.get F.KDL_STS_REACH = 2 →
    Tab.find s.jnl.opt 0 = some b → optValid b = true → Tab.find s.jnl.opt 1 = none → s.pair 34 = some [7, 2, 1, 0, 99, 0] →
    Gives (.kindlingStepEnd bad cs0 cs1) s (fun t => t.get F.KDL_STS_STEP = 3 ∧ t.jnl.cur = b ∧ t.get F.GLB_ID_HEAD = leAt b 12 1 % 2 ∧
      t.getb F.JNL_OPT_STS_VALID0 = true ∧ t.getb F.JNL_OPT_STS_VALID1 = false ∧ t.get F.AND_EPOCH_VALUE = 7 ∧ t.and.halves = 2 ∧
      t.getb F.GLB_MODE_UNMIRRORED = true ∧ t.and.soloSeq = 99)) ∧
  (∀ (s : State) (bad : List Nat) (f0 : Bytes) (v : Nat), StepEnds s 3 → s.bootSources = [0, 1] → s.get F.KDL_BOOT_RES_CS0 = 0xFF →
    s.get F.KDL_BOOT_RES_CS1 = 0xFF → v = s.verifyImage (some f0) →
    Gives (.kindlingStepEnd bad (some f0) none) s (fun t => t.get F.KDL_STS_STEP = 4 ∧ t.get F.KDL_STS_BOOT_SRC = (if v = 0 then 0 else 3) ∧
      t.get F.KDL_BOOT_RES_CS0 = v ∧ t.get F.KDL_BOOT_RES_CS1 = (if v = 0 then 0xFF else 1) ∧
      t.kdl.image = (if v = 0 then some (slice f0 0 512) else none)) ∧
    s.verifyImage none = 1 ∧ (leAt (slice f0 0 512) 0 4 ≠ 0x46574B44 → v = 2) ∧
    Gives (.kindlingStepEnd bad none none) s (fun t => t.get F.KDL_STS_STEP = 4 ∧ t.get F.KDL_STS_BOOT_SRC = 3 ∧ t.get F.KDL_BOOT_RES_CS0 = 1 ∧
      t.get F.KDL_BOOT_RES_CS1 = 1 ∧ t.kdl.image = none ∧ t.getb F.KDL_ERR_FW_FAIL = true ∧ t.getb F.KDL_ERR_FALLBACK = true ∧
      t.getb F.KDL_STS_XSPI_FREE = true)) ∧
  (∀ (s : State) (bad : List Nat) (cs0 cs1 : Option Bytes) (n : Nat), s.kdlStep = n → s.skips n = true → n = 4 ∨ n = 5 ∨ n = 6 ∨ n = 7 ∨ n = 8 →
    Gives (.kindlingStepEnd bad cs0 cs1) s (fun t => t.get F.KDL_STS_STEP = n + 1)) ∧
  (∀ (s : State) (cs0 cs1 : Option Bytes), StepEnds s 9 → (∀ p < 9, p + 19 ∉ s.kdl.missing ∧ s.get (F.AND_PAIR_STS_FLT p) = 0) →
    Gives (.kindlingStepEnd [] cs0 cs1) s (fun t => t.get F.KDL_STS_STEP = 10 ∧ (∀ k < 8, t.pairOf k = k ∧ t.get (F.AND_PAIR_STS_STATE k) = 1) ∧
      t.get F.AND_STS_SPARE = 8 ∧ t.get (F.AND_PAIR_STS_STATE 8) = 2 ∧ t.getb F.AND_STS_SPARE_OK = true ∧ t.get F.AND_STS_ACTIVE = 8)) ∧
  (∀ (s : State) (bad : List Nat) (cs0 cs1 : Option Bytes) (p : Nat), StepEnds s 10 → p < 2 → 30 + p ∈ bad →
    Gives (.kindlingStepEnd bad cs0 cs1) s (fun t => t.get F.KDL_STS_STEP = 11 ∧ p ∈ t.kdl.off ∧ t.get (F.HST_LINK_STS_LTSSM p) = 0)) ∧
  (∀ (s : State) (bad : List Nat) (cs0 cs1 : Option Bytes), StepEnds s 11 →
    (s.faultCode = 0 → Gives (.kindlingStepEnd bad cs0 cs1) s (fun t => t.get F.KDL_STS_STEP = 12 ∧ t.getb F.JNL_STS_RECOVERING = true ∧
      t.kdl.faultN = false ∧ t.get F.GLB_FAULT_CODE = 0 ∧ t.get F.KDL_FW_VER_VALUE = leAt (s.kdl.image.getD []) 12 4 % 2 ^ 32 ∧
      ∀ k < 8, s.pairOf k ≠ 15 → t.bitOf F.HRT_STS_RUN k = true ∧ .hartStart k (leAt (s.kdl.image.getD []) 32 8) k 0 ∈ t.out)) ∧
    (s.faultCode ≠ 0 → Does (.kindlingStepEnd bad cs0 cs1) s (.kdl :: logParts) ([F.GLB_FAULT_CODE, F.KDL_STS_HOLD, F.KDL_STS_BUSY] ++ logFlds) (fun t =>
      t.getb F.KDL_STS_HOLD = true ∧ t.getb F.KDL_STS_BUSY = false ∧ t.get F.GLB_FAULT_CODE = s.faultCode ∧ t.kdl.faultN = true ∧
      Staged 0x0F14 [s.faultCode] s t))) ∧
  (∀ (s : State) (bad : List Nat) (cs0 cs1 : Option Bytes) (h lap : Nat), StepEnds s 12 → s.jnl.recs = [] → s.jnl.waiting = [] → s.ddx.undo = [] →
    s.pair 33 = some [h, lap] → (∀ k < 32, Tab.find s.jnl.pairs k = none) → s.getb F.GLB_CTL_BOOT_SWEEP = false →
    Gives (.kindlingStepEnd bad cs0 cs1) s (fun t => t.getb F.KDL_STS_BUSY = false ∧ t.get F.KDL_STS_STEP = 0 ∧ t.getb F.JNL_STS_READY = true ∧
      t.getb F.JNL_STS_RECOVERING = false ∧ t.bel.seqNext = max 1 h ∧ t.jnl.lap = (lap + 1) % 256 ∧ t.jnl.head = 0 ∧ t.get F.JNL_RCV_FOUND = 0 ∧
      t.get F.KDL_DURATION_US = min (2 ^ 32 - 1) ((s.cyc - s.kdl.doneAt) / 100))))

/-! ### Register accesses (ch. 1) -/

/-- A 64-bit register of the map stands at `a`, and the requester may use it now (R8, R13, R24, R533): `read` says whether to read it or to write it. -/
def WideAt (s : State) (r : Req) (a : Nat) (read : Bool) : Prop :=
  a % 8 = 0 ∧ widthAt a = 64 ∧ widthAt (a + 4) = 0 ∧ reaches r a = true ∧ reaches r (a + 4) = true ∧
  (¬ (0x10000 ≤ a ∧ a < 0x20000)) ∧ inLocal a = false ∧ inLocal (a + 4) = false ∧ otherSpace a = false ∧ otherSpace (a + 4) = false ∧
  s.dbgStop r a = false ∧ s.dbgStop r (a + 4) = false ∧ s.canReach r = true ∧ s.notReady a = false ∧ s.notReady (a + 4) = false ∧
  (if read then readRefused r a = false ∧ readRefused r (a + 4) = false else s.writable r a = true ∧ s.writable r (a + 4) = true)

/-- Only the requester's own latches and staged halves changed, to `x`. -/
def OwnAcc (r : Req) (x : AccSt) (s t : State) : Prop :=
  t.accOf r = x ∧ ∀ g, g ≠ reqAgent r → Tab.getD t.acc g {} = Tab.getD s.acc g {}

/-- R9, R10: a low-half read latches the high half for its requester; the high-half read returns the latched value and releases the latch, and without
one the current high half; a full-width read releases the latch. A low-half write is staged for its requester; the high-half write commits both halves as
the full-width write of them does, and without a staged half keeps the register's low half; a full-width write discards the staged half. -/
def Obligations.HalfAccesses : Prop :=
  (∀ (s : State) (r : Req) (a : Nat), WideAt s r a true →
    Does (.lowHalfRead r a) s [.acc, .out] [] (fun t =>
      OwnAcc r { s.accOf r with latch := Tab.put (s.accOf r).latch a (s.regValue r a / 2 ^ 32) } s t ∧
      t.out = .readData (reqAgent r) a (s.regValue r a % 2 ^ 32) :: s.out) ∧
    (∀ v, Tab.find (s.accOf r).latch a = some v → Does (.highHalfRead r a) s [.acc, .out] [] (fun t =>
      OwnAcc r { s.accOf r with latch := Tab.del (s.accOf r).latch a } s t ∧ t.out = .readData (reqAgent r) (a + 4) v :: s.out)) ∧
    (Tab.find (s.accOf r).latch a = none → Does (.highHalfRead r a) s [.out] [] (fun t =>
      t.out = .readData (reqAgent r) (a + 4) (s.regValue r a / 2 ^ 32) :: s.out)) ∧
    (∀ chg, Does (.rcFieldRead r a 3 chg) s [.acc, .out] [] (fun t =>
      OwnAcc r { s.accOf r with latch := Tab.del (s.accOf r).latch a } s t ∧ t.out = .readData (reqAgent r) a (s.regValue r a) :: s.out))) ∧
  (∀ (s : State) (r : Req) (a v : Nat), WideAt s r a false →
    Does (.lowHalfWrite r a v) s [.acc] [] (OwnAcc r { s.accOf r with staged := Tab.put (s.accOf r).staged a (v % 2 ^ 32) } s) ∧
    (∀ lo < 2 ^ 32, Tab.find (s.accOf r).staged a = some lo →
      exec (.highHalfWrite r a v) s = exec (.registerWrite r a 3 (v % 2 ^ 32 * 2 ^ 32 + lo) 0) s) ∧
    (Tab.find (s.accOf r).staged a = none →
      exec (.highHalfWrite r a v) s = exec (.registerWrite r a 3 (v % 2 ^ 32 * 2 ^ 32 + s.regValue r a % 2 ^ 32) 0) s) ∧
    (∀ same, exec (.registerWrite r a 3 v same) s =
      .next ((s.updAcc r (fun x => { x with staged := Tab.del x.staged a })).writeReg r a (v % 2 ^ 64) same)))

/-- R11, R13, R14, R15, R527: a sub-word read returns its bytes, a 64-bit read over two 32-bit
registers both of them, a secure-only register reads zero to others; a read of an RC field clears it, a change in the same cycle applied to the cleared
value. R24: a block that is not ready answers with the error response.
The model's choices it rests on: log entries 14, 17 and 125. -/
def Obligations.RegisterReads : Prop :=
  (∀ (s : State) (r : Req) (i : Nat) (chg : List (Nat × Nat)), s.canReach r = true → i < 9 → s.get (F.DMP_RAIL_MON_VOLT_MV i) < 2 ^ 16 →
    s.get (F.DMP_RAIL_MON_MIN_MV i) < 2 ^ 16 →
    Does (.rcFieldRead r (R.DMP_RAIL_MON + 8 * i) 2 chg) s [.out] [F.DMP_RAIL_MON_MIN_MV i] (fun t =>
      t.get (F.DMP_RAIL_MON_MIN_MV i) = (match Tab.find chg (R.DMP_RAIL_MON + 8 * i) with | none => 0xFFFF | some v => min v 0xFFFF) ∧
      t.out = .readData (reqAgent r) (R.DMP_RAIL_MON + 8 * i) (s.get (F.DMP_RAIL_MON_MIN_MV i) * 2 ^ 16 + s.get (F.DMP_RAIL_MON_VOLT_MV i)) :: s.out)) ∧
  (∀ (s : State) (r : Req) (chg : List (Nat × Nat)), s.canReach r = true → s.get F.GLB_TRANS_CNT_COUNT < 2 ^ 32 →
    Does (.rcFieldRead r R.GLB_TRANS_CNT 2 chg) s [.out] [F.GLB_TRANS_CNT_COUNT] (fun t =>
      t.get F.GLB_TRANS_CNT_COUNT = min ((Tab.find chg R.GLB_TRANS_CNT).getD 0) (2 ^ 32 - 1) ∧
      t.out = .readData (reqAgent r) R.GLB_TRANS_CNT (s.get F.GLB_TRANS_CNT_COUNT) :: s.out)) ∧
  (∀ (s : State) (r : Req) (i j : Nat) (chg : List (Nat × Nat)), s.canReach r = true → i < 32 → j < 4 → s.get (F.GLB_BKP_DATA i) < 2 ^ 32 →
    Does (.rcFieldRead r (R.GLB_BKP + 4 * i + j) 0 chg) s [.out] [] (fun t =>
      t.out = .readData (reqAgent r) (R.GLB_BKP + 4 * i + j) (bits (s.get (F.GLB_BKP_DATA i)) (8 * j) 8) :: s.out) ∧
    (i % 2 = 0 → s.get (F.GLB_BKP_DATA (i + 1)) < 2 ^ 32 → Does (.rcFieldRead r (R.GLB_BKP + 4 * i) 3 chg) s [.out] [] (fun t =>
      t.out = .readData (reqAgent r) (R.GLB_BKP + 4 * i) (s.get (F.GLB_BKP_DATA i) + s.get (F.GLB_BKP_DATA (i + 1)) * 2 ^ 32) :: s.out))) ∧
  (∀ (s : State) (r : Req) (chg : List (Nat × Nat)), s.canReach r = true → reqSecure r = false →
    Does (.rcFieldRead r R.KDL_MIN_SVN 2 chg) s [.out] [] (fun t => t.out = .readData (reqAgent r) R.KDL_MIN_SVN 0 :: s.out)) ∧
  (∀ (s : State) (r : Req) (a lg : Nat) (chg : List (Nat × Nat)), s.dbgStop r a = false →
    (s.canReach r = true → s.notReady a = true → Does (.rcFieldRead r a lg chg) s [.out] [] (fun t => t.out = .notReady (reqAgent r) a :: s.out)) ∧
    (s.canReach r = false → exec (.rcFieldRead r a lg chg) s = .next s))

/-- R10, R11, R13-R15, R588: a write sets RW fields, clears W1C bits written 1 that no event sets in the same cycle, sets
LK fields while the block is not locked and takes a value the register turns into another as that one; misaligned and sub-word writes, those to
secure-only registers by others and those of a host to registers its writes do not change are ignored. R24: a block that is not ready answers with the
error response. GLB_RSRAM takes bytes (R484). In a model of this block the DBG registers, of which the spec says nothing, refuse an access while the
posture opens them.
The model's choices it rests on: log entries 15, 16, 24, 125 and 126. -/
def Obligations.RegisterWrites : Prop :=
  (∀ (s : State) (r : Req) (v : Nat), s.writable r R.AND_RESTART_VEC = true → s.writable r (R.AND_RESTART_VEC + 4) = true →
    s.getb F.AND_CTL_LOCK = false → ∀ lo < 2 ^ 32, Tab.find (s.accOf r).staged R.AND_RESTART_VEC = some lo →
    Does (.highHalfWrite r R.AND_RESTART_VEC v) s [.acc] [F.AND_RESTART_VEC_ADDR] (fun t =>
      t.get F.AND_RESTART_VEC_ADDR = (v % 2 ^ 32 * 2 ^ 32 + lo) / 4 ∧
      OwnAcc r { s.accOf r with staged := Tab.del (s.accOf r).staged R.AND_RESTART_VEC } s t)) ∧
  (∀ (s : State) (r : Req) (v same : Nat), s.writable r R.DMP_IRQ_EN = true →
    Does (.registerWrite r R.DMP_IRQ_EN 2 v same) s [] [F.DMP_IRQ_EN_EN] (fun t => t.get F.DMP_IRQ_EN_EN = v % 2 ^ 6)) ∧
  (∀ (s : State) (r : Req) (v same : Nat), s.writable r R.KDL_ERR = true →
    Does (.registerWrite r R.KDL_ERR 2 v same) s [] [F.KDL_ERR_RST_HELD, F.KDL_ERR_CLK_LOSS, F.KDL_ERR_FALLBACK, F.KDL_ERR_FW_FAIL] (fun t =>
      ∀ i < 4, t.get ⟨R.KDL_ERR, i, 1⟩ = if bit same i then 1 else if bit v i then 0 else s.get ⟨R.KDL_ERR, i, 1⟩ % 2)) ∧
  (∀ (s : State) (r : Req) (v same : Nat), s.writable r R.DRV_GEOM = true →
    (s.getb F.DRV_CTL_LOCK = true → exec (.registerWrite r R.DRV_GEOM 2 v same) s = .next s) ∧
    (s.getb F.DRV_CTL_LOCK = false →
      Does (.registerWrite r R.DRV_GEOM 2 v same) s [] [F.DRV_GEOM_OPEN, F.DRV_GEOM_M_META, F.DRV_GEOM_M, F.DRV_GEOM_K] (fun t =>
        t.get F.DRV_GEOM_OPEN = max 1 (bits v 20 4) ∧ t.get F.DRV_GEOM_M_META = bits v 16 2 ∧ t.get F.DRV_GEOM_M = bits v 8 2 ∧
        t.get F.DRV_GEOM_K = bits v 0 5))) ∧
  (∀ (s : State) (r : Req) (o lg v same : Nat), s.writable r 0x10000 = true → lg ≤ 3 → o + 2 ^ lg ≤ 2 ^ 16 → o % 2 ^ lg = 0 →
    Does (.registerWrite r (0x10000 + o) lg v same) s [.rsram] [] (fun t =>
      ∀ j < 2 ^ 16, t.rsramByte j = if o ≤ j ∧ j < o + 2 ^ lg then BitVec.ofNat 8 (v / 2 ^ (8 * (j - o))) else s.rsramByte j)) ∧
  (∀ (s : State) (r : Req) (a lg v same : Nat), s.dbgStop r a = false →
    (s.canReach r = true → s.notReady a = true →
      Does (.registerWrite r a lg v same) s [.out] [] (fun t => t.out = .notReady (reqAgent r) a :: s.out)) ∧
    (s.canReach r = true → s.notReady a = false → (secureOnly a = true ∧ reqSecure r = false) ∨ (hostIgnored a = true ∧ reqHost r = true) →
      exec (.registerWrite r a lg v same) s = .next s) ∧
    (s.canReach r = true → s.notReady a = false → a % 2 ^ lg ≠ 0 → exec (.registerWrite r a lg v same) s = .next s) ∧
    (s.canReach r = true → s.notReady a = false → lg < 2 → ¬ (0x10000 ≤ a ∧ a < 0x20000) → inLocal a = false →
      exec (.registerWrite r a lg v same) s = .next s) ∧
    (s.canReach r = false → exec (.registerWrite r a lg v same) s = .next s)) ∧
  (∀ (s : State) (r : Req) (a lg v same : Nat) (chg : List (Nat × Nat)),
    (s.dbgStop r a = true → exec (.registerWrite r a lg v same) s = .refused .debugUnit ∧ exec (.rcFieldRead r a lg chg) s = .refused .debugUnit ∧
      exec (.lowHalfRead r a) s = .refused .debugUnit ∧ exec (.lowHalfWrite r a v) s = .refused .debugUnit) ∧
    (s.dbgStop r (a + 4) = true → exec (.highHalfRead r a) s = .refused .debugUnit ∧ exec (.highHalfWrite r a v) s = .refused .debugUnit))

/-! ### The whole block -/

/-- The command at the front of the queue is run, with the queue's rest: a step of the state with `c` in front is what `c` does to the state.
The model's choices it rests on: log entries 2 and 3. -/
def Obligations.FrontCommandRuns : Prop := ∀ (c : Instr) (s : State), step (s.send c) = exec c s

/-- No command changes the queue: whatever command is run, in whatever state, the commands that wait are the same after it.
The model's choices it rests on: log entry 3. -/
def Obligations.QueueIsLeft : Prop := ∀ (c : Instr) (s t : State), exec c s = .next t → t.pending = s.pending

/-- Every step keeps the register fields, the memories and the tables in their canonical form: register fields, DDR, grates and Stove local
memories list no zero, and their keys rise, as do those of the retained memory, the held grates, the drive table, the stripes and each merging-buffer entry,
of which each line has one. So equal contents are equal data, after any command and after any TICK cycle.
The model's choices it rests on: log entry 9. -/
def Obligations.StepKeepsMemoryForm : Prop := ∀ s t : State, s.memoryOk = true → step s = .next t → t.memoryOk = true

/-- R35: the reservations of the eight channels at reset, which leave a shared remainder of 3,840 grates. -/
def Obligations.ReservationsAtReset : Prop :=
  ((List.range 8).map (fun c => State.reset.get (F.GRT_CH_RSV_RSV c))) = [0x400, 0x400, 0x400, 0x200, 0x800, 0x600, 0x400, 0x100] ∧
  State.reset.sharedFree = 3840

/-- What the state after reset holds, and the identity codes of the TAPs.
The model's choices it rests on: log entry 9. -/
def Obligations.ResetValues : Prop :=
  /- The state after reset is in that form. -/
  (State.reset.memoryOk = true) ∧
  /- R582: the IDCODE registers of the two TAPs, the steppings apart, and their order in a scan: the compute die's first, each from bit 0. -/
  (∀ s : State,
  s.idcode false % 2 ^ 28 = 0x071609C7 ∧ s.idcode true % 2 ^ 28 = 0x071619C7 ∧
  (s.get F.GLB_ID_STEP_MAJOR = 1 → s.idcode false = 0x171609C7) ∧ (s.get F.GLB_ID_COMP_STEP = 1 → s.idcode true = 0x171619C7) ∧
  ∀ i, i < 32 → s.idcodeScan[i]? = some ((s.idcode false).testBit i) ∧ s.idcodeScan[32 + i]? = some ((s.idcode true).testBit i)) ∧
  /- R4, R34, R137, R261, R286, R355, R383, R421, R446, R469, R484, R504, R527, R552, R553, R569: what the Reset columns give, block by block. The head is in Kindling at
step 1 of a power-on episode, no domain is released, and a requester is therefore answered by no block (R24). -/
  ((∀ r : Req, State.reset.canReach r = false) ∧ State.reset.get F.GLB_MODE_MODE = 1 ∧ State.reset.get F.GLB_MODE_PREV = 0 ∧
  State.reset.get F.GLB_FAULT_CODE = 0 ∧ State.reset.get F.KDL_STS_STEP = 1 ∧ State.reset.getb F.KDL_STS_BUSY = true ∧
  State.reset.get F.KDL_STS_REACH = 1 ∧ State.reset.get F.KDL_STS_BOOT_SRC = 3 ∧ State.reset.get F.KDL_REL_STS_DOMAIN = 0 ∧
  State.reset.get F.KDL_BOOT_RES_CS0 = 0xFF ∧ State.reset.get F.KDL_BOOT_RES_CS1 = 0xFF ∧
  State.reset.getb F.DMP_CTL_HOLDUP_EN = true ∧ State.reset.getb F.DMP_CTL_THERM_EN = true ∧ State.reset.get F.DMP_HOLDUP_HOLD_US = 22200 ∧
  State.reset.get F.DMP_QCFG_RECHARGE = 50 ∧ State.reset.get F.DMP_QCFG_P1_MIN = 10 ∧ State.reset.get F.DMP_THERM_WARN = 108 ∧
  State.reset.get F.BEL_DIRTY_BOUND_LIMIT = 768 ∧ State.reset.get F.GRT_STALL_TO_TIMEOUT = 1000 ∧ State.reset.get F.GRT_SPILL_LO_LEVEL = 512 ∧
  (∀ c < 8, State.reset.get (F.GRT_CH_CAP_CAP c) = 3840) ∧ (∀ p < 2, State.reset.get (F.GRT_WIN_SLOTS_SLOTS p) = 1024 ∧
    State.reset.get (F.GRT_SLOT_TO_TIMEOUT p) = 100000 ∧ State.reset.get (F.GRT_IRQ_EN_EN p) = 15 ∧ State.reset.getb (F.HST_CTL_PORT_EN p) = true) ∧
  State.reset.get F.ICH_WB_CFG_HIGH = 48 ∧ State.reset.get F.ICH_WB_CFG_AGE = 2000 ∧ State.reset.get F.ICH_ECC_LIMIT_LIMIT = 16 ∧
  State.reset.getb F.ICH_CTL_EN = false ∧ State.reset.getb F.DDX_CTL_AUTO_SHIFT = true ∧
  (∀ n < 16, State.reset.get (F.STV_WI_TO_TIMEOUT n) = 10000 ∧ State.reset.getb (F.STV_CTL_EN n) = false) ∧
  State.reset.get F.DRV_GEOM_K = 8 ∧ State.reset.get F.DRV_GEOM_M = 2 ∧ State.reset.get F.DRV_GEOM_M_META = 2 ∧ State.reset.get F.DRV_GEOM_OPEN = 4 ∧
  State.reset.get F.DRV_CMD_TO_TIMEOUT = 2000 ∧ State.reset.get F.DRV_RBLD_CFG_SHARE = 25 ∧ State.reset.get F.JNL_CTL_LOW = 4096 ∧
  State.reset.get F.CRL_TIMERS_HB_GRACE = 4 ∧ State.reset.get F.CRL_TIMERS_REPLAY_MAX = 8 ∧ State.reset.get F.CRL_MIR_CFG_RETRY = 3 ∧
  State.reset.get F.CRL_MIR_CFG_COMMIT_TO = 500 ∧ State.reset.get F.CRL_CTL_ARB_DELAY = 5000 ∧
  State.reset.get F.TICK_CTL_SRC = 1 ∧ State.reset.get F.TICK_LIMITS_SLEW_MAX = 1000 ∧ State.reset.get F.TICK_LIMITS_SKEW_MAX = 100 ∧
  State.reset.getb F.AND_CTL_ROT_EN = true ∧ State.reset.getb F.AND_CTL_ST_EN = true ∧ State.reset.get F.AND_FB_CFG_DELAY = 1000 ∧
  State.reset.get F.HRT_WDT_TO_TIMEOUT = 1000 ∧ (∀ k < 8, State.reset.get (F.HRT_MTIMECMP_VALUE k) = 2 ^ 64 - 1) ∧
  (∀ c < 32, State.reset.get (F.MBX_CFG_SENDERS c) = (if c < 8 then 0x13FF else 0x1FFF) ∧ State.reset.get (F.MBX_CFG_TO_MS c) = 10) ∧
  State.reset.get F.SOOT_FRZ_TO_MS = 10000 ∧ State.reset.get F.SOOT_CLR_CFG_TO_S = 60 ∧ State.reset.soot.staged = [] ∧
  State.reset.get F.GLB_ID_PART = 0x7160)
end

