-- ==== Sys2Proof/Laws/Cinder.lean ====
section
/-! SUPPORT. The lengths of Cinder blocks (R210, R211). -/

namespace Sys2Proof.Machine

theorem czLe_length : ∀ n v, (leBytes n v).length = n
  | 0, _ => rfl
  | n + 1, v => by simp [leBytes, czLe_length n]

/-- A block is never longer than its header and its data. -/
theorem czBlock_length (data : Bytes) : (czBlock data).1.length ≤ 32 + data.length := by
  unfold czBlock
  dsimp only
  split
  · simp [czRaw, czHeader, zeroBytes, czLe_length]; omega
  · rename_i h
    simp [czHeader, zeroBytes, czLe_length]; omega

end Sys2Proof.Machine
end

