-- ==== Sys2Proof/Laws/Crc.lean ====
section
/-! SUPPORT. The CRC-32C in a form that evaluates byte by byte: each byte's register is known before the next byte is taken (R211). -/

namespace Sys2Proof.Machine

/-- The register after the bytes, each step forced by the test before it. -/
def crcRun : W32 → Bytes → W32
  | c, [] => c
  | c, b :: bs => if c.toNat = 0 then crcRun (crcByte 0 b) bs else crcRun (crcByte c b) bs

theorem crcRun_eq : ∀ (bs : Bytes) (c : W32), crcRun c bs = bs.foldl crcByte c
  | [], _ => rfl
  | b :: bs, c => by
    rw [crcRun, List.foldl_cons, crcRun_eq bs, crcRun_eq bs]
    split
    · rename_i h
      rw [show c = 0 from BitVec.eq_of_toNat_eq (by simpa using h)]
    · rfl

theorem crc32c_run (m : Bytes) : crc32c m = (~~~ (crcRun 0xFFFFFFFF#32 m)).toNat := by rw [crcRun_eq]; rfl

end Sys2Proof.Machine
end

