-- ==== Sys2Proof/Laws/Tab.lean ====
section
/-! SUPPORT. The laws of the sparse table: what is read after a put and a delete, and that every operation keeps the canonical form. -/

namespace Sys2Proof.Tab

variable {α : Type}

theorem find_put_same (t : Tab α) (k : Nat) (v : α) : find (put t k v) k = some v := by
  induction t with
  | nil => simp [put, find]
  | cons e t ih =>
    obtain ⟨j, w⟩ := e
    simp only [put]
    split
    · simp [find]
    · split
      · simp [find]
      · next h => simp [find, h, ih]

theorem find_put_other (t : Tab α) (k l : Nat) (v : α) (h : l ≠ k) : find (put t k v) l = find t l := by
  induction t with
  | nil => simp [put, find, Ne.symm h]
  | cons e t ih =>
    obtain ⟨j, w⟩ := e
    simp only [put]
    split
    · simp [find, Ne.symm h]
    · split
      · next hk => subst hk; simp [find, Ne.symm h]
      · simp [find, ih]

theorem find_put (t : Tab α) (k l : Nat) (v : α) : find (put t k v) l = if l = k then some v else find t l := by
  split
  · next h => subst h; exact find_put_same t l v
  · next h => exact find_put_other t k l v h

theorem find_del (t : Tab α) (k l : Nat) : find (del t k) l = if l = k then none else find t l := by
  induction t with
  | nil => simp [del, find]
  | cons e t ih =>
    obtain ⟨j, w⟩ := e
    simp only [del, find]
    split
    · next h => rw [ih]; subst h; split <;> simp_all [eq_comm]
    · next h =>
      simp only [find, ih]
      split
      · next hj => subst hj; simp [h]
      · rfl

theorem getD_put (t : Tab α) (k l : Nat) (v d : α) : getD (put t k v) l d = if l = k then v else getD t l d := by
  simp only [getD, find_put]; split <;> rfl

theorem getD_upd (t : Tab α) (k l : Nat) (d : α) (f : α → α) :
    getD (upd t k d f) l d = if l = k then f (getD t k d) else getD t l d := by
  simp [upd, getD_put]

theorem getN_putN (t : Tab Nat) (k l v : Nat) : getN (putN t k v) l = if l = k then v else getN t l := by
  unfold getN putN getD
  split
  · next h => rw [find_del]; split <;> simp [h]
  · rw [find_put]; split <;> rfl

theorem getB_putB (t : Tab Byte) (k l : Nat) (v : Byte) : getB (putB t k v) l = if l = k then v else getB t l := by
  unfold getB putB getD
  split
  · next h => rw [find_del]; split <;> simp [h]
  · rw [find_put]; split <;> rfl

/-- A byte outside the stored ones reads as before. -/
theorem getB_writeBytes_outside (t : Tab Byte) (a l : Nat) (bs : Bytes) (h : l < a ∨ a + bs.length ≤ l) :
    getB (writeBytes t a bs) l = getB t l := by
  induction bs generalizing t a with
  | nil => rfl
  | cons b bs ih =>
    simp only [List.length_cons] at h
    rw [writeBytes, ih _ _ (by omega), getB_putB, if_neg (by omega)]

/-- A stored byte reads as stored. -/
theorem getB_writeBytes_inside (t : Tab Byte) (a i : Nat) (bs : Bytes) (h : i < bs.length) :
    getB (writeBytes t a bs) (a + i) = bs[i] := by
  induction bs generalizing t a i with
  | nil => simp at h
  | cons b bs ih =>
    rw [writeBytes]
    cases i with
    | zero => rw [getB_writeBytes_outside _ _ _ _ (by omega), getB_putB]; simp
    | succ i =>
      have := ih (putB t a b) (a + 1) i (by simpa using h)
      simpa [Nat.add_assoc, Nat.add_comm 1 i] using this

/-! ### The canonical form -/

theorem sorted_cons {e : Nat × α} {t : Tab α} : sorted (e :: t) = true ↔ (∀ x ∈ t, e.1 < x.1) ∧ sorted t = true := by
  induction t generalizing e with
  | nil => simp [sorted]
  | cons b t ih =>
    obtain ⟨a, v⟩ := e
    obtain ⟨c, w⟩ := b
    simp only [sorted, Bool.and_eq_true, decide_eq_true_eq, List.mem_cons, forall_eq_or_imp]
    constructor
    · rintro ⟨h, h'⟩; exact ⟨⟨h, fun x hx => Nat.lt_trans h ((ih.mp h').1 x hx)⟩, h'⟩
    · rintro ⟨⟨h, _⟩, h'⟩; exact ⟨h, h'⟩

theorem mem_put {t : Tab α} {k : Nat} {v : α} {x : Nat × α} (h : x ∈ put t k v) : x = (k, v) ∨ x ∈ t := by
  induction t with
  | nil => simpa [put] using h
  | cons e t ih =>
    obtain ⟨j, w⟩ := e
    simp only [put] at h
    split at h
    · simpa using h
    · split at h
      · simp at h; rcases h with h | h <;> simp [h]
      · simp only [List.mem_cons] at h
        rcases h with h | h
        · simp [h]
        · rcases ih h with h | h <;> simp [h]

theorem mem_del {t : Tab α} {k : Nat} {x : Nat × α} (h : x ∈ del t k) : x ∈ t := by
  induction t with
  | nil => simp [del] at h
  | cons e t ih =>
    obtain ⟨j, w⟩ := e
    simp only [del] at h
    split at h
    · exact List.mem_cons_of_mem _ (ih h)
    · simp only [List.mem_cons] at h
      rcases h with h | h
      · simp [h]
      · simp [ih h]

theorem sorted_put {t : Tab α} (h : sorted t = true) (k : Nat) (v : α) : sorted (put t k v) = true := by
  induction t with
  | nil => simp [put, sorted]
  | cons e t ih =>
    obtain ⟨j, w⟩ := e
    have ⟨h1, h2⟩ := sorted_cons.mp h
    simp only [put]
    split
    · next hk =>
      refine sorted_cons.mpr ⟨fun x hx => ?_, h⟩
      simp only [List.mem_cons] at hx
      rcases hx with hx | hx
      · simpa [hx] using hk
      · exact Nat.lt_trans hk (h1 x hx)
    · split
      · next hj => subst hj; exact sorted_cons.mpr ⟨h1, h2⟩
      · next hj =>
        refine sorted_cons.mpr ⟨fun x hx => ?_, ih h2⟩
        rcases mem_put hx with hx | hx
        · simp only [hx]; omega
        · exact h1 x hx

theorem sorted_del {t : Tab α} (h : sorted t = true) (k : Nat) : sorted (del t k) = true := by
  induction t with
  | nil => simp [del, sorted]
  | cons e t ih =>
    obtain ⟨j, w⟩ := e
    have ⟨h1, h2⟩ := sorted_cons.mp h
    simp only [del]
    split
    · exact ih h2
    · exact sorted_cons.mpr ⟨fun x hx => h1 x (mem_del hx), ih h2⟩

theorem sorted_filter {t : Tab α} (h : sorted t = true) (p : Nat × α → Bool) : sorted (t.filter p) = true := by
  induction t with
  | nil => simp [sorted]
  | cons e t ih =>
    have ⟨h1, h2⟩ := sorted_cons.mp h
    rw [List.filter_cons]
    split
    · exact sorted_cons.mpr ⟨fun x hx => h1 x (List.mem_filter.mp hx).1, ih h2⟩
    · exact ih h2

theorem wfN_putN {t : Tab Nat} (h : wfN t = true) (k v : Nat) : wfN (putN t k v) = true := by
  simp only [wfN, Bool.and_eq_true, List.all_eq_true] at h ⊢
  unfold putN
  split
  · exact ⟨sorted_del h.1 k, fun x hx => h.2 x (mem_del hx)⟩
  · refine ⟨sorted_put h.1 k v, fun x hx => ?_⟩
    rcases mem_put hx with hx | hx
    · simpa [hx]
    · exact h.2 x hx

theorem wfN_filter {t : Tab Nat} (h : wfN t = true) (p : Nat × Nat → Bool) : wfN (t.filter p) = true := by
  simp only [wfN, Bool.and_eq_true, List.all_eq_true] at h ⊢
  exact ⟨sorted_filter h.1 p, fun x hx => h.2 x (List.mem_filter.mp hx).1⟩

theorem wfB_putB {t : Tab Byte} (h : wfB t = true) (k : Nat) (v : Byte) : wfB (putB t k v) = true := by
  simp only [wfB, Bool.and_eq_true, List.all_eq_true] at h ⊢
  unfold putB
  split
  · exact ⟨sorted_del h.1 k, fun x hx => h.2 x (mem_del hx)⟩
  · refine ⟨sorted_put h.1 k v, fun x hx => ?_⟩
    rcases mem_put hx with hx | hx
    · simpa [hx]
    · exact h.2 x hx

theorem wfB_writeBytes {t : Tab Byte} (h : wfB t = true) (a : Nat) (bs : Bytes) : wfB (writeBytes t a bs) = true := by
  induction bs generalizing t a with
  | nil => exact h
  | cons b bs ih => exact ih (wfB_putB h a b) (a + 1)

end Sys2Proof.Tab
end

