-- ==== Sys2Proof/Laws/State.lean ====
section
/-! SUPPORT. What each update of the state leaves: one lemma per field per update, and what a register field reads after a write. -/

namespace Sys2Proof.Machine

variable (s : State)

@[simp] theorem State.set_acc (f : Fld) (v : Nat) : (s.set f v).acc = s.acc := rfl
@[simp] theorem State.set_soot (f : Fld) (v : Nat) : (s.set f v).soot = s.soot := rfl
@[simp] theorem State.set_hrt (f : Fld) (v : Nat) : (s.set f v).hrt = s.hrt := rfl
@[simp] theorem State.set_kdl (f : Fld) (v : Nat) : (s.set f v).kdl = s.kdl := rfl
@[simp] theorem State.set_mode (f : Fld) (v : Nat) : (s.set f v).mode = s.mode := rfl
@[simp] theorem State.set_dmp (f : Fld) (v : Nat) : (s.set f v).dmp = s.dmp := rfl
@[simp] theorem State.set_tick (f : Fld) (v : Nat) : (s.set f v).tick = s.tick := rfl
@[simp] theorem State.set_and (f : Fld) (v : Nat) : (s.set f v).and = s.and := rfl
@[simp] theorem State.set_jnl (f : Fld) (v : Nat) : (s.set f v).jnl = s.jnl := rfl
@[simp] theorem State.set_crl (f : Fld) (v : Nat) : (s.set f v).crl = s.crl := rfl
@[simp] theorem State.set_pool (f : Fld) (v : Nat) : (s.set f v).pool = s.pool := rfl
@[simp] theorem State.set_ports (f : Fld) (v : Nat) : (s.set f v).ports = s.ports := rfl
@[simp] theorem State.set_bel (f : Fld) (v : Nat) : (s.set f v).bel = s.bel := rfl
@[simp] theorem State.set_wins (f : Fld) (v : Nat) : (s.set f v).wins = s.wins := rfl
@[simp] theorem State.set_stoves (f : Fld) (v : Nat) : (s.set f v).stoves = s.stoves := rfl
@[simp] theorem State.set_ddx (f : Fld) (v : Nat) : (s.set f v).ddx = s.ddx := rfl
@[simp] theorem State.set_ich (f : Fld) (v : Nat) : (s.set f v).ich = s.ich := rfl
@[simp] theorem State.set_keys (f : Fld) (v : Nat) : (s.set f v).keys = s.keys := rfl
@[simp] theorem State.set_drv (f : Fld) (v : Nat) : (s.set f v).drv = s.drv := rfl
@[simp] theorem State.set_fwq (f : Fld) (v : Nat) : (s.set f v).fwq = s.fwq := rfl
@[simp] theorem State.set_heldItems (f : Fld) (v : Nat) : (s.set f v).heldItems = s.heldItems := rfl
@[simp] theorem State.set_ddr (f : Fld) (v : Nat) : (s.set f v).ddr = s.ddr := rfl
@[simp] theorem State.set_grates (f : Fld) (v : Nat) : (s.set f v).grates = s.grates := rfl
@[simp] theorem State.set_rsram (f : Fld) (v : Nat) : (s.set f v).rsram = s.rsram := rfl
@[simp] theorem State.set_agentq (f : Fld) (v : Nat) : (s.set f v).agentq = s.agentq := rfl
@[simp] theorem State.set_out (f : Fld) (v : Nat) : (s.set f v).out = s.out := rfl
@[simp] theorem State.set_freeCtr (f : Fld) (v : Nat) : (s.set f v).freeCtr = s.freeCtr := rfl
@[simp] theorem State.set_pending (f : Fld) (v : Nat) : (s.set f v).pending = s.pending := rfl

@[simp] theorem State.emit_regs (o : Out) : (s.emit o).regs = s.regs := rfl
@[simp] theorem State.emit_acc (o : Out) : (s.emit o).acc = s.acc := rfl
@[simp] theorem State.emit_soot (o : Out) : (s.emit o).soot = s.soot := rfl
@[simp] theorem State.emit_hrt (o : Out) : (s.emit o).hrt = s.hrt := rfl
@[simp] theorem State.emit_kdl (o : Out) : (s.emit o).kdl = s.kdl := rfl
@[simp] theorem State.emit_mode (o : Out) : (s.emit o).mode = s.mode := rfl
@[simp] theorem State.emit_dmp (o : Out) : (s.emit o).dmp = s.dmp := rfl
@[simp] theorem State.emit_tick (o : Out) : (s.emit o).tick = s.tick := rfl
@[simp] theorem State.emit_and (o : Out) : (s.emit o).and = s.and := rfl
@[simp] theorem State.emit_jnl (o : Out) : (s.emit o).jnl = s.jnl := rfl
@[simp] theorem State.emit_crl (o : Out) : (s.emit o).crl = s.crl := rfl
@[simp] theorem State.emit_pool (o : Out) : (s.emit o).pool = s.pool := rfl
@[simp] theorem State.emit_ports (o : Out) : (s.emit o).ports = s.ports := rfl
@[simp] theorem State.emit_bel (o : Out) : (s.emit o).bel = s.bel := rfl
@[simp] theorem State.emit_wins (o : Out) : (s.emit o).wins = s.wins := rfl
@[simp] theorem State.emit_stoves (o : Out) : (s.emit o).stoves = s.stoves := rfl
@[simp] theorem State.emit_ddx (o : Out) : (s.emit o).ddx = s.ddx := rfl
@[simp] theorem State.emit_ich (o : Out) : (s.emit o).ich = s.ich := rfl
@[simp] theorem State.emit_keys (o : Out) : (s.emit o).keys = s.keys := rfl
@[simp] theorem State.emit_drv (o : Out) : (s.emit o).drv = s.drv := rfl
@[simp] theorem State.emit_fwq (o : Out) : (s.emit o).fwq = s.fwq := rfl
@[simp] theorem State.emit_heldItems (o : Out) : (s.emit o).heldItems = s.heldItems := rfl
@[simp] theorem State.emit_ddr (o : Out) : (s.emit o).ddr = s.ddr := rfl
@[simp] theorem State.emit_grates (o : Out) : (s.emit o).grates = s.grates := rfl
@[simp] theorem State.emit_rsram (o : Out) : (s.emit o).rsram = s.rsram := rfl
@[simp] theorem State.emit_agentq (o : Out) : (s.emit o).agentq = s.agentq := rfl
@[simp] theorem State.emit_freeCtr (o : Out) : (s.emit o).freeCtr = s.freeCtr := rfl
@[simp] theorem State.emit_pending (o : Out) : (s.emit o).pending = s.pending := rfl
@[simp] theorem State.get_emit (o : Out) (g : Fld) : (s.emit o).get g = s.get g := rfl

@[simp] theorem State.taken_regs (n : Nat) : (s.taken n).regs = s.regs := rfl
@[simp] theorem State.taken_acc (n : Nat) : (s.taken n).acc = s.acc := rfl
@[simp] theorem State.taken_soot (n : Nat) : (s.taken n).soot = s.soot := rfl
@[simp] theorem State.taken_hrt (n : Nat) : (s.taken n).hrt = s.hrt := rfl
@[simp] theorem State.taken_kdl (n : Nat) : (s.taken n).kdl = s.kdl := rfl
@[simp] theorem State.taken_mode (n : Nat) : (s.taken n).mode = s.mode := rfl
@[simp] theorem State.taken_dmp (n : Nat) : (s.taken n).dmp = s.dmp := rfl
@[simp] theorem State.taken_tick (n : Nat) : (s.taken n).tick = s.tick := rfl
@[simp] theorem State.taken_and (n : Nat) : (s.taken n).and = s.and := rfl
@[simp] theorem State.taken_jnl (n : Nat) : (s.taken n).jnl = s.jnl := rfl
@[simp] theorem State.taken_crl (n : Nat) : (s.taken n).crl = s.crl := rfl
@[simp] theorem State.taken_pool (n : Nat) : (s.taken n).pool = s.pool := rfl
@[simp] theorem State.taken_ports (n : Nat) : (s.taken n).ports = s.ports := rfl
@[simp] theorem State.taken_bel (n : Nat) : (s.taken n).bel = s.bel := rfl
@[simp] theorem State.taken_wins (n : Nat) : (s.taken n).wins = s.wins := rfl
@[simp] theorem State.taken_stoves (n : Nat) : (s.taken n).stoves = s.stoves := rfl
@[simp] theorem State.taken_ddx (n : Nat) : (s.taken n).ddx = s.ddx := rfl
@[simp] theorem State.taken_ich (n : Nat) : (s.taken n).ich = s.ich := rfl
@[simp] theorem State.taken_keys (n : Nat) : (s.taken n).keys = s.keys := rfl
@[simp] theorem State.taken_drv (n : Nat) : (s.taken n).drv = s.drv := rfl
@[simp] theorem State.taken_fwq (n : Nat) : (s.taken n).fwq = s.fwq := rfl
@[simp] theorem State.taken_heldItems (n : Nat) : (s.taken n).heldItems = s.heldItems := rfl
@[simp] theorem State.taken_ddr (n : Nat) : (s.taken n).ddr = s.ddr := rfl
@[simp] theorem State.taken_grates (n : Nat) : (s.taken n).grates = s.grates := rfl
@[simp] theorem State.taken_rsram (n : Nat) : (s.taken n).rsram = s.rsram := rfl
@[simp] theorem State.taken_agentq (n : Nat) : (s.taken n).agentq = s.agentq := rfl
@[simp] theorem State.taken_out (n : Nat) : (s.taken n).out = s.out := rfl
@[simp] theorem State.taken_pending (n : Nat) : (s.taken n).pending = s.pending := rfl
@[simp] theorem State.get_taken (n : Nat) (g : Fld) : (s.taken n).get g = s.get g := rfl

@[simp] theorem State.updPort_regs (p : Nat) (f : HostPort → HostPort) : (s.updPort p f).regs = s.regs := rfl
@[simp] theorem State.updPort_acc (p : Nat) (f : HostPort → HostPort) : (s.updPort p f).acc = s.acc := rfl
@[simp] theorem State.updPort_soot (p : Nat) (f : HostPort → HostPort) : (s.updPort p f).soot = s.soot := rfl
@[simp] theorem State.updPort_hrt (p : Nat) (f : HostPort → HostPort) : (s.updPort p f).hrt = s.hrt := rfl
@[simp] theorem State.updPort_kdl (p : Nat) (f : HostPort → HostPort) : (s.updPort p f).kdl = s.kdl := rfl
@[simp] theorem State.updPort_mode (p : Nat) (f : HostPort → HostPort) : (s.updPort p f).mode = s.mode := rfl
@[simp] theorem State.updPort_dmp (p : Nat) (f : HostPort → HostPort) : (s.updPort p f).dmp = s.dmp := rfl
@[simp] theorem State.updPort_tick (p : Nat) (f : HostPort → HostPort) : (s.updPort p f).tick = s.tick := rfl
@[simp] theorem State.updPort_and (p : Nat) (f : HostPort → HostPort) : (s.updPort p f).and = s.and := rfl
@[simp] theorem State.updPort_jnl (p : Nat) (f : HostPort → HostPort) : (s.updPort p f).jnl = s.jnl := rfl
@[simp] theorem State.updPort_crl (p : Nat) (f : HostPort → HostPort) : (s.updPort p f).crl = s.crl := rfl
@[simp] theorem State.updPort_pool (p : Nat) (f : HostPort → HostPort) : (s.updPort p f).pool = s.pool := rfl
@[simp] theorem State.updPort_bel (p : Nat) (f : HostPort → HostPort) : (s.updPort p f).bel = s.bel := rfl
@[simp] theorem State.updPort_wins (p : Nat) (f : HostPort → HostPort) : (s.updPort p f).wins = s.wins := rfl
@[simp] theorem State.updPort_stoves (p : Nat) (f : HostPort → HostPort) : (s.updPort p f).stoves = s.stoves := rfl
@[simp] theorem State.updPort_ddx (p : Nat) (f : HostPort → HostPort) : (s.updPort p f).ddx = s.ddx := rfl
@[simp] theorem State.updPort_ich (p : Nat) (f : HostPort → HostPort) : (s.updPort p f).ich = s.ich := rfl
@[simp] theorem State.updPort_keys (p : Nat) (f : HostPort → HostPort) : (s.updPort p f).keys = s.keys := rfl
@[simp] theorem State.updPort_drv (p : Nat) (f : HostPort → HostPort) : (s.updPort p f).drv = s.drv := rfl
@[simp] theorem State.updPort_fwq (p : Nat) (f : HostPort → HostPort) : (s.updPort p f).fwq = s.fwq := rfl
@[simp] theorem State.updPort_heldItems (p : Nat) (f : HostPort → HostPort) : (s.updPort p f).heldItems = s.heldItems := rfl
@[simp] theorem State.updPort_ddr (p : Nat) (f : HostPort → HostPort) : (s.updPort p f).ddr = s.ddr := rfl
@[simp] theorem State.updPort_grates (p : Nat) (f : HostPort → HostPort) : (s.updPort p f).grates = s.grates := rfl
@[simp] theorem State.updPort_rsram (p : Nat) (f : HostPort → HostPort) : (s.updPort p f).rsram = s.rsram := rfl
@[simp] theorem State.updPort_agentq (p : Nat) (f : HostPort → HostPort) : (s.updPort p f).agentq = s.agentq := rfl
@[simp] theorem State.updPort_out (p : Nat) (f : HostPort → HostPort) : (s.updPort p f).out = s.out := rfl
@[simp] theorem State.updPort_freeCtr (p : Nat) (f : HostPort → HostPort) : (s.updPort p f).freeCtr = s.freeCtr := rfl
@[simp] theorem State.updPort_pending (p : Nat) (f : HostPort → HostPort) : (s.updPort p f).pending = s.pending := rfl
@[simp] theorem State.get_updPort (p : Nat) (f : HostPort → HostPort) (g : Fld) : (s.updPort p f).get g = s.get g := rfl

@[simp] theorem State.updPool_regs (f : PoolSt → PoolSt) : (s.updPool f).regs = s.regs := rfl
@[simp] theorem State.updPool_acc (f : PoolSt → PoolSt) : (s.updPool f).acc = s.acc := rfl
@[simp] theorem State.updPool_soot (f : PoolSt → PoolSt) : (s.updPool f).soot = s.soot := rfl
@[simp] theorem State.updPool_hrt (f : PoolSt → PoolSt) : (s.updPool f).hrt = s.hrt := rfl
@[simp] theorem State.updPool_kdl (f : PoolSt → PoolSt) : (s.updPool f).kdl = s.kdl := rfl
@[simp] theorem State.updPool_mode (f : PoolSt → PoolSt) : (s.updPool f).mode = s.mode := rfl
@[simp] theorem State.updPool_dmp (f : PoolSt → PoolSt) : (s.updPool f).dmp = s.dmp := rfl
@[simp] theorem State.updPool_tick (f : PoolSt → PoolSt) : (s.updPool f).tick = s.tick := rfl
@[simp] theorem State.updPool_and (f : PoolSt → PoolSt) : (s.updPool f).and = s.and := rfl
@[simp] theorem State.updPool_jnl (f : PoolSt → PoolSt) : (s.updPool f).jnl = s.jnl := rfl
@[simp] theorem State.updPool_crl (f : PoolSt → PoolSt) : (s.updPool f).crl = s.crl := rfl
@[simp] theorem State.updPool_ports (f : PoolSt → PoolSt) : (s.updPool f).ports = s.ports := rfl
@[simp] theorem State.updPool_bel (f : PoolSt → PoolSt) : (s.updPool f).bel = s.bel := rfl
@[simp] theorem State.updPool_wins (f : PoolSt → PoolSt) : (s.updPool f).wins = s.wins := rfl
@[simp] theorem State.updPool_stoves (f : PoolSt → PoolSt) : (s.updPool f).stoves = s.stoves := rfl
@[simp] theorem State.updPool_ddx (f : PoolSt → PoolSt) : (s.updPool f).ddx = s.ddx := rfl
@[simp] theorem State.updPool_ich (f : PoolSt → PoolSt) : (s.updPool f).ich = s.ich := rfl
@[simp] theorem State.updPool_keys (f : PoolSt → PoolSt) : (s.updPool f).keys = s.keys := rfl
@[simp] theorem State.updPool_drv (f : PoolSt → PoolSt) : (s.updPool f).drv = s.drv := rfl
@[simp] theorem State.updPool_fwq (f : PoolSt → PoolSt) : (s.updPool f).fwq = s.fwq := rfl
@[simp] theorem State.updPool_heldItems (f : PoolSt → PoolSt) : (s.updPool f).heldItems = s.heldItems := rfl
@[simp] theorem State.updPool_ddr (f : PoolSt → PoolSt) : (s.updPool f).ddr = s.ddr := rfl
@[simp] theorem State.updPool_grates (f : PoolSt → PoolSt) : (s.updPool f).grates = s.grates := rfl
@[simp] theorem State.updPool_rsram (f : PoolSt → PoolSt) : (s.updPool f).rsram = s.rsram := rfl
@[simp] theorem State.updPool_agentq (f : PoolSt → PoolSt) : (s.updPool f).agentq = s.agentq := rfl
@[simp] theorem State.updPool_out (f : PoolSt → PoolSt) : (s.updPool f).out = s.out := rfl
@[simp] theorem State.updPool_freeCtr (f : PoolSt → PoolSt) : (s.updPool f).freeCtr = s.freeCtr := rfl
@[simp] theorem State.updPool_pending (f : PoolSt → PoolSt) : (s.updPool f).pending = s.pending := rfl
@[simp] theorem State.get_updPool (f : PoolSt → PoolSt) (g : Fld) : (s.updPool f).get g = s.get g := rfl
@[simp] theorem State.updPool_same (f : PoolSt → PoolSt) : (s.updPool f).pool = f s.pool := rfl

@[simp] theorem State.updTick_regs (f : TickSt → TickSt) : (s.updTick f).regs = s.regs := rfl
@[simp] theorem State.updTick_acc (f : TickSt → TickSt) : (s.updTick f).acc = s.acc := rfl
@[simp] theorem State.updTick_soot (f : TickSt → TickSt) : (s.updTick f).soot = s.soot := rfl
@[simp] theorem State.updTick_hrt (f : TickSt → TickSt) : (s.updTick f).hrt = s.hrt := rfl
@[simp] theorem State.updTick_kdl (f : TickSt → TickSt) : (s.updTick f).kdl = s.kdl := rfl
@[simp] theorem State.updTick_mode (f : TickSt → TickSt) : (s.updTick f).mode = s.mode := rfl
@[simp] theorem State.updTick_dmp (f : TickSt → TickSt) : (s.updTick f).dmp = s.dmp := rfl
@[simp] theorem State.updTick_and (f : TickSt → TickSt) : (s.updTick f).and = s.and := rfl
@[simp] theorem State.updTick_jnl (f : TickSt → TickSt) : (s.updTick f).jnl = s.jnl := rfl
@[simp] theorem State.updTick_crl (f : TickSt → TickSt) : (s.updTick f).crl = s.crl := rfl
@[simp] theorem State.updTick_pool (f : TickSt → TickSt) : (s.updTick f).pool = s.pool := rfl
@[simp] theorem State.updTick_ports (f : TickSt → TickSt) : (s.updTick f).ports = s.ports := rfl
@[simp] theorem State.updTick_bel (f : TickSt → TickSt) : (s.updTick f).bel = s.bel := rfl
@[simp] theorem State.updTick_wins (f : TickSt → TickSt) : (s.updTick f).wins = s.wins := rfl
@[simp] theorem State.updTick_stoves (f : TickSt → TickSt) : (s.updTick f).stoves = s.stoves := rfl
@[simp] theorem State.updTick_ddx (f : TickSt → TickSt) : (s.updTick f).ddx = s.ddx := rfl
@[simp] theorem State.updTick_ich (f : TickSt → TickSt) : (s.updTick f).ich = s.ich := rfl
@[simp] theorem State.updTick_keys (f : TickSt → TickSt) : (s.updTick f).keys = s.keys := rfl
@[simp] theorem State.updTick_drv (f : TickSt → TickSt) : (s.updTick f).drv = s.drv := rfl
@[simp] theorem State.updTick_fwq (f : TickSt → TickSt) : (s.updTick f).fwq = s.fwq := rfl
@[simp] theorem State.updTick_heldItems (f : TickSt → TickSt) : (s.updTick f).heldItems = s.heldItems := rfl
@[simp] theorem State.updTick_ddr (f : TickSt → TickSt) : (s.updTick f).ddr = s.ddr := rfl
@[simp] theorem State.updTick_grates (f : TickSt → TickSt) : (s.updTick f).grates = s.grates := rfl
@[simp] theorem State.updTick_rsram (f : TickSt → TickSt) : (s.updTick f).rsram = s.rsram := rfl
@[simp] theorem State.updTick_agentq (f : TickSt → TickSt) : (s.updTick f).agentq = s.agentq := rfl
@[simp] theorem State.updTick_out (f : TickSt → TickSt) : (s.updTick f).out = s.out := rfl
@[simp] theorem State.updTick_freeCtr (f : TickSt → TickSt) : (s.updTick f).freeCtr = s.freeCtr := rfl
@[simp] theorem State.updTick_pending (f : TickSt → TickSt) : (s.updTick f).pending = s.pending := rfl
@[simp] theorem State.get_updTick (f : TickSt → TickSt) (g : Fld) : (s.updTick f).get g = s.get g := rfl
@[simp] theorem State.updTick_same (f : TickSt → TickSt) : (s.updTick f).tick = f s.tick := rfl

@[simp] theorem State.updBel_regs (f : BelSt → BelSt) : (s.updBel f).regs = s.regs := rfl
@[simp] theorem State.updBel_acc (f : BelSt → BelSt) : (s.updBel f).acc = s.acc := rfl
@[simp] theorem State.updBel_soot (f : BelSt → BelSt) : (s.updBel f).soot = s.soot := rfl
@[simp] theorem State.updBel_hrt (f : BelSt → BelSt) : (s.updBel f).hrt = s.hrt := rfl
@[simp] theorem State.updBel_kdl (f : BelSt → BelSt) : (s.updBel f).kdl = s.kdl := rfl
@[simp] theorem State.updBel_mode (f : BelSt → BelSt) : (s.updBel f).mode = s.mode := rfl
@[simp] theorem State.updBel_dmp (f : BelSt → BelSt) : (s.updBel f).dmp = s.dmp := rfl
@[simp] theorem State.updBel_tick (f : BelSt → BelSt) : (s.updBel f).tick = s.tick := rfl
@[simp] theorem State.updBel_and (f : BelSt → BelSt) : (s.updBel f).and = s.and := rfl
@[simp] theorem State.updBel_jnl (f : BelSt → BelSt) : (s.updBel f).jnl = s.jnl := rfl
@[simp] theorem State.updBel_crl (f : BelSt → BelSt) : (s.updBel f).crl = s.crl := rfl
@[simp] theorem State.updBel_pool (f : BelSt → BelSt) : (s.updBel f).pool = s.pool := rfl
@[simp] theorem State.updBel_ports (f : BelSt → BelSt) : (s.updBel f).ports = s.ports := rfl
@[simp] theorem State.updBel_wins (f : BelSt → BelSt) : (s.updBel f).wins = s.wins := rfl
@[simp] theorem State.updBel_stoves (f : BelSt → BelSt) : (s.updBel f).stoves = s.stoves := rfl
@[simp] theorem State.updBel_ddx (f : BelSt → BelSt) : (s.updBel f).ddx = s.ddx := rfl
@[simp] theorem State.updBel_ich (f : BelSt → BelSt) : (s.updBel f).ich = s.ich := rfl
@[simp] theorem State.updBel_keys (f : BelSt → BelSt) : (s.updBel f).keys = s.keys := rfl
@[simp] theorem State.updBel_drv (f : BelSt → BelSt) : (s.updBel f).drv = s.drv := rfl
@[simp] theorem State.updBel_fwq (f : BelSt → BelSt) : (s.updBel f).fwq = s.fwq := rfl
@[simp] theorem State.updBel_heldItems (f : BelSt → BelSt) : (s.updBel f).heldItems = s.heldItems := rfl
@[simp] theorem State.updBel_ddr (f : BelSt → BelSt) : (s.updBel f).ddr = s.ddr := rfl
@[simp] theorem State.updBel_grates (f : BelSt → BelSt) : (s.updBel f).grates = s.grates := rfl
@[simp] theorem State.updBel_rsram (f : BelSt → BelSt) : (s.updBel f).rsram = s.rsram := rfl
@[simp] theorem State.updBel_agentq (f : BelSt → BelSt) : (s.updBel f).agentq = s.agentq := rfl
@[simp] theorem State.updBel_out (f : BelSt → BelSt) : (s.updBel f).out = s.out := rfl
@[simp] theorem State.updBel_freeCtr (f : BelSt → BelSt) : (s.updBel f).freeCtr = s.freeCtr := rfl
@[simp] theorem State.updBel_pending (f : BelSt → BelSt) : (s.updBel f).pending = s.pending := rfl
@[simp] theorem State.get_updBel (f : BelSt → BelSt) (g : Fld) : (s.updBel f).get g = s.get g := rfl
@[simp] theorem State.updBel_same (f : BelSt → BelSt) : (s.updBel f).bel = f s.bel := rfl

@[simp] theorem State.updCrl_regs (f : CrlSt → CrlSt) : (s.updCrl f).regs = s.regs := rfl
@[simp] theorem State.updCrl_acc (f : CrlSt → CrlSt) : (s.updCrl f).acc = s.acc := rfl
@[simp] theorem State.updCrl_soot (f : CrlSt → CrlSt) : (s.updCrl f).soot = s.soot := rfl
@[simp] theorem State.updCrl_hrt (f : CrlSt → CrlSt) : (s.updCrl f).hrt = s.hrt := rfl
@[simp] theorem State.updCrl_kdl (f : CrlSt → CrlSt) : (s.updCrl f).kdl = s.kdl := rfl
@[simp] theorem State.updCrl_mode (f : CrlSt → CrlSt) : (s.updCrl f).mode = s.mode := rfl
@[simp] theorem State.updCrl_dmp (f : CrlSt → CrlSt) : (s.updCrl f).dmp = s.dmp := rfl
@[simp] theorem State.updCrl_tick (f : CrlSt → CrlSt) : (s.updCrl f).tick = s.tick := rfl
@[simp] theorem State.updCrl_and (f : CrlSt → CrlSt) : (s.updCrl f).and = s.and := rfl
@[simp] theorem State.updCrl_jnl (f : CrlSt → CrlSt) : (s.updCrl f).jnl = s.jnl := rfl
@[simp] theorem State.updCrl_pool (f : CrlSt → CrlSt) : (s.updCrl f).pool = s.pool := rfl
@[simp] theorem State.updCrl_ports (f : CrlSt → CrlSt) : (s.updCrl f).ports = s.ports := rfl
@[simp] theorem State.updCrl_bel (f : CrlSt → CrlSt) : (s.updCrl f).bel = s.bel := rfl
@[simp] theorem State.updCrl_wins (f : CrlSt → CrlSt) : (s.updCrl f).wins = s.wins := rfl
@[simp] theorem State.updCrl_stoves (f : CrlSt → CrlSt) : (s.updCrl f).stoves = s.stoves := rfl
@[simp] theorem State.updCrl_ddx (f : CrlSt → CrlSt) : (s.updCrl f).ddx = s.ddx := rfl
@[simp] theorem State.updCrl_ich (f : CrlSt → CrlSt) : (s.updCrl f).ich = s.ich := rfl
@[simp] theorem State.updCrl_keys (f : CrlSt → CrlSt) : (s.updCrl f).keys = s.keys := rfl
@[simp] theorem State.updCrl_drv (f : CrlSt → CrlSt) : (s.updCrl f).drv = s.drv := rfl
@[simp] theorem State.updCrl_fwq (f : CrlSt → CrlSt) : (s.updCrl f).fwq = s.fwq := rfl
@[simp] theorem State.updCrl_heldItems (f : CrlSt → CrlSt) : (s.updCrl f).heldItems = s.heldItems := rfl
@[simp] theorem State.updCrl_ddr (f : CrlSt → CrlSt) : (s.updCrl f).ddr = s.ddr := rfl
@[simp] theorem State.updCrl_grates (f : CrlSt → CrlSt) : (s.updCrl f).grates = s.grates := rfl
@[simp] theorem State.updCrl_rsram (f : CrlSt → CrlSt) : (s.updCrl f).rsram = s.rsram := rfl
@[simp] theorem State.updCrl_agentq (f : CrlSt → CrlSt) : (s.updCrl f).agentq = s.agentq := rfl
@[simp] theorem State.updCrl_out (f : CrlSt → CrlSt) : (s.updCrl f).out = s.out := rfl
@[simp] theorem State.updCrl_freeCtr (f : CrlSt → CrlSt) : (s.updCrl f).freeCtr = s.freeCtr := rfl
@[simp] theorem State.updCrl_pending (f : CrlSt → CrlSt) : (s.updCrl f).pending = s.pending := rfl
@[simp] theorem State.get_updCrl (f : CrlSt → CrlSt) (g : Fld) : (s.updCrl f).get g = s.get g := rfl
@[simp] theorem State.updCrl_same (f : CrlSt → CrlSt) : (s.updCrl f).crl = f s.crl := rfl

@[simp] theorem State.updDmp_regs (f : DmpSt → DmpSt) : (s.updDmp f).regs = s.regs := rfl
@[simp] theorem State.updDmp_acc (f : DmpSt → DmpSt) : (s.updDmp f).acc = s.acc := rfl
@[simp] theorem State.updDmp_soot (f : DmpSt → DmpSt) : (s.updDmp f).soot = s.soot := rfl
@[simp] theorem State.updDmp_hrt (f : DmpSt → DmpSt) : (s.updDmp f).hrt = s.hrt := rfl
@[simp] theorem State.updDmp_kdl (f : DmpSt → DmpSt) : (s.updDmp f).kdl = s.kdl := rfl
@[simp] theorem State.updDmp_mode (f : DmpSt → DmpSt) : (s.updDmp f).mode = s.mode := rfl
@[simp] theorem State.updDmp_tick (f : DmpSt → DmpSt) : (s.updDmp f).tick = s.tick := rfl
@[simp] theorem State.updDmp_and (f : DmpSt → DmpSt) : (s.updDmp f).and = s.and := rfl
@[simp] theorem State.updDmp_jnl (f : DmpSt → DmpSt) : (s.updDmp f).jnl = s.jnl := rfl
@[simp] theorem State.updDmp_crl (f : DmpSt → DmpSt) : (s.updDmp f).crl = s.crl := rfl
@[simp] theorem State.updDmp_pool (f : DmpSt → DmpSt) : (s.updDmp f).pool = s.pool := rfl
@[simp] theorem State.updDmp_ports (f : DmpSt → DmpSt) : (s.updDmp f).ports = s.ports := rfl
@[simp] theorem State.updDmp_bel (f : DmpSt → DmpSt) : (s.updDmp f).bel = s.bel := rfl
@[simp] theorem State.updDmp_wins (f : DmpSt → DmpSt) : (s.updDmp f).wins = s.wins := rfl
@[simp] theorem State.updDmp_stoves (f : DmpSt → DmpSt) : (s.updDmp f).stoves = s.stoves := rfl
@[simp] theorem State.updDmp_ddx (f : DmpSt → DmpSt) : (s.updDmp f).ddx = s.ddx := rfl
@[simp] theorem State.updDmp_ich (f : DmpSt → DmpSt) : (s.updDmp f).ich = s.ich := rfl
@[simp] theorem State.updDmp_keys (f : DmpSt → DmpSt) : (s.updDmp f).keys = s.keys := rfl
@[simp] theorem State.updDmp_drv (f : DmpSt → DmpSt) : (s.updDmp f).drv = s.drv := rfl
@[simp] theorem State.updDmp_fwq (f : DmpSt → DmpSt) : (s.updDmp f).fwq = s.fwq := rfl
@[simp] theorem State.updDmp_heldItems (f : DmpSt → DmpSt) : (s.updDmp f).heldItems = s.heldItems := rfl
@[simp] theorem State.updDmp_ddr (f : DmpSt → DmpSt) : (s.updDmp f).ddr = s.ddr := rfl
@[simp] theorem State.updDmp_grates (f : DmpSt → DmpSt) : (s.updDmp f).grates = s.grates := rfl
@[simp] theorem State.updDmp_rsram (f : DmpSt → DmpSt) : (s.updDmp f).rsram = s.rsram := rfl
@[simp] theorem State.updDmp_agentq (f : DmpSt → DmpSt) : (s.updDmp f).agentq = s.agentq := rfl
@[simp] theorem State.updDmp_out (f : DmpSt → DmpSt) : (s.updDmp f).out = s.out := rfl
@[simp] theorem State.updDmp_freeCtr (f : DmpSt → DmpSt) : (s.updDmp f).freeCtr = s.freeCtr := rfl
@[simp] theorem State.updDmp_pending (f : DmpSt → DmpSt) : (s.updDmp f).pending = s.pending := rfl
@[simp] theorem State.get_updDmp (f : DmpSt → DmpSt) (g : Fld) : (s.updDmp f).get g = s.get g := rfl
@[simp] theorem State.updDmp_same (f : DmpSt → DmpSt) : (s.updDmp f).dmp = f s.dmp := rfl

@[simp] theorem State.updDdx_regs (f : DdxSt → DdxSt) : (s.updDdx f).regs = s.regs := rfl
@[simp] theorem State.updDdx_acc (f : DdxSt → DdxSt) : (s.updDdx f).acc = s.acc := rfl
@[simp] theorem State.updDdx_soot (f : DdxSt → DdxSt) : (s.updDdx f).soot = s.soot := rfl
@[simp] theorem State.updDdx_hrt (f : DdxSt → DdxSt) : (s.updDdx f).hrt = s.hrt := rfl
@[simp] theorem State.updDdx_kdl (f : DdxSt → DdxSt) : (s.updDdx f).kdl = s.kdl := rfl
@[simp] theorem State.updDdx_mode (f : DdxSt → DdxSt) : (s.updDdx f).mode = s.mode := rfl
@[simp] theorem State.updDdx_dmp (f : DdxSt → DdxSt) : (s.updDdx f).dmp = s.dmp := rfl
@[simp] theorem State.updDdx_tick (f : DdxSt → DdxSt) : (s.updDdx f).tick = s.tick := rfl
@[simp] theorem State.updDdx_and (f : DdxSt → DdxSt) : (s.updDdx f).and = s.and := rfl
@[simp] theorem State.updDdx_jnl (f : DdxSt → DdxSt) : (s.updDdx f).jnl = s.jnl := rfl
@[simp] theorem State.updDdx_crl (f : DdxSt → DdxSt) : (s.updDdx f).crl = s.crl := rfl
@[simp] theorem State.updDdx_pool (f : DdxSt → DdxSt) : (s.updDdx f).pool = s.pool := rfl
@[simp] theorem State.updDdx_ports (f : DdxSt → DdxSt) : (s.updDdx f).ports = s.ports := rfl
@[simp] theorem State.updDdx_bel (f : DdxSt → DdxSt) : (s.updDdx f).bel = s.bel := rfl
@[simp] theorem State.updDdx_wins (f : DdxSt → DdxSt) : (s.updDdx f).wins = s.wins := rfl
@[simp] theorem State.updDdx_stoves (f : DdxSt → DdxSt) : (s.updDdx f).stoves = s.stoves := rfl
@[simp] theorem State.updDdx_ich (f : DdxSt → DdxSt) : (s.updDdx f).ich = s.ich := rfl
@[simp] theorem State.updDdx_keys (f : DdxSt → DdxSt) : (s.updDdx f).keys = s.keys := rfl
@[simp] theorem State.updDdx_drv (f : DdxSt → DdxSt) : (s.updDdx f).drv = s.drv := rfl
@[simp] theorem State.updDdx_fwq (f : DdxSt → DdxSt) : (s.updDdx f).fwq = s.fwq := rfl
@[simp] theorem State.updDdx_heldItems (f : DdxSt → DdxSt) : (s.updDdx f).heldItems = s.heldItems := rfl
@[simp] theorem State.updDdx_ddr (f : DdxSt → DdxSt) : (s.updDdx f).ddr = s.ddr := rfl
@[simp] theorem State.updDdx_grates (f : DdxSt → DdxSt) : (s.updDdx f).grates = s.grates := rfl
@[simp] theorem State.updDdx_rsram (f : DdxSt → DdxSt) : (s.updDdx f).rsram = s.rsram := rfl
@[simp] theorem State.updDdx_agentq (f : DdxSt → DdxSt) : (s.updDdx f).agentq = s.agentq := rfl
@[simp] theorem State.updDdx_out (f : DdxSt → DdxSt) : (s.updDdx f).out = s.out := rfl
@[simp] theorem State.updDdx_freeCtr (f : DdxSt → DdxSt) : (s.updDdx f).freeCtr = s.freeCtr := rfl
@[simp] theorem State.updDdx_pending (f : DdxSt → DdxSt) : (s.updDdx f).pending = s.pending := rfl
@[simp] theorem State.get_updDdx (f : DdxSt → DdxSt) (g : Fld) : (s.updDdx f).get g = s.get g := rfl
@[simp] theorem State.updDdx_same (f : DdxSt → DdxSt) : (s.updDdx f).ddx = f s.ddx := rfl

@[simp] theorem State.updJnl_regs (f : JnlSt → JnlSt) : (s.updJnl f).regs = s.regs := rfl
@[simp] theorem State.updJnl_acc (f : JnlSt → JnlSt) : (s.updJnl f).acc = s.acc := rfl
@[simp] theorem State.updJnl_soot (f : JnlSt → JnlSt) : (s.updJnl f).soot = s.soot := rfl
@[simp] theorem State.updJnl_hrt (f : JnlSt → JnlSt) : (s.updJnl f).hrt = s.hrt := rfl
@[simp] theorem State.updJnl_kdl (f : JnlSt → JnlSt) : (s.updJnl f).kdl = s.kdl := rfl
@[simp] theorem State.updJnl_mode (f : JnlSt → JnlSt) : (s.updJnl f).mode = s.mode := rfl
@[simp] theorem State.updJnl_dmp (f : JnlSt → JnlSt) : (s.updJnl f).dmp = s.dmp := rfl
@[simp] theorem State.updJnl_tick (f : JnlSt → JnlSt) : (s.updJnl f).tick = s.tick := rfl
@[simp] theorem State.updJnl_and (f : JnlSt → JnlSt) : (s.updJnl f).and = s.and := rfl
@[simp] theorem State.updJnl_crl (f : JnlSt → JnlSt) : (s.updJnl f).crl = s.crl := rfl
@[simp] theorem State.updJnl_pool (f : JnlSt → JnlSt) : (s.updJnl f).pool = s.pool := rfl
@[simp] theorem State.updJnl_ports (f : JnlSt → JnlSt) : (s.updJnl f).ports = s.ports := rfl
@[simp] theorem State.updJnl_bel (f : JnlSt → JnlSt) : (s.updJnl f).bel = s.bel := rfl
@[simp] theorem State.updJnl_wins (f : JnlSt → JnlSt) : (s.updJnl f).wins = s.wins := rfl
@[simp] theorem State.updJnl_stoves (f : JnlSt → JnlSt) : (s.updJnl f).stoves = s.stoves := rfl
@[simp] theorem State.updJnl_ddx (f : JnlSt → JnlSt) : (s.updJnl f).ddx = s.ddx := rfl
@[simp] theorem State.updJnl_ich (f : JnlSt → JnlSt) : (s.updJnl f).ich = s.ich := rfl
@[simp] theorem State.updJnl_keys (f : JnlSt → JnlSt) : (s.updJnl f).keys = s.keys := rfl
@[simp] theorem State.updJnl_drv (f : JnlSt → JnlSt) : (s.updJnl f).drv = s.drv := rfl
@[simp] theorem State.updJnl_fwq (f : JnlSt → JnlSt) : (s.updJnl f).fwq = s.fwq := rfl
@[simp] theorem State.updJnl_heldItems (f : JnlSt → JnlSt) : (s.updJnl f).heldItems = s.heldItems := rfl
@[simp] theorem State.updJnl_ddr (f : JnlSt → JnlSt) : (s.updJnl f).ddr = s.ddr := rfl
@[simp] theorem State.updJnl_grates (f : JnlSt → JnlSt) : (s.updJnl f).grates = s.grates := rfl
@[simp] theorem State.updJnl_rsram (f : JnlSt → JnlSt) : (s.updJnl f).rsram = s.rsram := rfl
@[simp] theorem State.updJnl_agentq (f : JnlSt → JnlSt) : (s.updJnl f).agentq = s.agentq := rfl
@[simp] theorem State.updJnl_out (f : JnlSt → JnlSt) : (s.updJnl f).out = s.out := rfl
@[simp] theorem State.updJnl_freeCtr (f : JnlSt → JnlSt) : (s.updJnl f).freeCtr = s.freeCtr := rfl
@[simp] theorem State.updJnl_pending (f : JnlSt → JnlSt) : (s.updJnl f).pending = s.pending := rfl
@[simp] theorem State.get_updJnl (f : JnlSt → JnlSt) (g : Fld) : (s.updJnl f).get g = s.get g := rfl
@[simp] theorem State.updJnl_same (f : JnlSt → JnlSt) : (s.updJnl f).jnl = f s.jnl := rfl

@[simp] theorem State.updIch_regs (f : IchSt → IchSt) : (s.updIch f).regs = s.regs := rfl
@[simp] theorem State.updIch_acc (f : IchSt → IchSt) : (s.updIch f).acc = s.acc := rfl
@[simp] theorem State.updIch_soot (f : IchSt → IchSt) : (s.updIch f).soot = s.soot := rfl
@[simp] theorem State.updIch_hrt (f : IchSt → IchSt) : (s.updIch f).hrt = s.hrt := rfl
@[simp] theorem State.updIch_kdl (f : IchSt → IchSt) : (s.updIch f).kdl = s.kdl := rfl
@[simp] theorem State.updIch_mode (f : IchSt → IchSt) : (s.updIch f).mode = s.mode := rfl
@[simp] theorem State.updIch_dmp (f : IchSt → IchSt) : (s.updIch f).dmp = s.dmp := rfl
@[simp] theorem State.updIch_tick (f : IchSt → IchSt) : (s.updIch f).tick = s.tick := rfl
@[simp] theorem State.updIch_and (f : IchSt → IchSt) : (s.updIch f).and = s.and := rfl
@[simp] theorem State.updIch_jnl (f : IchSt → IchSt) : (s.updIch f).jnl = s.jnl := rfl
@[simp] theorem State.updIch_crl (f : IchSt → IchSt) : (s.updIch f).crl = s.crl := rfl
@[simp] theorem State.updIch_pool (f : IchSt → IchSt) : (s.updIch f).pool = s.pool := rfl
@[simp] theorem State.updIch_ports (f : IchSt → IchSt) : (s.updIch f).ports = s.ports := rfl
@[simp] theorem State.updIch_bel (f : IchSt → IchSt) : (s.updIch f).bel = s.bel := rfl
@[simp] theorem State.updIch_wins (f : IchSt → IchSt) : (s.updIch f).wins = s.wins := rfl
@[simp] theorem State.updIch_stoves (f : IchSt → IchSt) : (s.updIch f).stoves = s.stoves := rfl
@[simp] theorem State.updIch_ddx (f : IchSt → IchSt) : (s.updIch f).ddx = s.ddx := rfl
@[simp] theorem State.updIch_keys (f : IchSt → IchSt) : (s.updIch f).keys = s.keys := rfl
@[simp] theorem State.updIch_drv (f : IchSt → IchSt) : (s.updIch f).drv = s.drv := rfl
@[simp] theorem State.updIch_fwq (f : IchSt → IchSt) : (s.updIch f).fwq = s.fwq := rfl
@[simp] theorem State.updIch_heldItems (f : IchSt → IchSt) : (s.updIch f).heldItems = s.heldItems := rfl
@[simp] theorem State.updIch_ddr (f : IchSt → IchSt) : (s.updIch f).ddr = s.ddr := rfl
@[simp] theorem State.updIch_grates (f : IchSt → IchSt) : (s.updIch f).grates = s.grates := rfl
@[simp] theorem State.updIch_rsram (f : IchSt → IchSt) : (s.updIch f).rsram = s.rsram := rfl
@[simp] theorem State.updIch_agentq (f : IchSt → IchSt) : (s.updIch f).agentq = s.agentq := rfl
@[simp] theorem State.updIch_out (f : IchSt → IchSt) : (s.updIch f).out = s.out := rfl
@[simp] theorem State.updIch_freeCtr (f : IchSt → IchSt) : (s.updIch f).freeCtr = s.freeCtr := rfl
@[simp] theorem State.updIch_pending (f : IchSt → IchSt) : (s.updIch f).pending = s.pending := rfl
@[simp] theorem State.get_updIch (f : IchSt → IchSt) (g : Fld) : (s.updIch f).get g = s.get g := rfl
@[simp] theorem State.updIch_same (f : IchSt → IchSt) : (s.updIch f).ich = f s.ich := rfl

@[simp] theorem State.updKeys_regs (f : KeySt → KeySt) : (s.updKeys f).regs = s.regs := rfl
@[simp] theorem State.updKeys_acc (f : KeySt → KeySt) : (s.updKeys f).acc = s.acc := rfl
@[simp] theorem State.updKeys_soot (f : KeySt → KeySt) : (s.updKeys f).soot = s.soot := rfl
@[simp] theorem State.updKeys_hrt (f : KeySt → KeySt) : (s.updKeys f).hrt = s.hrt := rfl
@[simp] theorem State.updKeys_kdl (f : KeySt → KeySt) : (s.updKeys f).kdl = s.kdl := rfl
@[simp] theorem State.updKeys_mode (f : KeySt → KeySt) : (s.updKeys f).mode = s.mode := rfl
@[simp] theorem State.updKeys_dmp (f : KeySt → KeySt) : (s.updKeys f).dmp = s.dmp := rfl
@[simp] theorem State.updKeys_tick (f : KeySt → KeySt) : (s.updKeys f).tick = s.tick := rfl
@[simp] theorem State.updKeys_and (f : KeySt → KeySt) : (s.updKeys f).and = s.and := rfl
@[simp] theorem State.updKeys_jnl (f : KeySt → KeySt) : (s.updKeys f).jnl = s.jnl := rfl
@[simp] theorem State.updKeys_crl (f : KeySt → KeySt) : (s.updKeys f).crl = s.crl := rfl
@[simp] theorem State.updKeys_pool (f : KeySt → KeySt) : (s.updKeys f).pool = s.pool := rfl
@[simp] theorem State.updKeys_ports (f : KeySt → KeySt) : (s.updKeys f).ports = s.ports := rfl
@[simp] theorem State.updKeys_bel (f : KeySt → KeySt) : (s.updKeys f).bel = s.bel := rfl
@[simp] theorem State.updKeys_wins (f : KeySt → KeySt) : (s.updKeys f).wins = s.wins := rfl
@[simp] theorem State.updKeys_stoves (f : KeySt → KeySt) : (s.updKeys f).stoves = s.stoves := rfl
@[simp] theorem State.updKeys_ddx (f : KeySt → KeySt) : (s.updKeys f).ddx = s.ddx := rfl
@[simp] theorem State.updKeys_ich (f : KeySt → KeySt) : (s.updKeys f).ich = s.ich := rfl
@[simp] theorem State.updKeys_drv (f : KeySt → KeySt) : (s.updKeys f).drv = s.drv := rfl
@[simp] theorem State.updKeys_fwq (f : KeySt → KeySt) : (s.updKeys f).fwq = s.fwq := rfl
@[simp] theorem State.updKeys_heldItems (f : KeySt → KeySt) : (s.updKeys f).heldItems = s.heldItems := rfl
@[simp] theorem State.updKeys_ddr (f : KeySt → KeySt) : (s.updKeys f).ddr = s.ddr := rfl
@[simp] theorem State.updKeys_grates (f : KeySt → KeySt) : (s.updKeys f).grates = s.grates := rfl
@[simp] theorem State.updKeys_rsram (f : KeySt → KeySt) : (s.updKeys f).rsram = s.rsram := rfl
@[simp] theorem State.updKeys_agentq (f : KeySt → KeySt) : (s.updKeys f).agentq = s.agentq := rfl
@[simp] theorem State.updKeys_out (f : KeySt → KeySt) : (s.updKeys f).out = s.out := rfl
@[simp] theorem State.updKeys_freeCtr (f : KeySt → KeySt) : (s.updKeys f).freeCtr = s.freeCtr := rfl
@[simp] theorem State.updKeys_pending (f : KeySt → KeySt) : (s.updKeys f).pending = s.pending := rfl
@[simp] theorem State.get_updKeys (f : KeySt → KeySt) (g : Fld) : (s.updKeys f).get g = s.get g := rfl
@[simp] theorem State.updKeys_same (f : KeySt → KeySt) : (s.updKeys f).keys = f s.keys := rfl

@[simp] theorem State.updKdl_regs (f : KdlSt → KdlSt) : (s.updKdl f).regs = s.regs := rfl
@[simp] theorem State.updKdl_acc (f : KdlSt → KdlSt) : (s.updKdl f).acc = s.acc := rfl
@[simp] theorem State.updKdl_soot (f : KdlSt → KdlSt) : (s.updKdl f).soot = s.soot := rfl
@[simp] theorem State.updKdl_hrt (f : KdlSt → KdlSt) : (s.updKdl f).hrt = s.hrt := rfl
@[simp] theorem State.updKdl_mode (f : KdlSt → KdlSt) : (s.updKdl f).mode = s.mode := rfl
@[simp] theorem State.updKdl_dmp (f : KdlSt → KdlSt) : (s.updKdl f).dmp = s.dmp := rfl
@[simp] theorem State.updKdl_tick (f : KdlSt → KdlSt) : (s.updKdl f).tick = s.tick := rfl
@[simp] theorem State.updKdl_and (f : KdlSt → KdlSt) : (s.updKdl f).and = s.and := rfl
@[simp] theorem State.updKdl_jnl (f : KdlSt → KdlSt) : (s.updKdl f).jnl = s.jnl := rfl
@[simp] theorem State.updKdl_crl (f : KdlSt → KdlSt) : (s.updKdl f).crl = s.crl := rfl
@[simp] theorem State.updKdl_pool (f : KdlSt → KdlSt) : (s.updKdl f).pool = s.pool := rfl
@[simp] theorem State.updKdl_ports (f : KdlSt → KdlSt) : (s.updKdl f).ports = s.ports := rfl
@[simp] theorem State.updKdl_bel (f : KdlSt → KdlSt) : (s.updKdl f).bel = s.bel := rfl
@[simp] theorem State.updKdl_wins (f : KdlSt → KdlSt) : (s.updKdl f).wins = s.wins := rfl
@[simp] theorem State.updKdl_stoves (f : KdlSt → KdlSt) : (s.updKdl f).stoves = s.stoves := rfl
@[simp] theorem State.updKdl_ddx (f : KdlSt → KdlSt) : (s.updKdl f).ddx = s.ddx := rfl
@[simp] theorem State.updKdl_ich (f : KdlSt → KdlSt) : (s.updKdl f).ich = s.ich := rfl
@[simp] theorem State.updKdl_keys (f : KdlSt → KdlSt) : (s.updKdl f).keys = s.keys := rfl
@[simp] theorem State.updKdl_drv (f : KdlSt → KdlSt) : (s.updKdl f).drv = s.drv := rfl
@[simp] theorem State.updKdl_fwq (f : KdlSt → KdlSt) : (s.updKdl f).fwq = s.fwq := rfl
@[simp] theorem State.updKdl_heldItems (f : KdlSt → KdlSt) : (s.updKdl f).heldItems = s.heldItems := rfl
@[simp] theorem State.updKdl_ddr (f : KdlSt → KdlSt) : (s.updKdl f).ddr = s.ddr := rfl
@[simp] theorem State.updKdl_grates (f : KdlSt → KdlSt) : (s.updKdl f).grates = s.grates := rfl
@[simp] theorem State.updKdl_rsram (f : KdlSt → KdlSt) : (s.updKdl f).rsram = s.rsram := rfl
@[simp] theorem State.updKdl_agentq (f : KdlSt → KdlSt) : (s.updKdl f).agentq = s.agentq := rfl
@[simp] theorem State.updKdl_out (f : KdlSt → KdlSt) : (s.updKdl f).out = s.out := rfl
@[simp] theorem State.updKdl_freeCtr (f : KdlSt → KdlSt) : (s.updKdl f).freeCtr = s.freeCtr := rfl
@[simp] theorem State.updKdl_pending (f : KdlSt → KdlSt) : (s.updKdl f).pending = s.pending := rfl
@[simp] theorem State.get_updKdl (f : KdlSt → KdlSt) (g : Fld) : (s.updKdl f).get g = s.get g := rfl
@[simp] theorem State.updKdl_same (f : KdlSt → KdlSt) : (s.updKdl f).kdl = f s.kdl := rfl

@[simp] theorem State.updAnd_regs (f : AndSt → AndSt) : (s.updAnd f).regs = s.regs := rfl
@[simp] theorem State.updAnd_acc (f : AndSt → AndSt) : (s.updAnd f).acc = s.acc := rfl
@[simp] theorem State.updAnd_soot (f : AndSt → AndSt) : (s.updAnd f).soot = s.soot := rfl
@[simp] theorem State.updAnd_hrt (f : AndSt → AndSt) : (s.updAnd f).hrt = s.hrt := rfl
@[simp] theorem State.updAnd_kdl (f : AndSt → AndSt) : (s.updAnd f).kdl = s.kdl := rfl
@[simp] theorem State.updAnd_mode (f : AndSt → AndSt) : (s.updAnd f).mode = s.mode := rfl
@[simp] theorem State.updAnd_dmp (f : AndSt → AndSt) : (s.updAnd f).dmp = s.dmp := rfl
@[simp] theorem State.updAnd_tick (f : AndSt → AndSt) : (s.updAnd f).tick = s.tick := rfl
@[simp] theorem State.updAnd_jnl (f : AndSt → AndSt) : (s.updAnd f).jnl = s.jnl := rfl
@[simp] theorem State.updAnd_crl (f : AndSt → AndSt) : (s.updAnd f).crl = s.crl := rfl
@[simp] theorem State.updAnd_pool (f : AndSt → AndSt) : (s.updAnd f).pool = s.pool := rfl
@[simp] theorem State.updAnd_ports (f : AndSt → AndSt) : (s.updAnd f).ports = s.ports := rfl
@[simp] theorem State.updAnd_bel (f : AndSt → AndSt) : (s.updAnd f).bel = s.bel := rfl
@[simp] theorem State.updAnd_wins (f : AndSt → AndSt) : (s.updAnd f).wins = s.wins := rfl
@[simp] theorem State.updAnd_stoves (f : AndSt → AndSt) : (s.updAnd f).stoves = s.stoves := rfl
@[simp] theorem State.updAnd_ddx (f : AndSt → AndSt) : (s.updAnd f).ddx = s.ddx := rfl
@[simp] theorem State.updAnd_ich (f : AndSt → AndSt) : (s.updAnd f).ich = s.ich := rfl
@[simp] theorem State.updAnd_keys (f : AndSt → AndSt) : (s.updAnd f).keys = s.keys := rfl
@[simp] theorem State.updAnd_drv (f : AndSt → AndSt) : (s.updAnd f).drv = s.drv := rfl
@[simp] theorem State.updAnd_fwq (f : AndSt → AndSt) : (s.updAnd f).fwq = s.fwq := rfl
@[simp] theorem State.updAnd_heldItems (f : AndSt → AndSt) : (s.updAnd f).heldItems = s.heldItems := rfl
@[simp] theorem State.updAnd_ddr (f : AndSt → AndSt) : (s.updAnd f).ddr = s.ddr := rfl
@[simp] theorem State.updAnd_grates (f : AndSt → AndSt) : (s.updAnd f).grates = s.grates := rfl
@[simp] theorem State.updAnd_rsram (f : AndSt → AndSt) : (s.updAnd f).rsram = s.rsram := rfl
@[simp] theorem State.updAnd_agentq (f : AndSt → AndSt) : (s.updAnd f).agentq = s.agentq := rfl
@[simp] theorem State.updAnd_out (f : AndSt → AndSt) : (s.updAnd f).out = s.out := rfl
@[simp] theorem State.updAnd_freeCtr (f : AndSt → AndSt) : (s.updAnd f).freeCtr = s.freeCtr := rfl
@[simp] theorem State.updAnd_pending (f : AndSt → AndSt) : (s.updAnd f).pending = s.pending := rfl
@[simp] theorem State.get_updAnd (f : AndSt → AndSt) (g : Fld) : (s.updAnd f).get g = s.get g := rfl
@[simp] theorem State.updAnd_same (f : AndSt → AndSt) : (s.updAnd f).and = f s.and := rfl

@[simp] theorem State.updAcc_regs (r : Req) (f : AccSt → AccSt) : (s.updAcc r f).regs = s.regs := rfl
@[simp] theorem State.updAcc_soot (r : Req) (f : AccSt → AccSt) : (s.updAcc r f).soot = s.soot := rfl
@[simp] theorem State.updAcc_hrt (r : Req) (f : AccSt → AccSt) : (s.updAcc r f).hrt = s.hrt := rfl
@[simp] theorem State.updAcc_kdl (r : Req) (f : AccSt → AccSt) : (s.updAcc r f).kdl = s.kdl := rfl
@[simp] theorem State.updAcc_mode (r : Req) (f : AccSt → AccSt) : (s.updAcc r f).mode = s.mode := rfl
@[simp] theorem State.updAcc_dmp (r : Req) (f : AccSt → AccSt) : (s.updAcc r f).dmp = s.dmp := rfl
@[simp] theorem State.updAcc_tick (r : Req) (f : AccSt → AccSt) : (s.updAcc r f).tick = s.tick := rfl
@[simp] theorem State.updAcc_and (r : Req) (f : AccSt → AccSt) : (s.updAcc r f).and = s.and := rfl
@[simp] theorem State.updAcc_jnl (r : Req) (f : AccSt → AccSt) : (s.updAcc r f).jnl = s.jnl := rfl
@[simp] theorem State.updAcc_crl (r : Req) (f : AccSt → AccSt) : (s.updAcc r f).crl = s.crl := rfl
@[simp] theorem State.updAcc_pool (r : Req) (f : AccSt → AccSt) : (s.updAcc r f).pool = s.pool := rfl
@[simp] theorem State.updAcc_ports (r : Req) (f : AccSt → AccSt) : (s.updAcc r f).ports = s.ports := rfl
@[simp] theorem State.updAcc_bel (r : Req) (f : AccSt → AccSt) : (s.updAcc r f).bel = s.bel := rfl
@[simp] theorem State.updAcc_wins (r : Req) (f : AccSt → AccSt) : (s.updAcc r f).wins = s.wins := rfl
@[simp] theorem State.updAcc_stoves (r : Req) (f : AccSt → AccSt) : (s.updAcc r f).stoves = s.stoves := rfl
@[simp] theorem State.updAcc_ddx (r : Req) (f : AccSt → AccSt) : (s.updAcc r f).ddx = s.ddx := rfl
@[simp] theorem State.updAcc_ich (r : Req) (f : AccSt → AccSt) : (s.updAcc r f).ich = s.ich := rfl
@[simp] theorem State.updAcc_keys (r : Req) (f : AccSt → AccSt) : (s.updAcc r f).keys = s.keys := rfl
@[simp] theorem State.updAcc_drv (r : Req) (f : AccSt → AccSt) : (s.updAcc r f).drv = s.drv := rfl
@[simp] theorem State.updAcc_fwq (r : Req) (f : AccSt → AccSt) : (s.updAcc r f).fwq = s.fwq := rfl
@[simp] theorem State.updAcc_heldItems (r : Req) (f : AccSt → AccSt) : (s.updAcc r f).heldItems = s.heldItems := rfl
@[simp] theorem State.updAcc_ddr (r : Req) (f : AccSt → AccSt) : (s.updAcc r f).ddr = s.ddr := rfl
@[simp] theorem State.updAcc_grates (r : Req) (f : AccSt → AccSt) : (s.updAcc r f).grates = s.grates := rfl
@[simp] theorem State.updAcc_rsram (r : Req) (f : AccSt → AccSt) : (s.updAcc r f).rsram = s.rsram := rfl
@[simp] theorem State.updAcc_agentq (r : Req) (f : AccSt → AccSt) : (s.updAcc r f).agentq = s.agentq := rfl
@[simp] theorem State.updAcc_out (r : Req) (f : AccSt → AccSt) : (s.updAcc r f).out = s.out := rfl
@[simp] theorem State.updAcc_freeCtr (r : Req) (f : AccSt → AccSt) : (s.updAcc r f).freeCtr = s.freeCtr := rfl
@[simp] theorem State.updAcc_pending (r : Req) (f : AccSt → AccSt) : (s.updAcc r f).pending = s.pending := rfl
@[simp] theorem State.get_updAcc (r : Req) (f : AccSt → AccSt) (g : Fld) : (s.updAcc r f).get g = s.get g := rfl

@[simp] theorem State.updDrv_regs (f : DrvSt → DrvSt) : (s.updDrv f).regs = s.regs := rfl
@[simp] theorem State.updDrv_acc (f : DrvSt → DrvSt) : (s.updDrv f).acc = s.acc := rfl
@[simp] theorem State.updDrv_soot (f : DrvSt → DrvSt) : (s.updDrv f).soot = s.soot := rfl
@[simp] theorem State.updDrv_hrt (f : DrvSt → DrvSt) : (s.updDrv f).hrt = s.hrt := rfl
@[simp] theorem State.updDrv_kdl (f : DrvSt → DrvSt) : (s.updDrv f).kdl = s.kdl := rfl
@[simp] theorem State.updDrv_mode (f : DrvSt → DrvSt) : (s.updDrv f).mode = s.mode := rfl
@[simp] theorem State.updDrv_dmp (f : DrvSt → DrvSt) : (s.updDrv f).dmp = s.dmp := rfl
@[simp] theorem State.updDrv_tick (f : DrvSt → DrvSt) : (s.updDrv f).tick = s.tick := rfl
@[simp] theorem State.updDrv_and (f : DrvSt → DrvSt) : (s.updDrv f).and = s.and := rfl
@[simp] theorem State.updDrv_jnl (f : DrvSt → DrvSt) : (s.updDrv f).jnl = s.jnl := rfl
@[simp] theorem State.updDrv_crl (f : DrvSt → DrvSt) : (s.updDrv f).crl = s.crl := rfl
@[simp] theorem State.updDrv_pool (f : DrvSt → DrvSt) : (s.updDrv f).pool = s.pool := rfl
@[simp] theorem State.updDrv_ports (f : DrvSt → DrvSt) : (s.updDrv f).ports = s.ports := rfl
@[simp] theorem State.updDrv_bel (f : DrvSt → DrvSt) : (s.updDrv f).bel = s.bel := rfl
@[simp] theorem State.updDrv_wins (f : DrvSt → DrvSt) : (s.updDrv f).wins = s.wins := rfl
@[simp] theorem State.updDrv_stoves (f : DrvSt → DrvSt) : (s.updDrv f).stoves = s.stoves := rfl
@[simp] theorem State.updDrv_ddx (f : DrvSt → DrvSt) : (s.updDrv f).ddx = s.ddx := rfl
@[simp] theorem State.updDrv_ich (f : DrvSt → DrvSt) : (s.updDrv f).ich = s.ich := rfl
@[simp] theorem State.updDrv_keys (f : DrvSt → DrvSt) : (s.updDrv f).keys = s.keys := rfl
@[simp] theorem State.updDrv_fwq (f : DrvSt → DrvSt) : (s.updDrv f).fwq = s.fwq := rfl
@[simp] theorem State.updDrv_heldItems (f : DrvSt → DrvSt) : (s.updDrv f).heldItems = s.heldItems := rfl
@[simp] theorem State.updDrv_ddr (f : DrvSt → DrvSt) : (s.updDrv f).ddr = s.ddr := rfl
@[simp] theorem State.updDrv_grates (f : DrvSt → DrvSt) : (s.updDrv f).grates = s.grates := rfl
@[simp] theorem State.updDrv_rsram (f : DrvSt → DrvSt) : (s.updDrv f).rsram = s.rsram := rfl
@[simp] theorem State.updDrv_agentq (f : DrvSt → DrvSt) : (s.updDrv f).agentq = s.agentq := rfl
@[simp] theorem State.updDrv_out (f : DrvSt → DrvSt) : (s.updDrv f).out = s.out := rfl
@[simp] theorem State.updDrv_freeCtr (f : DrvSt → DrvSt) : (s.updDrv f).freeCtr = s.freeCtr := rfl
@[simp] theorem State.updDrv_pending (f : DrvSt → DrvSt) : (s.updDrv f).pending = s.pending := rfl
@[simp] theorem State.get_updDrv (f : DrvSt → DrvSt) (g : Fld) : (s.updDrv f).get g = s.get g := rfl
@[simp] theorem State.updDrv_same (f : DrvSt → DrvSt) : (s.updDrv f).drv = f s.drv := rfl

@[simp] theorem State.updStove_regs (n : Nat) (f : Stove → Stove) : (s.updStove n f).regs = s.regs := rfl
@[simp] theorem State.updStove_acc (n : Nat) (f : Stove → Stove) : (s.updStove n f).acc = s.acc := rfl
@[simp] theorem State.updStove_soot (n : Nat) (f : Stove → Stove) : (s.updStove n f).soot = s.soot := rfl
@[simp] theorem State.updStove_hrt (n : Nat) (f : Stove → Stove) : (s.updStove n f).hrt = s.hrt := rfl
@[simp] theorem State.updStove_kdl (n : Nat) (f : Stove → Stove) : (s.updStove n f).kdl = s.kdl := rfl
@[simp] theorem State.updStove_mode (n : Nat) (f : Stove → Stove) : (s.updStove n f).mode = s.mode := rfl
@[simp] theorem State.updStove_dmp (n : Nat) (f : Stove → Stove) : (s.updStove n f).dmp = s.dmp := rfl
@[simp] theorem State.updStove_tick (n : Nat) (f : Stove → Stove) : (s.updStove n f).tick = s.tick := rfl
@[simp] theorem State.updStove_and (n : Nat) (f : Stove → Stove) : (s.updStove n f).and = s.and := rfl
@[simp] theorem State.updStove_jnl (n : Nat) (f : Stove → Stove) : (s.updStove n f).jnl = s.jnl := rfl
@[simp] theorem State.updStove_crl (n : Nat) (f : Stove → Stove) : (s.updStove n f).crl = s.crl := rfl
@[simp] theorem State.updStove_pool (n : Nat) (f : Stove → Stove) : (s.updStove n f).pool = s.pool := rfl
@[simp] theorem State.updStove_ports (n : Nat) (f : Stove → Stove) : (s.updStove n f).ports = s.ports := rfl
@[simp] theorem State.updStove_bel (n : Nat) (f : Stove → Stove) : (s.updStove n f).bel = s.bel := rfl
@[simp] theorem State.updStove_wins (n : Nat) (f : Stove → Stove) : (s.updStove n f).wins = s.wins := rfl
@[simp] theorem State.updStove_ddx (n : Nat) (f : Stove → Stove) : (s.updStove n f).ddx = s.ddx := rfl
@[simp] theorem State.updStove_ich (n : Nat) (f : Stove → Stove) : (s.updStove n f).ich = s.ich := rfl
@[simp] theorem State.updStove_keys (n : Nat) (f : Stove → Stove) : (s.updStove n f).keys = s.keys := rfl
@[simp] theorem State.updStove_drv (n : Nat) (f : Stove → Stove) : (s.updStove n f).drv = s.drv := rfl
@[simp] theorem State.updStove_fwq (n : Nat) (f : Stove → Stove) : (s.updStove n f).fwq = s.fwq := rfl
@[simp] theorem State.updStove_heldItems (n : Nat) (f : Stove → Stove) : (s.updStove n f).heldItems = s.heldItems := rfl
@[simp] theorem State.updStove_ddr (n : Nat) (f : Stove → Stove) : (s.updStove n f).ddr = s.ddr := rfl
@[simp] theorem State.updStove_grates (n : Nat) (f : Stove → Stove) : (s.updStove n f).grates = s.grates := rfl
@[simp] theorem State.updStove_rsram (n : Nat) (f : Stove → Stove) : (s.updStove n f).rsram = s.rsram := rfl
@[simp] theorem State.updStove_agentq (n : Nat) (f : Stove → Stove) : (s.updStove n f).agentq = s.agentq := rfl
@[simp] theorem State.updStove_out (n : Nat) (f : Stove → Stove) : (s.updStove n f).out = s.out := rfl
@[simp] theorem State.updStove_freeCtr (n : Nat) (f : Stove → Stove) : (s.updStove n f).freeCtr = s.freeCtr := rfl
@[simp] theorem State.updStove_pending (n : Nat) (f : Stove → Stove) : (s.updStove n f).pending = s.pending := rfl
@[simp] theorem State.get_updStove (n : Nat) (f : Stove → Stove) (g : Fld) : (s.updStove n f).get g = s.get g := rfl

@[simp] theorem State.updWin_regs (p : Nat) (f : Window → Window) : (s.updWin p f).regs = s.regs := rfl
@[simp] theorem State.updWin_acc (p : Nat) (f : Window → Window) : (s.updWin p f).acc = s.acc := rfl
@[simp] theorem State.updWin_soot (p : Nat) (f : Window → Window) : (s.updWin p f).soot = s.soot := rfl
@[simp] theorem State.updWin_hrt (p : Nat) (f : Window → Window) : (s.updWin p f).hrt = s.hrt := rfl
@[simp] theorem State.updWin_kdl (p : Nat) (f : Window → Window) : (s.updWin p f).kdl = s.kdl := rfl
@[simp] theorem State.updWin_mode (p : Nat) (f : Window → Window) : (s.updWin p f).mode = s.mode := rfl
@[simp] theorem State.updWin_dmp (p : Nat) (f : Window → Window) : (s.updWin p f).dmp = s.dmp := rfl
@[simp] theorem State.updWin_tick (p : Nat) (f : Window → Window) : (s.updWin p f).tick = s.tick := rfl
@[simp] theorem State.updWin_and (p : Nat) (f : Window → Window) : (s.updWin p f).and = s.and := rfl
@[simp] theorem State.updWin_jnl (p : Nat) (f : Window → Window) : (s.updWin p f).jnl = s.jnl := rfl
@[simp] theorem State.updWin_crl (p : Nat) (f : Window → Window) : (s.updWin p f).crl = s.crl := rfl
@[simp] theorem State.updWin_pool (p : Nat) (f : Window → Window) : (s.updWin p f).pool = s.pool := rfl
@[simp] theorem State.updWin_ports (p : Nat) (f : Window → Window) : (s.updWin p f).ports = s.ports := rfl
@[simp] theorem State.updWin_bel (p : Nat) (f : Window → Window) : (s.updWin p f).bel = s.bel := rfl
@[simp] theorem State.updWin_stoves (p : Nat) (f : Window → Window) : (s.updWin p f).stoves = s.stoves := rfl
@[simp] theorem State.updWin_ddx (p : Nat) (f : Window → Window) : (s.updWin p f).ddx = s.ddx := rfl
@[simp] theorem State.updWin_ich (p : Nat) (f : Window → Window) : (s.updWin p f).ich = s.ich := rfl
@[simp] theorem State.updWin_keys (p : Nat) (f : Window → Window) : (s.updWin p f).keys = s.keys := rfl
@[simp] theorem State.updWin_drv (p : Nat) (f : Window → Window) : (s.updWin p f).drv = s.drv := rfl
@[simp] theorem State.updWin_fwq (p : Nat) (f : Window → Window) : (s.updWin p f).fwq = s.fwq := rfl
@[simp] theorem State.updWin_heldItems (p : Nat) (f : Window → Window) : (s.updWin p f).heldItems = s.heldItems := rfl
@[simp] theorem State.updWin_ddr (p : Nat) (f : Window → Window) : (s.updWin p f).ddr = s.ddr := rfl
@[simp] theorem State.updWin_grates (p : Nat) (f : Window → Window) : (s.updWin p f).grates = s.grates := rfl
@[simp] theorem State.updWin_rsram (p : Nat) (f : Window → Window) : (s.updWin p f).rsram = s.rsram := rfl
@[simp] theorem State.updWin_agentq (p : Nat) (f : Window → Window) : (s.updWin p f).agentq = s.agentq := rfl
@[simp] theorem State.updWin_out (p : Nat) (f : Window → Window) : (s.updWin p f).out = s.out := rfl
@[simp] theorem State.updWin_freeCtr (p : Nat) (f : Window → Window) : (s.updWin p f).freeCtr = s.freeCtr := rfl
@[simp] theorem State.updWin_pending (p : Nat) (f : Window → Window) : (s.updWin p f).pending = s.pending := rfl
@[simp] theorem State.get_updWin (p : Nat) (f : Window → Window) (g : Fld) : (s.updWin p f).get g = s.get g := rfl

@[simp] theorem State.updBank_regs (a : Nat) (f : MbxBank → MbxBank) : (s.updBank a f).regs = s.regs := rfl
@[simp] theorem State.updBank_acc (a : Nat) (f : MbxBank → MbxBank) : (s.updBank a f).acc = s.acc := rfl
@[simp] theorem State.updBank_soot (a : Nat) (f : MbxBank → MbxBank) : (s.updBank a f).soot = s.soot := rfl
@[simp] theorem State.updBank_kdl (a : Nat) (f : MbxBank → MbxBank) : (s.updBank a f).kdl = s.kdl := rfl
@[simp] theorem State.updBank_mode (a : Nat) (f : MbxBank → MbxBank) : (s.updBank a f).mode = s.mode := rfl
@[simp] theorem State.updBank_dmp (a : Nat) (f : MbxBank → MbxBank) : (s.updBank a f).dmp = s.dmp := rfl
@[simp] theorem State.updBank_tick (a : Nat) (f : MbxBank → MbxBank) : (s.updBank a f).tick = s.tick := rfl
@[simp] theorem State.updBank_and (a : Nat) (f : MbxBank → MbxBank) : (s.updBank a f).and = s.and := rfl
@[simp] theorem State.updBank_jnl (a : Nat) (f : MbxBank → MbxBank) : (s.updBank a f).jnl = s.jnl := rfl
@[simp] theorem State.updBank_crl (a : Nat) (f : MbxBank → MbxBank) : (s.updBank a f).crl = s.crl := rfl
@[simp] theorem State.updBank_pool (a : Nat) (f : MbxBank → MbxBank) : (s.updBank a f).pool = s.pool := rfl
@[simp] theorem State.updBank_ports (a : Nat) (f : MbxBank → MbxBank) : (s.updBank a f).ports = s.ports := rfl
@[simp] theorem State.updBank_bel (a : Nat) (f : MbxBank → MbxBank) : (s.updBank a f).bel = s.bel := rfl
@[simp] theorem State.updBank_wins (a : Nat) (f : MbxBank → MbxBank) : (s.updBank a f).wins = s.wins := rfl
@[simp] theorem State.updBank_stoves (a : Nat) (f : MbxBank → MbxBank) : (s.updBank a f).stoves = s.stoves := rfl
@[simp] theorem State.updBank_ddx (a : Nat) (f : MbxBank → MbxBank) : (s.updBank a f).ddx = s.ddx := rfl
@[simp] theorem State.updBank_ich (a : Nat) (f : MbxBank → MbxBank) : (s.updBank a f).ich = s.ich := rfl
@[simp] theorem State.updBank_keys (a : Nat) (f : MbxBank → MbxBank) : (s.updBank a f).keys = s.keys := rfl
@[simp] theorem State.updBank_drv (a : Nat) (f : MbxBank → MbxBank) : (s.updBank a f).drv = s.drv := rfl
@[simp] theorem State.updBank_fwq (a : Nat) (f : MbxBank → MbxBank) : (s.updBank a f).fwq = s.fwq := rfl
@[simp] theorem State.updBank_heldItems (a : Nat) (f : MbxBank → MbxBank) : (s.updBank a f).heldItems = s.heldItems := rfl
@[simp] theorem State.updBank_ddr (a : Nat) (f : MbxBank → MbxBank) : (s.updBank a f).ddr = s.ddr := rfl
@[simp] theorem State.updBank_grates (a : Nat) (f : MbxBank → MbxBank) : (s.updBank a f).grates = s.grates := rfl
@[simp] theorem State.updBank_rsram (a : Nat) (f : MbxBank → MbxBank) : (s.updBank a f).rsram = s.rsram := rfl
@[simp] theorem State.updBank_agentq (a : Nat) (f : MbxBank → MbxBank) : (s.updBank a f).agentq = s.agentq := rfl
@[simp] theorem State.updBank_out (a : Nat) (f : MbxBank → MbxBank) : (s.updBank a f).out = s.out := rfl
@[simp] theorem State.updBank_freeCtr (a : Nat) (f : MbxBank → MbxBank) : (s.updBank a f).freeCtr = s.freeCtr := rfl
@[simp] theorem State.updBank_pending (a : Nat) (f : MbxBank → MbxBank) : (s.updBank a f).pending = s.pending := rfl
@[simp] theorem State.get_updBank (a : Nat) (f : MbxBank → MbxBank) (g : Fld) : (s.updBank a f).get g = s.get g := rfl

@[simp] theorem State.updChan_regs (c : Nat) (f : MbxChan → MbxChan) : (s.updChan c f).regs = s.regs := rfl
@[simp] theorem State.updChan_acc (c : Nat) (f : MbxChan → MbxChan) : (s.updChan c f).acc = s.acc := rfl
@[simp] theorem State.updChan_soot (c : Nat) (f : MbxChan → MbxChan) : (s.updChan c f).soot = s.soot := rfl
@[simp] theorem State.updChan_kdl (c : Nat) (f : MbxChan → MbxChan) : (s.updChan c f).kdl = s.kdl := rfl
@[simp] theorem State.updChan_mode (c : Nat) (f : MbxChan → MbxChan) : (s.updChan c f).mode = s.mode := rfl
@[simp] theorem State.updChan_dmp (c : Nat) (f : MbxChan → MbxChan) : (s.updChan c f).dmp = s.dmp := rfl
@[simp] theorem State.updChan_tick (c : Nat) (f : MbxChan → MbxChan) : (s.updChan c f).tick = s.tick := rfl
@[simp] theorem State.updChan_and (c : Nat) (f : MbxChan → MbxChan) : (s.updChan c f).and = s.and := rfl
@[simp] theorem State.updChan_jnl (c : Nat) (f : MbxChan → MbxChan) : (s.updChan c f).jnl = s.jnl := rfl
@[simp] theorem State.updChan_crl (c : Nat) (f : MbxChan → MbxChan) : (s.updChan c f).crl = s.crl := rfl
@[simp] theorem State.updChan_pool (c : Nat) (f : MbxChan → MbxChan) : (s.updChan c f).pool = s.pool := rfl
@[simp] theorem State.updChan_ports (c : Nat) (f : MbxChan → MbxChan) : (s.updChan c f).ports = s.ports := rfl
@[simp] theorem State.updChan_bel (c : Nat) (f : MbxChan → MbxChan) : (s.updChan c f).bel = s.bel := rfl
@[simp] theorem State.updChan_wins (c : Nat) (f : MbxChan → MbxChan) : (s.updChan c f).wins = s.wins := rfl
@[simp] theorem State.updChan_stoves (c : Nat) (f : MbxChan → MbxChan) : (s.updChan c f).stoves = s.stoves := rfl
@[simp] theorem State.updChan_ddx (c : Nat) (f : MbxChan → MbxChan) : (s.updChan c f).ddx = s.ddx := rfl
@[simp] theorem State.updChan_ich (c : Nat) (f : MbxChan → MbxChan) : (s.updChan c f).ich = s.ich := rfl
@[simp] theorem State.updChan_keys (c : Nat) (f : MbxChan → MbxChan) : (s.updChan c f).keys = s.keys := rfl
@[simp] theorem State.updChan_drv (c : Nat) (f : MbxChan → MbxChan) : (s.updChan c f).drv = s.drv := rfl
@[simp] theorem State.updChan_fwq (c : Nat) (f : MbxChan → MbxChan) : (s.updChan c f).fwq = s.fwq := rfl
@[simp] theorem State.updChan_heldItems (c : Nat) (f : MbxChan → MbxChan) : (s.updChan c f).heldItems = s.heldItems := rfl
@[simp] theorem State.updChan_ddr (c : Nat) (f : MbxChan → MbxChan) : (s.updChan c f).ddr = s.ddr := rfl
@[simp] theorem State.updChan_grates (c : Nat) (f : MbxChan → MbxChan) : (s.updChan c f).grates = s.grates := rfl
@[simp] theorem State.updChan_rsram (c : Nat) (f : MbxChan → MbxChan) : (s.updChan c f).rsram = s.rsram := rfl
@[simp] theorem State.updChan_agentq (c : Nat) (f : MbxChan → MbxChan) : (s.updChan c f).agentq = s.agentq := rfl
@[simp] theorem State.updChan_out (c : Nat) (f : MbxChan → MbxChan) : (s.updChan c f).out = s.out := rfl
@[simp] theorem State.updChan_freeCtr (c : Nat) (f : MbxChan → MbxChan) : (s.updChan c f).freeCtr = s.freeCtr := rfl
@[simp] theorem State.updChan_pending (c : Nat) (f : MbxChan → MbxChan) : (s.updChan c f).pending = s.pending := rfl
@[simp] theorem State.get_updChan (c : Nat) (f : MbxChan → MbxChan) (g : Fld) : (s.updChan c f).get g = s.get g := rfl

/-- A written field reads as written; any other field as before. -/
theorem State.get_set (f g : Fld) (v : Nat) : (s.set f v).get g = if g.key = f.key then v % 2 ^ f.width else s.get g := by
  simp [State.get, State.set, Tab.getN_putN]

@[simp] theorem State.get_set_same (f : Fld) (v : Nat) : (s.set f v).get f = v % 2 ^ f.width := by simp [State.get_set]

theorem State.get_set_other (f g : Fld) (v : Nat) (h : g.key ≠ f.key) : (s.set f v).get g = s.get g := by
  simp [State.get_set, h]

theorem State.getb_eq (f : Fld) : s.getb f = (s.get f != 0) := rfl
theorem State.setb_eq (f : Fld) (b : Bool) : s.setb f b = s.set f (b2n b) := rfl
theorem State.setBitOf_eq (f : Fld) (i : Nat) (b : Bool) : s.setBitOf f i b = s.set f (putBit (s.get f) i b) := rfl
theorem State.inc_eq (f : Fld) (n : Nat) : s.inc f n = s.set f (s.get f + n) := rfl
theorem State.incSat_eq (f : Fld) (n : Nat) : s.incSat f n = s.set f (satAdd f.width (s.get f) n) := rfl

@[simp] theorem State.emit_out (o : Out) : (s.emit o).out = o :: s.out := rfl
@[simp] theorem State.taken_freeCtr (n : Nat) : (s.taken n).freeCtr = s.freeCtr + n := rfl

theorem State.port_updPort (p q : Nat) (f : HostPort → HostPort) :
    (s.updPort p f).port q = if q = p then f (s.port p) else s.port q := by
  simp only [State.port, State.updPort, Tab.getD_upd]

theorem State.bank_updBank (a b : Nat) (f : MbxBank → MbxBank) :
    (s.updBank a f).bank b = if b = a then f (s.bank a) else s.bank b := by
  simp only [State.bank, State.updBank, Tab.getD_upd]

theorem State.chan_updChan (c d : Nat) (f : MbxChan → MbxChan) :
    (s.updChan c f).chan d = if d = c then f (s.chan c) else s.chan d := by
  simp only [State.chan, State.updChan, Tab.getD_upd]

/-- The memories of the state after reset have the canonical form. -/
theorem State.reset_regs_wf : Tab.wfN State.reset.regs = true := by decide +kernel

end Sys2Proof.Machine
end

