-- ==== Sys2Proof/Laws/Ddr.lean ====
section
/-! SUPPORT. DDR while nothing but plain memory stands behind it: a read by another agent than the cache leaves the state alone, and a
write is a write of its bytes. -/

namespace Sys2Proof.Machine

variable {s : State} {a n : Nat}

theorem State.extDrain_bare (h : s.bareIch = true) : s.extDrain a n = s := by
  simp only [State.bareIch, Bool.and_eq_true] at h
  simp [State.extDrain, h]

theorem State.ichAgain_bare (h : s.bareIch = true) : s.ichAgain = s := by
  simp only [State.bareIch, Bool.and_eq_true] at h
  simp [State.ichAgain, h]

theorem State.extRead_bare (h : s.bareIch = true) : s.extRead a n = s := by
  rw [State.extRead, State.extDrain_bare h, State.ichAgain_bare h]

theorem State.extWrite_bare (h : s.bareIch = true) : s.extWrite a n = s := by
  rw [State.extWrite, State.extDrain_bare h]
  simp only [State.bareIch, Bool.and_eq_true] at h
  simp [h]

theorem State.endPoison_none (h : ∀ p < 2, (s.port p).poison = []) : s.endPoison a n = s := by
  simp [State.endPoison, HostPort.linesAt, h]

/-- A write by another agent, while the cache holds nothing and no line of a window is poisoned, changes its own bytes alone. -/
theorem State.ddrWrite_bare {b : Bytes} (h : s.bareIch = true) (hp : ∀ p < 2, (s.port p).poison = []) :
    s.ddrWrite a b = { s with ddr := Tab.writeBytes s.ddr a b } := by
  have hc : ({ s with ddr := Tab.writeBytes s.ddr a b } : State).bareIch = true := h
  rw [State.ddrWrite, State.extWrite_bare h, State.endPoison_none hp]
  have : s.ich.poisoned.isEmpty = true := by simp only [State.bareIch, Bool.and_eq_true] at h; exact h.2
  simp only [State.cleanLines, this, if_true]
  exact State.ichAgain_bare hc

theorem State.bareIch_of_bareDdr (h : s.bareDdr = true) : s.bareIch = true := by
  simp only [State.bareDdr, Bool.and_eq_true] at h
  exact h.1

theorem State.putWin_bare {p : Nat} {b : Bytes} (h : s.bareDdr = true) :
    s.putWin p a b = { s with ddr := Tab.writeBytes s.ddr ((s.port p).backing + a) b } := by
  refine State.ddrWrite_bare (State.bareIch_of_bareDdr h) fun q hq => ?_
  simp only [State.bareDdr, Bool.and_eq_true, List.all_cons, List.all_nil, Bool.and_true, List.isEmpty_iff] at h
  match q, hq with
  | 0, _ => exact h.2.1.1.2
  | 1, _ => exact h.2.2.1.2

end Sys2Proof.Machine
end

