-- ==== Sys2Proof/Laws/Frame.lean ====
section
/-! SUPPORT. Frames put together: a frame composes with one more update that stays inside it; each shared operation's frame once. -/

namespace Sys2Proof.Machine

variable {ps qs : List Part} {fs gs : List Fld} {s t u : State}

theorem Part.same_refl (p : Part) (s : State) : p.same s s := by cases p <;> simp [Part.same]

theorem Part.same_trans {p : Part} (h : p.same s t) (h' : p.same t u) : p.same s u := by
  cases p <;> simp only [Part.same] at h h' ⊢ <;> first
    | exact h'.trans h
    | exact fun q => (h' q).trans (h q)
    | exact ⟨h'.1.trans h.1, h'.2.trans h.2⟩
    | exact ⟨h'.1.trans h.1, h'.2.1.trans h.2.1, h'.2.2.1.trans h.2.2.1, h'.2.2.2.trans h.2.2.2⟩
    | (rw [h', h])

theorem Kept.refl (ps : List Part) (fs : List Fld) (s : State) : Kept ps fs s s := ⟨rfl, fun p _ => p.same_refl s, fun _ _ => rfl⟩

theorem Kept.trans (h : Kept ps fs s t) (h' : Kept ps fs t u) : Kept ps fs s u :=
  ⟨h'.1.trans h.1, fun p hp => Part.same_trans (h.2.1 p hp) (h'.2.1 p hp), fun f hf => (h'.2.2 f hf).trans (h.2.2 f hf)⟩

theorem Kept.mono (h : Kept ps fs s t) (hp : ∀ p ∈ ps, p ∈ qs) (hf : ∀ f ∈ fs, f.key ∈ gs.map Fld.key) : Kept qs gs s t := by
  refine ⟨h.1, fun p hn => h.2.1 p (fun hp' => hn (hp p hp')), fun f hn => h.2.2 f (fun hf' => hn ?_)⟩
  obtain ⟨g, hg, he⟩ := List.mem_map.mp hf'
  exact he ▸ hf g hg

/-- Only one part was updated, and it may be. -/
theorem Kept.of_regs_eq (hp : t.pending = s.pending) (hr : t.regs = s.regs) (h : ∀ p : Part, p ∉ ps → p.same s t) : Kept ps fs s t :=
  ⟨hp, h, fun f _ => by simp [State.get, hr]⟩

theorem Kept.set (h : Kept ps fs s t) {f : Fld} {v : Nat} (hf : f.key ∈ fs.map Fld.key) : Kept ps fs s (t.set f v) := by
  refine h.trans ⟨rfl, fun p _ => ?_, fun g hg => State.get_set_other _ _ _ _ (fun he => hg (he ▸ hf))⟩
  cases p <;> simp [Part.same, State.port]

theorem Kept.setb (h : Kept ps fs s t) {f : Fld} {b : Bool} (hf : f.key ∈ fs.map Fld.key) : Kept ps fs s (t.setb f b) := h.set hf
theorem Kept.setBitOf (h : Kept ps fs s t) {f : Fld} {i : Nat} {b : Bool} (hf : f.key ∈ fs.map Fld.key) :
    Kept ps fs s (t.setBitOf f i b) := h.set hf
theorem Kept.inc (h : Kept ps fs s t) {f : Fld} {n : Nat} (hf : f.key ∈ fs.map Fld.key) : Kept ps fs s (t.inc f n) := h.set hf
theorem Kept.incSat (h : Kept ps fs s t) {f : Fld} {n : Nat} (hf : f.key ∈ fs.map Fld.key) : Kept ps fs s (t.incSat f n) := h.set hf

theorem Kept.emit (h : Kept ps fs s t) {o : Out} (hp : Part.out ∈ ps) : Kept ps fs s (t.emit o) := by
  refine h.trans (Kept.of_regs_eq rfl rfl fun p hn => ?_)
  cases p <;> first | exact absurd hp hn | exact rfl | exact fun _ => rfl | exact ⟨rfl, rfl⟩ | exact ⟨rfl, rfl, rfl, rfl⟩

theorem Kept.irq (h : Kept ps fs s t) {p v : Nat} (h1 : Part.out ∈ ps) (h2 : Part.irqPend ∈ ps) : Kept ps fs s (t.irq p v) := by
  unfold State.irq
  simp only
  split
  · exact h.emit h1
  · refine h.trans (Kept.of_regs_eq rfl rfl fun q hn => ?_)
    cases q <;> first | exact absurd h2 hn | exact rfl | exact fun _ => rfl | exact ⟨rfl, rfl⟩ | exact ⟨rfl, rfl, rfl, rfl⟩ | skip
    intro r
    rw [State.port_updPort]
    split
    · next he => subst he; rfl
    · rfl

theorem Kept.irqAll (h : Kept ps fs s t) {v : Nat} (h1 : Part.out ∈ ps) (h2 : Part.irqPend ∈ ps) : Kept ps fs s (t.irqAll v) :=
  (h.irq h1 h2).irq h1 h2

/-- A record update of a state that leaves the fields and the queue alone. -/
theorem Kept.upd (h : Kept ps fs s t) {u : State} (hp : u.pending = t.pending) (hr : u.regs = t.regs)
    (hs : ∀ p : Part, p ∉ ps → p.same t u) : Kept ps fs s u := h.trans (Kept.of_regs_eq hp hr hs)

theorem Kept.sootLose (h : Kept ps fs s t) (hp : ∀ p ∈ logParts, p ∈ ps) (hf : ∀ f ∈ logFlds, f.key ∈ fs.map Fld.key) :
    Kept ps fs s t.sootLose := by
  have h0 : Kept ps fs s ((t.incSat F.SOOT_LOST_COUNT 1).irqAll 2046) :=
    (h.incSat (hf _ (by simp [logFlds]))).irqAll (hp _ (by simp [logParts])) (hp _ (by simp [logParts]))
  refine h0.upd rfl rfl fun p hn => ?_
  have hs : Part.stage ∈ ps := hp _ (by simp [logParts])
  have e : ((t.incSat F.SOOT_LOST_COUNT 1).irqAll 2046).soot = t.soot := by
    simp only [State.irqAll, State.irq]; repeat' split
    all_goals rfl
  cases p <;> first | exact absurd hs hn | exact rfl | exact fun _ => rfl | exact ⟨rfl, rfl⟩ | exact ⟨rfl, rfl, rfl, rfl⟩ | simp [Part.same, SootSt.rest, State.sootLose, e]

theorem Kept.sootFlush (h : Kept ps fs s t) (hs : Part.stage ∈ ps) (hf : F.SOOT_STS_FLUSHING.key ∈ fs.map Fld.key) :
    Kept ps fs s t.sootFlush := by
  unfold State.sootFlush
  split
  · exact h
  · split
    · refine h.upd rfl rfl fun p hn => ?_
      cases p <;> first | exact absurd hs hn | exact rfl | exact fun _ => rfl | exact ⟨rfl, rfl⟩ | exact ⟨rfl, rfl, rfl, rfl⟩
    · refine (h.setb hf (b := true)).upd rfl rfl fun p hn => ?_
      cases p <;> first | exact absurd hs hn | exact rfl | exact fun _ => rfl | exact ⟨rfl, rfl⟩ | exact ⟨rfl, rfl, rfl, rfl⟩

theorem Kept.record (h : Kept ps fs s t) {c : Nat} {is : List Nat} (hp : ∀ p ∈ logParts, p ∈ ps)
    (hf : ∀ f ∈ logFlds, f.key ∈ fs.map Fld.key) : Kept ps fs s (t.record c is) := by
  have hs : Part.stage ∈ ps := hp _ (by simp [logParts])
  have hk : F.SOOT_STS_FLUSHING.key ∈ fs.map Fld.key := hf _ (by simp [logFlds])
  unfold State.record
  split
  · exact h.sootLose hp hf
  · simp only
    have h1 : Kept ps fs s { t with soot := { t.soot with staged := t.soot.staged ++ [
        { code := c, frozen := t.getb F.SOOT_STS_FROZEN, head := t.head, stamp := t.stamp, atime := t.now, items := is.take 8 }] } } := by
      refine h.upd rfl rfl fun p hn => ?_
      cases p <;> first | exact absurd hs hn | exact rfl | exact fun _ => rfl | exact ⟨rfl, rfl⟩ | exact ⟨rfl, rfl, rfl, rfl⟩
    split
    · exact h1.sootFlush hs hk
    · exact h1

theorem Kept.recordGap (h : Kept ps fs s t) {g c u : Nat} {is : List Nat} (hp : ∀ p ∈ logParts, p ∈ ps)
    (hf : ∀ f ∈ logFlds, f.key ∈ fs.map Fld.key) : Kept ps fs s (t.recordGap g c u is) := by
  have hs : Part.stage ∈ ps := hp _ (by simp [logParts])
  have key : ∀ b : Bool, Kept ps fs s (if b && decide (t.soot.staged.length < 256) then
      State.record { t with soot := { t.soot with lastAt := Tab.put t.soot.lastAt (c * 2 ^ 24 + u) t.now } } c is
      else if b then t.record c is else t) := by
    intro b
    split
    · refine Kept.record ?_ hp hf
      refine h.upd rfl rfl fun p hn => ?_
      cases p <;> first | exact absurd hs hn | exact rfl | exact fun _ => rfl | exact ⟨rfl, rfl⟩ | exact ⟨rfl, rfl, rfl, rfl⟩
    · split
      · exact h.record hp hf
      · exact h
  exact key _

theorem Kept.recordMs (h : Kept ps fs s t) {c : Nat} {is : List Nat} (hp : ∀ p ∈ logParts, p ∈ ps)
    (hf : ∀ f ∈ logFlds, f.key ∈ fs.map Fld.key) : Kept ps fs s (t.recordMs c is) := h.recordGap hp hf

theorem Kept.glbRaise (h : Kept ps fs s t) (hp : Part.glbPend ∈ ps) : Kept ps fs s t.glbRaise := by
  refine h.upd rfl rfl fun p hn => ?_
  cases p <;> first | exact absurd hp hn | exact rfl | exact fun _ => rfl | exact ⟨rfl, rfl⟩ | exact ⟨rfl, rfl, rfl, rfl⟩

end Sys2Proof.Machine
end

