-- ==== Sys2Proof/Laws/Seal.lean ====
section
/-! SUPPORT. Sealed messages of Creterlink: the lengths of AES blocks, of counter-mode bytes and of tags, and that what one head seals the
other opens (R400). -/

namespace Sys2Proof.Machine

theorem xorB_length (a b : Bytes) : (xorB a b).length = min a.length b.length := by simp [xorB]

theorem mem_chunks_length {n : Nat} : ∀ (k : Nat) (bs : Bytes), n * k ≤ bs.length → ∀ c ∈ chunks n k bs, c.length = n
  | 0, _, _, c, hc => by simp [chunks] at hc
  | k + 1, bs, h, c, hc => by
    simp only [chunks, List.mem_cons] at hc
    rw [Nat.mul_succ] at h
    rcases hc with rfl | hc
    · simp; omega
    · exact mem_chunks_length k _ (by simp; omega) c hc

theorem length_chunks (n : Nat) : ∀ (k : Nat) (bs : Bytes), (chunks n k bs).length = k
  | 0, _ => rfl
  | k + 1, bs => by simp [chunks, length_chunks n k]

/-- The key schedule adds `n` words of four bytes. -/
theorem aesExpand_words : ∀ (n i : Nat) (rc : Byte) (ws : List Bytes), 8 ≤ ws.length → (∀ w ∈ ws, w.length = 4) →
    (aesExpand n i rc ws).length = ws.length + n ∧ ∀ w ∈ aesExpand n i rc ws, w.length = 4
  | 0, _, _, _, _, hw => ⟨rfl, hw⟩
  | n + 1, i, rc, ws, h8, hw => by
    have get : ∀ j, j < ws.length → (ws.getD j []).length = 4 := fun j hj => by
      rw [List.getD_eq_getElem _ _ hj]; exact hw _ (List.getElem_mem hj)
    have h0 := get 0 (by omega)
    have h7 := get 7 (by omega)
    have key : ∀ t' : Bytes, t'.length = 4 → ∀ rc',
        (aesExpand n (i + 1) rc' (xorB (ws.getD 7 []) t' :: ws)).length = ws.length + (n + 1) ∧
        ∀ w ∈ aesExpand n (i + 1) rc' (xorB (ws.getD 7 []) t' :: ws), w.length = 4 := by
      intro t' ht rc'
      have := aesExpand_words n (i + 1) rc' (xorB (ws.getD 7 []) t' :: ws) (by simp; omega) (by
        intro w hw'
        rcases List.mem_cons.1 hw' with rfl | hw'
        · rw [xorB_length, h7, ht]; rfl
        · exact hw w hw')
      refine ⟨?_, this.2⟩
      rw [this.1]; simp; omega
    rw [aesExpand]
    refine key _ ?_ _
    split
    · simp only [xorB_length, List.length_map, List.length_append, List.length_drop, List.length_take, h0, List.length_cons, List.length_nil]; rfl
    · split
      · simpa using h0
      · exact h0

theorem flatten_length4 : ∀ ws : List Bytes, (∀ w ∈ ws, w.length = 4) → ws.flatten.length = 4 * ws.length
  | [], _ => rfl
  | w :: ws, h => by
    rw [List.flatten_cons, List.length_append, h w (by simp), flatten_length4 ws (fun x hx => h x (by simp [hx]))]; simp; omega

/-- A 32-byte key has fifteen round keys of sixteen bytes. -/
theorem aesKeys_form (key : Bytes) (h : key.length = 32) : (aesKeys key).length = 15 ∧ ∀ k ∈ aesKeys key, k.length = 16 := by
  have h1 : ∀ w ∈ (chunks 4 8 key).reverse, w.length = 4 := fun w hw =>
    mem_chunks_length 8 key (by omega) w (List.mem_reverse.1 hw)
  have h2 := aesExpand_words 52 8 1 (chunks 4 8 key).reverse (by simp [length_chunks]) h1
  refine ⟨length_chunks .., mem_chunks_length 15 _ ?_⟩
  have h3 := flatten_length4 (aesExpand 52 8 1 (chunks 4 8 key).reverse).reverse (fun w hw => h2.2 w (List.mem_reverse.1 hw))
  rw [h3, List.length_reverse, h2.1]; simp [length_chunks]

theorem aesEncRounds_length : ∀ (ks : List Bytes) (s : Bytes), ks ≠ [] → (∀ k ∈ ks, k.length = 16) → (aesEncRounds ks s).length = 16
  | [], _, h, _ => absurd rfl h
  | [k], s, _, h => by simp [aesEncRounds, xorB_length, shiftRows, h k (by simp)]
  | k :: l :: ks, s, _, h => aesEncRounds_length (l :: ks) _ (by simp) (fun x hx => h x (by simp [hx]))

/-- An encrypted block has sixteen bytes. -/
theorem aesEnc_length (key blk : Bytes) (h : key.length = 32) : (aesEnc key blk).length = 16 := by
  obtain ⟨h1, h2⟩ := aesKeys_form key h
  unfold aesEnc
  split
  · rename_i e; simp [e] at h1
  · rename_i k ks e
    rw [e] at h1 h2
    exact aesEncRounds_length ks _ (by rintro rfl; simp at h1) (fun x hx => h2 x (by simp [hx]))

theorem gcmStream_length (key iv : Bytes) (h : key.length = 32) : ∀ n c, (gcmStream key iv n c).length = 16 * n
  | 0, _ => rfl
  | n + 1, c => by rw [gcmStream, List.length_append, aesEnc_length _ _ h, gcmStream_length key iv h]; omega

theorem gcmCrypt_length (key iv m : Bytes) (h : key.length = 32) : (gcmCrypt key iv m).length = m.length := by
  rw [gcmCrypt, xorB_length, gcmStream_length _ _ h]; omega

theorem xorB_xorB : ∀ (m k : Bytes), m.length ≤ k.length → xorB (xorB m k) k = m
  | [], _, _ => by simp [xorB]
  | a :: m, [], h => by simp at h
  | a :: m, b :: k, h => by
    have := xorB_xorB m k (by simpa using h)
    simp only [xorB, List.zipWith_cons_cons] at this ⊢
    rw [this, BitVec.xor_assoc, BitVec.xor_self, BitVec.xor_zero]

/-- Decrypting what was encrypted gives it back. -/
theorem gcmCrypt_gcmCrypt (key iv m : Bytes) (h : key.length = 32) : gcmCrypt key iv (gcmCrypt key iv m) = m := by
  rw [gcmCrypt, gcmCrypt_length _ _ _ h, gcmCrypt, xorB_xorB]
  rw [gcmStream_length _ _ h]; omega

theorem leBytes_length : ∀ n v, (leBytes n v).length = n
  | 0, _ => rfl
  | n + 1, v => by simp [leBytes, leBytes_length n]

theorem gcmTag_length (key iv aad c : Bytes) (h : key.length = 32) : (gcmTag key iv aad c).length = 16 := by
  simp [gcmTag, xorB_length, aesEnc_length _ _ h, beBytes, leBytes_length]

theorem slotK1_length (s : State) (n : Nat) (h : ∀ k, Tab.find s.keys.slots n = some k → 32 ≤ k.key.length) : (s.slotK1 n).length = 32 := by
  unfold State.slotK1
  split
  · rename_i k e; simp [h k e]
  · simp [zeroBytes]

theorem slice_append_left (a b : Bytes) (n : Nat) (h : a.length = n) : slice (a ++ b) 0 n = a := by
  subst h; simp [slice, zeroBytes]

theorem slice_append (a b c : Bytes) (n m : Nat) (h : a.length = n) (h' : b.length = m) : slice (a ++ b ++ c) n m = b := by
  subst h h'; simp [slice, zeroBytes]

/-- Header, body and tag of a sealed message. -/
theorem sealed_parts (H c t : Bytes) (hH : H.length = 16) (ht : t.length = 16) :
    (H ++ c ++ t).take 16 = H ∧ slice (H ++ c ++ t) 16 ((H ++ c ++ t).length - 32) = c ∧ (H ++ c ++ t).drop ((H ++ c ++ t).length - 16) = t := by
  have hl : (H ++ c ++ t).length = 32 + c.length := by simp only [List.length_append]; omega
  refine ⟨?_, ?_, ?_⟩
  · rw [List.append_assoc, List.take_append_of_le_length (by omega), List.take_of_length_le (by omega)]
  · exact slice_append _ _ _ _ _ hH (by omega)
  · have e : (H ++ c ++ t).length - 16 = (H ++ c).length := by simp only [List.length_append]; omega
    rw [e, List.drop_left]

/-- What one head seals the other opens, when they hold the same key (R400). -/
theorem crlOpen_crlMessage (s p : State) (vc t : Nat) (b : Bytes) (hv : vc ≠ 7) (hk : p.slotK1 1 = s.slotK1 1) (hh : p.head = 1 - s.head)
    (hl : (s.slotK1 1).length = 32) : s.crlOpen (p.crlMessage vc t b) = some b := by
  have hv' : (vc == 7) = false := by simpa using hv
  unfold State.crlMessage State.crlOpen
  simp only [hv', Bool.false_eq_true, if_false, hk, hh]
  generalize hi : leBytes 8 p.crl.ivc = i
  have hil : i.length = 8 := hi ▸ leBytes_length 8 _
  generalize hq : [BitVec.ofNat 8 t, 1, 0, 0] ++ leBytes 4 (32 + b.length) = q
  have hql : q.length = 8 := by subst hq; simp [leBytes_length]
  generalize s.slotK1 1 = k at hl ⊢
  have h8 : ∀ c g : Bytes, slice (q ++ i ++ c ++ g) 8 8 = i := fun c g => by
    rw [List.append_assoc (q ++ i)]; exact slice_append _ _ _ 8 8 hql hil
  have hc : ∀ m iv, (gcmCrypt k iv (gcmCrypt k iv m)) = m := fun m iv => gcmCrypt_gcmCrypt k iv m hl
  rw [h8]
  generalize [BitVec.ofNat 8 (1 - s.head), 0, 0, 0] ++ i = iv
  obtain ⟨e1, e2, e3⟩ := sealed_parts (q ++ i) (gcmCrypt k iv b) (gcmTag k iv (q ++ i) (gcmCrypt k iv b)) (by simp [hql, hil])
    (gcmTag_length k iv _ _ hl)
  rw [e1, e2, e3, hc]
  simp

/-- A message too short to hold a tag does not open. -/
theorem crlOpen_short (s : State) (m : Bytes) (hm : m.length < 16) (hl : (s.slotK1 1).length = 32) : s.crlOpen m = none := by
  unfold State.crlOpen
  simp only
  rw [if_neg]
  intro h
  have h := congrArg List.length (eq_of_beq h)
  rw [gcmTag_length _ _ _ _ hl, List.length_drop] at h
  omega

end Sys2Proof.Machine
end

