-- ==== Sys2Proof/WellFormed.lean ====
section
/-! DEFINITION. Which commands can be sent: the numbers of ports, Stoves, strands, channels and of every other numbered unit within
what the spec gives the head. -/

namespace Sys2Proof

/-- The operands of a command are within the ranges of the units and fields they name. -/
def Instr.wellFormed (i : Instr) : Bool :=
  match i with
  | .registerWrite _ a lg value same => decide (a < 0x10000000) && decide (lg < 4) && decide (value < 2^64) && decide (same < 2^64)
  | .rcFieldRead _ a lg chg => decide (a < 0x10000000) && decide (lg < 4) && chg.all (fun e => decide (e.1 < 0x4000000) && decide (e.2 < 2^32))
  | .lowHalfRead _ a => decide (a < 0x10000000)
  | .highHalfRead _ a => decide (a < 0x10000000)
  | .lowHalfWrite _ a value => decide (a < 0x10000000) && decide (value < 2^32)
  | .highHalfWrite _ a value => decide (a < 0x10000000) && decide (value < 2^32)
  | .grateAllocRequest chan _ => decide (chan < 8)
  | .grateGrant => true
  | .grateFree g => decide (g < 12288)
  | .grtStall c => decide (c < 8)
  | .grateSpill => true
  | .poolLock _ => true
  | .chRsvWrite _ c value => decide (c < 8) && decide (value < 2^32)
  | .unitLostReset u => decide (u < 54)
  | .payloadLands _ _ => true
  | .writeComplete _ => true
  | .hostLinkUp p rate width flit => decide (p < 2) && decide (rate < 7) && [1, 2, 4, 8, 16].contains width && decide (flit < 4)
  | .hostLinkRecovery p rate width => decide (p < 2) && decide (rate < 7) && [1, 2, 4, 8, 16].contains width
  | .viralReceived p => decide (p < 2)
  | .gpf g => decide (g.port < 2) && decide (1 ≤ g.phase) && decide (g.phase ≤ 2)
  | .hdmCommit p base size ways => decide (p < 2) && decide (base < 2^64) && decide (size < 2^64) && decide (ways < 256)
  | .hostMemRequest p line _ _ _ => decide (p < 2) && decide (line < 2^58)
  | .birsp p line _ _ => decide (p < 2) && decide (line < 2^58)
  | .biTimeout p line => decide (p < 2) && decide (line < 2^58)
  | .hostLineInvalidate p _ => decide (p < 2)
  | .ideFail p => decide (p < 2)
  | .ideKeyProgram p _ _ => decide (p < 2)
  | .ptmDialog masterNs capture => decide (masterNs < 2^64) && decide (capture < 2^64)
  | .ptmLoss => true
  | .hostPerst p _ => decide (p < 2)
  | .hostLinkDown p => decide (p < 2)
  | .hotReset p => decide (p < 2)
  | .cxlReset p => decide (p < 2)
  | .portEnWrite _ p value => decide (p < 2) && decide (value < 2^32)
  | .flr p => decide (p < 2)
  | .ccEnClear p => decide (p < 2)
  | .portResetRelease p => decide (p < 2)
  | .functionReady p _ _ _ _ => decide (p < 2)
  | .winEnable _ p value => decide (p < 2) && decide (value < 2^32)
  | .winDisable _ p value => decide (p < 2) && decide (value < 2^32)
  | .windowReady p => decide (p < 2)
  | .winSizeWrite _ p value => decide (p < 2) && decide (value < 2^32)
  | .cmdDoorbell _ p r index => decide (p < 2) && decide (r < 64) && decide (index < 65536)
  | .cplDoorbell _ p r index => decide (p < 2) && decide (r < 64) && decide (index < 65536)
  | .doneDoorbell _ p slot => decide (p < 2) && decide (slot.i < 65536)
  | .winNop p r => decide (p < 2) && decide (r.i < 64)
  | .winWrite p r => decide (p < 2) && decide (r.i < 64)
  | .winRead p r => decide (p < 2) && decide (r.i < 64)
  | .winFlush p r => decide (p < 2) && decide (r.i < 64)
  | .winDeallocate p r => decide (p < 2) && decide (r.i < 64)
  | .replGet p r => decide (p < 2) && decide (r.i < 64)
  | .slotAssign p => decide (p < 2)
  | .slotRdata p slot _ => decide (p < 2) && decide (slot < 65536)
  | .slotConsume p slot => decide (p < 2) && decide (slot < 65536)
  | .slotTimeout p slot => decide (p < 2) && decide (slot.i < 65536)
  | .slotDataFault p slot _ => decide (p < 2) && decide (slot < 65536)
  | .ringCompletionPost p r => decide (p < 2) && decide (r < 64)
  | .sqDoorbell p q tail => decide (p < 2) && decide (q < 4097) && decide (tail < 65536)
  | .cqDoorbell p q head => decide (p < 2) && decide (q < 4097) && decide (head < 65536)
  | .cqEntryPost p q => decide (p < 2) && decide (q < 4097)
  | .nvmeRead p q cid nsid slba n _ opc => decide (p < 2) && decide (q < 4097) && decide (cid < 65536) && decide (nsid < 2^32) && decide (slba < 2^64) && decide (n < 65537) && decide (opc < 256)
  | .nvmeWrite p q cid nsid slba n _ _ => decide (p < 2) && decide (q < 4097) && decide (cid < 65536) && decide (nsid < 2^32) && decide (slba < 2^64) && decide (n < 65537)
  | .nvmeFlush p q cid nsid => decide (p < 2) && decide (q < 4097) && decide (cid < 65536) && decide (nsid < 2^32)
  | .datasetManagement p q cid nsid _ _ => decide (p < 2) && decide (q < 4097) && decide (cid < 65536) && decide (nsid < 2^32)
  | .writeZeroes p q cid nsid slba n => decide (p < 2) && decide (q < 4097) && decide (cid < 65536) && decide (nsid < 2^32) && decide (slba < 2^64) && decide (n < 65537)
  | .writeFetchResume => true
  | .hwmCommitted => true
  | .seqNextWrite _ value => decide (value < 2^64)
  | .dirtyBoundWrite _ value => decide (value < 2^32)
  | .abort p cid q target => decide (p < 2) && decide (cid < 65536) && decide (q < 4097) && decide (target < 65536)
  | .setFeaturesArbitration p cid ab lpw mpw hpw => decide (p < 2) && decide (cid < 65536) && decide (ab < 8) && decide (lpw < 256) && decide (mpw < 256) && decide (hpw < 256)
  | .setFeaturesPower p cid ps => decide (p < 2) && decide (cid < 65536) && decide (ps < 32)
  | .getFeatures p cid fid => decide (p < 2) && decide (cid < 65536) && decide (fid < 256)
  | .identify p cid cns nsid => decide (p < 2) && decide (cid < 65536) && decide (cns < 256) && decide (nsid < 2^32)
  | .getLogPage p cid lid => decide (p < 2) && decide (cid < 65536) && decide (lid < 256)
  | .createIoCq p cid qid size vector _ => decide (p < 2) && decide (cid < 65536) && decide (qid < 65536) && decide (size < 65537) && decide (vector < 65536)
  | .nsCreate p cid => decide (p < 2) && decide (cid < 65536)
  | .nsCreateComplete v sct sc => decide (v < 16384) && decide (sct < 8) && decide (sc < 256)
  | .sanitizeCryptoErase p cid _ _ => decide (p < 2) && decide (cid < 65536)
  | .sanitizeBlockErase p cid _ _ => decide (p < 2) && decide (cid < 65536)
  | .sanitizeDone _ => true
  | .format p cid nsid ses => decide (p < 2) && decide (cid < 65536) && decide (nsid < 2^32) && decide (ses < 2)
  | .formatCryptoErase p cid nsid => decide (p < 2) && decide (cid < 65536) && decide (nsid < 2^32)
  | .formatDone k => decide (k < 32)
  | .bankedEntryEnd => true
  | .bstoreWriteout _ => true
  | .reclaimGo _ => true
  | .reclaimDone _ => true
  | .filterRebuildDone x => decide (x.half < 2)
  | .driveCompletion _ res dstatus rlba _ _ => decide (res < 8) && decide (dstatus < 2^16) && decide (rlba < 2^64)
  | .drvCmdTimeout _ => true
  | .drvLinkUp p rate width _ => decide (p < 32) && decide (rate < 7) && decide (width < 17)
  | .drvLinkLoss p _ => decide (p < 32)
  | .stripeOpen cls => decide (cls < 2)
  | .stripeRebuild => true
  | .stripeReclaim n => decide (n < 4194304)
  | .drvLock _ => true
  | .recordCommit _ origin seq => decide (origin < 2) && decide (seq < 2^64)
  | .recordRelocate => true
  | .recordRetire _ origin seq => decide (origin < 2) && decide (seq < 2^64)
  | .emberEccError addr _ _ _ => decide (addr < 2^25)
  | .optionWrite _ value _ => decide (value < 2^32)
  | .crlLinkTrain lanes partner => decide (lanes < 65536) && decide (partner < 17)
  | .laneLockLoss lane => decide (lane < 16)
  | .idleFrame _ _ _ => true
  | .dataFrame _ _ _ => true
  | .nakFrame _ _ _ => true
  | .replayTimeout => true
  | .linkTimeout => true
  | .crlEnWrite _ value => decide (value < 2^32)
  | .hello => true
  | .helloRepeat => true
  | .proof => true
  | .joinRefuse => true
  | .mirData => true
  | .mirRec => true
  | .mirRef => true
  | .mcommit => true
  | .commitTimeout origin seq => decide (origin < 2) && decide (seq < 2^62)
  | .retire => true
  | .fwdCmd => true
  | .fwdDone => true
  | .idxReq _ => true
  | .idxRsp => true
  | .stageGet => true
  | .stageData => true
  | .reject => true
  | .mbxMsg => true
  | .heartbeat => true
  | .heartbeatSend => true
  | .heartbeatMiss => true
  | .partnerLost => true
  | .fenceSend _ value => decide (value < 2^32)
  | .fence => true
  | .arbDelayExpire => true
  | .arbResult _ => true
  | .tickSyncEdge => true
  | .tickClkLoss => true
  | .tickSyncLoss => true
  | .tickFloorWrite => true
  | .opTimeTick => true
  | .cut c => decide (c < 16)
  | .cutEnable _ => true
  | .clogConsume _ rd => decide (rd < 64)
  | .streamArm _ value => decide (value < 2^32)
  | .streamFinal _ value => decide (value < 2^32)
  | .streamRewind _ index => decide (index < 2^32)
  | .lockstepMismatch p => decide (p < 9)
  | .spareSelfTest => true
  | .selfTestDone _ => true
  | .rotation => true
  | .rotAck _ value => decide (value < 2^32)
  | .rotTimeout => true
  | .failbackReady _ value => decide (value < 2^32)
  | .failbackAccept => true
  | .handoverBoundary => true
  | .failbackDone => true
  | .failbackAbort => true
  | .leaveKindlingReq _ => true
  | .forceSolo _ => true
  | .sweepReq _ => true
  | .bankedReq _ => true
  | .bankedExitReq _ _ => true
  | .bankedExit => true
  | .rstNAssert _ _ => true
  | .rstNRelease => true
  | .nvmeMiReset => true
  | .resetCommand _ value => decide (value < 2^32)
  | .resetSourceExpire => true
  | .resetEpisodeEnd _ _ => true
  | .kindlingStepEnd _ _ _ => true
  | .clockGood d => decide (d < 19)
  | .clockGoodLoss d => decide (d < 19)
  | .forceRelease _ value => decide (value < 2^32)
  | .minSvnWrite _ value => decide (value < 2^32)
  | .railBelowReset r mv => decide (r < 9) && decide (mv < 4096)
  | .railResetClear r mv => decide (r < 9) && decide (mv < 4096)
  | .railWarn r mv => decide (r < 9) && decide (mv < 4096)
  | .railWarnClear r mv => decide (r < 9) && decide (mv < 4096)
  | .railDip r mv => decide (r < 9) && decide (mv < 4096)
  | .dipEnd core hrt sram => decide (core < 4096) && decide (hrt < 4096) && decide (sram < 4096)
  | .thermWarn temp => decide (temp < 256)
  | .thermClear temp => decide (temp < 256)
  | .holdupAssert => true
  | .holdupClear => true
  | .quenchSim _ value => decide (value < 2^32)
  | .phase1Limit => true
  | .phase1Drained => true
  | .quenchReverse => true
  | .quenchedHold => true
  | .warmRestart => true
  | .holdupTimeWrite _ value => decide (value < 2^32)
  | .thermalTrip temp => decide (temp < 256)
  | .cdPowerOff => true
  | .timerInterrupt slot => decide (slot < 8)
  | .wdtKick _ slot => decide (slot < 8)
  | .wdtWarn slot => decide (slot < 8)
  | .wdtExpire slot => decide (slot < 8)
  | .wdtRestart _ value => decide (value < 2^32)
  | .hrtPark _ value => decide (value < 2^32)
  | .mbxSend _ c value => decide (c < 32) && decide (value < 2^32)
  | .mbxAck _ c value => decide (c < 32) && decide (value < 2^32)
  | .mbxTimeout c => decide (c < 32)
  | .mbxPeerAcked c => decide (c < 32)
  | .sootFlushTimer => true
  | .sootFlushReq _ => true
  | .sootFlushDone => true
  | .sootFreeze _ => true
  | .sootUnfreeze _ => true
  | .sootFreezeTimeout => true
  | .sootChallenge _ => true
  | .sootRespond _ => true
  | .nonceExpire => true
  | .sootReadMi first count => decide (first < 32768) && decide (count < 65)
  | .keyWrite _ => true
  | .keyZero _ => true
  | .wrap _ => true
  | .unwrap _ => true
  | .rederive _ => true
  | .programAroot _ => true
  | .keyEraseTimeout => true
  | .ichRequest _ addr len _ _ => decide (addr < 2^42) && decide (len < 65)
  | .ichBurst x => decide (x < 128)
  | .ichFillDone x => decide (x < 128)
  | .wbDrain => true
  | .extAgentRead addr _ => decide (addr < 2^42)
  | .extAgentWrite addr _ => decide (addr < 2^42)
  | .ichInval _ _ _ => true
  | .ichClean _ _ _ => true
  | .ichFlush _ _ _ => true
  | .ichLock _ _ _ => true
  | .ichUnlock _ _ _ => true
  | .ichPrefetch _ _ _ => true
  | .mntDone => true
  | .ichEccError kind line => decide (kind < 4) && decide (line < 2^34)
  | .ichEnable _ _ => true
  | .ichTagsReady => true
  | .hostLinkL1L2 p => decide (p < 2)
  | .ccEnSet p ams asqs acqs => decide (p < 2) && decide (ams < 8) && decide (asqs < 4097) && decide (acqs < 4097)
  | .adminCommand p cid op qid size cqid prio => decide (p < 2) && decide (cid < 65536) && decide (op < 256) && decide (qid < 65536) && decide (size < 65537) && decide (cqid < 65536) && decide (prio < 4)
  | .drvFailWrite _ => true
  | .drvControllerFatal d => decide (d < 128)
  | .tickClkReturn => true
  | .atCorrectionEnd => true
  | .clockGoodTimeout d => decide (d < 19)
  | .faultNEpisodeTimeout => true
  | .gapHoldRelease => true
  | .sootLostRead _ => true
  | .stvWiPost _ n value => decide (n < 16) && decide (value < 2^32)
  | .strandDispatch n k => decide (n < 16) && decide (k < 4)
  | .wiTimeout n k => decide (n < 16) && decide (k < 4)
  | .strandFaultClear _ n value => decide (n < 16) && decide (value < 2^32)
  | .stoveEccError n _ => decide (n < 16)
  | .stvFenceWrite _ n => decide (n < 16)
  | .programLoad _ n value => decide (n < 16) && decide (value < 2^32)
  | .loadDone n _ => decide (n < 16)
  | .programUnload _ n value => decide (n < 16) && decide (value < 2^32)
  | .slotDrained n slot => decide (n < 16) && decide (slot < 16)
  | .policyWrite _ value => decide (value < 2^32)
  | .laneGrant n u _ => decide (n < 16) && decide (u < 5)
  | .streamFinish n k e _ fault => decide (n < 16) && decide (k < 4) && decide (e < 16) && decide (fault < 3)
  | .nop n k _ => decide (n < 16) && decide (k < 4)
  | .endItem n k _ => decide (n < 16) && decide (k < 4)
  | .trap n k _ => decide (n < 16) && decide (k < 4)
  | .stop n k _ => decide (n < 16) && decide (k < 4)
  | .rdat n k _ => decide (n < 16) && decide (k < 4)
  | .waitat n k _ => decide (n < 16) && decide (k < 4)
  | .rdid n k _ => decide (n < 16) && decide (k < 4)
  | .wait n k _ => decide (n < 16) && decide (k < 4)
  | .poll n k _ => decide (n < 16) && decide (k < 4)
  | .add n k _ => decide (n < 16) && decide (k < 4)
  | .sub n k _ => decide (n < 16) && decide (k < 4)
  | .and n k _ => decide (n < 16) && decide (k < 4)
  | .or n k _ => decide (n < 16) && decide (k < 4)
  | .xor n k _ => decide (n < 16) && decide (k < 4)
  | .sll n k _ => decide (n < 16) && decide (k < 4)
  | .srl n k _ => decide (n < 16) && decide (k < 4)
  | .sra n k _ => decide (n < 16) && decide (k < 4)
  | .slt n k _ => decide (n < 16) && decide (k < 4)
  | .sltu n k _ => decide (n < 16) && decide (k < 4)
  | .mul n k _ => decide (n < 16) && decide (k < 4)
  | .mulhu n k _ => decide (n < 16) && decide (k < 4)
  | .clz n k _ => decide (n < 16) && decide (k < 4)
  | .popc n k _ => decide (n < 16) && decide (k < 4)
  | .bswap n k _ => decide (n < 16) && decide (k < 4)
  | .addi n k _ => decide (n < 16) && decide (k < 4)
  | .andi n k _ => decide (n < 16) && decide (k < 4)
  | .ori n k _ => decide (n < 16) && decide (k < 4)
  | .xori n k _ => decide (n < 16) && decide (k < 4)
  | .slli n k _ => decide (n < 16) && decide (k < 4)
  | .srli n k _ => decide (n < 16) && decide (k < 4)
  | .srai n k _ => decide (n < 16) && decide (k < 4)
  | .slti n k _ => decide (n < 16) && decide (k < 4)
  | .sltui n k _ => decide (n < 16) && decide (k < 4)
  | .lih n k _ => decide (n < 16) && decide (k < 4)
  | .beq n k _ => decide (n < 16) && decide (k < 4)
  | .bne n k _ => decide (n < 16) && decide (k < 4)
  | .blt n k _ => decide (n < 16) && decide (k < 4)
  | .bge n k _ => decide (n < 16) && decide (k < 4)
  | .bltu n k _ => decide (n < 16) && decide (k < 4)
  | .bgeu n k _ => decide (n < 16) && decide (k < 4)
  | .jal n k _ => decide (n < 16) && decide (k < 4)
  | .jalr n k _ => decide (n < 16) && decide (k < 4)
  | .ld n k _ => decide (n < 16) && decide (k < 4)
  | .st n k _ => decide (n < 16) && decide (k < 4)
  | .amoadd n k _ => decide (n < 16) && decide (k < 4)
  | .cas n k _ => decide (n < 16) && decide (k < 4)
  | .dmk n k _ => decide (n < 16) && decide (k < 4)
  | .dld n k _ => decide (n < 16) && decide (k < 4)
  | .dst n k _ => decide (n < 16) && decide (k < 4)
  | .dadv n k _ => decide (n < 16) && decide (k < 4)
  | .dclip n k _ => decide (n < 16) && decide (k < 4)
  | .dget n k _ => decide (n < 16) && decide (k < 4)
  | .cpy n k _ => decide (n < 16) && decide (k < 4)
  | .fill n k _ => decide (n < 16) && decide (k < 4)
  | .cmp n k _ => decide (n < 16) && decide (k < 4)
  | .post n k _ => decide (n < 16) && decide (k < 4)
  | .grAlloc n k _ => decide (n < 16) && decide (k < 4)
  | .grFree n k _ => decide (n < 16) && decide (k < 4)
  | .czOpen n k _ => decide (n < 16) && decide (k < 4)
  | .czPut n k _ => decide (n < 16) && decide (k < 4)
  | .czFlush n k _ => decide (n < 16) && decide (k < 4)
  | .czDec n k _ => decide (n < 16) && decide (k < 4)
  | .czBlockRelease n _ _ => decide (n < 16)
  | .dgAlloc n k _ => decide (n < 16) && decide (k < 4)
  | .dgContextGrant n => decide (n < 16)
  | .dgAbs n k _ => decide (n < 16) && decide (k < 4)
  | .dgFin n k _ => decide (n < 16) && decide (k < 4)
  | .dgRd n k _ => decide (n < 16) && decide (k < 4)
  | .dgCmp n k _ => decide (n < 16) && decide (k < 4)
  | .dgFree n k _ => decide (n < 16) && decide (k < 4)
  | .dgCtxEcc n c => decide (n < 16) && decide (c < 8)
  | .ciLock n k _ => decide (n < 16) && decide (k < 4)
  | .cipherLockGrant n => decide (n < 16)
  | .ciXts n k _ => decide (n < 16) && decide (k < 4)
  | .ciGcm n k _ => decide (n < 16) && decide (k < 4)
  | .ciUnlk n k _ => decide (n < 16) && decide (k < 4)
  | .par n k _ => decide (n < 16) && decide (k < 4)
  | .lookup n k _ _ => decide (n < 16) && decide (k < 4)
  | .insert n k _ _ => decide (n < 16) && decide (k < 4)
  | .addref n k _ _ => decide (n < 16) && decide (k < 4)
  | .decref n k _ _ => decide (n < 16) && decide (k < 4)
  | .mapset n k _ _ => decide (n < 16) && decide (k < 4)
  | .mapget n k _ _ => decide (n < 16) && decide (k < 4)
  | .drvRead n k _ => decide (n < 16) && decide (k < 4)
  | .drvAppend n k _ => decide (n < 16) && decide (k < 4)
  | .drvReset n k _ => decide (n < 16) && decide (k < 4)
  | .drvFinish n k _ => decide (n < 16) && decide (k < 4)
  | .crlTransmit n k _ => decide (n < 16) && decide (k < 4)

end Sys2Proof
end

