-- ==== Sys2Proof/Tests/Slice0.lean ====
section
/-! SUPPORT. Tests: ill-formed commands are refused; the spec's worked examples; and for every statement with hypotheses, states and
operands that meet them, clause by clause. -/

open Sys2Proof Sys2Proof.Machine

namespace Sys2Proof.Tests

set_option Elab.async false
/-- Every domain is released. -/
def up : State := State.reset.set F.KDL_REL_STS_DOMAIN 0x3FFFF
def h0 : Req := .hart 0 true
def at_ (s : State) (n : Nat) : State := { s with tick := { s.tick with count := n, loaded := true, cycles := n } }
/-- One second and a half of AT. -/
def upT : State := at_ up 150000000
/-- Strand 3 of Stove 15 runs at PC 5 of a slot of 64 instructions, with 7 in g1, 2^63 + 5 in g2, ticket 1 at epoch 4 in g3, 0x1000 in g4, 2^20 in g5 and
12,287 in g6; d1 and d2 are 4 KiB of local memory, d3 of the pool. -/
def strand3 : Strand :=
  { st := .running, pc := 5, g := [(1, 7), (2, 0x8000000000000005), (3, 0x41), (4, 0x1000), (5, 0x100000), (6, 12287)]
    d := [(1, { space := 0, addr := 0x2000, len := 4096 }), (2, { space := 0, addr := 0x4000, len := 4096 }), (3, { space := 2, addr := 0, len := 4096, off := 0xFFF000 }),
          (4, { space := 0, addr := 0xFF001, len := 4096 })]
    tickets := [(1, { epoch := 4, used := true, job := some (.ciLock 1 false) })], item := some { bytes := zeroBytes 64 } }
def ramp : Tab Byte := Tab.writeBytes [] 0xFF0 (List.replicate 64 0xFF)
def stove3 (x : Strand) : Stove :=
  { strands := [(3, x)], pslots := [(0, { state := 2, size64 := 1, pgm := 2, version := 3, units := 0xFFFFFFFF })], lmem := ramp }
def stvF (f : Stove → Stove) (x : Strand) : State := { upT with stoves := [(15, f (stove3 x))] }
def stv (x : Strand) : State := stvF id x
def sStv : State := stv strand3
def ins (a b c x imm : Nat) : InsW :=
  { a := BitVec.ofNat 5 a, b := BitVec.ofNat 5 b, c := BitVec.ofNat 5 c, x := BitVec.ofNat 9 x, imm := BitVec.ofNat 32 imm }
/-- The state with an instruction at the PC of strand 3. -/
def word (opc : Nat) (f : InsW) (s : State) : State :=
  { s with stoves := s.stoves.map (fun e => (e.1, { e.2 with pstore := [((Tab.getD e.2.strands 3 {}).pc, insWord opc f)] })) }


/-! ### Ill-formed commands -/

/-- The first instruction word of all zeros. -/
def i0 : InsW := { a := 0, b := 0, c := 0, x := 0, imm := 0 }

theorem test_ill_formed_1 : ([
      .registerWrite h0 0x10000000 0 0 0, .registerWrite h0 0 4 0 0, .registerWrite h0 0 0 (2^64) 0, .registerWrite h0 0 0 0 (2^64),
      .rcFieldRead h0 0x10000000 0 [], .rcFieldRead h0 0 4 [], .rcFieldRead h0 0 0 [(0x4000000, 0)], .rcFieldRead h0 0 0 [(0, 2^32)],
      .lowHalfRead h0 0x10000000, .highHalfRead h0 0x10000000, .lowHalfWrite h0 0x10000000 0, .lowHalfWrite h0 0 (2^32),
      .highHalfWrite h0 0x10000000 0, .highHalfWrite h0 0 (2^32), .grateAllocRequest 8 0, .grateFree 12288, .grtStall 8, .chRsvWrite h0 8 0,
      .chRsvWrite h0 0 (2^32), .unitLostReset 54, .hostLinkUp 2 0 1 0, .hostLinkUp 0 7 1 0, .hostLinkUp 0 0 3 0, .hostLinkUp 0 0 1 4,
      .hostLinkRecovery 2 0 1, .hostLinkRecovery 0 7 1, .hostLinkRecovery 0 0 3, .viralReceived 2, .gpf ⟨2, 1⟩, .gpf ⟨0, 0⟩, .gpf ⟨0, 3⟩,
      .hdmCommit 2 0 0 0, .hdmCommit 0 (2^64) 0 0, .hdmCommit 0 0 (2^64) 0, .hdmCommit 0 0 0 256, .hostMemRequest 2 0 none false false,
      .hostMemRequest 0 (2^58) none false false, .birsp 2 0 none false] : List Instr).all (fun i => !i.wellFormed) = true := by decide +kernel

theorem test_ill_formed_2 : ([
      .birsp 0 (2^58) none false, .biTimeout 2 0, .biTimeout 0 (2^58), .hostLineInvalidate 2 0, .ideFail 2, .ideKeyProgram 2 ⟨false, false⟩ [],
      .ptmDialog (2^64) 0, .ptmDialog 0 (2^64), .hostPerst 2 0, .hostLinkDown 2, .hotReset 2, .cxlReset 2, .portEnWrite h0 2 0,
      .portEnWrite h0 0 (2^32), .flr 2, .ccEnClear 2, .portResetRelease 2, .functionReady 2 false false false false, .winEnable h0 2 0,
      .winEnable h0 0 (2^32), .winDisable h0 2 0, .winDisable h0 0 (2^32), .windowReady 2, .winSizeWrite h0 2 0, .winSizeWrite h0 0 (2^32),
      .cmdDoorbell h0 2 0 0, .cmdDoorbell h0 0 64 0, .cmdDoorbell h0 0 0 65536, .cplDoorbell h0 2 0 0, .cplDoorbell h0 0 64 0,
      .cplDoorbell h0 0 0 65536, .doneDoorbell h0 2 ⟨0, false⟩, .doneDoorbell h0 0 ⟨65536, false⟩, .winNop 2 ⟨0, false⟩, .winNop 0 ⟨64, false⟩,
      .winWrite 2 ⟨0, false⟩, .winWrite 0 ⟨64, false⟩, .winRead 2 ⟨0, false⟩, .winRead 0 ⟨64, false⟩] : List Instr).all (fun i => !i.wellFormed) = true := by decide +kernel

theorem test_ill_formed_3 : ([
      .winFlush 2 ⟨0, false⟩, .winFlush 0 ⟨64, false⟩, .winDeallocate 2 ⟨0, false⟩, .winDeallocate 0 ⟨64, false⟩, .replGet 2 ⟨0, false⟩, .replGet 0 ⟨64, false⟩,
      .slotAssign 2, .slotRdata 2 0 none, .slotRdata 0 65536 none, .slotConsume 2 0, .slotConsume 0 65536, .slotTimeout 2 ⟨0, false⟩,
      .slotTimeout 0 ⟨65536, false⟩, .slotDataFault 2 0 none, .slotDataFault 0 65536 none, .ringCompletionPost 2 0, .ringCompletionPost 0 64,
      .sqDoorbell 2 0 0, .sqDoorbell 0 4097 0, .sqDoorbell 0 0 65536, .cqDoorbell 2 0 0, .cqDoorbell 0 4097 0, .cqDoorbell 0 0 65536,
      .cqEntryPost 2 0, .cqEntryPost 0 4097, .nvmeRead 2 0 0 0 0 0 ⟨0, []⟩ 0, .nvmeRead 0 4097 0 0 0 0 ⟨0, []⟩ 0, .nvmeRead 0 0 65536 0 0 0 ⟨0, []⟩ 0,
      .nvmeRead 0 0 0 (2^32) 0 0 ⟨0, []⟩ 0, .nvmeRead 0 0 0 0 (2^64) 0 ⟨0, []⟩ 0, .nvmeRead 0 0 0 0 0 65537 ⟨0, []⟩ 0, .nvmeRead 0 0 0 0 0 0 ⟨0, []⟩ 256,
      .nvmeWrite 2 0 0 0 0 0 0 false, .nvmeWrite 0 4097 0 0 0 0 0 false, .nvmeWrite 0 0 65536 0 0 0 0 false, .nvmeWrite 0 0 0 (2^32) 0 0 0 false,
      .nvmeWrite 0 0 0 0 (2^64) 0 0 false, .nvmeWrite 0 0 0 0 0 65537 0 false] : List Instr).all (fun i => !i.wellFormed) = true := by decide +kernel

theorem test_ill_formed_4 : ([
      .nvmeFlush 2 0 0 0, .nvmeFlush 0 4097 0 0, .nvmeFlush 0 0 65536 0, .nvmeFlush 0 0 0 (2^32), .datasetManagement 2 0 0 0 false [],
      .datasetManagement 0 4097 0 0 false [], .datasetManagement 0 0 65536 0 false [], .datasetManagement 0 0 0 (2^32) false [],
      .writeZeroes 2 0 0 0 0 0, .writeZeroes 0 4097 0 0 0 0, .writeZeroes 0 0 65536 0 0 0, .writeZeroes 0 0 0 (2^32) 0 0,
      .writeZeroes 0 0 0 0 (2^64) 0, .writeZeroes 0 0 0 0 0 65537, .seqNextWrite h0 (2^64), .dirtyBoundWrite h0 (2^32), .abort 2 0 0 0,
      .abort 0 65536 0 0, .abort 0 0 4097 0, .abort 0 0 0 65536, .setFeaturesArbitration 2 0 0 0 0 0, .setFeaturesArbitration 0 65536 0 0 0 0,
      .setFeaturesArbitration 0 0 8 0 0 0, .setFeaturesArbitration 0 0 0 256 0 0, .setFeaturesArbitration 0 0 0 0 256 0,
      .setFeaturesArbitration 0 0 0 0 0 256, .setFeaturesPower 2 0 0, .setFeaturesPower 0 65536 0, .setFeaturesPower 0 0 32, .getFeatures 2 0 0,
      .getFeatures 0 65536 0, .getFeatures 0 0 256, .identify 2 0 0 0, .identify 0 65536 0 0, .identify 0 0 256 0, .identify 0 0 0 (2^32),
      .getLogPage 2 0 0, .getLogPage 0 65536 0, .getLogPage 0 0 256] : List Instr).all (fun i => !i.wellFormed) = true := by decide +kernel

theorem test_ill_formed_5 : ([
      .createIoCq 2 0 0 0 0 false, .createIoCq 0 65536 0 0 0 false, .createIoCq 0 0 65536 0 0 false, .createIoCq 0 0 0 65537 0 false,
      .createIoCq 0 0 0 0 65536 false, .nsCreate 2 0, .nsCreate 0 65536, .nsCreateComplete 16384 0 0, .nsCreateComplete 0 8 0,
      .nsCreateComplete 0 0 256, .sanitizeCryptoErase 2 0 false false, .sanitizeCryptoErase 0 65536 false false,
      .sanitizeBlockErase 2 0 false false, .sanitizeBlockErase 0 65536 false false, .format 2 0 0 0, .format 0 65536 0 0, .format 0 0 (2^32) 0,
      .format 0 0 0 2, .formatCryptoErase 2 0 0, .formatCryptoErase 0 65536 0, .formatCryptoErase 0 0 (2^32), .formatDone 32,
      .filterRebuildDone ⟨2, [], []⟩, .driveCompletion 0 8 0 0 false [], .driveCompletion 0 0 (2^16) 0 false [],
      .driveCompletion 0 0 0 (2^64) false [], .drvLinkUp 32 0 0 [], .drvLinkUp 0 7 0 [], .drvLinkUp 0 0 17 [], .drvLinkLoss 32 false,
      .stripeOpen 2, .stripeReclaim 4194304, .recordCommit false 2 0, .recordCommit false 0 (2^64), .recordRetire false 2 0,
      .recordRetire false 0 (2^64), .emberEccError (2^25) false false [], .optionWrite h0 (2^32) false] : List Instr).all (fun i => !i.wellFormed) = true := by decide +kernel

theorem test_ill_formed_6 : ([
      .crlLinkTrain 65536 0, .crlLinkTrain 0 17, .laneLockLoss 16, .crlEnWrite h0 (2^32), .commitTimeout 2 0, .commitTimeout 0 (2^62),
      .fenceSend h0 (2^32), .cut 16, .clogConsume h0 64, .streamArm h0 (2^32), .streamFinal h0 (2^32), .streamRewind h0 (2^32),
      .lockstepMismatch 9, .rotAck h0 (2^32), .failbackReady h0 (2^32), .resetCommand h0 (2^32), .clockGood 19, .clockGoodLoss 19,
      .forceRelease h0 (2^32), .minSvnWrite h0 (2^32), .railBelowReset 9 0, .railBelowReset 0 4096, .railResetClear 9 0, .railResetClear 0 4096,
      .railWarn 9 0, .railWarn 0 4096, .railWarnClear 9 0, .railWarnClear 0 4096, .railDip 9 0, .railDip 0 4096, .dipEnd 4096 0 0,
      .dipEnd 0 4096 0, .dipEnd 0 0 4096, .thermWarn 256, .thermClear 256, .quenchSim h0 (2^32), .holdupTimeWrite h0 (2^32), .thermalTrip 256,
      .timerInterrupt 8] : List Instr).all (fun i => !i.wellFormed) = true := by decide +kernel

theorem test_ill_formed_7 : ([
      .wdtKick h0 8, .wdtWarn 8, .wdtExpire 8, .wdtRestart h0 (2^32), .hrtPark h0 (2^32), .mbxSend h0 32 0, .mbxSend h0 0 (2^32),
      .mbxAck h0 32 0, .mbxAck h0 0 (2^32), .mbxTimeout 32, .mbxPeerAcked 32, .sootReadMi 32768 0, .sootReadMi 0 65,
      .ichRequest 0 (2^42) 0 none .plain, .ichRequest 0 0 65 none .plain, .ichBurst 128, .ichFillDone 128, .extAgentRead (2^42) 0,
      .extAgentWrite (2^42) [], .ichEccError 4 0, .ichEccError 0 (2^34), .hostLinkL1L2 2, .ccEnSet 2 0 0 0, .ccEnSet 0 8 0 0,
      .ccEnSet 0 0 4097 0, .ccEnSet 0 0 0 4097, .adminCommand 2 0 0 0 0 0 0, .adminCommand 0 65536 0 0 0 0 0, .adminCommand 0 0 256 0 0 0 0,
      .adminCommand 0 0 0 65536 0 0 0, .adminCommand 0 0 0 0 65537 0 0, .adminCommand 0 0 0 0 0 65536 0, .adminCommand 0 0 0 0 0 0 4,
      .drvControllerFatal 128, .clockGoodTimeout 19, .stvWiPost h0 16 0, .stvWiPost h0 0 (2^32), .strandDispatch 16 0, .strandDispatch 0 4] : List Instr).all (fun i => !i.wellFormed) = true := by decide +kernel

theorem test_ill_formed_8 : ([
      .wiTimeout 16 0, .wiTimeout 0 4, .strandFaultClear h0 16 0, .strandFaultClear h0 0 (2^32), .stoveEccError 16 false, .stvFenceWrite h0 16,
      .programLoad h0 16 0, .programLoad h0 0 (2^32), .loadDone 16 false, .programUnload h0 16 0, .programUnload h0 0 (2^32), .slotDrained 16 0,
      .slotDrained 0 16, .policyWrite h0 (2^32), .laneGrant 16 0 none, .laneGrant 0 5 none, .streamFinish 16 0 0 none 0,
      .streamFinish 0 4 0 none 0, .streamFinish 0 0 16 none 0, .streamFinish 0 0 0 none 3, .nop 16 0 i0, .nop 0 4 i0, .endItem 16 0 i0,
      .endItem 0 4 i0, .trap 16 0 i0, .trap 0 4 i0, .stop 16 0 i0, .stop 0 4 i0, .rdat 16 0 i0, .rdat 0 4 i0, .waitat 16 0 i0, .waitat 0 4 i0,
      .rdid 16 0 i0, .rdid 0 4 i0, .wait 16 0 i0, .wait 0 4 i0, .poll 16 0 i0, .poll 0 4 i0] : List Instr).all (fun i => !i.wellFormed) = true := by decide +kernel

theorem test_ill_formed_9 : ([
      .add 16 0 i0, .add 0 4 i0, .sub 16 0 i0, .sub 0 4 i0, .and 16 0 i0, .and 0 4 i0, .or 16 0 i0, .or 0 4 i0, .xor 16 0 i0, .xor 0 4 i0,
      .sll 16 0 i0, .sll 0 4 i0, .srl 16 0 i0, .srl 0 4 i0, .sra 16 0 i0, .sra 0 4 i0, .slt 16 0 i0, .slt 0 4 i0, .sltu 16 0 i0, .sltu 0 4 i0,
      .mul 16 0 i0, .mul 0 4 i0, .mulhu 16 0 i0, .mulhu 0 4 i0, .clz 16 0 i0, .clz 0 4 i0, .popc 16 0 i0, .popc 0 4 i0, .bswap 16 0 i0,
      .bswap 0 4 i0, .addi 16 0 i0, .addi 0 4 i0, .andi 16 0 i0, .andi 0 4 i0, .ori 16 0 i0, .ori 0 4 i0, .xori 16 0 i0, .xori 0 4 i0,
      .slli 16 0 i0] : List Instr).all (fun i => !i.wellFormed) = true := by decide +kernel

theorem test_ill_formed_10 : ([
      .slli 0 4 i0, .srli 16 0 i0, .srli 0 4 i0, .srai 16 0 i0, .srai 0 4 i0, .slti 16 0 i0, .slti 0 4 i0, .sltui 16 0 i0, .sltui 0 4 i0,
      .lih 16 0 i0, .lih 0 4 i0, .beq 16 0 i0, .beq 0 4 i0, .bne 16 0 i0, .bne 0 4 i0, .blt 16 0 i0, .blt 0 4 i0, .bge 16 0 i0, .bge 0 4 i0,
      .bltu 16 0 i0, .bltu 0 4 i0, .bgeu 16 0 i0, .bgeu 0 4 i0, .jal 16 0 i0, .jal 0 4 i0, .jalr 16 0 i0, .jalr 0 4 i0, .ld 16 0 i0, .ld 0 4 i0,
      .st 16 0 i0, .st 0 4 i0, .amoadd 16 0 i0, .amoadd 0 4 i0, .cas 16 0 i0, .cas 0 4 i0, .dmk 16 0 i0, .dmk 0 4 i0, .dld 16 0 i0] : List Instr).all (fun i => !i.wellFormed) = true := by decide +kernel

theorem test_ill_formed_11 : ([
      .dld 0 4 i0, .dst 16 0 i0, .dst 0 4 i0, .dadv 16 0 i0, .dadv 0 4 i0, .dclip 16 0 i0, .dclip 0 4 i0, .dget 16 0 i0, .dget 0 4 i0,
      .cpy 16 0 i0, .cpy 0 4 i0, .fill 16 0 i0, .fill 0 4 i0, .cmp 16 0 i0, .cmp 0 4 i0, .post 16 0 i0, .post 0 4 i0, .grAlloc 16 0 i0,
      .grAlloc 0 4 i0, .grFree 16 0 i0, .grFree 0 4 i0, .czOpen 16 0 i0, .czOpen 0 4 i0, .czPut 16 0 i0, .czPut 0 4 i0, .czFlush 16 0 i0,
      .czFlush 0 4 i0, .czDec 16 0 i0, .czDec 0 4 i0, .czBlockRelease 16 0 false, .dgAlloc 16 0 i0, .dgAlloc 0 4 i0, .dgContextGrant 16,
      .dgAbs 16 0 i0, .dgAbs 0 4 i0, .dgFin 16 0 i0, .dgFin 0 4 i0, .dgRd 16 0 i0, .dgRd 0 4 i0] : List Instr).all (fun i => !i.wellFormed) = true := by decide +kernel

theorem test_ill_formed_12 : ([
      .dgCmp 16 0 i0, .dgCmp 0 4 i0, .dgFree 16 0 i0, .dgFree 0 4 i0, .dgCtxEcc 16 0, .dgCtxEcc 0 8, .ciLock 16 0 i0, .ciLock 0 4 i0,
      .cipherLockGrant 16, .ciXts 16 0 i0, .ciXts 0 4 i0, .ciGcm 16 0 i0, .ciGcm 0 4 i0, .ciUnlk 16 0 i0, .ciUnlk 0 4 i0, .par 16 0 i0,
      .par 0 4 i0, .lookup 16 0 i0 none, .lookup 0 4 i0 none, .insert 16 0 i0 none, .insert 0 4 i0 none, .addref 16 0 i0 none,
      .addref 0 4 i0 none, .decref 16 0 i0 none, .decref 0 4 i0 none, .mapset 16 0 i0 none, .mapset 0 4 i0 none, .mapget 16 0 i0 none,
      .mapget 0 4 i0 none, .drvRead 16 0 i0, .drvRead 0 4 i0, .drvAppend 16 0 i0, .drvAppend 0 4 i0, .drvReset 16 0 i0, .drvReset 0 4 i0,
      .drvFinish 16 0 i0, .drvFinish 0 4 i0, .crlTransmit 16 0 i0, .crlTransmit 0 4 i0] : List Instr).all (fun i => !i.wellFormed) = true := by decide +kernel

/-! ### Worked examples of the spec -/

/-- Chapter 07: the nine ASCII digits. -/
theorem test_crc32c : crc32c (ascii "123456789") = 0xE3069283 := by decide +kernel

/-- Chapter 10: the digest of "abc" begins BA 78 16 BF 8F 01 CF EA. -/
theorem test_sha256_abc : (sha256 (ascii "abc")).take 8 = leBytes 8 0xEACF018FBF1678BA := by decide +kernel

/-- Chapter 12: K = 3, M = 3 over 0x12, 0x34 and 0x56. -/
theorem test_parities : (List.range 3).map (fun j => parityOf 1 j [(0, [0x12]), (1, [0x34]), (2, [0x56])]) = [[0x70], [0x3F], [0xCB]] := by
  decide +kernel

/-- Chapter 13: the commit word of sequence 0x412A07 stands at bytes 56 to 63 of the header. -/
theorem test_commit_word : slice (JRec.bytes { seq := 0x412A07, atime := 0, type := 1, mirror := false, origin := 0, vol := 5 }) 56 8 =
    [0x5D, 0x70, 0x1B, 0x5A, 0x5A, 0x5A, 0x5A, 0x5A] := by decide +kernel

/-- Chapter 12: the parts of LOCATION 0x401A2B02460F8000. -/
theorem test_location : (locType 0x401A2B02460F8000, locStripe 0x401A2B02460F8000, locRow 0x401A2B02460F8000) = (1, 0x1A2B, 0x123) := by
  decide +kernel

/-- Chapter 00: GLB_ID of head A. -/
theorem test_glb_id : (upT.readAt h0 0 4 []).2 = 0x71601010 := by decide +kernel

/-- Chapter 21: the first sixteen bytes of the record of a dip on rail 2. -/
theorem test_soot_record : (sootBytes 0x1A2E { code := 0x0201, frozen := false, head := 0, stamp := 0x00012300499602D2, atime := 0, items := [2, 0x2BA] }).take 16 =
    [0x01, 0x02, 0x00, 0x00, 0x2E, 0x1A, 0x00, 0x00, 0xD2, 0x02, 0x96, 0x49, 0x00, 0x23, 0x01, 0x00] := by decide +kernel

/-- Chapter 14: the first frame of a MIR_DATA. -/
theorem test_first_frame : (frameBytes 1 0 0xFFFFF8 0x4A21 true false 1 0xA0 (List.replicate 256 0)).take 10 =
    [0x10, 0xF8, 0xFF, 0xFF, 0x21, 0x4A, 0x00, 0x00, 0x0B, 0x28] := by decide +kernel

/-- Chapter 09: the line of 0x24C813A40 is in set 0x05A3 with tag 0x499, and comes back from them. -/
theorem test_ich_line : ichSet (0x24C813A40 / 256) = 0x05A3 ∧ ichTag (0x24C813A40 / 256) = 0x499 ∧ ichLine 0x05A3 0x499 = 0x24C813A40 / 256 := by
  decide +kernel

/-- Chapter 08: the key, the directory index at D = 20 and the tag of a fingerprint in domain 0. -/
theorem test_ddx_key : let fp : Bytes := [0x3E, 0x91, 0x07, 0xC4, 0x58, 0xA2, 0x1D, 0xF6, 0x7B, 0x2C, 0x08]
    fpKey fp 0 = 0xF61DA258C407913E ∧ dirIndex 20 (fpKey fp 0) = 0xEC3B4 ∧ fpTag fp = 0x2C7B := by decide +kernel

/-- Chapter 05: the policy word 0x013F keeps its bits. -/
theorem test_policy : policyBits 0x013F = 0x013F := by decide +kernel

/-- Chapter 03: the flag word of slot 37. -/
theorem test_flag_word : Flag.word { state := 2, gen := 0x13, code := 0, count := 0x10000, tag := 0x42 } = 0x2130000100000042 := by decide +kernel

/-- Chapter 03: the layout of 16 rings of depth 1,024 with 16,384 slots of 64 KiB. -/
theorem test_window_layout : layoutOf 16 1024 0x4000 0x10000 =
    { cring := 0x1000, cpl := 0x101000, flag := 0x181000, data := 0x400000, stop := 0x40400000 } := by decide +kernel

/-- Chapter 16: TB of the ACCEPT record, and where the joiner's counter goes. -/
theorem test_handover : handoverTb 2400123456789 1000 100 = 2400230000000 ∧ counterTop 0x07319C42 0x02100000 = 0x07400000 := by decide +kernel

/-- Chapter 07: the bounds after the first byte 0x41 of a block. -/
theorem test_cinder_first_byte : (let c := [false, true, false, false, false, false, false, true].foldl (fun (c : CzEnc) y => c.code y 2051) {}
    (c.x1, c.x2, c.out)) = (0xBE33B479, 0xBF323508, []) := by decide +kernel

/-! ### The hypotheses of the statements can be met -/

namespace Soot

def ev : SootRec := { code := 0x0109, frozen := false, head := 0, stamp := 1, atime := 5, items := [2] }
def sSoot : State := { upT with soot := { upT.soot with staged := [ev, ev] } }
def sFlush (n : Nat) : State := { sSoot with soot := { sSoot.soot with flushing := some n } }
def s_SootFlushes_4 : State := sSoot.set F.SOOT_STS_FROZEN 1
def s_SootFlushes_7 : State := { sFlush 0 with soot := { (sFlush 0).soot with freezeWait := true } }
def s_SootFlushes_8 : State := sSoot.set F.SOOT_STS_FROZEN 1
def s_SootFlushes_9 : State := { (at_ sSoot 2000000000).set F.SOOT_STS_FROZEN 1 with soot := { sSoot.soot with freezeAt := some 5 } }

theorem witness_SootFlushes :
    (sSoot.soot.second < State.now sSoot / 100000000 ∧ State.getb sSoot F.SOOT_STS_FROZEN = false ∧ sSoot.soot.flushing = none) ∧
    ((sFlush 2).soot.second < State.now (sFlush 2) / 100000000 ∧ State.getb (sFlush 2) F.SOOT_STS_FROZEN = false ∧
      (sFlush 2).soot.flushing = some 2) ∧
    (State.writable sSoot h0 R.SOOT_CTL = true ∧ State.getb sSoot F.SOOT_STS_FROZEN = false ∧ sSoot.soot.flushing = none) ∧
    (State.getb s_SootFlushes_4 F.SOOT_STS_FROZEN = true) ∧
    ((sFlush 2).soot.flushing = some 2 ∧ (sFlush 2).soot.again = false ∧ (sFlush 2).soot.freezeWait = false ∧ 2 ≤ List.length (sFlush 2).soot.staged ∧
      State.get (sFlush 2) F.SOOT_STS_NEXT + 2 < 32768) ∧
    (State.writable sSoot h0 R.SOOT_CTL = true ∧ State.getb sSoot F.SOOT_STS_FROZEN = false ∧ sSoot.soot.flushing = none) ∧
    (s_SootFlushes_7.soot.flushing = some 0 ∧ s_SootFlushes_7.soot.again = false ∧ s_SootFlushes_7.soot.freezeWait = true) ∧
    (State.writable s_SootFlushes_8 h0 R.SOOT_CTL = true ∧ State.getb s_SootFlushes_8 F.SOOT_STS_FROZEN = true ∧
      s_SootFlushes_8.soot.flushing = none) ∧
    (s_SootFlushes_9.soot.freezeAt = some 5 ∧ State.get s_SootFlushes_9 F.SOOT_FRZ_TO_MS ≠ 0 ∧
      5 + State.get s_SootFlushes_9 F.SOOT_FRZ_TO_MS * 100000 ≤ State.now s_SootFlushes_9 ∧ s_SootFlushes_9.soot.flushing = none) :=
  by and_intros <;> decide +kernel

end Soot

namespace Hearth

def ev2 : SootRec := { code := 0x0109, frozen := false, head := 0, stamp := 1, atime := 5, items := [2] }
def k3 : KeySt := { slots := [(3, { key := zeroBytes 64, cls := 0 })] }
def sNonce : State := { upT with keys := k3, soot := { upT.soot with nonce := some (zeroBytes 16, 149000000) } }
def sResp : State := (List.range 8).foldl (fun s w => s.set (F.SOOT_CLR_RESP_DATA w) (leAt (sNonce.clearMac (zeroBytes 16)) (4 * w) 4)) sNonce
def sNoNonce : State := { upT with keys := k3 }
def sLate : State := at_ sNonce 200000000000
def sLog : State := { up.set F.SOOT_STS_NEXT 2 with soot := { up.soot with log := [(0, ev2), (1, ev2)] } }
/-- Channel 31 has receiver 1; slot 0 may send. -/
def sMbx : State := (upT.set (F.MBX_CFG_RECEIVER 31) 1).set F.AND_MAP_PAIR 0xFFFFFF21
def sMbx0 : State := upT.set (F.MBX_CFG_RECEIVER 31) 8
def chFull : MbxChan := { full := true, num := 255, poster := 2, postAt := 100, timer := true }
def sFull : State := { sMbx0 with hrt := { sMbx0.hrt with chans := [(31, chFull)] } }
def sDead : State := (upT.set (F.MBX_CFG_RECEIVER 31) 1).set F.AND_MAP_PAIR 0xFFFFFFFF
def sPark : State := sMbx.set F.HRT_STS_PARKED 2
def sDeny : State := upT.set (F.MBX_CFG_SENDERS 31) 0
def sAway : State := { sMbx0 with hrt := { sMbx0.hrt with chans := [(31, { chFull with away := true, timer := false })] } }
def sTimer : State := upT.set (F.HRT_MTIMECMP_VALUE 7) 150000000
def sWdt : State := ((upT.set F.HRT_WDT_CTL_EN 1).set F.AND_MAP_PAIR 0x00000000).set F.HRT_STS_RUN 0xFF
def sWarn : State := at_ (sWdt.set F.HRT_WDT_STS_WARN 0x80) 400000000
def sCalm : State := sWarn.set F.KDL_STS_BUSY 0
def s_MailboxesAndHearthSlots_16 : State := (sWdt.set F.GLB_MODE_MODE 5)

theorem witness_SootClearsAndReads :
    (State.writable upT h0 R.SOOT_CLR_CTL = true ∧ State.get upT F.SOOT_CLR_CTL_BUSY = 0 ∧ State.qphase upT = 0 ∧
      State.get upT (F.MBX_CFG_EN (State.get upT F.SOOT_CLR_CFG_CHAN)) = 1) ∧
    (State.writable sResp h0 R.SOOT_CLR_CTL = true ∧ State.get sResp F.SOOT_CLR_CTL_BUSY = 0 ∧ State.qphase sResp = 0 ∧
      Option.isSome (Tab.find sResp.keys.slots 3) = true ∧ sResp.soot.nonce = some (zeroBytes 16, 149000000) ∧
      State.now sResp < 149000000 + State.get sResp F.SOOT_CLR_CFG_TO_S * 100000000 ∧
      List.flatMap (fun w => leBytes 4 (State.get sResp (F.SOOT_CLR_RESP_DATA w))) (List.range 8) = State.clearMac sResp (zeroBytes 16)) ∧
    (State.writable sNoNonce h0 R.SOOT_CLR_CTL = true ∧ State.get sNoNonce F.SOOT_CLR_CTL_BUSY = 0 ∧ State.qphase sNoNonce = 0 ∧
      Option.isSome (Tab.find sNoNonce.keys.slots 3) = true ∧ sNoNonce.soot.nonce = none) ∧
    (sLate.soot.nonce = some (zeroBytes 16, 149000000) ∧ 149000000 + State.get sLate F.SOOT_CLR_CFG_TO_S * 100000000 ≤ State.now sLate) ∧
    (State.released sLog dSbd = true) ∧
    (State.canReach up h0 = true) ∧
    (upT.soot.opFrom + 100000 ≤ State.now upT) :=
  by and_intros <;> decide +kernel

theorem witness_MailboxesAndHearthSlots_1 :
    (State.writable sMbx0 h0 (R.MBX_SEND + 256 * 31) = true ∧ bit 2147488308 31 = true ∧ State.released sMbx0 dNoc = true ∧
      State.get sMbx0 (F.MBX_CFG_EN 31) = 1 ∧ bit (State.get sMbx0 (F.MBX_CFG_SENDERS 31)) (reqAgent h0) = true ∧
      State.get sMbx0 (F.MBX_CFG_RECEIVER 31) ≠ 9 ∧ State.receiverDead sMbx0 (State.get sMbx0 (F.MBX_CFG_RECEIVER 31)) = false ∧
      bit (State.get sMbx0 F.HRT_STS_PARKED) (State.get sMbx0 (F.MBX_CFG_RECEIVER 31)) = false ∧ (State.chan sMbx0 31).full = false) ∧
    (State.writable sFull h0 (R.MBX_SEND + 256 * 31) = true ∧ bit 2147488308 31 = true ∧ State.released sFull dNoc = true ∧
      State.get sFull (F.MBX_CFG_EN 31) = 1 ∧ bit (State.get sFull (F.MBX_CFG_SENDERS 31)) (reqAgent h0) = true ∧
      State.get sFull (F.MBX_CFG_RECEIVER 31) ≠ 9 ∧ State.receiverDead sFull (State.get sFull (F.MBX_CFG_RECEIVER 31)) = false ∧
      bit (State.get sFull F.HRT_STS_PARKED) (State.get sFull (F.MBX_CFG_RECEIVER 31)) = false ∧ (State.chan sFull 31).full = true) ∧
    (State.writable sDead h0 (R.MBX_SEND + 256 * 31) = true ∧ bit 2147488308 31 = true ∧ State.released sDead dNoc = true ∧
      State.get sDead (F.MBX_CFG_EN 31) = 1 ∧ bit (State.get sDead (F.MBX_CFG_SENDERS 31)) (reqAgent h0) = true ∧
      State.get sDead (F.MBX_CFG_RECEIVER 31) < 8 ∧ State.pairOf sDead (State.get sDead (F.MBX_CFG_RECEIVER 31)) = 15 ∧
      bit (State.get sDead F.HRT_STS_PARKED) (State.get sDead (F.MBX_CFG_RECEIVER 31)) = false ∧ (State.chan sDead 31).full = false) ∧
    (State.writable sPark h0 (R.MBX_SEND + 256 * 31) = true ∧ bit 2147488308 31 = true ∧ State.released sPark dNoc = true ∧
      State.get sPark (F.MBX_CFG_EN 31) = 1 ∧ bit (State.get sPark (F.MBX_CFG_SENDERS 31)) (reqAgent h0) = true ∧
      State.get sPark (F.MBX_CFG_RECEIVER 31) < 8 ∧ State.receiverDead sPark (State.get sPark (F.MBX_CFG_RECEIVER 31)) = false ∧
      bit (State.get sPark F.HRT_STS_PARKED) (State.get sPark (F.MBX_CFG_RECEIVER 31)) = true ∧ (State.chan sPark 31).full = false) ∧
    (State.writable sDeny h0 (R.MBX_SEND + 256 * 31) = true ∧ bit 2147488308 31 = true ∧ State.released sDeny dNoc = true ∧
      bit (State.get sDeny (F.MBX_CFG_SENDERS 31)) (reqAgent h0) = false) ∧
    (State.writable sFull Req.sideband (R.MBX_ACK + 256 * 31) = true ∧ bit 2147483903 31 = true ∧ State.released sFull dNoc = true ∧
      reqAgent Req.sideband = State.get sFull (F.MBX_CFG_RECEIVER 31) ∧ (State.chan sFull 31).full = true ∧
      (State.chan sFull 31).num = 2147483903 % 256) ∧
    (State.writable sFull Req.sideband (R.MBX_ACK + 256 * 31) = true ∧ bit 2147483902 31 = true ∧ State.released sFull dNoc = true ∧
      reqAgent Req.sideband = State.get sFull (F.MBX_CFG_RECEIVER 31) ∧ (State.chan sFull 31).num ≠ 2147483902 % 256) ∧
    ((State.chan sFull 31).full = true ∧ (State.chan sFull 31).timer = true ∧ State.get sFull (F.MBX_CFG_TO_MS 31) ≠ 0 ∧
      (State.chan sFull 31).postAt + State.get sFull (F.MBX_CFG_TO_MS 31) * 100000 ≤ State.now sFull) ∧
    ((State.chan sAway 31).full = true ∧ (State.chan sAway 31).away = true ∧ (List.all sAway.crl.txq fun f => f.chan != some 31) = true ∧
      (List.all sAway.crl.replay fun f => f.chan != some 31) = true) ∧
    (State.get sTimer (F.HRT_MTIMECMP_VALUE 7) ≤ State.now sTimer ∧ (¬7 ∈ sTimer.hrt.mtip)) :=
  by and_intros <;> decide +kernel

theorem witness_MailboxesAndHearthSlots_2 :
    (State.writable sWarn (Req.hart 7 false) (R.HRT_WDT_KICK + 4 * 7) = true ∧ State.wdtOn sWarn 7 = true) ∧
    (State.wdtOn sWdt 7 = true ∧ State.get sWdt F.HRT_WDT_TO_TIMEOUT * 100000 ≤ State.wdtCount sWdt 7 ∧
      bit (State.get sWdt F.HRT_WDT_STS_WARN) 7 = false) ∧
    (State.wdtOn sCalm 7 = true ∧ 2 * (State.get sCalm F.HRT_WDT_TO_TIMEOUT * 100000) ≤ State.wdtCount sCalm 7 ∧ State.calm sCalm = true ∧
      sCalm.kdl.held = []) ∧
    (State.writable sWarn h0 R.HRT_WDT_RESTART = true ∧ bit 2147483655 31 = true ∧ bit (State.get sWarn F.HRT_WDT_STS_WARN) (2147483655 % 8) = true) ∧
    (State.writable s_MailboxesAndHearthSlots_16 (Req.hart (2147483655 % 8) false) R.HRT_PARK = true ∧ bit 2147483655 31 = true ∧ 2147483655 % 8 ≠ 0 ∧
      State.md s_MailboxesAndHearthSlots_16 = 5) :=
  by and_intros <;> decide +kernel

end Hearth

namespace Tick

/-- 1,000 counts after a whole second, as far as SLEW_MAX goes. -/
def upC : State := up.set F.TICK_STS_CLK_OK 1
def sAhead : State := at_ upC 300001000
def sBehind : State := at_ upC 299999000
def sStep : State := at_ up 300001001
def sSrc0 : State := upT.set F.TICK_CTL_SRC 0
def sSrc2 : State := { (at_ ((upT.set F.TICK_CTL_SRC 2).set (F.HST_LINK_STS_LTSSM 0) 3) 500000) with ports := [(0, { ptmEnable := true })] }
def sSlew0 : State := { upT with tick := { upT.tick with slew := .slew true 0, inLimit := true } }
def sNoClk : State := (upT.set F.TICK_STS_HOLDOVER 1)
def slewing (x : Slew) : State := { upT with tick := { upT.tick with slew := x } }
def cut1 : State := ((((upT.set F.TICK_CTL_CUT_EN 1).set (F.TICK_CS_T_VALUE 15) 149999999).set (F.TICK_CS_PER_VALUE 15) 1000000).set F.TICK_CLOG_CTL_WR 63).set F.TICK_CLOG_CTL_COUNT 63
def cut0 : State := ((upT.set (F.TICK_CS_T_VALUE 15) 149999999).set (F.TICK_CS_PER_VALUE 15) 1000000).set (F.TICK_CS_T_VALUE 0) 5
def clog : State := (up.set F.TICK_CLOG_CTL_COUNT 64).set F.TICK_CLOG_CTL_RD 1
def hold1 : State := { upT with tick := { upT.tick with gapHold := some 150000000 } }
def armed (n : Nat) : State := { upT with tick := { upT.tick with streams := [(3, { arm := true, state := 1, items := n })], armCount := 5 } }.set F.TICK_RS_SEL_STREAM 3
def s_CutsAndStreams_5 : State := upT.set F.TICK_RS_SEL_STREAM 3

theorem witness_ArrayTimeIsCorrected_1 :
    (State.get sAhead F.TICK_CTL_SRC = 1 ∧ State.get sAhead F.TICK_STS_CLK_OK = 1 ∧ sAhead.tick.loaded = true ∧ 0 < State.now sAhead % 100000000 ∧
      State.now sAhead % 100000000 < 50000000 ∧ State.now sAhead % 100000000 ≤ State.get sAhead F.TICK_LIMITS_SLEW_MAX) ∧
    (State.get sBehind F.TICK_CTL_SRC = 1 ∧ State.get sBehind F.TICK_STS_CLK_OK = 1 ∧ sBehind.tick.loaded = true ∧
      50000000 ≤ State.now sBehind % 100000000 ∧ 100000000 - State.now sBehind % 100000000 ≤ State.get sBehind F.TICK_LIMITS_SLEW_MAX) ∧
    (State.get sStep F.TICK_CTL_SRC = 1 ∧ sStep.tick.loaded = true ∧ State.get sStep F.TICK_LIMITS_SLEW_MAX < State.now sStep % 100000000 ∧
      State.get sStep F.TICK_LIMITS_SLEW_MAX < 100000000 - State.now sStep % 100000000) ∧
    (State.get sNoClk F.TICK_CTL_SRC = 1 ∧ State.get sNoClk F.TICK_STS_CLK_OK = 0 ∧ sNoClk.tick.loaded = true ∧
      State.get sNoClk F.TICK_STS_HOLDOVER = 1) ∧
    (State.get sSrc0 F.TICK_CTL_SRC ≠ 1) ∧
    ((State.port sSrc2 0).ptmEnable = true ∧ State.get sSrc2 (F.HST_LINK_STS_LTSSM 0) = 3 ∧ State.get sSrc2 F.TICK_CTL_SRC = 2 ∧
      sSrc2.tick.loaded = true ∧ (State.port sSrc2 0).ptmAt + max 1 (State.get sSrc2 F.TICK_PTM_INT_INTERVAL) * 100 ≤ State.cyc sSrc2 ∧
      (1000 : Int) = (500000 : Int) - (((4990000 / 10 : Nat) : Int) + BitVec.toInt (BitVec.ofNat 64 (State.get sSrc2 F.TICK_PTM_OFS_OFS))) ∧
      1000 ≠ 0 ∧ -((State.get sSrc2 F.TICK_LIMITS_SLEW_MAX : Nat) : Int) ≤ 1000 ∧ 1000 ≤ ((State.get sSrc2 F.TICK_LIMITS_SLEW_MAX : Nat) : Int)) ∧
    ((State.port sSrc2 0).ptmEnable = true ∧ State.get sSrc2 (F.HST_LINK_STS_LTSSM 0) = 3 ∧ State.get sSrc2 F.TICK_CTL_SRC = 2 ∧
      sSrc2.tick.loaded = true ∧ (State.port sSrc2 0).ptmAt + max 1 (State.get sSrc2 F.TICK_PTM_INT_INTERVAL) * 100 ≤ State.cyc sSrc2 ∧
      (1001 : Int) = (500000 : Int) - (↑(4989990 / 10) + BitVec.toInt (BitVec.ofNat 64 (State.get sSrc2 F.TICK_PTM_OFS_OFS))) ∧
      ((State.get sSrc2 F.TICK_LIMITS_SLEW_MAX : Nat) : Int) < 1001) ∧
    ((State.port sSrc2 0).ptmEnable = true ∧ State.get sSrc2 (F.HST_LINK_STS_LTSSM 0) = 3 ∧ State.get sSrc2 F.TICK_CTL_SRC = 2 ∧
      sSrc2.tick.loaded = true ∧ (State.port sSrc2 0).ptmAt + max 1 (State.get sSrc2 F.TICK_PTM_INT_INTERVAL) * 100 ≤ State.cyc sSrc2 ∧
      (-1001 : Int) = (500000 : Int) - (((5010010 / 10 : Nat) : Int) + BitVec.toInt (BitVec.ofNat 64 (State.get sSrc2 F.TICK_PTM_OFS_OFS))) ∧
      -1001 < -((State.get sSrc2 F.TICK_LIMITS_SLEW_MAX : Nat) : Int)) ∧
    ((sSlew0.tick.slew = Slew.slew true 0 ∨ sSlew0.tick.slew = Slew.half 0)) ∧
    (State.get upT F.TICK_CTL_SRC = 1) :=
  by and_intros <;> decide +kernel

theorem witness_ArrayTimeIsCorrected_2 :
    (State.get upT F.TICK_CTL_SRC = 1) ∧
    (State.get sSrc2 F.TICK_CTL_SRC = 2) ∧
    (State.get sSrc0 F.TICK_CTL_SRC = 0) ∧
    (State.get sSrc0 F.TICK_CTL_SRC = 0) ∧
    (State.get sSrc0 F.TICK_CTL_SRC = 0) ∧
    (upT.tick.loaded = true ∧ upT.tick.floorSec < State.now upT / 100000000 ∧ State.released upT dEmb = true) :=
  by and_intros <;> decide +kernel

theorem witness_CutsAndStreams :
    (State.get cut1 F.TICK_CTL_CUT_EN = 1 ∧ State.released cut1 dNoc = true ∧ State.dueCut cut1 (State.now cut1) = some 15 ∧
      State.get cut1 F.TICK_CLOG_CTL_COUNT < 64 ∧ State.md cut1 ≠ 5 ∧ 1048576 = (cut1.bel.seqNext + 2 ^ 20 - 1) / 2 ^ 20 * 2 ^ 20 ∧
      1048576 + 2 ^ 20 ≤ 2 ^ 62 ∧ List.length cut1.tick.gaps < 64 ∧ State.get cut1 F.TICK_CLOG_CTL_WR < 64 ∧ cut1.ich.waiting = []) ∧
    (State.writable cut0 h0 R.TICK_CTL = true ∧ State.get cut0 F.TICK_CTL_CUT_EN = 0) ∧
    (State.writable clog h0 R.TICK_CLOG_CTL = true ∧ (0 + 64 - State.get clog F.TICK_CLOG_CTL_RD) % 64 ≤ State.get clog F.TICK_CLOG_CTL_COUNT ∧
      State.get clog F.TICK_CLOG_CTL_COUNT < 128) ∧
    (hold1.tick.gapHold = some 150000000 ∧ 150000000 ≤ State.now hold1) ∧
    (State.writable s_CutsAndStreams_5 h0 R.TICK_RS_CFG = true ∧ 3 = State.get s_CutsAndStreams_5 F.TICK_RS_SEL_STREAM ∧
      (State.stream s_CutsAndStreams_5 3).arm = false ∧ s_CutsAndStreams_5.tick.armCount < 2 ^ 48) ∧
    (State.writable (armed 1) h0 R.TICK_RS_CFG = true ∧ 3 = State.get (armed 1) F.TICK_RS_SEL_STREAM ∧ (State.stream (armed 1) 3).arm = true ∧
      bit 3221225472 31 = true ∧ (State.stream (armed 1) 3).items ≠ 0) ∧
    (State.writable (armed 0) h0 R.TICK_RS_CFG = true ∧ 3 = State.get (armed 0) F.TICK_RS_SEL_STREAM ∧ (State.stream (armed 0) 3).arm = true ∧
      bit 3221225472 31 = true ∧ (State.stream (armed 0) 3).items = 0 ∧ (State.stream (armed 0) 3).state = 1) ∧
    (State.writable (armed 1) h0 R.TICK_RS_IDX = true ∧ 3 = State.get (armed 1) F.TICK_RS_SEL_STREAM) :=
  by and_intros <;> decide +kernel

end Tick

namespace Pools

def gr0 (c : Nat) : Grate := { chan := c, journalled := true, atime := 5, user := 8 }
def sHeld : State := { upT with pool := { held := [(0, gr0 0), (12287, gr0 0)], shared := [(0, 1)], stalled := [0] } }
def sShared : State := { upT with pool := { held := [(0, gr0 7)], shared := [(7, 1)] } }
def sSpill : State := { (upT.set F.GRT_SPILL_LO_LEVEL 4000) with pool := { held := [(0, gr0 0), (5, gr0 0)], shared := [(0, 1)] } }
def sNoRsv : State := { upT.set (F.GRT_CH_RSV_RSV 7) 0 with pool := { held := [(0, gr0 0)] } }
def sNoCap : State := sNoRsv.set (F.GRT_CH_CAP_CAP 7) 0
def req7 : GrateReq := { chan := 7, user := 12, atime := 5 }
def sWaits : State := { upT with pool := { waiting := [req7] } }
def s_GratesAreGranted_7 : State := upT.set F.GRT_POOL_CFG_LOCK 1
def sRsv (n : Nat) : State := upT.set (F.GRT_CH_RSV_RSV 7) n
def rW : JRec := { seq := 7, atime := 5, type := 1, mirror := false, origin := 0, vol := 3, len := 4096, tag := 4, line := 10 }
def rM : JRec := { rW with mirror := true, origin := 1 }
def rO : JRec := { rW with type := 7, committed := true }
def jn (r : JRec) : State := { upT with jnl := { upT.jnl with recs := [r], credit := 40960, creditAt := upT.cyc }, pool := { held := [(0, gr0 0)] } }
def poor : State := { jn rW with jnl := { (jn rW).jnl with credit := 0 } }
def rWc : JRec := { rW with committed := true }
def sReloc : State := (jn { rW with committed := true }).set F.JNL_STS_READY 1
def sReloc' : State := { sReloc with jnl := { sReloc.jnl with head := 300000 }, regs := Tab.putN sReloc.regs F.JNL_CTL_LOW.key 0x60000 }
def s_JournalRecords_9 : State := { upT with jnl := { upT.jnl with opt := [(0, [1]), (1, [2])] } }
def sOpt : State := (((upT.set F.GLB_MODE_MODE 6).set (F.JNL_OPT_DATA_DATA 0) 0x4F505442).set (F.JNL_OPT_DATA_DATA 1) 1)
def sKey : State := { (upT.set F.KEY_SLOT_SEL_SLOT 4095).set F.KEY_SLOT_CMD_OP 1 with
  keys := { slots := [(4, { key := (List.range 64).map (BitVec.ofNat 8), cls := 2 }), (4095, { key := (List.range 64).map (BitVec.ofNat 8), cls := 1 })], gens := [(4, 9)], aroot := some (zeroBytes 32) } }
def sEmpty : State := ((upT.set F.KEY_SLOT_SEL_SLOT 16).set (F.KEY_DATA_DATA 0) 7).set F.KEY_SLOT_ATTR_CLASS 1
def s_KeySlots_3 : State := upT.set F.KEY_SLOT_SEL_SLOT 15
def s_KeySlots_4 : State := upT.set F.KEY_SLOT_SEL_SLOT 16
def sDer : State := { upT.set F.KEY_SLOT_SEL_SLOT 4 with keys := { aroot := some (zeroBytes 32) } }
def s_KeySlots_6 : State := upT.set F.GLB_MODE_MODE 6
def s_KeySlots_8 : State := { sKey with keys := { sKey.keys with erase := some 5 } }

theorem witness_GratesAreFreed :
    (Tab.find sHeld.pool.held 12287 = some (gr0 0)) ∧
    (0 < State.chanShared sShared 7 ∧ (¬7 ∈ sShared.pool.stalled) ∧
      Tab.getN sShared.pool.stallFrom 7 + State.get sShared F.GRT_STALL_TO_TIMEOUT * 100 ≤ State.cyc sShared) ∧
    (State.sharedFree sSpill < State.get sSpill F.GRT_SPILL_LO_LEVEL ∧ State.spillNext sSpill = some 0 ∧ Tab.find sSpill.pool.held 0 = some (gr0 0) ∧
      sSpill.ich.waiting = []) :=
  by and_intros <;> decide +kernel

theorem witness_GratesAreGranted :
    (State.released sHeld dCch = true ∧ State.chanTotal sHeld 7 - State.chanShared sHeld 7 < State.get sHeld (F.GRT_CH_RSV_RSV 7) ∧
      (List.all sHeld.pool.waiting fun w => w.chan != 7) = true ∧ State.freeGrate sHeld = some 1) ∧
    (State.released sNoRsv dCch = true ∧ State.get sNoRsv (F.GRT_CH_RSV_RSV 7) ≤ State.chanTotal sNoRsv 7 - State.chanShared sNoRsv 7 ∧
      State.chanShared sNoRsv 7 < State.get sNoRsv (F.GRT_CH_CAP_CAP 7) ∧ State.sharersWaiting sNoRsv < State.sharedFree sNoRsv ∧
      (¬7 ∈ sNoRsv.pool.stalled) ∧ (List.all sNoRsv.pool.waiting fun w => w.chan != 7) = true ∧ State.freeGrate sNoRsv = some 1) ∧
    (State.released sNoCap dCch = true ∧ State.get sNoCap (F.GRT_CH_RSV_RSV 7) ≤ State.chanTotal sNoCap 7 - State.chanShared sNoCap 7 ∧
      (State.get sNoCap (F.GRT_CH_CAP_CAP 7) ≤ State.chanShared sNoCap 7 ∨ State.sharedFree sNoCap ≤ State.sharersWaiting sNoCap)) ∧
    (State.released sWaits dCch = true ∧ State.nextGrant sWaits = some req7 ∧ State.freeGrate sWaits = some 0 ∧
      State.canReserve sWaits req7.chan = true ∧ (List.all sWaits.bel.cmds fun c => c.stage != CmdStage.landing) = true ∧ sWaits.crl.mirIn = [] ∧
      sWaits.crl.mirOut = [] ∧ (List.all sWaits.drv.cmds fun x => x.sent) = true ∧ sWaits.jnl.regain = []) ∧
    (State.writable upT h0 (R.GRT_CH_RSV + 4 * 7) = true ∧ State.get upT F.GRT_POOL_CFG_LOCK = 0 ∧
      State.rsvSum upT - State.get upT (F.GRT_CH_RSV_RSV 7) + (256 + 3840) % 2 ^ 14 ≤ 12288) ∧
    (State.writable upT h0 (R.GRT_CH_RSV + 4 * 7) = true ∧ State.get upT F.GRT_POOL_CFG_LOCK = 0 ∧
      12288 < State.rsvSum upT - State.get upT (F.GRT_CH_RSV_RSV 7) + (256 + 3841) % 2 ^ 14) ∧
    (State.writable s_GratesAreGranted_7 h0 (R.GRT_CH_RSV + 4 * 7) = true ∧ State.get s_GratesAreGranted_7 F.GRT_POOL_CFG_LOCK = 1) ∧
    (State.writable (sRsv (256 + 2816)) h0 R.GRT_POOL_CFG = true ∧ State.rsvSum (sRsv (256 + 2816)) ≤ 11264) ∧
    (State.writable (sRsv (256 + 2817)) h0 R.GRT_POOL_CFG = true ∧ 11264 < State.rsvSum (sRsv (256 + 2817))) :=
  by and_intros <;> decide +kernel

theorem witness_JournalRecords :
    (State.rec? (jn rW) false 0 7 = some rW ∧ rW.committed = false ∧ rW.type = 1 ∧ 160 * (4 * JRec.lines rW) ≤ State.creditNow (jn rW)) ∧
    (State.rec? (jn rM) true 1 7 = some rM ∧ rM.committed = false ∧ rM.type = 1 ∧ rM.body = RecBody.none ∧
      160 * (4 * JRec.lines rM) ≤ State.creditNow (jn rM) ∧ State.session (jn rM) = false) ∧
    (State.rec? poor false 0 7 = some rW ∧ rW.committed = false ∧ State.creditNow poor < 160 * (4 * JRec.lines rW)) ∧
    (State.rec? (jn rO) false 0 7 = some rO ∧ rO.committed = true ∧ rO.type = 7 ∧ Tab.find (jn rO).crl.mirWait (JRec.key rO) = none ∧
      (jn rO).jnl.waiting = [] ∧ State.session (jn rO) = false ∧ 160 ≤ State.creditNow (jn rO)) ∧
    (State.get sReloc' F.JNL_CTL_RELOC_EN = 1 ∧ State.get sReloc' F.JNL_STS_READY = 1 ∧
      State.freeLines sReloc' < 2 * State.get sReloc' F.JNL_CTL_LOW ∧ State.tailRec sReloc' = some rWc ∧ rWc.committed = true ∧
      State.place sReloc' (JRec.lines rWc) = some (300000, 0) ∧ 160 * (4 * JRec.lines rWc + 1) ≤ State.creditNow sReloc') ∧
    (4194304 ≤ 4194304 + 64 * 10 ∧ 4194304 + 64 * 10 < 29360128) ∧
    (State.writable sOpt h0 R.JNL_OPT_CMD = true ∧ bit 2147483648 31 = true ∧ State.md sOpt = 6 ∧ leAt (State.optStaged sOpt) 0 4 = 1330664514 ∧
      leAt (State.optStaged sOpt) 4 2 = 1 ∧ 1 = 1 - State.get sOpt F.JNL_OPT_STS_CUR ∧ 1 = (leAt sOpt.jnl.cur 8 4 + 1) % 2 ^ 32) ∧
    (State.writable upT h0 R.JNL_OPT_CMD = true ∧ bit 2147483648 31 = true ∧ State.md upT ≠ 6) :=
  by and_intros <;> decide +kernel

theorem witness_KeyWrapRoundTrip :
    (State.writable sKey h0 R.KEY_SLOT_CMD = true ∧ 4095 = State.get sKey F.KEY_SLOT_SEL_SLOT ∧
      Tab.find sKey.keys.slots 4095 = some { key := List.map (BitVec.ofNat 8) (List.range 64), cls := 1 : KeySlot } ∧
      Tab.find sKey.keys.slots 4 = some { key := List.map (BitVec.ofNat 8) (List.range 64), cls := 2 : KeySlot } ∧
      List.length { key := List.map (BitVec.ofNat 8) (List.range 64), cls := 1 : KeySlot }.key = 64 ∧
      { key := List.map (BitVec.ofNat 8) (List.range 64), cls := 1 : KeySlot }.cls < 3 ∧ Tab.getN sKey.keys.gens 4 < 2 ^ 32) :=
  by and_intros <;> decide +kernel

theorem witness_KeySlots :
    (State.writable sEmpty h0 R.KEY_SLOT_CMD = true ∧ 16 = State.get sEmpty F.KEY_SLOT_SEL_SLOT ∧ Tab.find sEmpty.keys.slots 16 = none ∧
      List.take 32 (State.keyData sEmpty) ≠ List.drop 32 (State.keyData sEmpty)) ∧
    (State.writable sKey h0 R.KEY_SLOT_CMD = true ∧ 4095 = State.get sKey F.KEY_SLOT_SEL_SLOT) ∧
    (State.writable s_KeySlots_3 h0 R.KEY_SLOT_CMD = true ∧ State.get s_KeySlots_3 F.KEY_SLOT_SEL_SLOT < 16) ∧
    (State.writable s_KeySlots_4 h0 R.KEY_SLOT_CMD = true ∧ 16 ≤ State.get s_KeySlots_4 F.KEY_SLOT_SEL_SLOT ∧
      Tab.find s_KeySlots_4.keys.slots (State.get s_KeySlots_4 F.KEY_SLOT_SEL_SLOT) = none ∧
      List.take 32 (State.keyData s_KeySlots_4) = List.drop 32 (State.keyData s_KeySlots_4)) ∧
    (State.writable sDer h0 R.KEY_SLOT_CMD = true ∧ 4 = State.get sDer F.KEY_SLOT_SEL_SLOT ∧ sDer.keys.aroot = some (zeroBytes 32) ∧
      Tab.getN sDer.keys.gens 4 + 1 < 2 ^ 32) ∧
    (State.writable s_KeySlots_6 h0 R.KEY_SLOT_CMD = true ∧ s_KeySlots_6.keys.aroot = none ∧ State.md s_KeySlots_6 = 6) ∧
    (State.writable sDer h0 R.KEY_SLOT_CMD = true ∧ sDer.keys.aroot ≠ none) ∧
    (s_KeySlots_8.keys.erase = some 5 ∧ 5 + 2000000 ≤ State.cyc s_KeySlots_8 ∧ s_KeySlots_8.stoves = []) :=
  by and_intros <;> decide +kernel

end Pools

namespace Isa

def sLast : State := stv { strand3 with pc := 63 }
def sQueued : State := stvF (fun v => { v with queue := [{ bytes := zeroBytes 64 }] }) strand3
def sBusy0 : State := { sStv with stoves := sStv.stoves.map (fun e => (e.1, { e.2 with strands := [(0, strand3), (3, strand3)] })) }
def sDone : State := stv { strand3 with tickets := [(1, { epoch := 4, used := true, job := none, status := 9 })] }

theorem witness_StoveArithmetic_1 :
    (State.issues (word 16 (ins 31 2 1 0 0) sStv) 15 3 16 (ins 31 2 1 0 0) (legalG (ins 31 2 1 0 0)) ((State.strand (word 16 (ins 31 2 1 0 0) sStv) 15 3).pc + 1) = true) ∧
    (State.issues (word 17 (ins 31 2 1 0 0) sStv) 15 3 17 (ins 31 2 1 0 0) (legalG (ins 31 2 1 0 0)) ((State.strand (word 17 (ins 31 2 1 0 0) sStv) 15 3).pc + 1) = true) ∧
    (State.issues (word 18 (ins 31 2 1 0 0) sStv) 15 3 18 (ins 31 2 1 0 0) (legalG (ins 31 2 1 0 0)) ((State.strand (word 18 (ins 31 2 1 0 0) sStv) 15 3).pc + 1) = true) ∧
    (State.issues (word 22 (ins 31 2 3 0 0) sStv) 15 3 22 (ins 31 2 3 0 0) (legalG (ins 31 2 3 0 0)) ((State.strand (word 22 (ins 31 2 3 0 0) sStv) 15 3).pc + 1) = true) ∧
    (State.issues (word 23 (ins 31 2 3 0 0) sStv) 15 3 23 (ins 31 2 3 0 0) (legalG (ins 31 2 3 0 0)) ((State.strand (word 23 (ins 31 2 3 0 0) sStv) 15 3).pc + 1) = true) ∧
    (State.issues (word 27 (ins 31 2 2 0 0) sStv) 15 3 27 (ins 31 2 2 0 0) (legalG (ins 31 2 2 0 0)) ((State.strand (word 27 (ins 31 2 2 0 0) sStv) 15 3).pc + 1) = true) ∧
    (State.issues (word 19 (ins 31 2 1 0 0) sStv) 15 3 19 (ins 31 2 1 0 0) (legalG (ins 31 2 1 0 0)) ((State.strand (word 19 (ins 31 2 1 0 0) sStv) 15 3).pc + 1) = true) ∧
    (State.issues (word 20 (ins 31 2 1 0 0) sStv) 15 3 20 (ins 31 2 1 0 0) (legalG (ins 31 2 1 0 0)) ((State.strand (word 20 (ins 31 2 1 0 0) sStv) 15 3).pc + 1) = true) ∧
    (State.issues (word 21 (ins 31 2 1 0 0) sStv) 15 3 21 (ins 31 2 1 0 0) (legalG (ins 31 2 1 0 0)) ((State.strand (word 21 (ins 31 2 1 0 0) sStv) 15 3).pc + 1) = true) ∧
    (State.issues (word 24 (ins 31 2 1 0 0) sStv) 15 3 24 (ins 31 2 1 0 0) (legalG (ins 31 2 1 0 0)) ((State.strand (word 24 (ins 31 2 1 0 0) sStv) 15 3).pc + 1) = true) :=
  by and_intros <;> decide +kernel

theorem witness_StoveArithmetic_2 :
    (State.issues (word 25 (ins 31 2 1 0 0) sStv) 15 3 25 (ins 31 2 1 0 0) (legalG (ins 31 2 1 0 0)) ((State.strand (word 25 (ins 31 2 1 0 0) sStv) 15 3).pc + 1) = true) ∧
    (State.issues (word 26 (ins 31 2 1 0 0) sStv) 15 3 26 (ins 31 2 1 0 0) (legalG (ins 31 2 1 0 0)) ((State.strand (word 26 (ins 31 2 1 0 0) sStv) 15 3).pc + 1) = true) ∧
    (State.issues (word 28 (ins 2 2 0 0 0) sStv) 15 3 28 (ins 2 2 0 0 0) (legalG (ins 2 2 0 0 0) && (ins 2 2 0 0 0).c == 0) ((State.strand (word 28 (ins 2 2 0 0 0) sStv) 15 3).pc + 1) = true) ∧
    (State.issues (word 29 (ins 2 2 0 0 0) sStv) 15 3 29 (ins 2 2 0 0 0) (legalG (ins 2 2 0 0 0) && (ins 2 2 0 0 0).c == 0) ((State.strand (word 29 (ins 2 2 0 0 0) sStv) 15 3).pc + 1) = true) ∧
    (State.issues (word 30 (ins 2 2 0 0 0) sStv) 15 3 30 (ins 2 2 0 0 0) (legalG (ins 2 2 0 0 0) && (ins 2 2 0 0 0).c == 0) ((State.strand (word 30 (ins 2 2 0 0 0) sStv) 15 3).pc + 1) = true) ∧
    (State.issues (word 32 (ins 2 2 0 0 4294967295) sStv) 15 3 32 (ins 2 2 0 0 4294967295) (legalI (ins 2 2 0 0 4294967295)) ((State.strand (word 32 (ins 2 2 0 0 4294967295) sStv) 15 3).pc + 1) = true) ∧
    (State.issues (word 34 (ins 2 2 0 0 4294967295) sStv) 15 3 34 (ins 2 2 0 0 4294967295) (legalI (ins 2 2 0 0 4294967295)) ((State.strand (word 34 (ins 2 2 0 0 4294967295) sStv) 15 3).pc + 1) = true) ∧
    (State.issues (word 37 (ins 2 2 0 0 63) sStv) 15 3 37 (ins 2 2 0 0 63) (legalI (ins 2 2 0 0 63) && decide (BitVec.toNat (ins 2 2 0 0 63).imm < 64)) ((State.strand (word 37 (ins 2 2 0 0 63) sStv) 15 3).pc + 1) = true) ∧
    (State.issues (word 39 (ins 2 2 0 0 63) sStv) 15 3 39 (ins 2 2 0 0 63) (legalI (ins 2 2 0 0 63) && decide (BitVec.toNat (ins 2 2 0 0 63).imm < 64)) ((State.strand (word 39 (ins 2 2 0 0 63) sStv) 15 3).pc + 1) = true) ∧
    (State.issues (word 40 (ins 2 2 0 0 4294967295) sStv) 15 3 40 (ins 2 2 0 0 4294967295) (legalI (ins 2 2 0 0 4294967295)) ((State.strand (word 40 (ins 2 2 0 0 4294967295) sStv) 15 3).pc + 1) = true) :=
  by and_intros <;> decide +kernel

theorem witness_StoveArithmetic_3 :
    (State.issues (word 41 (ins 2 2 0 0 4294967295) sStv) 15 3 41 (ins 2 2 0 0 4294967295) (legalI (ins 2 2 0 0 4294967295)) ((State.strand (word 41 (ins 2 2 0 0 4294967295) sStv) 15 3).pc + 1) = true) ∧
    (State.issues (word 42 (ins 2 2 0 0 4294967295) sStv) 15 3 42 (ins 2 2 0 0 4294967295) (legalI (ins 2 2 0 0 4294967295)) ((State.strand (word 42 (ins 2 2 0 0 4294967295) sStv) 15 3).pc + 1) = true) ∧
    (State.issues (word 35 (ins 2 2 0 0 4294967295) sStv) 15 3 35 (ins 2 2 0 0 4294967295) (legalI (ins 2 2 0 0 4294967295)) ((State.strand (word 35 (ins 2 2 0 0 4294967295) sStv) 15 3).pc + 1) = true) ∧
    (State.issues (word 36 (ins 2 2 0 0 4294967295) sStv) 15 3 36 (ins 2 2 0 0 4294967295) (legalI (ins 2 2 0 0 4294967295)) ((State.strand (word 36 (ins 2 2 0 0 4294967295) sStv) 15 3).pc + 1) = true) ∧
    (State.issues (word 38 (ins 2 2 0 0 63) sStv) 15 3 38 (ins 2 2 0 0 63) (legalI (ins 2 2 0 0 63) && decide (BitVec.toNat (ins 2 2 0 0 63).imm < 64)) ((State.strand (word 38 (ins 2 2 0 0 63) sStv) 15 3).pc + 1) = true) ∧
    (64 ≤ BitVec.toNat (ins 2 2 0 0 64).imm ∧ State.fetches (word 37 (ins 2 2 0 0 64) sStv) 15 3 37 (ins 2 2 0 0 64) = true) ∧
    (64 ≤ BitVec.toNat (ins 2 2 0 0 64).imm ∧ State.fetches (word 38 (ins 2 2 0 0 64) sStv) 15 3 38 (ins 2 2 0 0 64) = true) ∧
    (64 ≤ BitVec.toNat (ins 2 2 0 0 64).imm ∧ State.fetches (word 39 (ins 2 2 0 0 64) sStv) 15 3 39 (ins 2 2 0 0 64) = true) :=
  by and_intros <;> decide +kernel

theorem witness_StoveBranches_1 :
    (Strand.reg (State.strand (word 64 (ins 1 1 0 0 4294967291) sStv) 15 3) (ins 1 1 0 0 4294967291).a = Strand.reg (State.strand (word 64 (ins 1 1 0 0 4294967291) sStv) 15 3) (ins 1 1 0 0 4294967291).b ∧
      ↑0 = ↑(State.strand (word 64 (ins 1 1 0 0 4294967291) sStv) 15 3).pc + BitVec.toInt (ins 1 1 0 0 4294967291).imm ∧
      State.issues (word 64 (ins 1 1 0 0 4294967291) sStv) 15 3 64 (ins 1 1 0 0 4294967291) (legalI (ins 1 1 0 0 4294967291)) 0 = true) ∧
    ((¬Strand.reg (State.strand (word 64 (ins 1 2 0 0 4294967291) sStv) 15 3) (ins 1 2 0 0 4294967291).a = Strand.reg (State.strand (word 64 (ins 1 2 0 0 4294967291) sStv) 15 3) (ins 1 2 0 0 4294967291).b) ∧
      State.issues (word 64 (ins 1 2 0 0 4294967291) sStv) 15 3 64 (ins 1 2 0 0 4294967291) (legalI (ins 1 2 0 0 4294967291)) ((State.strand (word 64 (ins 1 2 0 0 4294967291) sStv) 15 3).pc + 1) = true) ∧
    (BitVec.toInt (Strand.reg (State.strand (word 66 (ins 2 1 0 0 4294967291) sStv) 15 3) (ins 2 1 0 0 4294967291).a) < BitVec.toInt (Strand.reg (State.strand (word 66 (ins 2 1 0 0 4294967291) sStv) 15 3) (ins 2 1 0 0 4294967291).b) ∧
      ↑0 = ↑(State.strand (word 66 (ins 2 1 0 0 4294967291) sStv) 15 3).pc + BitVec.toInt (ins 2 1 0 0 4294967291).imm ∧
      State.issues (word 66 (ins 2 1 0 0 4294967291) sStv) 15 3 66 (ins 2 1 0 0 4294967291) (legalI (ins 2 1 0 0 4294967291)) 0 = true) ∧
    ((¬BitVec.toInt (Strand.reg (State.strand (word 66 (ins 1 2 0 0 4294967291) sStv) 15 3) (ins 1 2 0 0 4294967291).a) < BitVec.toInt (Strand.reg (State.strand (word 66 (ins 1 2 0 0 4294967291) sStv) 15 3) (ins 1 2 0 0 4294967291).b)) ∧
      State.issues (word 66 (ins 1 2 0 0 4294967291) sStv) 15 3 66 (ins 1 2 0 0 4294967291) (legalI (ins 1 2 0 0 4294967291)) ((State.strand (word 66 (ins 1 2 0 0 4294967291) sStv) 15 3).pc + 1) = true) ∧
    (BitVec.toNat (Strand.reg (State.strand (word 68 (ins 1 2 0 0 58) sStv) 15 3) (ins 1 2 0 0 58).a) < BitVec.toNat (Strand.reg (State.strand (word 68 (ins 1 2 0 0 58) sStv) 15 3) (ins 1 2 0 0 58).b) ∧
      ↑63 = ↑(State.strand (word 68 (ins 1 2 0 0 58) sStv) 15 3).pc + BitVec.toInt (ins 1 2 0 0 58).imm ∧
      State.issues (word 68 (ins 1 2 0 0 58) sStv) 15 3 68 (ins 1 2 0 0 58) (legalI (ins 1 2 0 0 58)) 63 = true) ∧
    ((¬BitVec.toNat (Strand.reg (State.strand (word 68 (ins 2 1 0 0 4294967291) sStv) 15 3) (ins 2 1 0 0 4294967291).a) < BitVec.toNat (Strand.reg (State.strand (word 68 (ins 2 1 0 0 4294967291) sStv) 15 3) (ins 2 1 0 0 4294967291).b)) ∧
      State.issues (word 68 (ins 2 1 0 0 4294967291) sStv) 15 3 68 (ins 2 1 0 0 4294967291) (legalI (ins 2 1 0 0 4294967291)) ((State.strand (word 68 (ins 2 1 0 0 4294967291) sStv) 15 3).pc + 1) = true) ∧
    (↑63 = ↑(State.strand (word 70 (ins 31 0 0 0 58) sStv) 15 3).pc + BitVec.toInt (ins 31 0 0 0 58).imm ∧
      State.issues (word 70 (ins 31 0 0 0 58) sStv) 15 3 70 (ins 31 0 0 0 58) (legalI (ins 31 0 0 0 58) && (ins 31 0 0 0 58).b == 0) 63 = true) ∧
    (State.issues (word 71 (ins 31 1 0 0 56) sStv) 15 3 71 (ins 31 1 0 0 56) (legalI (ins 31 1 0 0 56)) (BitVec.toNat (Strand.reg (State.strand (word 71 (ins 31 1 0 0 56) sStv) 15 3) (ins 31 1 0 0 56).b + BitVec.signExtend 64 (ins 31 1 0 0 56).imm)) = true) ∧
    (State.fetches (word 71 (ins 31 1 0 0 57) (word 70 (ins 31 1 0 0 57) sStv)) 15 3 71 (ins 31 1 0 0 57) = true ∧ legalI (ins 31 1 0 0 57) = true ∧
      PSlot.holds (State.runSlot (word 71 (ins 31 1 0 0 57) (word 70 (ins 31 1 0 0 57) sStv)) 15 3) (BitVec.toNat (Strand.reg (State.strand (word 71 (ins 31 1 0 0 57) (word 70 (ins 31 1 0 0 57) sStv)) 15 3) (ins 31 1 0 0 57).b + BitVec.signExtend 64 (ins 31 1 0 0 57).imm)) = false) ∧
    (Strand.reg (State.strand (word 65 (ins 1 2 0 0 4294967291) sStv) 15 3) (ins 1 2 0 0 4294967291).a ≠ Strand.reg (State.strand (word 65 (ins 1 2 0 0 4294967291) sStv) 15 3) (ins 1 2 0 0 4294967291).b ∧
      ↑0 = ↑(State.strand (word 65 (ins 1 2 0 0 4294967291) sStv) 15 3).pc + BitVec.toInt (ins 1 2 0 0 4294967291).imm ∧
      State.issues (word 65 (ins 1 2 0 0 4294967291) sStv) 15 3 65 (ins 1 2 0 0 4294967291) (legalI (ins 1 2 0 0 4294967291)) 0 = true) :=
  by and_intros <;> decide +kernel

theorem witness_StoveBranches_2 :
    ((¬Strand.reg (State.strand (word 65 (ins 1 1 0 0 4294967291) sStv) 15 3) (ins 1 1 0 0 4294967291).a ≠ Strand.reg (State.strand (word 65 (ins 1 1 0 0 4294967291) sStv) 15 3) (ins 1 1 0 0 4294967291).b) ∧
      State.issues (word 65 (ins 1 1 0 0 4294967291) sStv) 15 3 65 (ins 1 1 0 0 4294967291) (legalI (ins 1 1 0 0 4294967291)) ((State.strand (word 65 (ins 1 1 0 0 4294967291) sStv) 15 3).pc + 1) = true) ∧
    (BitVec.toInt (Strand.reg (State.strand (word 67 (ins 1 2 0 0 4294967291) sStv) 15 3) (ins 1 2 0 0 4294967291).b) ≤ BitVec.toInt (Strand.reg (State.strand (word 67 (ins 1 2 0 0 4294967291) sStv) 15 3) (ins 1 2 0 0 4294967291).a) ∧
      ↑0 = ↑(State.strand (word 67 (ins 1 2 0 0 4294967291) sStv) 15 3).pc + BitVec.toInt (ins 1 2 0 0 4294967291).imm ∧
      State.issues (word 67 (ins 1 2 0 0 4294967291) sStv) 15 3 67 (ins 1 2 0 0 4294967291) (legalI (ins 1 2 0 0 4294967291)) 0 = true) ∧
    ((¬BitVec.toInt (Strand.reg (State.strand (word 67 (ins 2 1 0 0 4294967291) sStv) 15 3) (ins 2 1 0 0 4294967291).b) ≤ BitVec.toInt (Strand.reg (State.strand (word 67 (ins 2 1 0 0 4294967291) sStv) 15 3) (ins 2 1 0 0 4294967291).a)) ∧
      State.issues (word 67 (ins 2 1 0 0 4294967291) sStv) 15 3 67 (ins 2 1 0 0 4294967291) (legalI (ins 2 1 0 0 4294967291)) ((State.strand (word 67 (ins 2 1 0 0 4294967291) sStv) 15 3).pc + 1) = true) ∧
    (BitVec.toNat (Strand.reg (State.strand (word 69 (ins 2 1 0 0 4294967291) sStv) 15 3) (ins 2 1 0 0 4294967291).b) ≤ BitVec.toNat (Strand.reg (State.strand (word 69 (ins 2 1 0 0 4294967291) sStv) 15 3) (ins 2 1 0 0 4294967291).a) ∧
      ↑0 = ↑(State.strand (word 69 (ins 2 1 0 0 4294967291) sStv) 15 3).pc + BitVec.toInt (ins 2 1 0 0 4294967291).imm ∧
      State.issues (word 69 (ins 2 1 0 0 4294967291) sStv) 15 3 69 (ins 2 1 0 0 4294967291) (legalI (ins 2 1 0 0 4294967291)) 0 = true) ∧
    ((¬BitVec.toNat (Strand.reg (State.strand (word 69 (ins 1 2 0 0 4294967291) sStv) 15 3) (ins 1 2 0 0 4294967291).b) ≤ BitVec.toNat (Strand.reg (State.strand (word 69 (ins 1 2 0 0 4294967291) sStv) 15 3) (ins 1 2 0 0 4294967291).a)) ∧
      State.issues (word 69 (ins 1 2 0 0 4294967291) sStv) 15 3 69 (ins 1 2 0 0 4294967291) (legalI (ins 1 2 0 0 4294967291)) ((State.strand (word 69 (ins 1 2 0 0 4294967291) sStv) 15 3).pc + 1) = true) ∧
    (State.fetches (word 64 (ins 1 1 0 0 4096) sStv) 15 3 64 (ins 1 1 0 0 4096) = true ∧ legalI (ins 1 1 0 0 4096) = true ∧
      Strand.reg (State.strand (word 64 (ins 1 1 0 0 4096) sStv) 15 3) (ins 1 1 0 0 4096).a = Strand.reg (State.strand (word 64 (ins 1 1 0 0 4096) sStv) 15 3) (ins 1 1 0 0 4096).b ∧
      ↑4101 = ↑(State.strand (word 64 (ins 1 1 0 0 4096) sStv) 15 3).pc + BitVec.toInt (ins 1 1 0 0 4096).imm ∧
      PSlot.holds (State.runSlot (word 64 (ins 1 1 0 0 4096) sStv) 15 3) 4101 = false) ∧
    (State.fetches (word 64 (ins 1 2 0 0 0) sLast) 15 3 64 (ins 1 2 0 0 0) = true ∧ legalI (ins 1 2 0 0 0) = true ∧
      (¬Strand.reg (State.strand (word 64 (ins 1 2 0 0 0) sLast) 15 3) (ins 1 2 0 0 0).a = Strand.reg (State.strand (word 64 (ins 1 2 0 0 0) sLast) 15 3) (ins 1 2 0 0 0).b) ∧
      ↑64 = ↑(State.strand (word 64 (ins 1 2 0 0 0) sLast) 15 3).pc + 1 ∧
      PSlot.holds (State.runSlot (word 64 (ins 1 2 0 0 0) sLast) 15 3) 64 = false) ∧
    (State.fetches (word 65 (ins 1 2 0 0 4096) sStv) 15 3 65 (ins 1 2 0 0 4096) = true ∧ legalI (ins 1 2 0 0 4096) = true ∧
      Strand.reg (State.strand (word 65 (ins 1 2 0 0 4096) sStv) 15 3) (ins 1 2 0 0 4096).a ≠ Strand.reg (State.strand (word 65 (ins 1 2 0 0 4096) sStv) 15 3) (ins 1 2 0 0 4096).b ∧
      ↑4101 = ↑(State.strand (word 65 (ins 1 2 0 0 4096) sStv) 15 3).pc + BitVec.toInt (ins 1 2 0 0 4096).imm ∧
      PSlot.holds (State.runSlot (word 65 (ins 1 2 0 0 4096) sStv) 15 3) 4101 = false) ∧
    (State.fetches (word 65 (ins 1 1 0 0 0) sLast) 15 3 65 (ins 1 1 0 0 0) = true ∧ legalI (ins 1 1 0 0 0) = true ∧
      (¬Strand.reg (State.strand (word 65 (ins 1 1 0 0 0) sLast) 15 3) (ins 1 1 0 0 0).a ≠ Strand.reg (State.strand (word 65 (ins 1 1 0 0 0) sLast) 15 3) (ins 1 1 0 0 0).b) ∧
      ↑64 = ↑(State.strand (word 65 (ins 1 1 0 0 0) sLast) 15 3).pc + 1 ∧
      PSlot.holds (State.runSlot (word 65 (ins 1 1 0 0 0) sLast) 15 3) 64 = false) ∧
    (State.fetches (word 66 (ins 2 1 0 0 4096) sStv) 15 3 66 (ins 2 1 0 0 4096) = true ∧ legalI (ins 2 1 0 0 4096) = true ∧
      BitVec.toInt (Strand.reg (State.strand (word 66 (ins 2 1 0 0 4096) sStv) 15 3) (ins 2 1 0 0 4096).a) < BitVec.toInt (Strand.reg (State.strand (word 66 (ins 2 1 0 0 4096) sStv) 15 3) (ins 2 1 0 0 4096).b) ∧
      ↑4101 = ↑(State.strand (word 66 (ins 2 1 0 0 4096) sStv) 15 3).pc + BitVec.toInt (ins 2 1 0 0 4096).imm ∧
      PSlot.holds (State.runSlot (word 66 (ins 2 1 0 0 4096) sStv) 15 3) 4101 = false) :=
  by and_intros <;> decide +kernel

theorem witness_StoveBranches_3 :
    (State.fetches (word 66 (ins 1 2 0 0 0) sLast) 15 3 66 (ins 1 2 0 0 0) = true ∧ legalI (ins 1 2 0 0 0) = true ∧
      (¬BitVec.toInt (Strand.reg (State.strand (word 66 (ins 1 2 0 0 0) sLast) 15 3) (ins 1 2 0 0 0).a) < BitVec.toInt (Strand.reg (State.strand (word 66 (ins 1 2 0 0 0) sLast) 15 3) (ins 1 2 0 0 0).b)) ∧
      ↑64 = ↑(State.strand (word 66 (ins 1 2 0 0 0) sLast) 15 3).pc + 1 ∧
      PSlot.holds (State.runSlot (word 66 (ins 1 2 0 0 0) sLast) 15 3) 64 = false) ∧
    (State.fetches (word 67 (ins 1 2 0 0 4096) sStv) 15 3 67 (ins 1 2 0 0 4096) = true ∧ legalI (ins 1 2 0 0 4096) = true ∧
      BitVec.toInt (Strand.reg (State.strand (word 67 (ins 1 2 0 0 4096) sStv) 15 3) (ins 1 2 0 0 4096).b) ≤ BitVec.toInt (Strand.reg (State.strand (word 67 (ins 1 2 0 0 4096) sStv) 15 3) (ins 1 2 0 0 4096).a) ∧
      ↑4101 = ↑(State.strand (word 67 (ins 1 2 0 0 4096) sStv) 15 3).pc + BitVec.toInt (ins 1 2 0 0 4096).imm ∧
      PSlot.holds (State.runSlot (word 67 (ins 1 2 0 0 4096) sStv) 15 3) 4101 = false) ∧
    (State.fetches (word 67 (ins 2 1 0 0 0) sLast) 15 3 67 (ins 2 1 0 0 0) = true ∧ legalI (ins 2 1 0 0 0) = true ∧
      (¬BitVec.toInt (Strand.reg (State.strand (word 67 (ins 2 1 0 0 0) sLast) 15 3) (ins 2 1 0 0 0).b) ≤ BitVec.toInt (Strand.reg (State.strand (word 67 (ins 2 1 0 0 0) sLast) 15 3) (ins 2 1 0 0 0).a)) ∧
      ↑64 = ↑(State.strand (word 67 (ins 2 1 0 0 0) sLast) 15 3).pc + 1 ∧
      PSlot.holds (State.runSlot (word 67 (ins 2 1 0 0 0) sLast) 15 3) 64 = false) ∧
    (State.fetches (word 68 (ins 1 2 0 0 4096) sStv) 15 3 68 (ins 1 2 0 0 4096) = true ∧ legalI (ins 1 2 0 0 4096) = true ∧
      BitVec.toNat (Strand.reg (State.strand (word 68 (ins 1 2 0 0 4096) sStv) 15 3) (ins 1 2 0 0 4096).a) < BitVec.toNat (Strand.reg (State.strand (word 68 (ins 1 2 0 0 4096) sStv) 15 3) (ins 1 2 0 0 4096).b) ∧
      ↑4101 = ↑(State.strand (word 68 (ins 1 2 0 0 4096) sStv) 15 3).pc + BitVec.toInt (ins 1 2 0 0 4096).imm ∧
      PSlot.holds (State.runSlot (word 68 (ins 1 2 0 0 4096) sStv) 15 3) 4101 = false) ∧
    (State.fetches (word 68 (ins 2 1 0 0 0) sLast) 15 3 68 (ins 2 1 0 0 0) = true ∧ legalI (ins 2 1 0 0 0) = true ∧
      (¬BitVec.toNat (Strand.reg (State.strand (word 68 (ins 2 1 0 0 0) sLast) 15 3) (ins 2 1 0 0 0).a) < BitVec.toNat (Strand.reg (State.strand (word 68 (ins 2 1 0 0 0) sLast) 15 3) (ins 2 1 0 0 0).b)) ∧
      ↑64 = ↑(State.strand (word 68 (ins 2 1 0 0 0) sLast) 15 3).pc + 1 ∧
      PSlot.holds (State.runSlot (word 68 (ins 2 1 0 0 0) sLast) 15 3) 64 = false) ∧
    (State.fetches (word 69 (ins 2 1 0 0 4096) sStv) 15 3 69 (ins 2 1 0 0 4096) = true ∧ legalI (ins 2 1 0 0 4096) = true ∧
      BitVec.toNat (Strand.reg (State.strand (word 69 (ins 2 1 0 0 4096) sStv) 15 3) (ins 2 1 0 0 4096).b) ≤ BitVec.toNat (Strand.reg (State.strand (word 69 (ins 2 1 0 0 4096) sStv) 15 3) (ins 2 1 0 0 4096).a) ∧
      ↑4101 = ↑(State.strand (word 69 (ins 2 1 0 0 4096) sStv) 15 3).pc + BitVec.toInt (ins 2 1 0 0 4096).imm ∧
      PSlot.holds (State.runSlot (word 69 (ins 2 1 0 0 4096) sStv) 15 3) 4101 = false) ∧
    (State.fetches (word 69 (ins 1 2 0 0 0) sLast) 15 3 69 (ins 1 2 0 0 0) = true ∧ legalI (ins 1 2 0 0 0) = true ∧
      (¬BitVec.toNat (Strand.reg (State.strand (word 69 (ins 1 2 0 0 0) sLast) 15 3) (ins 1 2 0 0 0).b) ≤ BitVec.toNat (Strand.reg (State.strand (word 69 (ins 1 2 0 0 0) sLast) 15 3) (ins 1 2 0 0 0).a)) ∧
      ↑64 = ↑(State.strand (word 69 (ins 1 2 0 0 0) sLast) 15 3).pc + 1 ∧
      PSlot.holds (State.runSlot (word 69 (ins 1 2 0 0 0) sLast) 15 3) 64 = false) ∧
    (State.fetches (word 64 (ins 1 1 0 0 4294967290) sStv) 15 3 64 (ins 1 1 0 0 4294967290) = true ∧ legalI (ins 1 1 0 0 4294967290) = true ∧
      Strand.reg (State.strand (word 64 (ins 1 1 0 0 4294967290) sStv) 15 3) (ins 1 1 0 0 4294967290).a = Strand.reg (State.strand (word 64 (ins 1 1 0 0 4294967290) sStv) 15 3) (ins 1 1 0 0 4294967290).b ∧
      ↑(State.strand (word 64 (ins 1 1 0 0 4294967290) sStv) 15 3).pc + BitVec.toInt (ins 1 1 0 0 4294967290).imm < 0 ∧
      (State.runSlot (word 64 (ins 1 1 0 0 4294967290) sStv) 15 3).base64 + (State.runSlot (word 64 (ins 1 1 0 0 4294967290) sStv) 15 3).size64 ≤ 2 ^ 32) ∧
    (State.fetches (word 70 (ins 31 0 0 0 4294967290) sStv) 15 3 70 (ins 31 0 0 0 4294967290) = true ∧ legalI (ins 31 0 0 0 4294967290) = true ∧
      (ins 31 0 0 0 4294967290).b = 0 ∧
      ↑(State.strand (word 70 (ins 31 0 0 0 4294967290) sStv) 15 3).pc + BitVec.toInt (ins 31 0 0 0 4294967290).imm < 0 ∧
      (State.runSlot (word 70 (ins 31 0 0 0 4294967290) sStv) 15 3).base64 + (State.runSlot (word 70 (ins 31 0 0 0 4294967290) sStv) 15 3).size64 ≤ 2 ^ 32) :=
  by and_intros <;> decide +kernel

theorem witness_StoveControl_1 :
    (State.issues sStv 15 3 0 (ins 0 0 0 0 0) (InsW.bare (ins 0 0 0 0 0)) ((State.strand sStv 15 3).pc + 1) = true) ∧
    (State.fetches (word 2 (ins 0 0 0 0 65535) sStv) 15 3 2 (ins 0 0 0 0 65535) = true ∧ InsW.noABC (ins 0 0 0 0 65535) = true ∧
      (ins 0 0 0 0 65535).x = 0 ∧ BitVec.toNat (ins 0 0 0 0 65535).imm < 2 ^ 16) ∧
    (State.fetches (word 2 (ins 0 0 0 0 65536) sStv) 15 3 2 (ins 0 0 0 0 65536) = true ∧
      ((InsW.noABC (ins 0 0 0 0 65536) && (ins 0 0 0 0 65536).x == 0) = false ∨ 2 ^ 16 ≤ BitVec.toNat (ins 0 0 0 0 65536).imm)) ∧
    (State.fetches (word 2 (ins 1 0 0 0 65535) sStv) 15 3 2 (ins 1 0 0 0 65535) = true ∧
      ((InsW.noABC (ins 1 0 0 0 65535) && (ins 1 0 0 0 65535).x == 0) = false ∨ 2 ^ 16 ≤ BitVec.toNat (ins 1 0 0 0 65535).imm)) ∧
    (State.fetches (word 3 (ins 0 0 0 0 17) sStv) 15 3 3 (ins 0 0 0 0 17) = true ∧ InsW.noABC (ins 0 0 0 0 17) = true ∧ (ins 0 0 0 0 17).x = 0 ∧
      (ins 0 0 0 0 17).imm = 17 ∧ (∃ m, m < 16 ∧ m ≠ 15 ∧ (State.stove (word 3 (ins 0 0 0 0 17) sStv) m).fenced = false ∧
      State.bitOf (word 3 (ins 0 0 0 0 17) sStv) F.GLB_FAULT_STV m = false)) ∧
    (State.fetches (word 3 (ins 0 0 0 0 17) sQueued) 15 3 3 (ins 0 0 0 0 17) = true ∧ InsW.noABC (ins 0 0 0 0 17) = true ∧ (ins 0 0 0 0 17).x = 0 ∧
      (ins 0 0 0 0 17).imm = 17 ∧ (∃ m, m < 16 ∧ m ≠ 15 ∧ (State.stove (word 3 (ins 0 0 0 0 17) sQueued) m).fenced = false ∧
      State.bitOf (word 3 (ins 0 0 0 0 17) sQueued) F.GLB_FAULT_STV m = false)) ∧
    (State.fetches (word 3 (ins 0 0 0 0 16) sStv) 15 3 3 (ins 0 0 0 0 16) = true ∧ (ins 0 0 0 0 16).imm ≠ 17) ∧
    (State.strandTurn sBusy0 15 3 = false) ∧
    (State.strandTurn (word 9 (ins 0 0 0 0 0) sStv) 15 3 = true ∧ insKnown (State.fetched (word 9 (ins 0 0 0 0 0) sStv) 15 3) = false) ∧
    (State.strandTurn (word 176 (ins 0 0 0 6 0) sStv) 15 3 = true ∧ insKnown (State.fetched (word 176 (ins 0 0 0 6 0) sStv) 15 3) = false) :=
  by and_intros <;> decide +kernel

theorem witness_StoveControl_2 :
    (State.issues (word 4 (ins 31 0 0 0 0) sStv) 15 3 4 (ins 31 0 0 0 0) ((ins 31 0 0 0 0).b == 0 && (ins 31 0 0 0 0).c == 0 && (ins 31 0 0 0 0).x == 0 && (ins 31 0 0 0 0).imm == 0) ((State.strand (word 4 (ins 31 0 0 0 0) sStv) 15 3).pc + 1) = true) ∧
    (State.issues (word 6 (ins 31 0 0 0 0) sStv) 15 3 6 (ins 31 0 0 0 0) ((ins 31 0 0 0 0).b == 0 && (ins 31 0 0 0 0).c == 0 && (ins 31 0 0 0 0).x == 0 && (ins 31 0 0 0 0).imm == 0) ((State.strand (word 6 (ins 31 0 0 0 0) sStv) 15 3).pc + 1) = true) ∧
    (State.issues (word 5 (ins 0 2 0 0 0) sStv) 15 3 5 (ins 0 2 0 0 0) ((ins 0 2 0 0 0).a == 0 && (ins 0 2 0 0 0).c == 0 && (ins 0 2 0 0 0).x == 0 && (ins 0 2 0 0 0).imm == 0) ((State.strand (word 5 (ins 0 2 0 0 0) sStv) 15 3).pc + 1) = true ∧
      State.now (word 5 (ins 0 2 0 0 0) sStv) < BitVec.toNat (Strand.reg (State.strand (word 5 (ins 0 2 0 0 0) sStv) 15 3) (ins 0 2 0 0 0).b)) ∧
    (State.issues (word 5 (ins 0 1 0 0 0) sStv) 15 3 5 (ins 0 1 0 0 0) ((ins 0 1 0 0 0).a == 0 && (ins 0 1 0 0 0).c == 0 && (ins 0 1 0 0 0).x == 0 && (ins 0 1 0 0 0).imm == 0) ((State.strand (word 5 (ins 0 1 0 0 0) sStv) 15 3).pc + 1) = true ∧
      BitVec.toNat (Strand.reg (State.strand (word 5 (ins 0 1 0 0 0) sStv) 15 3) (ins 0 1 0 0 0).b) ≤ State.now (word 5 (ins 0 1 0 0 0) sStv)) ∧
    (State.issues (word 7 (ins 31 3 0 0 0) sStv) 15 3 7 (ins 31 3 0 0 0) (legalI (ins 31 3 0 0 0) && (ins 31 3 0 0 0).imm == 0) ((State.strand (word 7 (ins 31 3 0 0 0) sStv) 15 3).pc + 1) = true ∧
      Strand.named (State.strand (word 7 (ins 31 3 0 0 0) sStv) 15 3) (Strand.reg (State.strand (word 7 (ins 31 3 0 0 0) sStv) 15 3) (ins 31 3 0 0 0).b) = some 1 ∧
      (Strand.ticket (State.strand (word 7 (ins 31 3 0 0 0) sStv) 15 3) 1).job ≠ none) ∧
    (State.issues (word 7 (ins 31 3 0 0 0) sDone) 15 3 7 (ins 31 3 0 0 0) (legalI (ins 31 3 0 0 0) && (ins 31 3 0 0 0).imm == 0) ((State.strand (word 7 (ins 31 3 0 0 0) sDone) 15 3).pc + 1) = true ∧
      Strand.named (State.strand (word 7 (ins 31 3 0 0 0) sDone) 15 3) (Strand.reg (State.strand (word 7 (ins 31 3 0 0 0) sDone) 15 3) (ins 31 3 0 0 0).b) = some 1 ∧
      (Strand.ticket (State.strand (word 7 (ins 31 3 0 0 0) sDone) 15 3) 1).job = none) ∧
    (State.issues (word 8 (ins 31 3 0 0 0) sDone) 15 3 8 (ins 31 3 0 0 0) (legalI (ins 31 3 0 0 0) && (ins 31 3 0 0 0).imm == 0) ((State.strand (word 8 (ins 31 3 0 0 0) sDone) 15 3).pc + 1) = true ∧
      Strand.named (State.strand (word 8 (ins 31 3 0 0 0) sDone) 15 3) (Strand.reg (State.strand (word 8 (ins 31 3 0 0 0) sDone) 15 3) (ins 31 3 0 0 0).b) = some 1) ∧
    (State.issues (word 8 (ins 31 3 0 0 0) sStv) 15 3 8 (ins 31 3 0 0 0) (legalI (ins 31 3 0 0 0) && (ins 31 3 0 0 0).imm == 0) ((State.strand (word 8 (ins 31 3 0 0 0) sStv) 15 3).pc + 1) = true ∧
      Strand.named (State.strand (word 8 (ins 31 3 0 0 0) sStv) 15 3) (Strand.reg (State.strand (word 8 (ins 31 3 0 0 0) sStv) 15 3) (ins 31 3 0 0 0).b) = some 1) ∧
    ((legalI (ins 31 1 0 0 0) && (ins 31 1 0 0 0).imm == 0) = true ∧
      Strand.named (State.strand (word 7 (ins 31 1 0 0 0) sStv) 15 3) (Strand.reg (State.strand (word 7 (ins 31 1 0 0 0) sStv) 15 3) (ins 31 1 0 0 0).b) = none ∧
      State.fetches (word 7 (ins 31 1 0 0 0) sStv) 15 3 7 (ins 31 1 0 0 0) = true) ∧
    ((legalI (ins 31 1 0 0 0) && (ins 31 1 0 0 0).imm == 0) = true ∧
      Strand.named (State.strand (word 8 (ins 31 1 0 0 0) sStv) 15 3) (Strand.reg (State.strand (word 8 (ins 31 1 0 0 0) sStv) 15 3) (ins 31 1 0 0 0).b) = none ∧
      State.fetches (word 8 (ins 31 1 0 0 0) sStv) 15 3 8 (ins 31 1 0 0 0) = true) :=
  by and_intros <;> decide +kernel

end Isa

namespace StoveMem

def s_StoveMemory_5 : State := word 0x33 (ins 7 4 6 0 0) (stv { strand3 with g := [(4, 0x1000), (6, 9), (7, 0xFFFFFFFFFFFFFFFF)] })
def blk : CzBlk := { strand := 3, dst := {}, limit := 2, promised := 1 }
def sBlk : State := stvF (fun v => { v with blocks := [(0, blk)], nextBlk := 1 }) { strand3 with block := some 0 }
def sCtx : State := stvF (fun v => { v with ctxs := [(7, { state := 2, strand := 3, res := List.replicate 64 0x77, shown := true, alg := 1 })] }) { strand3 with d := (5, { space := 0, addr := 0, len := 48 }) :: strand3.d }
def sCtxB : State := { sCtx with stoves := sCtx.stoves.map (fun e => (e.1, { e.2 with strands := [(3, { (Tab.getD e.2.strands 3 {}) with tickets := [(1, { epoch := 4, used := true, job := some (.dgAbs 7 { space := 0, addr := 0x2000, len := 4096 }) })] })] })) }
def hold3 : CiHold := { strand := 3, urgent := false, slot := 9, key := zeroBytes 64 }
def hold1 : CiHold := { strand := 1, urgent := false, slot := 9, key := zeroBytes 64 }
def sCi : State := stvF (fun v => { v with lock := some hold3, susp := some hold1 }) strand3
def sCi2 : State := stvF (fun v => { v with lock := some hold1, susp := some hold3 }) strand3
def s_StoveMovesAndRequests_7 : State := word 0x63 (ins 31 1 0 0 0) (stv { strand3 with g := [(1, 0xFFFFF)] })
def sFree : State := { sStv with pool := { held := [(12287, { chan := 4, journalled := false, atime := 0, user := 9 })] } }

theorem witness_StoveMemory_1 :
    (State.issues (word 48 (ins 31 4 0 3 7) sStv) 15 3 48 (ins 31 4 0 3 7) ((ins 31 4 0 3 7).c == 0 && decide (BitVec.toNat (ins 31 4 0 3 7).x < 7)) ((State.strand (word 48 (ins 31 4 0 3 7) sStv) 15 3).pc + 1) = true ∧
      8 = 2 ^ (BitVec.toNat (ins 31 4 0 3 7).x % 4) ∧
      4096 = BitVec.toNat (Strand.reg (State.strand (word 48 (ins 31 4 0 3 7) sStv) 15 3) (ins 31 4 0 3 7).b + BitVec.signExtend 64 (ins 31 4 0 3 7).imm) / 8 * 8) ∧
    (State.issues (word 48 (ins 31 5 0 6 4294967295) sStv) 15 3 48 (ins 31 5 0 6 4294967295) ((ins 31 5 0 6 4294967295).c == 0 && decide (BitVec.toNat (ins 31 5 0 6 4294967295).x < 7)) ((State.strand (word 48 (ins 31 5 0 6 4294967295) sStv) 15 3).pc + 1) = true ∧
      4 = 2 ^ (BitVec.toNat (ins 31 5 0 6 4294967295).x % 4) ∧
      1048572 = BitVec.toNat (Strand.reg (State.strand (word 48 (ins 31 5 0 6 4294967295) sStv) 15 3) (ins 31 5 0 6 4294967295).b + BitVec.signExtend 64 (ins 31 5 0 6 4294967295).imm) / 4 * 4) ∧
    (State.issues (word 49 (ins 2 5 0 3 4294967295) sStv) 15 3 49 (ins 2 5 0 3 4294967295) ((ins 2 5 0 3 4294967295).c == 0 && decide (BitVec.toNat (ins 2 5 0 3 4294967295).x < 4)) ((State.strand (word 49 (ins 2 5 0 3 4294967295) sStv) 15 3).pc + 1) = true ∧
      8 = 2 ^ (BitVec.toNat (ins 2 5 0 3 4294967295).x % 4) ∧
      1048568 = BitVec.toNat (Strand.reg (State.strand (word 49 (ins 2 5 0 3 4294967295) sStv) 15 3) (ins 2 5 0 3 4294967295).b + BitVec.signExtend 64 (ins 2 5 0 3 4294967295).imm) / 8 * 8) ∧
    (State.issues (word 50 (ins 31 4 2 0 0) sStv) 15 3 50 (ins 31 4 2 0 0) (legalG (ins 31 4 2 0 0)) ((State.strand (word 50 (ins 31 4 2 0 0) sStv) 15 3).pc + 1) = true ∧
      4096 = BitVec.toNat (Strand.reg (State.strand (word 50 (ins 31 4 2 0 0) sStv) 15 3) (ins 31 4 2 0 0).b) / 8 * 8) ∧
    (State.issues s_StoveMemory_5 15 3 51 (ins 7 4 6 0 0) (legalG (ins 7 4 6 0 0)) ((State.strand s_StoveMemory_5 15 3).pc + 1) = true ∧
      4096 = BitVec.toNat (Strand.reg (State.strand s_StoveMemory_5 15 3) (ins 7 4 6 0 0).b) / 8 * 8) ∧
    (((ins 1 5 0 0 0).c == 0 && decide (BitVec.toNat (ins 1 5 0 0 0).x < 4)) = true ∧
      1048576 ≤ BitVec.toNat (Strand.reg (State.strand (word 48 (ins 1 5 0 0 0) sStv) 15 3) (ins 1 5 0 0 0).b + BitVec.signExtend 64 (ins 1 5 0 0 0).imm) ∧
      State.fetches (word 48 (ins 1 5 0 0 0) sStv) 15 3 48 (ins 1 5 0 0 0) = true) ∧
    (((ins 1 5 0 0 0).c == 0 && decide (BitVec.toNat (ins 1 5 0 0 0).x < 4)) = true ∧
      1048576 ≤ BitVec.toNat (Strand.reg (State.strand (word 49 (ins 1 5 0 0 0) sStv) 15 3) (ins 1 5 0 0 0).b + BitVec.signExtend 64 (ins 1 5 0 0 0).imm) ∧
      State.fetches (word 49 (ins 1 5 0 0 0) sStv) 15 3 49 (ins 1 5 0 0 0) = true) ∧
    (State.issues (word 80 (ins 7 2 4 3 0) sStv) 15 3 80 (ins 7 2 4 3 0) (decide (BitVec.toNat (ins 7 2 4 3 0).a < 8) && (ins 7 2 4 3 0).imm == 0 && decide (BitVec.toNat (ins 7 2 4 3 0).x < 4)) ((State.strand (word 80 (ins 7 2 4 3 0) sStv) 15 3).pc + 1) = true ∧
      BitVec.toNat (Strand.reg (State.strand (word 80 (ins 7 2 4 3 0) sStv) 15 3) (ins 7 2 4 3 0).c) < 2 ^ 32) ∧
    (State.issues (word 81 (ins 7 5 0 0 4294967295) sStv) 15 3 81 (ins 7 5 0 0 4294967295) (decide (BitVec.toNat (ins 7 5 0 0 4294967295).a < 8) && legalI (ins 7 5 0 0 4294967295)) ((State.strand (word 81 (ins 7 5 0 0 4294967295) sStv) 15 3).pc + 1) = true ∧
      1048560 = BitVec.toNat (Strand.reg (State.strand (word 81 (ins 7 5 0 0 4294967295) sStv) 15 3) (ins 7 5 0 0 4294967295).b + BitVec.signExtend 64 (ins 7 5 0 0 4294967295).imm) / 16 * 16 ∧
      BitVec.toNat (Tab.getB (State.stove (word 81 (ins 7 5 0 0 4294967295) sStv) 15).lmem (1048560 + 15)) < 4) ∧
    (State.issues (word 82 (ins 1 5 0 0 4294967295) sStv) 15 3 82 (ins 1 5 0 0 4294967295) (decide (BitVec.toNat (ins 1 5 0 0 4294967295).a < 8) && legalI (ins 1 5 0 0 4294967295)) ((State.strand (word 82 (ins 1 5 0 0 4294967295) sStv) 15 3).pc + 1) = true ∧
      1048560 = BitVec.toNat (Strand.reg (State.strand (word 82 (ins 1 5 0 0 4294967295) sStv) 15 3) (ins 1 5 0 0 4294967295).b + BitVec.signExtend 64 (ins 1 5 0 0 4294967295).imm) / 16 * 16) :=
  by and_intros <;> decide +kernel

theorem witness_StoveMemory_2 :
    (State.issues (word 83 (ins 1 1 0 0 0) sStv) 15 3 83 (ins 1 1 0 0 0) (decide (BitVec.toNat (ins 1 1 0 0 0).a < 8) && legalI (ins 1 1 0 0 0) && (ins 1 1 0 0 0).imm == 0) ((State.strand (word 83 (ins 1 1 0 0 0) sStv) 15 3).pc + 1) = true ∧
      { addr := 8192, len := 4096 : Desc } = Strand.desc (State.strand (word 83 (ins 1 1 0 0 0) sStv) 15 3) (ins 1 1 0 0 0).a ∧
      7 = min (BitVec.toNat (Strand.reg (State.strand (word 83 (ins 1 1 0 0 0) sStv) 15 3) (ins 1 1 0 0 0).b)) { addr := 8192, len := 4096 : Desc }.len ∧
      { addr := 8192, len := 4096 : Desc }.space ≠ 2) ∧
    (State.issues (word 83 (ins 3 1 0 0 0) sStv) 15 3 83 (ins 3 1 0 0 0) (decide (BitVec.toNat (ins 3 1 0 0 0).a < 8) && legalI (ins 3 1 0 0 0) && (ins 3 1 0 0 0).imm == 0) ((State.strand (word 83 (ins 3 1 0 0 0) sStv) 15 3).pc + 1) = true ∧
      { space := 2, len := 4096, off := 16773120 : Desc } = Strand.desc (State.strand (word 83 (ins 3 1 0 0 0) sStv) 15 3) (ins 3 1 0 0 0).a ∧
      7 = min (BitVec.toNat (Strand.reg (State.strand (word 83 (ins 3 1 0 0 0) sStv) 15 3) (ins 3 1 0 0 0).b)) { space := 2, len := 4096, off := 16773120 : Desc }.len ∧
      { space := 2, len := 4096, off := 16773120 : Desc }.space = 2 ∧ { space := 2, len := 4096, off := 16773120 : Desc }.off + 7 ≤ 16777215) ∧
    (State.issues (word 83 (ins 3 4 0 0 0) sStv) 15 3 83 (ins 3 4 0 0 0) (decide (BitVec.toNat (ins 3 4 0 0 0).a < 8) && legalI (ins 3 4 0 0 0) && (ins 3 4 0 0 0).imm == 0) ((State.strand (word 83 (ins 3 4 0 0 0) sStv) 15 3).pc + 1) = true ∧
      { space := 2, len := 4096, off := 16773120 : Desc } = Strand.desc (State.strand (word 83 (ins 3 4 0 0 0) sStv) 15 3) (ins 3 4 0 0 0).a ∧
      4096 = min (BitVec.toNat (Strand.reg (State.strand (word 83 (ins 3 4 0 0 0) sStv) 15 3) (ins 3 4 0 0 0).b)) { space := 2, len := 4096, off := 16773120 : Desc }.len ∧
      { space := 2, len := 4096, off := 16773120 : Desc }.space = 2 ∧ 16777215 < { space := 2, len := 4096, off := 16773120 : Desc }.off + 4096) ∧
    (State.issues (word 84 (ins 1 1 0 0 0) sStv) 15 3 84 (ins 1 1 0 0 0) (decide (BitVec.toNat (ins 1 1 0 0 0).a < 8) && legalI (ins 1 1 0 0 0) && (ins 1 1 0 0 0).imm == 0) ((State.strand (word 84 (ins 1 1 0 0 0) sStv) 15 3).pc + 1) = true ∧
      { addr := 8192, len := 4096 : Desc } = Strand.desc (State.strand (word 84 (ins 1 1 0 0 0) sStv) 15 3) (ins 1 1 0 0 0).a) ∧
    (State.issues (word 85 (ins 31 3 0 2 0) sStv) 15 3 85 (ins 31 3 0 2 0) (decide (BitVec.toNat (ins 31 3 0 2 0).b < 8) && (ins 31 3 0 2 0).c == 0 && (ins 31 3 0 2 0).imm == 0 && decide (BitVec.toNat (ins 31 3 0 2 0).x < 4)) ((State.strand (word 85 (ins 31 3 0 2 0) sStv) 15 3).pc + 1) = true) :=
  by and_intros <;> decide +kernel

theorem witness_StoveUnitsAreIssued_1 :
    (BitVec.toNat (ins 31 1 0 7 0).b < 8 ∧
      State.tickets (word 112 (ins 31 1 0 7 0) sStv) 15 3 112 (ins 31 1 0 7 0) ((ins 31 1 0 7 0).c == 0 && decide (BitVec.toNat (ins 31 1 0 7 0).x < 8) && (ins 31 1 0 7 0).imm == 0) (some 0) 0 = true ∧
      (State.strand (word 112 (ins 31 1 0 7 0) sStv) 15 3).block = none ∧
      State.descFault (word 112 (ins 31 1 0 7 0) sStv) 15 (Strand.desc (State.strand (word 112 (ins 31 1 0 7 0) sStv) 15 3) (ins 31 1 0 7 0).b) = none ∧
      Tab.find (State.stove (word 112 (ins 31 1 0 7 0) sStv) 15).blocks (State.stove (word 112 (ins 31 1 0 7 0) sStv) 15).nextBlk = none ∧
      (List.all (Stove.jobs (State.stove (word 112 (ins 31 1 0 7 0) sStv) 15)) fun w => w.snd.snd.granted || Option.bind w.snd.snd.job Job.unit != some 0) = true) ∧
    (BitVec.toNat (ins 31 0 1 0 0).c < 8 ∧
      { addr := 8192, len := 4096 : Desc } = Strand.desc (State.strand (word 113 (ins 31 0 1 0 0) sBlk) 15 3) (ins 31 0 1 0 0).c ∧
      State.tickets (word 113 (ins 31 0 1 0 0) sBlk) 15 3 113 (ins 31 0 1 0 0) ((ins 31 0 1 0 0).b == 0 && (ins 31 0 1 0 0).x == 0 && (ins 31 0 1 0 0).imm == 0) (some 0) 0 = true ∧
      (State.strand (word 113 (ins 31 0 1 0 0) sBlk) 15 3).block = some 0 ∧
      Tab.find (State.stove (word 113 (ins 31 0 1 0 0) sBlk) 15).blocks 0 = some blk ∧ { addr := 8192, len := 4096 : Desc }.len ≠ 0 ∧
      { addr := 8192, len := 4096 : Desc }.len % 4096 = 0 ∧ blk.promised + { addr := 8192, len := 4096 : Desc }.len / 4096 ≤ blk.limit ∧
      State.descFault (word 113 (ins 31 0 1 0 0) sBlk) 15 { addr := 8192, len := 4096 : Desc } = none) ∧
    (State.tickets (word 114 (ins 31 0 0 0 0) sBlk) 15 3 114 (ins 31 0 0 0 0) ((ins 31 0 0 0 0).b == 0 && (ins 31 0 0 0 0).c == 0 && (ins 31 0 0 0 0).x == 0 && (ins 31 0 0 0 0).imm == 0) (some 0) 0 = true ∧
      (State.strand (word 114 (ins 31 0 0 0 0) sBlk) 15 3).block = some 0 ∧
      Tab.find (State.stove (word 114 (ins 31 0 0 0 0) sBlk) 15).blocks 0 = some blk) ∧
    ({ addr := 8192, len := 4096 : Desc } = Strand.desc (State.strand (word 115 (ins 31 1 2 0 0) sBlk) 15 3) (ins 31 1 2 0 0).b ∧
      { addr := 16384, len := 4096 : Desc } = Strand.desc (State.strand (word 115 (ins 31 1 2 0 0) sBlk) 15 3) (ins 31 1 2 0 0).c ∧
      BitVec.toNat (ins 31 1 2 0 0).b < 8 ∧ BitVec.toNat (ins 31 1 2 0 0).c < 8 ∧
      State.tickets (word 115 (ins 31 1 2 0 0) sBlk) 15 3 115 (ins 31 1 2 0 0) ((ins 31 1 2 0 0).x == 0 && (ins 31 1 2 0 0).imm == 0) (some 1) 0 = true ∧
      State.descFault (word 115 (ins 31 1 2 0 0) sBlk) 15 { addr := 8192, len := 4096 : Desc } = none ∧
      State.descFault (word 115 (ins 31 1 2 0 0) sBlk) 15 { addr := 16384, len := 4096 : Desc } = none) ∧
    (State.tickets (word 128 (ins 31 6 1 3 0) sStv) 15 3 128 (ins 31 6 1 3 0) (decide (BitVec.toNat (ins 31 6 1 3 0).x < 4) && (ins 31 6 1 3 0).imm == 0) (some 2) 0 = true) ∧
    (7 = BitVec.toNat (Strand.reg (State.strand (word 129 (ins 31 1 1 0 0) sCtx) 15 3) (ins 31 1 1 0 0).b) ∧
      (State.ctx (word 129 (ins 31 1 1 0 0) sCtx) 15 7).strand = 3 ∧
      ((State.ctx (word 129 (ins 31 1 1 0 0) sCtx) 15 7).state = 1 ∨ (State.ctx (word 129 (ins 31 1 1 0 0) sCtx) 15 7).state = 2) ∧
      State.tickets (word 129 (ins 31 1 1 0 0) sCtx) 15 3 129 (ins 31 1 1 0 0) (decide (BitVec.toNat (ins 31 1 1 0 0).c < 8) && (ins 31 1 1 0 0).x == 0 && (ins 31 1 1 0 0).imm == 0) (some 2) 0 = true ∧
      State.descFault (word 129 (ins 31 1 1 0 0) sCtx) 15 (Strand.desc (State.strand (word 129 (ins 31 1 1 0 0) sCtx) 15 3) (ins 31 1 1 0 0).c) = none) ∧
    (7 = BitVec.toNat (Strand.reg (State.strand (word 130 (ins 31 1 6 8 0) sCtx) 15 3) (ins 31 1 6 8 0).b) ∧
      (State.ctx (word 130 (ins 31 1 6 8 0) sCtx) 15 7).strand = 3 ∧
      ((State.ctx (word 130 (ins 31 1 6 8 0) sCtx) 15 7).state = 1 ∨ (State.ctx (word 130 (ins 31 1 6 8 0) sCtx) 15 7).state = 2) ∧
      State.tickets (word 130 (ins 31 1 6 8 0) sCtx) 15 3 130 (ins 31 1 6 8 0) (decide (BitVec.toNat (ins 31 1 6 8 0).x ≤ 8) && (ins 31 1 6 8 0).imm == 0) (some 2) 0 = true) ∧
    (7 = BitVec.toNat (Strand.reg (State.strand (word 132 (ins 31 1 5 0 0) sCtx) 15 3) (ins 31 1 5 0 0).b) ∧
      (State.ctx (word 132 (ins 31 1 5 0 0) sCtx) 15 7).strand = 3 ∧
      ((State.ctx (word 132 (ins 31 1 5 0 0) sCtx) 15 7).state = 1 ∨ (State.ctx (word 132 (ins 31 1 5 0 0) sCtx) 15 7).state = 2) ∧
      State.tickets (word 132 (ins 31 1 5 0 0) sCtx) 15 3 132 (ins 31 1 5 0 0) (decide (BitVec.toNat (ins 31 1 5 0 0).c < 8) && (ins 31 1 5 0 0).x == 0 && (ins 31 1 5 0 0).imm == 0) (some 2) 0 = true ∧
      State.descFault (word 132 (ins 31 1 5 0 0) sCtx) 15 (Strand.desc (State.strand (word 132 (ins 31 1 5 0 0) sCtx) 15 3) (ins 31 1 5 0 0).c) = none ∧
      0 < (Strand.desc (State.strand (word 132 (ins 31 1 5 0 0) sCtx) 15 3) (ins 31 1 5 0 0).c).len ∧
      (Strand.desc (State.strand (word 132 (ins 31 1 5 0 0) sCtx) 15 3) (ins 31 1 5 0 0).c).len ≤ if (State.ctx (word 132 (ins 31 1 5 0 0) sCtx) 15 7).alg % 2 = 1 then 48 else 32) ∧
    (7 = BitVec.toNat (Strand.reg (State.strand (word 131 (ins 31 1 0 0 7) sCtx) 15 3) (ins 31 1 0 0 7).b) ∧
      (State.ctx (word 131 (ins 31 1 0 0 7) sCtx) 15 7).strand = 3 ∧
      ((State.ctx (word 131 (ins 31 1 0 0 7) sCtx) 15 7).state = 1 ∨ (State.ctx (word 131 (ins 31 1 0 0 7) sCtx) 15 7).state = 2) ∧
      State.issues (word 131 (ins 31 1 0 0 7) sCtx) 15 3 131 (ins 31 1 0 0 7) (legalI (ins 31 1 0 0 7) && decide (BitVec.toNat (ins 31 1 0 0 7).imm < 8)) ((State.strand (word 131 (ins 31 1 0 0 7) sCtx) 15 3).pc + 1) = true ∧
      PSlot.hasUnit (State.runSlot (word 131 (ins 31 1 0 0 7) sCtx) 15 3) (some 2) = true) ∧
    (7 = BitVec.toNat (Strand.reg (State.strand (word 133 (ins 0 1 0 0 0) sCtx) 15 3) (ins 0 1 0 0 0).b) ∧
      (State.ctx (word 133 (ins 0 1 0 0 0) sCtx) 15 7).strand = 3 ∧
      ((State.ctx (word 133 (ins 0 1 0 0 0) sCtx) 15 7).state = 1 ∨ (State.ctx (word 133 (ins 0 1 0 0 0) sCtx) 15 7).state = 2) ∧
      State.issues (word 133 (ins 0 1 0 0 0) sCtx) 15 3 133 (ins 0 1 0 0 0) ((ins 0 1 0 0 0).a == 0 && (ins 0 1 0 0 0).c == 0 && (ins 0 1 0 0 0).x == 0 && (ins 0 1 0 0 0).imm == 0) ((State.strand (word 133 (ins 0 1 0 0 0) sCtx) 15 3).pc + 1) = true ∧
      PSlot.hasUnit (State.runSlot (word 133 (ins 0 1 0 0 0) sCtx) 15 3) (some 2) = true ∧
      (List.all (Stove.jobs (State.stove (word 133 (ins 0 1 0 0 0) sCtx) 15)) fun j => Option.bind j.snd.snd.job Job.chain != some (0, 7)) = true) :=
  by and_intros <;> decide +kernel

theorem witness_StoveUnitsAreIssued_2 :
    (7 = BitVec.toNat (Strand.reg (State.strand (word 133 (ins 0 1 0 0 0) sCtxB) 15 3) (ins 0 1 0 0 0).b) ∧
      (State.ctx (word 133 (ins 0 1 0 0 0) sCtxB) 15 7).strand = 3 ∧
      ((State.ctx (word 133 (ins 0 1 0 0 0) sCtxB) 15 7).state = 1 ∨ (State.ctx (word 133 (ins 0 1 0 0 0) sCtxB) 15 7).state = 2) ∧
      State.issues (word 133 (ins 0 1 0 0 0) sCtxB) 15 3 133 (ins 0 1 0 0 0) ((ins 0 1 0 0 0).a == 0 && (ins 0 1 0 0 0).c == 0 && (ins 0 1 0 0 0).x == 0 && (ins 0 1 0 0 0).imm == 0) ((State.strand (word 133 (ins 0 1 0 0 0) sCtxB) 15 3).pc + 1) = true ∧
      PSlot.hasUnit (State.runSlot (word 133 (ins 0 1 0 0 0) sCtxB) 15 3) (some 2) = true ∧
      (List.any (Stove.jobs (State.stove (word 133 (ins 0 1 0 0 0) sCtxB) 15)) fun j => Option.bind j.snd.snd.job Job.chain == some (0, 7)) = true) ∧
    (PSlot.hasUnit (State.runSlot (word 129 (ins 31 6 1 0 0) sCtx) 15 3) (some 2) = true ∧
      State.holds (word 129 (ins 31 6 1 0 0) sCtx) 15 3 (Strand.reg (State.strand (word 129 (ins 31 6 1 0 0) sCtx) 15 3) (ins 31 6 1 0 0).b) = false ∧
      BitVec.toNat (ins 31 6 1 0 0).c < 8 ∧ (ins 31 6 1 0 0).x = 0 ∧ (ins 31 6 1 0 0).imm = 0 ∧
      State.fetches (word 129 (ins 31 6 1 0 0) sCtx) 15 3 129 (ins 31 6 1 0 0) = true) ∧
    (PSlot.hasUnit (State.runSlot (word 130 (ins 31 6 1 0 0) sCtx) 15 3) (some 2) = true ∧
      State.holds (word 130 (ins 31 6 1 0 0) sCtx) 15 3 (Strand.reg (State.strand (word 130 (ins 31 6 1 0 0) sCtx) 15 3) (ins 31 6 1 0 0).b) = false ∧
      BitVec.toNat (ins 31 6 1 0 0).c < 8 ∧ (ins 31 6 1 0 0).x = 0 ∧ (ins 31 6 1 0 0).imm = 0 ∧
      State.fetches (word 130 (ins 31 6 1 0 0) sCtx) 15 3 130 (ins 31 6 1 0 0) = true) ∧
    (PSlot.hasUnit (State.runSlot (word 131 (ins 31 6 1 0 0) sCtx) 15 3) (some 2) = true ∧
      State.holds (word 131 (ins 31 6 1 0 0) sCtx) 15 3 (Strand.reg (State.strand (word 131 (ins 31 6 1 0 0) sCtx) 15 3) (ins 31 6 1 0 0).b) = false ∧
      BitVec.toNat (ins 31 6 1 0 0).c < 8 ∧ (ins 31 6 1 0 0).x = 0 ∧ (ins 31 6 1 0 0).imm = 0 ∧
      State.fetches (word 131 (ins 31 6 1 0 0) sCtx) 15 3 131 (ins 31 6 1 0 0) = true) ∧
    (PSlot.hasUnit (State.runSlot (word 132 (ins 31 6 1 0 0) sCtx) 15 3) (some 2) = true ∧
      State.holds (word 132 (ins 31 6 1 0 0) sCtx) 15 3 (Strand.reg (State.strand (word 132 (ins 31 6 1 0 0) sCtx) 15 3) (ins 31 6 1 0 0).b) = false ∧
      BitVec.toNat (ins 31 6 1 0 0).c < 8 ∧ (ins 31 6 1 0 0).x = 0 ∧ (ins 31 6 1 0 0).imm = 0 ∧
      State.fetches (word 132 (ins 31 6 1 0 0) sCtx) 15 3 132 (ins 31 6 1 0 0) = true) ∧
    (PSlot.hasUnit (State.runSlot (word 133 (ins 31 6 1 0 0) sCtx) 15 3) (some 2) = true ∧
      State.holds (word 133 (ins 31 6 1 0 0) sCtx) 15 3 (Strand.reg (State.strand (word 133 (ins 31 6 1 0 0) sCtx) 15 3) (ins 31 6 1 0 0).b) = false ∧
      BitVec.toNat (ins 31 6 1 0 0).c < 8 ∧ (ins 31 6 1 0 0).x = 0 ∧ (ins 31 6 1 0 0).imm = 0 ∧
      State.fetches (word 133 (ins 31 6 1 0 0) sCtx) 15 3 133 (ins 31 6 1 0 0) = true) ∧
    (State.tickets (word 144 (ins 31 6 0 0 0) sStv) 15 3 144 (ins 31 6 0 0 0) ((ins 31 6 0 0 0).c == 0 && (ins 31 6 0 0 0).x == 0 && (ins 31 6 0 0 0).imm == 0) (some 3) 0 = true ∧
      Stove.hold (State.stove (word 144 (ins 31 6 0 0 0) sStv) 15) 3 = none) ∧
    (State.tickets (word 144 (ins 31 6 0 1 0) sStv) 15 3 144 (ins 31 6 0 1 0) ((ins 31 6 0 1 0).c == 0 && (ins 31 6 0 1 0).x == 1 && (ins 31 6 0 1 0).imm == 0) (some 3) 0 = true ∧
      Stove.hold (State.stove (word 144 (ins 31 6 0 1 0) sStv) 15) 3 = none) ∧
    ({ addr := 8192, len := 4096 : Desc } = Strand.desc (State.strand (word 145 (ins 31 1 2 38 0) sCi) 15 3) (ins 31 1 2 38 0).b ∧
      { addr := 16384, len := 4096 : Desc } = Strand.desc (State.strand (word 145 (ins 31 1 2 38 0) sCi) 15 3) (ins 31 1 2 38 0).c ∧
      Stove.hold (State.stove (word 145 (ins 31 1 2 38 0) sCi) 15) 3 = some hold3 ∧
      State.descFault (word 145 (ins 31 1 2 38 0) sCi) 15 { addr := 8192, len := 4096 : Desc } = none ∧
      State.descFault (word 145 (ins 31 1 2 38 0) sCi) 15 { addr := 16384, len := 4096 : Desc } = none ∧
      State.tickets (word 145 (ins 31 1 2 38 0) sCi) 15 3 145 (ins 31 1 2 38 0) (decide (BitVec.toNat (ins 31 1 2 38 0).b < 8) && decide (BitVec.toNat (ins 31 1 2 38 0).c < 8) && decide (BitVec.toNat (ins 31 1 2 38 0).x < 64) && (ins 31 1 2 38 0).imm == 0) (some 3) 0 = true ∧
      16 ≤ { addr := 16384, len := 4096 : Desc }.len) ∧
    ({ addr := 8192, len := 4096 : Desc } = Strand.desc (State.strand (word 146 (ins 31 1 2 1 0) sCi) 15 3) (ins 31 1 2 1 0).b ∧
      { addr := 16384, len := 4096 : Desc } = Strand.desc (State.strand (word 146 (ins 31 1 2 1 0) sCi) 15 3) (ins 31 1 2 1 0).c ∧
      Stove.hold (State.stove (word 146 (ins 31 1 2 1 0) sCi) 15) 3 = some hold3 ∧
      State.descFault (word 146 (ins 31 1 2 1 0) sCi) 15 { addr := 8192, len := 4096 : Desc } = none ∧
      State.descFault (word 146 (ins 31 1 2 1 0) sCi) 15 { addr := 16384, len := 4096 : Desc } = none ∧
      State.tickets (word 146 (ins 31 1 2 1 0) sCi) 15 3 146 (ins 31 1 2 1 0) (decide (BitVec.toNat (ins 31 1 2 1 0).b < 8) && decide (BitVec.toNat (ins 31 1 2 1 0).c < 8) && decide (BitVec.toNat (ins 31 1 2 1 0).x < 64) && (ins 31 1 2 1 0).imm == 0) (some 3) 0 = true ∧
      0 = BitVec.toNat (Strand.reg (State.strand (word 146 (ins 31 1 2 1 0) sCi) 15 3) (BitVec.setWidth 5 (ins 31 1 2 1 0).x)) / 16 * 16 ∧
      zeroBytes 32 = Tab.readBytes (State.stove (word 146 (ins 31 1 2 1 0) sCi) 15).lmem 0 32 ∧ 0 + 32 ≤ 1048576 ∧
      (leAt (zeroBytes 32) 12 4 = 0 ∨ leAt (zeroBytes 32) 12 4 + leAt (zeroBytes 32) 16 4 ≤ 1048576) ∧ leAt (zeroBytes 32) 20 4 + 16 ≤ 1048576) :=
  by and_intros <;> decide +kernel

theorem witness_StoveUnitsAreIssued_3 :
    (State.issues (word 147 (ins 0 0 0 0 0) sCi) 15 3 147 (ins 0 0 0 0 0) (InsW.bare (ins 0 0 0 0 0)) ((State.strand (word 147 (ins 0 0 0 0 0) sCi) 15 3).pc + 1) = true ∧
      PSlot.hasUnit (State.runSlot (word 147 (ins 0 0 0 0 0) sCi) 15 3) (some 3) = true ∧ (word 147 (ins 0 0 0 0 0) sCi).keys.erase = none ∧
      (State.stove (word 147 (ins 0 0 0 0 0) sCi) 15).lock = some hold3 ∧ hold3.strand = 3) ∧
    (State.issues (word 147 (ins 0 0 0 0 0) sCi2) 15 3 147 (ins 0 0 0 0 0) (InsW.bare (ins 0 0 0 0 0)) ((State.strand (word 147 (ins 0 0 0 0 0) sCi2) 15 3).pc + 1) = true ∧
      PSlot.hasUnit (State.runSlot (word 147 (ins 0 0 0 0 0) sCi2) 15 3) (some 3) = true ∧ (word 147 (ins 0 0 0 0 0) sCi2).keys.erase = none ∧
      (State.stove (word 147 (ins 0 0 0 0 0) sCi2) 15).susp = some hold3 ∧ hold3.strand = 3 ∧
      (∀ (u : CiHold), (State.stove (word 147 (ins 0 0 0 0 0) sCi2) 15).lock = some u → u.strand ≠ 3)) ∧
    (PSlot.hasUnit (State.runSlot (word 147 (ins 0 0 0 0 0) sStv) 15 3) (some 3) = true ∧
      Stove.hold (State.stove (word 147 (ins 0 0 0 0 0) sStv) 15) 3 = none ∧ (ins 0 0 0 0 0).imm = 0 ∧
      State.fetches (word 147 (ins 0 0 0 0 0) sStv) 15 3 147 (ins 0 0 0 0 0) = true ∧ InsW.bare (ins 0 0 0 0 0) = true) ∧
    (PSlot.hasUnit (State.runSlot (word 145 (ins 0 0 0 0 0) sStv) 15 3) (some 3) = true ∧
      Stove.hold (State.stove (word 145 (ins 0 0 0 0 0) sStv) 15) 3 = none ∧ (ins 0 0 0 0 0).imm = 0 ∧ BitVec.toNat (ins 0 0 0 0 0).b < 8 ∧
      BitVec.toNat (ins 0 0 0 0 0).c < 8 ∧ BitVec.toNat (ins 0 0 0 0 0).x < 64 ∧
      State.fetches (word 145 (ins 0 0 0 0 0) sStv) 15 3 145 (ins 0 0 0 0 0) = true) ∧
    (PSlot.hasUnit (State.runSlot (word 146 (ins 0 0 0 0 0) sStv) 15 3) (some 3) = true ∧
      Stove.hold (State.stove (word 146 (ins 0 0 0 0 0) sStv) 15) 3 = none ∧ (ins 0 0 0 0 0).imm = 0 ∧ BitVec.toNat (ins 0 0 0 0 0).b < 8 ∧
      BitVec.toNat (ins 0 0 0 0 0).c < 8 ∧ BitVec.toNat (ins 0 0 0 0 0).x < 64 ∧
      State.fetches (word 146 (ins 0 0 0 0 0) sStv) 15 3 146 (ins 0 0 0 0 0) = true) :=
  by and_intros <;> decide +kernel

theorem witness_StoveMovesAndRequests :
    ({ addr := 8192, len := 4096 : Desc } = Strand.desc (State.strand (word 96 (ins 31 1 2 0 0) sStv) 15 3) (ins 31 1 2 0 0).b ∧
      { addr := 16384, len := 4096 : Desc } = Strand.desc (State.strand (word 96 (ins 31 1 2 0 0) sStv) 15 3) (ins 31 1 2 0 0).c ∧
      BitVec.toNat (ins 31 1 2 0 0).b < 8 ∧ BitVec.toNat (ins 31 1 2 0 0).c < 8 ∧
      State.descFault (word 96 (ins 31 1 2 0 0) sStv) 15 { addr := 8192, len := 4096 : Desc } = none ∧
      State.descFault (word 96 (ins 31 1 2 0 0) sStv) 15 { addr := 16384, len := 4096 : Desc } = none ∧
      State.tickets (word 96 (ins 31 1 2 0 0) sStv) 15 3 96 (ins 31 1 2 0 0) ((ins 31 1 2 0 0).x == 0 && (ins 31 1 2 0 0).imm == 0) none 0 = true) ∧
    ({ addr := 8192, len := 4096 : Desc } = Strand.desc (State.strand (word 98 (ins 31 1 2 0 0) sStv) 15 3) (ins 31 1 2 0 0).b ∧
      { addr := 16384, len := 4096 : Desc } = Strand.desc (State.strand (word 98 (ins 31 1 2 0 0) sStv) 15 3) (ins 31 1 2 0 0).c ∧
      BitVec.toNat (ins 31 1 2 0 0).b < 8 ∧ BitVec.toNat (ins 31 1 2 0 0).c < 8 ∧
      State.descFault (word 98 (ins 31 1 2 0 0) sStv) 15 { addr := 8192, len := 4096 : Desc } = none ∧
      State.descFault (word 98 (ins 31 1 2 0 0) sStv) 15 { addr := 16384, len := 4096 : Desc } = none ∧
      State.tickets (word 98 (ins 31 1 2 0 0) sStv) 15 3 98 (ins 31 1 2 0 0) ((ins 31 1 2 0 0).x == 0 && (ins 31 1 2 0 0).imm == 0) none 0 = true) ∧
    ({ addr := 8192, len := 4096 : Desc } = Strand.desc (State.strand (word 97 (ins 31 1 2 0 0) sStv) 15 3) (ins 31 1 2 0 0).b ∧
      BitVec.toNat (ins 31 1 2 0 0).b < 8 ∧
      State.tickets (word 97 (ins 31 1 2 0 0) sStv) 15 3 97 (ins 31 1 2 0 0) ((ins 31 1 2 0 0).x == 0 && (ins 31 1 2 0 0).imm == 0) none 0 = true ∧
      State.descFault (word 97 (ins 31 1 2 0 0) sStv) 15 { addr := 8192, len := 4096 : Desc } = none) ∧
    (BitVec.toNat (ins 31 4 2 0 0).b < 8 ∧ BitVec.toNat (ins 31 4 2 0 0).c < 8 ∧ (ins 31 4 2 0 0).x = 0 ∧ (ins 31 4 2 0 0).imm = 0 ∧
      State.descFault (word 96 (ins 31 4 2 0 0) sStv) 15 (Strand.desc (State.strand (word 96 (ins 31 4 2 0 0) sStv) 15 3) (ins 31 4 2 0 0).b) = some 2 ∧
      State.fetches (word 96 (ins 31 4 2 0 0) sStv) 15 3 96 (ins 31 4 2 0 0) = true) ∧
    (BitVec.toNat (ins 31 4 2 0 0).b < 8 ∧ BitVec.toNat (ins 31 4 2 0 0).c < 8 ∧ (ins 31 4 2 0 0).x = 0 ∧ (ins 31 4 2 0 0).imm = 0 ∧
      State.descFault (word 97 (ins 31 4 2 0 0) sStv) 15 (Strand.desc (State.strand (word 97 (ins 31 4 2 0 0) sStv) 15 3) (ins 31 4 2 0 0).b) = some 2 ∧
      State.fetches (word 97 (ins 31 4 2 0 0) sStv) 15 3 97 (ins 31 4 2 0 0) = true) ∧
    (BitVec.toNat (ins 31 4 2 0 0).b < 8 ∧ BitVec.toNat (ins 31 4 2 0 0).c < 8 ∧ (ins 31 4 2 0 0).x = 0 ∧ (ins 31 4 2 0 0).imm = 0 ∧
      State.descFault (word 98 (ins 31 4 2 0 0) sStv) 15 (Strand.desc (State.strand (word 98 (ins 31 4 2 0 0) sStv) 15 3) (ins 31 4 2 0 0).b) = some 2 ∧
      State.fetches (word 98 (ins 31 4 2 0 0) sStv) 15 3 98 (ins 31 4 2 0 0) = true) ∧
    (State.tickets s_StoveMovesAndRequests_7 15 3 99 (ins 31 1 0 0 0) (legalI (ins 31 1 0 0 0) && (ins 31 1 0 0 0).imm == 0) none 0 = true ∧
      1048512 = BitVec.toNat (Strand.reg (State.strand s_StoveMovesAndRequests_7 15 3) (ins 31 1 0 0 0).b) / 64 * 64) ∧
    (State.tickets (word 100 (ins 31 0 0 0 0) sStv) 15 3 100 (ins 31 0 0 0 0) (legalI (ins 31 0 0 0 0) && (ins 31 0 0 0 0).imm == 0 && (ins 31 0 0 0 0).b == 0) none 0 = true) ∧
    (State.issues (word 101 (ins 0 6 0 0 0) sFree) 15 3 101 (ins 0 6 0 0 0) ((ins 0 6 0 0 0).a == 0 && (ins 0 6 0 0 0).c == 0 && (ins 0 6 0 0 0).x == 0 && (ins 0 6 0 0 0).imm == 0) ((State.strand (word 101 (ins 0 6 0 0 0) sFree) 15 3).pc + 1) = true ∧
      12287 = BitVec.toNat (Strand.reg (State.strand (word 101 (ins 0 6 0 0 0) sFree) 15 3) (ins 0 6 0 0 0).b) ∧
      Tab.find (word 101 (ins 0 6 0 0 0) sFree).pool.held 12287 = some { chan := 4, journalled := false, atime := 0, user := 9 : Grate }) :=
  by and_intros <;> decide +kernel

end StoveMem

namespace StoveEnds

/-- A parity request of one data member and one parity block of 64 bytes at 0xFFFC0. -/
def parBlock : Bytes :=
  [1, 1, 0, 0] ++ leBytes 4 64 ++ zeroBytes 8 ++ (leBytes 8 0x2000 ++ leBytes 4 64 ++ zeroBytes 4) ++ (leBytes 8 0x3000 ++ leBytes 4 64 ++ zeroBytes 4)
def sPar : State := stvF (fun v => { v with lmem := Tab.writeBytes [] 0xFFFC0 parBlock }) { strand3 with g := [(1, 0xFFFC0), (5, 0x100000)] }
def sOld : State := at_ sStv 3000000
def sFlt : State := (stv { strand3 with st := .faulted, fltCode := 5 }).set (F.STV_FAULT_STRAND 15) 8
/-- An image of one instruction and no data, at 0x1000. -/
def imgBody : Bytes := leBytes 8 0x0123456789ABCDEF
def img : Bytes := leBytes 4 0x53545650 ++ leBytes 2 1 ++ zeroBytes 2 ++ leBytes 2 7 ++ leBytes 2 9 ++ leBytes 4 1 ++ zeroBytes 32 ++ sha384 imgBody
def sImg : State := ({ upT with ddr := Tab.writeBytes (Tab.writeBytes [] 0x1000 img) 0x1200 imgBody }).set (F.STV_LOAD_ADDR_ADDR 15) 0x1FFF
def sLoading (p : PSlot) : State := { sImg with stoves := [(15, { pslots := [(15, p)], load := some { slot := 15, addr := 0x1000, header := Tab.readBytes sImg.ddr 0x1000 512, result := 0 } })] }
def tk (j : Job) : Ticket := { epoch := 1, used := true, job := some j, granted := true }
def sJob (j : Job) : State := stv { strand3 with tickets := [(15, tk j)] }
def dLm (a n : Nat) : Desc := { space := 0, addr := a, len := n }
def sDg (c : DgCtx) (j : Job) : State := stvF (fun v => { v with ctxs := [(7, c)] }) { strand3 with tickets := [(15, tk j)] }

theorem witness_StoveMovesAndRequests :
    (State.tickets (word 160 (ins 31 1 0 0 0) sPar) 15 3 160 (ins 31 1 0 0 0) (legalI (ins 31 1 0 0 0) && (ins 31 1 0 0 0).imm == 0) (some 4) 0 = true ∧
      1048512 = BitVec.toNat (Strand.reg (State.strand (word 160 (ins 31 1 0 0 0) sPar) 15 3) (ins 31 1 0 0 0).b) / 16 * 16 ∧
      1 = BitVec.toNat (Tab.getB (State.stove (word 160 (ins 31 1 0 0 0) sPar) 15).lmem 1048512) ∧
      1 = BitVec.toNat (Tab.getB (State.stove (word 160 (ins 31 1 0 0 0) sPar) 15).lmem (1048512 + 1)) ∧
      BitVec.toNat (Tab.getB (State.stove (word 160 (ins 31 1 0 0 0) sPar) 15).lmem (1048512 + 2)) ≤ 1 ∧
      0 < leNat (Tab.readBytes (State.stove (word 160 (ins 31 1 0 0 0) sPar) 15).lmem (1048512 + 4) 4) ∧
      leNat (Tab.readBytes (State.stove (word 160 (ins 31 1 0 0 0) sPar) 15).lmem (1048512 + 4) 4) % 64 = 0 ∧ 1048512 + 16 + 16 * (1 + 1) ≤ 1048576 ∧
      parMembers (Tab.readBytes (State.stove (word 160 (ins 31 1 0 0 0) sPar) 15).lmem 1048512 (16 + 16 * (1 + 1))) (1 + 1) = some [{ addr := 8192, len := 64 : Desc }, { addr := 12288, len := 64 : Desc }] ∧
      (List.all [{ addr := 8192, len := 64 : Desc }, { addr := 12288, len := 64 : Desc }] fun d => decide (leNat (Tab.readBytes (State.stove (word 160 (ins 31 1 0 0 0) sPar) 15).lmem (1048512 + 4) 4) ≤ d.len) && Option.isNone (State.descFault (word 160 (ins 31 1 0 0 0) sPar) 15 d)) = true) ∧
    (State.tickets (word 193 (ins 31 1 0 0 0) sPar) 15 3 193 (ins 31 1 0 0 0) (legalI (ins 31 1 0 0 0) && (ins 31 1 0 0 0).imm == 0) (some 6) 0 = true ∧
      State.drvsBegun (word 193 (ins 31 1 0 0 0) sPar) 15 = true ∧
      1048512 = BitVec.toNat (Strand.reg (State.strand (word 193 (ins 31 1 0 0 0) sPar) 15 3) (ins 31 1 0 0 0).b) / 64 * 64 ∧
      1048512 + 64 ≤ 1048576) ∧
    (legalI (ins 31 5 0 0 0) = true ∧ (ins 31 5 0 0 0).imm = 0 ∧
      1048576 = BitVec.toNat (Strand.reg (State.strand (word 193 (ins 31 5 0 0 0) sPar) 15 3) (ins 31 5 0 0 0).b) / 64 * 64 ∧ 1048576 < 1048576 + 64 ∧
      State.drvsBegun (word 193 (ins 31 5 0 0 0) sPar) 15 = true ∧ (word 193 (ins 31 5 0 0 0) sPar).keys.erase = none ∧
      State.fetches (word 193 (ins 31 5 0 0 0) sPar) 15 3 193 (ins 31 5 0 0 0) = true ∧
      PSlot.hasUnit (State.runSlot (word 193 (ins 31 5 0 0 0) sPar) 15 3) (some 6) = true) ∧
    (legalI (ins 31 5 0 0 0) = true ∧ (ins 31 5 0 0 0).imm = 0 ∧
      1048576 = BitVec.toNat (Strand.reg (State.strand (word 192 (ins 31 5 0 0 0) sPar) 15 3) (ins 31 5 0 0 0).b) / 64 * 64 ∧ 1048576 < 1048576 + 64 ∧
      State.drvsBegun (word 192 (ins 31 5 0 0 0) sPar) 15 = true ∧ (word 192 (ins 31 5 0 0 0) sPar).keys.erase = none ∧
      State.fetches (word 192 (ins 31 5 0 0 0) sPar) 15 3 192 (ins 31 5 0 0 0) = true ∧
      PSlot.hasUnit (State.runSlot (word 192 (ins 31 5 0 0 0) sPar) 15 3) (some 5) = true) :=
  by and_intros <;> decide +kernel

theorem witness_StoveFaults :
    ((State.strand sOld 15 3).st = StrandState.running ∧ State.get sOld (F.STV_WI_TO_TIMEOUT 15) ≠ 0 ∧
      (State.strand sOld 15 3).startAt + us (State.get sOld (F.STV_WI_TO_TIMEOUT 15)) < State.cyc sOld ∧ (State.stove sOld 15).fenced = false) ∧
    (State.writable sFlt h0 (R.STV_FAULT + 2097152 * 15) = true) ∧
    (0 ≠ 15 ∧ (State.stove sStv 15).fenced = false ∧ (State.stove sStv 0).fenced = false ∧ State.bitOf sStv F.GLB_FAULT_STV 0 = false ∧
      (∀ (k : Nat), k < 4 → ∀ (w : WorkItem), w ∈ (State.strand sStv 15 k).item → w.fails = 0) ∧
      (∀ (w : WorkItem), w ∈ (State.stove sStv 15).queue → w.fails = 0)) ∧
    (0 ≠ 15 ∧ (State.stove sStv 15).fenced = false ∧ (State.stove sStv 0).fenced = false ∧ State.bitOf sStv F.GLB_FAULT_STV 0 = false ∧
      (∀ (k : Nat), k < 4 → ∀ (w : WorkItem), w ∈ (State.strand sStv 15 k).item → w.fails = 0) ∧
      (∀ (w : WorkItem), w ∈ (State.stove sStv 15).queue → w.fails = 0)) ∧
    (0 ≠ 15 ∧ (State.stove sStv 15).fenced = false ∧ (State.stove sStv 0).fenced = false ∧ State.bitOf sStv F.GLB_FAULT_STV 0 = false ∧
      (∀ (k : Nat), k < 4 → ∀ (w : WorkItem), w ∈ (State.strand sStv 15 k).item → w.fails = 0) ∧
      (∀ (w : WorkItem), w ∈ (State.stove sStv 15).queue → w.fails = 0) ∧ State.writable sStv h0 (R.STV_CTL + 2097152 * 15) = true) ∧
    (0 ≠ 15 ∧ (State.stove sStv 15).fenced = false ∧ (State.stove sStv 0).fenced = false ∧ State.bitOf sStv F.GLB_FAULT_STV 0 = false ∧
      (∀ (k : Nat), k < 4 → ∀ (w : WorkItem), w ∈ (State.strand sStv 15 k).item → w.fails = 0) ∧
      (∀ (w : WorkItem), w ∈ (State.stove sStv 15).queue → w.fails = 0)) :=
  by and_intros <;> decide +kernel

theorem witness_ProgramsLoad_1 :
    ((State.stove (sLoading { state := 1, base64 := 1 : PSlot }) 15).load = some { slot := 15, addr := 4096, header := Tab.readBytes sImg.ddr 4096 512, result := 0 : Load } ∧
      (sLoading { state := 1, base64 := 1 : PSlot }).heldItems = [] ∧
      { slot := 15, addr := 4096, header := Tab.readBytes sImg.ddr 4096 512, result := 0 : Load }.result ≠ 9 ∧
      Tab.readBytes sImg.ddr 4096 512 = { slot := 15, addr := 4096, header := Tab.readBytes sImg.ddr 4096 512, result := 0 : Load }.header ∧
      State.bareDdr (sLoading { state := 1, base64 := 1 : PSlot }) = true ∧
      imgBody = Tab.readBytes (sLoading { state := 1, base64 := 1 : PSlot }).ddr ({ slot := 15, addr := 4096, header := Tab.readBytes sImg.ddr 4096 512, result := 0 : Load }.addr + 512) (8 * leAt (Tab.readBytes sImg.ddr 4096 512) 12 4 + (State.pslot (sLoading { state := 1, base64 := 1 : PSlot }) 15 { slot := 15, addr := 4096, header := Tab.readBytes sImg.ddr 4096 512, result := 0 : Load }.slot).dataLen)) ∧
    ((State.stove (sLoading { state := 1, base64 := 1 : PSlot }) 15).load = some { slot := 15, addr := 4096, header := Tab.readBytes sImg.ddr 4096 512, result := 0 : Load } ∧
      (sLoading { state := 1, base64 := 1 : PSlot }).heldItems = [] ∧
      { slot := 15, addr := 4096, header := Tab.readBytes sImg.ddr 4096 512, result := 0 : Load }.result ≠ 9 ∧
      Tab.readBytes sImg.ddr 4096 512 = { slot := 15, addr := 4096, header := Tab.readBytes sImg.ddr 4096 512, result := 0 : Load }.header ∧
      State.bareDdr (sLoading { state := 1, base64 := 1 : PSlot }) = true ∧
      imgBody = Tab.readBytes (sLoading { state := 1, base64 := 1 : PSlot }).ddr ({ slot := 15, addr := 4096, header := Tab.readBytes sImg.ddr 4096 512, result := 0 : Load }.addr + 512) (8 * leAt (Tab.readBytes sImg.ddr 4096 512) 12 4 + (State.pslot (sLoading { state := 1, base64 := 1 : PSlot }) 15 { slot := 15, addr := 4096, header := Tab.readBytes sImg.ddr 4096 512, result := 0 : Load }.slot).dataLen)) ∧
    (State.writable (sLoading { state := 2 : PSlot }) h0 (R.STV_LOAD_CTL + 2097152 * 15) = true ∧ 15 = 2148466688 / 2 ^ 16 % 16 ∧
      (State.pslot (sLoading { state := 2 : PSlot }) 15 15).state = 2) ∧
    ((State.pslot (sLoading { state := 3 : PSlot }) 15 15).state = 3 ∧ (State.stove (sLoading { state := 3 : PSlot }) 15).queue = [] ∧
      (∀ (x : Nat × Strand), x ∈ (State.stove (sLoading { state := 3 : PSlot }) 15).strands → x.snd.item = none)) :=
  by and_intros <;> decide +kernel

theorem witness_ProgramsLoad_2 :
    ((State.writable sImg h0 (R.STV_LOAD_CTL + 2097152 * 15) = true ∧ State.getb sImg (F.STV_LOAD_STS_BUSY 15) = false ∧
      15 = 2148466689 / 2 ^ 16 % 16 ∧ 4096 = State.get sImg (F.STV_LOAD_ADDR_ADDR 15) / 4096 * 4096 ∧ State.bareDdr sImg = true) ∧
      Tab.readBytes sImg.ddr 4096 512 = Tab.readBytes sImg.ddr 4096 512) :=
  ⟨by and_intros <;> decide +kernel, rfl⟩

theorem witness_StreamsEnd :
    (Strand.ticket (State.strand (sJob (Job.fill (dLm 4088 9) 578437695752307201)) 15 3) 15 = tk (Job.fill (dLm 4088 9) 578437695752307201) ∧
      (tk (Job.fill (dLm 4088 9) 578437695752307201)).job = some (Job.fill (dLm 4088 9) 578437695752307201) ∧
      (tk (Job.fill (dLm 4088 9) 578437695752307201)).used = true ∧ State.answers (sJob (Job.fill (dLm 4088 9) 578437695752307201)) dStv = true ∧
      (State.stove (sJob (Job.fill (dLm 4088 9) 578437695752307201)) 15).fenced = false ∧
      State.canFinish (sJob (Job.fill (dLm 4088 9) 578437695752307201)) 15 3 (tk (Job.fill (dLm 4088 9) 578437695752307201)) (Job.fill (dLm 4088 9) 578437695752307201) = true ∧
      (dLm 4088 9).space = 0) ∧
    (Strand.ticket (State.strand (sJob (Job.cpy (dLm 4078 9) (dLm 4079 12))) 15 3) 15 = tk (Job.cpy (dLm 4078 9) (dLm 4079 12)) ∧
      (tk (Job.cpy (dLm 4078 9) (dLm 4079 12))).job = some (Job.cpy (dLm 4078 9) (dLm 4079 12)) ∧
      (tk (Job.cpy (dLm 4078 9) (dLm 4079 12))).used = true ∧ State.answers (sJob (Job.cpy (dLm 4078 9) (dLm 4079 12))) dStv = true ∧
      (State.stove (sJob (Job.cpy (dLm 4078 9) (dLm 4079 12))) 15).fenced = false ∧
      State.canFinish (sJob (Job.cpy (dLm 4078 9) (dLm 4079 12))) 15 3 (tk (Job.cpy (dLm 4078 9) (dLm 4079 12))) (Job.cpy (dLm 4078 9) (dLm 4079 12)) = true ∧
      (dLm 4078 9).space = 0 ∧ (dLm 4079 12).space = 0 ∧ 9 = min (dLm 4079 12).len (dLm 4078 9).len ∧
      ((dLm 4078 9).addr ≤ (dLm 4079 12).addr ∨ (dLm 4079 12).addr + 9 ≤ (dLm 4078 9).addr)) ∧
    (Strand.ticket (State.strand (sJob (Job.cmp (dLm 4080 9) (dLm 4095 9))) 15 3) 15 = tk (Job.cmp (dLm 4080 9) (dLm 4095 9)) ∧
      (tk (Job.cmp (dLm 4080 9) (dLm 4095 9))).job = some (Job.cmp (dLm 4080 9) (dLm 4095 9)) ∧ (tk (Job.cmp (dLm 4080 9) (dLm 4095 9))).used = true ∧
      State.answers (sJob (Job.cmp (dLm 4080 9) (dLm 4095 9))) dStv = true ∧
      (State.stove (sJob (Job.cmp (dLm 4080 9) (dLm 4095 9))) 15).fenced = false ∧
      State.canFinish (sJob (Job.cmp (dLm 4080 9) (dLm 4095 9))) 15 3 (tk (Job.cmp (dLm 4080 9) (dLm 4095 9))) (Job.cmp (dLm 4080 9) (dLm 4095 9)) = true ∧
      (dLm 4080 9).space = 0 ∧ (dLm 4095 9).space = 0 ∧
      (∀ (i : Nat), i < (dLm 4080 9).len → Tab.getB (State.stove (sJob (Job.cmp (dLm 4080 9) (dLm 4095 9))) 15).lmem ((dLm 4080 9).addr + i) = Tab.getB (State.stove (sJob (Job.cmp (dLm 4080 9) (dLm 4095 9))) 15).lmem ((dLm 4095 9).addr + i)) ∧
      (dLm 4080 9).len = (dLm 4095 9).len) ∧
    (Strand.ticket (State.strand (sJob (Job.cmp (dLm 4072 9) (dLm 4064 16))) 15 3) 15 = tk (Job.cmp (dLm 4072 9) (dLm 4064 16)) ∧
      (tk (Job.cmp (dLm 4072 9) (dLm 4064 16))).job = some (Job.cmp (dLm 4072 9) (dLm 4064 16)) ∧
      (tk (Job.cmp (dLm 4072 9) (dLm 4064 16))).used = true ∧ State.answers (sJob (Job.cmp (dLm 4072 9) (dLm 4064 16))) dStv = true ∧
      (State.stove (sJob (Job.cmp (dLm 4072 9) (dLm 4064 16))) 15).fenced = false ∧
      State.canFinish (sJob (Job.cmp (dLm 4072 9) (dLm 4064 16))) 15 3 (tk (Job.cmp (dLm 4072 9) (dLm 4064 16))) (Job.cmp (dLm 4072 9) (dLm 4064 16)) = true ∧
      (dLm 4072 9).space = 0 ∧ (dLm 4064 16).space = 0 ∧ 8 < (dLm 4072 9).len ∧ 8 < (dLm 4064 16).len ∧
      Tab.getB (State.stove (sJob (Job.cmp (dLm 4072 9) (dLm 4064 16))) 15).lmem ((dLm 4072 9).addr + 8) ≠ Tab.getB (State.stove (sJob (Job.cmp (dLm 4072 9) (dLm 4064 16))) 15).lmem ((dLm 4064 16).addr + 8) ∧
      (∀ (j : Nat), j < 8 → Tab.getB (State.stove (sJob (Job.cmp (dLm 4072 9) (dLm 4064 16))) 15).lmem ((dLm 4072 9).addr + j) = Tab.getB (State.stove (sJob (Job.cmp (dLm 4072 9) (dLm 4064 16))) 15).lmem ((dLm 4064 16).addr + j))) ∧
    (Strand.ticket (State.strand (sDg { state := 1, strand := 3, decl := 9 : DgCtx } (Job.dgAbs 7 (dLm 4079 9))) 15 3) 15 = tk (Job.dgAbs 7 (dLm 4079 9)) ∧
      (tk (Job.dgAbs 7 (dLm 4079 9))).job = some (Job.dgAbs 7 (dLm 4079 9)) ∧ (tk (Job.dgAbs 7 (dLm 4079 9))).used = true ∧
      State.answers (sDg { state := 1, strand := 3, decl := 9 : DgCtx } (Job.dgAbs 7 (dLm 4079 9))) dStv = true ∧
      (State.stove (sDg { state := 1, strand := 3, decl := 9 : DgCtx } (Job.dgAbs 7 (dLm 4079 9))) 15).fenced = false ∧
      State.canFinish (sDg { state := 1, strand := 3, decl := 9 : DgCtx } (Job.dgAbs 7 (dLm 4079 9))) 15 3 (tk (Job.dgAbs 7 (dLm 4079 9))) (Job.dgAbs 7 (dLm 4079 9)) = true ∧
      (dLm 4079 9).space = 0 ∧ (tk (Job.dgAbs 7 (dLm 4079 9))).sliced = false ∧
      (State.ctx (sDg { state := 1, strand := 3, decl := 9 : DgCtx } (Job.dgAbs 7 (dLm 4079 9))) 15 7).state = 1 ∧
      (State.ctx (sDg { state := 1, strand := 3, decl := 9 : DgCtx } (Job.dgAbs 7 (dLm 4079 9))) 15 7).res = [] ∧
      (State.ctx (sDg { state := 1, strand := 3, decl := 9 : DgCtx } (Job.dgAbs 7 (dLm 4079 9))) 15 7).trunc = false ∧
      0 :: List.replicate 8 255 = Tab.readBytes (State.stove (sDg { state := 1, strand := 3, decl := 9 : DgCtx } (Job.dgAbs 7 (dLm 4079 9))) 15).lmem (dLm 4079 9).addr (dLm 4079 9).len ∧
      (State.ctx (sDg { state := 1, strand := 3, decl := 9 : DgCtx } (Job.dgAbs 7 (dLm 4079 9))) 15 7).absd + (dLm 4079 9).len ≤ (State.ctx (sDg { state := 1, strand := 3, decl := 9 : DgCtx } (Job.dgAbs 7 (dLm 4079 9))) 15 7).decl) ∧
    (Strand.ticket (State.strand (sDg { state := 1, strand := 3, decl := 8 : DgCtx } (Job.dgAbs 7 (dLm 4079 9))) 15 3) 15 = tk (Job.dgAbs 7 (dLm 4079 9)) ∧
      (tk (Job.dgAbs 7 (dLm 4079 9))).job = some (Job.dgAbs 7 (dLm 4079 9)) ∧ (tk (Job.dgAbs 7 (dLm 4079 9))).used = true ∧
      State.answers (sDg { state := 1, strand := 3, decl := 8 : DgCtx } (Job.dgAbs 7 (dLm 4079 9))) dStv = true ∧
      (State.stove (sDg { state := 1, strand := 3, decl := 8 : DgCtx } (Job.dgAbs 7 (dLm 4079 9))) 15).fenced = false ∧
      State.canFinish (sDg { state := 1, strand := 3, decl := 8 : DgCtx } (Job.dgAbs 7 (dLm 4079 9))) 15 3 (tk (Job.dgAbs 7 (dLm 4079 9))) (Job.dgAbs 7 (dLm 4079 9)) = true ∧
      (dLm 4079 9).space = 0 ∧ (tk (Job.dgAbs 7 (dLm 4079 9))).sliced = false ∧
      (State.ctx (sDg { state := 1, strand := 3, decl := 8 : DgCtx } (Job.dgAbs 7 (dLm 4079 9))) 15 7).state = 1 ∧
      (State.ctx (sDg { state := 1, strand := 3, decl := 8 : DgCtx } (Job.dgAbs 7 (dLm 4079 9))) 15 7).res = [] ∧
      (State.ctx (sDg { state := 1, strand := 3, decl := 8 : DgCtx } (Job.dgAbs 7 (dLm 4079 9))) 15 7).trunc = false ∧
      0 :: List.replicate 8 255 = Tab.readBytes (State.stove (sDg { state := 1, strand := 3, decl := 8 : DgCtx } (Job.dgAbs 7 (dLm 4079 9))) 15).lmem (dLm 4079 9).addr (dLm 4079 9).len ∧
      (State.ctx (sDg { state := 1, strand := 3, decl := 8 : DgCtx } (Job.dgAbs 7 (dLm 4079 9))) 15 7).absd ≤ (State.ctx (sDg { state := 1, strand := 3, decl := 8 : DgCtx } (Job.dgAbs 7 (dLm 4079 9))) 15 7).decl ∧
      (State.ctx (sDg { state := 1, strand := 3, decl := 8 : DgCtx } (Job.dgAbs 7 (dLm 4079 9))) 15 7).decl < (State.ctx (sDg { state := 1, strand := 3, decl := 8 : DgCtx } (Job.dgAbs 7 (dLm 4079 9))) 15 7).absd + (dLm 4079 9).len) ∧
    (Strand.ticket (State.strand (sDg { state := 1, strand := 3, decl := 8 : DgCtx } (Job.dgFin 7 578437695752307201 8)) 15 3) 15 = tk (Job.dgFin 7 578437695752307201 8) ∧
      (tk (Job.dgFin 7 578437695752307201 8)).job = some (Job.dgFin 7 578437695752307201 8) ∧ (tk (Job.dgFin 7 578437695752307201 8)).used = true ∧
      State.answers (sDg { state := 1, strand := 3, decl := 8 : DgCtx } (Job.dgFin 7 578437695752307201 8)) dStv = true ∧
      (State.stove (sDg { state := 1, strand := 3, decl := 8 : DgCtx } (Job.dgFin 7 578437695752307201 8)) 15).fenced = false ∧
      State.canFinish (sDg { state := 1, strand := 3, decl := 8 : DgCtx } (Job.dgFin 7 578437695752307201 8)) 15 3 (tk (Job.dgFin 7 578437695752307201 8)) (Job.dgFin 7 578437695752307201 8) = true ∧
      (tk (Job.dgFin 7 578437695752307201 8)).sliced = false ∧
      (State.ctx (sDg { state := 1, strand := 3, decl := 8 : DgCtx } (Job.dgFin 7 578437695752307201 8)) 15 7).state = 1 ∧
      (State.ctx (sDg { state := 1, strand := 3, decl := 8 : DgCtx } (Job.dgFin 7 578437695752307201 8)) 15 7).alg = 0 ∧
      (State.ctx (sDg { state := 1, strand := 3, decl := 8 : DgCtx } (Job.dgFin 7 578437695752307201 8)) 15 7).res = [] ∧
      (State.ctx (sDg { state := 1, strand := 3, decl := 8 : DgCtx } (Job.dgFin 7 578437695752307201 8)) 15 7).trunc = false ∧
      (State.ctx (sDg { state := 1, strand := 3, decl := 8 : DgCtx } (Job.dgFin 7 578437695752307201 8)) 15 7).absd + 8 = (State.ctx (sDg { state := 1, strand := 3, decl := 8 : DgCtx } (Job.dgFin 7 578437695752307201 8)) 15 7).decl) ∧
    (Strand.ticket (State.strand (sDg { state := 2, strand := 3, res := List.replicate 32 255 : DgCtx } (Job.dgCmp 7 (dLm 4080 32))) 15 3) 15 = tk (Job.dgCmp 7 (dLm 4080 32)) ∧
      (tk (Job.dgCmp 7 (dLm 4080 32))).job = some (Job.dgCmp 7 (dLm 4080 32)) ∧ (tk (Job.dgCmp 7 (dLm 4080 32))).used = true ∧
      State.answers (sDg { state := 2, strand := 3, res := List.replicate 32 255 : DgCtx } (Job.dgCmp 7 (dLm 4080 32))) dStv = true ∧
      (State.stove (sDg { state := 2, strand := 3, res := List.replicate 32 255 : DgCtx } (Job.dgCmp 7 (dLm 4080 32))) 15).fenced = false ∧
      State.canFinish (sDg { state := 2, strand := 3, res := List.replicate 32 255 : DgCtx } (Job.dgCmp 7 (dLm 4080 32))) 15 3 (tk (Job.dgCmp 7 (dLm 4080 32))) (Job.dgCmp 7 (dLm 4080 32)) = true ∧
      (dLm 4080 32).space = 0 ∧
      (State.ctx (sDg { state := 2, strand := 3, res := List.replicate 32 255 : DgCtx } (Job.dgCmp 7 (dLm 4080 32))) 15 7).state = 2 ∧
      (State.ctx (sDg { state := 2, strand := 3, res := List.replicate 32 255 : DgCtx } (Job.dgCmp 7 (dLm 4080 32))) 15 7).res ≠ [] ∧
      (dLm 4080 32).len ≤ List.length (State.ctx (sDg { state := 2, strand := 3, res := List.replicate 32 255 : DgCtx } (Job.dgCmp 7 (dLm 4080 32))) 15 7).res ∧
      List.take (dLm 4080 32).len (State.ctx (sDg { state := 2, strand := 3, res := List.replicate 32 255 : DgCtx } (Job.dgCmp 7 (dLm 4080 32))) 15 7).res = Tab.readBytes (State.stove (sDg { state := 2, strand := 3, res := List.replicate 32 255 : DgCtx } (Job.dgCmp 7 (dLm 4080 32))) 15).lmem (dLm 4080 32).addr (dLm 4080 32).len) ∧
    (Strand.ticket (State.strand (sDg { state := 2, strand := 3, res := List.replicate 32 255 : DgCtx } (Job.dgCmp 7 (dLm 4079 32))) 15 3) 15 = tk (Job.dgCmp 7 (dLm 4079 32)) ∧
      (tk (Job.dgCmp 7 (dLm 4079 32))).job = some (Job.dgCmp 7 (dLm 4079 32)) ∧ (tk (Job.dgCmp 7 (dLm 4079 32))).used = true ∧
      State.answers (sDg { state := 2, strand := 3, res := List.replicate 32 255 : DgCtx } (Job.dgCmp 7 (dLm 4079 32))) dStv = true ∧
      (State.stove (sDg { state := 2, strand := 3, res := List.replicate 32 255 : DgCtx } (Job.dgCmp 7 (dLm 4079 32))) 15).fenced = false ∧
      State.canFinish (sDg { state := 2, strand := 3, res := List.replicate 32 255 : DgCtx } (Job.dgCmp 7 (dLm 4079 32))) 15 3 (tk (Job.dgCmp 7 (dLm 4079 32))) (Job.dgCmp 7 (dLm 4079 32)) = true ∧
      (dLm 4079 32).space = 0 ∧
      (State.ctx (sDg { state := 2, strand := 3, res := List.replicate 32 255 : DgCtx } (Job.dgCmp 7 (dLm 4079 32))) 15 7).state = 2 ∧
      (State.ctx (sDg { state := 2, strand := 3, res := List.replicate 32 255 : DgCtx } (Job.dgCmp 7 (dLm 4079 32))) 15 7).res ≠ [] ∧
      (dLm 4079 32).len ≤ List.length (State.ctx (sDg { state := 2, strand := 3, res := List.replicate 32 255 : DgCtx } (Job.dgCmp 7 (dLm 4079 32))) 15 7).res ∧
      List.take (dLm 4079 32).len (State.ctx (sDg { state := 2, strand := 3, res := List.replicate 32 255 : DgCtx } (Job.dgCmp 7 (dLm 4079 32))) 15 7).res ≠ Tab.readBytes (State.stove (sDg { state := 2, strand := 3, res := List.replicate 32 255 : DgCtx } (Job.dgCmp 7 (dLm 4079 32))) 15).lmem (dLm 4079 32).addr (dLm 4079 32).len) :=
  by and_intros <;> decide +kernel

end StoveEnds

namespace StoveUnits

def tk (j : Job) : Ticket := { epoch := 1, used := true, job := some j, granted := true }
def dLm (a n : Nat) : Desc := { space := 0, addr := a, len := n }
def sAsk (j : Job) (f : Stove → Stove) : State := stvF f { strand3 with tickets := [(15, tk j)] }
def ctx7 : Tab DgCtx := (List.range 7).map (fun i => (i, { state := 1, strand := if i < 2 then 0 else if i < 4 then 1 else if i < 6 then 2 else 3 }))
def s_ContextsLocksAndBlocks_1 : State := sAsk (.dgAlloc 1 5 0) (fun v => { v with ctxs := ctx7 })
def withKey (s : State) : State := { s with keys := { slots := [(4095, { key := List.replicate 64 7, cls := 1 })] } }
def holdN : CiHold := { strand := 1, urgent := false, slot := 9, key := [] }
def s_ContextsLocksAndBlocks_3 : State := withKey (sAsk (.ciLock 4095 true) (fun v => { v with lock := some holdN }))
def page : Bytes := [1, 2, 3]
def page4 : Bytes := List.replicate 4096 7
theorem page4_length : page4.length = 4096 := List.length_replicate
def noise : Bytes := (List.range 4096).map (fun i => BitVec.ofNat 8 (i * i / 7 + i / 3))
def blkOf (b : Bytes) (bp : Bool) : CzBlk := { strand := 3, dst := dLm 0x2000 8192, limit := 1, promised := 1, isOpen := false, lane := some 5, data := b, closer := some 15, bypass := bp }
def sRel (b : Bytes) (bp : Bool) : State := sAsk (.czPut 0 {} true) (fun v => { v with blocks := [(0, blkOf b bp)], nextBlk := 1, laneMiss := [(5, 1)] })
def sOrph : State := sAsk (.czPut 0 {} true) (fun v => { v with blocks := [(0, { blkOf page true with strand := 4 })] })
def blk4 : CzBlk := { blkOf page true with strand := 4 }
def entry0 : List Nat := [3, 3, 3, 3, 3, 3, 3, 3]
def slotV : PSlot := { state := 2, size64 := 1, pgm := 1, units := 0xFFFFFFFF, entries := entry0 }
def wi (kind : Nat) : WorkItem := { bytes := itemBytes 1 kind 0 0 0 0 0 0 0 0 0 0 }
def sQ (q : List WorkItem) : State := { upT.set (F.STV_CTL_EN 15) 1 with stoves := [(15, { pslots := [(0, slotV)], queue := q, post := (List.range 15).map (fun i => (i, leAt (wi 0).bytes (4 * i) 4)) })] }
def sQ1 : State := (sQ [wi 7, wi 2, wi 0]).set F.GLB_MODE_QPHASE 1
def s_WorkItemsRun_4 : State := upT.set (F.STV_POL_SEL_VOL 0) 16383
def tkw : Ticket := { epoch := 1, used := true, job := some (.cpy (dLm 0 1) (dLm 8 1)) }
def sLane : State := stv { strand3 with tickets := [(15, tkw)] }
def tko : Ticket := { epoch := 1, used := true, job := some (.czOpen 0) }
def yo : CzBlk := { strand := 3, dst := dLm 0x2000 8192, limit := 1 }
def sOpenW : State := stvF (fun v => { v with blocks := [(0, yo)], nextBlk := 1 }) { strand3 with tickets := [(15, tko)], block := some 0 }
def sEnd : State := stvF (fun v => { v with ctxs := [(0, { state := 1, strand := 3 }), (1, { state := 1, strand := 2 })], lock := some { holdN with strand := 3 }, susp := some holdN }) { strand3 with tickets := [(1, { epoch := 4 })] }

theorem witness_ContextsLocksAndBlocks_1 :
    ((State.stove s_ContextsLocksAndBlocks_1 15).fenced = false ∧ State.answers s_ContextsLocksAndBlocks_1 dStv = true ∧
      (tk (Job.dgAlloc 1 5 0)).used = true ∧ Stove.jobs (State.stove s_ContextsLocksAndBlocks_1 15) = [(3, 15, tk (Job.dgAlloc 1 5 0))] ∧
      Strand.ticket (State.strand s_ContextsLocksAndBlocks_1 15 3) 15 = tk (Job.dgAlloc 1 5 0) ∧
      (tk (Job.dgAlloc 1 5 0)).job = some (Job.dgAlloc 1 5 0) ∧ Stove.ctxAllowed (State.stove s_ContextsLocksAndBlocks_1 15) 3 = true ∧
      (State.ctx s_ContextsLocksAndBlocks_1 15 7).state = 0 ∧ (∀ (j : Nat), j < 7 → (State.ctx s_ContextsLocksAndBlocks_1 15 j).state ≠ 0)) ∧
    ((State.stove (withKey (sAsk (Job.ciLock 4095 true) id)) 15).fenced = false ∧
      State.answers (withKey (sAsk (Job.ciLock 4095 true) id)) dStv = true ∧ (tk (Job.ciLock 4095 true)).used = true ∧
      Stove.jobs (State.stove (withKey (sAsk (Job.ciLock 4095 true) id)) 15) = [(3, 15, tk (Job.ciLock 4095 true))] ∧
      Strand.ticket (State.strand (withKey (sAsk (Job.ciLock 4095 true) id)) 15 3) 15 = tk (Job.ciLock 4095 true) ∧
      (tk (Job.ciLock 4095 true)).job = some (Job.ciLock 4095 true) ∧ (withKey (sAsk (Job.ciLock 4095 true) id)).keys.erase = none ∧
      (State.stove (withKey (sAsk (Job.ciLock 4095 true) id)) 15).lock = none ∧
      State.mayName (withKey (sAsk (Job.ciLock 4095 true) id)) 4095 (State.pgmOf (withKey (sAsk (Job.ciLock 4095 true) id)) 15 3) = true) ∧
    ((State.stove s_ContextsLocksAndBlocks_3 15).fenced = false ∧ State.answers s_ContextsLocksAndBlocks_3 dStv = true ∧
      (tk (Job.ciLock 4095 true)).used = true ∧ Stove.jobs (State.stove s_ContextsLocksAndBlocks_3 15) = [(3, 15, tk (Job.ciLock 4095 true))] ∧
      Strand.ticket (State.strand s_ContextsLocksAndBlocks_3 15 3) 15 = tk (Job.ciLock 4095 true) ∧
      (tk (Job.ciLock 4095 true)).job = some (Job.ciLock 4095 true) ∧ s_ContextsLocksAndBlocks_3.keys.erase = none ∧
      (State.stove s_ContextsLocksAndBlocks_3 15).lock = some holdN ∧ holdN.urgent = false ∧ true = true ∧
      (State.stove s_ContextsLocksAndBlocks_3 15).susp = none ∧
      State.mayName s_ContextsLocksAndBlocks_3 4095 (State.pgmOf s_ContextsLocksAndBlocks_3 15 3) = true) ∧
    ((State.stove (sAsk (Job.ciLock 4095 true) id) 15).fenced = false ∧ State.answers (sAsk (Job.ciLock 4095 true) id) dStv = true ∧
      (tk (Job.ciLock 4095 true)).used = true ∧ Stove.jobs (State.stove (sAsk (Job.ciLock 4095 true) id) 15) = [(3, 15, tk (Job.ciLock 4095 true))] ∧
      Strand.ticket (State.strand (sAsk (Job.ciLock 4095 true) id) 15 3) 15 = tk (Job.ciLock 4095 true) ∧
      (tk (Job.ciLock 4095 true)).job = some (Job.ciLock 4095 true) ∧ (sAsk (Job.ciLock 4095 true) id).keys.erase = none ∧
      (State.stove (sAsk (Job.ciLock 4095 true) id) 15).lock = none ∧
      State.mayName (sAsk (Job.ciLock 4095 true) id) 4095 (State.pgmOf (sAsk (Job.ciLock 4095 true) id) 15 3) = false) ∧
    (Tab.find (State.stove (sRel page true) 15).blocks 0 = some (blkOf page true) ∧ (blkOf page true).closer = some 15 ∧
      (blkOf page true).lane = some 5 ∧ (State.stove (sRel page true) 15).fenced = false ∧ (blkOf page true).bad = none ∧
      (blkOf page true).strand < 4 ∧ (Strand.ticket (State.strand (sRel page true) 15 (blkOf page true).strand) 15).used = true ∧
      (blkOf page true).dst.space = 0 ∧ (blkOf page true).bypass = true ∧ 32 + List.length (blkOf page true).data ≤ (blkOf page true).dst.len) ∧
    (Tab.find (State.stove sOrph 15).blocks 0 = some blk4 ∧ blk4.strand = 4) :=
  by and_intros <;> decide +kernel

theorem witness_ContextsLocksAndBlocks_2 :
    ((Tab.find (State.stove (sRel page false) 15).blocks 0 = some (blkOf page false) ∧ (blkOf page false).closer = some 15 ∧
      (blkOf page false).lane = some 5 ∧ (State.stove (sRel page false) 15).fenced = false ∧ (blkOf page false).bad = none ∧
      (blkOf page false).strand < 4 ∧ (Strand.ticket (State.strand (sRel page false) 15 (blkOf page false).strand) 15).used = true ∧
      (blkOf page false).dst.space = 0 ∧ (blkOf page false).bypass = false ∧ true = true ∧
      32 + List.length (blkOf page false).data ≤ (blkOf page false).dst.len) ∧
      (czBlock (blkOf page false).data).snd = (czBlock (blkOf page false).data).snd) ∧
    ((Tab.find (State.stove (sRel page false) 15).blocks 0 = some (blkOf page false) ∧ (blkOf page false).closer = some 15 ∧
      (blkOf page false).lane = some 5 ∧ (State.stove (sRel page false) 15).fenced = false ∧ (blkOf page false).bad = none ∧
      (blkOf page false).strand < 4 ∧ (Strand.ticket (State.strand (sRel page false) 15 (blkOf page false).strand) 15).used = true ∧
      (blkOf page false).dst.space = 0 ∧ (blkOf page false).bypass = false ∧ false = false) ∧
      List.length (czBlock (blkOf page false).data).fst ≤ (blkOf page false).dst.len) ∧
    (List.length page4 % 4096 = 0 ∧ 4096 ≤ List.length page4 ∧ List.length page4 ≤ 32768 ∧ List.length page4 ≤ 4096) :=
  ⟨⟨by and_intros <;> decide +kernel, rfl⟩, ⟨by and_intros <;> decide +kernel,
      (czBlock_length _).trans (by decide +kernel)⟩, ⟨by have := page4_length; omega, by have := page4_length; omega, by have := page4_length; omega, by have := page4_length; omega⟩⟩

theorem witness_OneParityRebuilds :
    (List.length [[1, 2, 3], [4, 5, 6], [5, 7, 5]] = 2 + 1 ∧ 1 < 2 + 1 ∧ (∀ (b : Bytes), b ∈ [[1, 2, 3], [4, 5, 6], [5, 7, 5]] → List.length b = 3) ∧
      (∀ (i : Nat), i < 3 → List.getD (List.getD [[1, 2, 3], [4, 5, 6], [5, 7, 5]] 2 []) i 0#8 = List.foldl (fun x b => x ^^^ List.getD b i 0#8) (0#8) (List.take 2 [[1, 2, 3], [4, 5, 6], [5, 7, 5]]))) :=
  by and_intros <;> decide +kernel

theorem witness_WorkItemsRun_1 :
    (State.writable (sQ []) h0 (R.STV_WI_POST + 2097152 * 15 + 60) = true ∧ (wi 0).bytes = postedItem (sQ []) 15 0 ∧ leAt (wi 0).bytes 2 1 ≠ 4 ∧
      State.chooseStove (sQ []) (leAt (wi 0).bytes 0 2) (leAt (wi 0).bytes 2 1) = some 15 ∧ List.length (State.stove (sQ []) 15).queue < 256) ∧
    (State.stoveTakes (sQ [wi 7, wi 0]) 15 = true ∧ State.answers (sQ [wi 7, wi 0]) dStv = true ∧
      (State.strand (sQ [wi 7, wi 0]) 15 3).st = StrandState.idle ∧ State.qphase (sQ [wi 7, wi 0]) = 0 ∧
      (State.stove (sQ [wi 7, wi 0]) 15).queue = [wi 7, wi 0] ∧ (sQ [wi 7, wi 0]).heldItems = []) ∧
    (State.stoveTakes sQ1 15 = true ∧ State.answers sQ1 dStv = true ∧ (State.strand sQ1 15 3).st = StrandState.idle ∧ State.qphase sQ1 = 1 ∧
      (State.stove sQ1 15).queue = [wi 7] ++ [wi 2, wi 0] ∧ (∀ (x : WorkItem), x ∈ [wi 7] → WorkItem.kind x ≠ 0 ∧ WorkItem.kind x ≠ 2) ∧
      (WorkItem.kind (wi 2) = 0 ∨ WorkItem.kind (wi 2) = 2) ∧ sQ1.heldItems = []) ∧
    (State.writable s_WorkItemsRun_4 h0 R.STV_POL = true) ∧
    ((State.stove sOpenW 15).fenced = false ∧ tko.job = some (Job.czOpen 0) ∧ Job.unit (Job.czOpen 0) = some 0 ∧
      Strand.ticket (State.strand sOpenW 15 3) 15 = tko ∧ Stove.freeUnit (State.stove sOpenW 15) 0 = some 0 ∧ (State.stove sOpenW 15).orphans = [] ∧
      State.drvsBegun sOpenW 15 = true ∧
      (Stove.nextJob (State.stove sOpenW 15) fun k t => Option.bind t.job Job.unit == some 0 && !t.granted && Stove.first (State.stove sOpenW 15) k t) = some (3, 15, tko) ∧
      (Stove.nextJob (State.stove sOpenW 15) fun k t => Option.bind t.job Job.unit == some 0 && !t.granted && Stove.first (State.stove sOpenW 15) k t && State.bypassed sOpenW 15 t) = none ∧
      Job.czOpen 0 = Job.czOpen 0 ∧ tko.used = true ∧ Tab.find (State.stove sOpenW 15).blocks 0 = some yo) ∧
    (State.fetches (word 1 (ins 0 1 0 0 0) sStv) 15 3 1 (ins 0 1 0 0 0) = true ∧ (ins 0 1 0 0 0).a = 0 ∧ (ins 0 1 0 0 0).c = 0 ∧
      (ins 0 1 0 0 0).x = 0 ∧ (ins 0 1 0 0 0).imm = 0 ∧ Strand.allDone (State.strand (word 1 (ins 0 1 0 0 0) sStv) 15 3) = false) ∧
    (State.issues (word 1 (ins 0 1 0 0 0) sEnd) 15 3 1 (ins 0 1 0 0 0) ((ins 0 1 0 0 0).a == 0 && (ins 0 1 0 0 0).c == 0 && (ins 0 1 0 0 0).x == 0 && (ins 0 1 0 0 0).imm == 0) (State.strand (word 1 (ins 0 1 0 0 0) sEnd) 15 3).pc = true ∧
      Strand.allDone (State.strand (word 1 (ins 0 1 0 0 0) sEnd) 15 3) = true ∧
      (State.strand (word 1 (ins 0 1 0 0 0) sEnd) 15 3).item = some { bytes := zeroBytes 64 : WorkItem } ∧
      (WorkItem.kind { bytes := zeroBytes 64 : WorkItem } = 0 ∨ WorkItem.kind { bytes := zeroBytes 64 : WorkItem } = 2 ∨ WorkItem.kind { bytes := zeroBytes 64 : WorkItem } = 7 ∧
      WorkItem.arg { bytes := zeroBytes 64 : WorkItem } / 2 ^ 48 ≠ 2305)) :=
  by and_intros <;> decide +kernel

theorem witness_WorkItemsRun_2 :
    (((State.stove sLane 15).fenced = false ∧ tkw.job = some (Job.cpy (dLm 0 1) (dLm 8 1)) ∧ Job.unit (Job.cpy (dLm 0 1) (dLm 8 1)) = some 4 ∧
      Strand.ticket (State.strand sLane 15 3) 15 = tkw ∧ Stove.freeUnit (State.stove sLane 15) 4 = some 0 ∧ (State.stove sLane 15).orphans = [] ∧
      State.drvsBegun sLane 15 = true ∧
      (Stove.nextJob (State.stove sLane 15) fun k t => Option.bind t.job Job.unit == some 4 && !t.granted && Stove.first (State.stove sLane 15) k t) = some (3, 15, tkw) ∧
      (Stove.nextJob (State.stove sLane 15) fun k t => Option.bind t.job Job.unit == some 4 && !t.granted && Stove.first (State.stove sLane 15) k t && State.bypassed sLane 15 t) = none) ∧
      (∀ (b : Nat), Job.cpy (dLm 0 1) (dLm 8 1) ≠ Job.czOpen b) ∧ (∀ (ea : Nat), Job.cpy (dLm 0 1) (dLm 8 1) ≠ Job.drv ea)) :=
  ⟨by and_intros <;> decide +kernel, by simp, by simp⟩

end StoveUnits

namespace Index

def fp1 : Bytes := (List.range 32).map (fun i => BitVec.ofNat 8 (3 * i + 1))
/-- A request block of 128 bytes: fingerprint, domain 0, location 0x1234, volume 3, LBA 5, a map entry of sequence 9. -/
def rq : Bytes := fp1 ++ zeroBytes 8 ++ leBytes 8 0x1234 ++ zeroBytes 2 ++ leBytes 2 3 ++ zeroBytes 4 ++ leBytes 8 5 ++ zeroBytes 8 ++
  ({ loc := 0x1234, seq := 9, fp := 7, flags := 1 } : MapEntry).bytes ++ zeroBytes 24
def ent (c g : Nat) : IdxEntry := { fp := fp1, domain := 0, loc := 0x1234, refcnt := c, gen := g }
def sIdx0 : State := stvF (fun v => { v with lmem := Tab.writeBytes [] 0xFFF80 rq }) { strand3 with g := [(1, 0xFFFBF)] }
def sIdx1 : State := { ((sIdx0.set F.DDX_CTL_EN 1).set F.DDX_BUDGET_UNITS 1).set F.ICH_CTL_EN 1 with
  and := { halves := 3 }, bel := { sIdx0.bel with vols := [(3, { present := true, size := 6 })] } }
def keyB : Nat := bucketKey 16 (fpKey fp1 0)
def halfIx (c g : Nat) : Half := { filter := [(bucket1 (5 * 2 ^ 30) (fpKey fp1 0), [fpTag fp1])], buckets := [(keyB, { entries := [ent c g] })], entries := 1, unique := 1 }
def sIdx (c g : Nat) : State := { sIdx1 with ddx := { halves := [(0, halfIx c g), (1, halfIx c g)] } }
def sSmall : State := { sIdx1 with bel := { sIdx1.bel with vols := [(3, { present := true, size := 5 })] } }
def s_IndexChanges_4 : State := word 0xB0 (ins 31 1 0 1 0) (sIdx1.set F.DDX_CTL_EN 0)
def sLater : State := { sIdx1 with ddx := { maps := [(mapKey 3 5, { loc := 1, seq := 10, fp := 0, flags := 0 })] } }
def sPass : State := { (sIdx 1 0) with and := { halves := 2 } }.set F.DDX_RECLAIM_BUSY 1 |>.set F.DDX_GEN_GEN 2
def sDead : State := { (sIdx 0 0) with and := { halves := 2 } }.set F.DDX_RECLAIM_BUSY 1 |>.set F.DDX_GEN_GEN 2
def s_IndexChanges_10 : State := sIdx1.set F.DDX_STS_REBUILD 2
/-- A drive request block: op, drive, zone 5, offset, length, a buffer descriptor. -/
def dq (op drive off len : Nat) : Bytes := leBytes 2 op ++ leBytes 2 drive ++ leBytes 4 5 ++ leBytes 8 off ++ leBytes 4 len ++ zeroBytes 12 ++ leBytes 8 0x2000 ++ leBytes 4 0x8000 ++ zeroBytes 4 ++ zeroBytes 16
def drv127 : Drive := { cfg := 2 ^ 63 + 31 * 2 ^ 51 + 2 * 2 ^ 56, state := 1, resv := true, zones := 100 }
def sDrv (b : Bytes) : State := { (stvF (fun v => { v with lmem := Tab.writeBytes [] 0xFFFC0 b }) { strand3 with g := [(1, 0xFFFFF)] }).set F.DRV_CTL_EN 1 with drv := { drives := [(127, drv127)] } }
def sDrvZ (b : Bytes) : State := { sDrv b with drv := { drives := [(127, { drv127 with zones := 5 })] } }
def tkDma (l : Nat) : Ticket := { epoch := 1, used := true, job := some (.fill { space := 0, addr := 0, len := 1 } 0), granted := true, lane := l }
def allDma (s : State) : State := { s with stoves := s.stoves.map (fun e => (e.1, { e.2 with strands :=
  [(0, { tickets := (List.range 16).map (fun i => (i, tkDma i)) }), (1, { tickets := (List.range 16).map (fun i => (i, tkDma (16 + i))) })] ++ e.2.strands })) }

theorem witness_IndexAnswers :
    (List.length (ent 1 4).fp = 32 ∧ (ent 1 4).domain < 4096 ∧ (ent 1 4).loc < 2 ^ 64 ∧ (ent 1 4).refcnt < 2 ^ 32 ∧ (ent 1 4).gen < 2 ^ 32) ∧
    ({ loc := 4660, seq := 9, fp := 7, flags := 1 : MapEntry }.loc < 2 ^ 64 ∧ { loc := 4660, seq := 9, fp := 7, flags := 1 : MapEntry }.seq < 2 ^ 64 ∧
      { loc := 4660, seq := 9, fp := 7, flags := 1 : MapEntry }.fp < 2 ^ 96 ∧
      { loc := 4660, seq := 9, fp := 7, flags := 1 : MapEntry }.flags < 2 ^ 16) ∧
    (List.length [ent 1 4, ent 0 4] ≤ 63 ∧ (∀ (e : IdxEntry), e ∈ [ent 1 4, ent 0 4] → List.length e.fp = 32 ∧ 0 < e.loc ∧ e.loc < 2 ^ 64 ∧
      e.refcnt < 2 ^ 32)) ∧
    (State.tickets (word 176 (ins 31 1 0 0 0) sIdx1) 15 3 176 (ins 31 1 0 0 0) ((ins 31 1 0 0 0).c == 0 && decide (BitVec.toNat (ins 31 1 0 0 0).x < 6) && (ins 31 1 0 0 0).imm == 0) none 0 = true ∧
      BitVec.toNat (ins 31 1 0 0 0).x = 0 ∧
      1048448 = BitVec.toNat (Strand.reg (State.strand (word 176 (ins 31 1 0 0 0) sIdx1) 15 3) (ins 31 1 0 0 0).b) / 64 * 64 ∧
      1048448 + 128 ≤ 1048576 ∧ rq = Tab.readBytes (State.stove (word 176 (ins 31 1 0 0 0) sIdx1) 15).lmem 1048448 128 ∧
      (0 < 4 → reqDomain rq ≤ 4095 ∧ State.holdsHalf (word 176 (ins 31 1 0 0 0) sIdx1) (fpHalf (reqFp rq) (reqDomain rq)) = true ∧
      State.donePending (word 176 (ins 31 1 0 0 0) sIdx1) = false) ∧ State.ddxOn (word 176 (ins 31 1 0 0 0) sIdx1) = true ∧
      (State.half (word 176 (ins 31 1 0 0 0) sIdx1) (fpHalf (reqFp rq) (reqDomain rq))).stale = false ∧
      filterHas (State.ddxNb (word 176 (ins 31 1 0 0 0) sIdx1)) (fpKey (reqFp rq) (reqDomain rq)) (fpTag (reqFp rq)) (State.half (word 176 (ins 31 1 0 0 0) sIdx1) (fpHalf (reqFp rq) (reqDomain rq))).filter = false) ∧
    (State.tickets (word 176 (ins 31 1 0 0 0) (sIdx 0 4)) 15 3 176 (ins 31 1 0 0 0) ((ins 31 1 0 0 0).c == 0 && decide (BitVec.toNat (ins 31 1 0 0 0).x < 6) && (ins 31 1 0 0 0).imm == 0) none 0 = true ∧
      BitVec.toNat (ins 31 1 0 0 0).x = 0 ∧
      1048448 = BitVec.toNat (Strand.reg (State.strand (word 176 (ins 31 1 0 0 0) (sIdx 0 4)) 15 3) (ins 31 1 0 0 0).b) / 64 * 64 ∧
      1048448 + 128 ≤ 1048576 ∧ rq = Tab.readBytes (State.stove (word 176 (ins 31 1 0 0 0) (sIdx 0 4)) 15).lmem 1048448 128 ∧
      (0 < 4 → reqDomain rq ≤ 4095 ∧ State.holdsHalf (word 176 (ins 31 1 0 0 0) (sIdx 0 4)) (fpHalf (reqFp rq) (reqDomain rq)) = true ∧
      State.donePending (word 176 (ins 31 1 0 0 0) (sIdx 0 4)) = false) ∧ State.ddxOn (word 176 (ins 31 1 0 0 0) (sIdx 0 4)) = true ∧
      filterHas (State.ddxNb (word 176 (ins 31 1 0 0 0) (sIdx 0 4))) (fpKey (reqFp rq) (reqDomain rq)) (fpTag (reqFp rq)) (State.half (word 176 (ins 31 1 0 0 0) (sIdx 0 4)) (fpHalf (reqFp rq) (reqDomain rq))).filter = true ∧
      (bucketFor (word 176 (ins 31 1 0 0 0) (sIdx 0 4)) rq).bad = false ∧
      List.find? (fun y => IdxEntry.same y (reqFp rq) (reqDomain rq)) (bucketFor (word 176 (ins 31 1 0 0 0) (sIdx 0 4)) rq).entries = some (ent 0 4)) ∧
    (State.tickets (word 176 (ins 31 1 0 0 0) (sIdx 0 4)) 15 3 176 (ins 31 1 0 0 0) ((ins 31 1 0 0 0).c == 0 && decide (BitVec.toNat (ins 31 1 0 0 0).x < 6) && (ins 31 1 0 0 0).imm == 0) none 0 = true ∧
      BitVec.toNat (ins 31 1 0 0 0).x = 0 ∧
      1048448 = BitVec.toNat (Strand.reg (State.strand (word 176 (ins 31 1 0 0 0) (sIdx 0 4)) 15 3) (ins 31 1 0 0 0).b) / 64 * 64 ∧
      1048448 + 128 ≤ 1048576 ∧ rq = Tab.readBytes (State.stove (word 176 (ins 31 1 0 0 0) (sIdx 0 4)) 15).lmem 1048448 128 ∧
      (0 < 4 → reqDomain rq ≤ 4095 ∧ State.holdsHalf (word 176 (ins 31 1 0 0 0) (sIdx 0 4)) (fpHalf (reqFp rq) (reqDomain rq)) = true ∧
      State.donePending (word 176 (ins 31 1 0 0 0) (sIdx 0 4)) = false) ∧ State.ddxOn (word 176 (ins 31 1 0 0 0) (sIdx 0 4)) = true ∧
      filterHas (State.ddxNb (word 176 (ins 31 1 0 0 0) (sIdx 0 4))) (fpKey (reqFp rq) (reqDomain rq)) (fpTag (reqFp rq)) (State.half (word 176 (ins 31 1 0 0 0) (sIdx 0 4)) (fpHalf (reqFp rq) (reqDomain rq))).filter = true ∧
      (bucketFor (word 176 (ins 31 1 0 0 0) (sIdx 0 4)) rq).bad = false ∧ bucketValid (fpHalf (reqFp rq) (reqDomain rq)) [] = false) ∧
    (State.tickets (word 176 (ins 31 1 0 5 0) sIdx1) 15 3 176 (ins 31 1 0 5 0) ((ins 31 1 0 5 0).c == 0 && decide (BitVec.toNat (ins 31 1 0 5 0).x < 6) && (ins 31 1 0 5 0).imm == 0) none 0 = true ∧
      BitVec.toNat (ins 31 1 0 5 0).x = 5 ∧
      1048448 = BitVec.toNat (Strand.reg (State.strand (word 176 (ins 31 1 0 5 0) sIdx1) 15 3) (ins 31 1 0 5 0).b) / 64 * 64 ∧
      1048448 + 128 ≤ 1048576 ∧ rq = Tab.readBytes (State.stove (word 176 (ins 31 1 0 5 0) sIdx1) 15).lmem 1048448 128 ∧
      (5 < 4 → reqDomain rq ≤ 4095 ∧ State.holdsHalf (word 176 (ins 31 1 0 5 0) sIdx1) (fpHalf (reqFp rq) (reqDomain rq)) = true ∧
      State.donePending (word 176 (ins 31 1 0 5 0) sIdx1) = false) ∧ (State.vol (word 176 (ins 31 1 0 5 0) sIdx1) (reqVol rq)).present = true ∧
      reqLba rq < (State.vol (word 176 (ins 31 1 0 5 0) sIdx1) (reqVol rq)).size) ∧
    (State.tickets (word 176 (ins 31 1 0 5 0) sSmall) 15 3 176 (ins 31 1 0 5 0) ((ins 31 1 0 5 0).c == 0 && decide (BitVec.toNat (ins 31 1 0 5 0).x < 6) && (ins 31 1 0 5 0).imm == 0) none 0 = true ∧
      BitVec.toNat (ins 31 1 0 5 0).x = 5 ∧
      1048448 = BitVec.toNat (Strand.reg (State.strand (word 176 (ins 31 1 0 5 0) sSmall) 15 3) (ins 31 1 0 5 0).b) / 64 * 64 ∧
      1048448 + 128 ≤ 1048576 ∧ rq = Tab.readBytes (State.stove (word 176 (ins 31 1 0 5 0) sSmall) 15).lmem 1048448 128 ∧
      (5 < 4 → reqDomain rq ≤ 4095 ∧ State.holdsHalf (word 176 (ins 31 1 0 5 0) sSmall) (fpHalf (reqFp rq) (reqDomain rq)) = true ∧
      State.donePending (word 176 (ins 31 1 0 5 0) sSmall) = false) ∧ (State.vol (word 176 (ins 31 1 0 5 0) sSmall) (reqVol rq)).size ≤ reqLba rq) ∧
    (State.tickets (word 176 (ins 31 1 0 0 0) sIdx0) 15 3 176 (ins 31 1 0 0 0) ((ins 31 1 0 0 0).c == 0 && decide (BitVec.toNat (ins 31 1 0 0 0).x < 6) && (ins 31 1 0 0 0).imm == 0) none 0 = true ∧
      (ins 31 1 0 0 0).x = 0 ∧
      1048448 = BitVec.toNat (Strand.reg (State.strand (word 176 (ins 31 1 0 0 0) sIdx0) 15 3) (ins 31 1 0 0 0).b) / 64 * 64 ∧
      1048448 + 128 ≤ 1048576 ∧ rq = Tab.readBytes (State.stove (word 176 (ins 31 1 0 0 0) sIdx0) 15).lmem 1048448 128 ∧
      State.holdsHalf (word 176 (ins 31 1 0 0 0) sIdx0) (fpHalf (reqFp rq) (reqDomain rq)) = false) :=
  by and_intros <;> decide +kernel

theorem witness_IndexChanges :
    (State.ddxOn (word 176 (ins 31 1 0 1 0) (sIdx 0 4)) = true ∧ (bucketFor (word 176 (ins 31 1 0 1 0) (sIdx 0 4)) rq).bad = false ∧
      (ent 0 4).refcnt + 1 < 4294967295 ∧
      State.tickets (word 176 (ins 31 1 0 1 0) (sIdx 0 4)) 15 3 176 (ins 31 1 0 1 0) ((ins 31 1 0 1 0).c == 0 && decide (BitVec.toNat (ins 31 1 0 1 0).x < 6) && (ins 31 1 0 1 0).imm == 0) none 0 = true ∧
      BitVec.toNat (ins 31 1 0 1 0).x = 1 ∧
      1048448 = BitVec.toNat (Strand.reg (State.strand (word 176 (ins 31 1 0 1 0) (sIdx 0 4)) 15 3) (ins 31 1 0 1 0).b) / 64 * 64 ∧
      1048448 + 128 ≤ 1048576 ∧ rq = Tab.readBytes (State.stove (word 176 (ins 31 1 0 1 0) (sIdx 0 4)) 15).lmem 1048448 128 ∧
      (1 < 4 → reqDomain rq ≤ 4095 ∧ State.holdsHalf (word 176 (ins 31 1 0 1 0) (sIdx 0 4)) (fpHalf (reqFp rq) (reqDomain rq)) = true ∧
      State.donePending (word 176 (ins 31 1 0 1 0) (sIdx 0 4)) = false) ∧
      State.storeLen (word 176 (ins 31 1 0 1 0) (sIdx 0 4)) < State.storeMax (word 176 (ins 31 1 0 1 0) (sIdx 0 4)) ∧ bit (leAt rq 49 1) 0 = false ∧
      List.find? (fun y => IdxEntry.same y (reqFp rq) (reqDomain rq)) (bucketFor (word 176 (ins 31 1 0 1 0) (sIdx 0 4)) rq).entries = some (ent 0 4)) ∧
    (State.ddxOn (word 176 (ins 31 1 0 2 0) (sIdx 1 4)) = true ∧ (bucketFor (word 176 (ins 31 1 0 2 0) (sIdx 1 4)) rq).bad = false ∧
      (ent 1 4).refcnt + 1 < 4294967295 ∧
      State.tickets (word 176 (ins 31 1 0 2 0) (sIdx 1 4)) 15 3 176 (ins 31 1 0 2 0) ((ins 31 1 0 2 0).c == 0 && decide (BitVec.toNat (ins 31 1 0 2 0).x < 6) && (ins 31 1 0 2 0).imm == 0) none 0 = true ∧
      BitVec.toNat (ins 31 1 0 2 0).x = 2 ∧
      1048448 = BitVec.toNat (Strand.reg (State.strand (word 176 (ins 31 1 0 2 0) (sIdx 1 4)) 15 3) (ins 31 1 0 2 0).b) / 64 * 64 ∧
      1048448 + 128 ≤ 1048576 ∧ rq = Tab.readBytes (State.stove (word 176 (ins 31 1 0 2 0) (sIdx 1 4)) 15).lmem 1048448 128 ∧
      (2 < 4 → reqDomain rq ≤ 4095 ∧ State.holdsHalf (word 176 (ins 31 1 0 2 0) (sIdx 1 4)) (fpHalf (reqFp rq) (reqDomain rq)) = true ∧
      State.donePending (word 176 (ins 31 1 0 2 0) (sIdx 1 4)) = false) ∧
      State.storeLen (word 176 (ins 31 1 0 2 0) (sIdx 1 4)) < State.storeMax (word 176 (ins 31 1 0 2 0) (sIdx 1 4)) ∧
      List.find? (fun y => IdxEntry.named y (reqFp rq) (reqDomain rq) (reqLoc rq)) (bucketFor (word 176 (ins 31 1 0 2 0) (sIdx 1 4)) rq).entries = some (ent 1 4)) ∧
    (State.ddxOn (word 176 (ins 31 1 0 3 0) (sIdx 1 4)) = true ∧ (bucketFor (word 176 (ins 31 1 0 3 0) (sIdx 1 4)) rq).bad = false ∧
      (ent 1 4).refcnt + 1 < 4294967295 ∧
      State.tickets (word 176 (ins 31 1 0 3 0) (sIdx 1 4)) 15 3 176 (ins 31 1 0 3 0) ((ins 31 1 0 3 0).c == 0 && decide (BitVec.toNat (ins 31 1 0 3 0).x < 6) && (ins 31 1 0 3 0).imm == 0) none 0 = true ∧
      BitVec.toNat (ins 31 1 0 3 0).x = 3 ∧
      1048448 = BitVec.toNat (Strand.reg (State.strand (word 176 (ins 31 1 0 3 0) (sIdx 1 4)) 15 3) (ins 31 1 0 3 0).b) / 64 * 64 ∧
      1048448 + 128 ≤ 1048576 ∧ rq = Tab.readBytes (State.stove (word 176 (ins 31 1 0 3 0) (sIdx 1 4)) 15).lmem 1048448 128 ∧
      (3 < 4 → reqDomain rq ≤ 4095 ∧ State.holdsHalf (word 176 (ins 31 1 0 3 0) (sIdx 1 4)) (fpHalf (reqFp rq) (reqDomain rq)) = true ∧
      State.donePending (word 176 (ins 31 1 0 3 0) (sIdx 1 4)) = false) ∧
      State.storeLen (word 176 (ins 31 1 0 3 0) (sIdx 1 4)) < State.storeMax (word 176 (ins 31 1 0 3 0) (sIdx 1 4)) ∧ 0 < (ent 1 4).refcnt ∧
      List.find? (fun y => IdxEntry.named y (reqFp rq) (reqDomain rq) (reqLoc rq)) (bucketFor (word 176 (ins 31 1 0 3 0) (sIdx 1 4)) rq).entries = some (ent 1 4)) ∧
    (State.tickets s_IndexChanges_4 15 3 176 (ins 31 1 0 1 0) ((ins 31 1 0 1 0).c == 0 && decide (BitVec.toNat (ins 31 1 0 1 0).x < 6) && (ins 31 1 0 1 0).imm == 0) none 0 = true ∧
      BitVec.toNat (ins 31 1 0 1 0).x = 1 ∧ 1048448 = BitVec.toNat (Strand.reg (State.strand s_IndexChanges_4 15 3) (ins 31 1 0 1 0).b) / 64 * 64 ∧
      1048448 + 128 ≤ 1048576 ∧ rq = Tab.readBytes (State.stove s_IndexChanges_4 15).lmem 1048448 128 ∧ (1 < 4 → reqDomain rq ≤ 4095 ∧
      State.holdsHalf s_IndexChanges_4 (fpHalf (reqFp rq) (reqDomain rq)) = true ∧ State.donePending s_IndexChanges_4 = false) ∧
      State.ddxOn s_IndexChanges_4 = false) ∧
    (State.tickets (word 176 (ins 31 1 0 4 0) sIdx1) 15 3 176 (ins 31 1 0 4 0) ((ins 31 1 0 4 0).c == 0 && decide (BitVec.toNat (ins 31 1 0 4 0).x < 6) && (ins 31 1 0 4 0).imm == 0) none 0 = true ∧
      BitVec.toNat (ins 31 1 0 4 0).x = 4 ∧
      1048448 = BitVec.toNat (Strand.reg (State.strand (word 176 (ins 31 1 0 4 0) sIdx1) 15 3) (ins 31 1 0 4 0).b) / 64 * 64 ∧
      1048448 + 128 ≤ 1048576 ∧ rq = Tab.readBytes (State.stove (word 176 (ins 31 1 0 4 0) sIdx1) 15).lmem 1048448 128 ∧
      (4 < 4 → reqDomain rq ≤ 4095 ∧ State.holdsHalf (word 176 (ins 31 1 0 4 0) sIdx1) (fpHalf (reqFp rq) (reqDomain rq)) = true ∧
      State.donePending (word 176 (ins 31 1 0 4 0) sIdx1) = false) ∧ (State.vol (word 176 (ins 31 1 0 4 0) sIdx1) (reqVol rq)).present = true ∧
      reqLba rq < (State.vol (word 176 (ins 31 1 0 4 0) sIdx1) (reqVol rq)).size ∧
      State.storeLen (word 176 (ins 31 1 0 4 0) sIdx1) < State.storeMax (word 176 (ins 31 1 0 4 0) sIdx1) ∧
      (State.mapAt (word 176 (ins 31 1 0 4 0) sIdx1) (reqVol rq) (reqLba rq)).seq ≤ (MapEntry.ofBytes (slice rq 72 32)).seq) ∧
    (State.tickets (word 176 (ins 31 1 0 4 0) sLater) 15 3 176 (ins 31 1 0 4 0) ((ins 31 1 0 4 0).c == 0 && decide (BitVec.toNat (ins 31 1 0 4 0).x < 6) && (ins 31 1 0 4 0).imm == 0) none 0 = true ∧
      BitVec.toNat (ins 31 1 0 4 0).x = 4 ∧
      1048448 = BitVec.toNat (Strand.reg (State.strand (word 176 (ins 31 1 0 4 0) sLater) 15 3) (ins 31 1 0 4 0).b) / 64 * 64 ∧
      1048448 + 128 ≤ 1048576 ∧ rq = Tab.readBytes (State.stove (word 176 (ins 31 1 0 4 0) sLater) 15).lmem 1048448 128 ∧
      (4 < 4 → reqDomain rq ≤ 4095 ∧ State.holdsHalf (word 176 (ins 31 1 0 4 0) sLater) (fpHalf (reqFp rq) (reqDomain rq)) = true ∧
      State.donePending (word 176 (ins 31 1 0 4 0) sLater) = false) ∧ (State.vol (word 176 (ins 31 1 0 4 0) sLater) (reqVol rq)).present = true ∧
      reqLba rq < (State.vol (word 176 (ins 31 1 0 4 0) sLater) (reqVol rq)).size ∧
      State.storeLen (word 176 (ins 31 1 0 4 0) sLater) < State.storeMax (word 176 (ins 31 1 0 4 0) sLater) ∧
      (MapEntry.ofBytes (slice rq 72 32)).seq < (State.mapAt (word 176 (ins 31 1 0 4 0) sLater) (reqVol rq) (reqLba rq)).seq ∧
      State.get (word 176 (ins 31 1 0 4 0) sLater) F.TICK_SNAP_VMAP_ADDR = 0) ∧
    (State.writable sIdx1 h0 R.DDX_RECLAIM = true ∧ State.getb sIdx1 F.DDX_RECLAIM_BUSY = false) ∧
    (State.getb sPass F.DDX_RECLAIM_BUSY = true ∧ sPass.ddx.reclaimItems = 0 ∧
      (∀ (h : Nat), h < 2 → State.holdsHalf sPass h = true → State.deadEntries sPass h = [])) ∧
    (State.getb sDead F.DDX_RECLAIM_BUSY = true ∧ sDead.ddx.reclaimItems = 0 ∧ sDead.and.halves = 2 ^ 1 ∧
      (State.half sDead 1).buckets = [(keyB, { entries := [ent 0 0] : Bucket })] ∧ { entries := [ent 0 0] : Bucket }.bad = false ∧
      { entries := [ent 0 0] : Bucket }.entries = [ent 0 0] ∧ (ent 0 0).refcnt = 0 ∧
      2 ≤ (State.get sDead F.DDX_GEN_GEN + 2 ^ 32 - (ent 0 0).gen) % 2 ^ 32 ∧
      (Half.bucketOf (State.half sDead 1) (fpKey (ent 0 0).fp (ent 0 0).domain)).snd = keyB ∧ State.storeLen sDead < State.storeMax sDead) ∧
    (State.bitOf s_IndexChanges_10 F.DDX_STS_REBUILD 1 = true ∧ State.holdsHalf s_IndexChanges_10 1 = true) :=
  by and_intros <;> decide +kernel

theorem witness_DriveCommands_1 :
    (Desc.ofBytes (slice (dq 0 127 8192 8192) 32 16) = some { addr := 8192, len := 32768 : Desc } ∧
      State.descFault (word 192 (ins 31 1 0 0 0) (sDrv (dq 0 127 8192 8192))) 15 { addr := 8192, len := 32768 : Desc } = none ∧
      leAt (dq 0 127 8192 8192) 8 8 % 4096 = 0 ∧ leAt (dq 0 127 8192 8192) 16 4 % 4096 = 0 ∧ 0 < leAt (dq 0 127 8192 8192) 16 4 ∧
      leAt (dq 0 127 8192 8192) 16 4 ≤ { addr := 8192, len := 32768 : Desc }.len ∧
      leAt (dq 0 127 8192 8192) 8 8 + leAt (dq 0 127 8192 8192) 16 4 ≤ Drive.zoneLbas (State.drive (word 192 (ins 31 1 0 0 0) (sDrv (dq 0 127 8192 8192))) (leAt (dq 0 127 8192 8192) 2 2)) * 4096 ∧
      State.tickets (word 192 (ins 31 1 0 0 0) (sDrv (dq 0 127 8192 8192))) 15 3 192 (ins 31 1 0 0 0) ((ins 31 1 0 0 0).c == 0 && (ins 31 1 0 0 0).x == 0 && (ins 31 1 0 0 0).imm == 0) (some 5) 0 = true ∧
      1048512 = BitVec.toNat (Strand.reg (State.strand (word 192 (ins 31 1 0 0 0) (sDrv (dq 0 127 8192 8192))) 15 3) (ins 31 1 0 0 0).b) / 64 * 64 ∧
      1048512 + 64 ≤ 1048576 ∧
      dq 0 127 8192 8192 = Tab.readBytes (State.stove (word 192 (ins 31 1 0 0 0) (sDrv (dq 0 127 8192 8192))) 15).lmem 1048512 64 ∧
      leAt (dq 0 127 8192 8192) 0 1 = 0 ∧ State.drvsBegun (word 192 (ins 31 1 0 0 0) (sDrv (dq 0 127 8192 8192))) 15 = true ∧
      (List.all (Stove.jobs (State.stove (word 192 (ins 31 1 0 0 0) (sDrv (dq 0 127 8192 8192))) 15)) fun w => w.snd.snd.granted || Option.bind w.snd.snd.job Job.unit != some 4) = true ∧
      (List.all (word 192 (ins 31 1 0 0 0) (sDrv (dq 0 127 8192 8192))).drv.cmds fun c => !State.maySend (word 192 (ins 31 1 0 0 0) (sDrv (dq 0 127 8192 8192))) c) = true ∧
      (∀ (x : DrvCmd), x ∈ (word 192 (ins 31 1 0 0 0) (sDrv (dq 0 127 8192 8192))).drv.cmds → x.id ≠ (word 192 (ins 31 1 0 0 0) (sDrv (dq 0 127 8192 8192))).drv.nextId ∧
      ¬(x.stove = 15 ∧ x.strand = 3 ∧ x.entry = 0)) ∧
      Option.isSome (Stove.freeUnit (State.stove (word 192 (ins 31 1 0 0 0) (sDrv (dq 0 127 8192 8192))) 15) 4) = true ∧
      leAt (dq 0 127 8192 8192) 2 2 < 128 ∧ State.getb (word 192 (ins 31 1 0 0 0) (sDrv (dq 0 127 8192 8192))) F.DRV_CTL_EN = true ∧
      Drive.online (State.drive (word 192 (ins 31 1 0 0 0) (sDrv (dq 0 127 8192 8192))) (leAt (dq 0 127 8192 8192) 2 2)) = true ∧
      leAt (dq 0 127 8192 8192) 4 4 < (State.drive (word 192 (ins 31 1 0 0 0) (sDrv (dq 0 127 8192 8192))) (leAt (dq 0 127 8192 8192) 2 2)).zones ∧
      leAt (dq 0 127 8192 8192) 16 4 ≤ 2097152 ∧
      (∀ (w : Nat), Tab.find (word 192 (ins 31 1 0 0 0) (sDrv (dq 0 127 8192 8192))).drv.wps (leAt (dq 0 127 8192 8192) 2 2 * 2 ^ 32 + leAt (dq 0 127 8192 8192) 4 4) = some w → leAt (dq 0 127 8192 8192) 8 8 + leAt (dq 0 127 8192 8192) 16 4 ≤ w)) ∧
    (Desc.ofBytes (slice (dq 1 127 8192 8192) 32 16) = some { addr := 8192, len := 32768 : Desc } ∧
      State.descFault (word 192 (ins 31 1 0 0 0) (sDrv (dq 1 127 8192 8192))) 15 { addr := 8192, len := 32768 : Desc } = none ∧
      leAt (dq 1 127 8192 8192) 8 8 % 4096 = 0 ∧ leAt (dq 1 127 8192 8192) 16 4 % 4096 = 0 ∧ 0 < leAt (dq 1 127 8192 8192) 16 4 ∧
      leAt (dq 1 127 8192 8192) 16 4 ≤ { addr := 8192, len := 32768 : Desc }.len ∧
      leAt (dq 1 127 8192 8192) 8 8 + leAt (dq 1 127 8192 8192) 16 4 ≤ Drive.zoneLbas (State.drive (word 192 (ins 31 1 0 0 0) (sDrv (dq 1 127 8192 8192))) (leAt (dq 1 127 8192 8192) 2 2)) * 4096 ∧
      State.tickets (word 192 (ins 31 1 0 0 0) (sDrv (dq 1 127 8192 8192))) 15 3 192 (ins 31 1 0 0 0) ((ins 31 1 0 0 0).c == 0 && (ins 31 1 0 0 0).x == 0 && (ins 31 1 0 0 0).imm == 0) (some 5) 0 = true ∧
      1048512 = BitVec.toNat (Strand.reg (State.strand (word 192 (ins 31 1 0 0 0) (sDrv (dq 1 127 8192 8192))) 15 3) (ins 31 1 0 0 0).b) / 64 * 64 ∧
      1048512 + 64 ≤ 1048576 ∧
      dq 1 127 8192 8192 = Tab.readBytes (State.stove (word 192 (ins 31 1 0 0 0) (sDrv (dq 1 127 8192 8192))) 15).lmem 1048512 64 ∧
      leAt (dq 1 127 8192 8192) 0 1 = 1 ∧ State.drvsBegun (word 192 (ins 31 1 0 0 0) (sDrv (dq 1 127 8192 8192))) 15 = true ∧
      (List.all (Stove.jobs (State.stove (word 192 (ins 31 1 0 0 0) (sDrv (dq 1 127 8192 8192))) 15)) fun w => w.snd.snd.granted || Option.bind w.snd.snd.job Job.unit != some 4) = true ∧
      (List.all (word 192 (ins 31 1 0 0 0) (sDrv (dq 1 127 8192 8192))).drv.cmds fun c => !State.maySend (word 192 (ins 31 1 0 0 0) (sDrv (dq 1 127 8192 8192))) c) = true ∧
      (∀ (x : DrvCmd), x ∈ (word 192 (ins 31 1 0 0 0) (sDrv (dq 1 127 8192 8192))).drv.cmds → x.id ≠ (word 192 (ins 31 1 0 0 0) (sDrv (dq 1 127 8192 8192))).drv.nextId ∧
      ¬(x.stove = 15 ∧ x.strand = 3 ∧ x.entry = 0)) ∧
      Option.isSome (Stove.freeUnit (State.stove (word 192 (ins 31 1 0 0 0) (sDrv (dq 1 127 8192 8192))) 15) 4) = true ∧
      leAt (dq 1 127 8192 8192) 2 2 < 128 ∧ State.getb (word 192 (ins 31 1 0 0 0) (sDrv (dq 1 127 8192 8192))) F.DRV_CTL_EN = true ∧
      Drive.online (State.drive (word 192 (ins 31 1 0 0 0) (sDrv (dq 1 127 8192 8192))) (leAt (dq 1 127 8192 8192) 2 2)) = true ∧
      leAt (dq 1 127 8192 8192) 4 4 < (State.drive (word 192 (ins 31 1 0 0 0) (sDrv (dq 1 127 8192 8192))) (leAt (dq 1 127 8192 8192) 2 2)).zones ∧
      leAt (dq 1 127 8192 8192) 16 4 ≤ 131072 ∧ { addr := 8192, len := 32768 : Desc }.space = 0 ∧
      (∀ (x : DrvCmd), x ∈ (word 192 (ins 31 1 0 0 0) (sDrv (dq 1 127 8192 8192))).drv.cmds → x.op = 1 → x.drive = leAt (dq 1 127 8192 8192) 2 2 → x.zone ≠ leAt (dq 1 127 8192 8192) 4 4)) ∧
    (State.tickets (word 192 (ins 31 1 0 0 0) (sDrv (dq 2 127 0 0))) 15 3 192 (ins 31 1 0 0 0) ((ins 31 1 0 0 0).c == 0 && (ins 31 1 0 0 0).x == 0 && (ins 31 1 0 0 0).imm == 0) (some 5) 0 = true ∧
      1048512 = BitVec.toNat (Strand.reg (State.strand (word 192 (ins 31 1 0 0 0) (sDrv (dq 2 127 0 0))) 15 3) (ins 31 1 0 0 0).b) / 64 * 64 ∧
      1048512 + 64 ≤ 1048576 ∧ dq 2 127 0 0 = Tab.readBytes (State.stove (word 192 (ins 31 1 0 0 0) (sDrv (dq 2 127 0 0))) 15).lmem 1048512 64 ∧
      leAt (dq 2 127 0 0) 0 1 = 2 ∧ State.drvsBegun (word 192 (ins 31 1 0 0 0) (sDrv (dq 2 127 0 0))) 15 = true ∧
      (List.all (Stove.jobs (State.stove (word 192 (ins 31 1 0 0 0) (sDrv (dq 2 127 0 0))) 15)) fun w => w.snd.snd.granted || Option.bind w.snd.snd.job Job.unit != some 4) = true ∧
      (List.all (word 192 (ins 31 1 0 0 0) (sDrv (dq 2 127 0 0))).drv.cmds fun c => !State.maySend (word 192 (ins 31 1 0 0 0) (sDrv (dq 2 127 0 0))) c) = true ∧
      (∀ (x : DrvCmd), x ∈ (word 192 (ins 31 1 0 0 0) (sDrv (dq 2 127 0 0))).drv.cmds → x.id ≠ (word 192 (ins 31 1 0 0 0) (sDrv (dq 2 127 0 0))).drv.nextId ∧
      ¬(x.stove = 15 ∧ x.strand = 3 ∧ x.entry = 0)) ∧
      Option.isSome (Stove.freeUnit (State.stove (word 192 (ins 31 1 0 0 0) (sDrv (dq 2 127 0 0))) 15) 4) = true ∧ leAt (dq 2 127 0 0) 2 2 < 128 ∧
      State.getb (word 192 (ins 31 1 0 0 0) (sDrv (dq 2 127 0 0))) F.DRV_CTL_EN = true ∧
      Drive.online (State.drive (word 192 (ins 31 1 0 0 0) (sDrv (dq 2 127 0 0))) (leAt (dq 2 127 0 0) 2 2)) = true ∧
      leAt (dq 2 127 0 0) 4 4 < (State.drive (word 192 (ins 31 1 0 0 0) (sDrv (dq 2 127 0 0))) (leAt (dq 2 127 0 0) 2 2)).zones ∧
      State.gratesOf (word 192 (ins 31 1 0 0 0) (sDrv (dq 2 127 0 0))) (drvUser (word 192 (ins 31 1 0 0 0) (sDrv (dq 2 127 0 0))).drv.nextId) = []) ∧
    (State.tickets (word 192 (ins 31 1 0 0 0) (sDrv (dq 3 127 0 0))) 15 3 192 (ins 31 1 0 0 0) ((ins 31 1 0 0 0).c == 0 && (ins 31 1 0 0 0).x == 0 && (ins 31 1 0 0 0).imm == 0) (some 5) 0 = true ∧
      1048512 = BitVec.toNat (Strand.reg (State.strand (word 192 (ins 31 1 0 0 0) (sDrv (dq 3 127 0 0))) 15 3) (ins 31 1 0 0 0).b) / 64 * 64 ∧
      1048512 + 64 ≤ 1048576 ∧ dq 3 127 0 0 = Tab.readBytes (State.stove (word 192 (ins 31 1 0 0 0) (sDrv (dq 3 127 0 0))) 15).lmem 1048512 64 ∧
      leAt (dq 3 127 0 0) 0 1 = 3 ∧ State.drvsBegun (word 192 (ins 31 1 0 0 0) (sDrv (dq 3 127 0 0))) 15 = true ∧
      (List.all (Stove.jobs (State.stove (word 192 (ins 31 1 0 0 0) (sDrv (dq 3 127 0 0))) 15)) fun w => w.snd.snd.granted || Option.bind w.snd.snd.job Job.unit != some 4) = true ∧
      (List.all (word 192 (ins 31 1 0 0 0) (sDrv (dq 3 127 0 0))).drv.cmds fun c => !State.maySend (word 192 (ins 31 1 0 0 0) (sDrv (dq 3 127 0 0))) c) = true ∧
      (∀ (x : DrvCmd), x ∈ (word 192 (ins 31 1 0 0 0) (sDrv (dq 3 127 0 0))).drv.cmds → x.id ≠ (word 192 (ins 31 1 0 0 0) (sDrv (dq 3 127 0 0))).drv.nextId ∧
      ¬(x.stove = 15 ∧ x.strand = 3 ∧ x.entry = 0)) ∧
      Option.isSome (Stove.freeUnit (State.stove (word 192 (ins 31 1 0 0 0) (sDrv (dq 3 127 0 0))) 15) 4) = true ∧ leAt (dq 3 127 0 0) 2 2 < 128 ∧
      State.getb (word 192 (ins 31 1 0 0 0) (sDrv (dq 3 127 0 0))) F.DRV_CTL_EN = true ∧
      Drive.online (State.drive (word 192 (ins 31 1 0 0 0) (sDrv (dq 3 127 0 0))) (leAt (dq 3 127 0 0) 2 2)) = true ∧
      leAt (dq 3 127 0 0) 4 4 < (State.drive (word 192 (ins 31 1 0 0 0) (sDrv (dq 3 127 0 0))) (leAt (dq 3 127 0 0) 2 2)).zones ∧
      State.gratesOf (word 192 (ins 31 1 0 0 0) (sDrv (dq 3 127 0 0))) (drvUser (word 192 (ins 31 1 0 0 0) (sDrv (dq 3 127 0 0))).drv.nextId) = []) ∧
    (Stove.freeUnit (State.stove (word 192 (ins 31 1 0 0 0) (allDma (sDrv (dq 0 127 8192 8192)))) 15) 4 = none ∧
      Desc.ofBytes (slice (dq 0 127 8192 8192) 32 16) = some { addr := 8192, len := 32768 : Desc } ∧
      State.descFault (word 192 (ins 31 1 0 0 0) (allDma (sDrv (dq 0 127 8192 8192)))) 15 { addr := 8192, len := 32768 : Desc } = none ∧
      State.tickets (word 192 (ins 31 1 0 0 0) (allDma (sDrv (dq 0 127 8192 8192)))) 15 3 192 (ins 31 1 0 0 0) ((ins 31 1 0 0 0).c == 0 && (ins 31 1 0 0 0).x == 0 && (ins 31 1 0 0 0).imm == 0) (some 5) 0 = true ∧
      1048512 = BitVec.toNat (Strand.reg (State.strand (word 192 (ins 31 1 0 0 0) (allDma (sDrv (dq 0 127 8192 8192)))) 15 3) (ins 31 1 0 0 0).b) / 64 * 64 ∧
      1048512 + 64 ≤ 1048576 ∧
      dq 0 127 8192 8192 = Tab.readBytes (State.stove (word 192 (ins 31 1 0 0 0) (allDma (sDrv (dq 0 127 8192 8192)))) 15).lmem 1048512 64 ∧
      leAt (dq 0 127 8192 8192) 0 1 = 0 ∧ State.drvsBegun (word 192 (ins 31 1 0 0 0) (allDma (sDrv (dq 0 127 8192 8192)))) 15 = true ∧
      (List.all (Stove.jobs (State.stove (word 192 (ins 31 1 0 0 0) (allDma (sDrv (dq 0 127 8192 8192)))) 15)) fun w => w.snd.snd.granted || Option.bind w.snd.snd.job Job.unit != some 4) = true ∧
      (List.all (word 192 (ins 31 1 0 0 0) (allDma (sDrv (dq 0 127 8192 8192)))).drv.cmds fun c => !State.maySend (word 192 (ins 31 1 0 0 0) (allDma (sDrv (dq 0 127 8192 8192)))) c) = true ∧
      (∀ (x : DrvCmd), x ∈ (word 192 (ins 31 1 0 0 0) (allDma (sDrv (dq 0 127 8192 8192)))).drv.cmds → x.id ≠ (word 192 (ins 31 1 0 0 0) (allDma (sDrv (dq 0 127 8192 8192)))).drv.nextId ∧
      ¬(x.stove = 15 ∧ x.strand = 3 ∧ x.entry = 0))) ∧
    (Stove.freeUnit (State.stove (word 192 (ins 31 1 0 0 0) (allDma (sDrv (dq 1 127 8192 8192)))) 15) 4 = none ∧
      Desc.ofBytes (slice (dq 1 127 8192 8192) 32 16) = some { addr := 8192, len := 32768 : Desc } ∧
      State.descFault (word 192 (ins 31 1 0 0 0) (allDma (sDrv (dq 1 127 8192 8192)))) 15 { addr := 8192, len := 32768 : Desc } = none ∧
      State.tickets (word 192 (ins 31 1 0 0 0) (allDma (sDrv (dq 1 127 8192 8192)))) 15 3 192 (ins 31 1 0 0 0) ((ins 31 1 0 0 0).c == 0 && (ins 31 1 0 0 0).x == 0 && (ins 31 1 0 0 0).imm == 0) (some 5) 0 = true ∧
      1048512 = BitVec.toNat (Strand.reg (State.strand (word 192 (ins 31 1 0 0 0) (allDma (sDrv (dq 1 127 8192 8192)))) 15 3) (ins 31 1 0 0 0).b) / 64 * 64 ∧
      1048512 + 64 ≤ 1048576 ∧
      dq 1 127 8192 8192 = Tab.readBytes (State.stove (word 192 (ins 31 1 0 0 0) (allDma (sDrv (dq 1 127 8192 8192)))) 15).lmem 1048512 64 ∧
      leAt (dq 1 127 8192 8192) 0 1 = 1 ∧ State.drvsBegun (word 192 (ins 31 1 0 0 0) (allDma (sDrv (dq 1 127 8192 8192)))) 15 = true ∧
      (List.all (Stove.jobs (State.stove (word 192 (ins 31 1 0 0 0) (allDma (sDrv (dq 1 127 8192 8192)))) 15)) fun w => w.snd.snd.granted || Option.bind w.snd.snd.job Job.unit != some 4) = true ∧
      (List.all (word 192 (ins 31 1 0 0 0) (allDma (sDrv (dq 1 127 8192 8192)))).drv.cmds fun c => !State.maySend (word 192 (ins 31 1 0 0 0) (allDma (sDrv (dq 1 127 8192 8192)))) c) = true ∧
      (∀ (x : DrvCmd), x ∈ (word 192 (ins 31 1 0 0 0) (allDma (sDrv (dq 1 127 8192 8192)))).drv.cmds → x.id ≠ (word 192 (ins 31 1 0 0 0) (allDma (sDrv (dq 1 127 8192 8192)))).drv.nextId ∧
      ¬(x.stove = 15 ∧ x.strand = 3 ∧ x.entry = 0))) ∧
    (Stove.freeUnit (State.stove (word 192 (ins 31 1 0 0 0) (allDma (sDrv (dq 2 127 0 0)))) 15) 4 = none ∧
      State.tickets (word 192 (ins 31 1 0 0 0) (allDma (sDrv (dq 2 127 0 0)))) 15 3 192 (ins 31 1 0 0 0) ((ins 31 1 0 0 0).c == 0 && (ins 31 1 0 0 0).x == 0 && (ins 31 1 0 0 0).imm == 0) (some 5) 0 = true ∧
      1048512 = BitVec.toNat (Strand.reg (State.strand (word 192 (ins 31 1 0 0 0) (allDma (sDrv (dq 2 127 0 0)))) 15 3) (ins 31 1 0 0 0).b) / 64 * 64 ∧
      1048512 + 64 ≤ 1048576 ∧
      dq 2 127 0 0 = Tab.readBytes (State.stove (word 192 (ins 31 1 0 0 0) (allDma (sDrv (dq 2 127 0 0)))) 15).lmem 1048512 64 ∧
      leAt (dq 2 127 0 0) 0 1 = 2 ∧ State.drvsBegun (word 192 (ins 31 1 0 0 0) (allDma (sDrv (dq 2 127 0 0)))) 15 = true ∧
      (List.all (Stove.jobs (State.stove (word 192 (ins 31 1 0 0 0) (allDma (sDrv (dq 2 127 0 0)))) 15)) fun w => w.snd.snd.granted || Option.bind w.snd.snd.job Job.unit != some 4) = true ∧
      (List.all (word 192 (ins 31 1 0 0 0) (allDma (sDrv (dq 2 127 0 0)))).drv.cmds fun c => !State.maySend (word 192 (ins 31 1 0 0 0) (allDma (sDrv (dq 2 127 0 0)))) c) = true ∧
      (∀ (x : DrvCmd), x ∈ (word 192 (ins 31 1 0 0 0) (allDma (sDrv (dq 2 127 0 0)))).drv.cmds → x.id ≠ (word 192 (ins 31 1 0 0 0) (allDma (sDrv (dq 2 127 0 0)))).drv.nextId ∧
      ¬(x.stove = 15 ∧ x.strand = 3 ∧ x.entry = 0))) ∧
    (Stove.freeUnit (State.stove (word 192 (ins 31 1 0 0 0) (allDma (sDrv (dq 3 127 0 0)))) 15) 4 = none ∧
      State.tickets (word 192 (ins 31 1 0 0 0) (allDma (sDrv (dq 3 127 0 0)))) 15 3 192 (ins 31 1 0 0 0) ((ins 31 1 0 0 0).c == 0 && (ins 31 1 0 0 0).x == 0 && (ins 31 1 0 0 0).imm == 0) (some 5) 0 = true ∧
      1048512 = BitVec.toNat (Strand.reg (State.strand (word 192 (ins 31 1 0 0 0) (allDma (sDrv (dq 3 127 0 0)))) 15 3) (ins 31 1 0 0 0).b) / 64 * 64 ∧
      1048512 + 64 ≤ 1048576 ∧
      dq 3 127 0 0 = Tab.readBytes (State.stove (word 192 (ins 31 1 0 0 0) (allDma (sDrv (dq 3 127 0 0)))) 15).lmem 1048512 64 ∧
      leAt (dq 3 127 0 0) 0 1 = 3 ∧ State.drvsBegun (word 192 (ins 31 1 0 0 0) (allDma (sDrv (dq 3 127 0 0)))) 15 = true ∧
      (List.all (Stove.jobs (State.stove (word 192 (ins 31 1 0 0 0) (allDma (sDrv (dq 3 127 0 0)))) 15)) fun w => w.snd.snd.granted || Option.bind w.snd.snd.job Job.unit != some 4) = true ∧
      (List.all (word 192 (ins 31 1 0 0 0) (allDma (sDrv (dq 3 127 0 0)))).drv.cmds fun c => !State.maySend (word 192 (ins 31 1 0 0 0) (allDma (sDrv (dq 3 127 0 0)))) c) = true ∧
      (∀ (x : DrvCmd), x ∈ (word 192 (ins 31 1 0 0 0) (allDma (sDrv (dq 3 127 0 0)))).drv.cmds → x.id ≠ (word 192 (ins 31 1 0 0 0) (allDma (sDrv (dq 3 127 0 0)))).drv.nextId ∧
      ¬(x.stove = 15 ∧ x.strand = 3 ∧ x.entry = 0))) ∧
    (State.tickets (word 192 (ins 31 1 0 0 0) (sDrv (dq 2 126 0 0))) 15 3 192 (ins 31 1 0 0 0) ((ins 31 1 0 0 0).c == 0 && (ins 31 1 0 0 0).x == 0 && (ins 31 1 0 0 0).imm == 0) (some 5) 0 = true ∧
      1048512 = BitVec.toNat (Strand.reg (State.strand (word 192 (ins 31 1 0 0 0) (sDrv (dq 2 126 0 0))) 15 3) (ins 31 1 0 0 0).b) / 64 * 64 ∧
      1048512 + 64 ≤ 1048576 ∧ dq 2 126 0 0 = Tab.readBytes (State.stove (word 192 (ins 31 1 0 0 0) (sDrv (dq 2 126 0 0))) 15).lmem 1048512 64 ∧
      leAt (dq 2 126 0 0) 0 1 = 2 ∧ State.drvsBegun (word 192 (ins 31 1 0 0 0) (sDrv (dq 2 126 0 0))) 15 = true ∧
      (List.all (Stove.jobs (State.stove (word 192 (ins 31 1 0 0 0) (sDrv (dq 2 126 0 0))) 15)) fun w => w.snd.snd.granted || Option.bind w.snd.snd.job Job.unit != some 4) = true ∧
      (List.all (word 192 (ins 31 1 0 0 0) (sDrv (dq 2 126 0 0))).drv.cmds fun c => !State.maySend (word 192 (ins 31 1 0 0 0) (sDrv (dq 2 126 0 0))) c) = true ∧
      (∀ (x : DrvCmd), x ∈ (word 192 (ins 31 1 0 0 0) (sDrv (dq 2 126 0 0))).drv.cmds → x.id ≠ (word 192 (ins 31 1 0 0 0) (sDrv (dq 2 126 0 0))).drv.nextId ∧
      ¬(x.stove = 15 ∧ x.strand = 3 ∧ x.entry = 0)) ∧
      Option.isSome (Stove.freeUnit (State.stove (word 192 (ins 31 1 0 0 0) (sDrv (dq 2 126 0 0))) 15) 4) = true ∧ leAt (dq 2 126 0 0) 2 2 < 128 ∧
      Drive.online (State.drive (word 192 (ins 31 1 0 0 0) (sDrv (dq 2 126 0 0))) (leAt (dq 2 126 0 0) 2 2)) = false) ∧
    (State.tickets (word 192 (ins 31 1 0 0 0) (sDrv (dq 2 128 0 0))) 15 3 192 (ins 31 1 0 0 0) ((ins 31 1 0 0 0).c == 0 && (ins 31 1 0 0 0).x == 0 && (ins 31 1 0 0 0).imm == 0) (some 5) 0 = true ∧
      1048512 = BitVec.toNat (Strand.reg (State.strand (word 192 (ins 31 1 0 0 0) (sDrv (dq 2 128 0 0))) 15 3) (ins 31 1 0 0 0).b) / 64 * 64 ∧
      1048512 + 64 ≤ 1048576 ∧ dq 2 128 0 0 = Tab.readBytes (State.stove (word 192 (ins 31 1 0 0 0) (sDrv (dq 2 128 0 0))) 15).lmem 1048512 64 ∧
      leAt (dq 2 128 0 0) 0 1 = 2 ∧ State.drvsBegun (word 192 (ins 31 1 0 0 0) (sDrv (dq 2 128 0 0))) 15 = true ∧
      (List.all (Stove.jobs (State.stove (word 192 (ins 31 1 0 0 0) (sDrv (dq 2 128 0 0))) 15)) fun w => w.snd.snd.granted || Option.bind w.snd.snd.job Job.unit != some 4) = true ∧
      (List.all (word 192 (ins 31 1 0 0 0) (sDrv (dq 2 128 0 0))).drv.cmds fun c => !State.maySend (word 192 (ins 31 1 0 0 0) (sDrv (dq 2 128 0 0))) c) = true ∧
      (∀ (x : DrvCmd), x ∈ (word 192 (ins 31 1 0 0 0) (sDrv (dq 2 128 0 0))).drv.cmds → x.id ≠ (word 192 (ins 31 1 0 0 0) (sDrv (dq 2 128 0 0))).drv.nextId ∧
      ¬(x.stove = 15 ∧ x.strand = 3 ∧ x.entry = 0)) ∧
      Option.isSome (Stove.freeUnit (State.stove (word 192 (ins 31 1 0 0 0) (sDrv (dq 2 128 0 0))) 15) 4) = true ∧ 128 ≤ leAt (dq 2 128 0 0) 2 2) :=
  by and_intros <;> decide +kernel

theorem witness_DriveCommands_2 :
    (State.tickets (word 192 (ins 31 1 0 0 0) (sDrvZ (dq 2 127 0 0))) 15 3 192 (ins 31 1 0 0 0) ((ins 31 1 0 0 0).c == 0 && (ins 31 1 0 0 0).x == 0 && (ins 31 1 0 0 0).imm == 0) (some 5) 0 = true ∧
      1048512 = BitVec.toNat (Strand.reg (State.strand (word 192 (ins 31 1 0 0 0) (sDrvZ (dq 2 127 0 0))) 15 3) (ins 31 1 0 0 0).b) / 64 * 64 ∧
      1048512 + 64 ≤ 1048576 ∧ dq 2 127 0 0 = Tab.readBytes (State.stove (word 192 (ins 31 1 0 0 0) (sDrvZ (dq 2 127 0 0))) 15).lmem 1048512 64 ∧
      leAt (dq 2 127 0 0) 0 1 = 2 ∧ State.drvsBegun (word 192 (ins 31 1 0 0 0) (sDrvZ (dq 2 127 0 0))) 15 = true ∧
      (List.all (Stove.jobs (State.stove (word 192 (ins 31 1 0 0 0) (sDrvZ (dq 2 127 0 0))) 15)) fun w => w.snd.snd.granted || Option.bind w.snd.snd.job Job.unit != some 4) = true ∧
      (List.all (word 192 (ins 31 1 0 0 0) (sDrvZ (dq 2 127 0 0))).drv.cmds fun c => !State.maySend (word 192 (ins 31 1 0 0 0) (sDrvZ (dq 2 127 0 0))) c) = true ∧
      (∀ (x : DrvCmd), x ∈ (word 192 (ins 31 1 0 0 0) (sDrvZ (dq 2 127 0 0))).drv.cmds → x.id ≠ (word 192 (ins 31 1 0 0 0) (sDrvZ (dq 2 127 0 0))).drv.nextId ∧
      ¬(x.stove = 15 ∧ x.strand = 3 ∧ x.entry = 0)) ∧
      Option.isSome (Stove.freeUnit (State.stove (word 192 (ins 31 1 0 0 0) (sDrvZ (dq 2 127 0 0))) 15) 4) = true ∧ leAt (dq 2 127 0 0) 2 2 < 128 ∧
      State.getb (word 192 (ins 31 1 0 0 0) (sDrvZ (dq 2 127 0 0))) F.DRV_CTL_EN = true ∧
      Drive.online (State.drive (word 192 (ins 31 1 0 0 0) (sDrvZ (dq 2 127 0 0))) (leAt (dq 2 127 0 0) 2 2)) = true ∧
      (State.drive (word 192 (ins 31 1 0 0 0) (sDrvZ (dq 2 127 0 0))) (leAt (dq 2 127 0 0) 2 2)).zones ≤ leAt (dq 2 127 0 0) 4 4) :=
  by and_intros <;> decide +kernel

end Index

namespace Drives

def fpA : Bytes := (List.range 32).map (fun i => BitVec.ofNat 8 (3 * i + 1))
def rqA : Bytes := fpA ++ zeroBytes 8 ++ leBytes 8 0x1234 ++ zeroBytes 2 ++ leBytes 2 3 ++ zeroBytes 4 ++ leBytes 8 5 ++ zeroBytes 8 ++
  ({ loc := 0x1234, seq := 9, fp := 7, flags := 1 } : MapEntry).bytes ++ zeroBytes 24
def sIdA : State := stvF (fun v => { v with lmem := Tab.writeBytes [] 0xFFF80 rqA }) { strand3 with g := [(1, 0xFFFBF)] }
def sMap : State := { ((sIdA.set F.DDX_CTL_EN 1).set F.DDX_BUDGET_UNITS 1).set F.ICH_CTL_EN 1 with
  and := { halves := 3 }, bel := { vols := [(3, { present := true, size := 6 })] }
  ddx := { maps := [(5 * 16384 + 3, { loc := 1, seq := 10, fp := 0, flags := 0 })] } }
def entryAll : List Nat := [3, 3, 3, 3, 3, 3, 3, 3]
def slotP (p : Nat) : PSlot := { state := 2, size64 := 1, pgm := p, units := 0xFFFFFFFF, entries := entryAll }
def sPgm (p : Nat) : State := { upT.set (F.STV_CTL_EN 15) 1 with stoves := [(15, { pslots := [(0, slotP p)] })] }
def sStore : State := { (sPgm 5).set F.DDX_BUDGET_BSTORE 1 with ddx := { store := List.replicate 245761 (0, 0) } }
theorem sStore_len : sStore.storeLen = 245761 := by
  rw [State.storeLen, show sStore.ddx.store = List.replicate 245761 (0, 0) from rfl, show sStore.ddx.writing = [] from rfl, List.length_replicate]; rfl
/-- Drive 127: 4,096-LBA zones, behind port 31. -/
def drvA : Drive := { cfg := 2 ^ 63 + 31 * 2 ^ 51 + 12 * 2 ^ 56, state := 1, resv := true, zones := 100 }
def cmdA (op : Nat) : DrvCmd := { id := 7, stove := 15, strand := 3, entry := 1, block := 0xFFFC0, op, drive := 127, zone := 5, off := 8192, len := 8192, buf := { space := 0, addr := 0x2000, len := 8192 }, sent := true, sentAt := 10 }
def stripeA : Stripe := { state := 1, cls := 0, k := 1, m := 1, members := [(126, false, 5), (127, false, 5)] }
def sCmd (op : Nat) : State := { sStv with drv := { drives := [(127, drvA)], stripes := [(2, stripeA)], cmds := [cmdA op] } }
def dat : Bytes := (List.range 8192).map (fun i => BitVec.ofNat 8 (i / 3))
def s_DriveCommands_6 : State := (sCmd 2).set F.DRV_RBLD_CFG_MEDIA_LIMIT 0
def s_DriveCommands_7 : State := at_ (sCmd 2) 9000000000
def drvB : Drive := { drvA with state := 0 }
def sPort : State := { upT.set F.DRV_CTL_EN 1 with drv := { drives := [(127, drvB)] } }
def s_DrivesComeAndGo_1 : State := sPort.set F.DRV_BIF_MODE 0xFF
def sDl : State := { (sPort.set (F.DRV_PORT_STS_DL_UP 31) 1) with drv := { drives := [(127, drvA)] } }
def sDl2 : State := { ((upT.set (F.DRV_PORT_STS_DL_UP 24) 1)) with drv := { drives := [(127, drvA)], stripes := [(2, stripeA)], cmds := [cmdA 0], downAt := [(31, 50000000)] } }
def s_DrivesComeAndGo_5 : State := sDl2.set F.DRV_DRV_SEL_DRIVE 127
def sGeo (k m mm : Nat) : State := ((upT.set F.DRV_GEOM_K k).set F.DRV_GEOM_M m).set F.DRV_GEOM_M_META mm
def drives4 : Tab Drive := [(1, drvA), (2, drvA), (3, drvA), (4, { drvA with cfg := drvA.cfg + 2 ^ 62 })]
def sOpen (st : Tab Stripe) : State := { (((sGeo 1 1 1).set F.DRV_CTL_EN 1).set F.DRV_STRIPE_CNT_COUNT 1000) with drv := { drives := drives4, stripes := st } }
def opened : Nat × List (Nat × Bool × Nat) := ((sOpen []).nextStripe 0).getD (0, [])
def stripeD : Stripe := { state := 3, cls := 0, k := 1, m := 1, members := [(1, false, 5), (2, false, 5)], failed := 2 }
def sReb : State := { (((sPgm 2).set F.DRV_RBLD_CFG_AUTO 1)) with drv := { drives := drives4, stripes := [(6, stripeD)] } }
def sRec : State := { at_ upT 200000000 with drv := { drives := drives4, stripes := [(6, { stripeD with zeroAt := 0 })] } }
def s_StripesOpenAndClose_3 : State := sRec.set F.DRV_RECLAIM_DLY_DELAY 10

theorem witness_IndexChanges_1 :
    (State.tickets (word 176 (ins 31 1 0 4 0) sMap) 15 3 176 (ins 31 1 0 4 0) ((ins 31 1 0 4 0).c == 0 && decide (BitVec.toNat (ins 31 1 0 4 0).x < 6) && (ins 31 1 0 4 0).imm == 0) none 0 = true ∧
      BitVec.toNat (ins 31 1 0 4 0).x = 4 ∧
      1048448 = BitVec.toNat (Strand.reg (State.strand (word 176 (ins 31 1 0 4 0) sMap) 15 3) (ins 31 1 0 4 0).b) / 64 * 64 ∧
      1048448 + 128 ≤ 1048576 ∧ rqA = Tab.readBytes (State.stove (word 176 (ins 31 1 0 4 0) sMap) 15).lmem 1048448 128 ∧
      (4 < 4 → reqDomain rqA ≤ 4095 ∧ State.holdsHalf (word 176 (ins 31 1 0 4 0) sMap) (fpHalf (reqFp rqA) (reqDomain rqA)) = true ∧
      State.donePending (word 176 (ins 31 1 0 4 0) sMap) = false) ∧ (State.vol (word 176 (ins 31 1 0 4 0) sMap) (reqVol rqA)).present = true ∧
      reqLba rqA < (State.vol (word 176 (ins 31 1 0 4 0) sMap) (reqVol rqA)).size ∧
      State.storeLen (word 176 (ins 31 1 0 4 0) sMap) < State.storeMax (word 176 (ins 31 1 0 4 0) sMap) ∧
      (MapEntry.ofBytes (slice rqA 72 32)).seq < (State.mapAt (word 176 (ins 31 1 0 4 0) sMap) (reqVol rqA) (reqLba rqA)).seq ∧
      State.get (word 176 (ins 31 1 0 4 0) sMap) F.TICK_SNAP_VMAP_ADDR = 0) :=
  by and_intros <;> decide +kernel

theorem witness_IndexChanges_2 :
    ((State.chooseStove sStore 5 6 = some 15 ∧ List.length (State.stove sStore 15).queue < 256) ∧
      State.storeMax sStore + State.storeMax sStore / 63 - State.storeLen sStore < (State.storeMax sStore + State.storeMax sStore / 63) / 16) :=
  ⟨by and_intros <;> decide +kernel, by rw [sStore_len]; decide +kernel⟩

theorem witness_DriveCommands :
    (List.find? (fun x => x.id == 7 && x.sent) (sCmd 0).drv.cmds = some (cmdA 0) ∧ (cmdA 0).stove < 16 ∧
      (Strand.ticket (State.strand (sCmd 0) (cmdA 0).stove (cmdA 0).strand) (cmdA 0).entry).used = true ∧ (cmdA 0).op = 0 ∧ (cmdA 0).buf.space = 0 ∧
      (cmdA 0).len ≤ (cmdA 0).buf.len ∧ ((cmdA 0).block + 58 ≤ (cmdA 0).buf.addr ∨ (cmdA 0).buf.addr + (cmdA 0).len ≤ (cmdA 0).block + 48)) ∧
    (List.find? (fun x => x.id == 7 && x.sent) (sCmd 1).drv.cmds = some (cmdA 1) ∧ (cmdA 1).stove < 16 ∧
      (Strand.ticket (State.strand (sCmd 1) (cmdA 1).stove (cmdA 1).strand) (cmdA 1).entry).used = true ∧ (cmdA 1).op = 1 ∧
      Drive.fdp (State.drive (sCmd 1) (cmdA 1).drive) = false ∧ 5 * 4096 + 2 = State.expectedLba (sCmd 1) (cmdA 1)) ∧
    (List.find? (fun x => x.id == 7 && x.sent) (sCmd 1).drv.cmds = some (cmdA 1) ∧ (cmdA 1).stove < 16 ∧
      (Strand.ticket (State.strand (sCmd 1) (cmdA 1).stove (cmdA 1).strand) (cmdA 1).entry).used = true ∧ (cmdA 1).op = 1 ∧
      Drive.fdp (State.drive (sCmd 1) (cmdA 1).drive) = false ∧ 5 * 4096 + 3 ≠ State.expectedLba (sCmd 1) (cmdA 1) ∧
      State.memberOf (sCmd 1) (cmdA 1).drive (cmdA 1).zone = some (2, 1) ∧ (State.stripe (sCmd 1) 2).state ≠ 0 ∧
      (State.stripe (sCmd 1) 2).state ≠ 5) ∧
    (List.find? (fun x => x.id == 7 && x.sent) (sCmd 2).drv.cmds = some (cmdA 2) ∧ (cmdA 2).stove < 16 ∧
      (Strand.ticket (State.strand (sCmd 2) (cmdA 2).stove (cmdA 2).strand) (cmdA 2).entry).used = true ∧ (cmdA 2).op = 2) ∧
    (List.find? (fun x => x.id == 7 && x.sent) (sCmd 2).drv.cmds = some (cmdA 2) ∧ (cmdA 2).stove < 16 ∧
      (Strand.ticket (State.strand (sCmd 2) (cmdA 2).stove (cmdA 2).strand) (cmdA 2).entry).used = true ∧ 7 ≠ 0 ∧ 7 ≠ 2 ∧ false = false) ∧
    (List.find? (fun x => x.id == 7 && x.sent) s_DriveCommands_6.drv.cmds = some (cmdA 2) ∧ (cmdA 2).stove < 16 ∧
      (Strand.ticket (State.strand s_DriveCommands_6 (cmdA 2).stove (cmdA 2).strand) (cmdA 2).entry).used = true ∧
      State.get s_DriveCommands_6 F.DRV_RBLD_CFG_MEDIA_LIMIT = 0) ∧
    (List.find? (fun x => x.id == 7 && x.sent) s_DriveCommands_7.drv.cmds = some (cmdA 2) ∧ (cmdA 2).stove < 16 ∧
      (Strand.ticket (State.strand s_DriveCommands_7 (cmdA 2).stove (cmdA 2).strand) (cmdA 2).entry).used = true ∧
      (cmdA 2).sentAt + ms (max 1 (State.get s_DriveCommands_7 F.DRV_CMD_TO_TIMEOUT)) ≤ State.cyc s_DriveCommands_7 ∧ (cmdA 2).op ≠ 7 ∧
      (State.drive s_DriveCommands_7 (cmdA 2).drive).timeouts = []) :=
  by and_intros <;> decide +kernel

theorem witness_DrivesComeAndGo :
    (2 ∈ [1, 2, 4, 8, 16] ∧ 2 ≤ State.portWidth s_DrivesComeAndGo_1 31 ∧ State.released s_DrivesComeAndGo_1 (dDrv (31 / 8)) = true ∧
      State.portExists s_DrivesComeAndGo_1 31 = true ∧ (State.drive s_DrivesComeAndGo_1 127).state = 0 ∧
      Drive.present (State.drive s_DrivesComeAndGo_1 127) = true ∧ Drive.port (State.drive s_DrivesComeAndGo_1 127) = 31) ∧
    (State.getb sDl (F.DRV_PORT_STS_DL_UP 31) = true) ∧
    (State.getb sDl2 (F.DRV_PORT_STS_DL_UP 31) = false ∧ Tab.find sDl2.drv.downAt 31 = some 50000000 ∧ 50000000 + sec 1 ≤ State.cyc sDl2 ∧
      State.getb sDl2 (F.DRV_PORT_STS_DL_UP (31 / 8 * 8 + 0)) = true ∧ Tab.find sDl2.drv.drives 127 = some drvA ∧ Drive.present drvA = true ∧
      Drive.port drvA = 31) ∧
    (Drive.online (State.drive sDl2 127) = true ∧ Tab.sorted sDl2.drv.stripes = true) ∧
    (Drive.online (State.drive s_DrivesComeAndGo_5 127) = true ∧ Tab.sorted s_DrivesComeAndGo_5.drv.stripes = true ∧
      State.get s_DrivesComeAndGo_5 F.DRV_DRV_SEL_DRIVE = 127 ∧ State.writable s_DrivesComeAndGo_5 h0 R.DRV_DRV_CTL = true) ∧
    (State.writable (sGeo 29 3 1) h0 R.DRV_CTL = true ∧ 1 ≤ State.get (sGeo 29 3 1) F.DRV_GEOM_K ∧ State.get (sGeo 29 3 1) F.DRV_GEOM_K ≤ 29 ∧
      1 ≤ State.get (sGeo 29 3 1) F.DRV_GEOM_M ∧ 1 ≤ State.get (sGeo 29 3 1) F.DRV_GEOM_M_META ∧
      State.get (sGeo 29 3 1) F.DRV_GEOM_K + State.get (sGeo 29 3 1) F.DRV_GEOM_M ≤ 32 ∧
      State.get (sGeo 29 3 1) F.DRV_GEOM_K + State.get (sGeo 29 3 1) F.DRV_GEOM_M_META ≤ 32) ∧
    (State.writable (sGeo 30 1 1) h0 R.DRV_CTL = true ∧ (State.get (sGeo 30 1 1) F.DRV_GEOM_K = 0 ∨ 29 < State.get (sGeo 30 1 1) F.DRV_GEOM_K)) ∧
    (State.writable (sGeo 0 1 1) h0 R.DRV_CTL = true ∧ (State.get (sGeo 0 1 1) F.DRV_GEOM_K = 0 ∨ 29 < State.get (sGeo 0 1 1) F.DRV_GEOM_K)) :=
  by and_intros <;> decide +kernel

theorem witness_StripesOpenAndClose :
    (State.getb (sOpen []) F.DRV_CTL_EN = true ∧ State.openStripes (sOpen []) 0 < max 1 (State.get (sOpen []) F.DRV_GEOM_OPEN) ∧
      State.nextStripe (sOpen []) 0 = some (opened.fst, opened.snd) ∧ Tab.sorted (sOpen []).drv.drives = true) ∧
    (State.getb sReb F.DRV_RBLD_CFG_AUTO = true ∧ sReb.drv.rebuild = none ∧ State.nextRebuild sReb = some 6 ∧
      State.replacements sReb (State.stripe sReb 6) = some (Option.getD (State.replacements sReb stripeD) []) ∧ State.chooseStove sReb 2 3 = some 15 ∧
      List.length (State.stove sReb 15).queue < 256 ∧ 6 < 2 ^ 22) ∧
    (((State.stripe s_StripesOpenAndClose_3 6).state = 2 ∨ (State.stripe s_StripesOpenAndClose_3 6).state = 3) ∧
      (State.stripe s_StripesOpenAndClose_3 6).owner = State.head s_StripesOpenAndClose_3 ∧ (State.stripe s_StripesOpenAndClose_3 6).live = 0 ∧
      (List.any s_StripesOpenAndClose_3.jnl.recs fun x => JRec.namesStripe x 6) = false ∧
      (State.stripe s_StripesOpenAndClose_3 6).zeroAt + ms (State.get s_StripesOpenAndClose_3 F.DRV_RECLAIM_DLY_DELAY) ≤ State.cyc s_StripesOpenAndClose_3 ∧
      ((State.stripe s_StripesOpenAndClose_3 6).cls = 0 ∨ State.zoneNames s_StripesOpenAndClose_3 6 = false)) :=
  by and_intros <;> decide +kernel

end Drives

namespace Cache

def sCch : State := ((upT.set F.ICH_CTL_EN 1).set (F.ICH_RGN_BASE_ADDR 7) 0).set (F.ICH_RGN_LIMIT_ADDR 7) (2 ^ 34 - 1)
def lineD : Bytes := (List.range 256).map (fun i => BitVec.ofNat 8 (i + 3))
def way1 (l : Nat) (lk : Bool) : IchWay := { valid := true, tag := ichTag l, locked := lk, data := lineD }
def sLine (l w : Nat) (lk : Bool) (wb : List WbEntry) : State := { sCch with ich := { sets := [(ichSet l, { ways := [(w, way1 l lk)] })], wb }, ddr := [(8, 9), (256, 7)] }
def wbE (l : Nat) : WbEntry := { line := l, since := 5, bytes := [(0, 1), (5, 6), (255, 2)] }
def big : Nat := 2 ^ 34 - 1
def s_IndexCacheServes_3 : State := { sCch with ddr := [(8, 9)] }
def s_IndexCacheServes_4 : State := { upT with ddr := [(8, 9)] }
def s_IndexCacheServes_5 : State := { sCch with ich := { wb := [wbE 3] } }
def s_IndexCacheServes_6 : State := { sCch with ich := { wb := [wbE 3] } }
def rq1 : IchReq := { id := 4, addr := 192, len := 8, data := some [1, 2, 3, 4, 5, 6, 7, 8] }
def rq2 : IchReq := { id := 4, addr := 188, len := 8, data := some [1, 2, 3, 4, 5, 6, 7, 8] }
def fill1 : IchFill := { line := 0, bursts := [3, 0], data := lineD, joined := [rq1], laid := [(3, 0)] }
def fill3 : IchFill := { fill1 with bursts := [3, 2], joined := [rq2] }
def s_IndexCacheServes_7 : State := { sCch with ich := { fills := [fill1] } }
def s_IndexCacheServes_8 : State := { sCch with ich := { fills := [fill3] } }
def fill2 : IchFill := { fill1 with bursts := [], joined := [] }
def s_IndexCacheServes_9 : State := { sCch with ich := { fills := [fill2] } }
def sWb : State := { sCch.set F.ICH_WB_CFG_HIGH 2 with ich := { wb := [wbE 0, wbE 3] }, ddr := [(5, 1), (7, 1)] }
def s_IndexCacheServes_11 : State := { sCch with ich := { wb := [wbE 3] } }
def s_IndexCacheServes_13 : State := { sCch with ich := { fills := [fill1] } }
def sMn (l w : Nat) (lk : Bool) (wb : List WbEntry) : State := (sLine l w lk wb).set F.ICH_MNT_ADDR_LINE l
def sTrk : State := { upT with ports := [(1, { filter := [6], backing := 2 ^ 30 })] }
def s_IndexCacheMaintains_8 : State := sCch.set F.ICH_MNT_ADDR_LINE 9
def sMnt : State := { sCch.set F.ICH_MNT_STS_BUSY 1 with ich := { mnt := some { op := 4, force := true, range := true, first := 1, last := 2, full := true } } }
def s_IndexCacheMaintains_14 : State := (sLine big 15 true []).set F.ICH_ECC_LIMIT_LIMIT 0
def s_IndexCacheMaintains_16 : State := upT.set F.ICH_STS_READY 1
def s_IndexCacheMaintains_17 : State := (sLine big 15 true [wbE 3]).set F.GLB_MODE_MODE 4
def sq1 : SubQ := { head := 3, tail := 5, size := 8, cq := 2 }
def cq2 : CplQ := { size := 8, tail := 7, head := 3, waiting := [{ cid := 1, sq := 1, sqHead := 2, sct := 0, sc := 0, dw0 := 0 }], irq := false }
def ctl1 : Ctrl := { en := true, rdy := true, sqs := [(4096, sq1)], cqs := [(2, cq2)] }
def sB : State := { (((upT.set F.GLB_MODE_MODE 4).set F.BEL_CTL_FETCH_EN 3).set (F.GRT_CH_RSV_RSV 1) 0).set (F.GRT_CH_CAP_CAP 1) 0 with
  bel := { ctrls := [(1, ctl1)], vols := [(5, { present := true, attach := 15, size := 100, owner := 0, policy := 0x7D })], nextId := 9, seqNext := 7, blockEnd := 1048576, lastPort := 0 } }
def stv1 : Stove := { pslots := [(0, { state := 2, size64 := 1, pgm := 1, units := 0xFFFFFFFF, entries := [3, 3, 3, 3, 3, 3, 3, 3] })] }
def drvC : Drive := { cfg := 2 ^ 63 + 12 * 2 ^ 56, state := 1, resv := true, zones := 100 }
def sBW : State := { ((((sB.set (F.STV_CTL_EN 15) 1).set F.DRV_STRIPE_CNT_COUNT 100).set F.DRV_GEOM_K 1).set F.DRV_GEOM_M 1) with
  stoves := [(15, stv1)], drv := { drives := [(1, drvC), (2, drvC)] } }
def sFmt : State := { sB with bel := { sB.bel with vols := [(5, { present := true, attach := 15, size := 100, owner := 0, format := 2 })] } }
def sRo : State := { sB with bel := { sB.bel with vols := [(5, { present := true, attach := 15, size := 100, owner := 0, ro := true })] } }
def sTwo : State := { sB with bel := { sB.bel with lastPort := 1, ctrls := [(0, ctl1), (1, ctl1)] } }
def sBank : State := sB.set F.GLB_MODE_MODE 5
def cmd1 (st : CmdStage) : Cmd := { id := 9, port := 1, ring := false, queue := 4096, cid := 77, kind := .write, vol := 5, lba := 3, len := 4096, pgm := 0, irq := false, atime := 8, seq := 7, chead := 3, stage := st, slot := 0 }
def pay : Bytes := (List.range 4096).map (fun i => BitVec.ofNat 8 (i / 5))
def gr9 : Grate := { chan := 1, journalled := false, atime := 8, user := cmdUser 9 }
def sLand : State := { sBW with bel := { sBW.bel with cmds := [cmd1 .landing] }, pool := { held := [(12287, gr9)] } }
def cmdD : Cmd := { cmd1 .staged with posted := true, recorded := true }
def sDone : State := { sB with bel := { sB.bel with cmds := [cmdD] } }
def s_WritesComplete_6 : State := { sB with bel := { sB.bel with stopNeed := 4096, stopped := [(1, true, 3)] } }
def s_WritesComplete_7 : State := { sB with bel := { sB.bel with seqNext := 1048576 } }
def s_WritesComplete_8 : State := ((sB.set F.GLB_MODE_MODE 1).set F.BEL_ERR_HWM_BAD 1)
def s_WritesComplete_9 : State := ((sB.set F.GLB_MODE_MODE 1).set F.BEL_ERR_HWM_BAD 1)

theorem witness_IndexCacheServes_1 :
    (State.answers (sLine big 15 false []) dCch = true ∧ State.getb (sLine big 15 false []) F.ICH_CTL_EN = true ∧
      State.inRegion (sLine big 15 false []) big = true ∧ big < 2 ^ 34 ∧ (way1 big false).valid = true ∧ (way1 big false).tag = ichTag big ∧
      (sLine big 15 false []).ich.sets = [(ichSet big, { ways := [(15, way1 big false)] : IchSet })] ∧ (sLine big 15 false []).ich.side = [] ∧
      (sLine big 15 false []).ich.fills = [] ∧ (sLine big 15 false []).ich.waiting = [] ∧ (sLine big 15 false []).ich.mnt = none ∧
      big = (big * 256 + 192) / 256 ∧ (big * 256 + 192) % 256 + 64 ≤ 256) ∧
    (State.answers (sLine big 15 false []) dCch = true ∧ State.getb (sLine big 15 false []) F.ICH_CTL_EN = true ∧
      State.inRegion (sLine big 15 false []) big = true ∧ big < 2 ^ 34 ∧ (way1 big false).valid = true ∧ (way1 big false).tag = ichTag big ∧
      (sLine big 15 false []).ich.sets = [(ichSet big, { ways := [(15, way1 big false)] : IchSet })] ∧ (sLine big 15 false []).ich.side = [] ∧
      (sLine big 15 false []).ich.fills = [] ∧ (sLine big 15 false []).ich.waiting = [] ∧ (sLine big 15 false []).ich.mnt = none ∧
      big = (big * 256 + 192) / 256 ∧ ichSet 5 ≠ ichSet big ∧ State.inRegion (sLine big 15 false []) 5 = true) ∧
    (State.answers s_IndexCacheServes_3 dCch = true ∧ State.getb s_IndexCacheServes_3 F.ICH_CTL_EN = true ∧ 0 = 64 * 3 / 256 ∧
      State.inRegion s_IndexCacheServes_3 0 = true ∧ 64 * 3 % 256 + 64 ≤ 256 ∧ Tab.find s_IndexCacheServes_3.ich.sets (ichSet 0) = none ∧
      s_IndexCacheServes_3.ich.side = [] ∧ s_IndexCacheServes_3.ich.fills = [] ∧ s_IndexCacheServes_3.ich.wb = [] ∧
      s_IndexCacheServes_3.ich.waiting = []) ∧
    (State.answers s_IndexCacheServes_4 dCch = true ∧
      (State.getb s_IndexCacheServes_4 F.ICH_CTL_EN = false ∨ State.inRegion s_IndexCacheServes_4 (192 / 256) = false) ∧ 192 % 256 + 64 ≤ 256 ∧
      (¬192 / 256 ∈ s_IndexCacheServes_4.ich.poisoned) ∧ s_IndexCacheServes_4.ich.waiting = []) ∧
    (State.answers s_IndexCacheServes_5 dCch = true ∧ State.getb s_IndexCacheServes_5 F.ICH_CTL_EN = true ∧ 0 = 192 / 256 ∧
      State.inRegion s_IndexCacheServes_5 0 = true ∧ List.length (List.replicate 64 5) ≤ 64 ∧ 192 % 256 + List.length (List.replicate 64 5) ≤ 256 ∧
      Tab.find s_IndexCacheServes_5.ich.sets (ichSet 0) = none ∧ s_IndexCacheServes_5.ich.side = [] ∧ s_IndexCacheServes_5.ich.fills = [] ∧
      List.length s_IndexCacheServes_5.ich.wb < 64 ∧ s_IndexCacheServes_5.ich.waiting = [] ∧
      (∀ (x : WbEntry), x ∈ s_IndexCacheServes_5.ich.wb → x.line ≠ 0)) ∧
    (State.answers s_IndexCacheServes_6 dCch = true ∧ State.getb s_IndexCacheServes_6 F.ICH_CTL_EN = true ∧ 0 = 192 / 256 ∧
      State.inRegion s_IndexCacheServes_6 0 = true ∧ List.length ([] : Bytes) ≤ 64 ∧ 192 % 256 + List.length ([] : Bytes) ≤ 256 ∧
      Tab.find s_IndexCacheServes_6.ich.sets (ichSet 0) = none ∧ s_IndexCacheServes_6.ich.side = [] ∧ s_IndexCacheServes_6.ich.fills = [] ∧
      List.length s_IndexCacheServes_6.ich.wb < 64 ∧ s_IndexCacheServes_6.ich.waiting = [] ∧
      (∀ (x : WbEntry), x ∈ s_IndexCacheServes_6.ich.wb → x.line ≠ 0)) ∧
    (s_IndexCacheServes_7.ich.fills[0]? = some fill1 ∧ fill1.bursts = [3, 0] ∧ fill1.joined = [rq1] ∧ 0 < rq1.len ∧ rq1.addr % 256 + rq1.len ≤ 256 ∧
      rq1.addr % 256 / 64 ≤ 3 ∧ 3 ≤ (rq1.addr % 256 + rq1.len - 1) / 64 ∧
      (∀ (c : Nat), c ∈ [0] → c < rq1.addr % 256 / 64 ∨ (rq1.addr % 256 + rq1.len - 1) / 64 < c)) ∧
    (s_IndexCacheServes_8.ich.fills[0]? = some fill3 ∧ fill3.bursts = [3, 2] ∧ fill3.joined = [rq2] ∧ 0 < rq2.len ∧ rq2.addr % 256 + rq2.len ≤ 256 ∧
      rq2.addr % 256 / 64 ≤ 3 ∧ 3 ≤ (rq2.addr % 256 + rq2.len - 1) / 64 ∧ 2 ∈ [2] ∧ rq2.addr % 256 / 64 ≤ 2 ∧
      2 ≤ (rq2.addr % 256 + rq2.len - 1) / 64) ∧
    (s_IndexCacheServes_9.ich.fills[0]? = some fill2 ∧ fill2.bursts = [] ∧ fill2.stale = false ∧ fill2.poison = false ∧ fill2.lock = false ∧
      fill2.prefetch = false ∧ s_IndexCacheServes_9.ich.waiting = [] ∧ s_IndexCacheServes_9.ich.mnt = none ∧
      Tab.find s_IndexCacheServes_9.ich.sets (ichSet fill2.line) = none) ∧
    (sWb.ich.wb = [wbE 0, wbE 3] ∧ max 1 (State.get sWb F.ICH_WB_CFG_HIGH) ≤ List.length [wbE 3] + 1 ∧ sWb.ich.waiting = [] ∧
      (∀ (x : WbEntry), x ∈ [wbE 3] → x.line ≠ (wbE 0).line) ∧ Tab.sorted (wbE 0).bytes = true) :=
  by and_intros <;> decide +kernel

theorem witness_IndexCacheServes_2 :
    (State.ddrUp sTrk = true ∧ (State.port sTrk 1).filter = [6] ∧ (State.port sTrk 1).snoops = [] ∧ (State.port sTrk (1 - 1)).filter = [] ∧
      (State.port sTrk 1).backing + 64 * 6 < 2 ^ 30 + 383 + List.length [1, 2, 3] ∧ 2 ^ 30 + 383 < (State.port sTrk 1).backing + 64 * 6 + 64) ∧
    (State.ddrUp sTrk = true ∧ (State.port sTrk 1).filter = [6] ∧ (State.port sTrk 1).snoops = [] ∧ (State.port sTrk (1 - 1)).filter = [] ∧
      (State.port sTrk 1).backing + 64 * 6 < 2 ^ 30 + 447 + List.length [1, 2, 3] ∧ 2 ^ 30 + 447 < (State.port sTrk 1).backing + 64 * 6 + 64) :=
  by and_intros <;> decide +kernel

theorem witness_IndexCacheServes_3 :
    ((s_IndexCacheServes_11.ich.wb = [wbE 3] ∧ 0 < 256 * 3 ∧ 10 / 256 ≤ (wbE 3).line ∧ (wbE 3).line ≤ (10 + 256 * 3 - 1) / 256 ∧
      Tab.sorted (wbE 3).bytes = true ∧ State.ddrUp s_IndexCacheServes_11 = true ∧ s_IndexCacheServes_11.ich.poisoned = [] ∧
      s_IndexCacheServes_11.ich.waiting = []) ∧ (∀ (p : Nat), (State.port s_IndexCacheServes_11 p).filter = [] ∧
      (State.port s_IndexCacheServes_11 p).devq = [] ∧ (State.port s_IndexCacheServes_11 p).poison = [])) ∧
    ((State.answers (sLine 0 4 true []) dCch = true ∧ State.getb (sLine 0 4 true []) F.ICH_CTL_EN = true ∧
      State.inRegion (sLine 0 4 true []) 0 = true ∧ 0 < 2 ^ 34 ∧ (way1 0 true).valid = true ∧ (way1 0 true).tag = ichTag 0 ∧
      (sLine 0 4 true []).ich.sets = [(ichSet 0, { ways := [(4, way1 0 true)] : IchSet })] ∧ (sLine 0 4 true []).ich.side = [] ∧
      (sLine 0 4 true []).ich.fills = [] ∧ (sLine 0 4 true []).ich.waiting = [] ∧ (sLine 0 4 true []).ich.mnt = none ∧
      State.ddrUp (sLine 0 4 true []) = true ∧ (sLine 0 4 true []).ich.poisoned = [] ∧ (sLine 0 4 true []).ich.wb = [] ∧ [9, 9] ≠ [] ∧ 9 / 256 ≤ 0 ∧
      0 ≤ (9 + List.length [9, 9] - 1) / 256) ∧ (∀ (p : Nat), (State.port (sLine 0 4 true []) p).filter = [] ∧
      (State.port (sLine 0 4 true []) p).devq = [] ∧ (State.port (sLine 0 4 true []) p).poison = [])) ∧
    ((s_IndexCacheServes_13.ich.fills = [fill1] ∧ s_IndexCacheServes_13.ich.waiting = [] ∧ State.ddrUp s_IndexCacheServes_13 = true ∧
      s_IndexCacheServes_13.ich.poisoned = [] ∧ [1, 2] ≠ [] ∧ 255 / 256 ≤ fill1.line ∧ fill1.line ≤ (255 + List.length [1, 2] - 1) / 256) ∧
      (∀ (p : Nat), (State.port s_IndexCacheServes_13 p).filter = [] ∧ (State.port s_IndexCacheServes_13 p).devq = [] ∧
      (State.port s_IndexCacheServes_13 p).poison = [])) :=
  ⟨⟨by and_intros <;> decide +kernel, fun _ => ⟨rfl, rfl, rfl⟩⟩, ⟨by and_intros <;> decide +kernel,
      fun _ => ⟨rfl, rfl, rfl⟩⟩, ⟨by and_intros <;> decide +kernel, fun _ => ⟨rfl, rfl, rfl⟩⟩⟩

theorem witness_IndexCacheMaintains_1 :
    (State.writable (sMn big 15 true []) h0 R.ICH_MNT_CTL = true ∧ State.getb (sMn big 15 true []) F.ICH_MNT_STS_BUSY = false ∧
      State.answers (sMn big 15 true []) dCch = true ∧ State.getb (sMn big 15 true []) F.ICH_CTL_EN = true ∧
      State.inRegion (sMn big 15 true []) big = true ∧ big < 2 ^ 34 ∧ (way1 big true).valid = true ∧ (way1 big true).tag = ichTag big ∧
      (sMn big 15 true []).ich.sets = [(ichSet big, { ways := [(15, way1 big true)] : IchSet })] ∧ (sMn big 15 true []).ich.side = [] ∧
      (sMn big 15 true []).ich.fills = [] ∧ (sMn big 15 true []).ich.waiting = [] ∧ (sMn big 15 true []).ich.mnt = none ∧
      State.get (sMn big 15 true []) F.ICH_MNT_ADDR_LINE = big ∧ ((way1 big true).locked = false ∨ true = true)) ∧
    (State.writable (sMn big 15 false []) h0 R.ICH_MNT_CTL = true ∧ State.getb (sMn big 15 false []) F.ICH_MNT_STS_BUSY = false ∧
      State.answers (sMn big 15 false []) dCch = true ∧ State.getb (sMn big 15 false []) F.ICH_CTL_EN = true ∧
      State.inRegion (sMn big 15 false []) big = true ∧ big < 2 ^ 34 ∧ (way1 big false).valid = true ∧ (way1 big false).tag = ichTag big ∧
      (sMn big 15 false []).ich.sets = [(ichSet big, { ways := [(15, way1 big false)] : IchSet })] ∧ (sMn big 15 false []).ich.side = [] ∧
      (sMn big 15 false []).ich.fills = [] ∧ (sMn big 15 false []).ich.waiting = [] ∧ (sMn big 15 false []).ich.mnt = none ∧
      State.get (sMn big 15 false []) F.ICH_MNT_ADDR_LINE = big ∧ ((way1 big false).locked = false ∨ false = true)) ∧
    (State.writable (sMn big 15 true []) h0 R.ICH_MNT_CTL = true ∧ State.getb (sMn big 15 true []) F.ICH_MNT_STS_BUSY = false ∧
      State.answers (sMn big 15 true []) dCch = true ∧ State.getb (sMn big 15 true []) F.ICH_CTL_EN = true ∧
      State.inRegion (sMn big 15 true []) big = true ∧ big < 2 ^ 34 ∧ (way1 big true).valid = true ∧ (way1 big true).tag = ichTag big ∧
      (sMn big 15 true []).ich.sets = [(ichSet big, { ways := [(15, way1 big true)] : IchSet })] ∧ (sMn big 15 true []).ich.side = [] ∧
      (sMn big 15 true []).ich.fills = [] ∧ (sMn big 15 true []).ich.waiting = [] ∧ (sMn big 15 true []).ich.mnt = none ∧
      State.get (sMn big 15 true []) F.ICH_MNT_ADDR_LINE = big ∧ (way1 big true).locked = true) ∧
    (State.writable (sMn 7 15 false [wbE 7]) h0 R.ICH_MNT_CTL = true ∧ State.getb (sMn 7 15 false [wbE 7]) F.ICH_MNT_STS_BUSY = false ∧
      State.answers (sMn 7 15 false [wbE 7]) dCch = true ∧ State.getb (sMn 7 15 false [wbE 7]) F.ICH_CTL_EN = true ∧
      State.inRegion (sMn 7 15 false [wbE 7]) 7 = true ∧ 7 < 2 ^ 34 ∧ (way1 7 false).valid = true ∧ (way1 7 false).tag = ichTag 7 ∧
      (sMn 7 15 false [wbE 7]).ich.sets = [(ichSet 7, { ways := [(15, way1 7 false)] : IchSet })] ∧ (sMn 7 15 false [wbE 7]).ich.side = [] ∧
      (sMn 7 15 false [wbE 7]).ich.fills = [] ∧ (sMn 7 15 false [wbE 7]).ich.waiting = [] ∧ (sMn 7 15 false [wbE 7]).ich.mnt = none ∧
      State.get (sMn 7 15 false [wbE 7]) F.ICH_MNT_ADDR_LINE = 7 ∧ (sMn 7 15 false [wbE 7]).ich.wb = [wbE 7] ∧ (wbE 7).line = 7 ∧
      (way1 7 false).locked = false) ∧
    (State.writable (sMn 7 3 false []) h0 R.ICH_MNT_CTL = true ∧ State.getb (sMn 7 3 false []) F.ICH_MNT_STS_BUSY = false ∧
      State.answers (sMn 7 3 false []) dCch = true ∧ State.getb (sMn 7 3 false []) F.ICH_CTL_EN = true ∧ State.inRegion (sMn 7 3 false []) 7 = true ∧
      7 < 2 ^ 34 ∧ (way1 7 false).valid = true ∧ (way1 7 false).tag = ichTag 7 ∧
      (sMn 7 3 false []).ich.sets = [(ichSet 7, { ways := [(3, way1 7 false)] : IchSet })] ∧ (sMn 7 3 false []).ich.side = [] ∧
      (sMn 7 3 false []).ich.fills = [] ∧ (sMn 7 3 false []).ich.waiting = [] ∧ (sMn 7 3 false []).ich.mnt = none ∧
      State.get (sMn 7 3 false []) F.ICH_MNT_ADDR_LINE = 7) ∧
    (State.writable (sMn 7 3 true []) h0 R.ICH_MNT_CTL = true ∧ State.getb (sMn 7 3 true []) F.ICH_MNT_STS_BUSY = false ∧
      State.answers (sMn 7 3 true []) dCch = true ∧ State.getb (sMn 7 3 true []) F.ICH_CTL_EN = true ∧ State.inRegion (sMn 7 3 true []) 7 = true ∧
      7 < 2 ^ 34 ∧ (way1 7 true).valid = true ∧ (way1 7 true).tag = ichTag 7 ∧
      (sMn 7 3 true []).ich.sets = [(ichSet 7, { ways := [(3, way1 7 true)] : IchSet })] ∧ (sMn 7 3 true []).ich.side = [] ∧
      (sMn 7 3 true []).ich.fills = [] ∧ (sMn 7 3 true []).ich.waiting = [] ∧ (sMn 7 3 true []).ich.mnt = none ∧
      State.get (sMn 7 3 true []) F.ICH_MNT_ADDR_LINE = 7) ∧
    (State.writable (sMn 7 3 true []) h0 R.ICH_MNT_CTL = true ∧ State.getb (sMn 7 3 true []) F.ICH_MNT_STS_BUSY = false ∧
      State.answers (sMn 7 3 true []) dCch = true ∧ State.getb (sMn 7 3 true []) F.ICH_CTL_EN = true ∧ State.inRegion (sMn 7 3 true []) 7 = true ∧
      7 < 2 ^ 34 ∧ (way1 7 true).valid = true ∧ (way1 7 true).tag = ichTag 7 ∧
      (sMn 7 3 true []).ich.sets = [(ichSet 7, { ways := [(3, way1 7 true)] : IchSet })] ∧ (sMn 7 3 true []).ich.side = [] ∧
      (sMn 7 3 true []).ich.fills = [] ∧ (sMn 7 3 true []).ich.waiting = [] ∧ (sMn 7 3 true []).ich.mnt = none ∧
      State.get (sMn 7 3 true []) F.ICH_MNT_ADDR_LINE = 7 ∧ (way1 7 true).locked = true) ∧
    (State.writable s_IndexCacheMaintains_8 h0 R.ICH_MNT_CTL = true ∧ State.getb s_IndexCacheMaintains_8 F.ICH_MNT_STS_BUSY = false ∧
      State.getb s_IndexCacheMaintains_8 F.ICH_CTL_EN = true ∧ State.get s_IndexCacheMaintains_8 F.ICH_MNT_ADDR_LINE = 9 ∧
      State.inRegion s_IndexCacheMaintains_8 9 = true ∧ Tab.find s_IndexCacheMaintains_8.ich.sets (ichSet 9) = none ∧
      s_IndexCacheMaintains_8.ich.side = [] ∧ s_IndexCacheMaintains_8.ich.fills = [] ∧ s_IndexCacheMaintains_8.ich.waiting = [] ∧
      s_IndexCacheMaintains_8.ich.mnt = none) ∧
    (State.writable upT h0 R.ICH_MNT_CTL = true ∧ State.getb upT F.ICH_MNT_STS_BUSY = false ∧ State.getb upT F.ICH_CTL_EN = false) ∧
    (State.writable upT h0 R.ICH_MNT_CTL = true ∧ State.getb upT F.ICH_MNT_STS_BUSY = false ∧ State.getb upT F.ICH_CTL_EN = false) :=
  by and_intros <;> decide +kernel

theorem witness_IndexCacheMaintains_2 :
    (sMnt.ich.mnt = some { op := 4, force := true, range := true, first := 1, last := 2, full := true : IchMnt } ∧
      { op := 4, force := true, range := true, first := 1, last := 2, full := true : IchMnt }.todo = [] ∧
      { op := 4, force := true, range := true, first := 1, last := 2, full := true : IchMnt }.waits = [] ∧
      { op := 4, force := true, range := true, first := 1, last := 2, full := true : IchMnt }.unlocked = false) ∧
    (State.answers (sLine big 15 true []) dCch = true ∧ State.getb (sLine big 15 true []) F.ICH_CTL_EN = true ∧
      State.inRegion (sLine big 15 true []) big = true ∧ big < 2 ^ 34 ∧ (way1 big true).valid = true ∧ (way1 big true).tag = ichTag big ∧
      (sLine big 15 true []).ich.sets = [(ichSet big, { ways := [(15, way1 big true)] : IchSet })] ∧ (sLine big 15 true []).ich.side = [] ∧
      (sLine big 15 true []).ich.fills = [] ∧ (sLine big 15 true []).ich.waiting = [] ∧ (sLine big 15 true []).ich.mnt = none) ∧
    (State.get s_IndexCacheMaintains_14 F.ICH_ECC_LIMIT_LIMIT = 0) ∧
    (wbE 3 ∈ sWb.ich.wb ∧ sWb.ich.waiting = []) ∧
    (State.writable s_IndexCacheMaintains_16 h0 R.ICH_CTL = true ∧ State.getb s_IndexCacheMaintains_16 F.ICH_STS_READY = true) ∧
    (State.writable s_IndexCacheMaintains_17 h0 R.ICH_CTL = true ∧ State.getb s_IndexCacheMaintains_17 F.ICH_CTL_EN = true ∧
      s_IndexCacheMaintains_17.ich.waiting = [] ∧ State.md s_IndexCacheMaintains_17 ≠ mKindling) ∧
    (State.released upT dCch = true) :=
  by and_intros <;> decide +kernel

theorem witness_CommandsAreFetched_1 :
    (4096 ≠ 0 ∧ State.turnOf sB 1 4096 = true ∧ State.md sB ≠ mBanked ∧ Tab.find (State.ctrl sB 1).sqs 4096 = some sq1) ∧
    (4096 ≠ 0 ∧ State.turnOf sB 1 4096 = true ∧ State.md sB ≠ mBanked ∧ Tab.find (State.ctrl sB 1).sqs 4096 = some sq1) ∧
    (4096 ≠ 0 ∧ State.turnOf sB 1 4096 = true ∧ State.md sB ≠ mBanked ∧ Tab.find (State.ctrl sB 1).sqs 4096 = some sq1 ∧
      State.writeStopped sB = false ∧ State.seqReady sB (State.now sB) = true ∧ State.dirty sB + 4096 * 1 ≤ State.bound sB) ∧
    (4096 ≠ 0 ∧ State.turnOf sB 1 4096 = true ∧ State.md sB ≠ mBanked ∧ Tab.find (State.ctrl sB 1).sqs 4096 = some sq1 ∧
      State.writeStopped sB = false ∧ State.seqReady sB (State.now sB) = true) ∧
    (4096 ≠ 0 ∧ State.turnOf sB 1 4096 = true ∧ State.md sB ≠ mBanked ∧ Tab.find (State.ctrl sB 1).sqs 4096 = some sq1 ∧
      State.writeStopped sB = false ∧ State.seqReady sB (State.now sB) = true) ∧
    (4096 ≠ 0 ∧ State.turnOf sTwo 1 4096 = false ∧ State.md sTwo ≠ mBanked) ∧
    (4096 ≠ 0 ∧ State.turnOf sTwo 1 4096 = false ∧ State.md sTwo ≠ mBanked) ∧
    (4096 ≠ 0 ∧ State.turnOf sTwo 1 4096 = false ∧ State.md sTwo ≠ mBanked) ∧
    (4096 ≠ 0 ∧ State.turnOf sTwo 1 4096 = false ∧ State.md sTwo ≠ mBanked) ∧
    (4096 ≠ 0 ∧ State.turnOf sTwo 1 4096 = false ∧ State.md sTwo ≠ mBanked) :=
  by and_intros <;> decide +kernel

theorem witness_CommandsAreFetched_2 :
    (4096 ≠ 0 ∧ State.md sBank = mBanked ∧ State.portFetches sBank 1 = true ∧ State.sqVisible sBank 1 4096 = true) ∧
    (4096 ≠ 0 ∧ State.md sBank = mBanked ∧ State.portFetches sBank 1 = true ∧ State.sqVisible sBank 1 4096 = true) ∧
    (State.turnOf sFmt 1 4096 = true ∧ 4096 ≠ 0 ∧ State.md sFmt ≠ mBanked ∧ State.writeStopped sFmt = false ∧ sFmt.bel.cmds = [] ∧
      State.getb sFmt F.BEL_STS_SANITIZING = false ∧ sFmt.bel.sanitizeFail = false ∧ Tab.find (State.ctrl sFmt 1).sqs 4096 = some sq1 ∧
      Tab.find (State.ctrl sFmt 1).cqs sq1.cq = some cq2 ∧ 6 ≠ 0 ∧ (State.vol sFmt (6 - 1)).present = true ∧
      bit (State.vol sFmt (6 - 1)).attach (2 * State.head sFmt + 1) = true ∧ (State.vol sFmt (6 - 1)).susp = 0 ∧
      (State.vol sFmt (6 - 1)).format ≠ 0) ∧
    (State.turnOf sFmt 1 4096 = true ∧ 4096 ≠ 0 ∧ State.md sFmt ≠ mBanked ∧ State.writeStopped sFmt = false ∧ sFmt.bel.cmds = [] ∧
      State.getb sFmt F.BEL_STS_SANITIZING = false ∧ sFmt.bel.sanitizeFail = false ∧ Tab.find (State.ctrl sFmt 1).sqs 4096 = some sq1 ∧
      Tab.find (State.ctrl sFmt 1).cqs sq1.cq = some cq2 ∧ 6 ≠ 0 ∧ (State.vol sFmt (6 - 1)).present = true ∧
      bit (State.vol sFmt (6 - 1)).attach (2 * State.head sFmt + 1) = true ∧ (State.vol sFmt (6 - 1)).susp = 0 ∧
      (State.vol sFmt (6 - 1)).format ≠ 0) ∧
    (State.turnOf sRo 1 4096 = true ∧ 4096 ≠ 0 ∧ State.md sRo ≠ mBanked ∧ State.writeStopped sRo = false ∧ sRo.bel.cmds = [] ∧
      State.getb sRo F.BEL_STS_SANITIZING = false ∧ sRo.bel.sanitizeFail = false ∧ Tab.find (State.ctrl sRo 1).sqs 4096 = some sq1 ∧
      Tab.find (State.ctrl sRo 1).cqs sq1.cq = some cq2 ∧ 6 ≠ 0 ∧ (State.vol sRo (6 - 1)).present = true ∧
      bit (State.vol sRo (6 - 1)).attach (2 * State.head sRo + 1) = true ∧ (State.vol sRo (6 - 1)).susp = 0 ∧ (State.vol sRo (6 - 1)).format = 0 ∧
      (State.vol sRo (6 - 1)).ro = true ∧ 99 + 1 ≤ (State.vol sRo (6 - 1)).size ∧ 4096 * 1 ≤ 4096) ∧
    (State.turnOf sRo 1 4096 = true ∧ 4096 ≠ 0 ∧ State.md sRo ≠ mBanked ∧ State.writeStopped sRo = false ∧ sRo.bel.cmds = [] ∧
      State.getb sRo F.BEL_STS_SANITIZING = false ∧ sRo.bel.sanitizeFail = false ∧ Tab.find (State.ctrl sRo 1).sqs 4096 = some sq1 ∧
      Tab.find (State.ctrl sRo 1).cqs sq1.cq = some cq2 ∧ 6 ≠ 0 ∧ (State.vol sRo (6 - 1)).present = true ∧
      bit (State.vol sRo (6 - 1)).attach (2 * State.head sRo + 1) = true ∧ (State.vol sRo (6 - 1)).susp = 0 ∧ (State.vol sRo (6 - 1)).format = 0 ∧
      (State.vol sRo (6 - 1)).ro = true ∧ 99 + 1 ≤ (State.vol sRo (6 - 1)).size) ∧
    (State.turnOf sRo 1 4096 = true ∧ 4096 ≠ 0 ∧ State.md sRo ≠ mBanked ∧ State.writeStopped sRo = false ∧ sRo.bel.cmds = [] ∧
      State.getb sRo F.BEL_STS_SANITIZING = false ∧ sRo.bel.sanitizeFail = false ∧ Tab.find (State.ctrl sRo 1).sqs 4096 = some sq1 ∧
      Tab.find (State.ctrl sRo 1).cqs sq1.cq = some cq2 ∧ 6 ≠ 0 ∧ (State.vol sRo (6 - 1)).present = true ∧
      bit (State.vol sRo (6 - 1)).attach (2 * State.head sRo + 1) = true ∧ (State.vol sRo (6 - 1)).susp = 0 ∧ (State.vol sRo (6 - 1)).format = 0 ∧
      (State.vol sRo (6 - 1)).ro = true ∧ (∀ (r : Nat × Nat), r ∈ [(99, 1), (0, 100)] → r.fst + r.snd ≤ (State.vol sRo (6 - 1)).size)) ∧
    (State.turnOf sB 1 4096 = true ∧ 4096 ≠ 0 ∧ State.md sB ≠ mBanked ∧ State.writeStopped sB = false ∧ sB.bel.cmds = [] ∧
      State.getb sB F.BEL_STS_SANITIZING = false ∧ sB.bel.sanitizeFail = false ∧ Tab.find (State.ctrl sB 1).sqs 4096 = some sq1 ∧
      Tab.find (State.ctrl sB 1).cqs sq1.cq = some cq2 ∧ 6 ≠ 0 ∧ (State.vol sB (6 - 1)).present = true ∧
      bit (State.vol sB (6 - 1)).attach (2 * State.head sB + 1) = true ∧ (State.vol sB (6 - 1)).susp = 0 ∧ (State.vol sB (6 - 1)).format = 0 ∧
      (State.vol sB (6 - 1)).ro = false ∧ (State.vol sB (6 - 1)).owner = State.head sB ∧ State.md sB ≠ mJoining ∧
      State.get sB F.AND_FB_TB_VALUE = 0) ∧
    (State.turnOf sB 1 4096 = true ∧ 4096 ≠ 0 ∧ State.md sB ≠ mBanked ∧ State.writeStopped sB = false ∧ sB.bel.cmds = [] ∧
      State.getb sB F.BEL_STS_SANITIZING = false ∧ sB.bel.sanitizeFail = false ∧ Tab.find (State.ctrl sB 1).sqs 4096 = some sq1 ∧
      Tab.find (State.ctrl sB 1).cqs sq1.cq = some cq2 ∧ 5 ≠ 2) ∧
    (State.turnOf sB 1 4096 = true ∧ 4096 ≠ 0 ∧ State.md sB ≠ mBanked ∧ State.writeStopped sB = false ∧ sB.bel.cmds = [] ∧
      State.getb sB F.BEL_STS_SANITIZING = false ∧ sB.bel.sanitizeFail = false ∧ Tab.find (State.ctrl sB 1).sqs 4096 = some sq1 ∧
      Tab.find (State.ctrl sB 1).cqs sq1.cq = some cq2 ∧ 7 ≠ 0 ∧ (State.vol sB (7 - 1)).present = false) :=
  by and_intros <;> decide +kernel

theorem witness_CommandsAreFetched_3 :
    (State.turnOf sB 1 4096 = true ∧ 4096 ≠ 0 ∧ State.md sB ≠ mBanked ∧ State.writeStopped sB = false ∧ sB.bel.cmds = [] ∧
      State.getb sB F.BEL_STS_SANITIZING = false ∧ sB.bel.sanitizeFail = false ∧ Tab.find (State.ctrl sB 1).sqs 4096 = some sq1 ∧
      Tab.find (State.ctrl sB 1).cqs sq1.cq = some cq2 ∧ 6 ≠ 0 ∧ (State.vol sB (6 - 1)).present = true ∧
      bit (State.vol sB (6 - 1)).attach (2 * State.head sB + 1) = true ∧ (State.vol sB (6 - 1)).susp = 0 ∧ (State.vol sB (6 - 1)).format = 0 ∧
      (State.vol sB (6 - 1)).ro = false ∧ (State.vol sB (6 - 1)).owner = State.head sB ∧ State.md sB ≠ mJoining ∧ State.get sB F.AND_FB_TB_VALUE = 0 ∧
      (State.vol sB (6 - 1)).size < 99 + 2) ∧
    (State.turnOf sBW 1 4096 = true ∧ 4096 ≠ 0 ∧ State.md sBW ≠ mBanked ∧ State.writeStopped sBW = false ∧ sBW.bel.cmds = [] ∧
      State.getb sBW F.BEL_STS_SANITIZING = false ∧ sBW.bel.sanitizeFail = false ∧ Tab.find (State.ctrl sBW 1).sqs 4096 = some sq1 ∧
      Tab.find (State.ctrl sBW 1).cqs sq1.cq = some cq2 ∧ 6 ≠ 0 ∧ (State.vol sBW (6 - 1)).present = true ∧
      bit (State.vol sBW (6 - 1)).attach (2 * State.head sBW + 1) = true ∧ (State.vol sBW (6 - 1)).susp = 0 ∧ (State.vol sBW (6 - 1)).format = 0 ∧
      (State.vol sBW (6 - 1)).ro = false ∧ (State.vol sBW (6 - 1)).owner = State.head sBW ∧ State.md sBW ≠ mJoining ∧
      State.get sBW F.AND_FB_TB_VALUE = 0 ∧ 99 + 1 ≤ (State.vol sBW (6 - 1)).size ∧ 4095 < 4096 * 1 ∧ sBW.tick.gaps = [] ∧ 0 < sBW.bel.seqNext ∧
      sBW.bel.seqNext < sBW.bel.blockEnd ∧ sBW.bel.seqNext < 2 ^ 62 ∧ State.getb sBW F.DDX_STS_FULL = false ∧ State.hasSpace sBW = true) ∧
    (State.turnOf sB 1 4096 = true ∧ 4096 ≠ 0 ∧ State.md sB ≠ mBanked ∧ State.writeStopped sB = false ∧ sB.bel.cmds = [] ∧
      State.getb sB F.BEL_STS_SANITIZING = false ∧ sB.bel.sanitizeFail = false ∧ Tab.find (State.ctrl sB 1).sqs 4096 = some sq1 ∧
      Tab.find (State.ctrl sB 1).cqs sq1.cq = some cq2) ∧
    (State.turnOf sB 1 4096 = true ∧ 4096 ≠ 0 ∧ State.md sB ≠ mBanked ∧ State.writeStopped sB = false ∧ sB.bel.cmds = [] ∧
      State.getb sB F.BEL_STS_SANITIZING = false ∧ sB.bel.sanitizeFail = false ∧ Tab.find (State.ctrl sB 1).sqs 4096 = some sq1 ∧
      Tab.find (State.ctrl sB 1).cqs sq1.cq = some cq2 ∧ 6 ≠ 0 ∧ (State.vol sB (6 - 1)).present = true ∧
      bit (State.vol sB (6 - 1)).attach (2 * State.head sB + 1) = true ∧ (State.vol sB (6 - 1)).susp = 0 ∧ (State.vol sB (6 - 1)).format = 0 ∧
      (State.vol sB (6 - 1)).ro = false ∧ (State.vol sB (6 - 1)).owner = State.head sB ∧ State.md sB ≠ mJoining ∧
      State.get sB F.AND_FB_TB_VALUE = 0) :=
  by and_intros <;> decide +kernel

theorem witness_CommandsStart :
    (State.turnOf sBW 1 4096 = true ∧ 4096 ≠ 0 ∧ State.md sBW ≠ mBanked ∧ State.writeStopped sBW = false ∧ sBW.bel.cmds = [] ∧
      State.getb sBW F.BEL_STS_SANITIZING = false ∧ sBW.bel.sanitizeFail = false ∧ Tab.find (State.ctrl sBW 1).sqs 4096 = some sq1 ∧
      Tab.find (State.ctrl sBW 1).cqs sq1.cq = some cq2 ∧ 6 ≠ 0 ∧ (State.vol sBW (6 - 1)).present = true ∧
      bit (State.vol sBW (6 - 1)).attach (2 * State.head sBW + 1) = true ∧ (State.vol sBW (6 - 1)).susp = 0 ∧ (State.vol sBW (6 - 1)).format = 0 ∧
      (State.vol sBW (6 - 1)).ro = false ∧ (State.vol sBW (6 - 1)).owner = State.head sBW ∧ State.md sBW ≠ mJoining ∧
      State.get sBW F.AND_FB_TB_VALUE = 0 ∧ 98 + 2 ≤ (State.vol sBW (6 - 1)).size ∧ 4096 * 2 ≤ 8192 ∧ State.canReserve sBW 1 = false ∧
      State.canShare sBW 1 = false ∧ State.gratesOf sBW (cmdUser sBW.bel.nextId) = [] ∧ sBW.crl.mirIn = [] ∧ sBW.crl.mirOut = [] ∧
      sBW.jnl.regain = [] ∧ (List.all sBW.drv.cmds fun x => x.sent) = true ∧
      Option.isSome (State.chooseStove sBW (State.program sBW (6 - 1) 0) 1) = true) ∧
    (State.turnOf sBW 1 4096 = true ∧ 4096 ≠ 0 ∧ State.md sBW ≠ mBanked ∧ State.writeStopped sBW = false ∧ sBW.bel.cmds = [] ∧
      State.getb sBW F.BEL_STS_SANITIZING = false ∧ sBW.bel.sanitizeFail = false ∧ Tab.find (State.ctrl sBW 1).sqs 4096 = some sq1 ∧
      Tab.find (State.ctrl sBW 1).cqs sq1.cq = some cq2 ∧ 6 ≠ 0 ∧ (State.vol sBW (6 - 1)).present = true ∧
      bit (State.vol sBW (6 - 1)).attach (2 * State.head sBW + 1) = true ∧ (State.vol sBW (6 - 1)).susp = 0 ∧ (State.vol sBW (6 - 1)).format = 0 ∧
      (State.vol sBW (6 - 1)).ro = false ∧ (State.vol sBW (6 - 1)).owner = State.head sBW ∧ State.md sBW ≠ mJoining ∧
      State.get sBW F.AND_FB_TB_VALUE = 0 ∧ 98 + 2 ≤ (State.vol sBW (6 - 1)).size ∧ 4096 * 2 ≤ 8192 ∧ State.canReserve sBW 1 = false ∧
      State.canShare sBW 1 = false ∧ State.gratesOf sBW (cmdUser sBW.bel.nextId) = [] ∧ sBW.crl.mirIn = [] ∧ sBW.crl.mirOut = [] ∧
      sBW.jnl.regain = [] ∧ (List.all sBW.drv.cmds fun x => x.sent) = true ∧ sBW.tick.gaps = [] ∧ 0 < sBW.bel.seqNext ∧
      sBW.bel.seqNext < sBW.bel.blockEnd ∧ sBW.bel.seqNext < 2 ^ 62 ∧ State.getb sBW F.DDX_STS_FULL = false ∧ State.hasSpace sBW = true ∧
      Option.isSome (State.chooseStove sBW (State.program sBW (6 - 1) 0) 0) = true ∧ State.dirty sBW + 4096 * 2 ≤ State.bound sBW) ∧
    (State.turnOf sBW 1 4096 = true ∧ 4096 ≠ 0 ∧ State.md sBW ≠ mBanked ∧ State.writeStopped sBW = false ∧ sBW.bel.cmds = [] ∧
      State.getb sBW F.BEL_STS_SANITIZING = false ∧ sBW.bel.sanitizeFail = false ∧ Tab.find (State.ctrl sBW 1).sqs 4096 = some sq1 ∧
      Tab.find (State.ctrl sBW 1).cqs sq1.cq = some cq2 ∧ 6 ≠ 0 ∧ (State.vol sBW (6 - 1)).present = true ∧
      bit (State.vol sBW (6 - 1)).attach (2 * State.head sBW + 1) = true ∧ (State.vol sBW (6 - 1)).susp = 0 ∧ (State.vol sBW (6 - 1)).format = 0 ∧
      (State.vol sBW (6 - 1)).ro = false ∧ (State.vol sBW (6 - 1)).owner = State.head sBW ∧ State.md sBW ≠ mJoining ∧
      State.get sBW F.AND_FB_TB_VALUE = 0 ∧ 98 + 2 ≤ (State.vol sBW (6 - 1)).size ∧ sBW.tick.gaps = [] ∧ 0 < sBW.bel.seqNext ∧
      sBW.bel.seqNext < sBW.bel.blockEnd ∧ sBW.bel.seqNext < 2 ^ 62 ∧ State.getb sBW F.DDX_STS_FULL = false ∧ State.hasSpace sBW = true) ∧
    (State.turnOf sBW 1 4096 = true ∧ 4096 ≠ 0 ∧ State.md sBW ≠ mBanked ∧ State.writeStopped sBW = false ∧ sBW.bel.cmds = [] ∧
      State.getb sBW F.BEL_STS_SANITIZING = false ∧ sBW.bel.sanitizeFail = false ∧ Tab.find (State.ctrl sBW 1).sqs 4096 = some sq1 ∧
      Tab.find (State.ctrl sBW 1).cqs sq1.cq = some cq2 ∧ 6 ≠ 0 ∧ (State.vol sBW (6 - 1)).present = true ∧
      bit (State.vol sBW (6 - 1)).attach (2 * State.head sBW + 1) = true ∧ (State.vol sBW (6 - 1)).susp = 0 ∧ (State.vol sBW (6 - 1)).format = 0 ∧
      (State.vol sBW (6 - 1)).ro = false ∧ (State.vol sBW (6 - 1)).owner = State.head sBW ∧ State.md sBW ≠ mJoining ∧
      State.get sBW F.AND_FB_TB_VALUE = 0 ∧ 98 + 2 ≤ (State.vol sBW (6 - 1)).size ∧ sBW.tick.gaps = [] ∧ 0 < sBW.bel.seqNext ∧
      sBW.bel.seqNext < sBW.bel.blockEnd ∧ sBW.bel.seqNext < 2 ^ 62 ∧ State.getb sBW F.DDX_STS_FULL = false ∧ State.hasSpace sBW = true) ∧
    (State.turnOf sBW 1 4096 = true ∧ 4096 ≠ 0 ∧ State.md sBW ≠ mBanked ∧ State.writeStopped sBW = false ∧ sBW.bel.cmds = [] ∧
      State.getb sBW F.BEL_STS_SANITIZING = false ∧ sBW.bel.sanitizeFail = false ∧ Tab.find (State.ctrl sBW 1).sqs 4096 = some sq1 ∧
      Tab.find (State.ctrl sBW 1).cqs sq1.cq = some cq2 ∧ 6 ≠ 0 ∧ (State.vol sBW (6 - 1)).present = true ∧
      bit (State.vol sBW (6 - 1)).attach (2 * State.head sBW + 1) = true ∧ (State.vol sBW (6 - 1)).susp = 0 ∧ (State.vol sBW (6 - 1)).format = 0 ∧
      (State.vol sBW (6 - 1)).ro = false ∧ (State.vol sBW (6 - 1)).owner = State.head sBW ∧ State.md sBW ≠ mJoining ∧
      State.get sBW F.AND_FB_TB_VALUE = 0 ∧ 98 + 2 ≤ (State.vol sBW (6 - 1)).size ∧ sBW.tick.gaps = [] ∧ 0 < sBW.bel.seqNext ∧
      sBW.bel.seqNext < sBW.bel.blockEnd ∧ sBW.bel.seqNext < 2 ^ 62 ∧ State.getb sBW F.DDX_STS_FULL = false ∧ State.hasSpace sBW = true) :=
  by and_intros <;> decide +kernel

theorem witness_WritesComplete_1 :
    (State.cmd? sLand 9 = some (cmd1 CmdStage.landing) ∧ (cmd1 CmdStage.landing).kind = CmdKind.write ∧ (cmd1 CmdStage.landing).ring = false ∧
      (cmd1 CmdStage.landing).foreign = none ∧ (cmd1 CmdStage.landing).stage = CmdStage.landing ∧ (cmd1 CmdStage.landing).away = false ∧
      (cmd1 CmdStage.landing).len = 4096 ∧ State.gratesOf sLand (cmdUser (cmd1 CmdStage.landing).id) = [12287] ∧ List.length pay = 4096 ∧
      0 < (cmd1 CmdStage.landing).seq ∧ State.program sLand (cmd1 CmdStage.landing).vol (cmd1 CmdStage.landing).pgm < 65536 ∧
      State.chooseStove sLand (State.program sLand (cmd1 CmdStage.landing).vol (cmd1 CmdStage.landing).pgm) 0 = some 15 ∧
      List.length (State.stove sLand 15).queue < 256) ∧
    (sDone.bel.cmds = [cmdD] ∧ CmdKind.writes cmdD.kind = true ∧ cmdD.posted = true ∧ cmdD.recorded = true ∧
      (cmdD.mirDone = true ∨ State.mirrored sDone = false) ∧ cmdD.dead = false ∧ cmdD.foreign = none ∧ cmdD.ring = false ∧
      Tab.find (State.ctrl sDone cmdD.port).sqs cmdD.queue = some sq1 ∧ Tab.find (State.ctrl sDone cmdD.port).cqs sq1.cq = some cq2) ∧
    (Tab.find (State.ctrl sB 1).cqs 2 = some cq2 ∧ cq2.waiting = [{ cid := 1, sq := 1, sqHead := 2, sct := 0, sc := 0, dw0 := 0 : Cqe }] ∧
      (cq2.tail + 1) % cq2.size ≠ cq2.head ∧ cq2.irq = false) ∧
    (Tab.find (State.ctrl sB 1).sqs 4096 = some sq1 ∧ (State.ctrl sB 1).en = true ∧ 7 < sq1.size) ∧
    (Tab.find (State.ctrl sB 1).cqs 2 = some cq2 ∧ (State.ctrl sB 1).en = true ∧ 7 < cq2.size) ∧
    (s_WritesComplete_6.bel.stopNeed ≠ 0 ∧ State.dirty s_WritesComplete_6 + s_WritesComplete_6.bel.stopNeed ≤ State.bound s_WritesComplete_6) ∧
    (s_WritesComplete_7.bel.blockEnd ≤ s_WritesComplete_7.bel.seqNext ∧ s_WritesComplete_7.bel.seqNext < 2 ^ 62 ∧
      State.released s_WritesComplete_7 dNoc = true ∧ s_WritesComplete_7.jnl.waiting = [] ∧ s_WritesComplete_7.bel.cmds = []) ∧
    (State.writable s_WritesComplete_8 h0 R.BEL_SEQ_NEXT = true ∧ State.getb s_WritesComplete_8 F.BEL_ERR_HWM_BAD = true ∧
      State.md s_WritesComplete_8 = mKindling ∧ s_WritesComplete_8.bel.seqNext < 2 ^ 62 ∧ 2 ^ 62 ≤ 2 ^ 62) ∧
    (State.writable s_WritesComplete_9 h0 R.BEL_SEQ_NEXT = true ∧ State.getb s_WritesComplete_9 F.BEL_ERR_HWM_BAD = true ∧
      State.md s_WritesComplete_9 = mKindling ∧ s_WritesComplete_9.bel.seqNext < 2 ^ 61 + 1 ∧ 2 ^ 61 + 1 ≤ 2 ^ 62) ∧
    (State.writable sB h0 R.BEL_SEQ_NEXT = true ∧ State.md sB ≠ mKindling) :=
  by and_intros <;> decide +kernel

theorem witness_WritesComplete_2 :
    (State.writable sB h0 R.BEL_DIRTY_BOUND = true) ∧
    (State.writable sB h0 R.BEL_DIRTY_BOUND = true) ∧
    (State.writable sB h0 R.BEL_DIRTY_BOUND = true) :=
  by and_intros <;> decide +kernel

end Cache

namespace Hosts

/-- Window of port 1: two rings of 64, four slots of 4 KiB. -/
def win1 : Window := { rings := 2, depth := 64, slots := 4, slotSize := 4096, ring := [(1, { head := 63, tail := 5, post := 63, chead := 2 })], freeOrder := [3, 0] }
def offs (s : State) : State := (((s.set (F.GRT_OFF_CRING_OFFSET 1) 0x1000).set (F.GRT_OFF_CPL_OFFSET 1) 0x3000).set (F.GRT_OFF_FLAG_OFFSET 1) 0x4000).set (F.GRT_OFF_DATA_OFFSET 1) 0x200000
def sW0 (w : Window) : State := { (offs upT).set (F.GRT_WIN_STS_READY 1) 1 with wins := [(1, w)] }
def cfgv (rg dl sz size : Nat) : Nat := (rg - 1) * 2 ^ 24 + dl * 2 ^ 20 + sz * 2 ^ 16 + size * 2 ^ 8 + 1
def s_WindowsComeUp_1 : State := upT.set (F.GRT_WIN_SLOTS_SLOTS 1) 4
def s_WindowsComeUp_2 : State := upT.set (F.GRT_WIN_SLOTS_SLOTS 1) 0
def s_WindowsComeUp_3 : State := upT.set (F.GRT_WIN_SLOTS_SLOTS 1) 4
def s_WindowsComeUp_4 : State := (sW0 win1).set (F.GRT_WIN_CFG_EN 1) 1
def sRst : State := { (((sW0 { win1 with flags := [(0, { state := 4, gen := 255, tag := 9 }), (3, { state := 0, gen := 3 })] }).set (F.GRT_WIN_CFG_EN 1) 1).set (F.GRT_WIN_STS_READY 1) 0).set (F.GRT_WIN_STS_RESETTING 1) 1 with pending := [] }
def wFlag (w : Nat) (i : Nat) : Tab Byte := Tab.writeBytes [] (0x4000 + 64 * i) (leBytes 8 w)
def flag4 : Flag := { state := 4, gen := 255, count := 4096, tag := 0xBEEF }
def sDn (word : Nat) : State := { sW0 { win1 with flags := [(3, flag4)], freeOrder := [0] } with ddr := wFlag word 3 }
def s_WindowsComeUp_9 : State := sDn { flag4 with state := 5 }.word
def s_WindowsComeUp_10 : State := sDn { flag4 with state := 5, gen := 1 }.word
def s_WindowsComeUp_11 : State := sDn { flag4 with state := 5 }.word
/-- A packet: opcode, flags 1 (IRQ), tag 0x1234, volume 5, program 0, LBA 98, length. -/
def pk (op len : Nat) : Bytes := leBytes 1 op ++ leBytes 1 1 ++ leBytes 2 0x1234 ++ leBytes 2 5 ++ leBytes 2 0 ++ leBytes 8 98 ++ leBytes 4 len ++ leBytes 1 16 ++ zeroBytes 43
def stv1 : Stove := { pslots := [(0, { state := 2, size64 := 1, pgm := 1, units := 0xFFFFFFFF, entries := [3, 3, 3, 3, 3, 3, 3, 3] })] }
def drvC : Drive := { cfg := 2 ^ 63 + 12 * 2 ^ 56, state := 1, resv := true, zones := 100 }
def sP (b : Bytes) : State := { ((((((sW0 win1).set F.GLB_MODE_MODE 4).set F.BEL_CTL_FETCH_EN 3).set (F.STV_CTL_EN 15) 1).set F.DRV_STRIPE_CNT_COUNT 100).set F.DRV_GEOM_K 1).set F.DRV_GEOM_M 1 with
  bel := { vols := [(5, { present := true, attach := 15, size := 100, owner := 0, policy := 0x7D })], nextId := 9, seqNext := 7, blockEnd := 1048576, lastPort := 0 }
  stoves := [(15, stv1)], drv := { drives := [(1, drvC), (2, drvC)] }, ddr := Tab.writeBytes [] (0x1000 + (64 + 63) * 64) b }
def rcmd (k : CmdKind) (st : CmdStage) : Cmd := { id := 9, port := 1, ring := true, queue := 1, cid := 77, kind := k, vol := 5, lba := 3, len := 4096, pgm := 0, irq := true, atime := 8, seq := 7, chead := 3, stage := st, slot := 3 }
def sS (c : Cmd) (w : Window) : State := { sP (pk 0 0) with bel := { (sP (pk 0 0)).bel with cmds := [c] }, wins := [(1, w)] }
def fl (st n : Nat) : Flag := { state := st, gen := 255, count := n, tag := 77 }
def winF (st n : Nat) : Window := { win1 with flags := [(3, fl st n)], freeOrder := [0] }
def gr9 : Grate := { chan := 1, journalled := false, atime := 8, user := cmdUser 9 }
def sCons : State := { sS (rcmd .write .landing) (winF 3 4096) with pool := { held := [(12287, gr9)] } }
def rdC : Cmd := { rcmd .read .staged with payload := [1, 2, 3] }
def sTo : State := { at_ (((sW0 { winF 2 4096 with xrdyAt := [(3, 5)] }).set (F.GRT_SLOT_TO_TIMEOUT 1) 7)) 100000000 with ddr := wFlag (fl 2 4096).word 3 }
def s_PacketsAndSlots_17 : State := sW0 { winF 1 0 with writeFail := [3] }
def rce : RingCpl := { tag := 9, status := 3, notice := false, overrun := true, slotValid := false, chead := 3, slot := 0, count := 5, seq := 7, atime := 8, irq := false }
def ring1 : Ring := { head := 63, tail := 5, post := 63, chead := 2, waiting := [rce] }
def s_PacketsAndSlots_18 : State := sW0 { win1 with ring := [(1, ring1)] }
def s_HostLinks_1 : State := (upT.set (F.GRT_WIN_CFG_SIZE 1) 4).set (F.HST_CTL_WIN_EN 1) 1
def s_HostLinks_2 : State := (upT.set (F.GRT_WIN_CFG_SIZE 1) 4).set (F.HST_CTL_WIN_EN 1) 0
def s_HostLinks_3 : State := (upT.set (F.HST_CTL_PORT_EN 1) 1).set (F.HST_LINK_STS_LTSSM 1) 5
def sL0 : State := ((upT.set (F.HST_LINK_STS_LTSSM 1) 3).set (F.HST_LINK_STS_WIDTH 1) 16).set (F.HST_LINK_STS_DL_UP 1) 1
def s_HostLinks_7 : State := upT.set (F.HST_LINK_STS_LTSSM 0) 3
def s_HostLinks_10 : State := { (upT.set (F.HST_LINK_STS_LTSSM 0) 3) with ports := [(0, { ptmEnable := true })] }
def hp1 : HostPort := { cxl := true, memNeg := true, committed := true, hdmSize := 2 ^ 28, range1 := 2 ^ 28, filter := [5, 6], poison := [], ideIo := true, ready := true, msixEnable := true, msix := [(3, {})], lines := [(7, true)] }
def sCx : State := { sL0 with ports := [(1, hp1)], bel := { ctrls := [(1, { en := true, rdy := true, sqs := [(0, {})], cqs := [(0, {})] })] } }
def s_HostLinks_21 : State := { upT with ports := [(1, { rst := [.perst] })] }
def s_HostLinks_24 : State := { sCx with bel := {} }
def sMem : State := { sCx with ddr := Tab.writeBytes [] (2 ^ 30 + 64 * 7) [1, 2, 3], ports := [(1, { hp1 with backing := 2 ^ 30 })] }
def sMp : State := { sMem with ports := [(1, { hp1 with backing := 2 ^ 30, poison := [6], filter := [6] })] }
def sBig : State := { sMp with ports := [(1, { hp1 with backing := 2 ^ 30, filter := List.range 1048576 })] }
theorem sBig_port : sBig.port 1 = { hp1 with backing := 2 ^ 30, filter := List.range 1048576 } := rfl
theorem range_first (m n : Nat) (h : m = n + 1) : List.range m = 0 :: (List.range m).drop 1 := by subst h; simp [List.range_succ_eq_map]
def snp (inv ag : Bool) : Snoop := { line := 1, inv, sentAt := 5, again := ag }
def dw : DevWrite := { off := 70, bytes := [1, 2, 3] }
def sSn (inv ag : Bool) (q : List DevWrite) : State := { at_ upT 2000000000 with ports := [(1, { hp1 with snoops := [snp inv ag], filter := [1], devq := q })] }
def s_CoherentWindow_14 : State := { upT with ports := [(1, { lines := [(7, true), (8, false)] })] }

theorem witness_WindowsComeUp_1 :
    (State.writable s_WindowsComeUp_1 h0 (R.GRT_WIN_CFG + 65536 * 1) = true ∧ State.getb s_WindowsComeUp_1 (F.GRT_WIN_CFG_EN 1) = false ∧
      64 = cfgv 64 12 5 128 / 2 ^ 24 % 64 + 1 ∧ 4096 = 2 ^ (cfgv 64 12 5 128 / 2 ^ 20 % 16) ∧
      4 = State.get s_WindowsComeUp_1 (F.GRT_WIN_SLOTS_SLOTS 1) ∧ slotBytes (cfgv 64 12 5 128 / 2 ^ 16 % 16) = some (2 ^ 21) ∧
      cfgv 64 12 5 128 / 2 ^ 8 % 256 ≤ 128 ∧ (layoutOf 64 4096 4 (2 ^ 21)).stop ≤ cfgv 64 12 5 128 / 2 ^ 8 % 256 * 2 ^ 28) ∧
    (State.writable s_WindowsComeUp_2 h0 (R.GRT_WIN_CFG + 65536 * 1) = true ∧ State.getb s_WindowsComeUp_2 (F.GRT_WIN_CFG_EN 1) = false ∧
      64 = cfgv 64 12 5 128 / 2 ^ 24 % 64 + 1 ∧ 4096 = 2 ^ (cfgv 64 12 5 128 / 2 ^ 20 % 16) ∧
      0 = State.get s_WindowsComeUp_2 (F.GRT_WIN_SLOTS_SLOTS 1)) ∧
    (State.writable s_WindowsComeUp_3 h0 (R.GRT_WIN_CFG + 65536 * 1) = true ∧ State.getb s_WindowsComeUp_3 (F.GRT_WIN_CFG_EN 1) = false ∧
      64 = cfgv 64 12 6 128 / 2 ^ 24 % 64 + 1 ∧ 4096 = 2 ^ (cfgv 64 12 6 128 / 2 ^ 20 % 16) ∧
      4 = State.get s_WindowsComeUp_3 (F.GRT_WIN_SLOTS_SLOTS 1) ∧ 6 ≤ cfgv 64 12 6 128 / 2 ^ 16 % 16) ∧
    (State.writable s_WindowsComeUp_4 h0 (R.GRT_WIN_CFG + 65536 * 1) = true ∧ State.getb s_WindowsComeUp_4 (F.GRT_WIN_CFG_EN 1) = true ∧
      (State.win s_WindowsComeUp_4 1).slots ≠ 0 ∧ cfgv 1 6 0 1 / 2 ^ 8 % 256 ≤ 128 ∧
      (layoutOf (State.win s_WindowsComeUp_4 1).rings (State.win s_WindowsComeUp_4 1).depth (State.win s_WindowsComeUp_4 1).slots (State.win s_WindowsComeUp_4 1).slotSize).stop ≤ cfgv 1 6 0 1 / 2 ^ 8 % 256 * 2 ^ 28) ∧
    (State.getb sRst (F.GRT_WIN_STS_RESETTING 1) = true ∧ State.bareDdr sRst = true) ∧
    (State.md (sW0 win1) ≠ mBanked ∧ State.writable (sW0 win1) h0 (R.GRT_CMD_DB + 65536 * 1 + 8 * 1) = true ∧
      State.getb (sW0 win1) (F.GRT_WIN_STS_READY 1) = true ∧ 1 < (State.win (sW0 win1) 1).rings ∧ 40 < (State.win (sW0 win1) 1).depth ∧
      ringDist (State.win (sW0 win1) 1).depth (State.ring (sW0 win1) 1 1).head (State.ring (sW0 win1) 1 1).tail ≤ ringDist (State.win (sW0 win1) 1).depth (State.ring (sW0 win1) 1 1).head 40) ∧
    (State.md (sW0 win1) ≠ mBanked ∧ State.writable (sW0 win1) h0 (R.GRT_CMD_DB + 65536 * 1 + 8 * 1) = true ∧
      State.getb (sW0 win1) (F.GRT_WIN_STS_READY 1) = true ∧ 1 < (State.win (sW0 win1) 1).rings ∧ (State.win (sW0 win1) 1).depth ≤ 64) ∧
    (State.md (sW0 win1) ≠ mBanked ∧ State.writable (sW0 win1) h0 (R.GRT_CPL_DB + 65536 * 1 + 8 * 1) = true ∧
      State.getb (sW0 win1) (F.GRT_WIN_STS_READY 1) = true ∧ 1 < (State.win (sW0 win1) 1).rings ∧ 40 < (State.win (sW0 win1) 1).depth ∧
      ringDist (State.win (sW0 win1) 1).depth (State.ring (sW0 win1) 1 1).chead 40 ≤ ringDist (State.win (sW0 win1) 1).depth (State.ring (sW0 win1) 1 1).chead (State.ring (sW0 win1) 1 1).post) ∧
    (State.md s_WindowsComeUp_9 ≠ mBanked ∧ State.writable s_WindowsComeUp_9 h0 (R.GRT_DONE_DB + 65536 * 1) = true ∧
      State.getb s_WindowsComeUp_9 (F.GRT_WIN_STS_READY 1) = true ∧ 3 < (State.win s_WindowsComeUp_9 1).slots ∧
      State.bareDdr s_WindowsComeUp_9 = true ∧ (State.win s_WindowsComeUp_9 1).doneq = [] ∧ flag4 = State.flag s_WindowsComeUp_9 1 3 ∧
      flag4.state = 4 ∧ Flag.accepts flag4 (State.flagWord s_WindowsComeUp_9 1 3) = true) ∧
    (State.md s_WindowsComeUp_10 ≠ mBanked ∧ State.writable s_WindowsComeUp_10 h0 (R.GRT_DONE_DB + 65536 * 1) = true ∧
      State.getb s_WindowsComeUp_10 (F.GRT_WIN_STS_READY 1) = true ∧ 3 < (State.win s_WindowsComeUp_10 1).slots ∧
      State.bareDdr s_WindowsComeUp_10 = true ∧ (State.win s_WindowsComeUp_10 1).doneq = [] ∧ flag4 = State.flag s_WindowsComeUp_10 1 3 ∧
      flag4.state = 4 ∧ Flag.accepts flag4 (State.flagWord s_WindowsComeUp_10 1 3) = false) :=
  by and_intros <;> decide +kernel

theorem witness_WindowsComeUp_2 :
    (State.md s_WindowsComeUp_11 ≠ mBanked ∧ State.writable s_WindowsComeUp_11 h0 (R.GRT_DONE_DB + 65536 * 1) = true ∧
      State.getb s_WindowsComeUp_11 (F.GRT_WIN_STS_READY 1) = true ∧ 3 < (State.win s_WindowsComeUp_11 1).slots ∧
      State.bareDdr s_WindowsComeUp_11 = true ∧ (State.win s_WindowsComeUp_11 1).doneq = [] ∧ flag4 = State.flag s_WindowsComeUp_11 1 3 ∧
      flag4.state = 4 ∧ s_WindowsComeUp_11.bel.cmds = []) :=
  by and_intros <;> decide +kernel

theorem witness_PacketsAndSlots_1 :
    (State.turnOf (sP (pk 0 0)) 1 (ringMember 1) = true ∧ State.md (sP (pk 0 0)) ≠ mBanked ∧ State.writeStopped (sP (pk 0 0)) = false ∧
      (sP (pk 0 0)).bel.cmds = [] ∧ State.getb (sP (pk 0 0)) F.BEL_STS_SANITIZING = false ∧ (sP (pk 0 0)).bel.sanitizeFail = false ∧
      State.bareDdr (sP (pk 0 0)) = true ∧
      pk 0 0 = State.winBytes (sP (pk 0 0)) 1 (State.get (sP (pk 0 0)) (F.GRT_OFF_CRING_OFFSET 1) + (1 * (State.win (sP (pk 0 0)) 1).depth + (State.ring (sP (pk 0 0)) 1 1).head) * 64) 64 ∧
      leAt (pk 0 0) 0 1 = 0) ∧
    (State.turnOf (sP (pk 5 0)) 1 (ringMember 1) = true ∧ State.md (sP (pk 5 0)) ≠ mBanked ∧ State.writeStopped (sP (pk 5 0)) = false ∧
      (sP (pk 5 0)).bel.cmds = [] ∧ State.getb (sP (pk 5 0)) F.BEL_STS_SANITIZING = false ∧ (sP (pk 5 0)).bel.sanitizeFail = false ∧
      State.bareDdr (sP (pk 5 0)) = true ∧
      pk 5 0 = State.winBytes (sP (pk 5 0)) 1 (State.get (sP (pk 5 0)) (F.GRT_OFF_CRING_OFFSET 1) + (1 * (State.win (sP (pk 5 0)) 1).depth + (State.ring (sP (pk 5 0)) 1 1).head) * 64) 64 ∧
      5 ≤ leAt (pk 5 0) 0 1 ∧ leAt (pk 5 0) 0 1 ≠ 32) ∧
    (State.turnOf (sP (pk 255 0)) 1 (ringMember 1) = true ∧ State.md (sP (pk 255 0)) ≠ mBanked ∧ State.writeStopped (sP (pk 255 0)) = false ∧
      (sP (pk 255 0)).bel.cmds = [] ∧ State.getb (sP (pk 255 0)) F.BEL_STS_SANITIZING = false ∧ (sP (pk 255 0)).bel.sanitizeFail = false ∧
      State.bareDdr (sP (pk 255 0)) = true ∧
      pk 255 0 = State.winBytes (sP (pk 255 0)) 1 (State.get (sP (pk 255 0)) (F.GRT_OFF_CRING_OFFSET 1) + (1 * (State.win (sP (pk 255 0)) 1).depth + (State.ring (sP (pk 255 0)) 1 1).head) * 64) 64 ∧
      5 ≤ leAt (pk 255 0) 0 1 ∧ leAt (pk 255 0) 0 1 ≠ 32) ∧
    (State.turnOf (sP (pk 3 0)) 1 (ringMember 1) = true ∧ State.md (sP (pk 3 0)) ≠ mBanked ∧ State.writeStopped (sP (pk 3 0)) = false ∧
      (sP (pk 3 0)).bel.cmds = [] ∧ State.getb (sP (pk 3 0)) F.BEL_STS_SANITIZING = false ∧ (sP (pk 3 0)).bel.sanitizeFail = false ∧
      State.bareDdr (sP (pk 3 0)) = true ∧
      pk 3 0 = State.winBytes (sP (pk 3 0)) 1 (State.get (sP (pk 3 0)) (F.GRT_OFF_CRING_OFFSET 1) + (1 * (State.win (sP (pk 3 0)) 1).depth + (State.ring (sP (pk 3 0)) 1 1).head) * 64) 64 ∧
      leAt (pk 3 0) 0 1 = 3) ∧
    (State.turnOf (sP (pk 3 0)) 1 (ringMember 1) = true ∧ State.md (sP (pk 3 0)) ≠ mBanked ∧ State.writeStopped (sP (pk 3 0)) = false ∧
      (sP (pk 3 0)).bel.cmds = [] ∧ State.getb (sP (pk 3 0)) F.BEL_STS_SANITIZING = false ∧ (sP (pk 3 0)).bel.sanitizeFail = false ∧
      State.bareDdr (sP (pk 3 0)) = true ∧
      pk 3 0 = State.winBytes (sP (pk 3 0)) 1 (State.get (sP (pk 3 0)) (F.GRT_OFF_CRING_OFFSET 1) + (1 * (State.win (sP (pk 3 0)) 1).depth + (State.ring (sP (pk 3 0)) 1 1).head) * 64) 64) ∧
    (State.turnOf (sP (pk 32 4096)) 1 (ringMember 1) = true ∧ State.md (sP (pk 32 4096)) ≠ mBanked ∧ State.writeStopped (sP (pk 32 4096)) = false ∧
      (sP (pk 32 4096)).bel.cmds = [] ∧ State.getb (sP (pk 32 4096)) F.BEL_STS_SANITIZING = false ∧ (sP (pk 32 4096)).bel.sanitizeFail = false ∧
      State.bareDdr (sP (pk 32 4096)) = true ∧
      pk 32 4096 = State.winBytes (sP (pk 32 4096)) 1 (State.get (sP (pk 32 4096)) (F.GRT_OFF_CRING_OFFSET 1) + (1 * (State.win (sP (pk 32 4096)) 1).depth + (State.ring (sP (pk 32 4096)) 1 1).head) * 64) 64 ∧
      leAt (pk 32 4096) 0 1 = 32 ∧ leAt (pk 32 4096) 16 4 % 4096 = 0 ∧ leAt (pk 32 4096) 16 4 ≤ (State.win (sP (pk 32 4096)) 1).slotSize ∧
      16 ≤ leAt (pk 32 4096) 20 1) ∧
    (State.turnOf (sP (pk 32 0)) 1 (ringMember 1) = true ∧ State.md (sP (pk 32 0)) ≠ mBanked ∧ State.writeStopped (sP (pk 32 0)) = false ∧
      (sP (pk 32 0)).bel.cmds = [] ∧ State.getb (sP (pk 32 0)) F.BEL_STS_SANITIZING = false ∧ (sP (pk 32 0)).bel.sanitizeFail = false ∧
      State.bareDdr (sP (pk 32 0)) = true ∧
      pk 32 0 = State.winBytes (sP (pk 32 0)) 1 (State.get (sP (pk 32 0)) (F.GRT_OFF_CRING_OFFSET 1) + (1 * (State.win (sP (pk 32 0)) 1).depth + (State.ring (sP (pk 32 0)) 1 1).head) * 64) 64 ∧
      leAt (pk 32 0) 0 1 = 32 ∧ leAt (pk 32 0) 16 4 % 4096 = 0 ∧ leAt (pk 32 0) 16 4 ≤ (State.win (sP (pk 32 0)) 1).slotSize ∧
      16 ≤ leAt (pk 32 0) 20 1) ∧
    (State.turnOf (sP (pk 2 4096)) 1 (ringMember 1) = true ∧ State.md (sP (pk 2 4096)) ≠ mBanked ∧ State.writeStopped (sP (pk 2 4096)) = false ∧
      (sP (pk 2 4096)).bel.cmds = [] ∧ State.getb (sP (pk 2 4096)) F.BEL_STS_SANITIZING = false ∧ (sP (pk 2 4096)).bel.sanitizeFail = false ∧
      State.bareDdr (sP (pk 2 4096)) = true ∧
      pk 2 4096 = State.winBytes (sP (pk 2 4096)) 1 (State.get (sP (pk 2 4096)) (F.GRT_OFF_CRING_OFFSET 1) + (1 * (State.win (sP (pk 2 4096)) 1).depth + (State.ring (sP (pk 2 4096)) 1 1).head) * 64) 64 ∧
      (State.vol (sP (pk 2 4096)) (leAt (pk 2 4096) 4 2)).present = true ∧
      bit (State.vol (sP (pk 2 4096)) (leAt (pk 2 4096) 4 2)).attach (2 * State.head (sP (pk 2 4096)) + 1) = true ∧
      (State.vol (sP (pk 2 4096)) (leAt (pk 2 4096) 4 2)).susp = 0 ∧ (State.vol (sP (pk 2 4096)) (leAt (pk 2 4096) 4 2)).format = 0 ∧
      (State.vol (sP (pk 2 4096)) (leAt (pk 2 4096) 4 2)).ro = false ∧
      (State.vol (sP (pk 2 4096)) (leAt (pk 2 4096) 4 2)).owner = State.head (sP (pk 2 4096)) ∧ State.md (sP (pk 2 4096)) ≠ mJoining ∧
      State.get (sP (pk 2 4096)) F.AND_FB_TB_VALUE = 0 ∧ 0 < leAt (pk 2 4096) 16 4 ∧ leAt (pk 2 4096) 16 4 % 4096 = 0 ∧
      leAt (pk 2 4096) 8 8 + leAt (pk 2 4096) 16 4 / 4096 ≤ (State.vol (sP (pk 2 4096)) (leAt (pk 2 4096) 4 2)).size ∧ leAt (pk 2 4096) 0 1 = 2 ∧
      leAt (pk 2 4096) 16 4 ≤ (State.win (sP (pk 2 4096)) 1).slotSize ∧
      Option.isSome (State.chooseStove (sP (pk 2 4096)) (State.program (sP (pk 2 4096)) (leAt (pk 2 4096) 4 2) (leAt (pk 2 4096) 6 2)) 1) = true) ∧
    (State.turnOf (sP (pk 1 4096)) 1 (ringMember 1) = true ∧ State.md (sP (pk 1 4096)) ≠ mBanked ∧ State.writeStopped (sP (pk 1 4096)) = false ∧
      (sP (pk 1 4096)).bel.cmds = [] ∧ State.getb (sP (pk 1 4096)) F.BEL_STS_SANITIZING = false ∧ (sP (pk 1 4096)).bel.sanitizeFail = false ∧
      State.bareDdr (sP (pk 1 4096)) = true ∧
      pk 1 4096 = State.winBytes (sP (pk 1 4096)) 1 (State.get (sP (pk 1 4096)) (F.GRT_OFF_CRING_OFFSET 1) + (1 * (State.win (sP (pk 1 4096)) 1).depth + (State.ring (sP (pk 1 4096)) 1 1).head) * 64) 64 ∧
      (State.vol (sP (pk 1 4096)) (leAt (pk 1 4096) 4 2)).present = true ∧
      bit (State.vol (sP (pk 1 4096)) (leAt (pk 1 4096) 4 2)).attach (2 * State.head (sP (pk 1 4096)) + 1) = true ∧
      (State.vol (sP (pk 1 4096)) (leAt (pk 1 4096) 4 2)).susp = 0 ∧ (State.vol (sP (pk 1 4096)) (leAt (pk 1 4096) 4 2)).format = 0 ∧
      (State.vol (sP (pk 1 4096)) (leAt (pk 1 4096) 4 2)).ro = false ∧
      (State.vol (sP (pk 1 4096)) (leAt (pk 1 4096) 4 2)).owner = State.head (sP (pk 1 4096)) ∧ State.md (sP (pk 1 4096)) ≠ mJoining ∧
      State.get (sP (pk 1 4096)) F.AND_FB_TB_VALUE = 0 ∧ 0 < leAt (pk 1 4096) 16 4 ∧ leAt (pk 1 4096) 16 4 % 4096 = 0 ∧
      leAt (pk 1 4096) 8 8 + leAt (pk 1 4096) 16 4 / 4096 ≤ (State.vol (sP (pk 1 4096)) (leAt (pk 1 4096) 4 2)).size ∧ leAt (pk 1 4096) 0 1 = 1 ∧
      leAt (pk 1 4096) 16 4 ≤ (State.win (sP (pk 1 4096)) 1).slotSize ∧ (sP (pk 1 4096)).tick.gaps = [] ∧ 0 < (sP (pk 1 4096)).bel.seqNext ∧
      (sP (pk 1 4096)).bel.seqNext < (sP (pk 1 4096)).bel.blockEnd ∧ (sP (pk 1 4096)).bel.seqNext < 2 ^ 62 ∧
      State.getb (sP (pk 1 4096)) F.DDX_STS_FULL = false ∧ State.hasSpace (sP (pk 1 4096)) = true ∧
      State.dirty (sP (pk 1 4096)) + leAt (pk 1 4096) 16 4 ≤ State.bound (sP (pk 1 4096)) ∧
      Option.isSome (State.chooseStove (sP (pk 1 4096)) (State.program (sP (pk 1 4096)) (leAt (pk 1 4096) 4 2) (leAt (pk 1 4096) 6 2)) 0) = true) ∧
    (State.turnOf (sP (pk 4 8192)) 1 (ringMember 1) = true ∧ State.md (sP (pk 4 8192)) ≠ mBanked ∧ State.writeStopped (sP (pk 4 8192)) = false ∧
      (sP (pk 4 8192)).bel.cmds = [] ∧ State.getb (sP (pk 4 8192)) F.BEL_STS_SANITIZING = false ∧ (sP (pk 4 8192)).bel.sanitizeFail = false ∧
      State.bareDdr (sP (pk 4 8192)) = true ∧
      pk 4 8192 = State.winBytes (sP (pk 4 8192)) 1 (State.get (sP (pk 4 8192)) (F.GRT_OFF_CRING_OFFSET 1) + (1 * (State.win (sP (pk 4 8192)) 1).depth + (State.ring (sP (pk 4 8192)) 1 1).head) * 64) 64 ∧
      (State.vol (sP (pk 4 8192)) (leAt (pk 4 8192) 4 2)).present = true ∧
      bit (State.vol (sP (pk 4 8192)) (leAt (pk 4 8192) 4 2)).attach (2 * State.head (sP (pk 4 8192)) + 1) = true ∧
      (State.vol (sP (pk 4 8192)) (leAt (pk 4 8192) 4 2)).susp = 0 ∧ (State.vol (sP (pk 4 8192)) (leAt (pk 4 8192) 4 2)).format = 0 ∧
      (State.vol (sP (pk 4 8192)) (leAt (pk 4 8192) 4 2)).ro = false ∧
      (State.vol (sP (pk 4 8192)) (leAt (pk 4 8192) 4 2)).owner = State.head (sP (pk 4 8192)) ∧ State.md (sP (pk 4 8192)) ≠ mJoining ∧
      State.get (sP (pk 4 8192)) F.AND_FB_TB_VALUE = 0 ∧ 0 < leAt (pk 4 8192) 16 4 ∧ leAt (pk 4 8192) 16 4 % 4096 = 0 ∧
      leAt (pk 4 8192) 8 8 + leAt (pk 4 8192) 16 4 / 4096 ≤ (State.vol (sP (pk 4 8192)) (leAt (pk 4 8192) 4 2)).size ∧ leAt (pk 4 8192) 0 1 = 4 ∧
      (sP (pk 4 8192)).tick.gaps = [] ∧ 0 < (sP (pk 4 8192)).bel.seqNext ∧ (sP (pk 4 8192)).bel.seqNext < (sP (pk 4 8192)).bel.blockEnd ∧
      (sP (pk 4 8192)).bel.seqNext < 2 ^ 62 ∧ State.getb (sP (pk 4 8192)) F.DDX_STS_FULL = false ∧ State.hasSpace (sP (pk 4 8192)) = true) :=
  by and_intros <;> decide +kernel

theorem witness_PacketsAndSlots_2 :
    (State.getb (sS (rcmd CmdKind.write CmdStage.waitSlot) win1) (F.GRT_WIN_STS_READY 1) = true ∧
      (sS (rcmd CmdKind.write CmdStage.waitSlot) win1).bel.cmds = [rcmd CmdKind.write CmdStage.waitSlot] ∧
      (rcmd CmdKind.write CmdStage.waitSlot).ring = true ∧ (rcmd CmdKind.write CmdStage.waitSlot).foreign = none ∧
      (rcmd CmdKind.write CmdStage.waitSlot).port = 1 ∧ (rcmd CmdKind.write CmdStage.waitSlot).stage = CmdStage.waitSlot ∧
      (State.win (sS (rcmd CmdKind.write CmdStage.waitSlot) win1) 1).freeOrder = [3, 0] ∧ (¬3 ∈ [0]) ∧
      (State.flag (sS (rcmd CmdKind.write CmdStage.waitSlot) win1) 1 3).state = 0 ∧ (rcmd CmdKind.write CmdStage.waitSlot).kind = CmdKind.write) ∧
    (State.getb (sS (rcmd CmdKind.replGet CmdStage.waitSlot) win1) (F.GRT_WIN_STS_READY 1) = true ∧
      (sS (rcmd CmdKind.replGet CmdStage.waitSlot) win1).bel.cmds = [rcmd CmdKind.replGet CmdStage.waitSlot] ∧
      (rcmd CmdKind.replGet CmdStage.waitSlot).ring = true ∧ (rcmd CmdKind.replGet CmdStage.waitSlot).foreign = none ∧
      (rcmd CmdKind.replGet CmdStage.waitSlot).port = 1 ∧ (rcmd CmdKind.replGet CmdStage.waitSlot).stage = CmdStage.waitSlot ∧
      (State.win (sS (rcmd CmdKind.replGet CmdStage.waitSlot) win1) 1).freeOrder = [3, 0] ∧ (¬3 ∈ [0]) ∧
      (State.flag (sS (rcmd CmdKind.replGet CmdStage.waitSlot) win1) 1 3).state = 0 ∧
      (rcmd CmdKind.replGet CmdStage.waitSlot).kind = CmdKind.replGet ∧ (sS (rcmd CmdKind.replGet CmdStage.waitSlot) win1).crl.mirIn = [] ∧
      (sS (rcmd CmdKind.replGet CmdStage.waitSlot) win1).crl.mirOut = [] ∧ (sS (rcmd CmdKind.replGet CmdStage.waitSlot) win1).jnl.regain = [] ∧
      (List.all (sS (rcmd CmdKind.replGet CmdStage.waitSlot) win1).drv.cmds fun x => x.sent) = true) ∧
    (State.getb (sS (rcmd CmdKind.write CmdStage.slotHost) (winF 3 4095)) (F.GRT_WIN_STS_READY 1) = true ∧
      (sS (rcmd CmdKind.write CmdStage.slotHost) (winF 3 4095)).bel.cmds = [rcmd CmdKind.write CmdStage.slotHost] ∧
      State.slotCmd (sS (rcmd CmdKind.write CmdStage.slotHost) (winF 3 4095)) 1 3 = some (rcmd CmdKind.write CmdStage.slotHost) ∧
      fl 3 4095 = State.flag (sS (rcmd CmdKind.write CmdStage.slotHost) (winF 3 4095)) 1 3 ∧
      State.bareDdr (sS (rcmd CmdKind.write CmdStage.slotHost) (winF 3 4095)) = true ∧ (fl 3 4095).state = 3 ∧ 0 < (fl 3 4095).count ∧
      (fl 3 4095).count < (rcmd CmdKind.write CmdStage.slotHost).len ∧
      (fl 3 4095).count ≤ (State.win (sS (rcmd CmdKind.write CmdStage.slotHost) (winF 3 4095)) 1).slotSize) ∧
    (State.getb sCons (F.GRT_WIN_STS_READY 1) = true ∧ sCons.bel.cmds = [rcmd CmdKind.write CmdStage.landing] ∧
      State.slotCmd sCons 1 3 = some (rcmd CmdKind.write CmdStage.landing) ∧ fl 3 4096 = State.flag sCons 1 3 ∧ State.bareDdr sCons = true ∧
      (fl 3 4096).state = 3 ∧ (rcmd CmdKind.write CmdStage.landing).kind = CmdKind.write ∧ (rcmd CmdKind.write CmdStage.landing).len = 4096 ∧
      (fl 3 4096).count = 4096 ∧ 4096 ≤ (State.win sCons 1).slotSize ∧
      State.gratesOf sCons (cmdUser (rcmd CmdKind.write CmdStage.landing).id) = [12287] ∧ 0 < (rcmd CmdKind.write CmdStage.landing).seq ∧
      (rcmd CmdKind.write CmdStage.landing).away = false ∧
      State.program sCons (rcmd CmdKind.write CmdStage.landing).vol (rcmd CmdKind.write CmdStage.landing).pgm < 65536 ∧
      State.chooseStove sCons (State.program sCons (rcmd CmdKind.write CmdStage.landing).vol (rcmd CmdKind.write CmdStage.landing).pgm) 0 = some 15 ∧
      List.length (State.stove sCons 15).queue < 256) ∧
    (State.getb (sS rdC (winF 1 0)) (F.GRT_WIN_STS_READY 1) = true ∧ (sS rdC (winF 1 0)).bel.cmds = [rdC] ∧
      State.slotCmd (sS rdC (winF 1 0)) 1 3 = some rdC ∧ fl 1 0 = State.flag (sS rdC (winF 1 0)) 1 3 ∧ State.bareDdr (sS rdC (winF 1 0)) = true ∧
      (fl 1 0).state = 1 ∧ (State.win (sS rdC (winF 1 0)) 1).writeFail = [] ∧ rdC.kind = CmdKind.read ∧ rdC.stage = CmdStage.staged ∧
      rdC.payload ≠ [] ∧ List.length rdC.payload < 2 ^ 24 ∧
      State.get (sS rdC (winF 1 0)) (F.GRT_OFF_FLAG_OFFSET 1) + 64 * 3 + 8 ≤ State.slotOff (sS rdC (winF 1 0)) 1 3) ∧
    (State.getb sTo (F.GRT_WIN_STS_READY 1) = true ∧ 3 < (State.win sTo 1).slots ∧ sTo.bel.cmds = [] ∧ State.bareDdr sTo = true ∧
      Tab.find (State.win sTo 1).xrdyAt 3 = some 5 ∧ (State.flag sTo 1 3).state = 2 ∧ State.get sTo (F.GRT_SLOT_TO_TIMEOUT 1) ≠ 0 ∧
      5 + us (State.get sTo (F.GRT_SLOT_TO_TIMEOUT 1)) ≤ State.cyc sTo ∧ State.flagWord sTo 1 3 = Flag.word (State.flag sTo 1 3) ∧
      Flag.accepts (State.flag sTo 1 3) (State.flagWord sTo 1 3) = false) ∧
    (State.getb s_PacketsAndSlots_17 (F.GRT_WIN_STS_READY 1) = true ∧ 3 < (State.win s_PacketsAndSlots_17 1).slots ∧
      s_PacketsAndSlots_17.bel.cmds = [] ∧ State.bareDdr s_PacketsAndSlots_17 = true ∧ (State.flag s_PacketsAndSlots_17 1 3).state = 1 ∧
      3 ∈ (State.win s_PacketsAndSlots_17 1).writeFail) ∧
    (State.getb s_PacketsAndSlots_18 (F.GRT_WIN_STS_READY 1) = true ∧ ring1 = State.ring s_PacketsAndSlots_18 1 1 ∧ ring1.waiting = [rce] ∧
      (ring1.post + 1) % (State.win s_PacketsAndSlots_18 1).depth ≠ ring1.chead ∧ rce.irq = false ∧ State.bareDdr s_PacketsAndSlots_18 = true ∧
      12288 + 127 * 32 = State.get s_PacketsAndSlots_18 (F.GRT_OFF_CPL_OFFSET 1) + (1 * (State.win s_PacketsAndSlots_18 1).depth + ring1.post) * 32) :=
  by and_intros <;> decide +kernel

theorem witness_HostLinks_1 :
    (16 ∈ [1, 2, 4, 8, 16] ∧ State.idleLtssm s_HostLinks_1 1 = 1 ∧ State.linkL0 s_HostLinks_1 1 = false ∧
      State.get s_HostLinks_1 (F.HST_LINK_STS_LTSSM 1) ≠ 5) ∧
    (16 ∈ [1, 2, 4, 8, 16] ∧ State.idleLtssm s_HostLinks_2 1 = 1 ∧ State.linkL0 s_HostLinks_2 1 = false ∧
      State.get s_HostLinks_2 (F.HST_LINK_STS_LTSSM 1) ≠ 5) ∧
    (16 ∈ [1, 2, 4, 8, 16] ∧ State.idleLtssm s_HostLinks_3 1 = 1 ∧ State.linkL0 s_HostLinks_3 1 = false ∧
      State.get s_HostLinks_3 (F.HST_LINK_STS_LTSSM 1) = 5) ∧
    (16 ∈ [1, 2, 4, 8, 16] ∧ State.linkL0 sL0 1 = true ∧ (6 = 6 ∧ 16 = 16 ∨ State.get sL0 (F.HST_LINK_STS_RATE 1) = 6 ∧
      State.get sL0 (F.HST_LINK_STS_WIDTH 1) = 16)) ∧
    (8 ∈ [1, 2, 4, 8, 16] ∧ State.linkL0 sL0 1 = true ∧ (5 ≠ 6 ∨ 8 ≠ 16) ∧
      (State.get sL0 (F.HST_LINK_STS_RATE 1) ≠ 5 ∨ State.get sL0 (F.HST_LINK_STS_WIDTH 1) ≠ 8)) ∧
    (State.linkL0 sL0 1 = true ∧ List.length (List.replicate 32 7) = 32) ∧
    (State.linkL0 s_HostLinks_7 0 = true ∧ List.length (List.replicate 32 7) = 32) ∧
    (State.linkL0 sL0 1 = true) ∧
    (State.linkL0 sL0 1 = true ∧ (State.port sL0 1).lines = [] ∧ (1 = 0 → (State.port sL0 0).ptmEnable = true → true = true)) ∧
    (State.linkL0 s_HostLinks_10 0 = true ∧ (State.port s_HostLinks_10 0).ptmEnable = true) :=
  by and_intros <;> decide +kernel

theorem witness_HostLinks_2 :
    (State.linkL0 sCx 1 = true ∧ (State.port sCx 1).cxl = true) ∧
    ((State.port sCx 1).rst = [] ∧ State.linkL0 sCx 1 = true) ∧
    ((State.port sCx 1).rst = [] ∧ State.linkL0 sCx 1 = true ∧ ((State.port sCx 1).ideIo = true ∨ (State.port sCx 1).ideMem = true)) ∧
    ((State.port sCx 1).rst = [] ∧ State.linkL0 sCx 1 = true) ∧
    ((State.port sCx 1).rst = [] ∧ State.linkL0 sCx 1 = true) ∧
    ((State.port sCx 1).rst = [] ∧ State.linkL0 sCx 1 = true ∧ (State.port sCx 1).cxl = true) ∧
    ((State.port sCx 1).rst = [] ∧ State.released sCx (dHst 1) = true) ∧
    ((State.port State.reset 1).rst = [] ∧ State.released State.reset (dHst 1) = false) ∧
    ((State.port sCx 1).rst = []) ∧
    ((State.port sCx 1).rst = [] ∧ State.writable sCx h0 (R.HST_CTL + 1048576 * 1) = true ∧ State.getb sCx (F.HST_CTL_PORT_EN 1) = true) :=
  by and_intros <;> decide +kernel

theorem witness_HostLinks_3 :
    ((State.port s_HostLinks_21 1).rst = [PortSrc.perst]) ∧
    (State.linkL0 sCx 1 = true) ∧
    (State.linkL0 sCx 1 = true ∧ (State.ctrl sCx 1).en = true) ∧
    (State.linkL0 s_HostLinks_24 1 = true ∧ (State.port s_HostLinks_24 1).ready = true ∧ (State.ctrl s_HostLinks_24 1).en = false) :=
  by and_intros <;> decide +kernel

theorem witness_CoherentWindow_1 :
    (State.linkL0 sCx 1 = true ∧ (State.port sCx 1).cxl = true ∧ 2 ^ 28 ≤ (State.port sCx 1).range1) ∧
    (State.linkL0 sCx 1 = true ∧ (State.port sCx 1).cxl = true ∧ ((State.port sCx 1).range1 < 2 ^ 28 + 1 ∨ 1 ≠ 1)) ∧
    (State.linkL0 sMem 1 = true ∧ State.md sMem ≠ mBanked ∧ State.bareIch sMem = true ∧ State.memServed sMem 1 = true ∧
      64 * 7 < (State.port sMem 1).hdmSize ∧ List.length (State.port sMem 1).filter < 1048576 ∧ (¬7 ∈ (State.port sMem 1).poison)) ∧
    (State.linkL0 sMp 1 = true ∧ State.md sMp ≠ mBanked ∧ State.bareIch sMp = true ∧ State.memServed sMp 1 = true ∧
      64 * 6 < (State.port sMp 1).hdmSize ∧ List.length (State.port sMp 1).filter < 1048576 ∧ 6 ∈ (State.port sMp 1).poison) ∧
    (State.linkL0 sMp 1 = true ∧ State.md sMp ≠ mBanked ∧ State.bareIch sMp = true ∧ State.memServed sMp 1 = true ∧
      64 * 7 < (State.port sMp 1).hdmSize ∧ List.length (State.port sMp 1).filter < 1048576) ∧
    (State.linkL0 sMp 1 = true ∧ State.md sMp ≠ mBanked ∧ State.bareIch sMp = true ∧ State.memServed sMp 1 = true ∧
      64 * 6 < (State.port sMp 1).hdmSize ∧ List.length (State.port sMp 1).filter < 1048576 ∧ 0 + List.length (List.replicate 64 9) ≤ 64) ∧
    (State.linkL0 sMp 1 = true ∧ State.md sMp ≠ mBanked ∧ State.bareIch sMp = true ∧ State.memServed sMp 1 = true ∧
      64 * 6 < (State.port sMp 1).hdmSize ∧ List.length (State.port sMp 1).filter < 1048576 ∧ 61 + List.length [7, 7, 7] ≤ 64) ∧
    (State.linkL0 sL0 1 = true ∧ State.md sL0 ≠ mBanked ∧ State.bareIch sL0 = true ∧
      (State.memServed sL0 1 = false ∨ (State.port sL0 1).hdmSize ≤ 64 * 6)) ∧
    (State.linkL0 sMem 1 = true ∧ State.md sMem ≠ mBanked ∧ State.bareIch sMem = true ∧
      (State.memServed sMem 1 = false ∨ (State.port sMem 1).hdmSize ≤ 64 * 2 ^ 22)) ∧
    ((State.port (sSn true false [dw]) 1).snoops = [snp true false] ∧ (snp true false).line = 1 ∧ (snp true false).inv = true ∧
      (snp true false).host = [] ∧ (State.port (sSn true false [dw]) 1).devq = [dw] ∧ dw.irq = none ∧ linesIn dw.off (List.length dw.bytes) = [1] ∧
      (State.port (sSn true false [dw]) 1).filter = [1] ∧ (State.win (sSn true false [dw]) 1).doneq = [] ∧ (sSn true false [dw]).agentq = [] ∧
      State.bareIch (sSn true false [dw]) = true ∧ (State.port (sSn true false [dw]) 0).poison = [] ∧
      (State.port (sSn true false [dw]) 1).poison = [] ∧ List.length (List.replicate 64 9) = 64 ∧ dw.bytes ≠ []) :=
  by and_intros <;> decide +kernel

theorem witness_CoherentWindow_2 :
    ((State.port (sSn false false []) 1).snoops = [snp false false] ∧ (snp false false).line = 1 ∧
      (snp false false).sentAt + us (max 1 (State.get (sSn false false []) (F.HST_BI_TO_TIMEOUT 1))) ≤ State.cyc (sSn false false []) ∧
      (snp false false).again = false) ∧
    ((State.port (sSn false true []) 1).snoops = [snp false true] ∧ (snp false true).line = 1 ∧
      (snp false true).sentAt + us (max 1 (State.get (sSn false true []) (F.HST_BI_TO_TIMEOUT 1))) ≤ State.cyc (sSn false true []) ∧
      (snp false true).again = true ∧ (snp false true).host = [] ∧ (State.port (sSn false true []) 1).devq = [] ∧
      (State.win (sSn false true []) 1).doneq = [] ∧ (sSn false true []).agentq = []) :=
  by and_intros <;> decide +kernel

theorem witness_CoherentWindow_3 :
    ((State.linkL0 sBig 1 = true ∧ State.md sBig ≠ mBanked ∧ State.bareIch sBig = true ∧ State.memServed sBig 1 = true ∧
      64 * 1048576 < (State.port sBig 1).hdmSize ∧ (List.any (State.port sBig 1).snoops fun x => x.line == 0) = false) ∧
      1048576 ≤ List.length (State.port sBig 1).filter ∧ State.tracked sBig 1 1048576 = false ∧
      (State.port sBig 1).filter = 0 :: List.drop 1 (List.range 1048576)) :=
  ⟨by and_intros <;> decide +kernel,
      by rw [sBig_port, List.length_range], by simp [State.tracked, sBig_port], by rw [sBig_port]; dsimp only; generalize h : 1048576 = n; exact range_first n 1048575 (by omega)⟩

end Hosts

namespace Modes

def sq0 : SubQ := { head := 7, tail := 2, size := 8, cq := 0, prio := 0 }
def cq0 : CplQ := { size := 8, tail := 7, head := 3, irq := false }
def cqX : CplQ := { size := 4, waiting := [{ cid := 1, sq := 1, sqHead := 2, sct := 0, sc := 0, dw0 := 0 }] }
def sqX : SubQ := { head := 1, tail := 2, size := 4, cq := 9 }
def ctlA : Ctrl := { en := true, rdy := true, sqs := [(0, sq0), (3, sqX)], cqs := [(0, cq0), (9, cqX)], burst := 3, lpw := 255, mpw := 7, hpw := 1 }
def sAd : State := { ((upT.set F.GLB_MODE_MODE 4).set F.BEL_CTL_FETCH_EN 3).set (F.HST_LINK_STS_LTSSM 1) 3 with
  bel := { ctrls := [(1, ctlA)], vols := [(5, { present := true, attach := 15, size := 262144, owner := 0, policy := 0x7D, domain := 2 }), (7, { present := true, size := 262144, domain := 4 })], nextId := 9, seqNext := 7, blockEnd := 1048576, lastPort := 0 } }
def cA : Cmd := { id := 8, port := 1, ring := false, queue := 3, cid := 77, kind := .flush, vol := 5, lba := 3, len := 0, pgm := 0, irq := false, atime := 8, seq := 0, chead := 3, stage := .waitFlush, slot := 0 }
def sAb : State := { sAd with bel := { sAd.bel with cmds := [cA] } }
def cqY : CplQ := { size := 4 }
def s_AdminCommands_15 : State := { sAd with bel := { sAd.bel with ctrls := [(1, { ctlA with sqs := [(0, sq0)], cqs := [(0, cq0), (9, cqY)] })] } }
def aC : AdminCmd := { port := 1, cid := 21, op := 0x0D, vol := 6 }
def sCr (n : Nat) : State := { sAd with bel := { sAd.bel with admin := [aC], vols := [(6, { owner := 1, size := n, policy := 0x7D })] } }
def drvC : Drive := { cfg := 2 ^ 63 + 12 * 2 ^ 56, state := 1, resv := true, zones := 100 }
def sSz : State := { sAd with keys := { slots := [(4, { key := List.replicate 64 7, cls := 1 }), (17, { key := List.replicate 64 7, cls := 1 })] }, drv := { drives := [(1, drvC), (2, drvC) ] }, ddx := { maps := [(5 * 16384 + 5, { loc := 1, seq := 10, fp := 0, flags := 1 }), (5 * 16384 + 7, { loc := 1, seq := 10, fp := 0, flags := 1 })] } }
def sSoft : State := { sSz with stoves := [(3, { lock := some { strand := 1, urgent := false, slot := 17, key := [] } })] }
def sSd (kind mask step : Nat) : State := { (sSz.set F.BEL_STS_SANITIZING 1).set F.GLB_MODE_MODE 6 with mode := { sweepFrom := 3 }, jnl := { sSz.jnl with pairs := [(0, { e0 := some (1, [kind, 1, 0xFFFFFFFF, 5, 7, mask, step, 0x8000]) })] } }
def sFd : State := { sSz with jnl := { pairs := [(31, { e0 := some (1, [3, 1, 6, 5, 5, 1, 1, 0]) })] }, bel := { sSz.bel with vols := [(5, { present := true, size := 262144, format := 31 })] } }
def opt15 : Bytes := zeroBytes 15 ++ [0x7E] ++ zeroBytes 110
def sK : State := { (upT.set F.GLB_MODE_MODE 1).set F.JNL_STS_READY 1 with jnl := { upT.jnl with cur := opt15 } }
def sKs (b : Nat) : State := { sK.set F.CRL_STS_SESSION 1 with mode := { partnerByte := some b } }
def sF : State := { sK.set F.GLB_MODE_WAITING 1 with drv := { drives := [(1, drvC)] } }
def s_ModesChange_7 : State := sK.set F.GLB_MODE_QPHASE 1
def s_ModesChange_8 : State := sK.set F.GLB_MODE_MODE 3
def s_ModesChange_9 : State := upT.set F.GLB_MODE_MODE 3
def s_ModesChange_10 : State := sK.set F.JNL_STS_RECOVERING 1
def s_ModesChange_11 : State := sK.set F.GLB_MODE_MODE 3
def sBe : State := { sK.set F.GLB_MODE_MODE 3 with mode := { bankedEntry := true } }.set F.AND_MAP_PAIR 0xFFFFFFF0 |>.set F.AND_STS_SPARE 8
def sBk (m : Nat) : State := { sK.set F.GLB_MODE_MODE 5 with mode := { bankedFrom := m } }.set F.AND_MAP_PAIR 0xFFFFFFF0 |>.set F.DMP_STS_PARKED 15
def sBh : State := { ((sBk 3).set (F.HST_LINK_STS_LTSSM 1) 3).set F.BEL_CTL_FETCH_EN 3 with bel := { ctrls := [(1, { en := true, rdy := true, ps := 2, sqs := [(2, { head := 1, tail := 2, size := 4, cq := 1 })], cqs := [(1, {})] })] } }
def sBx : State := { sBk 4 with mode := { bankedFrom := 4, exitWanted := true } }

theorem witness_AdminCommands_1 :
    (State.turnOf sAb 1 0 = true ∧ State.md sAb ≠ mBanked ∧ sAb.bel.sanitizeFail = false ∧ Tab.find (State.ctrl sAb 1).sqs 0 = some sq0 ∧
      Tab.find (State.ctrl sAb 1).cqs sq0.cq = some cq0 ∧ sAb.bel.cmds = [cA] ∧ cA.ring = false ∧ cA.foreign = none ∧ cA.dead = false ∧ cA.port = 1 ∧
      cA.queue = 3 ∧ cA.cid = 77 ∧ State.gratesOf sAb (cmdUser cA.id) = [] ∧ cA.posted = false ∧ cA.stage ≠ CmdStage.forwarded ∧ 3 ≠ 0 ∧
      Tab.find (State.ctrl sAb 1).sqs 3 = some sqX ∧ Tab.find (State.ctrl sAb 1).cqs sqX.cq = some cqX ∧ sqX.cq ≠ sq0.cq) ∧
    (State.turnOf sAd 1 0 = true ∧ State.md sAd ≠ mBanked ∧ sAd.bel.sanitizeFail = false ∧ Tab.find (State.ctrl sAd 1).sqs 0 = some sq0 ∧
      Tab.find (State.ctrl sAd 1).cqs sq0.cq = some cq0 ∧ sAd.bel.cmds = []) ∧
    (State.turnOf sAd 1 0 = true ∧ State.md sAd ≠ mBanked ∧ sAd.bel.sanitizeFail = false ∧ Tab.find (State.ctrl sAd 1).sqs 0 = some sq0 ∧
      Tab.find (State.ctrl sAd 1).cqs sq0.cq = some cq0) ∧
    (State.turnOf sAd 1 0 = true ∧ State.md sAd ≠ mBanked ∧ sAd.bel.sanitizeFail = false ∧ Tab.find (State.ctrl sAd 1).sqs 0 = some sq0 ∧
      Tab.find (State.ctrl sAd 1).cqs sq0.cq = some cq0 ∧ State.linkL0 sAd 1 = true) ∧
    (State.turnOf sAd 1 0 = true ∧ State.md sAd ≠ mBanked ∧ sAd.bel.sanitizeFail = false ∧ Tab.find (State.ctrl sAd 1).sqs 0 = some sq0 ∧
      Tab.find (State.ctrl sAd 1).cqs sq0.cq = some cq0) ∧
    (State.turnOf sAd 1 0 = true ∧ State.md sAd ≠ mBanked ∧ sAd.bel.sanitizeFail = false ∧ Tab.find (State.ctrl sAd 1).sqs 0 = some sq0 ∧
      Tab.find (State.ctrl sAd 1).cqs sq0.cq = some cq0 ∧ State.linkL0 sAd 1 = true ∧ State.wantedPs sAd (1 - 1) = 2 ∧
      (State.md sAd = mDuplex ∨ State.md sAd = mSolo) ∧ sAd.mode.bankedEntry = false ∧ State.get sAd F.BEL_STS_HEAD_PS ≠ 2) ∧
    (State.turnOf sAd 1 0 = true ∧ State.md sAd ≠ mBanked ∧ sAd.bel.sanitizeFail = false ∧ Tab.find (State.ctrl sAd 1).sqs 0 = some sq0 ∧
      Tab.find (State.ctrl sAd 1).cqs sq0.cq = some cq0) ∧
    (State.turnOf sAd 1 0 = true ∧ State.md sAd ≠ mBanked ∧ sAd.bel.sanitizeFail = false ∧ Tab.find (State.ctrl sAd 1).sqs 0 = some sq0 ∧
      Tab.find (State.ctrl sAd 1).cqs sq0.cq = some cq0) ∧
    (State.turnOf sAd 1 0 = true ∧ State.md sAd ≠ mBanked ∧ sAd.bel.sanitizeFail = false ∧ Tab.find (State.ctrl sAd 1).sqs 0 = some sq0 ∧
      Tab.find (State.ctrl sAd 1).cqs sq0.cq = some cq0) ∧
    (State.turnOf sAd 1 0 = true ∧ State.md sAd ≠ mBanked ∧ sAd.bel.sanitizeFail = false ∧ Tab.find (State.ctrl sAd 1).sqs 0 = some sq0 ∧
      Tab.find (State.ctrl sAd 1).cqs sq0.cq = some cq0 ∧ 11 ≠ 1 ∧ 11 ≠ 2 ∧ 11 ≠ 7) :=
  by and_intros <;> decide +kernel

theorem witness_AdminCommands_2 :
    (State.turnOf sAd 1 0 = true ∧ State.md sAd ≠ mBanked ∧ sAd.bel.sanitizeFail = false ∧ Tab.find (State.ctrl sAd 1).sqs 0 = some sq0 ∧
      Tab.find (State.ctrl sAd 1).cqs sq0.cq = some cq0 ∧ Tab.find (State.ctrl sAd 1).cqs 4096 = none) ∧
    (State.turnOf sAd 1 0 = true ∧ State.md sAd ≠ mBanked ∧ sAd.bel.sanitizeFail = false ∧ Tab.find (State.ctrl sAd 1).sqs 0 = some sq0 ∧
      Tab.find (State.ctrl sAd 1).cqs sq0.cq = some cq0) ∧
    (State.turnOf sAd 1 0 = true ∧ State.md sAd ≠ mBanked ∧ sAd.bel.sanitizeFail = false ∧ Tab.find (State.ctrl sAd 1).sqs 0 = some sq0 ∧
      Tab.find (State.ctrl sAd 1).cqs sq0.cq = some cq0 ∧ Tab.find (State.ctrl sAd 1).sqs 4096 = none ∧ 9 ≠ 0 ∧
      Tab.find (State.ctrl sAd 1).cqs 9 = some cqX) ∧
    (State.turnOf sAd 1 0 = true ∧ State.md sAd ≠ mBanked ∧ sAd.bel.sanitizeFail = false ∧ Tab.find (State.ctrl sAd 1).sqs 0 = some sq0 ∧
      Tab.find (State.ctrl sAd 1).cqs sq0.cq = some cq0 ∧ 3 ≠ 0 ∧ Tab.find (State.ctrl sAd 1).sqs 3 = some sqX) ∧
    (State.turnOf s_AdminCommands_15 1 0 = true ∧ State.md s_AdminCommands_15 ≠ mBanked ∧ s_AdminCommands_15.bel.sanitizeFail = false ∧
      Tab.find (State.ctrl s_AdminCommands_15 1).sqs 0 = some sq0 ∧ Tab.find (State.ctrl s_AdminCommands_15 1).cqs sq0.cq = some cq0 ∧ 9 ≠ 0 ∧
      Tab.find (State.ctrl s_AdminCommands_15 1).cqs 9 = some cqY ∧ (∀ (e : Nat × SubQ), e ∈ (State.ctrl s_AdminCommands_15 1).sqs → e.snd.cq ≠ 9)) ∧
    (State.turnOf sAd 1 0 = true ∧ State.md sAd ≠ mBanked ∧ sAd.bel.sanitizeFail = false ∧ Tab.find (State.ctrl sAd 1).sqs 0 = some sq0 ∧
      Tab.find (State.ctrl sAd 1).cqs sq0.cq = some cq0) ∧
    (State.turnOf sAd 1 0 = true ∧ State.md sAd ≠ mBanked ∧ sAd.bel.sanitizeFail = false ∧ Tab.find (State.ctrl sAd 1).sqs 0 = some sq0 ∧
      Tab.find (State.ctrl sAd 1).cqs sq0.cq = some cq0) ∧
    (State.turnOf sAd 1 0 = true ∧ State.md sAd ≠ mBanked ∧ sAd.bel.sanitizeFail = false ∧ Tab.find (State.ctrl sAd 1).sqs 0 = some sq0 ∧
      Tab.find (State.ctrl sAd 1).cqs sq0.cq = some cq0) ∧
    (State.turnOf sAd 1 0 = true ∧ State.md sAd ≠ mBanked ∧ sAd.bel.sanitizeFail = false ∧ Tab.find (State.ctrl sAd 1).sqs 0 = some sq0 ∧
      Tab.find (State.ctrl sAd 1).cqs sq0.cq = some cq0 ∧ 6 ≠ 0 ∧ (State.vol sAd (6 - 1)).present = true) ∧
    (State.turnOf sAd 1 0 = true ∧ State.md sAd ≠ mBanked ∧ sAd.bel.sanitizeFail = false ∧ Tab.find (State.ctrl sAd 1).sqs 0 = some sq0 ∧
      Tab.find (State.ctrl sAd 1).cqs sq0.cq = some cq0) :=
  by and_intros <;> decide +kernel

theorem witness_AdminCommands_3 :
    (State.turnOf sAd 1 0 = true ∧ State.md sAd ≠ mBanked ∧ sAd.bel.sanitizeFail = false ∧ Tab.find (State.ctrl sAd 1).sqs 0 = some sq0 ∧
      Tab.find (State.ctrl sAd 1).cqs sq0.cq = some cq0) ∧
    (State.turnOf sAd 1 0 = true ∧ State.md sAd ≠ mBanked ∧ sAd.bel.sanitizeFail = false ∧ Tab.find (State.ctrl sAd 1).sqs 0 = some sq0 ∧
      Tab.find (State.ctrl sAd 1).cqs sq0.cq = some cq0 ∧ State.freeVol sAd 16384 0 = some 0) ∧
    ((sCr (2 ^ 38)).bel.admin = [aC] ∧ aC.op = 13 ∧ aC.vol = 6 ∧ Tab.find (State.ctrl (sCr (2 ^ 38)) aC.port).sqs 0 = some sq0 ∧
      Tab.find (State.ctrl (sCr (2 ^ 38)) aC.port).cqs sq0.cq = some cq0 ∧ (State.vol (sCr (2 ^ 38)) 6).size % 262144 = 0 ∧
      262144 ≤ (State.vol (sCr (2 ^ 38)) 6).size ∧ (State.vol (sCr (2 ^ 38)) 6).size ≤ 2 ^ 38 ∧
      State.sizeSum (sCr (2 ^ 38)) + (State.vol (sCr (2 ^ 38)) 6).size ≤ 2 ^ 44) ∧
    ((sCr (2 ^ 38 - 1)).bel.admin = [aC] ∧ aC.op = 13 ∧ aC.vol = 6 ∧ Tab.find (State.ctrl (sCr (2 ^ 38 - 1)) aC.port).sqs 0 = some sq0 ∧
      Tab.find (State.ctrl (sCr (2 ^ 38 - 1)) aC.port).cqs sq0.cq = some cq0 ∧ (State.vol (sCr (2 ^ 38 - 1)) 6).size % 262144 ≠ 0) :=
  by and_intros <;> decide +kernel

theorem witness_SanitizeAndFormat_1 :
    (State.turnOf sSz 1 0 = true ∧ State.md sSz ≠ mBanked ∧ sSz.bel.sanitizeFail = false ∧ Tab.find (State.ctrl sSz 1).sqs 0 = some sq0 ∧
      Tab.find (State.ctrl sSz 1).cqs sq0.cq = some cq0 ∧ State.getb sSz F.BEL_STS_SANITIZING = false ∧
      (State.md sSz = mDuplex ∨ State.md sSz = mSolo)) ∧
    (State.turnOf sSoft 1 0 = true ∧ State.md sSoft ≠ mBanked ∧ sSoft.bel.sanitizeFail = false ∧ Tab.find (State.ctrl sSoft 1).sqs 0 = some sq0 ∧
      Tab.find (State.ctrl sSoft 1).cqs sq0.cq = some cq0 ∧ State.getb sSoft F.BEL_STS_SANITIZING = false ∧
      (State.md sSoft = mDuplex ∨ State.md sSoft = mSolo)) ∧
    (State.turnOf sSoft 1 0 = true ∧ State.md sSoft ≠ mBanked ∧ sSoft.bel.sanitizeFail = false ∧ Tab.find (State.ctrl sSoft 1).sqs 0 = some sq0 ∧
      Tab.find (State.ctrl sSoft 1).cqs sq0.cq = some cq0 ∧ State.getb sSoft F.BEL_STS_SANITIZING = false ∧
      (State.md sSoft = mDuplex ∨ State.md sSoft = mSolo)) ∧
    (State.turnOf sSz 1 0 = true ∧ State.md sSz ≠ mBanked ∧ sSz.bel.sanitizeFail = false ∧ Tab.find (State.ctrl sSz 1).sqs 0 = some sq0 ∧
      Tab.find (State.ctrl sSz 1).cqs sq0.cq = some cq0 ∧ State.getb sSz F.BEL_STS_SANITIZING = false ∧
      (State.md sSz = mDuplex ∨ State.md sSz = mSolo)) ∧
    (State.getb (sSd 2 6 2) F.BEL_STS_SANITIZING = true ∧ (sSd 2 6 2).keys.erase = none ∧ State.qphase (sSd 2 6 2) ≠ 2 ∧
      State.md (sSd 2 6 2) = mSweep ∧ ((sSd 2 6 2).mode.sweepFrom = mDuplex ∨ (sSd 2 6 2).mode.sweepFrom = mSolo) ∧
      (sSd 2 6 2).mode.soloAfterSweep = false ∧ 1 ≤ State.prog (sSd 2 6 2) 0 6 ∧ (State.prog (sSd 2 6 2) 0 6 = 1 → State.prog (sSd 2 6 2) 0 4 ≠ 0) ∧
      (true = true → State.sanDone (sSd 2 6 2) = true)) ∧
    (State.getb (sSd 2 2 2) F.BEL_STS_SANITIZING = true ∧ (sSd 2 2 2).keys.erase = none ∧ State.qphase (sSd 2 2 2) ≠ 2 ∧
      State.md (sSd 2 2 2) = mSweep ∧ ((sSd 2 2 2).mode.sweepFrom = mDuplex ∨ (sSd 2 2 2).mode.sweepFrom = mSolo) ∧
      (sSd 2 2 2).mode.soloAfterSweep = false ∧ 1 ≤ State.prog (sSd 2 2 2) 0 6 ∧ (State.prog (sSd 2 2 2) 0 6 = 1 → State.prog (sSd 2 2 2) 0 4 ≠ 0) ∧
      (false = true → State.sanDone (sSd 2 2 2) = true)) ∧
    (State.getb (sSd 2 2 2) F.BEL_STS_SANITIZING = true ∧ (sSd 2 2 2).keys.erase = none ∧ State.qphase (sSd 2 2 2) ≠ 2 ∧
      State.md (sSd 2 2 2) = mSweep ∧ ((sSd 2 2 2).mode.sweepFrom = mDuplex ∨ (sSd 2 2 2).mode.sweepFrom = mSolo) ∧
      (sSd 2 2 2).mode.soloAfterSweep = false ∧ 1 ≤ State.prog (sSd 2 2 2) 0 6 ∧ (State.prog (sSd 2 2 2) 0 6 = 1 → State.prog (sSd 2 2 2) 0 4 ≠ 0) ∧
      true = true ∧ State.sanDone (sSd 2 2 2) = false) ∧
    (State.getb (sSd 1 0 1) F.BEL_STS_SANITIZING = true ∧ (sSd 1 0 1).keys.erase = none ∧ State.qphase (sSd 1 0 1) ≠ 2 ∧
      State.md (sSd 1 0 1) = mSweep ∧ ((sSd 1 0 1).mode.sweepFrom = mDuplex ∨ (sSd 1 0 1).mode.sweepFrom = mSolo) ∧
      (sSd 1 0 1).mode.soloAfterSweep = false ∧ 1 ≤ State.prog (sSd 1 0 1) 0 6 ∧ (State.prog (sSd 1 0 1) 0 6 = 1 → State.prog (sSd 1 0 1) 0 4 ≠ 0) ∧
      (true = true → State.sanDone (sSd 1 0 1) = true)) ∧
    (State.turnOf sSz 1 0 = true ∧ State.md sSz ≠ mBanked ∧ sSz.bel.sanitizeFail = false ∧ Tab.find (State.ctrl sSz 1).sqs 0 = some sq0 ∧
      Tab.find (State.ctrl sSz 1).cqs sq0.cq = some cq0 ∧ State.getb sSz F.BEL_STS_SANITIZING = false ∧ 6 ≠ 0 ∧
      (State.vol sSz (6 - 1)).present = true ∧ (State.vol sSz (6 - 1)).format = 0 ∧ State.freePair sSz = some 1) ∧
    (State.turnOf sSz 1 0 = true ∧ State.md sSz ≠ mBanked ∧ sSz.bel.sanitizeFail = false ∧ Tab.find (State.ctrl sSz 1).sqs 0 = some sq0 ∧
      Tab.find (State.ctrl sSz 1).cqs sq0.cq = some cq0 ∧ State.getb sSz F.BEL_STS_SANITIZING = false ∧ 6 ≠ 0 ∧
      (State.vol sSz (6 - 1)).present = true ∧ (State.vol sSz (6 - 1)).format = 0 ∧ State.freePair sSz = some 1) :=
  by and_intros <;> decide +kernel

theorem witness_SanitizeAndFormat_2 :
    (State.turnOf sSz 1 0 = true ∧ State.md sSz ≠ mBanked ∧ sSz.bel.sanitizeFail = false ∧ Tab.find (State.ctrl sSz 1).sqs 0 = some sq0 ∧
      Tab.find (State.ctrl sSz 1).cqs sq0.cq = some cq0 ∧ State.getb sSz F.BEL_STS_SANITIZING = false ∧ 6 ≠ 0 ∧
      (State.vol sSz (6 - 1)).present = true ∧ (State.vol sSz (6 - 1)).format = 0 ∧ State.freePair sSz = some 1 ∧
      (∀ (e : Nat × Vol), e ∈ sSz.bel.vols → e.fst ≠ 6 - 1 → e.snd.present = true → e.snd.domain ≠ (State.vol sSz (6 - 1)).domain)) ∧
    (31 ≠ 0 ∧ State.inProgress sFd 31 = true ∧ Tab.getD sFd.ddx.oldMaps 31 [] = []) :=
  by and_intros <;> decide +kernel

theorem witness_ModesChange_1 :
    (asksMode sK h0 = true ∧ State.md sK = mKindling ∧ State.recovered sK = true ∧ State.getb sK F.GLB_MODE_WAITING = false ∧
      (∀ (k : Nat), k < 32 → State.inProgress sK k = false) ∧ (State.session sK = false ∨ sK.mode.partnerByte = none)) ∧
    (asksMode (sKs 36) h0 = true ∧ State.md (sKs 36) = mKindling ∧ State.recovered (sKs 36) = true ∧ State.getb (sKs 36) F.GLB_MODE_WAITING = false ∧
      (∀ (k : Nat), k < 32 → State.inProgress (sKs 36) k = false) ∧ State.session (sKs 36) = true ∧ (sKs 36).mode.partnerByte = some 36 ∧
      (sKs 36).jnl.recs = [] ∧ 36 % 16 = mSolo ∧ State.modeAllowed (sKs 36) mJoining = true) ∧
    (asksMode (sKs 17) h0 = true ∧ State.md (sKs 17) = mKindling ∧ State.recovered (sKs 17) = true ∧ State.getb (sKs 17) F.GLB_MODE_WAITING = false ∧
      (∀ (k : Nat), k < 32 → State.inProgress (sKs 17) k = false) ∧ State.session (sKs 17) = true ∧ (sKs 17).mode.partnerByte = some 17 ∧
      (sKs 17).jnl.recs = [] ∧ 17 % 64 = 17 ∧ State.getb (sKs 17) F.GLB_MODE_UNMIRRORED = false) ∧
    (asksMode (sKs 49) h0 = true ∧ State.md (sKs 49) = mKindling ∧ State.recovered (sKs 49) = true ∧ State.getb (sKs 49) F.GLB_MODE_WAITING = false ∧
      (∀ (k : Nat), k < 32 → State.inProgress (sKs 49) k = false) ∧ State.session (sKs 49) = true ∧ (sKs 49).mode.partnerByte = some 49 ∧
      (sKs 49).jnl.recs = [] ∧ 49 % 64 = 49 ∧ State.getb (sKs 49) F.GLB_MODE_UNMIRRORED = false) ∧
    (asksMode sK h0 = true ∧ State.md sK = mKindling ∧ State.recovered sK = true ∧ State.modeAllowed sK mSweep = true) ∧
    (asksMode sF h0 = true ∧ State.md sF = mKindling ∧ State.getb sF F.GLB_MODE_WAITING = true ∧ State.session sF = false ∧
      State.modeAllowed sF mSolo = true ∧ sF.jnl.recs = [] ∧ State.anyDrive sF = true) ∧
    (State.writable s_ModesChange_7 h0 R.GLB_MODE_REQ = true ∧ State.getb s_ModesChange_7 F.GLB_MODE_REQ_BUSY = false ∧
      State.qphase s_ModesChange_7 ≠ 0) ∧
    (State.writable s_ModesChange_8 h0 R.GLB_MODE_REQ = true ∧ State.getb s_ModesChange_8 F.GLB_MODE_REQ_BUSY = false ∧
      State.qphase s_ModesChange_8 = 0 ∧ State.md s_ModesChange_8 = mDuplex) ∧
    (State.writable s_ModesChange_9 h0 R.GLB_MODE_REQ = true ∧ State.getb s_ModesChange_9 F.GLB_MODE_REQ_BUSY = false ∧
      State.qphase s_ModesChange_9 = 0 ∧ State.md s_ModesChange_9 = mDuplex ∧ State.modeAllowed s_ModesChange_9 mBanked = false) ∧
    (State.writable s_ModesChange_10 h0 R.GLB_MODE_REQ = true ∧ State.getb s_ModesChange_10 F.GLB_MODE_REQ_BUSY = false ∧
      State.qphase s_ModesChange_10 = 0 ∧ State.md s_ModesChange_10 = mKindling ∧ State.modeAllowed s_ModesChange_10 mSweep = true ∧
      State.recovered s_ModesChange_10 = false) :=
  by and_intros <;> decide +kernel

theorem witness_ModesChange_2 :
    (asksMode s_ModesChange_11 h0 = true ∧ (State.md s_ModesChange_11 = mDuplex ∨ State.md s_ModesChange_11 = mSolo) ∧
      State.modeAllowed s_ModesChange_11 mBanked = true ∧ State.getb s_ModesChange_11 F.BEL_STS_SANITIZING = false ∧
      State.formats s_ModesChange_11 = 0 ∧ s_ModesChange_11.mode.bankedEntry = false ∧ s_ModesChange_11.ich.waiting = []) ∧
    (State.md sBh = mBanked ∧ State.linkL0 sBh 1 = true) ∧
    (2 ≠ 0 ∧ State.md sBh = mBanked ∧ State.portFetches sBh 1 = true ∧ State.sqVisible sBh 1 2 = true) ∧
    (State.entryOver sBe = true ∧ State.otherSlots sBe = []) ∧
    (State.entryOver sK = false) ∧
    (asksMode (sBk 3) h0 = true ∧ State.md (sBk 3) = mBanked ∧ (sBk 3).mode.bankedFrom = if false = true then mSolo else mDuplex) ∧
    (asksMode (sBk 4) h0 = true ∧ State.md (sBk 4) = mBanked ∧ (sBk 4).mode.bankedFrom = if true = true then mSolo else mDuplex) ∧
    (State.md sBx = mBanked ∧ (sBx.mode.bankedFrom = mDuplex ∨ sBx.mode.bankedFrom = mSolo) ∧ State.qphase sBx ≠ 2 ∧ sBx.mode.exitWanted = true ∧
      sBx.mode.held = [] ∧ sBx.tick.heldCuts = [] ∧ State.otherSlots sBx = []) ∧
    (State.md sK ≠ mBanked) :=
  by and_intros <;> decide +kernel

end Modes

namespace Link

def optL : Bytes := zeroBytes 15 ++ [0x7E] ++ zeroBytes 16 ++ [1, 2, 3, 4, 5, 6, 7, 8] ++ [0xFE, 0xFF] ++ zeroBytes 86
def sO : State := { (upT.set F.CRL_CTL_EN 1).set F.GLB_MODE_MODE 3 with jnl := { upT.jnl with cur := optL }, keys := { aroot := some (zeroBytes 32), slots := [(1, { key := List.replicate 64 7, cls := 1 })] } }
def sSe : State := sO.set F.CRL_STS_SESSION 1
def sLk : State := ((sSe.set F.CRL_STS_LINK_UP 1).set F.CRL_STS_WIDTH 8).set F.CRL_STS_LANES_UP 0x01FE
def s_LinkAndSessions_6 : State := at_ sLk 900000000
def n1 : Bytes := List.replicate 16 0x11
def n2 : Bytes := List.replicate 16 0x22
def sHl : State := { (sLk.set F.CRL_STS_SESSION 0) with crl := { nonceOwn := n1, genOwn := 7 } }
def s_LinkAndSessions_10 : State := { sHl with crl := { refused := true, genOwn := 7 } }
def s_LinkAndSessions_11 : State := { sSe with crl := { inbox := [(7, 1, [0x60])] } }
/-- What head 1 sends. -/
def prt : State := { sHl.set F.GLB_ID_HEAD 1 with crl := { nonceOwn := n2, genOwn := 9 } }
def hel : Bytes := prt.crlMessage 7 0x60 (helloBody prt)
def sHi (m : Bytes) : State := { sHl.set F.CRL_STS_LINK_UP 0 with crl := { sHl.crl with inbox := [(7, 1, m)] } }
theorem sHi_inbox (m : Bytes) : (sHi m).crl.inbox = [(7, 1, m)] := rfl
def hel0 : Bytes := sHl.crlMessage 7 0x60 (helloBody sHl)
def hel1 : Hello := { head := 1, gen := 9, nonce := n2, mode := 0x13, src := 0, atime := 150200000, arrived := 150000000 }
def sPf (m : Bytes) : State := { (sHi m) with crl := { (sHi m).crl with hello := some hel1 } }
def prf : Bytes := prt.crlMessage 7 0x61 ((sPf []).proofMac 1 n2)
def prf' : Bytes := prt.crlMessage 7 0x61 ((sPf []).proofMac 0 n2)
def ref : Bytes := prt.crlMessage 7 0x62 ([5] ++ zeroBytes 7)
def hf (q : Nat) : HeldFrame := { seq := q, vc := 1, payload := [1], som := true, eom := true }
def sFr : State := { sLk with crl := { replay := [hf 0xFFFFFF, hf 0, hf 1], lastAck := 5, replayAt := 3 } }
def msg40 : Bytes := [0x40, 1, 0, 0] ++ leBytes 4 64 ++ zeroBytes 56
def s_FramesAreExchanged_2 : State := sFr.set F.CRL_SEQ_RX_EXP 0xFFFFFF
def s_FramesAreExchanged_3 : State := sFr.set F.CRL_SEQ_RX_EXP 2
def s_FramesAreExchanged_9 : State := at_ sFr 90000000000
def s_FramesAreExchanged_10 : State := (at_ sFr 90000000000).set F.CRL_TIMERS_REPLAY_MAX 0
def par : State := { sSe.set F.GLB_ID_HEAD 1 with crl := { ivc := 77 } }
def inb (vc : Nat) (m : Bytes) : State := { sSe.set F.JNL_STS_READY 1 with crl := { inbox := [(vc, 2, m)], rxFreed := [(vc, 1023)] }, jnl := { sSe.jnl with credit := 40960, creditAt := sSe.cyc } }
theorem inb_inbox (vc : Nat) (m : Bytes) : (inb vc m).crl.inbox = [(vc, 2, m)] := rfl
def bdy (r : JRec) : Bytes := { r with pdig := (sha256 r.data).take 16 }.bytes
def rSt : JRec := { seq := 70, atime := 5, type := 5, mirror := false, origin := 1, vol := 0, lba := 9, body := .stripe (List.replicate 320 3) }
def sealIt (vc t : Nat) (b : Bytes) : Bytes := par.crlMessage vc t b
def mMr : Bytes := sealIt 0 2 (bdy rSt)
def bad1 : Bytes := rSt.bytes
def mMb : Bytes := sealIt 0 2 bad1
def old1 : JRec := { rSt with mirror := true, committed := true }
def sOld : State := { inb 0 mMr with jnl := { (inb 0 mMr).jnl with recs := [old1] } }
def oldU : JRec := { old1 with committed := false }
def sOldU : State := { inb 0 mMr with jnl := { (inb 0 mMr).jnl with recs := [{ old1 with committed := false }] } }
def slotV4 : PSlot := { state := 2, size64 := 1, pgm := 4, units := 0xFFFFFFFF, entries := [3, 3, 3, 3, 3, 3, 3, 3] }
def stv4 (s : State) : State := { s.set (F.STV_CTL_EN 15) 1 with stoves := [(15, { pslots := [(0, slotV4)] })] }
def pay1 : Bytes := (List.range 4096).map (fun i => BitVec.ofNat 8 (i / 5))
/-- A payload of 40 bytes, whose digest is soon taken. -/
def pay2 : Bytes := (List.range 40).map (fun i => BitVec.ofNat 8 (i / 5))
def rWs : JRec := { seq := 71, atime := 5, type := 1, mirror := false, origin := 1, vol := 3, lba := 9, len := 4096, pdig := (sha256 pay2).take 16 }
def rWr : JRec := { seq := 71, atime := 5, type := 1, mirror := false, origin := 1, vol := 3, lba := 9, len := 4096, pdig := List.replicate 16 5 }
def mMd : Bytes := [1, 1, 0, 0] ++ leBytes 4 4272 ++ zeroBytes 4264
theorem mMd_length : mMd.length = 4272 := by unfold mMd zeroBytes; rw [List.length_append, List.length_replicate]; rfl
def bRf : Bytes := rWs.bytes ++ leBytes 8 44
def mRf : Bytes := sealIt 0 3 bRf
def cFw : Cmd := { id := 44, port := 1, ring := false, queue := 1, cid := 77, kind := .write, vol := 3, lba := 9, len := 4096, pgm := 0, irq := true, atime := 8, seq := 0, chead := 3, stage := .forwarded, slot := 3, payload := pay2 }
def sRf : State := { inb 0 mRf with bel := { cmds := [cFw] } }
/-- A message cut short of its tag. -/
def mBr : Bytes := [2, 1, 0, 0, 0, 0, 0, 0]
def eC (st : Nat) : Bytes := mcommitBody 0 71 st
def mC (st : Nat) : Bytes := sealIt 1 0x10 (eC st)
def rOwn : JRec := { rWr with origin := 0, tag := 4 }
def rOwl : JRec := { rOwn with type := 5, body := .stripe (List.replicate 320 3) }
def sC (r : JRec) (st : Nat) : State := { inb 1 (mC st) with crl := { (inb 1 (mC st)).crl with mirWait := [(r.key, { sentAt := 5, fails := 1 })] }, jnl := { (inb 1 (mC st)).jnl with recs := [r] } }
def s_MirrorCopies_10 : State := (sC rOwl 1).set F.CRL_MIR_CFG_RETRY 2
def s_MirrorCopies_11 : State := ((sC rOwl 3).set F.CRL_STS_LINK_UP 1).set F.CRL_MIR_CFG_RETRY 1
def s_MirrorCopies_13 : State := { (sC rOwl 3).set (F.GRT_CH_RSV_RSV 3) 0 with pool := { stalled := [3] } }
def s_MirrorCopies_14 : State := at_ (sC rOwl 3) 6
def rMw : JRec := { rWr with mirror := true, tag := 4, committed := true }
def eR : Bytes := mcommitBody 1 71 0
def mR : Bytes := sealIt 1 0x11 eR
def sR : State := { inb 1 mR with jnl := { (inb 1 mR).jnl with recs := [rMw], staging := [(rMw.key, pay1)] }, pool := { held := [(3, { chan := 2, journalled := true, atime := 5, user := cmdUser 4 })] } }

theorem witness_LinkAndSessions_1 :
    (State.released sSe dCrl = true ∧ State.getb sSe F.CRL_CTL_EN = true ∧ State.getb sSe F.CRL_STS_LINK_UP = false ∧ State.lostDue sSe = false ∧
      8 = crlWidth (min (lanesIn (Nat.land 65535 (leAt sSe.jnl.cur 40 2))) 16) ∧ 8 ≠ 0 ∧ State.session sSe = true ∧ sSe.crl.replay = [] ∧
      sSe.crl.txq = []) ∧
    ((State.getb sSe F.CRL_CTL_EN = false ∨ Nat.land 1 (leAt sSe.jnl.cur 40 2) = 0 ∨ 0 = 0)) ∧
    (State.released sO dCrl = true ∧ State.getb sO F.CRL_CTL_EN = true ∧ State.getb sO F.CRL_STS_LINK_UP = false ∧ State.lostDue sO = false ∧
      2 = crlWidth (min (lanesIn (Nat.land 65535 (leAt sO.jnl.cur 40 2))) 3) ∧ 2 ≠ 0 ∧ State.session sO = false) ∧
    (State.getb sLk F.CRL_STS_LINK_UP = true ∧ State.bitOf sLk F.CRL_STS_LANES_UP 8 = true) ∧
    (State.getb sLk F.CRL_STS_LINK_UP = true ∧ State.bitOf sLk F.CRL_STS_LANES_UP 0 = false) ∧
    (State.getb s_LinkAndSessions_6 F.CRL_STS_LINK_UP = true ∧
      s_LinkAndSessions_6.crl.frameAt + 10 * max 1 (State.get s_LinkAndSessions_6 F.CRL_TIMERS_LINK_TO) ≤ State.cyc s_LinkAndSessions_6) ∧
    (State.writable sLk h0 R.CRL_CTL = true ∧ (bit 327681 0 = true ∨ State.getb sLk F.CRL_CTL_EN = false)) ∧
    (State.writable sLk h0 R.CRL_CTL = true ∧ bit 327680 0 = false ∧ State.getb sLk F.CRL_CTL_EN = true ∧ State.session sLk = true ∧
      State.getb sLk F.CRL_STS_LINK_UP = true) ∧
    (State.getb sHl F.CRL_STS_LINK_UP = true ∧ State.session sHl = false ∧ sHl.crl.refused = false ∧ sHl.crl.hello = none ∧
      sHl.crl.helloAt + ms 1 ≤ State.cyc sHl ∧ sHl.crl.nonceOwn ≠ [] ∧ sHl.crl.txq = [] ∧ sHl.crl.replay = [] ∧ sHl.crl.sinceIdle < 2047 ∧
      List.length sHl.crl.nonceOwn = 16) ∧
    (State.getb s_LinkAndSessions_10 F.CRL_STS_LINK_UP = true ∧ State.session s_LinkAndSessions_10 = false ∧ s_LinkAndSessions_10.crl.refused = true ∧
      s_LinkAndSessions_10.crl.helloAt + sec 1 ≤ State.cyc s_LinkAndSessions_10) :=
  by and_intros <;> decide +kernel

theorem witness_LinkAndSessions_2 :
    ((State.released s_LinkAndSessions_11 dCrl = true ∧ leAt [96] 0 1 = 96 ∧ State.session s_LinkAndSessions_11 = true) ∧
      s_LinkAndSessions_11.crl.inbox = [(7, 1, [96])]) ∧
    ((State.released (sHi hel) dCrl = true ∧ leAt hel 0 1 = 96 ∧ State.session (sHi hel) = false ∧ (sHi hel).crl.nonceOwn ≠ [] ∧
      State.getb (sHi hel) F.CRL_STS_LINK_UP = false ∧ (sHi hel).crl.hello = none ∧ slice hel 24 8 = slice (sHi hel).jnl.cur 32 8 ∧
      leAt hel 18 1 = 1 - State.head (sHi hel) ∧ State.head (sHi hel) < 2 ∧ bit (leAt hel 19 1) 0 = true ∧ Option.isSome (sHi hel).keys.aroot = true ∧
      leAt hel 16 2 = 1) ∧ (sHi hel).crl.inbox = [(7, 1, hel)]) ∧
    ((State.released (sHi hel0) dCrl = true ∧ leAt hel0 0 1 = 96 ∧ State.session (sHi hel0) = false ∧ (sHi hel0).crl.nonceOwn ≠ [] ∧
      State.getb (sHi hel0) F.CRL_STS_LINK_UP = false ∧ 2 = State.helloReason (sHi hel0) (List.drop 16 hel0) ∧ 2 ≠ 0) ∧
      (sHi hel0).crl.inbox = [(7, 1, hel0)]) ∧
    ((State.released (sPf prf) dCrl = true ∧ leAt prf 0 1 = 97 ∧ (sPf prf).crl.hello = some hel1 ∧ State.session (sPf prf) = false ∧
      slice prf 16 32 = State.proofMac (sPf prf) hel1.head hel1.nonce ∧ State.md (sPf prf) ≠ mKindling ∧ (sPf prf).bel.cmds = [] ∧
      (sPf prf).ddx.fwd = [] ∧ (sPf prf).and.settling = [] ∧ (State.get (sPf prf) F.TICK_CTL_SRC ≠ 1 ∨ hel1.src ≠ 1)) ∧
      (sPf prf).crl.inbox = [(7, 1, prf)]) ∧
    ((State.released (sPf prf') dCrl = true ∧ leAt prf' 0 1 = 97 ∧ (sPf prf').crl.hello = some hel1 ∧ State.session (sPf prf') = false ∧
      slice prf' 16 32 ≠ State.proofMac (sPf prf') hel1.head hel1.nonce ∧ State.getb (sPf prf') F.CRL_STS_LINK_UP = false) ∧
      (sPf prf').crl.inbox = [(7, 1, prf')]) :=
  ⟨⟨by and_intros <;> decide +kernel, rfl⟩, ⟨by and_intros <;> decide +kernel, sHi_inbox _⟩, ⟨by and_intros <;> decide +kernel,
      sHi_inbox _⟩, ⟨by and_intros <;> decide +kernel, by simp only [sPf, sHi_inbox]⟩, ⟨by and_intros <;> decide +kernel,
      by simp only [sPf, sHi_inbox]⟩⟩

theorem witness_LinkAndSessions_3 :
    ((State.released (sHi ref) dCrl = true ∧ leAt ref 0 1 = 98) ∧ (sHi ref).crl.inbox = [(7, 1, ref)]) :=
  ⟨by and_intros <;> decide +kernel, sHi_inbox _⟩

theorem witness_FramesAreExchanged_1 :
    (State.getb sFr F.CRL_STS_LINK_UP = true ∧ sFr.crl.nakAt = none ∧ sFr.crl.sinceIdle < 2047) ∧
    (State.getb s_FramesAreExchanged_9 F.CRL_STS_LINK_UP = true ∧ s_FramesAreExchanged_9.crl.replay ≠ [] ∧
      s_FramesAreExchanged_9.crl.replayAt + 10 * max 1 (State.get s_FramesAreExchanged_9 F.CRL_TIMERS_REPLAY_TO) ≤ State.cyc s_FramesAreExchanged_9 ∧
      s_FramesAreExchanged_9.crl.replays + 1 < max 1 (State.get s_FramesAreExchanged_9 F.CRL_TIMERS_REPLAY_MAX)) ∧
    (State.getb s_FramesAreExchanged_10 F.CRL_STS_LINK_UP = true ∧ s_FramesAreExchanged_10.crl.replay ≠ [] ∧
      s_FramesAreExchanged_10.crl.replayAt + 10 * max 1 (State.get s_FramesAreExchanged_10 F.CRL_TIMERS_REPLAY_TO) ≤ State.cyc s_FramesAreExchanged_10 ∧
      max 1 (State.get s_FramesAreExchanged_10 F.CRL_TIMERS_REPLAY_MAX) ≤ s_FramesAreExchanged_10.crl.replays + 1) :=
  by and_intros <;> decide +kernel

theorem witness_FramesAreExchanged_2 :
    ((State.getb sFr F.CRL_STS_LINK_UP = true ∧ fKind (frameBytes 0 0 0 0 false false 4 1023 []) = 0 ∧ sFr.crl.txq = [] ∧
      (∀ (e : Nat × Grate), e ∈ sFr.pool.held → e.snd.chan ≠ 3)) ∧ frameCorrupt (frameBytes 0 0 0 0 false false 4 1023 []) = false) ∧
    ((State.getb s_FramesAreExchanged_2 F.CRL_STS_LINK_UP = true ∧ fKind (frameBytes 1 4 16777215 0 true true 4 1023 msg40) = 1 ∧
      s_FramesAreExchanged_2.crl.txq = [] ∧ (∀ (e : Nat × Grate), e ∈ s_FramesAreExchanged_2.pool.held → e.snd.chan ≠ 3) ∧
      fSeq (frameBytes 1 4 16777215 0 true true 4 1023 msg40) = State.get s_FramesAreExchanged_2 F.CRL_SEQ_RX_EXP ∧
      msg40 = slice (frameBytes 1 4 16777215 0 true true 4 1023 msg40) 10 (fLen (frameBytes 1 4 16777215 0 true true 4 1023 msg40)) ∧
      bit (fFc (frameBytes 1 4 16777215 0 true true 4 1023 msg40)) 9 = true ∧ bit (fFc (frameBytes 1 4 16777215 0 true true 4 1023 msg40)) 10 = true ∧
      16 ≤ List.length msg40 ∧ leAt msg40 4 4 = List.length msg40 ∧ mlenOk (leAt msg40 0 1) (List.length msg40) = true ∧
      fVc (frameBytes 1 4 16777215 0 true true 4 1023 msg40) < 5 ∧ State.session s_FramesAreExchanged_2 = true ∧
      Tab.find s_FramesAreExchanged_2.crl.opened (fVc (frameBytes 1 4 16777215 0 true true 4 1023 msg40)) = none) ∧
      frameCorrupt (frameBytes 1 4 16777215 0 true true 4 1023 msg40) = false) ∧
    ((State.getb s_FramesAreExchanged_3 F.CRL_STS_LINK_UP = true ∧ fKind (frameBytes 1 4 16777215 0 true true 4 1023 msg40) = 1 ∧
      s_FramesAreExchanged_3.crl.txq = [] ∧ (∀ (e : Nat × Grate), e ∈ s_FramesAreExchanged_3.pool.held → e.snd.chan ≠ 3) ∧
      fSeq (frameBytes 1 4 16777215 0 true true 4 1023 msg40) ≠ State.get s_FramesAreExchanged_3 F.CRL_SEQ_RX_EXP ∧
      (State.get s_FramesAreExchanged_3 F.CRL_SEQ_RX_EXP + 2 ^ 24 - fSeq (frameBytes 1 4 16777215 0 true true 4 1023 msg40)) % 2 ^ 24 < 2 ^ 23) ∧
      frameCorrupt (frameBytes 1 4 16777215 0 true true 4 1023 msg40) = false) ∧
    ((State.getb sFr F.CRL_STS_LINK_UP = true ∧ sFr.crl.nakAt = none ∧ sFr.crl.sinceIdle < 2047) ∧ frameCorrupt (zeroBytes 270) = true) ∧
    ((State.getb sFr F.CRL_STS_LINK_UP = true ∧ sFr.crl.nakAt = none ∧ sFr.crl.sinceIdle < 2047) ∧ frameCorrupt (zeroBytes 270) = true) :=
  ⟨⟨by and_intros <;> decide +kernel, by simp only [frameCorrupt, frameBytes, crc32c_run]; decide +kernel⟩, ⟨by and_intros <;> decide +kernel,
      by simp only [frameCorrupt, frameBytes, crc32c_run]; decide +kernel⟩, ⟨by and_intros <;> decide +kernel,
      by simp only [frameCorrupt, frameBytes, crc32c_run]; decide +kernel⟩, ⟨by and_intros <;> decide +kernel,
      by simp only [frameCorrupt, crc32c_run]; decide +kernel⟩, ⟨by and_intros <;> decide +kernel,
      by simp only [frameCorrupt, crc32c_run]; decide +kernel⟩⟩

theorem witness_FramesAreExchanged_3 :
    ((State.getb sFr F.CRL_STS_LINK_UP = true ∧ sFr.crl.nakAt = none ∧ sFr.crl.sinceIdle < 2047) ∧ frameCorrupt (zeroBytes 270) = true) ∧
    ((State.getb sFr F.CRL_STS_LINK_UP = true ∧ fKind (frameBytes 2 0 0 16777214 false false 0 0 []) = 2 ∧ sFr.crl.txq = [] ∧
      (∀ (e : Nat × Grate), e ∈ sFr.pool.held → e.snd.chan ≠ 3) ∧ sFr.crl.replay ≠ [] ∧
      (∀ (f : HeldFrame), f ∈ sFr.crl.replay → acks (fAck (frameBytes 2 0 0 16777214 false false 0 0 [])) f.seq = false) ∧
      sFr.crl.replays + 1 < max 1 (State.get sFr F.CRL_TIMERS_REPLAY_MAX)) ∧ frameCorrupt (frameBytes 2 0 0 16777214 false false 0 0 []) = false) :=
  ⟨⟨by and_intros <;> decide +kernel, by simp only [frameCorrupt, crc32c_run]; decide +kernel⟩, ⟨by and_intros <;> decide +kernel,
      by simp only [frameCorrupt, frameBytes, crc32c_run]; decide +kernel⟩⟩

theorem witness_MirrorCopies_1 :
    (State.rec? (sC rOwl 3) false 0 71 = some rOwl ∧ Tab.find (sC rOwl 3).crl.mirWait (JRec.key rOwl) = some { sentAt := 5, fails := 1 : MirWait } ∧
      State.session (sC rOwl 3) = true ∧
      { sentAt := 5, fails := 1 : MirWait }.sentAt + us (max 1 (State.get (sC rOwl 3) F.CRL_MIR_CFG_COMMIT_TO)) ≤ State.cyc (sC rOwl 3) ∧
      State.getb (sC rOwl 3) F.CRL_STS_LINK_UP = false ∧ rOwl.type ≠ 1 ∧ (sC rOwl 3).crl.mirOut = [] ∧ State.canReserve (sC rOwl 3) 3 = true ∧
      (sC rOwl 3).pool.waiting = [] ∧ State.freeGrate (sC rOwl 3) = some 0 ∧ State.gratesOf (sC rOwl 3) (mirUser (sC rOwl 3).bel.nextId) = [] ∧
      mirGrates (JRec.bytes rOwl) = 1) ∧
    (State.rec? s_MirrorCopies_13 false 0 71 = some rOwl ∧
      Tab.find s_MirrorCopies_13.crl.mirWait (JRec.key rOwl) = some { sentAt := 5, fails := 1 : MirWait } ∧ State.session s_MirrorCopies_13 = true ∧
      { sentAt := 5, fails := 1 : MirWait }.sentAt + us (max 1 (State.get s_MirrorCopies_13 F.CRL_MIR_CFG_COMMIT_TO)) ≤ State.cyc s_MirrorCopies_13 ∧
      rOwl.type ≠ 1 ∧ s_MirrorCopies_13.crl.mirOut = [] ∧ State.canReserve s_MirrorCopies_13 3 = false ∧ State.canShare s_MirrorCopies_13 3 = false ∧
      State.gratesOf s_MirrorCopies_13 (mirUser s_MirrorCopies_13.bel.nextId) = [] ∧ mirGrates (JRec.bytes rOwl) = 1) ∧
    (State.rec? s_MirrorCopies_14 false 0 71 = some rOwl ∧
      Tab.find s_MirrorCopies_14.crl.mirWait (JRec.key rOwl) = some { sentAt := 5, fails := 1 : MirWait } ∧ State.session s_MirrorCopies_14 = true ∧
      State.cyc s_MirrorCopies_14 < { sentAt := 5, fails := 1 : MirWait }.sentAt + us (max 1 (State.get s_MirrorCopies_14 F.CRL_MIR_CFG_COMMIT_TO))) :=
  by and_intros <;> decide +kernel

theorem witness_MirrorCopies_2 :
    ((State.released (inb 0 mMr) dCrl = true ∧ leAt mMr 0 1 = 2 ∧ (0 = 0 ∨ 0 = 2 → State.md (inb 0 mMr) ≠ mBanked ∧ State.qphase (inb 0 mMr) ≠ 2) ∧
      State.mirOpen (inb 0 mMr) = true ∧ State.rec? (inb 0 mMr) true (mirRec (bdy rSt)).origin (mirRec (bdy rSt)).seq = none ∧
      recDigestOk (bdy rSt) = true ∧ (mirRec (bdy rSt)).seq ≠ 0 ∧ State.getb (inb 0 mMr) F.JNL_STS_READY = true ∧
      State.jnlStopped (inb 0 mMr) = false ∧ Option.isSome (State.place (inb 0 mMr) (JRec.lines (mirRec (bdy rSt)))) = true ∧
      (inb 0 mMr).jnl.waiting = []) ∧ (inb 0 mMr).crl.inbox = [(0, 2, mMr)] ∧ State.crlOpen (inb 0 mMr) mMr = some (bdy rSt) ∧
      mirRec (bdy rSt) = mirRec (bdy rSt)) ∧
    ((State.released (inb 0 mMb) dCrl = true ∧ leAt mMb 0 1 = 2 ∧ (0 = 0 ∨ 0 = 2 → State.md (inb 0 mMb) ≠ mBanked ∧ State.qphase (inb 0 mMb) ≠ 2) ∧
      State.mirOpen (inb 0 mMb) = true ∧ mirRec bad1 = mirRec bad1 ∧ State.rec? (inb 0 mMb) true (mirRec bad1).origin (mirRec bad1).seq = none ∧
      recDigestOk bad1 = false ∧ State.session (inb 0 mMb) = true ∧ State.getb (inb 0 mMb) F.CRL_STS_LINK_UP = false) ∧
      (inb 0 mMb).crl.inbox = [(0, 2, mMb)] ∧ State.crlOpen (inb 0 mMb) mMb = some bad1) ∧
    ((State.released sOld dCrl = true ∧ leAt mMr 0 1 = 2 ∧ (0 = 0 ∨ 0 = 2 → State.md sOld ≠ mBanked ∧ State.qphase sOld ≠ 2) ∧
      State.mirOpen sOld = true ∧ State.rec? sOld true (mirRec (bdy rSt)).origin (mirRec (bdy rSt)).seq = some old1 ∧ old1.committed = true ∧
      State.session sOld = true ∧ State.getb sOld F.CRL_STS_LINK_UP = false) ∧ sOld.crl.inbox = [(0, 2, mMr)] ∧
      State.crlOpen sOld mMr = some (bdy rSt) ∧ mirRec (bdy rSt) = mirRec (bdy rSt)) ∧
    ((State.released sOldU dCrl = true ∧ leAt mMr 0 1 = 2 ∧ (0 = 0 ∨ 0 = 2 → State.md sOldU ≠ mBanked ∧ State.qphase sOldU ≠ 2) ∧
      State.mirOpen sOldU = true ∧ State.rec? sOldU true (mirRec (bdy rSt)).origin (mirRec (bdy rSt)).seq = some oldU ∧ oldU.committed = false) ∧
      sOldU.crl.inbox = [(0, 2, mMr)] ∧ State.crlOpen sOldU mMr = some (bdy rSt) ∧ mirRec (bdy rSt) = mirRec (bdy rSt)) ∧
    ((State.released (stv4 (inb 0 mMd)) dCrl = true ∧ leAt mMd 0 1 = 1 ∧ State.mirOpen (stv4 (inb 0 mMd)) = true ∧
      State.md (stv4 (inb 0 mMd)) ≠ mBanked ∧ State.qphase (stv4 (inb 0 mMd)) ≠ 2 ∧ (∃ v, State.chooseStove (stv4 (inb 0 mMd)) 4 5 = some v ∧
      List.length (State.stove (stv4 (inb 0 mMd)) v).queue < 256) ∧ (stv4 (inb 0 mMd)).bel.cmds = [] ∧ (stv4 (inb 0 mMd)).crl.mirIn = [] ∧
      (stv4 (inb 0 mMd)).crl.mirOut = [] ∧ (stv4 (inb 0 mMd)).jnl.regain = [] ∧ (List.all (stv4 (inb 0 mMd)).drv.cmds fun x => x.sent) = true ∧
      State.canReserve (stv4 (inb 0 mMd)) 2 = true ∧ State.freeGrate (stv4 (inb 0 mMd)) = some 0 ∧
      State.gratesOf (stv4 (inb 0 mMd)) (cmdUser (stv4 (inb 0 mMd)).bel.nextId) = []) ∧ (stv4 (inb 0 mMd)).crl.inbox = [(0, 2, mMd)] ∧
      mirGranules mMd = 1) :=
  ⟨⟨by and_intros <;> decide +kernel,
      inb_inbox _ _, crlOpen_crlMessage (inb 0 mMr) par 0 2 (bdy rSt) (by decide) (by decide +kernel) (by decide +kernel) (slotK1_length _ _ (by decide +kernel)), rfl⟩, ⟨by and_intros <;> decide +kernel,
      inb_inbox _ _, crlOpen_crlMessage (inb 0 mMb) par 0 2 bad1 (by decide) (by decide +kernel) (by decide +kernel) (slotK1_length _ _ (by decide +kernel))⟩, ⟨by and_intros <;> decide +kernel,
      by simp only [sOld, inb_inbox], crlOpen_crlMessage sOld par 0 2 (bdy rSt) (by decide) (by decide +kernel) (by decide +kernel) (slotK1_length _ _ (by decide +kernel)), rfl⟩, ⟨by and_intros <;> decide +kernel,
      by simp only [sOldU, inb_inbox], crlOpen_crlMessage sOldU par 0 2 (bdy rSt) (by decide) (by decide +kernel) (by decide +kernel) (slotK1_length _ _ (by decide +kernel)), rfl⟩, ⟨by and_intros <;> decide +kernel,
      by simp only [stv4, State.set_crl, inb_inbox], by have := mMd_length; unfold mirGranules; omega⟩⟩

theorem witness_MirrorCopies_3 :
    ((State.released sRf dCrl = true ∧ leAt mRf 0 1 = 3 ∧ (0 = 0 ∨ 0 = 2 → State.md sRf ≠ mBanked ∧ State.qphase sRf ≠ 2) ∧ State.mirOpen sRf = true ∧
      mirRec bRf = mirRec bRf ∧ State.rec? sRf true (mirRec bRf).origin (mirRec bRf).seq = none ∧ State.forwarded? sRf (leAt bRf 128 8) = some cFw ∧
      cFw.kind = CmdKind.write ∧ List.take 16 (sha256 cFw.payload) = (mirRec bRf).pdig ∧ (mirRec bRf).seq ≠ 0 ∧
      State.getb sRf F.JNL_STS_READY = true ∧ State.jnlStopped sRf = false ∧ Option.isSome (State.place sRf (JRec.lines (mirRec bRf))) = true ∧
      sRf.jnl.waiting = []) ∧ sRf.crl.inbox = [(0, 2, mRf)] ∧ State.crlOpen sRf mRf = some bRf) ∧
    ((State.released (inb 0 mRf) dCrl = true ∧ leAt mRf 0 1 = 3 ∧ (0 = 0 ∨ 0 = 2 → State.md (inb 0 mRf) ≠ mBanked ∧ State.qphase (inb 0 mRf) ≠ 2) ∧
      State.mirOpen (inb 0 mRf) = true ∧ mirRec bRf = mirRec bRf ∧ State.rec? (inb 0 mRf) true (mirRec bRf).origin (mirRec bRf).seq = none ∧
      State.forwarded? (inb 0 mRf) (leAt bRf 128 8) = none ∧ State.session (inb 0 mRf) = true ∧ State.getb (inb 0 mRf) F.CRL_STS_LINK_UP = false) ∧
      (inb 0 mRf).crl.inbox = [(0, 2, mRf)] ∧ State.crlOpen (inb 0 mRf) mRf = some bRf) ∧
    ((State.released (inb 0 mBr) dCrl = true ∧ leAt mBr 0 1 = 2 ∧ State.mirOpen (inb 0 mBr) = true ∧ State.md (inb 0 mBr) ≠ mBanked ∧
      State.qphase (inb 0 mBr) ≠ 2) ∧ (inb 0 mBr).crl.inbox = [(0, 2, mBr)] ∧ State.crlOpen (inb 0 mBr) mBr = none) ∧
    ((State.released (sC rOwn 0) dCrl = true ∧ leAt (mC 0) 0 1 = 16 ∧ (1 = 0 ∨ 1 = 2 → State.md (sC rOwn 0) ≠ mBanked ∧
      State.qphase (sC rOwn 0) ≠ 2) ∧ List.length (eC 0) = 16 ∧ State.rec? (sC rOwn 0) false (leAt (eC 0) 8 1) (leAt (eC 0) 0 8) = some rOwn ∧
      Tab.find (sC rOwn 0).crl.mirWait (JRec.key rOwn) = some { sentAt := 5, fails := 1 : MirWait } ∧ leAt (eC 0) 9 1 = 0 ∧ rOwn.type ≤ 2 ∧
      (sC rOwn 0).jnl.waiting = [] ∧
      (∀ (x : JRec), x ∈ (sC rOwn 0).jnl.recs → x.mirror = false → x.type ≤ 2 → x.tag = rOwn.tag → JRec.is x false rOwn.origin rOwn.seq = true ∨ x.acked = true)) ∧
      (sC rOwn 0).crl.inbox = [(1, 2, mC 0)] ∧ State.crlOpen (sC rOwn 0) (mC 0) = some (eC 0)) ∧
    ((State.released s_MirrorCopies_10 dCrl = true ∧ leAt (mC 1) 0 1 = 16 ∧ (1 = 0 ∨ 1 = 2 → State.md s_MirrorCopies_10 ≠ mBanked ∧
      State.qphase s_MirrorCopies_10 ≠ 2) ∧ List.length (eC 1) = 16 ∧
      State.rec? s_MirrorCopies_10 false (leAt (eC 1) 8 1) (leAt (eC 1) 0 8) = some rOwl ∧
      Tab.find s_MirrorCopies_10.crl.mirWait (JRec.key rOwl) = some { sentAt := 5, fails := 1 : MirWait } ∧ leAt (eC 1) 9 1 ≠ 0 ∧
      { sentAt := 5, fails := 1 : MirWait }.fails + 1 < State.get s_MirrorCopies_10 F.CRL_MIR_CFG_RETRY + 1 ∧
      State.getb s_MirrorCopies_10 F.CRL_STS_LINK_UP = false ∧ rOwl.type ≠ 1 ∧ s_MirrorCopies_10.crl.mirOut = [] ∧
      State.canReserve s_MirrorCopies_10 3 = true ∧ s_MirrorCopies_10.pool.waiting = [] ∧ State.freeGrate s_MirrorCopies_10 = some 0 ∧
      State.gratesOf s_MirrorCopies_10 (mirUser s_MirrorCopies_10.bel.nextId) = [] ∧ mirGrates (JRec.bytes rOwl) = 1) ∧
      s_MirrorCopies_10.crl.inbox = [(1, 2, mC 1)] ∧ State.crlOpen s_MirrorCopies_10 (mC 1) = some (eC 1)) :=
  ⟨⟨by and_intros <;> decide +kernel,
      by simp only [sRf, inb_inbox], crlOpen_crlMessage sRf par 0 3 bRf (by decide) (by decide +kernel) (by decide +kernel) (slotK1_length _ _ (by decide +kernel))⟩, ⟨by and_intros <;> decide +kernel,
      inb_inbox _ _, crlOpen_crlMessage (inb 0 mRf) par 0 3 bRf (by decide) (by decide +kernel) (by decide +kernel) (slotK1_length _ _ (by decide +kernel))⟩, ⟨by and_intros <;> decide +kernel,
      inb_inbox _ _, crlOpen_short _ _ (by decide) (slotK1_length _ _ (by decide +kernel))⟩, ⟨by and_intros <;> decide +kernel,
      by simp only [sC, inb_inbox], crlOpen_crlMessage (sC rOwn 0) par 1 16 (eC 0) (by decide) (by decide +kernel) (by decide +kernel) (slotK1_length _ _ (by decide +kernel))⟩, ⟨by and_intros <;> decide +kernel,
      by simp only [sC, s_MirrorCopies_10, State.set_crl, inb_inbox], crlOpen_crlMessage s_MirrorCopies_10 par 1 16 (eC 1) (by decide) (by decide +kernel) (by decide +kernel) (slotK1_length _ _ (by decide +kernel))⟩⟩

theorem witness_MirrorCopies_4 :
    ((State.released s_MirrorCopies_11 dCrl = true ∧ leAt (mC 3) 0 1 = 16 ∧ (1 = 0 ∨ 1 = 2 → State.md s_MirrorCopies_11 ≠ mBanked ∧
      State.qphase s_MirrorCopies_11 ≠ 2) ∧ List.length (eC 3) = 16 ∧
      State.rec? s_MirrorCopies_11 false (leAt (eC 3) 8 1) (leAt (eC 3) 0 8) = some rOwl ∧
      Tab.find s_MirrorCopies_11.crl.mirWait (JRec.key rOwl) = some { sentAt := 5, fails := 1 : MirWait } ∧ leAt (eC 3) 9 1 ≠ 0 ∧
      State.get s_MirrorCopies_11 F.CRL_MIR_CFG_RETRY + 1 ≤ { sentAt := 5, fails := 1 : MirWait }.fails + 1 ∧
      State.getb s_MirrorCopies_11 F.CRL_STS_PFAULT = false) ∧ s_MirrorCopies_11.crl.inbox = [(1, 2, mC 3)] ∧
      State.crlOpen s_MirrorCopies_11 (mC 3) = some (eC 3)) ∧
    ((State.released sR dCrl = true ∧ leAt mR 0 1 = 17 ∧ (1 = 0 ∨ 1 = 2 → State.md sR ≠ mBanked ∧ State.qphase sR ≠ 2) ∧ List.length eR = 16 ∧
      State.rec? sR true (leAt eR 8 1) (leAt eR 0 8) = some rMw ∧ rMw.body = RecBody.none ∧ sR.jnl.waiting = []) ∧ sR.crl.inbox = [(1, 2, mR)] ∧
      State.crlOpen sR mR = some eR) :=
  ⟨⟨by and_intros <;> decide +kernel,
      by simp only [sC, s_MirrorCopies_11, State.set_crl, inb_inbox], crlOpen_crlMessage s_MirrorCopies_11 par 1 16 (eC 3) (by decide) (by decide +kernel) (by decide +kernel) (slotK1_length _ _ (by decide +kernel))⟩, ⟨by and_intros <;> decide +kernel,
      by simp only [sR, inb_inbox], crlOpen_crlMessage sR par 1 17 eR (by decide) (by decide +kernel) (by decide +kernel) (slotK1_length _ _ (by decide +kernel))⟩⟩

end Link

namespace Partner

def optL : Bytes := zeroBytes 15 ++ [0x7E] ++ zeroBytes 16 ++ [1, 2, 3, 4, 5, 6, 7, 8] ++ [0xFE, 0xFF] ++ zeroBytes 86
def sO : State := { (upT.set F.CRL_CTL_EN 1).set F.GLB_MODE_MODE 3 with jnl := { upT.jnl with cur := optL }, keys := { aroot := some (zeroBytes 32), slots := [(1, { key := List.replicate 64 7, cls := 1 })] } }
def sSe : State := sO.set F.CRL_STS_SESSION 1
def sLk : State := ((sSe.set F.CRL_STS_LINK_UP 1).set F.CRL_STS_WIDTH 8).set F.CRL_STS_LANES_UP 0x01FE
def par : State := { sSe.set F.GLB_ID_HEAD 1 with crl := { ivc := 77 } }
def sealIt (vc t : Nat) (b : Bytes) : Bytes := par.crlMessage vc t b
def inb (vc : Nat) (m : Bytes) : State := { sSe.set F.JNL_STS_READY 1 with crl := { inbox := [(vc, 2, m)], rxFreed := [(vc, 1023)] }, jnl := { sSe.jnl with credit := 40960, creditAt := sSe.cyc } }
theorem inb_inbox (vc : Nat) (m : Bytes) : (inb vc m).crl.inbox = [(vc, 2, m)] := rfl
def drvC : Drive := { cfg := 2 ^ 63 + 12 * 2 ^ 56, state := 1, resv := true, zones := 100 }
def stv1 : Stove := { pslots := [(0, { state := 2, size64 := 1, pgm := 1, units := 0xFFFFFFFF, entries := [3, 3, 3, 3, 3, 3, 3, 3] })] }
def canW (s : State) : State := { ((((((s.set (F.GRT_CH_RSV_RSV 2) 0).set (F.GRT_CH_CAP_CAP 2) 0).set (F.STV_CTL_EN 15) 1).set F.DRV_STRIPE_CNT_COUNT 100).set F.DRV_GEOM_K 1).set F.DRV_GEOM_M 1) with
  stoves := [(15, stv1)], drv := { drives := [(1, drvC), (2, drvC)] }, bel := { vols := [(5, { present := true, attach := 15, size := 100, owner := 0, policy := 0x7D })], nextId := 9, seqNext := 7, blockEnd := 1048576 } }
def pay2 : Bytes := (List.range 40).map (fun i => BitVec.ofNat 8 (i / 5))
def pay1 : Bytes := (List.range 4096).map (fun i => BitVec.ofNat 8 (i / 5))
/-- A FWD_CMD of one granule: RTAG 44, AT 900, LBA 9, volume 5, kind 1. -/
def bFw : Bytes := leBytes 8 44 ++ leBytes 8 900 ++ leBytes 8 9 ++ leBytes 4 4096 ++ leBytes 2 5 ++ [1, 0] ++ leBytes 2 0 ++ zeroBytes 14 ++ granuleDigests 1 pay1 ++ pay1
def mFw : Bytes := sealIt 2 0x20 bFw
def bF0 : Bytes := leBytes 8 44 ++ leBytes 8 900 ++ leBytes 8 9 ++ leBytes 4 4096 ++ leBytes 2 5 ++ [1, 0] ++ leBytes 2 0 ++ zeroBytes 14
def mF0 : Bytes := sealIt 2 0x20 bF0
def s_RequestsCross_2 : State := (inb 2 mF0).set F.BEL_STS_SANITIZING 1
def bDn (st : Nat) : Bytes := leBytes 8 44 ++ leBytes 8 900 ++ leBytes 2 st ++ zeroBytes 6
def mDn (st : Nat) : Bytes := sealIt 3 0x28 (bDn st)
def cFw : Cmd := { id := 44, port := 1, ring := false, queue := 4096, cid := 77, kind := .write, vol := 5, lba := 9, len := 4096, pgm := 0, irq := true, atime := 8, seq := 0, chead := 3, stage := .forwarded, slot := 3, payload := pay2 }
def sq1 : SubQ := { head := 3, tail := 5, size := 8, cq := 2 }
def cq2 : CplQ := { size := 8, tail := 7, head := 3, irq := false }
def sDn (st : Nat) : State := { inb 3 (mDn st) with bel := { cmds := [cFw], ctrls := [(1, { en := true, rdy := true, sqs := [(4096, sq1)], cqs := [(2, cq2)] })] } }
def rqA : Bytes := (List.range 32).map (fun i => BitVec.ofNat 8 (3 * i + 1)) ++ leBytes 2 0 ++ [0] ++ zeroBytes 93
def bIx : Bytes := leBytes 8 44 ++ rqA
def mIx : Bytes := sealIt 2 0x21 bIx
def sIx : State := { (((inb 2 mIx).set F.DDX_CTL_EN 1).set F.DDX_BUDGET_UNITS 1).set F.ICH_CTL_EN 1 with and := { halves := 3 } }
def strandI : Strand := { st := .running, tickets := [(31, { epoch := 1, used := true, job := some (.ciLock 1 false) })], item := some { bytes := zeroBytes 64 } }
def bIr : Bytes := leBytes 8 44 ++ [0, 16] ++ zeroBytes 6 ++ rqA
def mIr : Bytes := sealIt 3 0x29 bIr
def rqF : IdxReq := { origin := .ticket 15 3 31 ((strandI.tickets.head?.map (fun e => e.2.order)).getD 0) 0x1000, op := 1, block := rqA }
def sIr : State := { inb 3 mIr with stoves := [(15, { strands := [(3, strandI)], lmem := Tab.writeBytes [] 0x1000 rqA })], ddx := { fwd := [(44, rqF)] } }
def bSg : Bytes := leBytes 8 44 ++ leBytes 8 71 ++ [0] ++ zeroBytes 7
def mSg : Bytes := sealIt 2 0x22 bSg
def rOw : JRec := { seq := 71, atime := 5, type := 1, mirror := false, origin := 0, vol := 3, lba := 9, len := 4096 }
def sSg (l : Tab Bytes) : State := { inb 2 mSg with jnl := { (inb 2 mSg).jnl with recs := [rOw], staging := l } }
def bSd (st : Nat) (p : Bytes) : Bytes := leBytes 8 44 ++ leBytes 1 st ++ zeroBytes 7 ++ granuleDigests (p.length / 4096) p ++ p
def mSd (st : Nat) (p : Bytes) : Bytes := sealIt 3 0x2A (bSd st p)
def sSd (st : Nat) (p : Bytes) : State := { inb 3 (mSd st p) with crl := { (inb 3 (mSd st p)).crl with stageOut := [(44, rOw.key)] }, jnl := { (inb 3 (mSd st p)).jnl with recs := [rOw] }, and := { settling := [rOw.key] } }
def rSm : JRec := { rOw with len := 40, pdig := (sha256 pay2).take 16 }
def sSm : State := { inb 3 (mSd 0 pay2) with crl := { (inb 3 (mSd 0 pay2)).crl with stageOut := [(44, rSm.key)] }, jnl := { (inb 3 (mSd 0 pay2)).jnl with recs := [rSm] }, and := { settling := [rSm.key] } }
def bRj (t : Nat) : Bytes := leBytes 8 44 ++ leBytes 1 t ++ zeroBytes 7
def mRj (t : Nat) : Bytes := sealIt 3 0x2B (bRj t)
def rqD : IdxReq := { rqF with origin := .device }
def s_RequestsCross_12 : State := { inb 3 (mRj 0x21) with ddx := { fwd := [(44, rqD)] } }
def bMb : Bytes := leBytes 8 31 ++ (List.range 64).map (BitVec.ofNat 8)
def mMb : Bytes := sealIt 4 0x30 bMb
def s_RequestsCross_14 : State := (inb 4 mMb).set (F.MBX_CFG_EN 31) 0
def sMb : State := (((inb 4 mMb).set (F.MBX_CFG_EN 31) 1).set (F.MBX_CFG_SENDERS 31) 0x200).set (F.MBX_CFG_RECEIVER 31) 7 |>.set F.AND_MAP_PAIR 0x76543210
def bHb (slot at' : Nat) : Bytes := leBytes 8 slot ++ leBytes 8 at' ++ [0x13] ++ zeroBytes 15
def mHb (slot a : Nat) : Bytes := sealIt 5 0x40 (bHb slot a)
def sMi (m : Nat) (l : List Nat) : State := { sLk.set F.CRL_STS_MISS m |>.set F.GLB_ID_HEAD 1 with crl := { watch := true, hbNext := 74990, hbGot := l } }
def bFe (h : Nat) : Bytes := leBytes 1 h ++ [7] ++ zeroBytes 6 ++ [1, 2, 3, 4, 5, 6, 7, 8] ++ leBytes 8 900
def mFe (h : Nat) : Bytes := sealIt 6 0x50 (bFe h)
def s_HeartbeatsAndFences_12 : State := (inb 6 (mFe 0)).set F.KDL_STS_BUSY 0
def sLo (md : Nat) : State := { (sO.set F.CRL_STS_MISS 4).set F.GLB_MODE_MODE md with crl := { watch := true }, drv := { drives := [(1, drvC), (2, { drvC with cfg := 0 })] } }
def s_PartnerLossAndTakeover_3 : State := (sLo 3).set F.GLB_ID_HEAD 1
def s_PartnerLossAndTakeover_4 : State := { (sLo 3).set F.KDL_STS_BUSY 0 with jnl := {} }
def s_PartnerLossAndTakeover_5 : State := (sLo 2).set F.KDL_STS_BUSY 0
def sAr : State := { sLo 3 with crl := { arbAt := some 90 } }
def s_PartnerLossAndTakeover_7 : State := { sAr with crl := { arbAt := some 99999999999 } }
def sAw : State := { sO.set F.GLB_MODE_MODE 4 with crl := { arbWait := true }, and := { takeoverAt := some 100, halves := 3 }, bel := { vols := [(5, { present := true, owner := 1 })], seqNext := 7, blockEnd := 1048576 } }
def s_PartnerLossAndTakeover_8 : State := sAw.set F.KDL_STS_BUSY 0
def sPr : State := { (((((upT.set F.AND_MAP_PAIR 0x76543210).set F.AND_STS_SPARE 8).set (F.AND_PAIR_STS_STATE 8) 2).set (F.AND_PAIR_STS_STATE 7) 1)).set F.AND_STS_SPARE_OK 1 with mode := {} }.set F.GLB_MODE_MODE 3
def s_PairsAreSpared_2 : State := (sPr.set F.AND_STS_SPARE 15).set F.KDL_STS_BUSY 0
def sTs : State := sPr.set (F.AND_PAIR_STS_STATE 8) 3
def s_PairsAreSpared_4 : State := sPr.set F.AND_MAP_PAIR 0xF6543210
def s_PairsAreSpared_8 : State := { sPr with and := { stMark := 5 } }
def s_PairsAreSpared_9 : State := { sPr.set F.GLB_MODE_MODE 5 with and := { stMark := 5 } }
def s_PairsAreSpared_10 : State := { sPr with and := { stMark := 6 } }
def sRo : State := { at_ sPr 360000000000 with and := { lastRot := some 7 } }
def sRa : State := { sPr with and := { rotating := some (0, 5) } }
def s_PairsAreSpared_15 : State := { sRa with and := { rotating := some (0, 150000000) } }
def sFb (md st : Nat) : State := { ((inb 9 []).set F.GLB_MODE_MODE md).set F.AND_FB_CTL_STATE st with crl := {}, bel := { seqNext := 7, blockEnd := 1048576, vols := [(5, { present := true, owner := 0, home := 1 })] } }
def s_FailbackHandsOver_3 : State := { sFb 3 1 with and := { acceptPending := true, survivor := true } }
def s_FailbackHandsOver_4 : State := { sFb 3 1 with and := { acceptPending := true, survivor := true } }.set F.AND_FB_CTL_INHIBIT 1
def s_FailbackHandsOver_5 : State := (sFb 3 2).set F.AND_FB_TB_VALUE 150000000
def s_FailbackHandsOver_6 : State := (sFb 3 2).set F.AND_FB_TB_VALUE 150000001
def cMv (a : Nat) : Cmd := { cFw with stage := .staged, atime := a }
def sMv (a : Nat) : State := { ({ sFb 3 3 with and := { survivor := true } }.set F.AND_FB_TB_VALUE 100) with bel := { (sFb 3 3).bel with cmds := [cMv a] } }
def sAbt (sv : Bool) : State := at_ { ({ sFb 3 3 with and := { survivor := sv } }.set F.AND_FB_TB_VALUE 100) with pending := [] } 999999999999
def s_FailbackHandsOver_10 : State := (sAbt false).set F.CRL_STS_SESSION 0

theorem witness_RequestsCross_1 :
    ((State.released (canW (inb 2 mFw)) dCrl = true ∧ leAt mFw 0 1 = 32 ∧ (2 = 0 ∨ 2 = 2 → State.md (canW (inb 2 mFw)) ≠ mBanked ∧
      State.qphase (canW (inb 2 mFw)) ≠ 2) ∧ (canW (inb 2 mFw)).bel.cmds = [] ∧ State.getb (canW (inb 2 mFw)) F.BEL_STS_SANITIZING = false ∧
      (canW (inb 2 mFw)).bel.sanitizeFail = false ∧ State.volCheck (canW (inb 2 mFw)) (leAt bFw 28 2) = none ∧
      State.lateCheck (canW (inb 2 mFw)) (leAt bFw 28 2) (leAt bFw 32 2) CmdKind.write true = none ∧ leAt bFw 30 1 = 1 ∧ leAt bFw 24 4 = 4096 ∧
      State.gapFor (canW (inb 2 mFw)) (leAt bFw 8 8) = none ∧ (canW (inb 2 mFw)).bel.seqNext < (canW (inb 2 mFw)).bel.blockEnd ∧
      (canW (inb 2 mFw)).bel.seqNext < 2 ^ 62 ∧ State.canReserve (canW (inb 2 mFw)) 2 = false ∧ State.canShare (canW (inb 2 mFw)) 2 = false ∧
      State.gratesOf (canW (inb 2 mFw)) (cmdUser (canW (inb 2 mFw)).bel.nextId) = [] ∧ (canW (inb 2 mFw)).crl.mirIn = [] ∧
      (canW (inb 2 mFw)).crl.mirOut = [] ∧ (canW (inb 2 mFw)).jnl.regain = [] ∧ (List.all (canW (inb 2 mFw)).drv.cmds fun x => x.sent) = true ∧
      State.getb (canW (inb 2 mFw)) F.TICK_CTL_CUT_EN = false) ∧ (canW (inb 2 mFw)).crl.inbox = [(2, 2, mFw)] ∧
      State.crlOpen (canW (inb 2 mFw)) mFw = some bFw) ∧
    ((State.released s_RequestsCross_2 dCrl = true ∧ leAt mF0 0 1 = 32 ∧ (2 = 0 ∨ 2 = 2 → State.md s_RequestsCross_2 ≠ mBanked ∧
      State.qphase s_RequestsCross_2 ≠ 2) ∧ s_RequestsCross_2.bel.cmds = [] ∧ State.getb s_RequestsCross_2 F.BEL_STS_SANITIZING = true ∧
      bit (leAt bF0 31 1) 7 = false ∧ State.getb s_RequestsCross_2 F.TICK_CTL_CUT_EN = false ∧
      State.getb s_RequestsCross_2 F.CRL_STS_LINK_UP = false) ∧ s_RequestsCross_2.crl.inbox = [(2, 2, mF0)] ∧
      State.crlOpen s_RequestsCross_2 mF0 = some bF0) ∧
    ((State.released (sDn 0) dCrl = true ∧ leAt (mDn 0) 0 1 = 40 ∧ (3 = 0 ∨ 3 = 2 → State.md (sDn 0) ≠ mBanked ∧ State.qphase (sDn 0) ≠ 2) ∧
      (sDn 0).bel.cmds = [cFw] ∧ cFw.id = leAt (bDn 0) 0 8 ∧ cFw.stage = CmdStage.forwarded ∧ cFw.kind = CmdKind.write ∧ cFw.ring = false ∧
      cFw.foreign = none ∧ cFw.dead = false ∧ Tab.find (State.ctrl (sDn 0) cFw.port).sqs cFw.queue = some sq1 ∧
      Tab.find (State.ctrl (sDn 0) cFw.port).cqs sq1.cq = some cq2 ∧ leAt (bDn 0) 16 2 = 0) ∧ (sDn 0).crl.inbox = [(3, 2, mDn 0)] ∧
      State.crlOpen (sDn 0) (mDn 0) = some (bDn 0)) ∧
    ((State.released (sDn 641) dCrl = true ∧ leAt (mDn 641) 0 1 = 40 ∧ (3 = 0 ∨ 3 = 2 → State.md (sDn 641) ≠ mBanked ∧ State.qphase (sDn 641) ≠ 2) ∧
      (sDn 641).bel.cmds = [cFw] ∧ cFw.id = leAt (bDn 641) 0 8 ∧ cFw.stage = CmdStage.forwarded ∧ cFw.kind = CmdKind.write ∧ cFw.ring = false ∧
      cFw.foreign = none ∧ cFw.dead = false ∧ Tab.find (State.ctrl (sDn 641) cFw.port).sqs cFw.queue = some sq1 ∧
      Tab.find (State.ctrl (sDn 641) cFw.port).cqs sq1.cq = some cq2 ∧ leAt (bDn 641) 16 2 ≠ 0) ∧ (sDn 641).crl.inbox = [(3, 2, mDn 641)] ∧
      State.crlOpen (sDn 641) (mDn 641) = some (bDn 641)) ∧
    ((State.released sIx dCrl = true ∧ leAt mIx 0 1 = 33 ∧ (2 = 0 ∨ 2 = 2 → State.md sIx ≠ mBanked ∧ State.qphase sIx ≠ 2) ∧
      rqA = patch (slice bIx 8 128) 34 [0, 0] ∧ leAt bIx 42 1 = 0 ∧ reqDomain rqA ≤ 4095 ∧
      State.holdsHalf sIx (fpHalf (reqFp rqA) (reqDomain rqA)) = true ∧ State.ddxOn sIx = true ∧
      (State.half sIx (fpHalf (reqFp rqA) (reqDomain rqA))).stale = false ∧ State.donePending sIx = false ∧
      filterHas (State.ddxNb sIx) (fpKey (reqFp rqA) (reqDomain rqA)) (fpTag (reqFp rqA)) (State.half sIx (fpHalf (reqFp rqA) (reqDomain rqA))).filter = false ∧
      State.getb sIx F.CRL_STS_LINK_UP = false) ∧ sIx.crl.inbox = [(2, 2, mIx)] ∧ State.crlOpen sIx mIx = some bIx) :=
  ⟨⟨by and_intros <;> decide +kernel,
      by simp only [canW, State.set_crl, inb_inbox], crlOpen_crlMessage (canW (inb 2 mFw)) par 2 32 bFw (by decide) (by decide +kernel) (by decide +kernel) (slotK1_length _ _ (by decide +kernel))⟩, ⟨by and_intros <;> decide +kernel,
      by simp only [s_RequestsCross_2, State.set_crl, inb_inbox], crlOpen_crlMessage s_RequestsCross_2 par 2 32 bF0 (by decide) (by decide +kernel) (by decide +kernel) (slotK1_length _ _ (by decide +kernel))⟩, ⟨by and_intros <;> decide +kernel,
      by simp only [sDn, inb_inbox], crlOpen_crlMessage (sDn 0) par 3 40 (bDn 0) (by decide) (by decide +kernel) (by decide +kernel) (slotK1_length _ _ (by decide +kernel))⟩, ⟨by and_intros <;> decide +kernel,
      by simp only [sDn, inb_inbox], crlOpen_crlMessage (sDn 641) par 3 40 (bDn 641) (by decide) (by decide +kernel) (by decide +kernel) (slotK1_length _ _ (by decide +kernel))⟩, ⟨by and_intros <;> decide +kernel,
      by simp only [sIx, State.set_crl, inb_inbox], crlOpen_crlMessage sIx par 2 33 bIx (by decide) (by decide +kernel) (by decide +kernel) (slotK1_length _ _ (by decide +kernel))⟩⟩

theorem witness_RequestsCross_2 :
    ((State.released sIr dCrl = true ∧ leAt mIr 0 1 = 41 ∧ (3 = 0 ∨ 3 = 2 → State.md sIr ≠ mBanked ∧ State.qphase sIr ≠ 2) ∧
      Tab.find sIr.ddx.fwd (leAt bIr 0 8) = some rqF ∧ rqF.origin = IdxOrigin.ticket 15 3 31 (Strand.ticket (State.strand sIr 15 3) 31).order 4096 ∧
      rqF.op < 4 ∧ (Strand.ticket (State.strand sIr 15 3) 31).used = true ∧ Option.isSome (Strand.ticket (State.strand sIr 15 3) 31).job = true ∧
      Tab.readBytes (State.stove sIr 15).lmem 4096 128 = rqF.block) ∧ sIr.crl.inbox = [(3, 2, mIr)] ∧ State.crlOpen sIr mIr = some bIr) ∧
    ((State.released (inb 2 mSg) dCrl = true ∧ leAt mSg 0 1 = 34 ∧ (2 = 0 ∨ 2 = 2 → State.md (inb 2 mSg) ≠ mBanked ∧ State.qphase (inb 2 mSg) ≠ 2) ∧
      State.getb (inb 2 mSg) F.CRL_STS_LINK_UP = false ∧ State.rec? (inb 2 mSg) true (leAt bSg 16 1) (leAt bSg 8 8) = none ∧
      State.rec? (inb 2 mSg) false (leAt bSg 16 1) (leAt bSg 8 8) = none) ∧ (inb 2 mSg).crl.inbox = [(2, 2, mSg)] ∧
      State.crlOpen (inb 2 mSg) mSg = some bSg) ∧
    ((State.released (sSg []) dCrl = true ∧ leAt mSg 0 1 = 34 ∧ (2 = 0 ∨ 2 = 2 → State.md (sSg []) ≠ mBanked ∧ State.qphase (sSg []) ≠ 2) ∧
      State.getb (sSg []) F.CRL_STS_LINK_UP = false ∧ State.rec? (sSg []) true (leAt bSg 16 1) (leAt bSg 8 8) = none ∧
      State.rec? (sSg []) false (leAt bSg 16 1) (leAt bSg 8 8) = some rOw) ∧ (sSg []).crl.inbox = [(2, 2, mSg)] ∧
      State.crlOpen (sSg []) mSg = some bSg ∧ Tab.find (sSg []).jnl.staging (JRec.key rOw) = none) ∧
    ((State.released (sSg [(JRec.key rOw, pay1)]) dCrl = true ∧ leAt mSg 0 1 = 34 ∧ (2 = 0 ∨ 2 = 2 → State.md (sSg [(JRec.key rOw, pay1)]) ≠ mBanked ∧
      State.qphase (sSg [(JRec.key rOw, pay1)]) ≠ 2) ∧ State.getb (sSg [(JRec.key rOw, pay1)]) F.CRL_STS_LINK_UP = false ∧
      State.rec? (sSg [(JRec.key rOw, pay1)]) true (leAt bSg 16 1) (leAt bSg 8 8) = none ∧
      State.rec? (sSg [(JRec.key rOw, pay1)]) false (leAt bSg 16 1) (leAt bSg 8 8) = some rOw) ∧
      (sSg [(JRec.key rOw, pay1)]).crl.inbox = [(2, 2, mSg)] ∧ State.crlOpen (sSg [(JRec.key rOw, pay1)]) mSg = some bSg ∧
      Tab.find (sSg [(JRec.key rOw, pay1)]).jnl.staging (JRec.key rOw) = some pay1) ∧
    ((State.released sSm dCrl = true ∧ leAt (mSd 0 pay2) 0 1 = 42 ∧ (3 = 0 ∨ 3 = 2 → State.md sSm ≠ mBanked ∧ State.qphase sSm ≠ 2) ∧
      Tab.find sSm.crl.stageOut (leAt (bSd 0 pay2) 0 8) = some (JRec.key rSm) ∧
      List.find? (fun x => JRec.key x == JRec.key rSm) sSm.jnl.recs = some rSm ∧ State.session sSm = true ∧ leAt (bSd 0 pay2) 8 1 = 0 ∧
      List.take 16 (sha256 (granulesOf 16 (bSd 0 pay2))) = rSm.pdig ∧ List.length (granulesOf 16 (bSd 0 pay2)) = rSm.len) ∧
      sSm.crl.inbox = [(3, 2, mSd 0 pay2)] ∧ State.crlOpen sSm (mSd 0 pay2) = some (bSd 0 pay2)) :=
  ⟨⟨by and_intros <;> decide +kernel,
      by simp only [sIr, inb_inbox], crlOpen_crlMessage sIr par 3 41 bIr (by decide) (by decide +kernel) (by decide +kernel) (slotK1_length _ _ (by decide +kernel))⟩, ⟨by and_intros <;> decide +kernel,
      inb_inbox _ _, crlOpen_crlMessage (inb 2 mSg) par 2 34 bSg (by decide) (by decide +kernel) (by decide +kernel) (slotK1_length _ _ (by decide +kernel))⟩, ⟨by and_intros <;> decide +kernel,
      by simp only [sSg, inb_inbox], crlOpen_crlMessage (sSg []) par 2 34 bSg (by decide) (by decide +kernel) (by decide +kernel) (slotK1_length _ _ (by decide +kernel)), rfl⟩, ⟨by and_intros <;> decide +kernel,
      by simp only [sSg, inb_inbox], crlOpen_crlMessage (sSg [(JRec.key rOw, pay1)]) par 2 34 bSg (by decide) (by decide +kernel) (by decide +kernel) (slotK1_length _ _ (by decide +kernel)), rfl⟩, ⟨by and_intros <;> decide +kernel,
      by simp only [sSm, inb_inbox], crlOpen_crlMessage sSm par 3 42 (bSd 0 pay2) (by decide) (by decide +kernel) (by decide +kernel) (slotK1_length _ _ (by decide +kernel))⟩⟩

theorem witness_RequestsCross_3 :
    ((State.released (sSd 1 []) dCrl = true ∧ leAt (mSd 1 []) 0 1 = 42 ∧ (3 = 0 ∨ 3 = 2 → State.md (sSd 1 []) ≠ mBanked ∧
      State.qphase (sSd 1 []) ≠ 2) ∧ Tab.find (sSd 1 []).crl.stageOut (leAt (bSd 1 []) 0 8) = some (JRec.key rOw) ∧
      List.find? (fun x => JRec.key x == JRec.key rOw) (sSd 1 []).jnl.recs = some rOw ∧ State.session (sSd 1 []) = true ∧ leAt (bSd 1 []) 8 1 = 1 ∧
      (sSd 1 []).jnl.waiting = []) ∧ (sSd 1 []).crl.inbox = [(3, 2, mSd 1 [])] ∧ State.crlOpen (sSd 1 []) (mSd 1 []) = some (bSd 1 [])) ∧
    ((State.released s_RequestsCross_12 dCrl = true ∧ leAt (mRj 33) 0 1 = 43 ∧ (3 = 0 ∨ 3 = 2 → State.md s_RequestsCross_12 ≠ mBanked ∧
      State.qphase s_RequestsCross_12 ≠ 2) ∧ leAt (bRj 33) 8 1 = 33 ∧ Tab.find s_RequestsCross_12.ddx.fwd (leAt (bRj 33) 0 8) = some rqD ∧
      State.getb s_RequestsCross_12 F.CRL_STS_LINK_UP = false) ∧ s_RequestsCross_12.crl.inbox = [(3, 2, mRj 33)] ∧
      State.crlOpen s_RequestsCross_12 (mRj 33) = some (bRj 33)) ∧
    ((State.released (inb 3 (mRj 31)) dCrl = true ∧ leAt (mRj 31) 0 1 = 43 ∧ (3 = 0 ∨ 3 = 2 → State.md (inb 3 (mRj 31)) ≠ mBanked ∧
      State.qphase (inb 3 (mRj 31)) ≠ 2) ∧ leAt (bRj 31) 8 1 < 32) ∧ (inb 3 (mRj 31)).crl.inbox = [(3, 2, mRj 31)] ∧
      State.crlOpen (inb 3 (mRj 31)) (mRj 31) = some (bRj 31)) ∧
    ((State.released s_RequestsCross_14 dCrl = true ∧ leAt mMb 0 1 = 48 ∧ (4 = 0 ∨ 4 = 2 → State.md s_RequestsCross_14 ≠ mBanked ∧
      State.qphase s_RequestsCross_14 ≠ 2) ∧ 31 = leAt bMb 0 1 ∧
      (31 < 31 ∨ State.getb s_RequestsCross_14 (F.MBX_CFG_EN 31) = false ∨ State.bitOf s_RequestsCross_14 (F.MBX_CFG_SENDERS 31) 9 = false)) ∧
      s_RequestsCross_14.crl.inbox = [(4, 2, mMb)] ∧ State.crlOpen s_RequestsCross_14 mMb = some bMb) ∧
    ((State.released sMb dCrl = true ∧ leAt mMb 0 1 = 48 ∧ (4 = 0 ∨ 4 = 2 → State.md sMb ≠ mBanked ∧ State.qphase sMb ≠ 2) ∧ 31 = leAt bMb 0 1 ∧
      State.released sMb dNoc = true ∧ State.getb sMb (F.MBX_CFG_EN 31) = true ∧ State.bitOf sMb (F.MBX_CFG_SENDERS 31) 9 = true ∧
      State.get sMb (F.MBX_CFG_RECEIVER 31) < 8 ∧ State.receiverDead sMb (State.get sMb (F.MBX_CFG_RECEIVER 31)) = false ∧
      State.bitOf sMb F.HRT_STS_PARKED (State.get sMb (F.MBX_CFG_RECEIVER 31)) = false ∧ (State.chan sMb 31).full = false) ∧
      sMb.crl.inbox = [(4, 2, mMb)] ∧ State.crlOpen sMb mMb = some bMb) :=
  ⟨⟨by and_intros <;> decide +kernel,
      by simp only [sSd, inb_inbox], crlOpen_crlMessage (sSd 1 []) par 3 42 (bSd 1 []) (by decide) (by decide +kernel) (by decide +kernel) (slotK1_length _ _ (by decide +kernel))⟩, ⟨by and_intros <;> decide +kernel,
      by simp only [s_RequestsCross_12, inb_inbox], crlOpen_crlMessage s_RequestsCross_12 par 3 43 (bRj 33) (by decide) (by decide +kernel) (by decide +kernel) (slotK1_length _ _ (by decide +kernel))⟩, ⟨by and_intros <;> decide +kernel,
      inb_inbox _ _, crlOpen_crlMessage (inb 3 (mRj 31)) par 3 43 (bRj 31) (by decide) (by decide +kernel) (by decide +kernel) (slotK1_length _ _ (by decide +kernel))⟩, ⟨by and_intros <;> decide +kernel,
      by simp only [s_RequestsCross_14, State.set_crl, inb_inbox], crlOpen_crlMessage s_RequestsCross_14 par 4 48 bMb (by decide) (by decide +kernel) (by decide +kernel) (slotK1_length _ _ (by decide +kernel))⟩, ⟨by and_intros <;> decide +kernel,
      by simp only [sMb, State.set_crl, inb_inbox], crlOpen_crlMessage sMb par 4 48 bMb (by decide) (by decide +kernel) (by decide +kernel) (slotK1_length _ _ (by decide +kernel))⟩⟩

theorem witness_HeartbeatsAndFences_1 :
    (State.session sSe = true ∧ sSe.crl.hbSent < State.now sSe / 2000 ∧ State.getb sSe F.CRL_STS_LINK_UP = false) ∧
    ((State.session upT = false ∨ State.now upT / 2000 ≤ upT.crl.hbSent)) ∧
    ((sMi 2 [74990]).crl.watch = true ∧ hbLimit (sMi 2 [74990]) (sMi 2 [74990]).crl.hbNext ≤ State.now (sMi 2 [74990]) ∧
      (sMi 2 [74990]).crl.hbNext ∈ (sMi 2 [74990]).crl.hbGot) ∧
    ((sMi 7 []).crl.watch = true ∧ hbLimit (sMi 7 []) (sMi 7 []).crl.hbNext ≤ State.now (sMi 7 []) ∧ (¬(sMi 7 []).crl.hbNext ∈ (sMi 7 []).crl.hbGot) ∧
      (State.get (sMi 7 []) F.CRL_STS_MISS ≠ 3 ∨ State.session (sMi 7 []) = false ∨ State.getb (sMi 7 []) F.CRL_STS_LINK_UP = false ∨ State.getb (sMi 7 []) F.CRL_STS_PFAULT = true)) ∧
    ((sMi 3 []).crl.watch = true ∧ hbLimit (sMi 3 []) (sMi 3 []).crl.hbNext ≤ State.now (sMi 3 [])) ∧
    ((upT.crl.watch = false ∨ State.now upT < hbLimit upT upT.crl.hbNext)) ∧
    (State.writable upT h0 R.CRL_FENCE = true ∧ bit 7 31 = false) ∧
    (State.writable upT h0 R.CRL_FENCE = true ∧ bit 2147483655 31 = true ∧ State.session upT = false) ∧
    (State.writable sSe h0 R.CRL_FENCE = true ∧ bit 2147483655 31 = true ∧ State.session sSe = true ∧ State.getb sSe F.CRL_STS_LINK_UP = false) :=
  by and_intros <;> decide +kernel

theorem witness_HeartbeatsAndFences_2 :
    ((State.released (inb 5 (mHb 75000 149999990)) dCrl = true ∧ leAt (mHb 75000 149999990) 0 1 = 64 ∧
      (5 = 0 ∨ 5 = 2 → State.md (inb 5 (mHb 75000 149999990)) ≠ mBanked ∧ State.qphase (inb 5 (mHb 75000 149999990)) ≠ 2) ∧
      150000000 - 149999990 - ↑(State.linkDly upT) = ↑(State.now (inb 5 (mHb 75000 149999990))) - ↑(leAt (bHb 75000 149999990) 8 8) - ↑(State.linkDly (inb 5 (mHb 75000 149999990))) ∧
      Int.natAbs (150000000 - 149999990 - ↑(State.linkDly upT)) ≤ State.get (inb 5 (mHb 75000 149999990)) F.TICK_LIMITS_SKEW_MAX ∧
      State.get (inb 5 (mHb 75000 149999990)) F.TICK_CTL_SRC ≠ 3 ∧ State.md (inb 5 (mHb 75000 149999990)) ≠ mKindling) ∧
      (inb 5 (mHb 75000 149999990)).crl.inbox = [(5, 2, mHb 75000 149999990)] ∧
      State.crlOpen (inb 5 (mHb 75000 149999990)) (mHb 75000 149999990) = some (bHb 75000 149999990)) ∧
    ((State.released (inb 5 (mHb 74000 150000005)) dCrl = true ∧ leAt (mHb 74000 150000005) 0 1 = 64 ∧
      (5 = 0 ∨ 5 = 2 → State.md (inb 5 (mHb 74000 150000005)) ≠ mBanked ∧ State.qphase (inb 5 (mHb 74000 150000005)) ≠ 2) ∧
      150000000 - 150000005 - ↑(State.linkDly upT) = ↑(State.now (inb 5 (mHb 74000 150000005))) - ↑(leAt (bHb 74000 150000005) 8 8) - ↑(State.linkDly (inb 5 (mHb 74000 150000005))) ∧
      Int.natAbs (150000000 - 150000005 - ↑(State.linkDly upT)) ≤ State.get (inb 5 (mHb 74000 150000005)) F.TICK_LIMITS_SKEW_MAX ∧
      State.get (inb 5 (mHb 74000 150000005)) F.TICK_CTL_SRC ≠ 3 ∧ State.md (inb 5 (mHb 74000 150000005)) ≠ mKindling) ∧
      (inb 5 (mHb 74000 150000005)).crl.inbox = [(5, 2, mHb 74000 150000005)] ∧
      State.crlOpen (inb 5 (mHb 74000 150000005)) (mHb 74000 150000005) = some (bHb 74000 150000005)) ∧
    ((State.released s_HeartbeatsAndFences_12 dCrl = true ∧ leAt (mFe 0) 0 1 = 80 ∧ (6 = 0 ∨ 6 = 2 → State.md s_HeartbeatsAndFences_12 ≠ mBanked ∧
      State.qphase s_HeartbeatsAndFences_12 ≠ 2) ∧ leAt (bFe 0) 0 1 = State.head s_HeartbeatsAndFences_12 ∧
      slice (bFe 0) 8 8 = slice s_HeartbeatsAndFences_12.jnl.cur 32 8 ∧ s_HeartbeatsAndFences_12.crl.fenceIvc < leAt (mFe 0) 8 8 ∧
      State.calm s_HeartbeatsAndFences_12 = true) ∧ s_HeartbeatsAndFences_12.crl.inbox = [(6, 2, mFe 0)] ∧
      State.crlOpen s_HeartbeatsAndFences_12 (mFe 0) = some (bFe 0)) ∧
    ((State.released (inb 6 (mFe 1)) dCrl = true ∧ leAt (mFe 1) 0 1 = 80 ∧ (6 = 0 ∨ 6 = 2 → State.md (inb 6 (mFe 1)) ≠ mBanked ∧
      State.qphase (inb 6 (mFe 1)) ≠ 2) ∧
      (leAt (bFe 1) 0 1 ≠ State.head (inb 6 (mFe 1)) ∨ slice (bFe 1) 8 8 ≠ slice (inb 6 (mFe 1)).jnl.cur 32 8 ∨ leAt (mFe 1) 8 8 ≤ (inb 6 (mFe 1)).crl.fenceIvc)) ∧
      (inb 6 (mFe 1)).crl.inbox = [(6, 2, mFe 1)] ∧ State.crlOpen (inb 6 (mFe 1)) (mFe 1) = some (bFe 1)) :=
  ⟨⟨by and_intros <;> decide +kernel,
      inb_inbox _ _, crlOpen_crlMessage (inb 5 (mHb 75000 149999990)) par 5 64 (bHb 75000 149999990) (by decide) (by decide +kernel) (by decide +kernel) (slotK1_length _ _ (by decide +kernel))⟩, ⟨by and_intros <;> decide +kernel,
      inb_inbox _ _, crlOpen_crlMessage (inb 5 (mHb 74000 150000005)) par 5 64 (bHb 74000 150000005) (by decide) (by decide +kernel) (by decide +kernel) (slotK1_length _ _ (by decide +kernel))⟩, ⟨by and_intros <;> decide +kernel,
      by simp only [s_HeartbeatsAndFences_12, State.set_crl, inb_inbox], crlOpen_crlMessage s_HeartbeatsAndFences_12 par 6 80 (bFe 0) (by decide) (by decide +kernel) (by decide +kernel) (slotK1_length _ _ (by decide +kernel))⟩, ⟨by and_intros <;> decide +kernel,
      inb_inbox _ _, crlOpen_crlMessage (inb 6 (mFe 1)) par 6 80 (bFe 1) (by decide) (by decide +kernel) (by decide +kernel) (slotK1_length _ _ (by decide +kernel))⟩⟩

theorem witness_PartnerLossAndTakeover :
    (State.lostDue (sLo 4) = true ∧ State.qphase (sLo 4) ≠ 2 ∧ State.session (sLo 4) = false ∧ State.md (sLo 4) = mSolo ∧
      (sLo 4).mode.bankedEntry = false) ∧
    (State.lostDue (sLo 3) = true ∧ State.qphase (sLo 3) ≠ 2 ∧ State.session (sLo 3) = false ∧ State.md (sLo 3) = mDuplex ∧
      (sLo 3).mode.bankedEntry = false ∧ State.modeAllowed (sLo 3) mSolo = true ∧ State.head (sLo 3) = 0 ∧ (sLo 3).jnl.recs = [] ∧
      State.anyDrive (sLo 3) = true) ∧
    (State.lostDue s_PartnerLossAndTakeover_3 = true ∧ State.qphase s_PartnerLossAndTakeover_3 ≠ 2 ∧
      State.session s_PartnerLossAndTakeover_3 = false ∧ State.md s_PartnerLossAndTakeover_3 = mDuplex ∧
      s_PartnerLossAndTakeover_3.mode.bankedEntry = false ∧ State.modeAllowed s_PartnerLossAndTakeover_3 mSolo = true ∧
      State.head s_PartnerLossAndTakeover_3 = 1) ∧
    (State.lostDue s_PartnerLossAndTakeover_4 = true ∧ State.qphase s_PartnerLossAndTakeover_4 ≠ 2 ∧ State.md s_PartnerLossAndTakeover_4 = mDuplex ∧
      State.modeAllowed s_PartnerLossAndTakeover_4 mSolo = false ∧ State.calm s_PartnerLossAndTakeover_4 = true) ∧
    (State.lostDue s_PartnerLossAndTakeover_5 = true ∧ State.qphase s_PartnerLossAndTakeover_5 ≠ 2 ∧ State.md s_PartnerLossAndTakeover_5 = mJoining ∧
      State.calm s_PartnerLossAndTakeover_5 = true) ∧
    (sAr.crl.arbAt = some 90 ∧ 90 ≤ State.cyc sAr ∧ State.md sAr = mDuplex ∧ State.qphase sAr ≠ 2 ∧ State.anyDrive sAr = true) ∧
    (s_PartnerLossAndTakeover_7.crl.arbAt = some 99999999999 ∧ State.cyc s_PartnerLossAndTakeover_7 < 99999999999) ∧
    (s_PartnerLossAndTakeover_8.crl.arbWait = true ∧ State.qphase s_PartnerLossAndTakeover_8 ≠ 2 ∧ State.calm s_PartnerLossAndTakeover_8 = true) ∧
    (sAw.crl.arbWait = true ∧ State.qphase sAw ≠ 2 ∧ sAw.and.takeoverAt = some 100 ∧ sAw.jnl.recs = [] ∧ sAw.bel.cmds = [] ∧ sAw.drv.stripes = [] ∧
      sAw.ddx.fwd = [] ∧ sAw.ddx.roomWait = [] ∧ sAw.and.halves = 3 ∧ State.gapFor sAw (State.now sAw) = none ∧ State.session sAw = false) :=
  by and_intros <;> decide +kernel

theorem witness_PairsAreSpared_1 :
    (State.released sPr dHrt = true ∧ State.get sPr (F.AND_PAIR_STS_STATE 7) ≠ 2 ∧ State.get sPr (F.AND_PAIR_STS_STATE 7) ≠ 3 ∧
      State.slotOf sPr 7 = some 7 ∧ State.get sPr F.AND_STS_SPARE = 8 ∧ 8 ≠ 7) ∧
    (State.released s_PairsAreSpared_2 dHrt = true ∧ State.get s_PairsAreSpared_2 (F.AND_PAIR_STS_STATE 7) ≠ 2 ∧
      State.get s_PairsAreSpared_2 (F.AND_PAIR_STS_STATE 7) ≠ 3 ∧ State.slotOf s_PairsAreSpared_2 7 = some 7 ∧
      State.get s_PairsAreSpared_2 F.AND_STS_SPARE = 15 ∧ State.calm s_PairsAreSpared_2 = true) ∧
    (State.released sPr dHrt = true ∧ State.get sPr (F.AND_PAIR_STS_STATE 8) = 2) ∧
    (State.released s_PairsAreSpared_4 dHrt = true ∧ State.get s_PairsAreSpared_4 (F.AND_PAIR_STS_STATE 7) ≠ 2 ∧
      State.get s_PairsAreSpared_4 (F.AND_PAIR_STS_STATE 7) ≠ 3 ∧ State.slotOf s_PairsAreSpared_4 7 = none) ∧
    (State.released sTs dHrt = true ∧ State.get sTs (F.AND_PAIR_STS_STATE 8) = 3) ∧
    (State.released sTs dHrt = true ∧ State.get sTs (F.AND_PAIR_STS_STATE 8) = 3 ∧ State.get sTs F.AND_STS_SPARE = 8) ∧
    (State.released sTs dHrt = true ∧ State.get sTs (F.AND_PAIR_STS_STATE 8) = 3 ∧ State.get sTs F.AND_STS_SPARE = 8) ∧
    (State.get s_PairsAreSpared_8 F.AND_STS_SPARE = 8 ∧ 8 ≠ 15 ∧ State.get s_PairsAreSpared_8 (F.AND_PAIR_STS_STATE 8) = 2 ∧
      s_PairsAreSpared_8.and.stMark < State.now s_PairsAreSpared_8 / 25000000 ∧ State.getb s_PairsAreSpared_8 F.AND_CTL_ST_EN = true ∧
      State.spareRuns s_PairsAreSpared_8 = true) ∧
    (State.get s_PairsAreSpared_9 F.AND_STS_SPARE = 8 ∧ 8 ≠ 15 ∧ State.get s_PairsAreSpared_9 (F.AND_PAIR_STS_STATE 8) = 2 ∧
      (State.md s_PairsAreSpared_9 = mBanked ∨ State.md s_PairsAreSpared_9 = mKindling)) ∧
    (State.get s_PairsAreSpared_10 F.AND_STS_SPARE = 8 ∧ 8 ≠ 15 ∧ State.get s_PairsAreSpared_10 (F.AND_PAIR_STS_STATE 8) = 2 ∧
      State.now s_PairsAreSpared_10 / 25000000 ≤ s_PairsAreSpared_10.and.stMark) :=
  by and_intros <;> decide +kernel

theorem witness_PairsAreSpared_2 :
    (sRo.and.rotMark < State.now sRo / 360000000000 ∧ State.getb sRo F.AND_CTL_ROT_EN = true ∧ State.getb sRo F.AND_STS_SPARE_OK = true ∧
      State.spareRuns sRo = true ∧ State.passing sRo = false ∧ sRo.and.rotating = none ∧ sRo.and.lastRot = some 7 ∧
      State.pairOf sRo ((7 + 1) % 8) ≠ 15) ∧
    (State.writable sRa h0 R.AND_ROT_ACK = true ∧ sRa.and.rotating = some (0, 5) ∧ State.get sRa F.AND_STS_SPARE = 8 ∧ 0 % 8 = 0 ∧
      State.pairOf sRa 0 = 0 ∧ 0 ≠ 8) ∧
    (State.writable sRa h0 R.AND_ROT_ACK = true ∧ sRa.and.rotating = some (0, 5) ∧ State.get sRa F.AND_STS_SPARE = 8 ∧ 1 % 8 ≠ 0) ∧
    (sRa.and.rotating = some (0, 5) ∧ 5 + ms 10 ≤ State.cyc sRa) ∧
    (s_PairsAreSpared_15.and.rotating = some (0, 150000000) ∧ State.cyc s_PairsAreSpared_15 < 150000000 + ms 10) :=
  by and_intros <;> decide +kernel

theorem witness_FailbackHandsOver_1 :
    (State.writable (sFb 2 0) h0 R.AND_FB_CTL = true ∧ bit 3221225472 30 = true ∧ State.getb (sFb 2 0) F.AND_FB_CTL_READY = false ∧
      State.mayAsk (sFb 2 0) = true) ∧
    (State.writable (sFb 4 0) h0 R.AND_FB_CTL = true ∧
      (bit 2147483648 30 = false ∨ State.mayAsk (sFb 4 0) = false ∨ State.getb (sFb 4 0) F.AND_FB_CTL_READY = true)) ∧
    (s_FailbackHandsOver_3.and.acceptPending = true ∧ State.session s_FailbackHandsOver_3 = true ∧ State.ownerReady s_FailbackHandsOver_3 = true ∧
      State.qphase s_FailbackHandsOver_3 ≠ 2 ∧ (∀ (r : JRec), r ∈ s_FailbackHandsOver_3.jnl.recs → r.mirror = true ∨ r.unmirrored = false) ∧
      10000000 = 10 * max 1 (State.get s_FailbackHandsOver_3 F.AND_FB_CFG_GRAN) * 100000 ∧
      State.getb s_FailbackHandsOver_3 F.AND_FB_CTL_INHIBIT = false) ∧
    (s_FailbackHandsOver_4.and.acceptPending = true ∧ State.session s_FailbackHandsOver_4 = true ∧ State.ownerReady s_FailbackHandsOver_4 = true ∧
      State.qphase s_FailbackHandsOver_4 ≠ 2 ∧ (∀ (r : JRec), r ∈ s_FailbackHandsOver_4.jnl.recs → r.mirror = true ∨ r.unmirrored = false) ∧
      10000000 = 10 * max 1 (State.get s_FailbackHandsOver_4 F.AND_FB_CFG_GRAN) * 100000 ∧
      State.getb s_FailbackHandsOver_4 F.AND_FB_CTL_INHIBIT = true) ∧
    (State.get s_FailbackHandsOver_5 F.AND_FB_CTL_STATE = 2 ∧ State.get s_FailbackHandsOver_5 F.AND_FB_TB_VALUE ≠ 0 ∧
      State.qphase s_FailbackHandsOver_5 ≠ 2 ∧ State.get s_FailbackHandsOver_5 F.AND_FB_TB_VALUE ≤ State.now s_FailbackHandsOver_5) ∧
    (State.get s_FailbackHandsOver_6 F.AND_FB_CTL_STATE = 2 ∧ State.get s_FailbackHandsOver_6 F.AND_FB_TB_VALUE ≠ 0 ∧
      State.qphase s_FailbackHandsOver_6 ≠ 2 ∧ State.now s_FailbackHandsOver_6 < State.get s_FailbackHandsOver_6 F.AND_FB_TB_VALUE) ∧
    ((sMv 100).and.survivor = true ∧ State.get (sMv 100) F.AND_FB_CTL_STATE = 3 ∧ State.session (sMv 100) = true ∧ State.ownerReady (sMv 100) = true ∧
      State.qphase (sMv 100) ≠ 2 ∧ State.donePending (sMv 100) = false ∧
      (∀ (c : Cmd), c ∈ (sMv 100).bel.cmds → c.dead = true ∨ State.moving (sMv 100) c.vol = false ∨ State.get (sMv 100) F.AND_FB_TB_VALUE ≤ c.atime)) ∧
    ((sMv 99).and.survivor = true ∧ State.get (sMv 99) F.AND_FB_CTL_STATE = 3 ∧ State.session (sMv 99) = true ∧ State.ownerReady (sMv 99) = true ∧
      State.qphase (sMv 99) ≠ 2 ∧ State.donePending (sMv 99) = false ∧ cMv 99 ∈ (sMv 99).bel.cmds ∧ (cMv 99).dead = false ∧
      State.moving (sMv 99) (cMv 99).vol = true ∧ (cMv 99).atime < State.get (sMv 99) F.AND_FB_TB_VALUE) ∧
    (State.get (sAbt true) F.AND_FB_CTL_STATE = 3 ∧ State.qphase (sAbt true) ≠ 2 ∧ State.md (sAbt true) = mDuplex ∧ (sAbt true).crl.arbAt = none ∧
      (sAbt true).crl.arbWait = false ∧ (sAbt true).bel.cmds = [] ∧ (sAbt true).and.survivor = true ∧ State.donePending (sAbt true) = false ∧
      State.ownerReady (sAbt true) = true ∧ State.get (sAbt true) F.AND_FB_TB_VALUE ≠ 0 ∧
      State.get (sAbt true) F.AND_FB_TB_VALUE + ms (max 1 (State.get (sAbt true) F.AND_FB_CFG_TO)) ≤ State.now (sAbt true)) ∧
    (State.get s_FailbackHandsOver_10 F.AND_FB_CTL_STATE = 3 ∧ State.qphase s_FailbackHandsOver_10 ≠ 2 ∧ State.md s_FailbackHandsOver_10 = mDuplex ∧
      s_FailbackHandsOver_10.crl.arbAt = none ∧ s_FailbackHandsOver_10.crl.arbWait = false ∧ s_FailbackHandsOver_10.bel.cmds = [] ∧
      s_FailbackHandsOver_10.and.survivor = false ∧ State.session s_FailbackHandsOver_10 = false) :=
  by and_intros <;> decide +kernel

theorem witness_FailbackHandsOver_2 :
    (State.get (sAbt false) F.AND_FB_CTL_STATE = 3 ∧ State.qphase (sAbt false) ≠ 2 ∧ State.md (sAbt false) = mDuplex ∧ (sAbt false).crl.arbAt = none ∧
      (sAbt false).crl.arbWait = false ∧ (sAbt false).bel.cmds = [] ∧ (sAbt false).and.survivor = false ∧ State.session (sAbt false) = true) ∧
    (State.get upT F.AND_FB_CTL_STATE = 0) :=
  by and_intros <;> decide +kernel

end Partner

namespace Resets

def calmS : State := upT.set F.KDL_STS_BUSY 0
def s_RailsAndHeat_3 : State := { calmS with dmp := { below := [0] } }
def s_RailsAndHeat_5 : State := { calmS with dmp := { below := [8] }, kdl := { asserted := [{ src := .cdSupply, reach := .computeDie, untilAt := none }] } }
def s_RailsAndHeat_7 : State := calmS.set F.DMP_STS_RAIL_WARN 0x1FF
def warnOf (r : Nat) : Nat := upT.get (F.DMP_RAIL_LVL_WARN_MV r)
def s_RailsAndHeat_10 : State := { calmS with dmp := { dip := some (3, 700, 5) } }
def s_RailsAndHeat_11 : State := { calmS with dmp := { dip := some (3, 700, 5) } }
def s_RailsAndHeat_14 : State := calmS.set F.DMP_STS_THR_SRC 7
def s_RailsAndHeat_17 : State := { calmS with dmp := { tripAt := some 5 } }
def s_RailsAndHeat_18 : State := { calmS with dmp := { tripAt := some 150000000 } }
def s_QuenchRuns_2 : State := { calmS with dmp := { revAt := some 150000000, eBase := 77 } }
def s_QuenchRuns_3 : State := calmS.set F.DMP_CTL_HOLDUP_EN 0
def pinS : State := { calmS with dmp := { pinAsserted := true } }
def s_QuenchRuns_5 : State := pinS.set F.GLB_MODE_QPHASE 1
def s_QuenchRuns_7 : State := calmS.set F.DMP_QTEST_SIM 1
def qC : Cmd := { id := 8, port := 1, ring := false, queue := 3, cid := 77, kind := .write, vol := 5, lba := 3, len := 4096, pgm := 0, irq := false, atime := 8, seq := 9, chead := 3, stage := .landing, slot := 0 }
def sQ1 : State := { (calmS.set F.GLB_MODE_QPHASE 1).set F.GLB_MODE_MODE 4 with dmp := { pinAsserted := true, eBase := 20200, eFrom := 150000000 }, bel := { cmds := [qC] } }
def s_QuenchRuns_11 : State := { sQ1 with dmp := { eFrom := 150000000 } }
def s_QuenchRuns_12 : State := { sQ1 with bel := {} }
def sRv : State := { sQ1 with dmp := { clearSince := some 5, eBase := 100, eFrom := 150000000 } }
def s_QuenchRuns_15 : State := { sRv with kdl := { held := [(.rstN, .system)] } }
def s_QuenchRuns_16 : State := { sRv with dmp := { clearSince := some 150000000 } }
def sP2 : State := { calmS.set F.GLB_MODE_QPHASE 2 with jnl := { recs := [{ seq := 7, atime := 5, type := 1, mirror := false, origin := 0, vol := 3, len := 4096 }] } }
def sP2r : State := { (calmS.set F.GLB_MODE_QPHASE 2).set F.JNL_STS_READY 1 with jnl := { creditAt := 150000000 } }
def sHo : State := { (calmS.set F.GLB_MODE_QPHASE 2).set F.DMP_STS_QHOLD 1 with dmp := { clearSince := some 5 } }
def s_QuenchRuns_20 : State := { sHo with dmp := {} }
def s_DomainsAndUnits_2 : State := calmS.set F.GLB_FAULT_DDR 2
def relBut (m : Nat) : State := upT.set F.KDL_REL_STS_DOMAIN m
def sS8 : State := { ((relBut (0x3FFFF - 2 ^ (dStv - 1))).set F.KDL_STS_STEP 8).set F.KDL_STS_BUSY 1 with jnl := { cur := [1] } }
def sGd : State := calmS.set F.KDL_CLK_GOOD_DOMAIN 0x3FFFF
def s_DomainsAndUnits_5 : State := sGd.set F.KDL_REL_STS_DOMAIN 0x1FFFF
def sS1 : State := { (relBut 1).set F.KDL_STS_BUSY 1 with kdl := {} }
def s_DomainsAndUnits_9 : State := { sS1 with kdl := { reachedAt := 150000000 } }
def sFo : State := (relBut 0x1FFFF).set F.KDL_CLK_GOOD_DOMAIN 0x3FFFF
def s_DomainsAndUnits_11 : State := sFo.set F.KDL_CLK_GOOD_DOMAIN 0
def s_DomainsAndUnits_12 : State := sFo.set F.GLB_MODE_MODE 3
def s_ResetsAndKindling_2 : State := calmS.set F.GLB_MODE_QPHASE 1
def sLow : State := { calmS with kdl := { rstLow := true, asserted := [{ src := .rstN, reach := .system, untilAt := none }, { src := .cmd, reach := .system, untilAt := some 9 }], episode := some .system } }
def s_ResetsAndKindling_6 : State := calmS.set F.KDL_REL_STS_DOMAIN 1
def s_ResetsAndKindling_10 : State := { calmS with kdl := { episode := some .computeDie, took := 0x1FFF } }
def s_ResetsAndKindling_11 : State := { calmS.set F.KDL_STS_DDR_KEPT 1 with kdl := { episode := some .system, took := 0x5 }, ddr := [(7, 3)], grates := [(9, 2)] }
def s_ResetsAndKindling_12 : State := { calmS with kdl := { episode := some .powerOn, took := 0x1 } }
def s_ResetsAndKindling_15 : State := { calmS with kdl := { episode := some .computeDie } }
def st (n : Nat) : State := { (upT.set F.KDL_STS_BUSY 1).set F.KDL_STS_STEP n with jnl := { cur := zeroBytes 14 ++ [2] ++ zeroBytes 241 } }
def s_ResetsAndKindling_19 : State := (st 1).set F.KDL_STS_REACH 3
def optB : Bytes := leBytes 4 0x4F505442 ++ leBytes 2 1 ++ zeroBytes 6 ++ [1, 0, 2, 0x7E] ++ zeroBytes 236 ++ leBytes 4 0x313F36D7
def sT2 : State := { (st 2).set F.KDL_STS_REACH 2 with jnl := { opt := [(0, optB)], pairs := [(34, { e0 := some (3, [7, 2, 1, 0, 99, 0]) })] } }
def s_ResetsAndKindling_22 : State := { st 8 with kdl := { missing := [4] } }
def img : Bytes := zeroBytes 12 ++ leBytes 4 0x01020304 ++ zeroBytes 16 ++ leBytes 8 0x8000 ++ zeroBytes 472
def s11 : State := { (st 11).set F.AND_MAP_PAIR 0x76543210 with kdl := { image := some img }, keys := { slots := [(0, { key := List.replicate 64 7, cls := 0 })] } }
def s12 : State := { st 12 with jnl := { cur := [1], pairs := [(33, { e0 := some (3, [5242880, 255]) })] } }
def sLat : State := { upT with acc := [(0, { latch := [(R.AND_RESTART_VEC, 7)] })] }
def sStg : State := { upT with acc := [(0, { staged := [(R.AND_RESTART_VEC, 0xFFFFFFFC)] })] }
def s_RegisterReads_1 : State := upT.set (F.DMP_RAIL_MON_MIN_MV 8) 700
def s_RegisterReads_2 : State := upT.set (F.DMP_RAIL_MON_MIN_MV 8) 700
def s_RegisterReads_3 : State := upT.set F.GLB_TRANS_CNT_COUNT 9
def s_RegisterReads_4 : State := upT.set (F.GLB_BKP_DATA 31) 0xA1B2C3D4
def s_RegisterReads_5 : State := upT.set (F.GLB_BKP_DATA 31) 0xA1B2C3D4
def sNr : State := upT.set F.KDL_REL_STS_DOMAIN (0x3FFFF - 2 ^ (dStv - 1))
def s_RegisterWrites_3 : State := upT.set F.KDL_ERR_FW_FAIL 1
def s_RegisterWrites_4 : State := upT.set F.DRV_CTL_LOCK 1
def sDbg : State := { upT with jnl := { upT.jnl with cur := zeroBytes 16 ++ [4] ++ zeroBytes 239 } }

theorem witness_RailsAndHeat_1 :
    (0 < State.get calmS (F.DMP_RAIL_LVL_RESET_MV 1) ∧ (¬1 ∈ calmS.dmp.below) ∧ 0 < 2 ^ 16 ∧ calmS.dmp.below = [] ∧ State.calm calmS = true) ∧
    (0 < State.get calmS (F.DMP_RAIL_LVL_RESET_MV 8) ∧ (¬8 ∈ calmS.dmp.below) ∧ 0 < 2 ^ 16 ∧ calmS.dmp.below = [] ∧ State.calm calmS = true) ∧
    (0 < State.get s_RailsAndHeat_3 (F.DMP_RAIL_LVL_RESET_MV 1) ∧ (¬1 ∈ s_RailsAndHeat_3.dmp.below) ∧ 0 < 2 ^ 16 ∧ 0 ∈ s_RailsAndHeat_3.dmp.below ∧
      (0 < 2 ↔ 1 < 2)) ∧
    ((State.get calmS (F.DMP_RAIL_LVL_RESET_MV 9) ≤ 0 ∨ 9 ≤ 9)) ∧
    (State.get s_RailsAndHeat_5 (F.DMP_RAIL_LVL_WARN_MV 8) + 10 < 65535 ∧ 65535 < 2 ^ 16 ∧ s_RailsAndHeat_5.dmp.below = [8]) ∧
    (State.get calmS (F.DMP_RAIL_LVL_WARN_MV 3) + 10 < 65535 ∧ 65535 < 2 ^ 16) ∧
    (State.get s_RailsAndHeat_7 (F.DMP_RAIL_LVL_WARN_MV 5) + 10 < 65535 ∧ 65535 < 2 ^ 16 ∧ (5 < 2 ∨ 4 < 5) ∧
      State.bitOf s_RailsAndHeat_7 F.DMP_STS_RAIL_WARN 5 = true) ∧
    (State.get calmS (F.DMP_RAIL_LVL_RESET_MV 8) ≤ warnOf 8 - 1 ∧ warnOf 8 - 1 < State.get calmS (F.DMP_RAIL_LVL_WARN_MV 8) ∧ warnOf 8 - 1 < 2 ^ 16 ∧
      (8 < 2 ∨ 4 < 8) ∧ State.bitOf calmS F.DMP_STS_RAIL_WARN 8 = false) ∧
    (State.get calmS (F.DMP_RAIL_LVL_RESET_MV 2) ≤ warnOf 2 - 1 ∧ warnOf 2 - 1 < State.get calmS (F.DMP_RAIL_LVL_WARN_MV 2) ∧ warnOf 2 - 1 < 2 ^ 16 ∧
      (¬2 ∈ calmS.dmp.below)) ∧
    (State.get s_RailsAndHeat_10 (F.DMP_RAIL_LVL_RESET_MV 2) ≤ warnOf 2 - 1 ∧ warnOf 2 - 1 < State.get s_RailsAndHeat_10 (F.DMP_RAIL_LVL_WARN_MV 2) ∧
      warnOf 2 - 1 < 2 ^ 16 ∧ (¬2 ∈ s_RailsAndHeat_10.dmp.below) ∧ s_RailsAndHeat_10.dmp.dip = some (3, 700, 5)) :=
  by and_intros <;> decide +kernel

theorem witness_RailsAndHeat_2 :
    (State.get s_RailsAndHeat_11 (F.DMP_RAIL_LVL_WARN_MV 2) + 10 < 2000 ∧ State.get s_RailsAndHeat_11 (F.DMP_RAIL_LVL_WARN_MV 3) + 10 < 2000 ∧
      State.get s_RailsAndHeat_11 (F.DMP_RAIL_LVL_WARN_MV 4) + 10 < 2000 ∧ (∀ (r : Nat), r ∈ s_RailsAndHeat_11.dmp.below → r < 2 ∨ 4 < r) ∧
      s_RailsAndHeat_11.dmp.dip = some (3, 700, 5)) ∧
    (State.getb calmS F.DMP_CTL_THERM_EN = true ∧ State.get calmS F.DMP_THERM_WARN < 255 ∧ State.bitOf calmS F.DMP_STS_THR_SRC 2 = false) ∧
    (State.getb calmS F.DMP_CTL_THERM_EN = true ∧ 108 ≤ State.get calmS F.DMP_THERM_WARN) ∧
    (State.getb s_RailsAndHeat_14 F.DMP_CTL_THERM_EN = true ∧ 105 + 3 ≤ State.get s_RailsAndHeat_14 F.DMP_THERM_WARN) ∧
    (calmS.dmp.tripAt = none) ∧
    (s_RailsAndHeat_17.dmp.tripAt = some 5 ∧ 5 + ms 50 ≤ State.cyc s_RailsAndHeat_17) ∧
    (s_RailsAndHeat_18.dmp.tripAt = some 150000000 ∧ State.cyc s_RailsAndHeat_18 < 150000000 + ms 50) :=
  by and_intros <;> decide +kernel

theorem witness_QuenchRuns_1 :
    (calmS.dmp.pinAsserted = false ∧ State.qphase calmS = 0 ∧ State.dmpRuns calmS = true ∧ State.getb calmS F.DMP_CTL_HOLDUP_EN = true ∧
      calmS.dmp.revAt = none) ∧
    (s_QuenchRuns_2.dmp.pinAsserted = false ∧ State.qphase s_QuenchRuns_2 = 0 ∧ State.dmpRuns s_QuenchRuns_2 = true ∧
      State.getb s_QuenchRuns_2 F.DMP_CTL_HOLDUP_EN = true ∧ s_QuenchRuns_2.dmp.revAt = some 150000000 ∧
      State.cyc s_QuenchRuns_2 < 150000000 + ms (State.get s_QuenchRuns_2 F.DMP_QCFG_RECHARGE)) ∧
    (s_QuenchRuns_3.dmp.pinAsserted = false ∧ State.getb s_QuenchRuns_3 F.DMP_CTL_HOLDUP_EN = false) ∧
    (pinS.dmp.pinAsserted = true) ∧
    (s_QuenchRuns_5.dmp.pinAsserted = true ∧ State.getb s_QuenchRuns_5 F.DMP_CTL_HOLDUP_EN = true ∧
      State.getb s_QuenchRuns_5 F.DMP_QTEST_SIM = false) ∧
    (State.writable calmS h0 R.DMP_QTEST = true ∧ bit 1 0 = true ∧ State.qphase calmS = 0 ∧ State.dmpRuns calmS = true ∧
      State.getb calmS F.DMP_CTL_HOLDUP_EN = true ∧ calmS.dmp.revAt = none) ∧
    (State.writable s_QuenchRuns_7 h0 R.DMP_QTEST = true ∧ bit 0 0 = false ∧ State.getb s_QuenchRuns_7 F.DMP_QTEST_SIM = true ∧
      s_QuenchRuns_7.dmp.pinAsserted = false) ∧
    (State.writable calmS h0 R.DMP_HOLDUP = true ∧ 65535 < 2 ^ 16 ∧ 80000000 + State.get calmS F.BEL_DIRTY_BOUND_LIMIT * 2 ^ 20 ≤ 65535 * 40000) ∧
    (State.writable calmS h0 R.DMP_HOLDUP = true ∧ 2000 < 2 ^ 16 ∧ 2000 * 40000 < 80000000 + State.get calmS F.BEL_DIRTY_BOUND_LIMIT * 2 ^ 20) ∧
    (State.qphase sQ1 = 1 ∧ State.get sQ1 F.DMP_HOLDUP_HOLD_US - 2000 ≤ State.qElapsed sQ1) :=
  by and_intros <;> decide +kernel

theorem witness_QuenchRuns_2 :
    (State.qphase s_QuenchRuns_11 = 1 ∧ State.qElapsed s_QuenchRuns_11 < State.get s_QuenchRuns_11 F.DMP_HOLDUP_HOLD_US - 2000) ∧
    (State.qphase s_QuenchRuns_12 = 1 ∧ State.dirty s_QuenchRuns_12 = 0 ∧
      100 * State.get s_QuenchRuns_12 F.DMP_QCFG_P1_MIN ≤ State.qElapsed s_QuenchRuns_12 ∧ State.holdup s_QuenchRuns_12 = true) ∧
    (State.qphase sQ1 = 1 ∧ (0 < State.dirty sQ1 ∨ State.holdup sQ1 = false ∨ State.qElapsed sQ1 < 100 * State.get sQ1 F.DMP_QCFG_P1_MIN)) ∧
    (State.qphase sRv = 1 ∧ sRv.dmp.clearSince = some 5 ∧ 5 + ms 5 ≤ State.cyc sRv ∧ State.qElapsed sRv < State.get sRv F.DMP_HOLDUP_HOLD_US - 2000 ∧
      sRv.kdl.held = [] ∧ State.md sRv ≠ mKindling) ∧
    (State.qphase s_QuenchRuns_15 = 1 ∧ s_QuenchRuns_15.dmp.clearSince = some 5 ∧ 5 + ms 5 ≤ State.cyc s_QuenchRuns_15 ∧
      State.qElapsed s_QuenchRuns_15 < State.get s_QuenchRuns_15 F.DMP_HOLDUP_HOLD_US - 2000 ∧
      s_QuenchRuns_15.kdl.held = [(RstSrc.rstN, Reach.system)] ∧ s_QuenchRuns_15.kdl.episode = none ∧
      State.getb s_QuenchRuns_15 F.KDL_STS_BUSY = false) ∧
    (State.qphase s_QuenchRuns_16 = 1 ∧ s_QuenchRuns_16.dmp.clearSince = some 150000000 ∧ State.cyc s_QuenchRuns_16 < 150000000 + ms 5) ∧
    (State.qphase sP2 = 2 ∧ State.getb sP2 F.DMP_STS_QHOLD = false ∧ sP2.kdl.held = [] ∧ sP2.stoves = [] ∧ State.getb sP2 F.JNL_STS_READY = false) ∧
    (State.qphase sP2r = 2 ∧ State.getb sP2r F.DMP_STS_QHOLD = false ∧ sP2r.kdl.held = [] ∧ sP2r.stoves = [] ∧
      State.getb sP2r F.JNL_STS_READY = true ∧ sP2r.jnl.recs = [] ∧ sP2r.jnl.waiting = [] ∧ sP2r.bel.cmds = [] ∧ sP2r.bel.ctrls = [] ∧
      sP2r.wins = []) ∧
    (State.getb sHo F.DMP_STS_QHOLD = true ∧ State.clear5 sHo = true ∧ sHo.kdl.held = [] ∧ sHo.kdl.episode = none ∧
      State.getb sHo F.KDL_STS_BUSY = false) ∧
    (State.getb s_QuenchRuns_20 F.DMP_STS_QHOLD = true ∧ State.clear5 s_QuenchRuns_20 = false) :=
  by and_intros <;> decide +kernel

theorem witness_DomainsAndUnits_1 :
    (bit (State.get upT F.GLB_FAULT_STV) (51 - 36) = false ∧ putBit (State.get upT F.GLB_FAULT_STV) (51 - 36) true % 2 ^ 16 ≠ 65535) ∧
    (State.calm s_DomainsAndUnits_2 = true ∧ bit (State.get s_DomainsAndUnits_2 F.GLB_FAULT_DDR) 0 = false ∧
      State.get s_DomainsAndUnits_2 F.GLB_FAULT_DDR = 2) ∧
    (State.get calmS F.KDL_CLK_PEND_DOMAIN = 0 ∧ State.kdlStep calmS = 0) ∧
    (1 ≤ dStv ∧ dStv ≤ 18 ∧ State.get sS8 F.KDL_CLK_PEND_DOMAIN = 0 ∧ dStv = dStv ∧ State.kdlStep sS8 = 8 ∧ State.skips sS8 8 = false ∧
      State.released sS8 dStv = false ∧ State.clockLost sS8 dStv = false) ∧
    (State.bitOf s_DomainsAndUnits_5 F.KDL_CLK_GOOD_DOMAIN (18 - 1) = true ∧ State.released s_DomainsAndUnits_5 18 = false) ∧
    (State.bitOf sGd F.KDL_CLK_GOOD_DOMAIN (dSbd - 1) = true ∧ 1 ≤ dSbd ∧ dSbd ≤ 18 ∧ State.released sGd dSbd = true ∧ (dSbd = dDbg ∨ dSbd = dSbd)) ∧
    (State.bitOf sGd F.KDL_CLK_GOOD_DOMAIN (dDdrA - 1) = true ∧ 1 ≤ dDdrA ∧ dDdrA ≤ 18 ∧ State.released sGd dDdrA = true ∧ dDdrA = dDdrA ∧
      State.get sGd F.GLB_FAULT_DDR = 0) ∧
    (State.awaited sS1 = some 2 ∧ State.kdlStep sS1 = 1 ∧ sS1.kdl.reachedAt + ms 100 ≤ State.cyc sS1) ∧
    (State.awaited s_DomainsAndUnits_9 = some 2 ∧ State.kdlStep s_DomainsAndUnits_9 = 1 ∧
      State.cyc s_DomainsAndUnits_9 < s_DomainsAndUnits_9.kdl.reachedAt + ms 100) ∧
    (State.writable sFo h0 R.KDL_REL_FORCE = true ∧ State.released sFo 18 = false ∧ State.get sFo F.KDL_CLK_PEND_DOMAIN = 0 ∧
      (State.md sFo = mKindling ∨ State.md sFo = mSweep) ∧ State.bitOf sFo F.KDL_CLK_GOOD_DOMAIN (18 - 1) = true ∧ sFo.kdl.episode = none) :=
  by and_intros <;> decide +kernel

theorem witness_DomainsAndUnits_2 :
    (State.writable s_DomainsAndUnits_11 h0 R.KDL_REL_FORCE = true ∧ State.released s_DomainsAndUnits_11 18 = false ∧
      State.get s_DomainsAndUnits_11 F.KDL_CLK_PEND_DOMAIN = 0 ∧
      (State.md s_DomainsAndUnits_11 = mKindling ∨ State.md s_DomainsAndUnits_11 = mSweep) ∧
      State.bitOf s_DomainsAndUnits_11 F.KDL_CLK_GOOD_DOMAIN (18 - 1) = false) ∧
    (State.writable s_DomainsAndUnits_12 h0 R.KDL_REL_FORCE = true ∧ State.released s_DomainsAndUnits_12 18 = false ∧
      State.get s_DomainsAndUnits_12 F.KDL_CLK_PEND_DOMAIN = 0 ∧ State.md s_DomainsAndUnits_12 = mDuplex) :=
  by and_intros <;> decide +kernel

theorem witness_ResetsAndKindling_1 :
    (calmS.kdl.rstLow = false ∧ (5000 ≤ 5000 ∨ 1000 ≤ 5000 ∧ true = true) ∧ State.calm calmS = true) ∧
    (s_ResetsAndKindling_2.kdl.rstLow = false ∧ (5000 ≤ 5000 ∨ 1000 ≤ 5000 ∧ true = true) ∧ State.qphase s_ResetsAndKindling_2 = 1 ∧
      s_ResetsAndKindling_2.kdl.held = []) ∧
    (calmS.kdl.rstLow = false ∧ (999 < 1000 ∨ 999 < 5000 ∧ true = false)) ∧
    (sLow.kdl.rstLow = true) ∧
    (State.calm calmS = true ∧ State.released calmS dSbd = true) ∧
    (State.calm s_ResetsAndKindling_6 = true ∧ State.released s_ResetsAndKindling_6 dSbd = false) ∧
    (State.writable calmS h0 R.KDL_RST_CMD = true ∧ State.calm calmS = true ∧ bits 1262747649 16 16 = 19268 ∧ 1262747649 % 4 = 1) ∧
    (State.writable calmS h0 R.KDL_RST_CMD = true ∧ State.calm calmS = true ∧ bits 1262747650 16 16 = 19268 ∧ 1262747650 % 4 = 2) ∧
    (State.writable calmS h0 R.KDL_RST_CMD = true ∧ State.calm calmS = true ∧ bits 1262813185 16 16 ≠ 19268) ∧
    (s_ResetsAndKindling_10.kdl.episode = some Reach.computeDie ∧ s_ResetsAndKindling_10.kdl.asserted = []) :=
  by and_intros <;> decide +kernel

theorem witness_ResetsAndKindling_2 :
    (s_ResetsAndKindling_11.kdl.episode = some Reach.system ∧ s_ResetsAndKindling_11.kdl.asserted = []) ∧
    (s_ResetsAndKindling_12.kdl.episode = some Reach.powerOn ∧ s_ResetsAndKindling_12.kdl.asserted = []) ∧
    (sLow.kdl.episode = some Reach.system ∧ { src := RstSrc.rstN, reach := Reach.system, untilAt := none : Asserted } ∈ sLow.kdl.asserted ∧
      { src := RstSrc.rstN, reach := Reach.system, untilAt := none : Asserted }.untilAt = none) ∧
    (sLow.kdl.episode = some Reach.system ∧ sLow.kdl.episodeAt + ms 100 ≤ State.cyc sLow) ∧
    (s_ResetsAndKindling_15.kdl.episode = some Reach.computeDie) ∧
    (State.writable calmS h0 R.KDL_MIN_SVN = true ∧ 4294967295 < 2 ^ 32 ∧ State.get calmS F.KDL_MIN_SVN_SVN < 4294967295) ∧
    (State.writable calmS h0 R.KDL_MIN_SVN = true ∧ 0 < 2 ^ 32 ∧ 0 ≤ State.get calmS F.KDL_MIN_SVN_SVN) ∧
    ((State.kdlStep calmS = 0 ∨ State.skips calmS (State.kdlStep calmS) = false ∧ Option.isSome (State.awaited calmS) = true)) ∧
    (State.kdlStep s_ResetsAndKindling_19 = 1 ∧ State.skips s_ResetsAndKindling_19 1 = false ∧ State.awaited s_ResetsAndKindling_19 = none ∧
      State.get s_ResetsAndKindling_19 F.KDL_STS_REACH = 3) ∧
    (State.kdlStep (st 3) = 3 ∧ State.skips (st 3) 3 = false ∧ State.awaited (st 3) = none ∧ State.bootSources (st 3) = [0, 1] ∧
      State.get (st 3) F.KDL_BOOT_RES_CS0 = 255 ∧ State.get (st 3) F.KDL_BOOT_RES_CS1 = 255 ∧ 2 = State.verifyImage (st 3) (some (zeroBytes 600))) :=
  by and_intros <;> decide +kernel

theorem witness_ResetsAndKindling_3 :
    (State.kdlStep s_ResetsAndKindling_22 = 8 ∧ State.skips s_ResetsAndKindling_22 8 = true ∧ (8 = 4 ∨ 8 = 5 ∨ 8 = 6 ∨ 8 = 7 ∨ 8 = 8)) ∧
    (State.kdlStep (st 9) = 9 ∧ State.skips (st 9) 9 = false ∧ State.awaited (st 9) = none ∧ (∀ (p : Nat), p < 9 → ¬p + 19 ∈ (st 9).kdl.missing ∧
      State.get (st 9) (F.AND_PAIR_STS_FLT p) = 0)) ∧
    (State.kdlStep (st 10) = 10 ∧ State.skips (st 10) 10 = false ∧ State.awaited (st 10) = none ∧ 30 + 1 ∈ [31]) ∧
    (State.kdlStep s11 = 11 ∧ State.skips s11 11 = false ∧ State.awaited s11 = none ∧ State.faultCode s11 = 0) ∧
    (State.kdlStep (st 11) = 11 ∧ State.skips (st 11) 11 = false ∧ State.awaited (st 11) = none ∧ State.faultCode (st 11) ≠ 0) ∧
    (State.kdlStep s12 = 12 ∧ State.skips s12 12 = false ∧ State.awaited s12 = none ∧ s12.jnl.recs = [] ∧ s12.jnl.waiting = [] ∧ s12.ddx.undo = [] ∧
      State.pair s12 33 = some [5242880, 255] ∧ (∀ (k : Nat), k < 32 → Tab.find s12.jnl.pairs k = none) ∧
      State.getb s12 F.GLB_CTL_BOOT_SWEEP = false) :=
  by and_intros <;> decide +kernel

theorem witness_ResetsAndKindling_4 :
    ((State.kdlStep sT2 = 2 ∧ State.skips sT2 2 = false ∧ State.awaited sT2 = none ∧ (¬1 ∈ []) ∧ (¬1 ∈ sT2.kdl.missing) ∧
      State.get sT2 F.KDL_STS_REACH = 2 ∧ Tab.find sT2.jnl.opt 1 = none ∧ State.pair sT2 34 = some [7, 2, 1, 0, 99, 0]) ∧
      Tab.find sT2.jnl.opt 0 = some optB ∧ optValid optB = true) :=
  ⟨by and_intros <;> decide +kernel, rfl, by simp only [optValid, crc32c_run]; decide +kernel⟩

theorem witness_HalfAccesses :
    (R.AND_RESTART_VEC % 8 = 0 ∧ widthAt R.AND_RESTART_VEC = 64 ∧ widthAt (R.AND_RESTART_VEC + 4) = 0 ∧ reaches h0 R.AND_RESTART_VEC = true ∧
      reaches h0 (R.AND_RESTART_VEC + 4) = true ∧ (¬(65536 ≤ R.AND_RESTART_VEC ∧ R.AND_RESTART_VEC < 131072)) ∧ inLocal R.AND_RESTART_VEC = false ∧
      inLocal (R.AND_RESTART_VEC + 4) = false ∧ otherSpace R.AND_RESTART_VEC = false ∧ otherSpace (R.AND_RESTART_VEC + 4) = false ∧
      State.dbgStop upT h0 R.AND_RESTART_VEC = false ∧ State.dbgStop upT h0 (R.AND_RESTART_VEC + 4) = false ∧ State.canReach upT h0 = true ∧
      State.notReady upT R.AND_RESTART_VEC = false ∧ State.notReady upT (R.AND_RESTART_VEC + 4) = false ∧
      (if true = true then readRefused h0 R.AND_RESTART_VEC = false ∧
      readRefused h0 (R.AND_RESTART_VEC + 4) = false else State.writable upT h0 R.AND_RESTART_VEC = true ∧
      State.writable upT h0 (R.AND_RESTART_VEC + 4) = true)) ∧
    (R.AND_RESTART_VEC % 8 = 0 ∧ widthAt R.AND_RESTART_VEC = 64 ∧ widthAt (R.AND_RESTART_VEC + 4) = 0 ∧ reaches h0 R.AND_RESTART_VEC = true ∧
      reaches h0 (R.AND_RESTART_VEC + 4) = true ∧ (¬(65536 ≤ R.AND_RESTART_VEC ∧ R.AND_RESTART_VEC < 131072)) ∧ inLocal R.AND_RESTART_VEC = false ∧
      inLocal (R.AND_RESTART_VEC + 4) = false ∧ otherSpace R.AND_RESTART_VEC = false ∧ otherSpace (R.AND_RESTART_VEC + 4) = false ∧
      State.dbgStop sLat h0 R.AND_RESTART_VEC = false ∧ State.dbgStop sLat h0 (R.AND_RESTART_VEC + 4) = false ∧ State.canReach sLat h0 = true ∧
      State.notReady sLat R.AND_RESTART_VEC = false ∧ State.notReady sLat (R.AND_RESTART_VEC + 4) = false ∧
      (if true = true then readRefused h0 R.AND_RESTART_VEC = false ∧
      readRefused h0 (R.AND_RESTART_VEC + 4) = false else State.writable sLat h0 R.AND_RESTART_VEC = true ∧
      State.writable sLat h0 (R.AND_RESTART_VEC + 4) = true) ∧ Tab.find (State.accOf sLat h0).latch R.AND_RESTART_VEC = some 7) ∧
    (R.AND_RESTART_VEC % 8 = 0 ∧ widthAt R.AND_RESTART_VEC = 64 ∧ widthAt (R.AND_RESTART_VEC + 4) = 0 ∧ reaches h0 R.AND_RESTART_VEC = true ∧
      reaches h0 (R.AND_RESTART_VEC + 4) = true ∧ (¬(65536 ≤ R.AND_RESTART_VEC ∧ R.AND_RESTART_VEC < 131072)) ∧ inLocal R.AND_RESTART_VEC = false ∧
      inLocal (R.AND_RESTART_VEC + 4) = false ∧ otherSpace R.AND_RESTART_VEC = false ∧ otherSpace (R.AND_RESTART_VEC + 4) = false ∧
      State.dbgStop upT h0 R.AND_RESTART_VEC = false ∧ State.dbgStop upT h0 (R.AND_RESTART_VEC + 4) = false ∧ State.canReach upT h0 = true ∧
      State.notReady upT R.AND_RESTART_VEC = false ∧ State.notReady upT (R.AND_RESTART_VEC + 4) = false ∧
      (if true = true then readRefused h0 R.AND_RESTART_VEC = false ∧
      readRefused h0 (R.AND_RESTART_VEC + 4) = false else State.writable upT h0 R.AND_RESTART_VEC = true ∧
      State.writable upT h0 (R.AND_RESTART_VEC + 4) = true) ∧ Tab.find (State.accOf upT h0).latch R.AND_RESTART_VEC = none) ∧
    (R.AND_RESTART_VEC % 8 = 0 ∧ widthAt R.AND_RESTART_VEC = 64 ∧ widthAt (R.AND_RESTART_VEC + 4) = 0 ∧ reaches h0 R.AND_RESTART_VEC = true ∧
      reaches h0 (R.AND_RESTART_VEC + 4) = true ∧ (¬(65536 ≤ R.AND_RESTART_VEC ∧ R.AND_RESTART_VEC < 131072)) ∧ inLocal R.AND_RESTART_VEC = false ∧
      inLocal (R.AND_RESTART_VEC + 4) = false ∧ otherSpace R.AND_RESTART_VEC = false ∧ otherSpace (R.AND_RESTART_VEC + 4) = false ∧
      State.dbgStop sLat h0 R.AND_RESTART_VEC = false ∧ State.dbgStop sLat h0 (R.AND_RESTART_VEC + 4) = false ∧ State.canReach sLat h0 = true ∧
      State.notReady sLat R.AND_RESTART_VEC = false ∧ State.notReady sLat (R.AND_RESTART_VEC + 4) = false ∧
      (if true = true then readRefused h0 R.AND_RESTART_VEC = false ∧
      readRefused h0 (R.AND_RESTART_VEC + 4) = false else State.writable sLat h0 R.AND_RESTART_VEC = true ∧
      State.writable sLat h0 (R.AND_RESTART_VEC + 4) = true)) ∧
    (R.AND_RESTART_VEC % 8 = 0 ∧ widthAt R.AND_RESTART_VEC = 64 ∧ widthAt (R.AND_RESTART_VEC + 4) = 0 ∧ reaches h0 R.AND_RESTART_VEC = true ∧
      reaches h0 (R.AND_RESTART_VEC + 4) = true ∧ (¬(65536 ≤ R.AND_RESTART_VEC ∧ R.AND_RESTART_VEC < 131072)) ∧ inLocal R.AND_RESTART_VEC = false ∧
      inLocal (R.AND_RESTART_VEC + 4) = false ∧ otherSpace R.AND_RESTART_VEC = false ∧ otherSpace (R.AND_RESTART_VEC + 4) = false ∧
      State.dbgStop upT h0 R.AND_RESTART_VEC = false ∧ State.dbgStop upT h0 (R.AND_RESTART_VEC + 4) = false ∧ State.canReach upT h0 = true ∧
      State.notReady upT R.AND_RESTART_VEC = false ∧ State.notReady upT (R.AND_RESTART_VEC + 4) = false ∧
      (if false = true then readRefused h0 R.AND_RESTART_VEC = false ∧
      readRefused h0 (R.AND_RESTART_VEC + 4) = false else State.writable upT h0 R.AND_RESTART_VEC = true ∧
      State.writable upT h0 (R.AND_RESTART_VEC + 4) = true)) ∧
    (R.AND_RESTART_VEC % 8 = 0 ∧ widthAt R.AND_RESTART_VEC = 64 ∧ widthAt (R.AND_RESTART_VEC + 4) = 0 ∧ reaches h0 R.AND_RESTART_VEC = true ∧
      reaches h0 (R.AND_RESTART_VEC + 4) = true ∧ (¬(65536 ≤ R.AND_RESTART_VEC ∧ R.AND_RESTART_VEC < 131072)) ∧ inLocal R.AND_RESTART_VEC = false ∧
      inLocal (R.AND_RESTART_VEC + 4) = false ∧ otherSpace R.AND_RESTART_VEC = false ∧ otherSpace (R.AND_RESTART_VEC + 4) = false ∧
      State.dbgStop sStg h0 R.AND_RESTART_VEC = false ∧ State.dbgStop sStg h0 (R.AND_RESTART_VEC + 4) = false ∧ State.canReach sStg h0 = true ∧
      State.notReady sStg R.AND_RESTART_VEC = false ∧ State.notReady sStg (R.AND_RESTART_VEC + 4) = false ∧
      (if false = true then readRefused h0 R.AND_RESTART_VEC = false ∧
      readRefused h0 (R.AND_RESTART_VEC + 4) = false else State.writable sStg h0 R.AND_RESTART_VEC = true ∧
      State.writable sStg h0 (R.AND_RESTART_VEC + 4) = true) ∧ 4294967292 < 2 ^ 32 ∧
      Tab.find (State.accOf sStg h0).staged R.AND_RESTART_VEC = some 4294967292) ∧
    (R.AND_RESTART_VEC % 8 = 0 ∧ widthAt R.AND_RESTART_VEC = 64 ∧ widthAt (R.AND_RESTART_VEC + 4) = 0 ∧ reaches h0 R.AND_RESTART_VEC = true ∧
      reaches h0 (R.AND_RESTART_VEC + 4) = true ∧ (¬(65536 ≤ R.AND_RESTART_VEC ∧ R.AND_RESTART_VEC < 131072)) ∧ inLocal R.AND_RESTART_VEC = false ∧
      inLocal (R.AND_RESTART_VEC + 4) = false ∧ otherSpace R.AND_RESTART_VEC = false ∧ otherSpace (R.AND_RESTART_VEC + 4) = false ∧
      State.dbgStop upT h0 R.AND_RESTART_VEC = false ∧ State.dbgStop upT h0 (R.AND_RESTART_VEC + 4) = false ∧ State.canReach upT h0 = true ∧
      State.notReady upT R.AND_RESTART_VEC = false ∧ State.notReady upT (R.AND_RESTART_VEC + 4) = false ∧
      (if false = true then readRefused h0 R.AND_RESTART_VEC = false ∧
      readRefused h0 (R.AND_RESTART_VEC + 4) = false else State.writable upT h0 R.AND_RESTART_VEC = true ∧
      State.writable upT h0 (R.AND_RESTART_VEC + 4) = true) ∧ Tab.find (State.accOf upT h0).staged R.AND_RESTART_VEC = none) ∧
    (R.AND_RESTART_VEC % 8 = 0 ∧ widthAt R.AND_RESTART_VEC = 64 ∧ widthAt (R.AND_RESTART_VEC + 4) = 0 ∧ reaches h0 R.AND_RESTART_VEC = true ∧
      reaches h0 (R.AND_RESTART_VEC + 4) = true ∧ (¬(65536 ≤ R.AND_RESTART_VEC ∧ R.AND_RESTART_VEC < 131072)) ∧ inLocal R.AND_RESTART_VEC = false ∧
      inLocal (R.AND_RESTART_VEC + 4) = false ∧ otherSpace R.AND_RESTART_VEC = false ∧ otherSpace (R.AND_RESTART_VEC + 4) = false ∧
      State.dbgStop sStg h0 R.AND_RESTART_VEC = false ∧ State.dbgStop sStg h0 (R.AND_RESTART_VEC + 4) = false ∧ State.canReach sStg h0 = true ∧
      State.notReady sStg R.AND_RESTART_VEC = false ∧ State.notReady sStg (R.AND_RESTART_VEC + 4) = false ∧
      (if false = true then readRefused h0 R.AND_RESTART_VEC = false ∧
      readRefused h0 (R.AND_RESTART_VEC + 4) = false else State.writable sStg h0 R.AND_RESTART_VEC = true ∧
      State.writable sStg h0 (R.AND_RESTART_VEC + 4) = true)) :=
  by and_intros <;> decide +kernel

theorem witness_RegisterReads :
    (State.canReach s_RegisterReads_1 h0 = true ∧ State.get s_RegisterReads_1 (F.DMP_RAIL_MON_VOLT_MV 8) < 2 ^ 16 ∧
      State.get s_RegisterReads_1 (F.DMP_RAIL_MON_MIN_MV 8) < 2 ^ 16) ∧
    (State.canReach s_RegisterReads_2 h0 = true ∧ State.get s_RegisterReads_2 (F.DMP_RAIL_MON_VOLT_MV 8) < 2 ^ 16 ∧
      State.get s_RegisterReads_2 (F.DMP_RAIL_MON_MIN_MV 8) < 2 ^ 16) ∧
    (State.canReach s_RegisterReads_3 h0 = true ∧ State.get s_RegisterReads_3 F.GLB_TRANS_CNT_COUNT < 2 ^ 32) ∧
    (State.canReach s_RegisterReads_4 h0 = true ∧ State.get s_RegisterReads_4 (F.GLB_BKP_DATA 31) < 2 ^ 32) ∧
    (State.canReach s_RegisterReads_5 h0 = true ∧ State.get s_RegisterReads_5 (F.GLB_BKP_DATA 30) < 2 ^ 32 ∧ 30 % 2 = 0 ∧
      State.get s_RegisterReads_5 (F.GLB_BKP_DATA (30 + 1)) < 2 ^ 32) ∧
    (State.canReach upT (Req.hart 0 false) = true ∧ reqSecure (Req.hart 0 false) = false) ∧
    (State.dbgStop sNr h0 16777216 = false ∧ State.canReach sNr h0 = true ∧ State.notReady sNr 16777216 = true) ∧
    (State.dbgStop State.reset h0 16777216 = false ∧ State.canReach State.reset h0 = false) :=
  by and_intros <;> decide +kernel

theorem witness_RegisterWrites_1 :
    (State.writable sStg h0 R.AND_RESTART_VEC = true ∧ State.writable sStg h0 (R.AND_RESTART_VEC + 4) = true ∧
      State.getb sStg F.AND_CTL_LOCK = false ∧ 4294967292 < 2 ^ 32 ∧ Tab.find (State.accOf sStg h0).staged R.AND_RESTART_VEC = some 4294967292) ∧
    (State.writable upT h0 R.DMP_IRQ_EN = true) ∧
    (State.writable s_RegisterWrites_3 h0 R.KDL_ERR = true) ∧
    (State.writable s_RegisterWrites_4 h0 R.DRV_GEOM = true ∧ State.getb s_RegisterWrites_4 F.DRV_CTL_LOCK = true) ∧
    (State.writable upT h0 R.DRV_GEOM = true ∧ State.getb upT F.DRV_CTL_LOCK = false) ∧
    (State.writable upT h0 65536 = true ∧ 8 + 2 ^ 3 ≤ 2 ^ 16 ∧ 8 % 2 ^ 3 = 0) ∧
    (State.dbgStop sNr h0 16777216 = false ∧ State.canReach sNr h0 = true ∧ State.notReady sNr 16777216 = true) ∧
    (State.dbgStop upT (Req.hart 0 false) R.KDL_MIN_SVN = false ∧ State.canReach upT (Req.hart 0 false) = true ∧
      State.notReady upT R.KDL_MIN_SVN = false ∧ (secureOnly R.KDL_MIN_SVN = true ∧
      reqSecure (Req.hart 0 false) = false ∨ hostIgnored R.KDL_MIN_SVN = true ∧ reqHost (Req.hart 0 false) = true)) ∧
    (State.dbgStop upT h0 (R.DMP_IRQ_EN + 1) = false ∧ State.canReach upT h0 = true ∧ State.notReady upT (R.DMP_IRQ_EN + 1) = false ∧
      (R.DMP_IRQ_EN + 1) % 2 ^ 2 ≠ 0) ∧
    (State.dbgStop upT h0 R.DMP_IRQ_EN = false ∧ State.canReach upT h0 = true ∧ State.notReady upT R.DMP_IRQ_EN = false ∧ (¬(65536 ≤ R.DMP_IRQ_EN ∧
      R.DMP_IRQ_EN < 131072)) ∧ inLocal R.DMP_IRQ_EN = false) :=
  by and_intros <;> decide +kernel

theorem witness_RegisterWrites_2 :
    (State.dbgStop State.reset h0 R.DMP_IRQ_EN = false ∧ State.canReach State.reset h0 = false) ∧
    (State.dbgStop upT (Req.host 1) R.BEL_CTL = false ∧ State.canReach upT (Req.host 1) = true ∧ State.notReady upT R.BEL_CTL = false ∧
      (secureOnly R.BEL_CTL = true ∧ reqSecure (Req.host 1) = false ∨ hostIgnored R.BEL_CTL = true ∧ reqHost (Req.host 1) = true)) ∧
    (State.dbgStop sDbg h0 52428800 = true) ∧
    (State.dbgStop sDbg h0 (52428800 + 4) = true) :=
  by and_intros <;> decide +kernel

theorem witness_TickCycles :
    (upT.pending = [] ∧ upT.ddx.snapWait = []) :=
  by and_intros <;> decide +kernel

end Resets

/-- A state whose memories hold something, which the next step leaves. -/
theorem witness_StepKeepsMemoryForm : sStv.memoryOk = true ∧ ∃ t, step sStv = .next t := ⟨by decide +kernel, _, rfl⟩

/-- A command and a state whose next state it answers. -/
theorem witness_QueueIsLeft : ∃ t, exec (.addi 15 3 (ins 4 0 0 0 4096)) sStv = .next t := ⟨_, rfl⟩

end Sys2Proof.Tests
end

section
/-! SUPPORT. Register accesses: what an access does once its requester and its block are out of reset, what it does to a register of each width, and
what a requester's latches and staged halves hold after it (R9-R13, R24). -/

namespace Sys2Proof.Machine

variable {s t : State} {r : Req} {a lg n v same x : Nat} {chg : List (Nat × Nat)} {ps : List Part} {fs : List Fld} {y : AccSt}

/-! ### Latches and staged halves -/

theorem State.accOf_updAcc (f : AccSt → AccSt) : (s.updAcc r f).accOf r = f (s.accOf r) := by
  simp [State.accOf, State.updAcc, Tab.getD_upd]

theorem ownAcc_updAcc (f : AccSt → AccSt) : OwnAcc r (f (s.accOf r)) s (s.updAcc r f) :=
  ⟨State.accOf_updAcc f, fun g hg => by simp [State.updAcc, Tab.getD_upd, hg]⟩

/-- Whose latches and halves changed is a matter of `acc` alone. -/
theorem ownAcc_of_acc_eq {u : State} (h : OwnAcc r y s t) (hu : u.acc = t.acc) : OwnAcc r y s u := by
  obtain ⟨hown, hothers⟩ := h
  exact ⟨by rw [← hown, State.accOf, State.accOf, hu], fun g hg => by rw [hu, hothers g hg]⟩

theorem Kept.updAcc (h : Kept ps fs s t) (hp : Part.acc ∈ ps) (f : AccSt → AccSt) : Kept ps fs s (t.updAcc r f) := by
  refine h.upd rfl rfl fun p hn => ?_
  cases p with
  | acc => exact absurd hp hn
  | ports | irqPend => exact fun _ => rfl
  | wdt => exact ⟨rfl, rfl⟩
  | plic => exact ⟨rfl, rfl, rfl, rfl⟩
  | _ => exact rfl

/-! ### What an access meets before its register (R13, R24, R583) -/

theorem State.notReady_of_lt (h : a < 0x600000) : s.notReady a = false := by simp [State.notReady, h]

theorem State.dbgStop_of_lt (h : a < 0x3200000) : s.dbgStop r a = false := by
  simp only [State.dbgStop, Bool.and_eq_false_iff, decide_eq_false_iff_not]
  omega

theorem State.writable_iff : s.writable r a = true ↔
    s.canReach r = true ∧ s.notReady a = false ∧ ¬ (secureOnly a = true ∧ reqSecure r = false) ∧ ¬ (hostIgnored a = true ∧ reqHost r = true) := by
  simp [State.writable, and_assoc, imp_iff_not_or]

theorem State.answerRead_unreached (h : s.canReach r = false) (eff : State → State × Nat) : s.answerRead r a eff = s := by
  simp [State.answerRead, h]

theorem State.answerRead_notReady (hc : s.canReach r = true) (hn : s.notReady a = true) (eff : State → State × Nat) :
    s.answerRead r a eff = s.emit (.notReady (reqAgent r) a) := by simp [State.answerRead, hc, hn]

theorem State.answerRead_ready (hc : s.canReach r = true) (hn : s.notReady a = false) {eff : State → State × Nat} (he : eff s = (t, x)) :
    s.answerRead r a eff = t.emit (.readData (reqAgent r) a x) := by simp [State.answerRead, hc, hn, he]

theorem State.withWrite_unreached (h : s.canReach r = false) (eff : State → State) : s.withWrite r a eff = s := by
  simp [State.withWrite, h]

theorem State.withWrite_notReady (hc : s.canReach r = true) (hn : s.notReady a = true) (eff : State → State) :
    s.withWrite r a eff = s.emit (.notReady (reqAgent r) a) := by simp [State.withWrite, hc, hn]

theorem State.withWrite_discarded (hc : s.canReach r = true) (hn : s.notReady a = false)
    (h : (secureOnly a = true ∧ reqSecure r = false) ∨ (hostIgnored a = true ∧ reqHost r = true)) (eff : State → State) :
    s.withWrite r a eff = s := by simp [State.withWrite, hc, hn, h]

theorem State.withWrite_writable (h : s.writable r a = true) (eff : State → State) : s.withWrite r a eff = eff s := by
  obtain ⟨hc, hn, hsec, hhost⟩ := State.writable_iff.mp h
  simp [State.withWrite, hc, hn, hsec, hhost]

/-- A write that has no effect on its register leaves at most the error response behind, and none where the block is ready. -/
theorem State.withWrite_ignored (hn : s.notReady a = false) {eff : State → State} (he : eff s = s) : s.withWrite r a eff = s := by
  simp [State.withWrite, hn, he]

/-! ### The commands -/

theorem exec_rcFieldRead (hd : s.dbgStop r a = false) :
    exec (.rcFieldRead r a lg chg) s = .next (s.answerRead r a (fun s => s.readAt r a (2 ^ lg) chg)) := by
  simp [exec, execRcFieldRead, hd]

theorem exec_lowHalfRead (hd : s.dbgStop r a = false) :
    exec (.lowHalfRead r a) s = .next (s.answerRead r a (fun s => s.readAt r a 4 [])) := by
  simp [exec, execLowHalfRead, hd]

theorem exec_highHalfRead (hd : s.dbgStop r (a + 4) = false) :
    exec (.highHalfRead r a) s = .next (s.answerRead r (a + 4) (fun s => s.readAt r (a + 4) 4 [])) := by
  simp [exec, execHighHalfRead, hd]

theorem exec_registerWrite (hd : s.dbgStop r a = false) :
    exec (.registerWrite r a lg v same) s = .next (s.withWrite r a (fun s => s.writeAt r a (2 ^ lg) v same)) := by
  simp [exec, execRegisterWrite, hd]

theorem exec_lowHalfWrite (hd : s.dbgStop r a = false) :
    exec (.lowHalfWrite r a v) s = .next (s.withWrite r a (fun s => s.writeAt r a 4 v 0)) := by
  simp [exec, execLowHalfWrite, hd]

theorem exec_highHalfWrite (hd : s.dbgStop r (a + 4) = false) :
    exec (.highHalfWrite r a v) s = .next (s.withWrite r (a + 4) (fun s => s.writeAt r (a + 4) 4 v 0)) := by
  simp [exec, execHighHalfWrite, hd]

/-! ### Accesses by width (R8, R11) -/

/-- The requester reaches the address, and it lies in the register map: not in GLB_RSRAM, a Stove's local memory, BAR0, BAR4 or the PLIC. -/
structure InRegMap (r : Req) (a : Nat) : Prop where
  reached : reaches r a = true
  notRsram : ¬ (0x10000 ≤ a ∧ a < 0x20000)
  notLocal : inLocal a = false
  notOther : otherSpace a = false

theorem inRegMap_of_lt (h : a < 0x1000000) (hr : ¬ (0x10000 ≤ a ∧ a < 0x20000)) : InRegMap r a where
  reached := by simp only [reaches, Bool.or_eq_true, decide_eq_true_eq]; omega
  notRsram := hr
  notLocal := by simp only [inLocal, Bool.and_eq_false_iff, decide_eq_false_iff_not]; omega
  notOther := by simp only [otherSpace, Bool.and_eq_false_iff, decide_eq_false_iff_not]; omega

theorem State.readAt_inRegMap (h : InRegMap r a) (hz : a % n = 0) :
    s.readAt r a n chg = if n = 8 then s.read64 r a chg else if n = 4 then s.read32 r a chg else s.readSub r a n chg := by
  obtain ⟨hr, hm, hl, ho⟩ := h
  simp [State.readAt, hr, hm, hl, ho, hz]

theorem State.readAt_byte (h : InRegMap r a) : s.readAt r a (2 ^ 0) chg = s.readSub r a 1 chg := by
  simp [State.readAt_inRegMap (n := 1) h (Nat.mod_one a)]

theorem State.readAt_word (h : InRegMap r a) (hz : a % 4 = 0) : s.readAt r a (2 ^ 2) chg = s.read32 r a chg := by
  simp [State.readAt_inRegMap (n := 4) h hz]

theorem State.readAt_doubleword (h : InRegMap r a) (hz : a % 8 = 0) : s.readAt r a (2 ^ 3) chg = s.read64 r a chg := by
  simp [State.readAt_inRegMap (n := 8) h hz]

theorem State.writeAt_inRegMap (h : InRegMap r a) (hz : a % n = 0) :
    s.writeAt r a n v same =
      if n = 8 then (if widthAt a = 64 then s.write64 r a v same else s)
      else if n ≠ 4 then s
      else if widthAt a = 32 then s.writeReg r a (v % 2 ^ 32) same
      else if widthAt a = 64 then s.stageLow r a v
      else if 4 ≤ a ∧ widthAt (a - 4) = 64 then s.commitHigh r (a - 4) v same
      else s := by
  obtain ⟨hr, hm, hl, ho⟩ := h
  simp [State.writeAt, hr, hm, hl, ho, hz]

theorem State.writeAt_misaligned (hz : a % n ≠ 0) : s.writeAt r a n v same = s := by simp [State.writeAt, hz]

theorem State.writeAt_subword (hn : n < 4) (hr : ¬ (0x10000 ≤ a ∧ a < 0x20000)) (hl : inLocal a = false) : s.writeAt r a n v same = s := by
  have h8 : n ≠ 8 := by omega
  have h4 : n ≠ 4 := by omega
  simp [State.writeAt, hr, hl, h8, h4]

theorem State.read32_reg (hs : readRefused r a = false) (hw : widthAt a = 32) :
    s.read32 r a chg = ((s.clearRc a 0 32 chg).readAck a, s.regValue r a) := by simp [State.read32, hs, hw]

theorem State.read32_refused (hs : readRefused r a = true) : s.read32 r a chg = (s, 0) := by simp [State.read32, hs]

theorem readRefused_of_open (h : secureOnly a = false) : readRefused r a = false := by simp [readRefused, h]

end Sys2Proof.Machine
end

section
/-! The half accesses of 64-bit registers (R9, R10). -/

namespace Sys2Proof.Machine

variable {s : State} {r : Req} {a v same x lo : Nat} {read : Bool} {chg : List (Nat × Nat)}

/-- What `WideAt` says for reads and for writes alike: both halves lie in the register map, and their block answers. -/
structure WideAnswers (s : State) (r : Req) (a : Nat) : Prop where
  aligned : a % 8 = 0
  width : widthAt a = 64
  highWidth : widthAt (a + 4) = 0
  low : InRegMap r a
  high : InRegMap r (a + 4)
  lowOpen : s.dbgStop r a = false
  highOpen : s.dbgStop r (a + 4) = false
  reach : s.canReach r = true
  lowReady : s.notReady a = false
  highReady : s.notReady (a + 4) = false

theorem wideAnswers_of_wideAt (h : WideAt s r a read) : WideAnswers s r a := by
  obtain ⟨h8, hw, hw', hr, hr', hm, hl, hl', ho, ho', hd, hd', hc, hn, hn', -⟩ := h
  exact ⟨h8, hw, hw', ⟨hr, hm, hl, ho⟩, ⟨hr', by omega, hl', ho'⟩, hd, hd', hc, hn, hn'⟩

theorem readRefused_of_wideAt (h : WideAt s r a true) : readRefused r a = false ∧ readRefused r (a + 4) = false := by
  obtain ⟨-, -, -, -, -, -, -, -, -, -, -, -, -, -, -, hs⟩ := h
  exact hs

theorem writable_of_wideAt (h : WideAt s r a false) : s.writable r a = true ∧ s.writable r (a + 4) = true := by
  obtain ⟨-, -, -, -, -, -, -, -, -, -, -, -, -, -, -, hs⟩ := h
  exact hs

/-! ### Reads -/

theorem State.readHigh_latched (hv : Tab.find (s.accOf r).latch a = some v) :
    s.readHigh r a = (s.updAcc r (fun x => { x with latch := Tab.del x.latch a }), v) := by simp only [State.readHigh, hv]

theorem State.readHigh_current (hv : Tab.find (s.accOf r).latch a = none) : s.readHigh r a = (s, s.regValue r a / 2 ^ 32) := by
  simp only [State.readHigh, hv]

theorem State.readAt_lowHalf (h : WideAt s r a true) : s.readAt r a 4 chg = s.readLow r a := by
  have w := wideAnswers_of_wideAt h
  have h8 := w.aligned
  rw [State.readAt_inRegMap w.low (by omega)]
  simp [State.read32, (readRefused_of_wideAt h).1, w.width]

theorem State.readAt_highHalf (h : WideAt s r a true) : s.readAt r (a + 4) 4 chg = s.readHigh r a := by
  have w := wideAnswers_of_wideAt h
  have h8 := w.aligned
  rw [State.readAt_inRegMap w.high (by omega)]
  simp [State.read32, (readRefused_of_wideAt h).2, w.width, w.highWidth]

theorem State.readAt_fullWidth (h : WideAt s r a true) :
    s.readAt r a (2 ^ 3) chg = (s.updAcc r (fun x => { x with latch := Tab.del x.latch a }), s.regValue r a) := by
  have w := wideAnswers_of_wideAt h
  rw [State.readAt_doubleword w.low w.aligned]
  simp [State.read64, (readRefused_of_wideAt h).1, w.width]

/-- A read that changes the requester's own latches and is answered with `x` shows nothing else. -/
theorem does_of_latchRead {c : Instr} {f : AccSt → AccSt} {b : Nat}
    (h : exec c s = .next ((s.updAcc r f).emit (.readData (reqAgent r) b x))) :
    Does c s [.acc, .out] [] (fun t => OwnAcc r (f (s.accOf r)) s t ∧ t.out = .readData (reqAgent r) b x :: s.out) :=
  ⟨_, h, ⟨ownAcc_of_acc_eq (ownAcc_updAcc f) rfl, rfl⟩, ((Kept.refl _ _ s).updAcc (by simp) f).emit (by simp)⟩

theorem lowHalfRead_latches (h : WideAt s r a true) :
    Does (.lowHalfRead r a) s [.acc, .out] [] (fun t =>
      OwnAcc r { s.accOf r with latch := Tab.put (s.accOf r).latch a (s.regValue r a / 2 ^ 32) } s t ∧
      t.out = .readData (reqAgent r) a (s.regValue r a % 2 ^ 32) :: s.out) := by
  have w := wideAnswers_of_wideAt h
  refine does_of_latchRead (f := fun x => { x with latch := Tab.put x.latch a (s.regValue r a / 2 ^ 32) }) ?_
  rw [exec_lowHalfRead w.lowOpen, State.answerRead_ready w.reach w.lowReady (State.readAt_lowHalf h)]

theorem highHalfRead_releases (h : WideAt s r a true) (hv : Tab.find (s.accOf r).latch a = some v) :
    Does (.highHalfRead r a) s [.acc, .out] [] (fun t =>
      OwnAcc r { s.accOf r with latch := Tab.del (s.accOf r).latch a } s t ∧ t.out = .readData (reqAgent r) (a + 4) v :: s.out) := by
  have w := wideAnswers_of_wideAt h
  refine does_of_latchRead (f := fun x => { x with latch := Tab.del x.latch a }) ?_
  rw [exec_highHalfRead w.highOpen,
    State.answerRead_ready w.reach w.highReady ((State.readAt_highHalf h).trans (State.readHigh_latched hv))]

theorem highHalfRead_current (h : WideAt s r a true) (hv : Tab.find (s.accOf r).latch a = none) :
    Does (.highHalfRead r a) s [.out] [] (fun t => t.out = .readData (reqAgent r) (a + 4) (s.regValue r a / 2 ^ 32) :: s.out) := by
  have w := wideAnswers_of_wideAt h
  refine ⟨_, exec_highHalfRead w.highOpen, ?_⟩
  rw [State.answerRead_ready w.reach w.highReady ((State.readAt_highHalf h).trans (State.readHigh_current hv))]
  exact ⟨rfl, (Kept.refl _ _ s).emit (by simp)⟩

theorem fullRead_releases (h : WideAt s r a true) :
    Does (.rcFieldRead r a 3 chg) s [.acc, .out] [] (fun t =>
      OwnAcc r { s.accOf r with latch := Tab.del (s.accOf r).latch a } s t ∧ t.out = .readData (reqAgent r) a (s.regValue r a) :: s.out) := by
  have w := wideAnswers_of_wideAt h
  refine does_of_latchRead (f := fun x => { x with latch := Tab.del x.latch a }) ?_
  rw [exec_rcFieldRead w.lowOpen, State.answerRead_ready w.reach w.lowReady (State.readAt_fullWidth h)]

/-! ### Writes -/

theorem exec_lowHalfWrite_wide (h : WideAt s r a false) : exec (.lowHalfWrite r a v) s = .next (s.stageLow r a v) := by
  have w := wideAnswers_of_wideAt h
  have h8 := w.aligned
  rw [exec_lowHalfWrite w.lowOpen, State.withWrite_writable (writable_of_wideAt h).1, State.writeAt_inRegMap w.low (by omega)]
  simp [w.width]

theorem exec_highHalfWrite_wide (h : WideAt s r a false) : exec (.highHalfWrite r a v) s = .next (s.commitHigh r a v 0) := by
  have w := wideAnswers_of_wideAt h
  have h8 := w.aligned
  rw [exec_highHalfWrite w.highOpen, State.withWrite_writable (writable_of_wideAt h).2, State.writeAt_inRegMap w.high (by omega)]
  simp [w.width, w.highWidth]

theorem exec_fullWrite_wide (h : WideAt s r a false) : exec (.registerWrite r a 3 v same) s = .next (s.write64 r a v same) := by
  have w := wideAnswers_of_wideAt h
  rw [exec_registerWrite w.lowOpen, State.withWrite_writable (writable_of_wideAt h).1, State.writeAt_inRegMap (n := 2 ^ 3) w.low w.aligned]
  simp [w.width]

theorem lowHalfWrite_stages (h : WideAt s r a false) :
    Does (.lowHalfWrite r a v) s [.acc] [] (OwnAcc r { s.accOf r with staged := Tab.put (s.accOf r).staged a (v % 2 ^ 32) } s) :=
  ⟨_, exec_lowHalfWrite_wide h, ownAcc_updAcc _, (Kept.refl _ _ s).updAcc (by simp) _⟩

/-- The write of the high half is the full-width write of both, with the low half that was staged or that the register has. -/
theorem State.commitHigh_eq_write64 (hlo : (Tab.find (s.accOf r).staged a).getD (s.regValue r a % 2 ^ 32) = lo) (h : lo < 2 ^ 32) :
    s.commitHigh r a v same = s.write64 r a (v % 2 ^ 32 * 2 ^ 32 + lo) same := by
  have hv : (v % 2 ^ 32 * 2 ^ 32 + lo) % 2 ^ 64 = v % 2 ^ 32 * 2 ^ 32 + lo := Nat.mod_eq_of_lt (by omega)
  simp only [State.commitHigh, State.write64, hlo, hv]

theorem highHalfWrite_eq_fullWrite (h : WideAt s r a false)
    (hlo : (Tab.find (s.accOf r).staged a).getD (s.regValue r a % 2 ^ 32) = lo) (hlt : lo < 2 ^ 32) :
    exec (.highHalfWrite r a v) s = exec (.registerWrite r a 3 (v % 2 ^ 32 * 2 ^ 32 + lo) 0) s := by
  rw [exec_highHalfWrite_wide h, exec_fullWrite_wide h, State.commitHigh_eq_write64 hlo hlt]

/-- Settles O53, access by access. -/
theorem halfAccesses : Obligations.HalfAccesses := by
  unfold Obligations.HalfAccesses
  refine ⟨fun s r a h => ⟨lowHalfRead_latches h, fun v => highHalfRead_releases h, highHalfRead_current h, fun chg => fullRead_releases h⟩,
    fun s r a v h => ⟨lowHalfWrite_stages h, fun lo hlt hlo => ?_, fun hlo => ?_, fun same => exec_fullWrite_wide h⟩⟩
  · exact highHalfWrite_eq_fullWrite h (by rw [hlo]; rfl) hlt
  · exact highHalfWrite_eq_fullWrite h (by rw [hlo]; rfl) (Nat.mod_lt _ (by decide))

end Sys2Proof.Machine
end

section
/-! Register reads (R11, R13-R15, R24, R527). -/

namespace Sys2Proof.Machine

variable {s : State} {r : Req} {a lg i j : Nat} {chg : List (Nat × Nat)} {d : RegDesc} {f : FieldDesc}

/-! ### The value of a register that shows its fields as they are kept -/

theorem widthAt_of_regOf (hd : regOf a = some d) : widthAt a = d.width := by simp [widthAt, hd]

theorem inArray_of_lt {base stride n width : Nat} (h : a < base) : inArray a base stride n width = false := by
  simp [inArray, Nat.not_le.mpr h]

/-- Below the Soot block only DMP_STS shows what is not kept in its fields. -/
theorem State.shown_of_lt (h : a < 0x300000) (hs : a ≠ R.DMP_STS) : s.shown r a = [] := by
  have hcur : inArray a R.JNL_OPT_CUR 4 64 4 = false := inArray_of_lt (h.trans (by decide))
  have htime : a ≠ R.HRT_MTIME := by simp only [R.HRT_MTIME]; omega
  simp only [State.shown, Bool.and_eq_true, Bool.or_eq_true, decide_eq_true_eq, beq_iff_eq, hcur, hs, htime, if_false, Bool.false_eq_true]
  repeat rw [if_neg (by omega)]

theorem State.fieldValue_kept (hf : f.access ≠ .wo) : s.fieldValue [] a f = s.get ⟨a, f.lo, f.width⟩ := by
  simp [State.fieldValue, hf]

theorem State.regValue_of_lt (h : a < 0x300000) (hs : a ≠ R.DMP_STS) (hd : regOf a = some d) :
    s.regValue r a = d.fields.foldl (fun v f => v + s.fieldValue [] a f * 2 ^ f.lo) 0 := by
  have hm : ¬ (0x400000 ≤ a) := by omega
  simp [State.regValue, hd, State.shown_of_lt h hs, hm]

theorem State.readAck_of_ne (h : a ≠ R.SOOT_LOST) : s.readAck a = s := by simp [State.readAck, h]

/-- A read is answered with the register's value at an address below the Soot block, outside GLB_RSRAM, once the requester is out of reset. -/
theorem exec_rcFieldRead_of_lt {t : State} {x : Nat} (h : a < 0x300000) (hc : s.canReach r = true) (he : s.readAt r a (2 ^ lg) chg = (t, x)) :
    exec (.rcFieldRead r a lg chg) s = .next (t.emit (.readData (reqAgent r) a x)) := by
  rw [exec_rcFieldRead (State.dbgStop_of_lt (by omega)), State.answerRead_ready hc (State.notReady_of_lt (by omega)) he]

/-- A read that changes nothing but what is sent outside. -/
theorem does_of_plainRead {c : Instr} {x : Nat} (h : exec c s = .next (s.emit (.readData (reqAgent r) a x))) :
    Does c s [.out] [] (fun t => t.out = .readData (reqAgent r) a x :: s.out) :=
  ⟨_, h, rfl, (Kept.refl _ _ s).emit (by simp)⟩

/-! ### DMP_RAIL_MON: the lowest voltage since the last read (R527) -/

theorem regOf_railMon : ∀ i < 9, regOf (R.DMP_RAIL_MON + 8 * i) = some ⟨R.DMP_RAIL_MON, [(8, 9)], 32, [⟨16, 16, .rc⟩, ⟨0, 16, .ro⟩]⟩ := by
  decide +kernel

theorem secureOnly_railMon : ∀ i < 9, secureOnly (R.DMP_RAIL_MON + 8 * i) = false := by decide +kernel

theorem inArray_railMon : ∀ i < 9, inArray (R.DMP_RAIL_MON + 8 * i) R.DMP_RAIL_MON 8 9 4 = true := by decide +kernel

/-- The value after the clearing read: 0xFFFF, or the voltage of the same cycle. -/
def railMonAfter (chg : Tab Nat) (a : Nat) : Nat := match Tab.find chg a with
  | none => 0xFFFF
  | some v => min v 0xFFFF

theorem rcChanged_railMon (hi : i < 9) :
    rcChanged (R.DMP_RAIL_MON + 8 * i) ⟨16, 16, .rc⟩ chg = railMonAfter chg (R.DMP_RAIL_MON + 8 * i) := by
  simp only [rcChanged, rcCleared, inArray_railMon i hi, if_true, railMonAfter]
  cases Tab.find chg (R.DMP_RAIL_MON + 8 * i) <;> rfl

theorem railMonAfter_lt : railMonAfter chg a < 2 ^ 16 := by
  unfold railMonAfter
  split <;> omega

theorem State.readAt_railMon (hi : i < 9) : s.readAt r (R.DMP_RAIL_MON + 8 * i) (2 ^ 2) chg =
    (s.set (F.DMP_RAIL_MON_MIN_MV i) (railMonAfter chg (R.DMP_RAIL_MON + 8 * i)),
      s.get (F.DMP_RAIL_MON_MIN_MV i) * 2 ^ 16 + s.get (F.DMP_RAIL_MON_VOLT_MV i)) := by
  have ha : R.DMP_RAIL_MON + 8 * i = 0x200104 + 8 * i := rfl
  have hd := regOf_railMon i hi
  have hlost : R.DMP_RAIL_MON + 8 * i ≠ R.SOOT_LOST := by simp only [R.SOOT_LOST]; omega
  have hsts : R.DMP_RAIL_MON + 8 * i ≠ R.DMP_STS := by simp only [R.DMP_STS]; omega
  rw [State.readAt_word (inRegMap_of_lt (by omega) (by omega)) (by omega),
    State.read32_reg (readRefused_of_open (secureOnly_railMon i hi)) (widthAt_of_regOf hd), State.readAck_of_ne hlost,
    State.regValue_of_lt (by omega) hsts hd]
  have hmin : F.DMP_RAIL_MON_MIN_MV i = ⟨R.DMP_RAIL_MON + 8 * i, 16, 16⟩ := rfl
  have hvolt : F.DMP_RAIL_MON_VOLT_MV i = ⟨R.DMP_RAIL_MON + 8 * i, 0, 16⟩ := rfl
  simp [State.clearRc, hd, rcChanged_railMon hi, State.fieldValue_kept, hmin, hvolt]

theorem railMonRead_clears (hc : s.canReach r = true) (hi : i < 9) :
    Does (.rcFieldRead r (R.DMP_RAIL_MON + 8 * i) 2 chg) s [.out] [F.DMP_RAIL_MON_MIN_MV i] (fun t =>
      t.get (F.DMP_RAIL_MON_MIN_MV i) = railMonAfter chg (R.DMP_RAIL_MON + 8 * i) ∧
      t.out = .readData (reqAgent r) (R.DMP_RAIL_MON + 8 * i) (s.get (F.DMP_RAIL_MON_MIN_MV i) * 2 ^ 16 + s.get (F.DMP_RAIL_MON_VOLT_MV i)) ::
        s.out) := by
  have ha : R.DMP_RAIL_MON + 8 * i = 0x200104 + 8 * i := rfl
  refine ⟨_, exec_rcFieldRead_of_lt (by omega) hc (State.readAt_railMon hi), ⟨?_, rfl⟩, ((Kept.refl _ _ s).set (by simp)).emit (by simp)⟩
  rw [State.get_emit, State.get_set_same]
  exact Nat.mod_eq_of_lt railMonAfter_lt

/-! ### GLB_TRANS_CNT: a counter (R484) -/

theorem regOf_transCnt : regOf R.GLB_TRANS_CNT = some ⟨R.GLB_TRANS_CNT, [], 32, [⟨0, 32, .rc⟩]⟩ := by decide +kernel

theorem rcChanged_transCnt :
    rcChanged R.GLB_TRANS_CNT ⟨0, 32, .rc⟩ chg = min ((Tab.find chg R.GLB_TRANS_CNT).getD 0) (2 ^ 32 - 1) := by
  have harr : inArray R.GLB_TRANS_CNT R.DMP_RAIL_MON 8 9 4 = false := by decide
  simp only [rcChanged, rcCleared, harr]
  cases Tab.find chg R.GLB_TRANS_CNT <;> simp [satAdd]

theorem State.readAt_transCnt : s.readAt r R.GLB_TRANS_CNT (2 ^ 2) chg =
    (s.set F.GLB_TRANS_CNT_COUNT (min ((Tab.find chg R.GLB_TRANS_CNT).getD 0) (2 ^ 32 - 1)), s.get F.GLB_TRANS_CNT_COUNT) := by
  have hs : secureOnly R.GLB_TRANS_CNT = false := by decide
  rw [State.readAt_word (inRegMap_of_lt (by decide) (by decide)) (by decide),
    State.read32_reg (readRefused_of_open hs) (widthAt_of_regOf regOf_transCnt), State.readAck_of_ne (by decide),
    State.regValue_of_lt (by decide) (by decide) regOf_transCnt]
  have hcount : F.GLB_TRANS_CNT_COUNT = ⟨R.GLB_TRANS_CNT, 0, 32⟩ := rfl
  simp [State.clearRc, regOf_transCnt, rcChanged_transCnt, State.fieldValue_kept, hcount]

theorem transCntRead_clears (hc : s.canReach r = true) :
    Does (.rcFieldRead r R.GLB_TRANS_CNT 2 chg) s [.out] [F.GLB_TRANS_CNT_COUNT] (fun t =>
      t.get F.GLB_TRANS_CNT_COUNT = min ((Tab.find chg R.GLB_TRANS_CNT).getD 0) (2 ^ 32 - 1) ∧
      t.out = .readData (reqAgent r) R.GLB_TRANS_CNT (s.get F.GLB_TRANS_CNT_COUNT) :: s.out) := by
  refine ⟨_, exec_rcFieldRead_of_lt (by decide) hc State.readAt_transCnt, ⟨?_, rfl⟩, ((Kept.refl _ _ s).set (by simp)).emit (by simp)⟩
  rw [State.get_emit, State.get_set_same]
  exact Nat.mod_eq_of_lt (by simp only [F.GLB_TRANS_CNT_COUNT]; omega)

/-! ### GLB_BKP: bytes and pairs of registers (R11) -/

theorem regOf_bkp : ∀ i < 32, regOf (R.GLB_BKP + 4 * i) = some ⟨R.GLB_BKP, [(4, 32)], 32, [⟨0, 32, .rws⟩]⟩ := by decide +kernel

theorem secureOnly_bkp : ∀ i < 32, secureOnly (R.GLB_BKP + 4 * i) = false := by decide +kernel

theorem State.regValue_bkp (hi : i < 32) : s.regValue r (R.GLB_BKP + 4 * i) = s.get (F.GLB_BKP_DATA i) := by
  have ha : R.GLB_BKP + 4 * i = 0x100 + 4 * i := rfl
  have hsts : R.GLB_BKP + 4 * i ≠ R.DMP_STS := by simp only [R.DMP_STS]; omega
  rw [State.regValue_of_lt (by omega) hsts (regOf_bkp i hi)]
  simp [State.fieldValue_kept, show F.GLB_BKP_DATA i = ⟨R.GLB_BKP + 4 * i, 0, 32⟩ from rfl]

/-- A read of a GLB_BKP register, whole or in part, does nothing but answer. -/
theorem State.clearRc_bkp {lo w : Nat} (hi : i < 32) : (s.clearRc (R.GLB_BKP + 4 * i) lo w chg).readAck (R.GLB_BKP + 4 * i) = s := by
  have ha : R.GLB_BKP + 4 * i = 0x100 + 4 * i := rfl
  rw [State.readAck_of_ne (by simp only [R.SOOT_LOST]; omega)]
  simp [State.clearRc, regOf_bkp i hi]

theorem State.read32_bkp (hi : i < 32) : s.read32 r (R.GLB_BKP + 4 * i) chg = (s, s.get (F.GLB_BKP_DATA i)) := by
  rw [State.read32_reg (readRefused_of_open (secureOnly_bkp i hi)) (widthAt_of_regOf (regOf_bkp i hi)), State.clearRc_bkp hi,
    State.regValue_bkp hi]

theorem State.readSub_bkp (hi : i < 32) (hj : j < 4) :
    s.readSub r (R.GLB_BKP + 4 * i + j) 1 chg = (s, bits (s.get (F.GLB_BKP_DATA i)) (8 * j) 8) := by
  have ha : ∀ k, R.GLB_BKP + 4 * k = 0x100 + 4 * k := fun _ => rfl
  have h4 : (R.GLB_BKP + 4 * i + j) / 4 * 4 = R.GLB_BKP + 4 * i := by rw [ha]; omega
  have h8 : (R.GLB_BKP + 4 * i + j) / 8 * 8 = R.GLB_BKP + 4 * (i / 2 * 2) := by rw [ha, ha]; omega
  have hw : widthAt (R.GLB_BKP + 4 * (i / 2 * 2)) = 32 := widthAt_of_regOf (regOf_bkp _ (by omega))
  simp [State.readSub, h4, h8, hw, readRefused_of_open (secureOnly_bkp i hi), State.clearRc_bkp hi, State.regValue_bkp hi]

theorem State.read64_bkp (hi : i + 1 < 32) :
    s.read64 r (R.GLB_BKP + 4 * i) chg = (s, s.get (F.GLB_BKP_DATA i) + s.get (F.GLB_BKP_DATA (i + 1)) * 2 ^ 32) := by
  have hw : widthAt (R.GLB_BKP + 4 * i) = 32 := widthAt_of_regOf (regOf_bkp i (by omega))
  have hnext : R.GLB_BKP + 4 * i + 4 = R.GLB_BKP + 4 * (i + 1) := by omega
  simp [State.read64, hw, State.read32_bkp (i := i) (by omega), hnext, State.read32_bkp hi]

theorem byteRead_bkp (hc : s.canReach r = true) (hi : i < 32) (hj : j < 4) :
    Does (.rcFieldRead r (R.GLB_BKP + 4 * i + j) 0 chg) s [.out] [] (fun t =>
      t.out = .readData (reqAgent r) (R.GLB_BKP + 4 * i + j) (bits (s.get (F.GLB_BKP_DATA i)) (8 * j) 8) :: s.out) := by
  have ha : R.GLB_BKP + 4 * i = 0x100 + 4 * i := rfl
  refine does_of_plainRead (exec_rcFieldRead_of_lt (by omega) hc ?_)
  rw [State.readAt_byte (inRegMap_of_lt (by omega) (by omega))]
  exact State.readSub_bkp hi hj

theorem pairRead_bkp (hc : s.canReach r = true) (hi : i < 32) (heven : i % 2 = 0) :
    Does (.rcFieldRead r (R.GLB_BKP + 4 * i) 3 chg) s [.out] [] (fun t =>
      t.out = .readData (reqAgent r) (R.GLB_BKP + 4 * i) (s.get (F.GLB_BKP_DATA i) + s.get (F.GLB_BKP_DATA (i + 1)) * 2 ^ 32) :: s.out) := by
  have ha : R.GLB_BKP + 4 * i = 0x100 + 4 * i := rfl
  refine does_of_plainRead (exec_rcFieldRead_of_lt (by omega) hc ?_)
  rw [State.readAt_doubleword (inRegMap_of_lt (by omega) (by omega)) (by omega)]
  exact State.read64_bkp (by omega)

/-! ### KDL_MIN_SVN: secure-only (R13) -/

theorem minSvnRead_zero (hc : s.canReach r = true) (hr : reqSecure r = false) :
    Does (.rcFieldRead r R.KDL_MIN_SVN 2 chg) s [.out] [] (fun t => t.out = .readData (reqAgent r) R.KDL_MIN_SVN 0 :: s.out) := by
  have hsec : secureOnly R.KDL_MIN_SVN = true := by decide
  refine does_of_plainRead (exec_rcFieldRead_of_lt (by decide) hc ?_)
  rw [State.readAt_word (inRegMap_of_lt (by decide) (by decide)) (by decide)]
  exact State.read32_refused (by simp [readRefused, hsec, hr])

/-! ### Blocks that are not ready (R24) -/

theorem readNotReady (hd : s.dbgStop r a = false) (hc : s.canReach r = true) (hn : s.notReady a = true) :
    Does (.rcFieldRead r a lg chg) s [.out] [] (fun t => t.out = .notReady (reqAgent r) a :: s.out) := by
  refine ⟨_, exec_rcFieldRead hd, ?_⟩
  rw [State.answerRead_notReady hc hn]
  exact ⟨rfl, (Kept.refl _ _ s).emit (by simp)⟩

/-- Settles O54, register by register. -/
theorem registerReads : Obligations.RegisterReads := by
  unfold Obligations.RegisterReads
  refine ⟨fun s r i chg hc hi _ _ => ?_, fun s r chg hc _ => transCntRead_clears hc, fun s r i j chg hc hi hj _ => ?_,
    fun s r chg hc hr => minSvnRead_zero hc hr, fun s r a lg chg hd => ⟨readNotReady hd, fun hc => ?_⟩⟩
  · exact railMonRead_clears hc hi
  · exact ⟨byteRead_bkp hc hi hj, fun heven _ => pairRead_bkp hc hi heven⟩
  · rw [exec_rcFieldRead hd, State.answerRead_unreached hc]

end Sys2Proof.Machine
end

section
/-! Register writes by access code (R10, R11, R13-R15, R24, R484, R588). -/

namespace Sys2Proof.Machine

variable {s t : State} {r : Req} {a lg v same lo w n x y : Nat} {d : RegDesc} {ps : List Part} {fs : List Fld}

/-! ### Bit fields of written values -/

theorem bits_mod_pow (h : lo + w ≤ n) : bits (v % 2 ^ n) lo w = bits v lo w := by
  refine Nat.eq_of_testBit_eq fun i => ?_
  simp only [bits, Nat.testBit_mod_two_pow, Nat.testBit_div_two_pow]
  by_cases hi : i < w
  · simp [hi, show i + lo < n by omega]
  · simp [hi]

theorem bits_lt : bits v lo w < 2 ^ w := Nat.mod_lt _ (Nat.two_pow_pos w)

theorem bits_one_eq_toNat : bits v lo 1 = (bit v lo).toNat := by simp [bits, bit, Nat.toNat_testBit]

theorem atLeast1_of_ne (h : bits v lo w ≠ 0) : atLeast1 v lo w = v := by simp [atLeast1, h]

theorem atLeast1_of_eq (h : bits v lo w = 0) : atLeast1 v lo w = v + 1 % 2 ^ w * 2 ^ lo := by simp [atLeast1, putBits, h]

/-- The field itself is taken as 1 where it is written 0 (R588). -/
theorem bits_atLeast1_same (hw : 0 < w) : bits (atLeast1 v lo w) lo w = max 1 (bits v lo w) := by
  by_cases h : bits v lo w = 0
  · have h1 : 1 % 2 ^ w = 1 := Nat.mod_eq_of_lt (Nat.one_lt_two_pow (by omega))
    have h0 : v / 2 ^ lo % 2 ^ w = 0 := h
    rw [atLeast1_of_eq h, h, bits, h1, Nat.add_mul_div_right _ _ (Nat.two_pow_pos lo), Nat.add_mod, h0, h1]
    simpa using h1
  · rw [atLeast1_of_ne h]; omega

/-- The fields below it are as they are written. -/
theorem bits_atLeast1_below {l k : Nat} (h : l + k ≤ lo) : bits (atLeast1 v lo w) l k = bits v l k := by
  by_cases h0 : bits v lo w = 0
  · obtain ⟨m, rfl⟩ := Nat.exists_eq_add_of_le h
    rw [atLeast1_of_eq h0, bits, bits, show 1 % 2 ^ w * 2 ^ (l + k + m) = 1 % 2 ^ w * 2 ^ m * 2 ^ k * 2 ^ l by ring,
      Nat.add_mul_div_right _ _ (Nat.two_pow_pos l), Nat.add_mul_mod_self_right]
  · rw [atLeast1_of_ne h0]

/-- A W1C bit after a write: an event of the same cycle leaves it 1, else a 1 clears it and a 0 keeps it (R14, R15). -/
theorem w1c_bit (p q : Bool) : (n - (n &&& q.toNat) ||| p.toNat) % 2 ^ 1 = if p then 1 else if q then 0 else n % 2 := by
  cases p with
  | true =>
    rw [Nat.or_mod_two_pow]
    rcases Nat.mod_two_eq_zero_or_one (n - (n &&& q.toNat)) with h | h <;> simp [h]
  | false => cases q <;> simp; omega

/-! ### Fields by access code (R14) -/

theorem State.get_set_bits {f : Fld} : (s.set f (bits v lo f.width)).get f = bits v lo f.width := by
  rw [State.get_set_same, Nat.mod_eq_of_lt bits_lt]

theorem State.writeField_rw : s.writeField a v same ⟨lo, w, .rw⟩ = s.set ⟨a, lo, w⟩ (bits v lo w) := rfl

theorem State.writeField_w1c : s.writeField a v same ⟨lo, w, .w1c⟩ =
    s.set ⟨a, lo, w⟩ ((s.get ⟨a, lo, w⟩ - (s.get ⟨a, lo, w⟩ &&& bits v lo w)) ||| bits same lo w) := rfl

theorem State.writeField_lk_locked (h : s.lockedAt a = true) : s.writeField a v same ⟨lo, w, .lk⟩ = s := by simp [State.writeField, h]

theorem State.writeField_lk_open (h : s.lockedAt a = false) :
    s.writeField a v same ⟨lo, w, .lk⟩ = s.set ⟨a, lo, w⟩ (bits v lo w) := by simp [State.writeField, h]

/-- A write of the register's fields, where it has no row of its own and takes a value as it is or as another. -/
theorem State.writeReg_plain (hd : regOf a = some d) (hw : d.width ≠ 0) (hs : s.writeSpecial r a v same = none)
    (ht : takenAs a (s.keepIgnored a v) = x) : s.writeReg r a v same = d.fields.foldl (fun s f => s.writeField a x same f) s := by
  simp [State.writeReg, State.writePlain, widthAt, hd, hw, hs, ht]

theorem exec_registerWrite_word (h : InRegMap r a) (hz : a % 4 = 0) (hw : widthAt a = 32) (hd : s.dbgStop r a = false)
    (hs : s.writable r a = true) : exec (.registerWrite r a 2 v same) s = .next (s.writeReg r a (v % 2 ^ 32) same) := by
  rw [exec_registerWrite hd, State.withWrite_writable hs]
  simp [State.writeAt_inRegMap (n := 4) h hz, hw]

/-! ### AND_RESTART_VEC: the halves of an LK register (R10, R14) -/

theorem regOf_restartVec : regOf R.AND_RESTART_VEC = some ⟨R.AND_RESTART_VEC, [], 64, [⟨2, 62, .lk⟩]⟩ := by decide +kernel

theorem wideAt_restartVec (h : s.writable r R.AND_RESTART_VEC = true) (h' : s.writable r (R.AND_RESTART_VEC + 4) = true) :
    WideAt s r R.AND_RESTART_VEC false := by
  obtain ⟨hc, hn, -⟩ := State.writable_iff.mp h
  obtain ⟨-, hn', -⟩ := State.writable_iff.mp h'
  have hlow : InRegMap r R.AND_RESTART_VEC := inRegMap_of_lt (by decide) (by decide)
  have hhigh : InRegMap r (R.AND_RESTART_VEC + 4) := inRegMap_of_lt (by decide) (by decide)
  exact ⟨by decide, widthAt_of_regOf regOf_restartVec, by decide +kernel, hlow.reached, hhigh.reached, hlow.notRsram, hlow.notLocal,
    hhigh.notLocal, hlow.notOther, hhigh.notOther, State.dbgStop_of_lt (by decide), State.dbgStop_of_lt (by decide), hc, hn, hn', h, h'⟩

theorem State.writeReg_restartVec (hl : s.getb F.AND_CTL_LOCK = false) :
    s.writeReg r R.AND_RESTART_VEC v same = s.set F.AND_RESTART_VEC_ADDR (bits v 2 62) := by
  rw [State.writeReg_plain (x := v) regOf_restartVec (by decide) rfl rfl]
  exact State.writeField_lk_open (same := same) hl

theorem restartVec_commits (h : s.writable r R.AND_RESTART_VEC = true) (h' : s.writable r (R.AND_RESTART_VEC + 4) = true)
    (hl : s.getb F.AND_CTL_LOCK = false) (hlt : lo < 2 ^ 32) (hlo : Tab.find (s.accOf r).staged R.AND_RESTART_VEC = some lo) :
    Does (.highHalfWrite r R.AND_RESTART_VEC v) s [.acc] [F.AND_RESTART_VEC_ADDR] (fun t =>
      t.get F.AND_RESTART_VEC_ADDR = (v % 2 ^ 32 * 2 ^ 32 + lo) / 4 ∧
      OwnAcc r { s.accOf r with staged := Tab.del (s.accOf r).staged R.AND_RESTART_VEC } s t) := by
  have he : exec (.highHalfWrite r R.AND_RESTART_VEC v) s =
      .next ((s.updAcc r (fun x => { x with staged := Tab.del x.staged R.AND_RESTART_VEC })).set F.AND_RESTART_VEC_ADDR
        (bits (v % 2 ^ 32 * 2 ^ 32 + lo) 2 62)) := by
    rw [exec_highHalfWrite_wide (wideAt_restartVec h h'), State.commitHigh, hlo, Option.getD_some,
      State.writeReg_restartVec (s := s.updAcc r _) hl]
  refine ⟨_, he, ⟨?_, ownAcc_of_acc_eq (ownAcc_updAcc fun x => { x with staged := Tab.del x.staged R.AND_RESTART_VEC }) rfl⟩,
    ((Kept.refl _ _ s).updAcc (by simp) _).set (by simp)⟩
  refine (State.get_set_bits (f := F.AND_RESTART_VEC_ADDR)).trans ?_
  simp only [bits, F.AND_RESTART_VEC_ADDR]
  omega

/-! ### DMP_IRQ_EN: an RW field -/

theorem regOf_dmpIrqEn : regOf R.DMP_IRQ_EN = some ⟨R.DMP_IRQ_EN, [], 32, [⟨0, 6, .rw⟩]⟩ := by decide +kernel

theorem dmpIrqEn_write (h : s.writable r R.DMP_IRQ_EN = true) :
    Does (.registerWrite r R.DMP_IRQ_EN 2 v same) s [] [F.DMP_IRQ_EN_EN] (fun t => t.get F.DMP_IRQ_EN_EN = v % 2 ^ 6) := by
  have he : exec (.registerWrite r R.DMP_IRQ_EN 2 v same) s = .next (s.set F.DMP_IRQ_EN_EN (bits v 0 6)) := by
    rw [exec_registerWrite_word (inRegMap_of_lt (by decide) (by decide)) (by decide) (widthAt_of_regOf regOf_dmpIrqEn)
      (State.dbgStop_of_lt (by decide)) h, State.writeReg_plain (x := v % 2 ^ 32) regOf_dmpIrqEn (by decide) rfl rfl,
      ← bits_mod_pow (n := 32) (by decide)]
    exact congrArg Host.Outcome.next (State.writeField_rw (same := same))
  refine ⟨_, he, (State.get_set_bits (f := F.DMP_IRQ_EN_EN)).trans ?_, (Kept.refl _ _ s).set (by simp)⟩
  rw [bits, Nat.pow_zero, Nat.div_one]
  rfl

/-! ### KDL_ERR: W1C bits (R14, R15) -/

theorem regOf_kdlErr :
    regOf R.KDL_ERR = some ⟨R.KDL_ERR, [], 32, [⟨3, 1, .w1c⟩, ⟨2, 1, .w1c⟩, ⟨1, 1, .w1c⟩, ⟨0, 1, .w1c⟩]⟩ := by decide +kernel

/-- A W1C bit of KDL_ERR as a write leaves it. -/
def kdlErrAfter (s : State) (v same i : Nat) : Nat :=
  if bit same i then 1 else if bit v i then 0 else s.get ⟨R.KDL_ERR, i, 1⟩ % 2

/-- Writing bit `i` of KDL_ERR. -/
def State.writeErrBit (s : State) (v same i : Nat) : State := s.writeField R.KDL_ERR (v % 2 ^ 32) same ⟨i, 1, .w1c⟩

theorem State.get_writeErrBit_same (hi : i < 32) : (s.writeErrBit v same i).get ⟨R.KDL_ERR, i, 1⟩ = kdlErrAfter s v same i := by
  rw [State.writeErrBit, State.writeField_w1c, State.get_set_same, bits_mod_pow (by omega), bits_one_eq_toNat, bits_one_eq_toNat, w1c_bit]
  rfl

theorem State.get_writeErrBit_other {i j : Nat} (h : i ≠ j) :
    (s.writeErrBit v same j).get ⟨R.KDL_ERR, i, 1⟩ = s.get ⟨R.KDL_ERR, i, 1⟩ :=
  State.get_set_other _ _ _ _ (by simp [Fld.key, h])

theorem kdlErrAfter_writeErrBit {i j : Nat} (h : i ≠ j) : kdlErrAfter (s.writeErrBit v same j) v same i = kdlErrAfter s v same i := by
  rw [kdlErrAfter, State.get_writeErrBit_other h, kdlErrAfter]

theorem Kept.writeErrBit {i : Nat} (h : Kept ps fs s t) (hf : (⟨R.KDL_ERR, i, 1⟩ : Fld).key ∈ fs.map Fld.key) :
    Kept ps fs s (t.writeErrBit v same i) := h.set hf

theorem kdlErr_write (h : s.writable r R.KDL_ERR = true) :
    Does (.registerWrite r R.KDL_ERR 2 v same) s [] [F.KDL_ERR_RST_HELD, F.KDL_ERR_CLK_LOSS, F.KDL_ERR_FALLBACK, F.KDL_ERR_FW_FAIL] (fun t =>
      ∀ i < 4, t.get ⟨R.KDL_ERR, i, 1⟩ = kdlErrAfter s v same i) := by
  have he : exec (.registerWrite r R.KDL_ERR 2 v same) s =
      .next ((((s.writeErrBit v same 3).writeErrBit v same 2).writeErrBit v same 1).writeErrBit v same 0) := by
    rw [exec_registerWrite_word (inRegMap_of_lt (by decide) (by decide)) (by decide) (widthAt_of_regOf regOf_kdlErr)
      (State.dbgStop_of_lt (by decide)) h, State.writeReg_plain (x := v % 2 ^ 32) regOf_kdlErr (by decide) rfl rfl]
    rfl
  refine ⟨_, he, fun i hi => ?_, ((((Kept.refl _ _ s).writeErrBit ?_).writeErrBit ?_).writeErrBit ?_).writeErrBit ?_⟩
  · match i, hi with
    | 0, _ => simp [State.get_writeErrBit_same, kdlErrAfter_writeErrBit]
    | 1, _ => simp [State.get_writeErrBit_same, State.get_writeErrBit_other, kdlErrAfter_writeErrBit]
    | 2, _ => simp [State.get_writeErrBit_same, State.get_writeErrBit_other, kdlErrAfter_writeErrBit]
    | 3, _ => simp [State.get_writeErrBit_same, State.get_writeErrBit_other]
  all_goals decide

/-! ### DRV_GEOM: LK fields, one of which takes 0 as 1 (R14, R588) -/

theorem regOf_drvGeom :
    regOf R.DRV_GEOM = some ⟨R.DRV_GEOM, [], 32, [⟨20, 4, .lk⟩, ⟨16, 2, .lk⟩, ⟨8, 2, .lk⟩, ⟨0, 5, .lk⟩]⟩ := by decide +kernel

/-- The write of DRV_GEOM once it takes place: its fields, in the order of the map. -/
def State.setGeom (s : State) (v : Nat) : State :=
  (((s.set F.DRV_GEOM_OPEN (bits v 20 4)).set F.DRV_GEOM_M_META (bits v 16 2)).set F.DRV_GEOM_M (bits v 8 2)).set F.DRV_GEOM_K (bits v 0 5)

theorem State.lockedAt_drvGeom_set (hlo : lo < 64) : (s.set ⟨R.DRV_GEOM, lo, w⟩ x).lockedAt R.DRV_GEOM = s.lockedAt R.DRV_GEOM := by
  have hk : F.DRV_CTL_LOCK.key ≠ (⟨R.DRV_GEOM, lo, w⟩ : Fld).key := by
    simp only [Fld.key, F.DRV_CTL_LOCK, R.DRV_GEOM]; omega
  have hl : ∀ u : State, u.lockedAt R.DRV_GEOM = (u.get F.DRV_CTL_LOCK != 0) := fun _ => rfl
  rw [hl, hl, State.get_set_other _ _ _ _ hk]

theorem State.writeReg_drvGeom_locked (hl : s.getb F.DRV_CTL_LOCK = true) : s.writeReg r R.DRV_GEOM v same = s := by
  have hl' : s.lockedAt R.DRV_GEOM = true := hl
  rw [State.writeReg_plain (x := atLeast1 v 20 4) regOf_drvGeom (by decide) rfl rfl]
  simp [State.writeField_lk_locked hl']

theorem State.writeReg_drvGeom_open (hl : s.getb F.DRV_CTL_LOCK = false) :
    s.writeReg r R.DRV_GEOM v same = s.setGeom (atLeast1 v 20 4) := by
  have hl' : s.lockedAt R.DRV_GEOM = false := hl
  rw [State.writeReg_plain (x := atLeast1 v 20 4) regOf_drvGeom (by decide) rfl rfl]
  simp [State.writeField_lk_open, State.lockedAt_drvGeom_set, hl']
  rfl

theorem exec_drvGeom_write (h : s.writable r R.DRV_GEOM = true) :
    exec (.registerWrite r R.DRV_GEOM 2 v same) s = .next (s.writeReg r R.DRV_GEOM (v % 2 ^ 32) same) :=
  exec_registerWrite_word (inRegMap_of_lt (by decide) (by decide)) (by decide) (widthAt_of_regOf regOf_drvGeom)
    (State.dbgStop_of_lt (by decide)) h

theorem State.get_setGeom : (s.setGeom v).get F.DRV_GEOM_OPEN = bits v 20 4 ∧ (s.setGeom v).get F.DRV_GEOM_M_META = bits v 16 2 ∧
    (s.setGeom v).get F.DRV_GEOM_M = bits v 8 2 ∧ (s.setGeom v).get F.DRV_GEOM_K = bits v 0 5 := by
  simp [State.setGeom, State.get_set, Fld.key, F.DRV_GEOM_OPEN, F.DRV_GEOM_M_META, F.DRV_GEOM_M, F.DRV_GEOM_K, bits]

theorem drvGeom_write (h : s.writable r R.DRV_GEOM = true) (hl : s.getb F.DRV_CTL_LOCK = false) :
    Does (.registerWrite r R.DRV_GEOM 2 v same) s [] [F.DRV_GEOM_OPEN, F.DRV_GEOM_M_META, F.DRV_GEOM_M, F.DRV_GEOM_K] (fun t =>
      t.get F.DRV_GEOM_OPEN = max 1 (bits v 20 4) ∧ t.get F.DRV_GEOM_M_META = bits v 16 2 ∧ t.get F.DRV_GEOM_M = bits v 8 2 ∧
      t.get F.DRV_GEOM_K = bits v 0 5) := by
  have he : exec (.registerWrite r R.DRV_GEOM 2 v same) s = .next (s.setGeom (atLeast1 (v % 2 ^ 32) 20 4)) := by
    rw [exec_drvGeom_write h, State.writeReg_drvGeom_open hl]
  refine ⟨_, he, ?_,
    ((((Kept.refl _ _ s).set ?_).set ?_).set ?_).set ?_⟩
  · obtain ⟨hopen, hmeta, hm, hk⟩ := State.get_setGeom (s := s) (v := atLeast1 (v % 2 ^ 32) 20 4)
    rw [hopen, hmeta, hm, hk, bits_atLeast1_same (by decide), bits_atLeast1_below (by decide), bits_atLeast1_below (by decide),
      bits_atLeast1_below (by decide)]
    simp only [bits_mod_pow (n := 32), Nat.reduceAdd, Nat.reduceLeDiff, and_self]
  all_goals decide

/-! ### GLB_RSRAM: bytes (R484) -/

theorem leBytes_getElem? : ∀ (n v i : Nat), i < n → (leBytes n v)[i]? = some (BitVec.ofNat 8 (v / 2 ^ (8 * i)))
  | n + 1, v, 0, _ => by simp [leBytes]
  | n + 1, v, i + 1, h => by
    rw [leBytes, List.getElem?_cons_succ, leBytes_getElem? n (v / 256) i (by omega), Nat.div_div_eq_div_mul,
      show (256 : Nat) = 2 ^ 8 from rfl, ← pow_add, show 8 + 8 * i = 8 * (i + 1) by omega]

theorem find_putRsram : ∀ (bs : Bytes) (m : Tab Byte) (o j : Nat),
    Tab.find (putRsram m o bs) j = if o ≤ j ∧ j < o + bs.length then bs[j - o]? else Tab.find m j
  | [], m, o, j => by rw [if_neg (by simp)]; rfl
  | b :: bs, m, o, j => by
    rw [putRsram, find_putRsram bs, Tab.find_put, List.length_cons]
    by_cases hj : j = o
    · subst hj; simp
    · by_cases hin : o + 1 ≤ j ∧ j < o + 1 + bs.length
      · rw [if_pos hin, if_pos (by omega), show j - o = j - (o + 1) + 1 by omega, List.getElem?_cons_succ]
      · rw [if_neg hin, if_neg hj, if_neg (by omega)]

theorem State.rsramByte_putRsram (o j : Nat) :
    ({ s with rsram := putRsram s.rsram o (leBytes n v) } : State).rsramByte j =
      if o ≤ j ∧ j < o + n then BitVec.ofNat 8 (v / 2 ^ (8 * (j - o))) else s.rsramByte j := by
  simp only [State.rsramByte, find_putRsram, czLe_length]
  split
  · rw [leBytes_getElem? n v (j - o) (by omega), Option.getD_some]
  · rfl

theorem Kept.rsram (h : Kept ps fs s t) (hp : Part.rsram ∈ ps) (m : Tab Byte) : Kept ps fs s { t with rsram := m } := by
  refine h.upd rfl rfl fun p hn => ?_
  cases p with
  | rsram => exact absurd hp hn
  | ports | irqPend => exact fun _ => rfl
  | wdt => exact ⟨rfl, rfl⟩
  | plic => exact ⟨rfl, rfl, rfl, rfl⟩
  | _ => exact rfl

/-- Every secure-only register lies above GLB_RSRAM. -/
theorem secureOnly_rsram (h : a < 0x20000) : secureOnly a = false := by
  have harr : ∀ b k m l, 0x20000 ≤ b → inArray a b k m l = false := fun b k m l hb => inArray_of_lt (by omega)
  have hne : ∀ b, 0x20000 ≤ b → a ≠ b := fun b hb => by omega
  have hkey : ¬ 0x3100000 ≤ a := by omega
  simp [secureOnly, hkey, harr R.STV_PKH _ _ _ (by decide), harr R.JNL_OPT_DATA _ _ _ (by decide), harr R.MBX_CFG _ _ _ (by decide),
    harr R.MBX_STS _ _ _ (by decide), harr R.SOOT_CLR_RESP _ _ _ (by decide), hne R.JNL_OPT_CMD (by decide), hne R.CRL_FENCE (by decide),
    hne R.KDL_RST_CMD (by decide), hne R.KDL_MIN_SVN (by decide), hne R.SOOT_CLR_CTL (by decide), hne R.SOOT_CLR_CFG (by decide)]

theorem State.writable_rsram (h : s.writable r 0x10000 = true) (h1 : 0x10000 ≤ a) (h2 : a < 0x20000) : s.writable r a = true := by
  obtain ⟨hc, -, -, hhost⟩ := State.writable_iff.mp h
  refine State.writable_iff.mpr ⟨hc, State.notReady_of_lt (by omega), by simp [secureOnly_rsram h2], fun hh => hhost ⟨by decide, hh.2⟩⟩

theorem rsram_write {o : Nat} (h : s.writable r 0x10000 = true) (hlg : lg ≤ 3) (hend : o + 2 ^ lg ≤ 2 ^ 16) (hz : o % 2 ^ lg = 0) :
    Does (.registerWrite r (0x10000 + o) lg v same) s [.rsram] [] (fun t =>
      ∀ j < 2 ^ 16, t.rsramByte j = if o ≤ j ∧ j < o + 2 ^ lg then BitVec.ofNat 8 (v / 2 ^ (8 * (j - o))) else s.rsramByte j) := by
  have hpos : 0 < 2 ^ lg := Nat.two_pow_pos lg
  have hreach : reaches r (0x10000 + o) = true := by simp only [reaches, Bool.or_eq_true, decide_eq_true_eq]; omega
  have halign : (0x10000 + o) % 2 ^ lg = 0 := by
    obtain ⟨k, hk⟩ : 2 ^ lg ∣ 0x10000 := pow_dvd_pow 2 (show lg ≤ 16 by omega)
    rw [hk, Nat.mul_add_mod, hz]
  have he : exec (.registerWrite r (0x10000 + o) lg v same) s = .next { s with rsram := putRsram s.rsram o (leBytes (2 ^ lg) v) } := by
    rw [exec_registerWrite (State.dbgStop_of_lt (by omega)), State.withWrite_writable (State.writable_rsram h (by omega) (by omega))]
    simp [State.writeAt, hreach, halign, show 0x10000 + o < 0x20000 by omega]
  exact ⟨_, he, fun j _ => State.rsramByte_putRsram o j, (Kept.refl _ _ s).rsram (by simp) _⟩

/-! ### Writes without an effect (R11, R13, R24) and refused ones (R583) -/

theorem writeNotReady (hd : s.dbgStop r a = false) (hc : s.canReach r = true) (hn : s.notReady a = true) :
    Does (.registerWrite r a lg v same) s [.out] [] (fun t => t.out = .notReady (reqAgent r) a :: s.out) := by
  refine ⟨_, exec_registerWrite hd, ?_⟩
  rw [State.withWrite_notReady hc hn]
  exact ⟨rfl, (Kept.refl _ _ s).emit (by simp)⟩

/-- A write of one or two bytes beside the memories is ignored (R11). -/
theorem exec_subwordWrite (hd : s.dbgStop r a = false) (hn : s.notReady a = false) (hlg : lg < 2) (hr : ¬ (0x10000 ≤ a ∧ a < 0x20000))
    (hl : inLocal a = false) : exec (.registerWrite r a lg v same) s = .next s := by
  have hsize : 2 ^ lg < 4 := Nat.pow_lt_pow_right (by decide : 1 < 2) hlg
  rw [exec_registerWrite hd, State.withWrite_ignored hn (State.writeAt_subword hsize hr hl)]

theorem exec_refused_of_dbgStop (h : s.dbgStop r a = true) {chg : List (Nat × Nat)} :
    exec (.registerWrite r a lg v same) s = .refused .debugUnit ∧ exec (.rcFieldRead r a lg chg) s = .refused .debugUnit ∧
      exec (.lowHalfRead r a) s = .refused .debugUnit ∧ exec (.lowHalfWrite r a v) s = .refused .debugUnit := by
  simp [exec, execRegisterWrite, execRcFieldRead, execLowHalfRead, execLowHalfWrite, h]

theorem exec_highHalf_refused_of_dbgStop (h : s.dbgStop r (a + 4) = true) :
    exec (.highHalfRead r a) s = .refused .debugUnit ∧ exec (.highHalfWrite r a v) s = .refused .debugUnit := by
  simp [exec, execHighHalfRead, execHighHalfWrite, h]

/-- Settles O55, access code by access code. -/
theorem registerWrites : Obligations.RegisterWrites := by
  unfold Obligations.RegisterWrites
  refine ⟨fun s r v h h' hl lo hlt hlo => restartVec_commits h h' hl hlt hlo, fun s r v same h => dmpIrqEn_write h,
    fun s r v same h => kdlErr_write h, fun s r v same h => ⟨fun hl => ?_, drvGeom_write h⟩,
    fun s r o lg v same h hlg hend hz => rsram_write h hlg hend hz, fun s r a lg v same hd => ⟨writeNotReady hd, ?_, ?_, ?_, ?_⟩,
    fun s r a lg v same chg => ⟨fun h => exec_refused_of_dbgStop h, exec_highHalf_refused_of_dbgStop⟩⟩
  · rw [exec_drvGeom_write h, State.writeReg_drvGeom_locked hl]
  · intro hc hn hdisc
    rw [exec_registerWrite hd, State.withWrite_discarded hc hn hdisc]
  · intro _ hn hz
    rw [exec_registerWrite hd, State.withWrite_ignored hn (State.writeAt_misaligned hz)]
  · exact fun _ hn hlg hr hl => exec_subwordWrite hd hn hlg hr hl
  · intro hc
    rw [exec_registerWrite hd, State.withWrite_unreached hc]

end Sys2Proof.Machine
end

section
/-! The state after reset (R4, R24, R34 and the Reset columns) and the identity codes of the TAPs (R582). -/

namespace Sys2Proof.Machine

/-- Each store of the state after reset has its canonical form: the register fields by evaluation, every other one is empty. -/
theorem State.reset_memoryOk : State.reset.memoryOk = true := by
  simp only [State.memoryOk, State.reset_regs_wf, Bool.true_and]
  decide

/-! ### The TAPs -/

theorem State.idcode_compute (s : State) : s.idcode false = s.get F.GLB_ID_STEP_MAJOR * 2 ^ 28 + 0x071609C7 := by
  simp [State.idcode]

theorem State.idcode_companion (s : State) : s.idcode true = s.get F.GLB_ID_COMP_STEP * 2 ^ 28 + 0x071619C7 := by
  simp [State.idcode]

theorem State.idcodeScan_getElem? (s : State) {i : Nat} (h : i < 32) :
    s.idcodeScan[i]? = some ((s.idcode false).testBit i) ∧ s.idcodeScan[32 + i]? = some ((s.idcode true).testBit i) := by
  constructor
  · rw [State.idcodeScan, List.getElem?_append_left (by simpa using h)]
    simp [h]
  · rw [State.idcodeScan, List.getElem?_append_right (by simp)]
    simp [h]

/-! ### Domains -/

/-- No domain is released after reset. -/
theorem State.reset_released (d : Nat) : State.reset.released d = false := by
  have h : State.reset.get F.KDL_REL_STS_DOMAIN = 0 := by decide +kernel
  rw [State.released, State.bitOf, h]
  exact Nat.zero_testBit _

theorem State.reset_canReach (r : Req) : State.reset.canReach r = false := by
  cases r <;> simp [State.canReach, State.reset_released]

/-- Settles O60: the canonical form, the identity codes, and the Reset columns by evaluation of the state after reset. -/
theorem resetValues : Obligations.ResetValues := by
  unfold Obligations.ResetValues
  refine ⟨State.reset_memoryOk, fun s => ⟨?_, ?_, fun h => ?_, fun h => ?_, fun i => s.idcodeScan_getElem?⟩, State.reset_canReach, ?_⟩
  · rw [State.idcode_compute]; omega
  · rw [State.idcode_companion]; omega
  · rw [State.idcode_compute]; omega
  · rw [State.idcode_companion]; omega
  · and_intros <;> decide +kernel

end Sys2Proof.Machine
end

section
/-! What one update of a block leaves, what an event that is staged holds, and bits of fields. -/

namespace Sys2Proof.Machine

variable {ps : List Part} {fs : List Fld} {s t : State}

/-- An update of blocks that hold no register field and no queue: each block that changes is named. -/
theorem Kept.blocks (h : Kept ps fs s t) {kdl : KdlSt} {jnl : JnlSt} {crl : CrlSt} {pool : PoolSt} {bel : BelSt} {stoves : Tab Stove}
    {ich : IchSt} {ddr grates : Tab Byte} {freeCtr : Nat} {heldItems : List WorkItem} {out : List Out}
    (hkdl : kdl = t.kdl ∨ Part.kdl ∈ ps) (hjnl : jnl = t.jnl ∨ Part.jnl ∈ ps) (hcrl : crl = t.crl ∨ Part.crl ∈ ps)
    (hpool : pool = t.pool ∨ Part.pool ∈ ps) (hbel : bel = t.bel ∨ Part.bel ∈ ps) (hstoves : stoves = t.stoves ∨ Part.stoves ∈ ps)
    (hich : ich = t.ich ∨ Part.ich ∈ ps) (hddr : ddr = t.ddr ∨ Part.ddr ∈ ps) (hgrates : grates = t.grates ∨ Part.grates ∈ ps)
    (hfree : freeCtr = t.freeCtr ∨ Part.free ∈ ps) (hheld : heldItems = t.heldItems ∨ Part.heldItems ∈ ps) (hout : out = t.out ∨ Part.out ∈ ps) :
    Kept ps fs s { t with kdl, jnl, crl, pool, bel, stoves, ich, ddr, grates, freeCtr, heldItems, out } := by
  refine h.upd rfl rfl fun p hn => ?_
  cases p with
  | ports | irqPend => exact fun _ => rfl
  | wdt => exact ⟨rfl, rfl⟩
  | plic => exact ⟨rfl, rfl, rfl, rfl⟩
  | kdl => exact hkdl.resolve_right hn
  | jnl => exact hjnl.resolve_right hn
  | crl => exact hcrl.resolve_right hn
  | pool => exact hpool.resolve_right hn
  | bel => exact hbel.resolve_right hn
  | stoves => exact hstoves.resolve_right hn
  | ich => exact hich.resolve_right hn
  | ddr => exact hddr.resolve_right hn
  | grates => exact hgrates.resolve_right hn
  | free => exact hfree.resolve_right hn
  | heldItems => exact hheld.resolve_right hn
  | out => exact hout.resolve_right hn
  | _ => rfl

theorem Kept.widen {qs : List Part} {gs : List Fld} (h : Kept ps fs s t) (hp : ∀ p ∈ ps, p ∈ qs) (hf : ∀ f ∈ fs, f ∈ gs) : Kept qs gs s t :=
  h.mono hp fun f m => List.mem_map_of_mem (hf f m)

theorem Kept.updPool (h : Kept ps fs s t) (hp : Part.pool ∈ ps) (f : PoolSt → PoolSt) : Kept ps fs s (t.updPool f) := by
  apply h.blocks (pool := f t.pool) <;> simp [hp]

theorem Kept.updBel (h : Kept ps fs s t) (hp : Part.bel ∈ ps) (f : BelSt → BelSt) : Kept ps fs s (t.updBel f) := by
  apply h.blocks (bel := f t.bel) <;> simp [hp]

theorem Kept.taken (h : Kept ps fs s t) (hp : Part.free ∈ ps) (n : Nat) : Kept ps fs s (t.taken n) := by
  apply h.blocks (freeCtr := t.freeCtr + n) <;> simp [hp]

end Sys2Proof.Machine
end

section
/-! Events that are staged (R558), and bits of fields. -/

namespace Sys2Proof.Machine

variable {s t : State} {c : Nat} {is : List Nat}

theorem State.sootFlush_staged (s : State) : s.sootFlush.soot.staged = s.soot.staged := by
  unfold State.sootFlush
  split
  · rfl
  · split <;> rfl

theorem State.record_staged (h : s.soot.staged.length < 256) : ∃ r : SootRec, (s.record c is).soot.staged = s.soot.staged ++ [r] ∧
    r.code = c ∧ r.items = is.take 8 ∧ r.atime = s.now := by
  refine ⟨⟨c, s.getb F.SOOT_STS_FROZEN, s.head, s.stamp, s.now, is.take 8⟩, ?_, rfl, rfl, rfl⟩
  rw [State.record, if_neg (by omega)]
  dsimp only
  split
  · exact State.sootFlush_staged _
  · rfl

/-- An event recorded in a state whose Soot unit and time are those of `s`. -/
theorem staged_record (hs : t.soot = s.soot) (hn : t.tick = s.tick) (hi : is.length ≤ 8) : Staged c is s (t.record c is) := by
  intro hl
  obtain ⟨r, hr, hc, hit, ha⟩ := State.record_staged (s := t) (c := c) (is := is) (hs ▸ hl)
  refine ⟨r, hs ▸ hr, hc, ?_, ?_⟩
  · rw [hit, List.take_of_length_le hi]
  · rw [ha, State.now, State.now, hn]

/-- What recording an event leaves: all but Soot's staging memory, its lost count and flush bit, and a vector. -/
theorem State.record_kept (s : State) (c : Nat) (is : List Nat) : Kept logParts logFlds s (s.record c is) :=
  (Kept.refl _ _ s).record (fun _ h => h) (fun _ h => List.mem_map_of_mem h)

theorem Kept.logged {ps : List Part} {fs : List Fld} (h : Kept ps fs s t) (hp : ∀ p ∈ logParts, p ∈ ps) (hf : ∀ f ∈ logFlds, f ∈ fs) :
    Kept ps fs s (t.record c is) := h.record hp fun f m => List.mem_map_of_mem (hf f m)

theorem State.record_pool : (s.record c is).pool = s.pool := (s.record_kept c is).2.1 .pool (by decide)

theorem State.get_record {f : Fld} (h : f.key ∉ logFlds.map Fld.key) : (s.record c is).get f = s.get f := (s.record_kept c is).2.2 f h

theorem bit_putBit_true {v i w : Nat} (h : i < w) : bit (putBit v i true % 2 ^ w) i = true := by
  simp [bit, putBit, setBit, Nat.testBit_mod_two_pow, h]

theorem State.bit_get_setBitOf_true {f : Fld} {i : Nat} (h : i < f.width) : bit ((s.setBitOf f i true).get f) i = true := by
  rw [State.setBitOf_eq, State.get_set_same, bit_putBit_true h]

end Sys2Proof.Machine
end

section
/-! The Grate pool: a grate is freed, a channel stalls, a grate is spilled (R30, R32, R33). -/

namespace Sys2Proof.Tab

variable {α : Type} {t : Tab α} {k : Nat} {v : α}

theorem find_eq_none_of_lt (h : ∀ x ∈ t, k < x.1) : find t k = none := by
  induction t with
  | nil => rfl
  | cons e t ih =>
    have hk := h e List.mem_cons_self
    rw [find, if_neg (by omega), ih fun x hx => h x (List.mem_cons_of_mem _ hx)]

theorem del_eq_self (h : find t k = none) : del t k = t := by
  induction t with
  | nil => rfl
  | cons e t ih =>
    obtain ⟨j, w⟩ := e
    simp only [find] at h
    split at h
    · cases h
    · next hj => rw [del, if_neg hj, ih h]

/-- A deleted entry is counted no more; a sorted table lists it once. -/
theorem countP_del (hs : sorted t = true) (hf : find t k = some v) (p : Nat × α → Bool) :
    (del t k).countP p + (if p (k, v) then 1 else 0) = t.countP p := by
  induction t with
  | nil => simp [find] at hf
  | cons e t ih =>
    obtain ⟨j, w⟩ := e
    obtain ⟨hlt, ht⟩ := sorted_cons.mp hs
    simp only [find] at hf
    split at hf
    · next hj =>
      subst hj
      cases hf
      rw [del, if_pos rfl, del_eq_self (find_eq_none_of_lt hlt), List.countP_cons]
    · next hj => rw [del, if_neg hj, List.countP_cons, List.countP_cons, ← ih ht hf]; omega

theorem readBytes_congr {m m' : Tab Byte} (h : ∀ l, getB m l = getB m' l) : ∀ n a, readBytes m a n = readBytes m' a n
  | 0, _ => rfl
  | n + 1, a => by rw [readBytes, readBytes, h, readBytes_congr h n]

theorem readBytes_length (m : Tab Byte) : ∀ n a, (readBytes m a n).length = n
  | 0, _ => rfl
  | n + 1, a => by rw [readBytes, List.length_cons, readBytes_length m n]

/-- What was written is read back. -/
theorem readBytes_writeBytes (m : Tab Byte) (a : Nat) (b : Bytes) : readBytes (writeBytes m a b) a b.length = b := by
  induction b generalizing m a with
  | nil => rfl
  | cons x b ih =>
    rw [List.length_cons, readBytes, writeBytes, ih, getB_writeBytes_outside _ _ _ _ (by omega), getB_putB, if_pos rfl]

end Sys2Proof.Tab

namespace Sys2Proof.Machine

variable {ps : List Part} {fs : List Fld} {s t : State} {g c a n : Nat} {x : Grate} {b : Bytes}

/-! ### A grate is freed (R30, R32) -/

/-- The pool once a held grate has been freed. -/
def PoolSt.freed (p : PoolSt) (g : Nat) (x : Grate) (cyc : Nat) : PoolSt :=
  { p with
    held := Tab.del p.held g
    shared := Tab.putN p.shared x.chan (Tab.getN p.shared x.chan - 1)
    stalled := p.stalled.filter (· != x.chan)
    stallFrom := if Tab.getN p.shared x.chan ≤ 1 then Tab.del p.stallFrom x.chan else Tab.put p.stallFrom x.chan cyc }

theorem State.freeGrateOf_held (h : Tab.find s.pool.held g = some x) : s.freeGrateOf g = s.updPool (fun p => p.freed g x s.cyc) := by
  simp only [State.freeGrateOf, h]
  rfl

theorem Kept.freeGrateOf (h : Kept ps fs s t) (hp : Part.pool ∈ ps) (g : Nat) : Kept ps fs s (t.freeGrateOf g) := by
  unfold State.freeGrateOf
  split
  · exact h
  · exact h.updPool hp _

theorem State.chanShared_freed (h : Tab.find s.pool.held g = some x) (c : Nat) :
    (s.freeGrateOf g).chanShared c = if c = x.chan then s.chanShared x.chan - 1 else s.chanShared c := by
  rw [State.freeGrateOf_held h]
  simp [State.chanShared, PoolSt.freed, Tab.getN_putN]

theorem State.find_held_freed (h : Tab.find s.pool.held g = some x) (k : Nat) :
    Tab.find (s.freeGrateOf g).pool.held k = if k = g then none else Tab.find s.pool.held k := by
  rw [State.freeGrateOf_held h]
  exact Tab.find_del _ _ _

theorem State.chanTotal_freed (h : Tab.find s.pool.held g = some x) (hs : Tab.sorted s.pool.held = true) :
    (s.freeGrateOf g).chanTotal x.chan + 1 = s.chanTotal x.chan := by
  rw [State.freeGrateOf_held h]
  simpa [State.chanTotal, PoolSt.freed] using Tab.countP_del hs h (fun e => e.2.chan == x.chan)

theorem grateFree_returnsCredit (h : Tab.find s.pool.held g = some x) :
    Does (.grateFree g) s [.pool] [] (fun t =>
      Tab.find t.pool.held g = none ∧ (∀ h, h ≠ g → Tab.find t.pool.held h = Tab.find s.pool.held h) ∧
      t.chanShared x.chan = s.chanShared x.chan - 1 ∧ (∀ c, c ≠ x.chan → t.chanShared c = s.chanShared c) ∧
      (Tab.sorted s.pool.held = true → t.chanTotal x.chan + 1 = s.chanTotal x.chan ∧
        t.chanTotal x.chan - t.chanShared x.chan = s.chanTotal x.chan - s.chanShared x.chan - (if 0 < s.chanShared x.chan then 0 else 1)) ∧
      x.chan ∉ t.pool.stalled ∧ t.pool.waiting = s.pool.waiting) := by
  have hshared := State.chanShared_freed h
  refine ⟨s.freeGrateOf g, rfl, ⟨?_, fun k hk => ?_, ?_, fun c hc => ?_, fun hs => ?_, ?_, ?_⟩, (Kept.refl _ _ s).freeGrateOf (by simp) g⟩
  · rw [State.find_held_freed h, if_pos rfl]
  · rw [State.find_held_freed h, if_neg hk]
  · rw [hshared, if_pos rfl]
  · rw [hshared, if_neg hc]
  · have htotal := State.chanTotal_freed h hs
    refine ⟨htotal, ?_⟩
    rw [hshared, if_pos rfl]
    split <;> omega
  · rw [State.freeGrateOf_held h]
    simp [PoolSt.freed]
  · rw [State.freeGrateOf_held h]
    rfl

/-! ### A channel stalls (R32) -/

theorem grtStall_stalls (hc : c < 8) (hsh : 0 < s.chanShared c) (hst : c ∉ s.pool.stalled)
    (hto : Tab.getN s.pool.stallFrom c + s.get F.GRT_STALL_TO_TIMEOUT * 100 ≤ s.cyc) :
    Does (.grtStall c) s (logParts ++ [.pool]) (logFlds ++ [F.GRT_STALL_STALLED]) (fun t =>
      c ∈ t.pool.stalled ∧ t.pool.held = s.pool.held ∧ bit (t.get F.GRT_STALL_STALLED) c = true ∧ Staged 0x0701 [] s t) := by
  have hex : exec (.grtStall c) s =
      .next (((s.updPool (fun p => { p with stalled := c :: p.stalled })).setBitOf F.GRT_STALL_STALLED c true).record 0x0701 []) := by
    simp [exec, execGrtStall, us, hsh, hst, hto]
  refine ⟨_, hex, ⟨?_, ?_, ?_, staged_record rfl rfl (by simp)⟩, ?_⟩
  · rw [State.record_pool]
    exact List.mem_cons_self
  · rw [State.record_pool]
    rfl
  · rw [State.get_record (by decide)]
    exact State.bit_get_setBitOf_true hc
  · exact (((Kept.refl _ _ s).updPool (by simp) _).setBitOf (by simp)).logged (by simp +contextual) (by simp +contextual)

end Sys2Proof.Machine
end

section
/-! DDR as every agent but the cache writes it (R51, R52, R278): what a write leaves, and that its bytes are there. -/

namespace Sys2Proof.Machine

variable {ps : List Part} {fs : List Fld} {s t : State} {a n : Nat} {b : Bytes}

theorem foldl_eq_of_step {α β σ : Type} (g : σ → β) {f : σ → α → σ} (h : ∀ s x, g (f s x) = g s) :
    ∀ (l : List α) (s : σ), g (l.foldl f s) = g s
  | [], _ => rfl
  | x :: l, s => (foldl_eq_of_step g h l (f s x)).trans (h s x)

theorem Kept.foldl {α : Type} {f : State → α → State} (hf : ∀ s x, Kept ps fs s (f s x)) : ∀ (l : List α) (s : State), Kept ps fs s (l.foldl f s)
  | [], s => Kept.refl _ _ s
  | x :: l, s => (hf s x).trans (Kept.foldl hf l (f s x))

theorem Kept.updIch (h : Kept ps fs s t) (hp : Part.ich ∈ ps) (f : IchSt → IchSt) : Kept ps fs s (t.updIch f) := by
  apply h.blocks (ich := f t.ich) <;> simp [hp]

/-- The counters that a request served by the Index cache moves. -/
def ichCounts : List Fld := [F.ICH_HITS_COUNT, F.ICH_SB_HITS_COUNT, F.ICH_MISSES_COUNT, F.ICH_WB_MERGES_COUNT]

/-! ### Draining and invalidating -/

theorem State.drainLine_kept (s : State) (l : Nat) : Kept [.ich, .ddr] [] s (s.drainLine l) := by
  unfold State.drainLine
  split
  · apply (Kept.refl [.ich, .ddr] [] s).blocks <;> simp
  · exact Kept.refl _ _ s

theorem State.drainLine_waiting (s : State) (l : Nat) : (s.drainLine l).ich.waiting = s.ich.waiting := by
  unfold State.drainLine
  split <;> rfl

theorem State.dropLine_kept (s : State) (l : Nat) : Kept [.ich, .ddr] [] s (s.dropLine l) := by
  unfold State.dropLine
  split
  · exact (Kept.refl _ _ s).updIch (by simp) _
  · exact Kept.refl _ _ s

theorem State.dropLine_waiting (s : State) (l : Nat) : (s.dropLine l).ich.waiting = s.ich.waiting := by
  unfold State.dropLine
  split <;> rfl

theorem State.extWrite_kept (s : State) (a n : Nat) : Kept [.ich, .ddr] [] s (s.extWrite a n) := by
  have hdrain : Kept [.ich, .ddr] [] s (s.extDrain a n) := by
    unfold State.extDrain
    split
    · exact Kept.refl _ _ s
    · exact Kept.foldl State.drainLine_kept _ s
  unfold State.extWrite
  dsimp only
  split
  · exact hdrain
  · exact hdrain.trans (Kept.foldl (fun u l => (u.dropLine_kept l).updIch (by simp) _) _ _)

theorem State.extWrite_waiting (s : State) (a n : Nat) : (s.extWrite a n).ich.waiting = s.ich.waiting := by
  have hdrain : (s.extDrain a n).ich.waiting = s.ich.waiting := by
    unfold State.extDrain
    split
    · rfl
    · exact foldl_eq_of_step (fun u : State => u.ich.waiting) State.drainLine_waiting _ s
  unfold State.extWrite
  dsimp only
  split
  · exact hdrain
  · refine (foldl_eq_of_step (fun u : State => u.ich.waiting) (fun u l => ?_) _ _).trans hdrain
    exact u.dropLine_waiting l

/-- The poisoned lines of a port are no part of its pending vectors. -/
theorem State.endPoison_kept (s : State) (a n : Nat) : Kept [.ports, .ddr] [] s (s.endPoison a n) := by
  refine Kept.foldl (fun u p => ?_) _ s
  dsimp only
  split
  · exact Kept.refl _ _ u
  · refine Kept.of_regs_eq rfl rfl fun q hn => ?_
    cases q with
    | ports | ddr => simp at hn
    | irqPend =>
      intro r
      simp only [State.updPort, State.port, Tab.getD_upd]
      split
      · next h => rw [h]
      · rfl
    | wdt => exact ⟨rfl, rfl⟩
    | plic => exact ⟨rfl, rfl, rfl, rfl⟩
    | _ => rfl

theorem State.cleanLines_kept (s : State) (a n : Nat) : Kept [.ich] [] s (s.cleanLines a n) := by
  unfold State.cleanLines
  split
  · exact Kept.refl _ _ s
  · exact (Kept.refl _ _ s).updIch (by simp) _

theorem State.cleanLines_waiting (s : State) (a n : Nat) : (s.cleanLines a n).ich.waiting = s.ich.waiting := by
  unfold State.cleanLines
  split <;> rfl

/-! ### Requests that waited are served again -/

theorem Kept.updSet (h : Kept ps fs s t) (hp : Part.ich ∈ ps) (i : Nat) (f : IchSet → IchSet) : Kept ps fs s (t.updSet i f) := h.updIch hp _

theorem Kept.useSide (h : Kept ps fs s t) (hp : Part.ich ∈ ps) (l : Nat) : Kept ps fs s (t.useSide l) := by
  unfold State.useSide
  split
  · exact (h.updIch hp _).updSet hp _ _
  · exact h

theorem Kept.updFill (h : Kept ps fs s t) (hp : Part.ich ∈ ps) (l : Nat) (g : IchFill → IchFill) : Kept ps fs s (t.updFill l g) := h.updIch hp _

theorem State.ichRead_kept (s : State) (r : IchReq) : Kept [.ich, .ddr, .out] ichCounts s (s.ichRead r) := by
  have h0 := Kept.refl [.ich, .ddr, .out] ichCounts s
  have hits : F.ICH_HITS_COUNT.key ∈ ichCounts.map Fld.key := by decide
  have sideHits : F.ICH_SB_HITS_COUNT.key ∈ ichCounts.map Fld.key := by decide
  have misses : F.ICH_MISSES_COUNT.key ∈ ichCounts.map Fld.key := by decide
  have hich : Part.ich ∈ [Part.ich, Part.ddr, Part.out] := by simp
  have hout : Part.out ∈ [Part.ich, Part.ddr, Part.out] := by simp
  unfold State.ichRead
  dsimp only
  split
  · exact ((h0.updSet hich _ _).inc hits).emit hout
  · split
    · exact ((h0.useSide hich _).inc sideHits).emit hout
    · split
      · split
        · exact (h0.inc misses).updFill hich _ _
        · exact ((h0.inc misses).updFill hich _ _).emit hout
      · split
        · exact h0.updIch hich _
        · exact ((h0.inc misses).updIch hich _).updFill hich _ _

theorem State.ichWrite_kept (s : State) (r : IchReq) (b : Bytes) : Kept [.ich, .ddr, .out] ichCounts s (s.ichWrite r b) := by
  have h0 := Kept.refl [.ich, .ddr, .out] ichCounts s
  have hich : Part.ich ∈ [Part.ich, Part.ddr, Part.out] := by simp
  have hmerge : Kept [.ich, .ddr, .out] ichCounts s (if s.ich.wb.any (fun e => e.line == r.addr / 256) then
      (s.updIch (fun c => { c with wb := c.wb.map (fun e =>
        if e.line == r.addr / 256 then { e with bytes := layBytes e.bytes (r.addr % 256) b } else e) })).inc F.ICH_WB_MERGES_COUNT 1
      else s.updIch (fun c => { c with wb := c.wb ++ [{ line := r.addr / 256, since := s.cyc, bytes := layBytes [] (r.addr % 256) b }] })) := by
    split
    · exact (h0.updIch hich _).inc (by decide)
    · exact h0.updIch hich _
  unfold State.ichWrite
  dsimp only
  split
  · exact h0.updIch hich _
  · split
    · have hcount : ∀ side : Bool, (if side then F.ICH_SB_HITS_COUNT else F.ICH_HITS_COUNT).key ∈ ichCounts.map Fld.key := by decide
      refine Kept.inc ?_ (hcount _)
      exact ((hmerge.useSide hich _).updFill hich _ _).updSet hich _ _
    · exact ((hmerge.useSide hich _).updFill hich _ _).inc (by decide)

theorem State.ichServe_kept (s : State) (r : IchReq) : Kept [.ich, .ddr, .out] ichCounts s (s.ichServe r) := by
  have h0 := Kept.refl [.ich, .ddr, .out] ichCounts s
  unfold State.ichServe
  split
  · exact h0.updIch (by simp) _
  · split
    · split
      · exact s.ichRead_kept r
      · exact s.ichWrite_kept r _
    · split
      · exact h0.emit (by simp)
      · apply h0.blocks <;> simp

theorem State.ichAgain_kept (s : State) : Kept [.ich, .ddr, .out] ichCounts s s.ichAgain := by
  unfold State.ichAgain
  split
  · exact Kept.refl _ _ s
  · exact ((Kept.refl _ _ s).updIch (by simp) _).trans (Kept.foldl State.ichServe_kept _ _)

theorem State.ichAgain_of_waiting_nil (h : s.ich.waiting = []) : s.ichAgain = s := by simp [State.ichAgain, h]

/-! ### Writes -/

/-- The state of a DDR write before the requests that waited for room in the merging buffer are served again. -/
theorem State.ddrWrite_eq (s : State) (a : Nat) (b : Bytes) : ∃ u m, Kept [.ich, .ddr, .ports] [] s u ∧ u.ich.waiting = s.ich.waiting ∧
    u.ddr = Tab.writeBytes m a b ∧ s.ddrWrite a b = u.ichAgain := by
  have hext := s.extWrite_kept a b.length
  have hpoi := (s.extWrite a b.length).endPoison_kept a b.length
  generalize hv : (s.extWrite a b.length).endPoison a b.length = v at hpoi
  have hsv : Kept [.ich, .ddr, .ports] [] s v := (hext.mono (by simp) (by simp)).trans (hpoi.mono (by simp) (by simp))
  have hwait : v.ich.waiting = s.ich.waiting := (congrArg IchSt.waiting (hpoi.2.1 .ich (by simp))).trans (s.extWrite_waiting a b.length)
  have hclean := ({ v with ddr := Tab.writeBytes v.ddr a b } : State).cleanLines_kept a b.length
  refine ⟨State.cleanLines { v with ddr := Tab.writeBytes v.ddr a b } a b.length, v.ddr, ?_, ?_, hclean.2.1 .ddr (by simp), ?_⟩
  · have hw : Kept [.ich, .ddr, .ports] [] s { v with ddr := Tab.writeBytes v.ddr a b } := by apply hsv.blocks <;> simp
    exact hw.trans (hclean.mono (by simp) (by simp))
  · exact (State.cleanLines_waiting _ _ _).trans hwait
  · rw [State.ddrWrite, ← hv]

theorem State.ddrWrite_kept (s : State) (a : Nat) (b : Bytes) : Kept [.ich, .ddr, .ports, .out] ichCounts s (s.ddrWrite a b) := by
  obtain ⟨u, m, hu, -, -, he⟩ := s.ddrWrite_eq a b
  rw [he]
  exact (hu.mono (by simp) (by simp)).trans (u.ichAgain_kept.widen (by simp) (fun _ h => h))

/-- While no request waits for room in the merging buffer, a write answers none, and its bytes are in DDR after it. -/
theorem State.ddrWrite_writes (h : s.ich.waiting = []) (a : Nat) (b : Bytes) :
    Kept [.ich, .ddr, .ports] [] s (s.ddrWrite a b) ∧ Tab.readBytes (s.ddrWrite a b).ddr a b.length = b := by
  obtain ⟨u, m, hu, hw, hd, he⟩ := s.ddrWrite_eq a b
  rw [he, State.ichAgain_of_waiting_nil (hw.trans h), hd]
  exact ⟨hu, Tab.readBytes_writeBytes m a b⟩

/-! ### A grate is spilled (R33) -/

theorem grateSpill_moves {g : Nat} {x : Grate} (hlo : s.sharedFree < s.get F.GRT_SPILL_LO_LEVEL) (hn : s.spillNext = some g)
    (hx : Tab.find s.pool.held g = some x) (hw : s.ich.waiting = []) :
    Does .grateSpill s [.pool, .ddr, .ich, .ports, .free] [] (fun t =>
      Tab.find t.pool.held g = none ∧ t.pool.overflow = s.pool.overflow ++ [(x.user, g, 4096 * s.freeValue.toNat)] ∧
      Tab.readBytes t.ddr (4096 * s.freeValue.toNat) 4096 = Tab.readBytes s.grates (4096 * g) 4096 ∧ t.freeCtr = s.freeCtr + 1 ∧
      ∀ h, h ≠ g → Tab.find t.pool.held h = Tab.find s.pool.held h) := by
  have hex : exec .grateSpill s = .next (s.spill g) := by simp [exec, execGrateSpill, hlo, hn]
  obtain ⟨hk, hbytes⟩ := State.ddrWrite_writes (s := s.taken 1) hw (4096 * s.freeValue.toNat) (Tab.readBytes s.grates (4096 * g) 4096)
  rw [Tab.readBytes_length] at hbytes
  generalize hu : (s.taken 1).ddrWrite (4096 * s.freeValue.toNat) (Tab.readBytes s.grates (4096 * g) 4096) = u at hk hbytes
  have hpool : u.pool = s.pool := hk.2.1 .pool (by simp)
  have hheld : Tab.find u.pool.held g = some x := hpool ▸ hx
  have hspill : s.spill g = (u.freeGrateOf g).updPool (fun p => { p with overflow := p.overflow ++ [(x.user, g, 4096 * s.freeValue.toNat)] }) := by
    simp only [State.spill, Tab.getD, hx, hu]
    rfl
  have hfree := State.find_held_freed hheld
  refine ⟨_, hex, ?_, ?_⟩
  · rw [hspill]
    refine ⟨(hfree g).trans (if_pos rfl), ?_, ?_, ?_, fun k hk => ?_⟩
    · rw [State.freeGrateOf_held hheld, ← hpool]
      rfl
    · rw [State.freeGrateOf_held hheld]
      exact hbytes
    · rw [State.freeGrateOf_held hheld]
      exact hk.2.1 .free (by simp)
    · rw [← hpool]
      exact (hfree k).trans (if_neg hk)
  · rw [hspill]
    have h0 : Kept [.pool, .ddr, .ich, .ports, .free] [] s u := ((Kept.refl _ _ s).taken (by simp) 1).trans (hk.mono (by simp) (by simp))
    exact (h0.freeGrateOf (by simp) g).updPool (by simp) _

/-- Settles O7: a free, a stall, a spill. -/
theorem gratesAreFreed : Obligations.GratesAreFreed := by
  unfold Obligations.GratesAreFreed
  exact ⟨fun _ _ _ => grateFree_returnsCredit, fun _ _ => grtStall_stalls, fun _ _ _ => grateSpill_moves⟩

end Sys2Proof.Machine
end

section
/-! The Grate pool: grates are granted (R29, R31), and reservations written (R34). -/

namespace Sys2Proof.Machine

variable {ps : List Part} {fs : List Fld} {s t : State} {c g user v : Nat} {q : GrateReq} {r : Req}

/-! ### A grant -/

/-- The grate a request becomes. -/
def GrateReq.grate (q : GrateReq) : Grate := { chan := q.chan, journalled := false, atime := q.atime, user := q.user }

theorem State.grant_reserved (hg : s.freeGrate = some g) (hr : s.canReserve q.chan = true) :
    s.grant q = s.updPool (fun p => { p with held := Tab.put p.held g q.grate }) := by
  simp only [State.grant, hg, hr, if_true]
  rfl

/-- The pool once a grate has been granted against the shared remainder. -/
def PoolSt.shareGranted (p : PoolSt) (g : Nat) (q : GrateReq) (cyc : Nat) : PoolSt :=
  { p with
    held := Tab.put p.held g q.grate
    shared := Tab.putN p.shared q.chan (Tab.getN p.shared q.chan + 1)
    lastShared := q.chan
    stallFrom := if Tab.getN p.shared q.chan == 0 then Tab.put p.stallFrom q.chan cyc else p.stallFrom }

theorem State.grant_shared (hg : s.freeGrate = some g) (hr : s.canReserve q.chan = false) :
    s.grant q = s.updPool (fun p => p.shareGranted g q s.cyc) := by
  simp only [State.grant, hg, hr, Bool.false_eq_true, if_false]
  rfl

theorem Kept.grant (h : Kept ps fs s t) (hp : Part.pool ∈ ps) (q : GrateReq) : Kept ps fs s (t.grant q) := by
  unfold State.grant
  split
  · exact h
  · dsimp only
    split
    · exact h.updPool hp _
    · exact (h.updPool hp _).updPool hp _

/-! ### A request (R29, R31) -/

theorem exec_grateAllocRequest (h : s.released dCch = true) :
    exec (.grateAllocRequest c user) s = .next (s.request { chan := c, user, atime := s.now }) := by
  simp [exec, execGrateAllocRequest, h]

/-- Nothing of the channel waits, and a grate is free for it. -/
theorem State.request_granted (hok : s.canReserve q.chan = true ∨ (s.canShare q.chan = true ∧ s.sharersWaiting < s.sharedFree))
    (hw : s.pool.waiting.all (fun w => w.chan != q.chan) = true) (hg : s.freeGrate = some g) : s.request q = s.grant q := by
  have hany : s.pool.waiting.any (fun w => w.chan == q.chan) = false := by
    simpa [List.any_eq_false] using hw
  rcases hok with h | ⟨h, h'⟩ <;> simp [State.request, *]

/-- The pool with a request that waits, counted. -/
def State.enqueue (s : State) (q : GrateReq) : State :=
  (s.updPool (fun p => { p with waiting := p.waiting ++ [q] })).incSat (F.GRT_BP_CNT_COUNT q.chan) 1

theorem State.request_waits (hr : s.canReserve q.chan = false) (hs : s.canShare q.chan = false ∨ s.sharedFree ≤ s.sharersWaiting) :
    s.request q = s.enqueue q := by
  rcases hs with h | h <;> simp [State.request, State.enqueue, hr, h]

theorem Kept.enqueue (h : Kept ps fs s t) (hp : Part.pool ∈ ps) (hf : F.GRT_BP_CNT_COUNT q.chan ∈ fs) : Kept ps fs s (t.enqueue q) :=
  (h.updPool hp _).incSat (List.mem_map_of_mem hf)

theorem State.get_incSat_word {f : Fld} (hw : f.width = 32) : (s.incSat f 1).get f = min (s.get f + 1) 0xFFFFFFFF := by
  rw [State.incSat_eq, State.get_set_same, hw, satAdd]
  exact Nat.mod_eq_of_lt (by omega)

theorem State.canReserve_eq_false (h : s.get (F.GRT_CH_RSV_RSV c) ≤ s.chanTotal c - s.chanShared c) : s.canReserve c = false := by
  simpa [State.canReserve] using h

theorem grateRequest_reserved (hrel : s.released dCch = true) (hres : s.chanTotal c - s.chanShared c < s.get (F.GRT_CH_RSV_RSV c))
    (hw : s.pool.waiting.all (fun w => w.chan != c) = true) (hg : s.freeGrate = some g) :
    Does (.grateAllocRequest c user) s [.pool] [] (fun t =>
      Tab.find t.pool.held g = some { chan := c, journalled := false, atime := s.now, user } ∧
      (∀ h, h ≠ g → Tab.find t.pool.held h = Tab.find s.pool.held h) ∧ t.pool.shared = s.pool.shared ∧ t.pool.waiting = s.pool.waiting) := by
  have hr : s.canReserve c = true := by simpa [State.canReserve] using hres
  refine ⟨_, exec_grateAllocRequest hrel, ?_⟩
  rw [State.request_granted (.inl hr) hw hg, State.grant_reserved hg hr]
  exact ⟨⟨Tab.find_put_same _ _ _, fun k hk => Tab.find_put_other _ _ _ _ hk, rfl, rfl⟩, (Kept.refl _ _ s).updPool (by simp) _⟩

theorem grateRequest_shared (hrel : s.released dCch = true) (hres : s.get (F.GRT_CH_RSV_RSV c) ≤ s.chanTotal c - s.chanShared c)
    (hcap : s.chanShared c < s.get (F.GRT_CH_CAP_CAP c)) (hfree : s.sharersWaiting < s.sharedFree) (hst : c ∉ s.pool.stalled)
    (hw : s.pool.waiting.all (fun w => w.chan != c) = true) (hg : s.freeGrate = some g) :
    Does (.grateAllocRequest c user) s [.pool] [] (fun t =>
      Tab.find t.pool.held g = some { chan := c, journalled := false, atime := s.now, user } ∧
      t.chanShared c = s.chanShared c + 1 ∧ t.pool.lastShared = c ∧ t.pool.waiting = s.pool.waiting) := by
  have hsh : s.canShare c = true := by simp [State.canShare, hcap, hst]; omega
  have hr : s.canReserve c = false := State.canReserve_eq_false hres
  refine ⟨_, exec_grateAllocRequest hrel, ?_⟩
  rw [State.request_granted (.inr ⟨hsh, hfree⟩) hw hg, State.grant_shared hg hr]
  have hone : (s.updPool (fun p => p.shareGranted g { chan := c, user, atime := s.now } s.cyc)).chanShared c = s.chanShared c + 1 := by
    simp [State.chanShared, PoolSt.shareGranted, Tab.getN_putN]
  exact ⟨⟨Tab.find_put_same _ _ _, hone, rfl, rfl⟩, (Kept.refl _ _ s).updPool (by simp) _⟩

theorem grateRequest_waits (hrel : s.released dCch = true) (hres : s.get (F.GRT_CH_RSV_RSV c) ≤ s.chanTotal c - s.chanShared c)
    (hno : s.get (F.GRT_CH_CAP_CAP c) ≤ s.chanShared c ∨ s.sharedFree ≤ s.sharersWaiting) :
    Does (.grateAllocRequest c user) s [.pool] [F.GRT_BP_CNT_COUNT c] (fun t =>
      t.pool = { s.pool with waiting := s.pool.waiting ++ [{ chan := c, user, atime := s.now }] } ∧
      t.get (F.GRT_BP_CNT_COUNT c) = min (s.get (F.GRT_BP_CNT_COUNT c) + 1) 0xFFFFFFFF) := by
  have hsh : s.canShare c = false ∨ s.sharedFree ≤ s.sharersWaiting := hno.imp_left fun h => by simp [State.canShare]; omega
  have hr : s.canReserve c = false := State.canReserve_eq_false hres
  refine ⟨_, exec_grateAllocRequest hrel, ?_⟩
  rw [State.request_waits hr hsh]
  exact ⟨⟨rfl, State.get_incSat_word rfl⟩, (Kept.refl _ _ s).enqueue (by simp) (by simp)⟩

/-! ### A waiting request is granted (R31) -/

theorem foldl_eq_self {α σ : Type} {f : σ → α → σ} {x : σ} : ∀ {l : List α}, (∀ a ∈ l, f x a = x) → l.foldl f x = x
  | [], _ => rfl
  | a :: l, h => by
    rw [List.foldl_cons, h a List.mem_cons_self]
    exact foldl_eq_self fun b hb => h b (List.mem_cons_of_mem _ hb)

theorem State.sendReady_of_sent (h : s.drv.cmds.all (·.sent) = true) : s.sendReady = s :=
  foldl_eq_self fun c hc => by simp [State.maySend, List.all_eq_true.mp h c hc]

/-- Nothing that waits for grates can go on: `runGranted` finds nothing to run. -/
theorem State.runGranted_idle (hc : s.bel.cmds.all (fun c => c.stage != .landing) = true) (hi : s.crl.mirIn = []) (ho : s.crl.mirOut = [])
    (hd : s.drv.cmds.all (·.sent) = true) (hr : s.jnl.regain = []) : s.runGranted = s := by
  have hcmds : s.bel.cmds.filter (fun c => c.stage == .landing && s.allGranted c) = [] := by
    refine List.filter_eq_nil_iff.mpr fun c hm => ?_
    have h := List.all_eq_true.mp hc c hm
    simp_all
  simp only [State.runGranted, hcmds, List.foldl_nil, hi, List.filter_nil, State.sendReady_of_sent hd, State.pumpMir, ho, hr]

theorem grateGrant_grants (hn : s.nextGrant = some q) (hg : s.freeGrate = some g) (hr : s.canReserve q.chan = true)
    (hc : s.bel.cmds.all (fun c => c.stage != .landing) = true) (hi : s.crl.mirIn = []) (ho : s.crl.mirOut = [])
    (hd : s.drv.cmds.all (·.sent) = true) (hre : s.jnl.regain = []) :
    Does .grateGrant s [.pool] [] (fun t =>
      Tab.find t.pool.held g = some { chan := q.chan, journalled := false, atime := q.atime, user := q.user } ∧
      t.pool.waiting = dropReq q s.pool.waiting ∧ t.pool.shared = s.pool.shared) := by
  have hgrant : s.grantNext = (s.updPool (fun p => { p with waiting := dropReq q p.waiting })).updPool
      (fun p => { p with held := Tab.put p.held g q.grate }) := by
    simp only [State.grantNext, hn, hg, Option.isNone_some, Bool.false_eq_true, if_false]
    exact State.grant_reserved hg hr
  have hex : exec .grateGrant s = .next s.grantNext := by
    have hrun : s.grantNext.runGranted = s.grantNext := by
      rw [hgrant]
      exact State.runGranted_idle hc hi ho hd hre
    simp [exec, execGrateGrant, hrun]
  refine ⟨_, hex, ?_⟩
  rw [hgrant]
  exact ⟨⟨Tab.find_put_same _ _ _, rfl, rfl⟩, ((Kept.refl _ _ s).updPool (by simp) _).updPool (by simp) _⟩

/-! ### Reservations (R34) -/

theorem exec_chRsvWrite (h : s.writable r (R.GRT_CH_RSV + 4 * c) = true) : exec (.chRsvWrite r c v) s = .next (s.writeRsv c v) := by
  simp [exec, execChRsvWrite, State.withWrite_writable h]

theorem exec_poolLock (h : s.writable r R.GRT_POOL_CFG = true) : exec (.poolLock r) s = .next s.poolLock := by
  simp [exec, execPoolLock, State.withWrite_writable h]

theorem chRsvWrite_open (h : s.writable r (R.GRT_CH_RSV + 4 * c) = true) (hl : s.get F.GRT_POOL_CFG_LOCK = 0)
    (hsum : s.rsvSum - s.get (F.GRT_CH_RSV_RSV c) + v % 2 ^ 14 ≤ 12288) :
    Does (.chRsvWrite r c v) s [] [F.GRT_CH_RSV_RSV c] (fun t => t.get (F.GRT_CH_RSV_RSV c) = v % 2 ^ 14) := by
  have hw : s.writeRsv c v = s.set (F.GRT_CH_RSV_RSV c) v := by
    simp only [State.writeRsv, State.getb, hl, Nat.not_lt.mpr hsum, bne_self_eq_false, Bool.false_eq_true, if_false]
  exact ⟨_, exec_chRsvWrite h, hw ▸ ⟨State.get_set_same _ _ _, (Kept.refl _ _ s).set (by simp)⟩⟩

theorem chRsvWrite_refused (h : s.writable r (R.GRT_CH_RSV + 4 * c) = true) (hl : s.get F.GRT_POOL_CFG_LOCK = 0)
    (hsum : 12288 < s.rsvSum - s.get (F.GRT_CH_RSV_RSV c) + v % 2 ^ 14) :
    Does (.chRsvWrite r c v) s [] [F.GRT_POOL_CFG_CFG_ERR] (fun t => t.get F.GRT_POOL_CFG_CFG_ERR = 1) := by
  have hw : s.writeRsv c v = s.setb F.GRT_POOL_CFG_CFG_ERR true := by
    simp only [State.writeRsv, State.getb, hl, hsum, bne_self_eq_false, Bool.false_eq_true, if_false, if_true]
  exact ⟨_, exec_chRsvWrite h, hw ▸ ⟨State.get_set_same _ _ _, (Kept.refl _ _ s).setb (by simp)⟩⟩

theorem chRsvWrite_locked (h : s.writable r (R.GRT_CH_RSV + 4 * c) = true) (hl : s.get F.GRT_POOL_CFG_LOCK = 1) :
    Does (.chRsvWrite r c v) s [] [] (fun t => t = s) := by
  have hw : s.writeRsv c v = s := by simp [State.writeRsv, State.getb, hl]
  exact ⟨_, exec_chRsvWrite h, hw, hw.symm ▸ Kept.refl _ _ s⟩

theorem poolLock_locks (h : s.writable r R.GRT_POOL_CFG = true) (hsum : s.rsvSum ≤ 11264) :
    Does (.poolLock r) s [] [F.GRT_POOL_CFG_LOCK] (fun t => t.get F.GRT_POOL_CFG_LOCK = 1) := by
  have hw : s.poolLock = s.setb F.GRT_POOL_CFG_LOCK true := if_pos hsum
  exact ⟨_, exec_poolLock h, hw ▸ ⟨State.get_set_same _ _ _, (Kept.refl _ _ s).setb (by simp)⟩⟩

theorem poolLock_refused (h : s.writable r R.GRT_POOL_CFG = true) (hsum : 11264 < s.rsvSum) :
    Does (.poolLock r) s [] [F.GRT_POOL_CFG_CFG_ERR] (fun t =>
      t.get F.GRT_POOL_CFG_CFG_ERR = 1 ∧ t.get F.GRT_POOL_CFG_LOCK = s.get F.GRT_POOL_CFG_LOCK) := by
  have hw : s.poolLock = s.setb F.GRT_POOL_CFG_CFG_ERR true := if_neg (by omega)
  exact ⟨_, exec_poolLock h, hw ▸ ⟨⟨State.get_set_same _ _ _, State.get_set_other _ _ _ _ (by decide)⟩, (Kept.refl _ _ s).setb (by simp)⟩⟩

/-- Settles O8: requests and grants, then reservations. -/
theorem gratesAreGranted : Obligations.GratesAreGranted := by
  unfold Obligations.GratesAreGranted
  exact ⟨⟨fun _ _ _ _ => grateRequest_reserved, fun _ _ _ _ => grateRequest_shared, fun _ _ _ => grateRequest_waits,
      fun _ _ _ _ => grateGrant_grants⟩,
    fun _ _ _ _ _ => chRsvWrite_open, fun _ _ _ _ _ => chRsvWrite_refused, fun _ _ _ _ _ => chRsvWrite_locked,
    fun _ _ => poolLock_locks, fun _ _ => poolLock_refused⟩

/-- Settles O59, by evaluation of the state after reset. -/
theorem reservationsAtReset : Obligations.ReservationsAtReset := by
  unfold Obligations.ReservationsAtReset
  decide +kernel

end Sys2Proof.Machine
end

section
/-! Degraded units (R36, R37, R483). -/

namespace Sys2Proof.Machine

variable {ps : List Part} {fs : List Fld} {s t : State} {f : Fld} {i j u w v : Nat} {b : Bool}

/-! ### Bits of fields -/

theorem bit_putBit_false : bit (putBit v i false % 2 ^ w) i = false := by
  have hclr : (clrBit v i).testBit i = false := by
    unfold clrBit bit
    split
    · next h =>
      have hle : 2 ^ i ≤ v := Nat.ge_two_pow_of_testBit h
      have hadd := Nat.testBit_two_pow_add_eq (v - 2 ^ i) i
      rw [Nat.add_sub_cancel' hle, h] at hadd
      simpa using hadd.symm
    · next h => simpa using h
  simp [bit, putBit, Nat.testBit_mod_two_pow, hclr]

theorem bit_putBit_true_other (h : j ≠ i) (hj : j < w) : bit (putBit v i true % 2 ^ w) j = bit v j := by
  simp [bit, putBit, setBit, Nat.testBit_mod_two_pow, hj, Ne.symm h]

theorem State.bit_get_setBitOf_false : bit ((s.setBitOf f i false).get f) i = false := by
  rw [State.setBitOf_eq, State.get_set_same, bit_putBit_false]

theorem State.get_setBitOf_other {g : Fld} (h : g.key ≠ f.key) : (s.setBitOf f i b).get g = s.get g := State.get_set_other _ _ _ _ h

/-! ### A degraded bit changes -/

/-- What a change of a degraded bit does beside it: vector 2,044, the GLB interrupt, the record. -/
theorem State.degrade_kept (h : s.bitOf f i ≠ b) : Kept (.glbPend :: logParts) logFlds (s.setBitOf f i b) (s.degrade f i b) := by
  have hb : (s.bitOf f i == b) = false := by simpa using h
  simp only [State.degrade, hb, Bool.false_eq_true, if_false]
  exact (((Kept.refl _ _ _).irqAll (by simp [logParts]) (by simp [logParts])).glbRaise (by simp)).logged (by simp +contextual) (fun _ h => h)

theorem State.get_degrade (h : s.bitOf f i ≠ b) (hf : f.key ∉ logFlds.map Fld.key) :
    (s.degrade f i b).get f = putBit (s.get f) i b % 2 ^ f.width := by
  rw [(State.degrade_kept h).2.2 f hf, State.setBitOf_eq, State.get_set_same]

theorem Kept.degrade (h : Kept ps fs s t) (hp : ∀ p ∈ .glbPend :: logParts, p ∈ ps) (hf : ∀ g ∈ f :: logFlds, g ∈ fs) :
    Kept ps fs s (t.degrade f i b) := by
  by_cases hb : t.bitOf f i = b
  · rw [State.degrade, if_pos (by simpa using hb)]
    exact h
  · exact (h.setBitOf (List.mem_map_of_mem (hf f (by simp)))).trans
      ((State.degrade_kept hb).widen hp fun g hg => hf g (by simp [hg]))

theorem State.glbPend_degrade (h : s.bitOf f i ≠ b) : (s.degrade f i b).hrt.glbPend = true := by
  have hb : (s.bitOf f i == b) = false := by simpa using h
  simp only [State.degrade, hb, Bool.false_eq_true, if_false]
  exact (State.record_kept _ _ _).2.1 .glbPend (by simp [logParts])

theorem State.degradeUnit_stove (h1 : 36 ≤ u) (h2 : u < 52) : s.degradeUnit u b = s.degrade F.GLB_FAULT_STV (u - 36) b := by
  have h : u ≠ 28 ∧ u ≠ 29 ∧ u ≠ 30 ∧ u ≠ 31 := by omega
  simp [State.degradeUnit, h1, h2, h, show ¬ u < 28 by omega, show ¬ u < 36 by omega]

theorem State.kindLost_stove (h1 : 36 ≤ u) (h2 : u < 52) : s.kindLost u = (s.get F.GLB_FAULT_STV == 2 ^ 16 - 1) := by
  have h : u ≠ 1 ∧ u ≠ 4 ∧ u ≠ 10 ∧ u ≠ 28 ∧ u ≠ 29 ∧ u ≠ 30 ∧ u ≠ 31 := by omega
  simp [State.kindLost, h1, h2, h, show ¬ u < 28 by omega, show ¬ u < 36 by omega]

/-- A Stove fails that is not the last: its degraded bit shows it. -/
theorem stoveLost_degrades (h1 : 36 ≤ u) (h2 : u < 52) (hb : bit (s.get F.GLB_FAULT_STV) (u - 36) = false)
    (hne : putBit (s.get F.GLB_FAULT_STV) (u - 36) true % 2 ^ 16 ≠ 0xFFFF) :
    Does (.unitLostReset u) s (logParts ++ [.glbPend]) (logFlds ++ [F.GLB_FAULT_STV]) (fun t =>
      bit (t.get F.GLB_FAULT_STV) (u - 36) = true ∧ t.hrt.glbPend = true) := by
  have hbit : s.bitOf F.GLB_FAULT_STV (u - 36) ≠ true := by simp [State.bitOf, hb]
  have hget := State.get_degrade hbit (by decide)
  have hex : exec (.unitLostReset u) s = .next (s.degrade F.GLB_FAULT_STV (u - 36) true) := by
    have hlast : (s.degrade F.GLB_FAULT_STV (u - 36) true).kindLost u = false := by
      rw [State.kindLost_stove h1 h2, hget]
      exact beq_false_of_ne hne
    simp [exec, execUnitLostReset, State.unitFails, State.degradeUnit_stove h1 h2, hlast]
  refine ⟨_, hex, ⟨?_, State.glbPend_degrade hbit⟩, (Kept.refl _ _ s).degrade (by simp +contextual [or_imp]) (by simp +contextual [or_imp])⟩
  rw [hget]
  exact bit_putBit_true (by simp only [F.GLB_FAULT_STV]; omega)

end Sys2Proof.Machine
end

section
/-! A reset episode of compute-die reach begins (R487, R489, R503). -/

namespace Sys2Proof.Machine

variable {ps : List Part} {fs : List Fld} {s t : State} {f : Fld} {src : RstSrc} {r : Reach}

/-! ### The fields a reach keeps -/

theorem getN_filter_key {α : Type} {p : Nat × α → Bool} {k : Nat} : ∀ {t : Tab α}, (∀ v, p (k, v) = true) → Tab.find (t.filter p) k = Tab.find t k
  | [], _ => rfl
  | (j, v) :: t, h => by
    rw [List.filter_cons]
    split
    · simp only [Tab.find, getN_filter_key h]
    · next hp =>
      have hj : j ≠ k := fun he => hp (he ▸ h v)
      rw [Tab.find, if_neg hj, getN_filter_key h]

theorem getN_putAll_other {k : Nat} : ∀ (l : List (Nat × Nat)) (t : Tab Nat), (∀ e ∈ l, e.1 ≠ k) →
    Tab.getN (l.foldl (fun t e => Tab.putN t e.1 e.2) t) k = Tab.getN t k
  | [], _, _ => rfl
  | e :: l, t, h => by
    rw [List.foldl_cons, getN_putAll_other l _ fun x hx => h x (List.mem_cons_of_mem _ hx), Tab.getN_putN,
      if_neg (h e List.mem_cons_self).symm]

theorem State.get_clearRegs (h : keptField r f.key = true) : (s.clearRegs r).get f = s.get f := by
  have hput := getN_putAll_other (k := f.key) (resetFields.filter (fun e => !keptField r e.1)) (s.regs.filter (fun e => keptField r e.1))
    (fun e he hk => by have hn := (List.mem_filter.mp he).2; simp [hk, h] at hn)
  rw [State.get, State.clearRegs, hput, Tab.getN, Tab.getD, getN_filter_key fun _ => h]
  rfl

/-- Beside the register fields nothing changes. -/
theorem State.clearRegs_blocks (s : State) (r : Reach) : ∃ x, s.clearRegs r = { s with regs := x } := ⟨_, rfl⟩

theorem keptField_companion {k : Nat} (h : companion (k / 64) = true) (hr : recoveredReg (k / 64) = false) : keptField .computeDie k = true := by
  simp [keptField, h, hr]

/-! ### The mode becomes Kindling -/

theorem State.reportAna_kept (s : State) (a : Nat × Nat) (p : Nat) : Kept [.bel, .out] [] s (s.reportAna a p) := by
  unfold State.reportAna
  dsimp only
  split
  · exact Kept.refl _ _ s
  · refine Kept.emit ?_ (by simp)
    apply (Kept.refl [.bel, .out] [] s).blocks <;> simp

theorem State.showAna_kept (s : State) : Kept [.bel, .out] [] s s.showAna := by
  unfold State.showAna
  split
  · exact (s.reportAna_kept _ 0).trans (State.reportAna_kept _ _ 1)
  · exact Kept.refl _ _ s

/-- What a mode transition changes beside MODE and PREV. -/
def transParts : List Part := .bel :: .glbPend :: logParts
def transFlds : List Fld := F.GLB_TRANS_CNT_COUNT :: logFlds

theorem State.transition_kept (h : s.qphase ≠ 2) (m n : Nat) :
    Kept transParts transFlds ((s.set F.GLB_MODE_PREV s.md).set F.GLB_MODE_MODE m) (s.transition m n) := by
  have hq : (s.qphase == 2 && n != 11) = false := by simp [h]
  have hrec := ((((Kept.refl transParts transFlds ((s.set F.GLB_MODE_PREV s.md).set F.GLB_MODE_MODE m)).irqAll (v := 2044) (by simp [transParts, logParts])
    (by simp [transParts, logParts])).glbRaise (by simp [transParts])).incSat (f := F.GLB_TRANS_CNT_COUNT) (n := 1) (by simp [transFlds])).logged (c := 0x0F10)
    (is := w1 s.md ++ w1 m ++ w1 n) (by simp +contextual [transParts]) (by simp +contextual [transFlds])
  simp only [State.transition, hq, Bool.false_eq_true, if_false]
  split
  · exact hrec
  · exact hrec.trans ((State.showAna_kept _).mono (by simp [transParts, logParts]) (by simp))

/-- The fields of the TICK block that the loss of the PTM source changes. -/
def ptmFlds : List Fld := [F.TICK_STS_PTM_OK, F.TICK_STS_HOLDOVER, F.TICK_ERR_PTM_LOSS] ++ logFlds

theorem State.ptmLost_kept (s : State) : Kept logParts ptmFlds s s.ptmLost := by
  have hok := (Kept.refl logParts ptmFlds s).setb (f := F.TICK_STS_PTM_OK) (b := false) (by simp [ptmFlds])
  unfold State.ptmLost
  dsimp only
  split
  · exact ((hok.setb (by simp [ptmFlds])).setb (by simp [ptmFlds])).recordMs (fun _ h => h)
      (fun g h => List.mem_map_of_mem (by simp [ptmFlds, h]))
  · exact hok

/-! ### The episode -/

/-- The state of a reset before anything of the compute die is cleared: the domains are in reset, and the mode is Kindling. -/
def State.enterMid (s : State) (r : Reach) : State :=
  let s := ((s.set F.KDL_REL_STS_DOMAIN (Nat.land (s.get F.KDL_REL_STS_DOMAIN) (keptDomains r))).set F.KDL_CLK_PEND_DOMAIN 0).set
    F.KDL_REL_FORCE_DOMAIN 0
  let s := if s.md == mKindling then s else s.transition mKindling 11
  if s.get (F.HST_LINK_STS_LTSSM 0) == 3 then s.ptmLost else s

theorem State.enterReset_computeDie (s : State) : s.enterReset .computeDie =
    ((((s.enterMid .computeDie).clearComputeDie true).clearRegs .computeDie).setb F.GLB_MODE_WAITING false).setb F.KDL_STS_DDR_KEPT true := rfl

/-- The fields and blocks that change before the compute die is cleared. -/
def enterFlds : List Fld := [F.KDL_REL_STS_DOMAIN, F.KDL_CLK_PEND_DOMAIN, F.KDL_REL_FORCE_DOMAIN, F.GLB_MODE_PREV, F.GLB_MODE_MODE] ++ transFlds ++ ptmFlds

theorem State.enterMid_spec (hq : s.qphase ≠ 2) (r : Reach) : Kept transParts enterFlds s (s.enterMid r) ∧
    (s.enterMid r).get F.GLB_MODE_MODE = 1 ∧
    (s.enterMid r).get F.KDL_REL_STS_DOMAIN = Nat.land (s.get F.KDL_REL_STS_DOMAIN) (keptDomains r) % 2 ^ 18 := by
  generalize hu : ((s.set F.KDL_REL_STS_DOMAIN (Nat.land (s.get F.KDL_REL_STS_DOMAIN) (keptDomains r))).set F.KDL_CLK_PEND_DOMAIN 0).set
    F.KDL_REL_FORCE_DOMAIN 0 = u
  have hsu : Kept transParts enterFlds s u := hu ▸ (((Kept.refl _ _ s).set (by simp [enterFlds])).set (by simp [enterFlds])).set (by simp [enterFlds])
  have huq : u.qphase ≠ 2 := by rwa [State.qphase, hsu.2.2 F.GLB_MODE_QPHASE (by decide)]
  have hrel : u.get F.KDL_REL_STS_DOMAIN = Nat.land (s.get F.KDL_REL_STS_DOMAIN) (keptDomains r) % 2 ^ 18 := by
    rw [← hu, State.get_set_other _ _ _ _ (by decide), State.get_set_other _ _ _ _ (by decide), State.get_set_same]
    rfl
  generalize hv : (if u.md == mKindling then u else u.transition mKindling 11) = v
  have huv : Kept transParts enterFlds u v ∧ v.get F.GLB_MODE_MODE = 1 ∧ v.get F.KDL_REL_STS_DOMAIN = u.get F.KDL_REL_STS_DOMAIN := by
    rw [← hv]
    split
    · next hm => exact ⟨Kept.refl _ _ u, by simpa [State.md, mKindling] using hm, rfl⟩
    · have htr := State.transition_kept huq mKindling 11
      have hset := ((Kept.refl transParts enterFlds u).set (f := F.GLB_MODE_PREV) (v := u.md) (by simp [enterFlds])).set (f := F.GLB_MODE_MODE)
        (v := mKindling) (by simp [enterFlds])
      refine ⟨hset.trans (htr.widen (fun _ h => h) (by simp +contextual [enterFlds])), ?_, ?_⟩
      · rw [htr.2.2 F.GLB_MODE_MODE (by decide), State.get_set_same]
        rfl
      · rw [htr.2.2 F.KDL_REL_STS_DOMAIN (by decide), State.get_set_other _ _ _ _ (by decide), State.get_set_other _ _ _ _ (by decide)]
  obtain ⟨hkeep, hmode, hdom⟩ := huv
  have hmid : s.enterMid r = if v.get (F.HST_LINK_STS_LTSSM 0) == 3 then v.ptmLost else v := by rw [← hv, ← hu]; rfl
  have hptm := v.ptmLost_kept
  rw [hmid]
  split
  · refine ⟨(hsu.trans hkeep).trans (hptm.widen (by simp +contextual [transParts]) (by simp +contextual [enterFlds])), ?_, ?_⟩
    · rw [hptm.2.2 F.GLB_MODE_MODE (by decide), hmode]
    · rw [hptm.2.2 F.KDL_REL_STS_DOMAIN (by decide), hdom, hrel]
  · exact ⟨hsu.trans hkeep, hmode, hdom.trans hrel⟩

/-- A source of compute-die reach that meets no episode, no Kindling run and no Quench begins an episode. -/
theorem beginsReset_takeSrc (hc : s.calm = true) (hl : s.loseClocks src = s) :
    BeginsReset src .computeDie s (s.takeSrc src .computeDie false) ∧
    ∀ f : Fld, keptField .computeDie f.key = true →
      f.key ∉ (F.GLB_MODE_WAITING :: F.KDL_STS_DDR_KEPT :: enterFlds).map Fld.key → (s.takeSrc src .computeDie false).get f = s.get f := by
  simp only [State.calm, Bool.and_eq_true, beq_iff_eq, Bool.not_eq_true', Option.isNone_iff_eq_none] at hc
  obtain ⟨⟨⟨hq, -⟩, he⟩, hbusy⟩ := hc
  generalize hu : ({ s with kdl := { s.kdl with
    asserted := { src, reach := .computeDie, untilAt := some (s.cyc + us 10) } :: s.kdl.asserted, took := 2 ^ srcBit src, episode := some .computeDie,
    episodeAt := s.cyc } } : State) = u
  have hubusy : u.getb F.KDL_STS_BUSY = false := by rw [← hu]; exact hbusy
  have htake : s.takeSrc src .computeDie false = u.enterReset .computeDie := by
    simp only [State.takeSrc, hl, he, Bool.false_eq_true, if_false, hu, hubusy]
  have huq : u.qphase ≠ 2 := by rw [← hu]; exact hq ▸ by decide
  obtain ⟨hkeep, hmode, hdom⟩ := State.enterMid_spec huq .computeDie
  rw [htake]
  generalize hend : u.enterReset .computeDie = e
  rw [State.enterReset_computeDie] at hend
  generalize u.enterMid .computeDie = m at hkeep hmode hdom hend
  have hget : ∀ f : Fld, keptField .computeDie f.key = true → f.key ≠ F.GLB_MODE_WAITING.key → f.key ≠ F.KDL_STS_DDR_KEPT.key →
      e.get f = m.get f := by
    intro f hf hwait hddrKept
    rw [← hend, State.setb_eq, State.setb_eq, State.get_set_other _ _ _ _ hddrKept, State.get_set_other _ _ _ _ hwait, State.get_clearRegs hf]
    rfl
  have hkdl : m.kdl = u.kdl := hkeep.2.1 .kdl (by decide)
  have hjnl : m.jnl = u.jnl := hkeep.2.1 .jnl (by decide)
  have hich : m.ich = u.ich := hkeep.2.1 .ich (by decide)
  have hddr : m.ddr = u.ddr := hkeep.2.1 .ddr (by decide)
  have hdrain : s.ich.wb = [] → drainWb m.ddr m.ich.wb = s.ddr := by
    intro hwb
    rw [hddr, hich, ← hu]
    simp [hwb, drainWb]
  have hdomain : e.get F.KDL_REL_STS_DOMAIN = Nat.land (s.get F.KDL_REL_STS_DOMAIN) (stillReleased .computeDie) := by
    have hlt : Nat.land (u.get F.KDL_REL_STS_DOMAIN) (keptDomains .computeDie) < 2 ^ 18 := Nat.lt_of_le_of_lt Nat.and_le_right (by decide)
    rw [hget _ (keptField_companion (by decide) (by decide)) (by decide) (by decide), hdom, Nat.mod_eq_of_lt hlt, ← hu]
    rfl
  have hmode' : e.get F.GLB_MODE_MODE = 1 := by
    rw [hget _ (keptField_companion (by decide) (by decide)) (by decide) (by decide), hmode]
  obtain ⟨x, hx⟩ := (m.clearComputeDie true).clearRegs_blocks .computeDie
  rw [hx] at hend
  refine ⟨⟨?_, ?_, ?_, hmode', hdomain, ?_⟩, fun f hf hn => ?_⟩
  · rw [← hend, State.setb_eq, State.setb_eq, State.set_kdl, State.set_kdl]
    exact (congrArg KdlSt.episode hkdl).trans (by rw [← hu])
  · rw [← hend, State.setb_eq, State.setb_eq, State.set_kdl, State.set_kdl]
    exact (congrArg KdlSt.took hkdl).trans (by rw [← hu])
  · rw [← hend, State.setb_eq, State.setb_eq, State.set_kdl, State.set_kdl]
    exact (congrArg KdlSt.episodeAt hkdl).trans (by rw [← hu])
  · have hrecs : m.jnl.recs = s.jnl.recs := by rw [hjnl, ← hu]
    rw [← hend]
    exact ⟨rfl, rfl, rfl, rfl, rfl, rfl, rfl, rfl, fun _ => hdrain, congrArg (List.filter JRec.committed) hrecs⟩
  · simp only [List.map_cons, List.mem_cons, not_or] at hn
    obtain ⟨hwait, hddrKept, hrest⟩ := hn
    rw [hget f hf hwait hddrKept, hkeep.2.2 f hrest, ← hu]
    rfl

end Sys2Proof.Machine
end

section
/-! Domains are released and units lost (R37, R494-R496, R579). -/

namespace Sys2Proof.Machine

variable {ps : List Part} {fs : List Fld} {s t : State} {d i n : Nat} {r : Req}

/-- The loss of the last DDR channel resets the compute die (R37). -/
theorem lastDdrLost_resets (hc : s.calm = true) (hb : bit (s.get F.GLB_FAULT_DDR) 0 = false) (h2 : s.get F.GLB_FAULT_DDR = 2) :
    Gives (.unitLostReset 28) s (fun t => t.get F.GLB_FAULT_DDR = 3 ∧ BeginsReset .unitLost .computeDie s t) := by
  have hbit : s.bitOf F.GLB_FAULT_DDR 0 ≠ true := by simp [State.bitOf, hb]
  have hkeep : Kept (.glbPend :: logParts) (F.GLB_FAULT_DDR :: logFlds) s (s.degrade F.GLB_FAULT_DDR 0 true) :=
    (Kept.refl _ _ s).degrade (fun _ h => h) (fun _ h => h)
  have hthree : (s.degrade F.GLB_FAULT_DDR 0 true).get F.GLB_FAULT_DDR = 3 := by
    rw [State.get_degrade hbit (by decide), h2]
    rfl
  have hunit : s.degradeUnit 28 true = s.degrade F.GLB_FAULT_DDR 0 true := by simp [State.degradeUnit]
  generalize s.degrade F.GLB_FAULT_DDR 0 true = u at hkeep hthree hunit
  have hkdl : u.kdl = s.kdl := hkeep.2.1 .kdl (by decide)
  have hqp : u.qphase = s.qphase := hkeep.2.2 F.GLB_MODE_QPHASE (by decide)
  have hqh : u.getb F.DMP_STS_QHOLD = s.getb F.DMP_STS_QHOLD := by rw [State.getb, hkeep.2.2 F.DMP_STS_QHOLD (by decide)]; rfl
  have hbu : u.getb F.KDL_STS_BUSY = s.getb F.KDL_STS_BUSY := by rw [State.getb, hkeep.2.2 F.KDL_STS_BUSY (by decide)]; rfl
  have hcalm : u.calm = true := by rw [← hc, State.calm, State.calm, hkdl, hqp, hqh, hbu]
  have hidle : s.qphase = 0 ∧ s.getb F.DMP_STS_QHOLD = false ∧ s.getb F.KDL_STS_BUSY = false := by
    simp only [State.calm, Bool.and_eq_true, beq_iff_eq, Bool.not_eq_true'] at hc
    exact ⟨hc.1.1.1, hc.1.1.2, hc.2⟩
  obtain ⟨hq, hhold, hbusy⟩ := hidle
  have hex : exec (.unitLostReset 28) s = .next (u.takeSrc .unitLost .computeDie false) := by
    simp [exec, execUnitLostReset, State.unitFails, hunit, State.kindLost, hthree, hbu, hbusy, State.assertSrc, hqp, hq, hqh, hhold]
  obtain ⟨⟨hep, htook, hat, hmode, hdom, hst, hpool, hcrl, hhrt, hwin, hag, hwb, hkeys, hddr, hrecs⟩, hflds⟩ :=
    beginsReset_takeSrc (src := .unitLost) hcalm rfl
  refine ⟨_, hex, ?_, hep, htook, ?_, hmode, ?_, hst, hpool, hcrl, hhrt, hwin, hag, hwb, hkeys, fun hr hw => ?_, ?_⟩
  · rw [hflds _ (keptField_companion (by decide) (by decide)) (by decide), hthree]
  · rw [hat, State.cyc, State.cyc, hkeep.2.1 .tick (by decide)]
  · rw [hdom, hkeep.2.2 F.KDL_REL_STS_DOMAIN (by decide)]
  · rw [hddr hr (by rw [hkeep.2.1 .ich (by decide), hw]), hkeep.2.1 .ddr (by decide)]
  · rw [hrecs, hkeep.2.1 .jnl (by decide)]

/-! ### The register of domains -/

theorem State.released_iff_bit : s.released d = bit (s.get F.KDL_REL_STS_DOMAIN) (d - 1) := rfl

theorem State.kdlStep_congr (hf : t.get F.KDL_STS_BUSY = s.get F.KDL_STS_BUSY) (hs : t.get F.KDL_STS_STEP = s.get F.KDL_STS_STEP)
    (hk : t.kdl.episode = s.kdl.episode) : t.kdlStep = s.kdlStep := by
  rw [State.kdlStep, State.kdlStep, State.getb, State.getb, hf, hs, hk]

/-- With no release pending nothing is resolved. -/
theorem State.resolveForced_of_none (h : s.get F.KDL_CLK_PEND_DOMAIN = 0) : s.resolveForced = s :=
  foldl_eq_self fun i _ => by simp [State.bitOf, bit, h]

theorem State.pumpRelease_of_stepDomains (h : releaseIn (stepDomains s.kdlStep) s = s) : s.pumpRelease = s := by
  unfold State.pumpRelease
  dsimp only
  split
  · rfl
  · exact h

/-- The part of Kindling a release changes: when a drive group was released. -/
def releaseParts (d : Nat) : List Part := if 5 ≤ d ∧ d ≤ 8 then [.kdl] else []
/-- The link of a host port whose domain is released begins to train. -/
def releaseFlds (d : Nat) : List Fld := F.KDL_REL_STS_DOMAIN :: if d = dHst 0 ∨ d = dHst 1 then [F.HST_LINK_STS_LTSSM (d - 3)] else []

/-- A domain without a host port and without drives is released. -/
theorem State.release_plain (h : d ≠ dHst 0 ∧ d ≠ dHst 1) (h' : ¬ (5 ≤ d ∧ d ≤ 8)) : s.release d = s.setBitOf F.KDL_REL_STS_DOMAIN (d - 1) true := by
  obtain ⟨h0, h1⟩ := h
  simp only [State.release, beq_false_of_ne h0, beq_false_of_ne h1, Bool.or_self, Bool.false_eq_true, if_false, Bool.and_eq_true, decide_eq_true_eq, h']

theorem State.release_host (h : d = dHst 0 ∨ d = dHst 1) : s.release d =
    (s.setBitOf F.KDL_REL_STS_DOMAIN (d - 1) true).set (F.HST_LINK_STS_LTSSM (d - 3)) ((s.setBitOf F.KDL_REL_STS_DOMAIN (d - 1) true).idleLtssm (d - 3)) := by
  rcases h with rfl | rfl <;> rfl

theorem State.release_drives (h : 5 ≤ d) (h' : d ≤ 8) : s.release d =
    (s.setBitOf F.KDL_REL_STS_DOMAIN (d - 1) true).updKdl (fun k => { k with drvRel := Tab.put k.drvRel (d - 5) s.cyc }) := by
  have h3 : d ≠ dHst 0 := by simp only [dHst]; omega
  have h4 : d ≠ dHst 1 := by simp only [dHst]; omega
  simp only [State.release, beq_false_of_ne h3, beq_false_of_ne h4, Bool.or_self, Bool.false_eq_true, if_false, Bool.and_eq_true, decide_eq_true_eq, h,
    h', and_self, if_true]
  rfl

theorem release_cases (d : Nat) : (d = dHst 0 ∨ d = dHst 1) ∨ (5 ≤ d ∧ d ≤ 8) ∨ ((d ≠ dHst 0 ∧ d ≠ dHst 1) ∧ ¬ (5 ≤ d ∧ d ≤ 8)) := by
  simp only [dHst]
  omega

theorem State.release_kept (s : State) (d : Nat) : Kept (releaseParts d) (releaseFlds d) s (s.release d) := by
  have hrel := (Kept.refl (releaseParts d) (releaseFlds d) s).setBitOf (f := F.KDL_REL_STS_DOMAIN) (i := d - 1) (b := true) (by simp [releaseFlds])
  rcases release_cases d with h | h | ⟨h, h'⟩
  · rw [State.release_host h]
    exact hrel.set (by simp [releaseFlds, h])
  · rw [State.release_drives h.1 h.2]
    apply hrel.blocks <;> simp [releaseParts, h]
  · rw [State.release_plain h h']
    exact hrel

theorem State.get_release : (s.release d).get F.KDL_REL_STS_DOMAIN = putBit (s.get F.KDL_REL_STS_DOMAIN) (d - 1) true % 2 ^ 18 := by
  rcases release_cases d with h | h | ⟨h, h'⟩
  · have hk : F.KDL_REL_STS_DOMAIN.key ≠ (F.HST_LINK_STS_LTSSM (d - 3)).key := by
      simp only [Fld.key, F.KDL_REL_STS_DOMAIN, F.HST_LINK_STS_LTSSM]; omega
    rw [State.release_host h, State.get_set_other _ _ _ _ hk, State.setBitOf_eq, State.get_set_same]
    rfl
  · rw [State.release_drives h.1 h.2]
    exact State.get_set_same _ _ _
  · rw [State.release_plain h h', State.setBitOf_eq, State.get_set_same]
    rfl

theorem State.release_soot (s : State) (d : Nat) : (s.release d).soot = s.soot := by
  rcases release_cases d with h | h | ⟨h, h'⟩
  · rw [State.release_host h]
    rfl
  · rw [State.release_drives h.1 h.2]
    rfl
  · rw [State.release_plain h h']
    rfl

theorem State.released_release (h : d ≤ 18) : (s.release d).released d = true := by
  rw [State.released_iff_bit, State.get_release, bit_putBit_true (by omega)]

/-! ### A clock becomes good (R494) -/

theorem exec_clockGood (h1 : 1 ≤ d) (h2 : d ≤ 18) :
    exec (.clockGood d) s = .next (s.setBitOf F.KDL_CLK_GOOD_DOMAIN (d - 1) true).pumpRelease.resolveForced := by
  simp [exec, execClockGood, show d ≠ 0 by omega, show ¬ 18 < d by omega]

theorem clockGood_shown (h1 : 1 ≤ d) (h2 : d ≤ 18) (hp : s.get F.KDL_CLK_PEND_DOMAIN = 0) (hk : s.kdlStep = 0) :
    Does (.clockGood d) s [] [F.KDL_CLK_GOOD_DOMAIN] (fun t => t.bitOf F.KDL_CLK_GOOD_DOMAIN (d - 1) = true) := by
  generalize hu : s.setBitOf F.KDL_CLK_GOOD_DOMAIN (d - 1) true = u
  have hkeep : Kept [] [F.KDL_CLK_GOOD_DOMAIN] s u := hu ▸ (Kept.refl _ _ s).setBitOf (by simp)
  have hstep : u.kdlStep = 0 := by
    rw [← hk]
    exact State.kdlStep_congr (hkeep.2.2 _ (by decide)) (hkeep.2.2 _ (by decide)) (congrArg KdlSt.episode (hkeep.2.1 .kdl (by decide)))
  have hpend : u.get F.KDL_CLK_PEND_DOMAIN = 0 := (hkeep.2.2 _ (by decide)).trans hp
  have hpump : u.pumpRelease = u := State.pumpRelease_of_stepDomains (by rw [hstep]; rfl)
  refine ⟨u, ?_, ?_, hkeep⟩
  · rw [exec_clockGood h1 h2, hu, hpump, State.resolveForced_of_none hpend]
  · rw [← hu]
    exact State.bit_get_setBitOf_true (by simp only [F.KDL_CLK_GOOD_DOMAIN]; omega)

/-- The Stoves' clock becomes good while step 8 awaits it. -/
theorem clockGood_releasesStoves (hp : s.get F.KDL_CLK_PEND_DOMAIN = 0) (hk : s.kdlStep = 8) (hs : s.skips 8 = false)
    (hr : s.released dStv = false) (hl : s.clockLost dStv = false) :
    Does (.clockGood dStv) s [] [F.KDL_CLK_GOOD_DOMAIN, F.KDL_REL_STS_DOMAIN, F.KDL_CLK_PEND_DOMAIN] (fun t => t.released dStv = true ∧
      ∀ e, 1 ≤ e → e ≤ 18 → e ≠ dStv → t.released e = s.released e) := by
  generalize hu : s.setBitOf F.KDL_CLK_GOOD_DOMAIN (dStv - 1) true = u
  have hkeep : Kept [] [F.KDL_CLK_GOOD_DOMAIN] s u := hu ▸ (Kept.refl _ _ s).setBitOf (by simp)
  have hkdl : u.kdl = s.kdl := hkeep.2.1 .kdl (by decide)
  have hstep : u.kdlStep = 8 := by
    rw [← hk]
    exact State.kdlStep_congr (hkeep.2.2 _ (by decide)) (hkeep.2.2 _ (by decide)) (congrArg KdlSt.episode hkdl)
  have hskip : u.skips 8 = false := by
    have hjnl : u.jnl = s.jnl := hkeep.2.1 .jnl (by decide)
    rw [← hs]
    simp only [State.skips, State.missing, hkdl, hjnl]
  have hpend : u.get F.KDL_CLK_PEND_DOMAIN = 0 := (hkeep.2.2 _ (by decide)).trans hp
  have hrel : u.get F.KDL_REL_STS_DOMAIN = s.get F.KDL_REL_STS_DOMAIN := hkeep.2.2 _ (by decide)
  have hr' : u.released dStv = false := by rw [State.released_iff_bit, hrel]; exact hr
  have hl' : u.clockLost dStv = false := by rw [State.clockLost, hkdl]; exact hl
  have hg : u.clockGood dStv = true := by rw [← hu]; exact State.bit_get_setBitOf_true (by decide)
  have hpump : u.pumpRelease = (u.release dStv).setBitOf F.KDL_CLK_PEND_DOMAIN (dStv - 1) false := by
    simp [State.pumpRelease, hstep, hskip, stepDomains, releaseIn, hr', hl', hg]
  have hplain : u.release dStv = u.setBitOf F.KDL_REL_STS_DOMAIN (dStv - 1) true := State.release_plain (by decide) (by decide)
  generalize hv : (u.release dStv).setBitOf F.KDL_CLK_PEND_DOMAIN (dStv - 1) false = v at hpump
  have hvpend : v.get F.KDL_CLK_PEND_DOMAIN = 0 := by
    rw [← hv, hplain, State.setBitOf_eq, State.get_set_same, State.get_setBitOf_other (by decide), hpend]
    rfl
  have hvrel : v.get F.KDL_REL_STS_DOMAIN = putBit (s.get F.KDL_REL_STS_DOMAIN) (dStv - 1) true % 2 ^ 18 := by
    rw [← hv, State.get_setBitOf_other (by decide), State.get_release, hrel]
  refine ⟨v, ?_, ⟨?_, fun e h1 h18 hne => ?_⟩, ?_⟩
  · rw [exec_clockGood (by decide) (by decide), hu, hpump, State.resolveForced_of_none hvpend]
  · rw [State.released_iff_bit, hvrel, bit_putBit_true (by decide)]
  · rw [State.released_iff_bit, hvrel, bit_putBit_true_other (by simp only [dStv] at hne ⊢; omega) (by omega)]
    rfl
  · rw [← hv, hplain]
    exact ((hkeep.mono (by simp) (by simp)).setBitOf (by simp)).setBitOf (by simp)

/-! ### A clock is lost (R495) -/

/-- The state once a released domain's clock has fallen and the event is recorded. -/
def State.clockFell (s : State) (d : Nat) : State :=
  ((s.setBitOf F.KDL_CLK_GOOD_DOMAIN (d - 1) false).setb F.KDL_ERR_CLK_LOSS true).record 0x0108 (w1 d)

theorem State.clockFell_kept (s : State) (d : Nat) :
    Kept logParts ([F.KDL_CLK_GOOD_DOMAIN, F.KDL_ERR_CLK_LOSS] ++ logFlds) s (s.clockFell d) :=
  (((Kept.refl _ _ s).setBitOf (by simp)).setb (by simp)).logged (by simp) (by simp +contextual)

theorem State.clockFell_err : (s.clockFell d).getb F.KDL_ERR_CLK_LOSS = true := by
  rw [State.clockFell, State.getb, State.get_record (by decide), State.setb_eq, State.get_set_same]
  rfl

theorem exec_clockGoodLoss (hg : s.bitOf F.KDL_CLK_GOOD_DOMAIN (d - 1) = true) (h1 : 1 ≤ d) (h2 : d ≤ 18) (hr : s.released d = true) :
    exec (.clockGoodLoss d) s =
      .next ((domainUnits d).foldl State.unitFails (((s.clockFell d).domainDies d).setBitOf F.KDL_REL_STS_DOMAIN (d - 1) false)) := by
  have hg' : s.clockGood d = true := hg
  have hr' : (s.setBitOf F.KDL_CLK_GOOD_DOMAIN (d - 1) false).released d = true := by
    rw [State.released_iff_bit, State.get_setBitOf_other (by decide)]
    exact hr
  simp [exec, execClockGoodLoss, show d ≠ 0 by omega, show ¬ 18 < d by omega, hg', hr', State.clockFell]

theorem clockGoodLoss_unreleased (hg : s.bitOf F.KDL_CLK_GOOD_DOMAIN (d - 1) = true) (h1 : 1 ≤ d) (h2 : d ≤ 18) (hr : s.released d = false) :
    Does (.clockGoodLoss d) s [] [F.KDL_CLK_GOOD_DOMAIN] (fun t => t.bitOf F.KDL_CLK_GOOD_DOMAIN (d - 1) = false) := by
  have hg' : s.clockGood d = true := hg
  have hr' : (s.setBitOf F.KDL_CLK_GOOD_DOMAIN (d - 1) false).released d = false := by
    rw [State.released_iff_bit, State.get_setBitOf_other (by decide)]
    exact hr
  refine ⟨s.setBitOf F.KDL_CLK_GOOD_DOMAIN (d - 1) false, ?_, State.bit_get_setBitOf_false, (Kept.refl _ _ s).setBitOf (by simp)⟩
  simp [exec, execClockGoodLoss, show d ≠ 0 by omega, show ¬ 18 < d by omega, hg', hr']

/-- A domain whose loss nothing else follows. -/
theorem clockGoodLoss_unitless (hg : s.bitOf F.KDL_CLK_GOOD_DOMAIN (d - 1) = true) (hr : s.released d = true) (hd : d = dDbg ∨ d = dSbd) :
    Does (.clockGoodLoss d) s logParts ([F.KDL_CLK_GOOD_DOMAIN, F.KDL_REL_STS_DOMAIN, F.KDL_ERR_CLK_LOSS] ++ logFlds) (fun t =>
      t.released d = false ∧ t.getb F.KDL_ERR_CLK_LOSS = true ∧ Staged 0x0108 [d] s t) := by
  have hbound : 1 ≤ d ∧ d ≤ 18 := by rcases hd with rfl | rfl <;> decide
  have hunits : domainUnits d = [] := by rcases hd with rfl | rfl <;> rfl
  have hdies : (s.clockFell d).domainDies d = s.clockFell d := by rcases hd with rfl | rfl <;> rfl
  have hw : w1 d = [d] := by simp [w1]; omega
  refine ⟨(s.clockFell d).setBitOf F.KDL_REL_STS_DOMAIN (d - 1) false, ?_, ⟨State.bit_get_setBitOf_false, ?_, ?_⟩, ?_⟩
  · rw [exec_clockGoodLoss hg hbound.1 hbound.2 hr, hunits, hdies]
    rfl
  · rw [State.getb, State.get_setBitOf_other (by decide)]
    exact State.clockFell_err
  · have hst : Staged 0x0108 (w1 d) s (s.clockFell d) := staged_record rfl rfl (by simp [w1])
    exact hw ▸ hst
  · exact ((s.clockFell_kept d).widen (by simp) (by simp +contextual [or_imp])).setBitOf (by simp)

theorem clockGoodLoss_ddr (hg : s.bitOf F.KDL_CLK_GOOD_DOMAIN (dDdrA - 1) = true) (hr : s.released dDdrA = true) (h0 : s.get F.GLB_FAULT_DDR = 0) :
    Gives (.clockGoodLoss dDdrA) s (fun t => t.released dDdrA = false ∧ t.getb F.KDL_ERR_CLK_LOSS = true ∧ t.get F.GLB_FAULT_DDR = 1) := by
  generalize hu : (s.clockFell dDdrA).setBitOf F.KDL_REL_STS_DOMAIN (dDdrA - 1) false = u
  have hkeep : Kept logParts ([F.KDL_CLK_GOOD_DOMAIN, F.KDL_REL_STS_DOMAIN, F.KDL_ERR_CLK_LOSS] ++ logFlds) s u :=
    hu ▸ ((s.clockFell_kept dDdrA).widen (by simp) (by simp +contextual [or_imp])).setBitOf (by simp)
  have herr : u.getb F.KDL_ERR_CLK_LOSS = true := by
    rw [← hu, State.getb, State.get_setBitOf_other (by decide)]
    exact State.clockFell_err
  have hrel : u.released dDdrA = false := hu ▸ State.bit_get_setBitOf_false
  have hfault : u.get F.GLB_FAULT_DDR = 0 := (hkeep.2.2 _ (by decide)).trans h0
  have hbit : u.bitOf F.GLB_FAULT_DDR 0 ≠ true := by simp [State.bitOf, hfault, bit]
  have hone : (u.degrade F.GLB_FAULT_DDR 0 true).get F.GLB_FAULT_DDR = 1 := by
    rw [State.get_degrade hbit (by decide), hfault]
    rfl
  have hdeg : Kept (.glbPend :: logParts) (F.GLB_FAULT_DDR :: logFlds) u (u.degrade F.GLB_FAULT_DDR 0 true) :=
    (Kept.refl _ _ u).degrade (fun _ h => h) (fun _ h => h)
  have hfails : u.unitFails 28 = u.degrade F.GLB_FAULT_DDR 0 true := by
    simp [State.unitFails, State.degradeUnit, State.kindLost, hone]
  refine ⟨u.degrade F.GLB_FAULT_DDR 0 true, ?_, ?_, ?_, hone⟩
  · rw [exec_clockGoodLoss hg (by decide) (by decide) hr, ← hfails, ← hu]
    rfl
  · rw [State.released_iff_bit, hdeg.2.2 _ (by decide)]
    exact hrel
  · rw [State.getb, hdeg.2.2 _ (by decide)]
    exact herr

/-! ### A clock is given up (R579) -/

theorem clockGoodTimeout_givesUp (ha : s.awaited = some 2) (hk : s.kdlStep = 1) (ht : s.kdl.reachedAt + ms 100 ≤ s.cyc) :
    Does (.clockGoodTimeout 2) s (.kdl :: logParts) logFlds (fun t =>
      t.kdl = { s.kdl with missing := s.kdl.missing ++ [66], reachedAt := s.cyc } ∧ Staged 0x0106 [66] s t) := by
  generalize hu : s.updKdl (fun k => { k with missing := k.missing ++ [66], reachedAt := s.cyc }) = u
  have hfirst : s.released 1 = true ∨ s.clockLost 1 = true := by
    rw [State.awaited, hk] at ha
    by_contra hno
    simp only [not_or, Bool.not_eq_true] at hno
    simp [stepDomains, hno] at ha
  have hrec := u.record_kept 0x0106 [66]
  have hukdl : u.kdl = { s.kdl with missing := s.kdl.missing ++ [66], reachedAt := s.cyc } := by rw [← hu]; rfl
  have hkdl : (u.record 0x0106 [66]).kdl = u.kdl := hrec.2.1 .kdl (by decide)
  have hget : ∀ f : Fld, f.key ∉ logFlds.map Fld.key → (u.record 0x0106 [66]).get f = s.get f := fun f hf => (hrec.2.2 f hf).trans (by rw [← hu]; rfl)
  have hstep : (u.record 0x0106 [66]).kdlStep = 1 := by
    rw [← hk]
    exact State.kdlStep_congr (hget _ (by decide)) (hget _ (by decide)) (by rw [hkdl, hukdl])
  have hlost1 : (u.record 0x0106 [66]).released 1 = true ∨ (u.record 0x0106 [66]).clockLost 1 = true := by
    rw [State.released_iff_bit, hget _ (by decide), State.clockLost, hkdl, hukdl]
    refine hfirst.imp_right fun h => ?_
    simp only [State.clockLost, List.contains_iff_mem] at h
    simp [h]
  have hlost2 : (u.record 0x0106 [66]).clockLost 2 = true := by
    rw [State.clockLost, hkdl, hukdl]
    simp
  have hpump : (u.record 0x0106 [66]).pumpRelease = u.record 0x0106 [66] := by
    refine State.pumpRelease_of_stepDomains ?_
    rw [hstep]
    rcases hlost1 with h | h <;> simp [stepDomains, releaseIn, h, hlost2]
  have hsu : Kept (.kdl :: logParts) logFlds s u := by
    rw [← hu]
    apply (Kept.refl (.kdl :: logParts) logFlds s).blocks <;> simp
  refine ⟨u.record 0x0106 [66], ?_, ⟨hkdl.trans hukdl, staged_record (by rw [← hu]; rfl) (by rw [← hu]; rfl) (by simp)⟩,
    hsu.logged (by simp +contextual) (fun _ h => h)⟩
  have hskip : s.skips 1 = false := rfl
  have hex : exec (.clockGoodTimeout 2) s = .next (u.record 0x0106 [66]).pumpRelease := by
    simp [exec, execClockGoodTimeout, ha, hk, hskip, Nat.not_lt.mpr ht, ← hu, domainUnits, dEmb, dHst, dCrl, dDdrA, dDdrB, dHrt, dStv, dNoc, dCch, w1]
  rw [hex, hpump]

theorem clockGoodTimeout_early (ht : s.cyc < s.kdl.reachedAt + ms 100) : exec (.clockGoodTimeout d) s = .next s := by
  simp [exec, execClockGoodTimeout, ht]

end Sys2Proof.Machine
end

section
/-! Forced releases (R496). -/

namespace Sys2Proof.Machine

variable {ps : List Part} {fs : List Fld} {s t : State} {d i n : Nat} {r : Req}

/-- A fold over a range that acts at one index alone. -/
theorem foldl_range_single {σ : Type} {f : σ → Nat → σ} {x y : σ} (hi : i < n) (hx : ∀ j, j ≠ i → f x j = x) (hxy : f x i = y)
    (hy : ∀ j, j ≠ i → f y j = y) : (List.range n).foldl f x = y := by
  obtain ⟨l₁, l₂, hl⟩ := List.append_of_mem (List.mem_range.mpr hi)
  have hnd : (l₁ ++ i :: l₂).Nodup := hl ▸ List.nodup_range
  rw [List.nodup_append, List.nodup_cons] at hnd
  obtain ⟨-, ⟨h2, -⟩, h1⟩ := hnd
  rw [hl, List.foldl_append, List.foldl_cons, foldl_eq_self fun j hj => hx j (h1 j hj i List.mem_cons_self), hxy,
    foldl_eq_self fun j hj => hy j fun he => h2 (he ▸ hj)]

theorem filter_range_single {p : Nat → Bool} (hi : i < n) (hp : p i = true) (h : ∀ j, j ≠ i → p j = false) : (List.range n).filter p = [i] := by
  obtain ⟨l₁, l₂, hl⟩ := List.append_of_mem (List.mem_range.mpr hi)
  have hnd : (l₁ ++ i :: l₂).Nodup := hl ▸ List.nodup_range
  rw [List.nodup_append, List.nodup_cons] at hnd
  obtain ⟨-, ⟨h2, -⟩, h1⟩ := hnd
  have hl1 : l₁.filter p = [] := List.filter_eq_nil_iff.mpr fun j hj => by simp [h j (h1 j hj i List.mem_cons_self)]
  have hl2 : l₂.filter p = [] := List.filter_eq_nil_iff.mpr fun j hj => by simp [h j fun he => h2 (he ▸ hj)]
  rw [hl, List.filter_append, List.filter_cons_of_pos hp, hl1, hl2, List.nil_append]

theorem putBit_zero_true (h : i < n) : putBit 0 i true % 2 ^ n = 2 ^ i := by
  simp [putBit, setBit, Nat.mod_eq_of_lt (Nat.pow_lt_pow_right (by decide : 1 < 2) h)]

theorem putBit_two_pow_false : putBit (2 ^ i) i false = 0 := by simp [putBit, clrBit, bit]

theorem bit_two_pow : bit (2 ^ i) n = decide (i = n) := by simp [bit, Nat.testBit_two_pow]

/-- What a write to KDL_REL_FORCE that names one domain marks: forced, and pending. -/
def State.markForced (s : State) (d : Nat) : State :=
  (s.setBitOf F.KDL_REL_FORCE_DOMAIN (d - 1) true).setBitOf F.KDL_CLK_PEND_DOMAIN (d - 1) true

theorem State.markForced_kept (s : State) (d : Nat) : Kept [] [F.KDL_REL_FORCE_DOMAIN, F.KDL_CLK_PEND_DOMAIN] s (s.markForced d) :=
  ((Kept.refl _ _ s).setBitOf (by simp)).setBitOf (by simp)

theorem State.markForced_pend (hp : s.get F.KDL_CLK_PEND_DOMAIN = 0) (h : d - 1 < 18) : (s.markForced d).get F.KDL_CLK_PEND_DOMAIN = 2 ^ (d - 1) := by
  rw [State.markForced, State.setBitOf_eq, State.get_set_same, State.get_setBitOf_other (by decide), hp]
  exact putBit_zero_true h

theorem State.markForced_force (h : d - 1 < 18) : bit ((s.markForced d).get F.KDL_REL_FORCE_DOMAIN) (d - 1) = true := by
  rw [State.markForced, State.get_setBitOf_other (by decide)]
  exact State.bit_get_setBitOf_true h

theorem exec_forceRelease (h : s.writable r R.KDL_REL_FORCE = true) (hm : s.md = mKindling ∨ s.md = mSweep) (h1 : 1 ≤ d) (h2 : d ≤ 18)
    (hr : s.released d = false) : exec (.forceRelease r (2 ^ (d - 1))) s = .next (s.markForced d).resolveForced := by
  have hnew : (List.range 18).filter (fun j => bit (2 ^ (d - 1)) j && !s.released (j + 1)) = [d - 1] := by
    refine filter_range_single (by omega) ?_ fun j hj => ?_
    · simp [bit_two_pow, show d - 1 + 1 = d by omega, hr]
    · simp [bit_two_pow, Ne.symm hj]
  have hmode : (s.md != mKindling && s.md != mSweep) = false := by rcases hm with hm | hm <;> simp [hm]
  have hw : s.writeRelForce (2 ^ (d - 1)) = (s.markForced d).resolveForced := by
    simp only [State.writeRelForce, hmode, Bool.false_eq_true, if_false, hnew]
    rfl
  simp [exec, execForceRelease, State.withWrite_writable h, hw]

/-- The link fields of the host ports lie above the registers of the companion die. -/
theorem key_ne_ltssm {f : Fld} {p : Nat} (h : f.addr < 0x4040000) (hl : f.lo < 64) : f.key ≠ (F.HST_LINK_STS_LTSSM p).key := by
  simp only [Fld.key, F.HST_LINK_STS_LTSSM]
  omega

theorem not_mem_releaseFlds {f : Fld} (h : f.addr < 0x4040000) (hl : f.lo < 64) (hr : f.key ∉ (F.KDL_REL_STS_DOMAIN :: logFlds).map Fld.key) :
    f.key ∉ (releaseFlds d ++ logFlds).map Fld.key := by
  unfold releaseFlds
  split
  · simpa [key_ne_ltssm h hl] using hr
  · exact hr

/-- The state once a domain has been released by force, before its pending bit falls. -/
def State.forcedOut (s : State) (d : Nat) : State := (s.release d).record 0x0107 (w1 d)

theorem State.forcedOut_kept (s : State) (d : Nat) : Kept (releaseParts d ++ logParts) (releaseFlds d ++ logFlds) s (s.forcedOut d) :=
  ((s.release_kept d).widen (by simp +contextual) (by simp +contextual)).logged (by simp +contextual) (by simp +contextual)

theorem State.released_forcedOut (h : d ≤ 18) : (s.forcedOut d).released d = true := by
  rw [State.released_iff_bit, State.forcedOut, State.get_record (by decide)]
  exact State.released_release h

theorem State.forcedOut_kdl (h5 : 5 ≤ d) (h8 : d ≤ 8) : (s.forcedOut d).kdl = { s.kdl with drvRel := Tab.put s.kdl.drvRel (d - 5) s.cyc } := by
  rw [State.forcedOut, (State.record_kept _ _ _).2.1 .kdl (by decide), State.release_drives h5 h8]
  rfl

/-- One pending release is resolved: it happens when the clock is good and no source covers the domain. -/
theorem State.resolveForced_single (hp : s.get F.KDL_CLK_PEND_DOMAIN = 2 ^ (d - 1)) (h1 : 1 ≤ d) (h2 : d ≤ 18) (hr : s.released d = false)
    (hc : s.clockGood d = true) (he : s.kdl.episode = none) :
    s.resolveForced = (s.forcedOut d).setBitOf F.KDL_CLK_PEND_DOMAIN (d - 1) false := by
  have hafter : ((s.forcedOut d).setBitOf F.KDL_CLK_PEND_DOMAIN (d - 1) false).get F.KDL_CLK_PEND_DOMAIN = 0 := by
    rw [State.setBitOf_eq, State.get_set_same, (s.forcedOut_kept d).2.2 _ (not_mem_releaseFlds (by decide) (by decide) (by decide)), hp,
      putBit_two_pow_false]
    rfl
  refine foldl_range_single (i := d - 1) (by omega) (fun j hj => ?_) ?_ fun j hj => ?_
  · simp [State.bitOf, hp, bit_two_pow, Ne.symm hj]
  · simp [State.bitOf, hp, bit_two_pow, show d - 1 + 1 = d by omega, hc, State.covered, he, hr, State.forcedOut]
  · simp [State.bitOf, hafter, bit]

/-- Without a good clock the release stays pending. -/
theorem State.resolveForced_pending (hp : s.get F.KDL_CLK_PEND_DOMAIN = 2 ^ (d - 1)) (h1 : 1 ≤ d) (hc : s.clockGood d = false) :
    s.resolveForced = s := by
  refine foldl_eq_self fun j _ => ?_
  by_cases hj : d - 1 = j
  · simp [← hj, show d - 1 + 1 = d by omega, hc]
  · simp [State.bitOf, hp, bit_two_pow, hj]

/-- The training state a host port's link takes when its domain is released follows from what the release leaves. -/
theorem State.idleLtssm_congr {p : Nat} (hr : (t.port p).rst = (s.port p).rst) (hd : t.released (dHst p) = s.released (dHst p))
    (he : t.get (F.HST_CTL_PORT_EN p) = s.get (F.HST_CTL_PORT_EN p)) (hh : t.get F.KDL_STS_HOLD = s.get F.KDL_STS_HOLD)
    (hk : t.kdl = s.kdl) : t.idleLtssm p = s.idleLtssm p := by
  rw [State.idleLtssm, State.idleLtssm, hr, hd, State.getb, State.getb, he, hh, hk]
  rfl

/-- A host port's link starts to train as its domain is released. -/
theorem State.forcedOut_ltssm (h : d = dHst 0 ∨ d = dHst 1) :
    (s.forcedOut d).get (F.HST_LINK_STS_LTSSM (d - 3)) = (s.forcedOut d).idleLtssm (d - 3) := by
  generalize hu : s.setBitOf F.KDL_REL_STS_DOMAIN (d - 1) true = u
  have hrel : s.release d = u.set (F.HST_LINK_STS_LTSSM (d - 3)) (u.idleLtssm (d - 3)) := by rw [State.release_host h, hu]
  have hrec := (s.release d).record_kept 0x0107 (w1 d)
  have hlt : (F.HST_LINK_STS_LTSSM (d - 3)).key ∉ logFlds.map Fld.key := by
    rcases h with rfl | rfl <;> decide
  have hidle : (s.forcedOut d).idleLtssm (d - 3) = u.idleLtssm (d - 3) := by
    have hget : ∀ f : Fld, f.key ∉ logFlds.map Fld.key → f.key ≠ (F.HST_LINK_STS_LTSSM (d - 3)).key → (s.forcedOut d).get f = u.get f := by
      intro f hf hne
      rw [State.forcedOut, hrec.2.2 f hf, hrel, State.get_set_other _ _ _ _ hne]
    refine State.idleLtssm_congr ?_ ?_ (hget _ ?_ ?_) (hget _ (by decide) (key_ne_ltssm (by decide) (by decide))) ?_
    · refine (congrArg HostPort.rst (hrec.2.1 .ports (by decide) (d - 3))).trans ?_
      rw [hrel]
      rfl
    · rw [State.released_iff_bit, hget _ (by decide) (key_ne_ltssm (by decide) (by decide))]
      rfl
    · rcases h with rfl | rfl <;> decide
    · rcases h with rfl | rfl <;> decide
    · rw [State.forcedOut, hrec.2.1 .kdl (by decide), hrel]
      rfl
  have hsmall : u.idleLtssm (d - 3) < 2 ^ 4 := by
    unfold State.idleLtssm
    split <;> decide
  rw [hidle, State.forcedOut, hrec.2.2 _ hlt, hrel, State.get_set_same]
  exact Nat.mod_eq_of_lt hsmall

theorem forceRelease_happens (h : s.writable r R.KDL_REL_FORCE = true) (h1 : 1 ≤ d) (h2 : d ≤ 18) (hr : s.released d = false)
    (hp : s.get F.KDL_CLK_PEND_DOMAIN = 0) (hm : s.md = mKindling ∨ s.md = mSweep) (hc : s.bitOf F.KDL_CLK_GOOD_DOMAIN (d - 1) = true)
    (he : s.kdl.episode = none) :
    Does (.forceRelease r (2 ^ (d - 1))) s (if 5 ≤ d ∧ d ≤ 8 then .kdl :: logParts else logParts) ([F.KDL_REL_STS_DOMAIN, F.KDL_REL_FORCE_DOMAIN,
        F.KDL_CLK_PEND_DOMAIN] ++ (if d = dHst 0 ∨ d = dHst 1 then [F.HST_LINK_STS_LTSSM (d - 3)] else []) ++ logFlds) (fun t =>
      (d = dHst 0 ∨ d = dHst 1 → t.get (F.HST_LINK_STS_LTSSM (d - 3)) = t.idleLtssm (d - 3)) ∧
      (5 ≤ d → d ≤ 8 → t.kdl = { s.kdl with drvRel := Tab.put s.kdl.drvRel (d - 5) s.cyc }) ∧
      t.released d = true ∧ t.bitOf F.KDL_REL_FORCE_DOMAIN (d - 1) = true ∧ t.get F.KDL_CLK_PEND_DOMAIN = 0 ∧ Staged 0x0107 [d] s t) := by
  have hmark := s.markForced_kept d
  have hpend := State.markForced_pend hp (show d - 1 < 18 by omega)
  have hforce := State.markForced_force (s := s) (show d - 1 < 18 by omega)
  have hru : (s.markForced d).released d = false := by rw [State.released_iff_bit, hmark.2.2 _ (by decide)]; exact hr
  have hcu : (s.markForced d).clockGood d = true := by rw [State.clockGood, State.bitOf, hmark.2.2 _ (by decide)]; exact hc
  have hout := (s.markForced d).forcedOut_kept d
  have hres : (s.markForced d).resolveForced = ((s.markForced d).forcedOut d).setBitOf F.KDL_CLK_PEND_DOMAIN (d - 1) false :=
    State.resolveForced_single hpend h1 h2 hru hcu he
  have hother : ∀ f : Fld, f.key ≠ F.KDL_CLK_PEND_DOMAIN.key →
      (((s.markForced d).forcedOut d).setBitOf F.KDL_CLK_PEND_DOMAIN (d - 1) false).get f = ((s.markForced d).forcedOut d).get f :=
    fun f hf => State.get_setBitOf_other hf
  have hw : w1 d = [d] := by simp [w1]; omega
  refine ⟨_, exec_forceRelease h hm h1 h2 hr, hres ▸ ⟨fun hd => ?_, fun h5 h8 => State.forcedOut_kdl h5 h8, ?_, ?_, ?_, ?_⟩, ?_⟩
  · rw [hother _ (key_ne_ltssm (by decide) (by decide)).symm, State.forcedOut_ltssm hd]
    refine (State.idleLtssm_congr (s := (s.markForced d).forcedOut d)
      (t := ((s.markForced d).forcedOut d).setBitOf F.KDL_CLK_PEND_DOMAIN (d - 1) false) rfl ?_ (hother _ ?_) (hother F.KDL_STS_HOLD (by decide)) rfl).symm
    · rw [State.released_iff_bit, hother _ (by decide)]
      rfl
    · rcases hd with rfl | rfl <;> decide
  · rw [State.released_iff_bit, hother _ (by decide)]
    exact State.released_forcedOut h2
  · rw [State.bitOf, hother _ (by decide), hout.2.2 _ (not_mem_releaseFlds (by decide) (by decide) (by decide))]
    exact hforce
  · rw [State.setBitOf_eq, State.get_set_same, hout.2.2 _ (not_mem_releaseFlds (by decide) (by decide) (by decide)), hpend, putBit_two_pow_false]
    rfl
  · have hstaged : Staged 0x0107 (w1 d) s ((s.markForced d).forcedOut d) := by
      have hrel := (s.markForced d).release_kept d
      refine staged_record ((s.markForced d).release_soot d) (hrel.2.1 .tick ?_) (by simp [w1])
      unfold releaseParts
      split <;> decide
    exact hw ▸ hstaged
  · rw [hres]
    have hall := ((hmark.widen (by simp) (by simp)).trans (hout.widen (qs := releaseParts d ++ logParts)
      (gs := releaseFlds d ++ logFlds ++ [F.KDL_REL_FORCE_DOMAIN, F.KDL_CLK_PEND_DOMAIN]) (fun _ h => h)
      (fun _ h => List.mem_append_left _ h))).setBitOf
        (f := F.KDL_CLK_PEND_DOMAIN) (i := d - 1) (b := false) (by simp)
    refine hall.widen ?_ ?_
    · unfold releaseParts
      split <;> simp
    · unfold releaseFlds
      split <;> simp +contextual [or_imp]

theorem forceRelease_pends (h : s.writable r R.KDL_REL_FORCE = true) (h1 : 1 ≤ d) (h2 : d ≤ 18) (hr : s.released d = false)
    (hp : s.get F.KDL_CLK_PEND_DOMAIN = 0) (hm : s.md = mKindling ∨ s.md = mSweep) (hc : s.bitOf F.KDL_CLK_GOOD_DOMAIN (d - 1) = false) :
    Does (.forceRelease r (2 ^ (d - 1))) s [] [F.KDL_REL_FORCE_DOMAIN, F.KDL_CLK_PEND_DOMAIN] (fun t => t.released d = false ∧
      t.bitOf F.KDL_REL_FORCE_DOMAIN (d - 1) = true ∧ t.bitOf F.KDL_CLK_PEND_DOMAIN (d - 1) = true) := by
  have hmark := s.markForced_kept d
  have hpend := State.markForced_pend hp (show d - 1 < 18 by omega)
  have hcu : (s.markForced d).clockGood d = false := by rw [State.clockGood, State.bitOf, hmark.2.2 _ (by decide)]; exact hc
  refine ⟨s.markForced d, ?_, ⟨?_, State.markForced_force (by omega), ?_⟩, hmark⟩
  · rw [exec_forceRelease h hm h1 h2 hr, State.resolveForced_pending hpend h1 hcu]
  · rw [State.released_iff_bit, hmark.2.2 _ (by decide)]
    exact hr
  · rw [State.bitOf, hpend, bit_two_pow]
    simp

/-- In Duplex a write to KDL_REL_FORCE does nothing. -/
theorem forceRelease_ignored {v : Nat} (h : s.writable r R.KDL_REL_FORCE = true) (hm : s.md = mDuplex) : exec (.forceRelease r v) s = .next s := by
  have hw : s.writeRelForce v = s := by simp [State.writeRelForce, hm, mDuplex, mKindling, mSweep]
  simp [exec, execForceRelease, State.withWrite_writable h, hw]

/-- Settles O51: units, then clocks and forced releases. -/
theorem domainsAndUnits : Obligations.DomainsAndUnits := by
  unfold Obligations.DomainsAndUnits
  refine ⟨⟨fun s u h1 h2 => stoveLost_degrades h1 h2, fun s => lastDdrLost_resets⟩,
    fun s d h1 h2 hp => ⟨clockGood_shown h1 h2 hp, ?_⟩,
    fun s d hg h1 h2 => ⟨clockGoodLoss_unreleased hg h1 h2, clockGoodLoss_unitless hg, ?_⟩,
    fun s ha hk => ⟨clockGoodTimeout_givesUp ha hk, clockGoodTimeout_early⟩,
    fun s r d h h1 h2 hr hp => ⟨forceRelease_happens h h1 h2 hr hp, forceRelease_pends h h1 h2 hr hp, forceRelease_ignored h⟩⟩
  · rintro rfl
    exact clockGood_releasesStoves hp
  · rintro hr rfl
    exact clockGoodLoss_ddr hg hr

end Sys2Proof.Machine
end

section
/-! Frames of what the journal unit and Creterlink do together: a message is queued and sent (R390-R398), a sequence is taken (R433), a mirror
message is queued (R27, R407), a record is accepted (R368). -/

namespace Sys2Proof.Machine

variable {ps : List Part} {fs : List Fld} {s t : State}

theorem Kept.updCrl (h : Kept ps fs s t) (hp : Part.crl ∈ ps) (f : CrlSt → CrlSt) : Kept ps fs s (t.updCrl f) := by
  apply h.blocks (crl := f t.crl) <;> simp [hp]

theorem Kept.updJnl (h : Kept ps fs s t) (hp : Part.jnl ∈ ps) (f : JnlSt → JnlSt) : Kept ps fs s (t.updJnl f) := by
  apply h.blocks (jnl := f t.jnl) <;> simp [hp]

theorem Kept.updTick (h : Kept ps fs s t) (hp : Part.tick ∈ ps) (f : TickSt → TickSt) : Kept ps fs s (t.updTick f) := by
  refine h.upd rfl rfl fun p hn => ?_
  cases p with
  | tick => exact absurd hp hn
  | ports | irqPend => exact fun _ => rfl
  | wdt => exact ⟨rfl, rfl⟩
  | plic => exact ⟨rfl, rfl, rfl, rfl⟩
  | _ => rfl

/-! ### Blocks that a frame does not name -/

theorem Kept.bel_eq (h : Kept ps fs s t) (hp : Part.bel ∉ ps) : t.bel = s.bel := h.2.1 .bel hp
theorem Kept.crl_eq (h : Kept ps fs s t) (hp : Part.crl ∉ ps) : t.crl = s.crl := h.2.1 .crl hp
theorem Kept.jnl_eq (h : Kept ps fs s t) (hp : Part.jnl ∉ ps) : t.jnl = s.jnl := h.2.1 .jnl hp
theorem Kept.pool_eq (h : Kept ps fs s t) (hp : Part.pool ∉ ps) : t.pool = s.pool := h.2.1 .pool hp
theorem Kept.stoves_eq (h : Kept ps fs s t) (hp : Part.stoves ∉ ps) : t.stoves = s.stoves := h.2.1 .stoves hp
theorem Kept.grates_eq (h : Kept ps fs s t) (hp : Part.grates ∉ ps) : t.grates = s.grates := h.2.1 .grates hp
theorem Kept.get_eq (h : Kept ps fs s t) {f : Fld} (hf : f.key ∉ fs.map Fld.key) : t.get f = s.get f := h.2.2 f hf
theorem Kept.getb_eq (h : Kept ps fs s t) {f : Fld} (hf : f.key ∉ fs.map Fld.key) : t.getb f = s.getb f := by
  rw [State.getb, State.getb, h.get_eq hf]

/-! ### Creterlink sends -/

/-- The counters of frames that are sent. -/
def pumpFlds : List Fld := [F.CRL_SEQ_TX_NEXT, F.CRL_TX_BYTES_COUNT]

theorem Kept.emitFrame (h : Kept ps fs s t) (hc : Part.crl ∈ ps) (ho : Part.out ∈ ps) (kind vc seq : Nat) (som eom : Bool) (b : Bytes) :
    Kept ps fs s (t.emitFrame kind vc seq som eom b) := (h.updCrl hc _).emit ho

theorem State.countIdle_kept (s : State) : Kept [.crl, .out] pumpFlds s s.countIdle := by
  unfold State.countIdle
  split
  · exact ((Kept.refl _ _ s).updCrl (by simp) _).emitFrame (by simp) (by simp) _ _ _ _ _ _
  · exact (Kept.refl _ _ s).updCrl (by simp) _

theorem State.sendFrame_kept (s : State) (f : HeldFrame) : Kept [.crl, .out] pumpFlds s (s.sendFrame f) := by
  unfold State.sendFrame
  dsimp only
  refine Kept.trans (Kept.inc (Kept.set (Kept.updCrl ?_ (by simp) _) (by simp [pumpFlds])) (by simp [pumpFlds])) (State.countIdle_kept _)
  exact (Kept.refl _ _ s).emitFrame (by simp) (by simp) _ _ _ _ _ _

theorem State.crlPump_kept : ∀ (n : Nat) (s : State), Kept [.crl, .out] pumpFlds s (s.crlPump n)
  | 0, s => Kept.refl _ _ s
  | n + 1, s => by
    unfold State.crlPump
    split
    · exact Kept.refl _ _ s
    · split
      · exact Kept.refl _ _ s
      · exact (s.sendFrame_kept _).trans (State.crlPump_kept n _)

theorem State.crlSend_kept (s : State) (vc mtype : Nat) (body : Bytes) (chan user : Option Nat) :
    Kept [.crl, .out] pumpFlds s (s.crlSend vc mtype body chan user) :=
  ((Kept.refl _ _ s).updCrl (by simp) _).trans (State.crlPump_kept _ _)

/-! ### A mirror message is queued -/

theorem State.request_kept (s : State) (r : GrateReq) : Kept [.pool] [F.GRT_BP_CNT_COUNT r.chan] s (s.request r) := by
  unfold State.request
  split
  · exact (Kept.refl _ _ s).grant (by simp) r
  · exact (Kept.refl _ _ s).enqueue (by simp) (by simp)

theorem State.requestN_kept (s : State) (r : GrateReq) (n : Nat) : Kept [.pool] [F.GRT_BP_CNT_COUNT r.chan] s (s.requestN r n) :=
  Kept.foldl (fun u _ => u.request_kept r) _ s

theorem State.pumpMir_kept (s : State) : Kept [.crl, .out] pumpFlds s s.pumpMir := by
  refine Kept.foldl (fun u m => ?_) _ s
  split
  · exact ((Kept.refl _ _ u).updCrl (by simp) _).trans (State.crlSend_kept _ _ _ _ _ _)
  · exact Kept.refl _ _ u

/-- What a mirror message that takes its grates changes, and what it counts. -/
def mirParts : List Part := [.crl, .out, .bel, .pool]
def mirFlds : List Fld := F.GRT_BP_CNT_COUNT 3 :: pumpFlds

/-- A mirror message asks for its grates, behind those that ask already. -/
def State.mirAsked (s : State) (mtype : Nat) (body : Bytes) (atime : Nat) : State :=
  ((s.updBel (fun b => { b with nextId := b.nextId + 1 })).updCrl (fun c => { c with mirOut := c.mirOut ++ [(mirUser s.bel.nextId, mtype, body)] })).requestN
    { chan := 3, user := mirUser s.bel.nextId, atime } (mirGrates body)

theorem State.mirQueue_eq (s : State) (mtype : Nat) (body : Bytes) (a : Nat) : s.mirQueue mtype body a = (s.mirAsked mtype body a).pumpMir := rfl

theorem State.mirAsked_bel (s : State) (mtype : Nat) (body : Bytes) (a : Nat) :
    (s.mirAsked mtype body a).bel = { s.bel with nextId := s.bel.nextId + 1 } := by
  rw [State.mirAsked, (State.requestN_kept _ _ _).bel_eq (by simp)]
  rfl

theorem State.mirAsked_kept (s : State) (mtype : Nat) (body : Bytes) (a : Nat) :
    Kept [.crl, .bel, .pool] [F.GRT_BP_CNT_COUNT 3] s (s.mirAsked mtype body a) := by
  have h := ((Kept.refl [.crl, .bel, .pool] [F.GRT_BP_CNT_COUNT 3] s).updBel (by simp) (fun b => { b with nextId := b.nextId + 1 })).updCrl (by simp)
    (fun c => { c with mirOut := c.mirOut ++ [(mirUser s.bel.nextId, mtype, body)] })
  exact h.trans ((State.requestN_kept _ _ _).widen (by simp) (by simp))

theorem State.mirQueue_kept (s : State) (mtype : Nat) (body : Bytes) (a : Nat) : Kept mirParts mirFlds s (s.mirQueue mtype body a) := by
  rw [State.mirQueue_eq]
  exact ((State.mirAsked_kept s mtype body a).widen (by simp [mirParts]) (by simp [mirFlds])).trans
    ((State.pumpMir_kept _).widen (by simp [mirParts]) (by simp +contextual [mirFlds]))

theorem State.mirQueue_bel (s : State) (mtype : Nat) (body : Bytes) (a : Nat) :
    (s.mirQueue mtype body a).bel = { s.bel with nextId := s.bel.nextId + 1 } := by
  rw [State.mirQueue_eq, (State.pumpMir_kept _).bel_eq (by decide), State.mirAsked_bel]

theorem State.mirrorSend_kept (s : State) (r : JRec) (n : Nat) : Kept mirParts mirFlds s (s.mirrorSend r n) := by
  have h0 := (Kept.refl mirParts mirFlds s).updCrl (by simp [mirParts])
    (fun c => { c with mirWait := Tab.put c.mirWait r.key { sentAt := s.cyc, fails := n } })
  unfold State.mirrorSend
  dsimp only
  split
  · exact h0.trans (State.mirQueue_kept _ _ _ _)
  · split
    · exact h0.trans (State.mirQueue_kept _ _ _ _)
    · exact h0.trans (State.mirQueue_kept _ _ _ _)

theorem State.mirrorSend_bel (s : State) (r : JRec) (n : Nat) : (s.mirrorSend r n).bel = { s.bel with nextId := s.bel.nextId + 1 } := by
  unfold State.mirrorSend
  dsimp only
  split
  · exact State.mirQueue_bel _ _ _ _
  · split
    · exact State.mirQueue_bel _ _ _ _
    · exact State.mirQueue_bel _ _ _ _

/-! ### A sequence is taken -/

theorem Kept.loggedMs (h : Kept ps fs s t) {c : Nat} {is : List Nat} (hp : ∀ p ∈ logParts, p ∈ ps) (hf : ∀ f ∈ logFlds, f ∈ fs) :
    Kept ps fs s (t.recordMs c is) := h.recordMs hp fun f m => List.mem_map_of_mem (hf f m)

theorem State.recordMs_kept (s : State) (c : Nat) (is : List Nat) : Kept logParts logFlds s (s.recordMs c is) :=
  (Kept.refl _ _ s).loggedMs (fun _ h => h) (fun _ h => h)

/-- What taking a sequence can change. -/
def seqParts : List Part := .bel :: .tick :: logParts
def seqFlds : List Fld := F.TICK_ERR_GAP_HOLD :: logFlds

theorem State.takeSeq_kept (s : State) (a : Nat) : Kept seqParts seqFlds s (s.takeSeq a) := by
  have hl : ∀ p ∈ logParts, p ∈ seqParts := by simp +contextual [seqParts]
  have hf : ∀ f ∈ logFlds, f ∈ seqFlds := by simp +contextual [seqFlds]
  have ht : Part.tick ∈ seqParts := by simp [seqParts]
  have hmax := (Kept.refl seqParts seqFlds s).updBel (by simp [seqParts]) (fun b => { b with seqMax := max b.seqMax (s.nextSeq a) })
  unfold State.takeSeq
  dsimp only
  generalize s.updBel _ = u at hmax
  split
  · exact hmax.updBel (by simp [seqParts]) _
  · next g _ =>
    have hgap := hmax.updTick ht (fun t => { t with gaps := t.gaps.map (fun h => if h.t == g.t && h.first == g.first then { h with next := h.next + 1 } else h) })
    generalize u.updTick _ = v at hgap
    have hlog : Kept seqParts seqFlds s (if a < v.tick.droppedT then v.recordMs 0x0E0A (w2 g.next ++ w2 a) else v) := by
      split
      · exact hgap.loggedMs hl hf
      · exact hgap
    generalize (if a < v.tick.droppedT then v.recordMs 0x0E0A (w2 g.next ++ w2 a) else v) = w at hlog
    split
    · exact ((hlog.updTick ht _).setb (by simp [seqFlds])).loggedMs hl hf
    · exact hlog

/-- Bellows once a sequence of the main counter is taken. -/
def BelSt.stepped (b : BelSt) : BelSt := { b with seqMax := max b.seqMax b.seqNext, seqNext := b.seqNext + 1 }

theorem State.gapFor_of_no_gaps (h : s.tick.gaps = []) (a : Nat) : s.gapFor a = none := by rw [State.gapFor, h]; rfl

theorem State.nextSeq_of_no_gaps (h : s.tick.gaps = []) (a : Nat) : s.nextSeq a = s.bel.seqNext := by
  rw [State.nextSeq, State.gapFor_of_no_gaps h]

theorem State.takeSeq_of_no_gaps (h : s.tick.gaps = []) (a : Nat) : s.takeSeq a = s.updBel BelSt.stepped := by
  have hg : (s.updBel (fun b => { b with seqMax := max b.seqMax (s.nextSeq a) })).gapFor a = none := State.gapFor_of_no_gaps h a
  simp only [State.takeSeq, hg]
  rw [State.nextSeq_of_no_gaps h]
  rfl

/-! ### The ring is shown -/

theorem State.showJnl_kept (s : State) : Kept logParts ringFlds s s.showJnl := by
  have hr : ∀ f ∈ logFlds, f ∈ ringFlds := by simp +contextual [ringFlds]
  unfold State.showJnl
  dsimp only
  split
  · exact Kept.refl _ _ s
  · have h0 := ((((((Kept.refl logParts ringFlds s).setb (f := F.JNL_STS_STOP) (b := s.jnlStopped) (by simp [ringFlds])).set
      (f := F.JNL_STS_FREE) (v := (s.setb F.JNL_STS_STOP s.jnlStopped).freeLines) (by simp [ringFlds])).set
      (f := F.JNL_STS_LAP) (v := s.jnl.lap) (by simp [ringFlds])).set
      (f := F.JNL_PTR_HEAD) (v := s.jnl.head % ringLines) (by simp [ringFlds])))
    split
    · exact ((h0.set (by simp [ringFlds])).setb (by simp [ringFlds])).loggedMs (fun _ h => h) hr
    · exact h0.set (by simp [ringFlds])

theorem State.showJnl_jnl (s : State) : s.showJnl.jnl = s.jnl := s.showJnl_kept.jnl_eq (by decide)

end Sys2Proof.Machine
end

section
/-! Acceptance by the journal unit (R368, R370): what it changes, where an accepted record stands, and that a posted record is kept. -/

namespace Sys2Proof.Machine

variable {ps : List Part} {fs : List Fld} {s t : State} {r x y : JRec} {line lap : Nat}

/-- What accepting records can change. -/
def acceptParts : List Part := .jnl :: mirParts ++ seqParts
def acceptFlds : List Fld := mirFlds ++ F.TICK_ERR_GAP_HOLD :: ringFlds

theorem State.takeSeq_jnl (s : State) (a : Nat) : (s.takeSeq a).jnl = s.jnl := (s.takeSeq_kept a).jnl_eq (by decide)
theorem State.mirrorSend_jnl (s : State) (r : JRec) (n : Nat) : (s.mirrorSend r n).jnl = s.jnl := (s.mirrorSend_kept r n).jnl_eq (by decide)
theorem State.recordMs_bel (s : State) (c : Nat) (is : List Nat) : (s.recordMs c is).bel = s.bel := (s.recordMs_kept c is).bel_eq (by decide)

theorem State.takeSeq_cmds (s : State) (a : Nat) : (s.takeSeq a).bel.cmds = s.bel.cmds := by
  unfold State.takeSeq
  dsimp only
  split
  · rfl
  · next g _ =>
    generalize hv : State.updTick _ _ = v
    have hcmds : v.bel.cmds = s.bel.cmds := hv ▸ rfl
    have hlog : (if a < v.tick.droppedT then v.recordMs 0x0E0A (w2 g.next ++ w2 a) else v).bel = v.bel := by
      split
      · exact State.recordMs_bel _ _ _
      · rfl
    generalize (if a < v.tick.droppedT then v.recordMs 0x0E0A (w2 g.next ++ w2 a) else v) = w at hlog
    rw [← hcmds, ← hlog]
    split
    · rw [State.recordMs_bel]
      rfl
    · rfl

/-! ### One record -/

/-- The record that acceptance makes of one that brings its sequence. -/
def JRec.placed (r : JRec) (line lap : Nat) : JRec :=
  { r with line, lap, pdig := if r.type == 1 || r.mirror then r.pdig else (sha256 r.data).take 16 }

/-- The state in which a record is accepted: where it brings no sequence, one has been taken. -/
def State.seqTaken (s : State) (r : JRec) : State := if r.seq == 0 then s.takeSeq s.now else s

/-- The accepted record. -/
def State.acceptedRec (s : State) (r : JRec) (line lap : Nat) : JRec :=
  { r.placed line lap with
    seq := if r.seq == 0 then s.nextSeq s.now else r.seq
    atime := if r.seq == 0 then (s.seqTaken r).now else r.atime }

/-- The record stands in the ring; it has not been mirrored yet. -/
def State.putRec (s : State) (r : JRec) (line lap : Nat) : State :=
  (s.seqTaken r).updJnl (fun j => { j with recs := j.recs ++ [s.acceptedRec r line lap], head := line + r.lines, lap })

theorem State.accept_of_no_place (h : s.place r.lines = none) : s.accept r = s := by simp [State.accept, h]

theorem State.accept_of_place (h : s.place r.lines = some (line, lap)) :
    s.accept r = (if !r.mirror && r.origin == (s.putRec r line lap).head && (s.putRec r line lap).session && (s.putRec r line lap).mirrored then
      (s.putRec r line lap).mirrorSend (s.acceptedRec r line lap) 0 else s.putRec r line lap) := by
  simp only [State.accept, h]
  rfl

theorem State.acceptedRec_of_seq (h : r.seq ≠ 0) : s.acceptedRec r line lap = r.placed line lap := by
  simp [State.acceptedRec, h, JRec.placed]

theorem State.seqTaken_jnl (s : State) (r : JRec) : (s.seqTaken r).jnl = s.jnl := by
  unfold State.seqTaken
  split
  · exact s.takeSeq_jnl _
  · rfl

theorem State.seqTaken_cmds (s : State) (r : JRec) : (s.seqTaken r).bel.cmds = s.bel.cmds := by
  unfold State.seqTaken
  split
  · exact s.takeSeq_cmds _
  · rfl

theorem State.accept_jnl (h : s.place r.lines = some (line, lap)) :
    (s.accept r).jnl = { s.jnl with recs := s.jnl.recs ++ [s.acceptedRec r line lap], head := line + r.lines, lap } := by
  have hput : (s.putRec r line lap).jnl = { s.jnl with recs := s.jnl.recs ++ [s.acceptedRec r line lap], head := line + r.lines, lap } := by
    rw [← s.seqTaken_jnl r]
    rfl
  rw [State.accept_of_place h]
  split
  · rw [State.mirrorSend_jnl, hput]
  · exact hput

theorem State.accept_cmds (s : State) (r : JRec) : (s.accept r).bel.cmds = s.bel.cmds := by
  cases h : s.place r.lines with
  | none => rw [State.accept_of_no_place h]
  | some p =>
    obtain ⟨line, lap⟩ := p
    have hput : (s.putRec r line lap).bel.cmds = s.bel.cmds := s.seqTaken_cmds r
    rw [State.accept_of_place h]
    split
    · rw [State.mirrorSend_bel]
      exact hput
    · exact hput

theorem State.accept_kept (s : State) (r : JRec) : Kept acceptParts acceptFlds s (s.accept r) := by
  cases h : s.place r.lines with
  | none =>
    rw [State.accept_of_no_place h]
    exact Kept.refl _ _ s
  | some p =>
    obtain ⟨line, lap⟩ := p
    have htaken : Kept acceptParts acceptFlds s (s.seqTaken r) := by
      unfold State.seqTaken
      split
      · exact (s.takeSeq_kept _).widen (by simp +contextual [acceptParts]) (by simp +contextual [acceptFlds, seqFlds, ringFlds, or_imp])
      · exact Kept.refl _ _ s
    have hput : Kept acceptParts acceptFlds s (s.putRec r line lap) := htaken.updJnl (by simp [acceptParts]) _
    rw [State.accept_of_place h]
    split
    · exact hput.trans ((State.mirrorSend_kept _ _ _).widen (by simp +contextual [acceptParts]) (by simp +contextual [acceptFlds]))
    · exact hput

/-! ### All that wait -/

/-- Accept one of the waiting records, if it can be. -/
def State.acceptOne (s : State) (r : JRec) : State :=
  if s.canAccept r then (s.updJnl (fun j => { j with waiting := dropRec r j.waiting })).accept r else s

theorem State.acceptWaiting_eq (s : State) : s.acceptWaiting = (s.jnl.waiting.foldl State.acceptOne s).showJnl := rfl

theorem State.acceptWaiting_kept (s : State) : Kept acceptParts acceptFlds s s.acceptWaiting := by
  have hone : ∀ (u : State) (r : JRec), Kept acceptParts acceptFlds u (u.acceptOne r) := fun u r => by
    unfold State.acceptOne
    split
    · exact ((Kept.refl _ _ u).updJnl (by simp [acceptParts]) _).trans (State.accept_kept _ _)
    · exact Kept.refl _ _ u
  rw [State.acceptWaiting_eq]
  exact (Kept.foldl hone _ s).trans ((State.showJnl_kept _).widen (by simp +contextual [acceptParts, seqParts]) (by simp +contextual [acceptFlds]))

theorem State.acceptWaiting_cmds (s : State) : s.acceptWaiting.bel.cmds = s.bel.cmds := by
  have hone : ∀ (u : State) (r : JRec), (u.acceptOne r).bel.cmds = u.bel.cmds := fun u r => by
    unfold State.acceptOne
    split
    · exact State.accept_cmds _ _
    · rfl
  rw [State.acceptWaiting_eq, (State.showJnl_kept _).bel_eq (by decide)]
  exact foldl_eq_of_step (fun u : State => u.bel.cmds) hone _ s

theorem State.acceptWaiting_of_none (h : s.jnl.waiting = []) : s.acceptWaiting = s.showJnl := by
  rw [State.acceptWaiting_eq, h]
  rfl

theorem State.postRec_kept (s : State) (r : JRec) : Kept acceptParts acceptFlds s (s.postRec r) :=
  ((Kept.refl _ _ s).updJnl (by simp [acceptParts]) _).trans (State.acceptWaiting_kept _)

theorem State.postRec_cmds (s : State) (r : JRec) : (s.postRec r).bel.cmds = s.bel.cmds := State.acceptWaiting_cmds _

/-! ### A posted record is kept -/

/-- The record waits or stands in the ring, with its line and LAP, and as its PDIG that which acceptance gives it (R364). -/
def Posted (r : JRec) (t : State) : Prop :=
  ∃ line lap pdig, (r.type = 1 → pdig = r.pdig) ∧ { r with line, lap, pdig } ∈ t.jnl.recs ++ t.jnl.waiting

theorem mem_dropRec (h : y ∈ l) (hne : y ≠ x) : y ∈ dropRec x l := by
  induction l with
  | nil => cases h
  | cons z l ih =>
    unfold dropRec
    split
    · next hz =>
      have hzx : z = x := by simpa using hz
      exact (List.mem_cons.mp h).resolve_left fun e => hne (e.trans hzx)
    · exact (List.mem_cons.mp h).elim (fun e => e ▸ List.mem_cons_self) fun hm => List.mem_cons_of_mem _ (ih hm)

theorem Posted.acceptOne (hr : r.seq ≠ 0) (h : Posted r s) (x : JRec) : Posted r (s.acceptOne x) := by
  obtain ⟨line, lap, pdig, hpd, hm⟩ := h
  unfold State.acceptOne
  split
  · next hacc =>
    have hplace : (s.place x.lines).isSome = true := by
      simp only [State.canAccept, Bool.and_eq_true] at hacc
      exact hacc.2
    obtain ⟨⟨line', lap'⟩, hpl⟩ := Option.isSome_iff_exists.mp hplace
    have hj := State.accept_jnl (s := s.updJnl (fun j => { j with waiting := dropRec x j.waiting })) (r := x) hpl
    by_cases he : ({ r with line, lap, pdig } : JRec) = x
    · refine ⟨line', lap', if x.type == 1 || x.mirror then x.pdig else (sha256 x.data).take 16, fun h1 => ?_, ?_⟩
      · rw [← he]
        simp [h1, hpd h1]
      · have hseq : x.seq ≠ 0 := he ▸ hr
        rw [hj, State.acceptedRec_of_seq hseq, ← he]
        simp [JRec.placed]
    · refine ⟨line, lap, pdig, hpd, ?_⟩
      rw [hj]
      rcases List.mem_append.mp hm with hrec | hwait
      · exact List.mem_append_left _ (List.mem_append_left _ hrec)
      · exact List.mem_append_right _ (mem_dropRec hwait he)
  · exact ⟨line, lap, pdig, hpd, hm⟩

theorem Posted.postRec (hr : r.seq ≠ 0) (s : State) : Posted r (s.postRec r) := by
  have hfold : ∀ (l : List JRec) (u : State), Posted r u → Posted r (l.foldl State.acceptOne u) := by
    intro l
    induction l with
    | nil => exact fun _ h => h
    | cons x l ih => exact fun u h => ih _ (h.acceptOne hr x)
  have h0 : Posted r (s.updJnl (fun j => { j with waiting := j.waiting ++ [r] })) :=
    ⟨r.line, r.lap, r.pdig, fun _ => rfl, List.mem_append_right _ (List.mem_append_right _ (List.mem_singleton.mpr rfl))⟩
  obtain ⟨line, lap, pdig, hpd, hm⟩ := hfold (s.jnl.waiting ++ [r]) _ h0
  refine ⟨line, lap, pdig, hpd, ?_⟩
  rw [State.postRec, State.acceptWaiting_eq, State.showJnl_jnl]
  exact hm

end Sys2Proof.Machine
end

section
/-! Work items: what an item names, and where one is posted (R148, R149). -/

namespace Sys2Proof.Machine

variable {ps : List Part} {fs : List Fld} {s t : State} {w : WorkItem} {m : Nat}

theorem leNat_leBytes (n v : Nat) : leNat (leBytes n v) = v % 256 ^ n := by
  induction n generalizing v with
  | zero => simp [leBytes, leNat, Nat.mod_one]
  | succ n ih =>
    rw [leBytes, leNat, ih, BitVec.toNat_ofNat]
    exact (by rw [Nat.pow_succ', Nat.mod_mul] : v % 256 ^ (n + 1) = v % 256 + 256 * (v / 256 % 256 ^ n)).symm

section
variable {pgm kind vol origin lba seq atime tag g0 ngr gl arg fails user slot : Nat}

theorem WorkItem.pgm_itemBytes (h : pgm < 65536) :
    WorkItem.pgm ⟨itemBytes pgm kind vol origin lba seq atime tag g0 ngr gl arg, fails, user, slot⟩ = pgm := by
  have hslice : slice (itemBytes pgm kind vol origin lba seq atime tag g0 ngr gl arg) 0 2 = leBytes 2 pgm := by
    simp only [itemBytes, List.append_assoc]
    exact slice_append_left _ _ _ (leBytes_length _ _)
  rw [WorkItem.pgm, leAt, hslice, leNat_leBytes]
  omega

theorem WorkItem.kind_itemBytes (h : kind < 256) :
    WorkItem.kind ⟨itemBytes pgm kind vol origin lba seq atime tag g0 ngr gl arg, fails, user, slot⟩ = kind := by
  have hslice : slice (itemBytes pgm kind vol origin lba seq atime tag g0 ngr gl arg) 2 1 = leBytes 1 kind := by
    have hcut : ∀ rest : Bytes, [BitVec.ofNat 8 kind, 0] ++ rest = [BitVec.ofNat 8 kind] ++ ([0] ++ rest) := fun _ => rfl
    simp only [itemBytes, List.append_assoc, hcut]
    rw [← List.append_assoc]
    exact slice_append _ _ _ _ _ (leBytes_length _ _) rfl
  rw [WorkItem.kind, leAt, hslice, leNat_leBytes]
  omega
end

/-! ### Where an item is posted -/

/-- The choice reads the Stoves, the released domains, EN and the fault bits alone. -/
theorem Kept.chooseStove_eq (h : Kept ps fs s t) (hp : Part.stoves ∉ ps) (hr : F.KDL_REL_STS_DOMAIN.key ∉ fs.map Fld.key)
    (hf : F.GLB_FAULT_STV.key ∉ fs.map Fld.key) (he : ∀ n, (F.STV_CTL_EN n).key ∉ fs.map Fld.key) (pgm kind : Nat) :
    t.chooseStove pgm kind = s.chooseStove pgm kind := by
  have hst : ∀ n, t.stove n = s.stove n := fun n => by rw [State.stove, State.stove, h.stoves_eq hp]
  have htakes : ∀ n, t.stoveTakes n = s.stoveTakes n := fun n => by
    simp only [State.stoveTakes, State.released, State.bitOf, h.get_eq hr, h.getb_eq (he n), hst, h.get_eq hf]
  simp only [State.chooseStove, htakes, State.slotFor, State.pslot, hst]
  rfl

theorem State.postItem_queued (hc : s.chooseStove w.pgm w.kind = some m) (hq : (s.stove m).queue.length < 256) :
    ∃ slot, s.postItem w = some (s.updStove m (fun v => { v with queue := v.queue ++ [{ w with slot }] })) :=
  ⟨(s.slotFor m w.pgm w.kind).getD 0, by simp only [State.postItem, hc, Option.map_some, hq, if_true]⟩

theorem Kept.updStove (h : Kept ps fs s t) (hp : Part.stoves ∈ ps) (n : Nat) (f : Stove → Stove) : Kept ps fs s (t.updStove n f) := by
  apply h.blocks (stoves := Tab.upd t.stoves n {} f) <;> simp [hp]

theorem State.stove_updStove (n : Nat) (f : Stove → Stove) : (s.updStove n f).stove n = f (s.stove n) := by
  simp [State.stove, State.updStove, Tab.getD_upd]

/-- The Index cache's counters are no fields of a Stove. -/
theorem stvEn_notMem_ichCounts (n : Nat) : (F.STV_CTL_EN n).key ∉ ichCounts.map Fld.key := by
  simp only [ichCounts, List.map_cons, List.map_nil, Fld.key, F.STV_CTL_EN, F.ICH_HITS_COUNT, F.ICH_SB_HITS_COUNT, F.ICH_MISSES_COUNT,
    F.ICH_WB_MERGES_COUNT, List.mem_cons, List.not_mem_nil, or_false, not_or]
  omega

end Sys2Proof.Machine
end

section
/-! Writes complete (R16, R110, R115): a payload lands, a write-class command completes, a completion is posted. -/

namespace Sys2Proof.Machine

variable {ps : List Part} {fs : List Fld} {s t : State} {c : Cmd} {id g m : Nat} {payload : Bytes}

theorem slice_zero_length (b : Bytes) : slice b 0 b.length = b := by simpa using slice_append_left b [] b.length rfl

theorem find_map_of_find {l : List Cmd} {f : Cmd → Cmd} (h : l.find? (·.id == id) = some c) (hf : (f c).id = id) :
    (l.map (fun c => if c.id == id then f c else c)).find? (·.id == id) = some (f c) := by
  induction l with
  | nil => cases h
  | cons d l ih =>
    rw [List.find?_cons] at h
    rw [List.map_cons, List.find?_cons]
    split at h
    · next hd =>
      cases h
      simp [hd, hf]
    · next hd => simpa [hd] using ih h

theorem State.id_of_cmd? (h : s.cmd? id = some c) : c.id = id := by simpa using List.find?_some h

/-! ### A payload lands (R16) -/

/-- The payload is in its grate and the list of grates in DDR; the command knows both. -/
def State.payloadPut (s : State) (c : Cmd) (payload : Bytes) : State :=
  (({ s.taken 1 with grates := fillGrates (s.taken 1).grates (s.gratesOf (cmdUser c.id)) payload } : State).ddrWrite s.freeValue.toNat
    ((s.gratesOf (cmdUser c.id)).flatMap (fun g => leBytes 4 g))).updCmd c.id (fun _ => { c with payload, list := s.freeValue.toNat })

theorem State.landed_here (h : c.away = false) (payload : Bytes) :
    s.landed c payload = (s.payloadPut c payload).stageWrite { c with payload, list := s.freeValue.toNat } := by
  unfold State.landed State.payloadPut
  dsimp only
  rw [if_neg (by simp [h])]

/-- What putting a payload in its grates changes. -/
def putParts : List Part := [.ich, .ddr, .ports, .out, .free, .grates, .bel]

theorem State.payloadPut_spec (s : State) (c : Cmd) (payload : Bytes) :
    Kept putParts ichCounts s (s.payloadPut c payload) ∧
    (s.payloadPut c payload).grates = fillGrates s.grates (s.gratesOf (cmdUser c.id)) payload ∧
    (s.payloadPut c payload).bel = (s.updCmd c.id (fun _ => { c with payload, list := s.freeValue.toNat })).bel := by
  unfold State.payloadPut
  generalize (s.gratesOf (cmdUser c.id)).flatMap (fun g => leBytes 4 g) = b
  generalize hu : ({ s.taken 1 with grates := fillGrates (s.taken 1).grates (s.gratesOf (cmdUser c.id)) payload } : State) = u
  have hsu : Kept putParts ichCounts s u := by
    rw [← hu]
    apply ((Kept.refl putParts ichCounts s).taken (by simp [putParts]) 1).blocks <;> simp [putParts]
  have hddr := u.ddrWrite_kept s.freeValue.toNat b
  generalize u.ddrWrite s.freeValue.toNat b = v at hddr
  have hgrates : v.grates = fillGrates s.grates (s.gratesOf (cmdUser c.id)) payload := (hddr.grates_eq (by decide)).trans (by rw [← hu]; rfl)
  have hbel : v.bel = s.bel := (hddr.bel_eq (by decide)).trans (by rw [← hu]; rfl)
  refine ⟨(hsu.trans (hddr.widen (by simp [putParts]) fun _ h => h)).updBel (by simp [putParts]) _, hgrates, ?_⟩
  rw [State.updCmd, State.updBel, hbel]
  rfl

/-- The record of a write (R364). -/
def Cmd.writeRec (c : Cmd) (head : Nat) : JRec :=
  { seq := c.seq, atime := c.atime, type := 1, mirror := false, origin := head, vol := c.vol, len := c.len, lba := c.lba, loc := c.list,
    pdig := (sha256 c.payload).take 16, tag := c.id }

/-- A write whose item a Stove takes: the item, the staged payload and the record. -/
theorem State.stageWrite_spec (hc : s.cmd? c.id = some c) (hk : c.kind = .write) (hseq : c.seq ≠ 0) (hp : s.program c.vol c.pgm < 65536)
    (hst : s.chooseStove (s.program c.vol c.pgm) 0 = some m) (hq : (s.stove m).queue.length < 256) :
    (s.stageWrite c).grates = s.grates ∧
    (s.stageWrite c).cmd? c.id = some { c with stage := .staged, posted := true } ∧
    (∃ w, ((s.stageWrite c).stove m).queue = (s.stove m).queue ++ [w] ∧ w.kind = 0 ∧ w.user = c.id) ∧
    Posted (c.writeRec s.head) (s.stageWrite c) := by
  have hpgm : (s.cmdItem c).pgm = s.program c.vol c.pgm := WorkItem.pgm_itemBytes hp
  have hkind : (s.cmdItem c).kind = 0 := by
    have hitem : c.kind.item = 0 := by rw [hk]; rfl
    exact (WorkItem.kind_itemBytes (by omega)).trans hitem
  obtain ⟨slot, hpost⟩ := State.postItem_queued (s := s) (w := s.cmdItem c) (by rw [hpgm, hkind]; exact hst) hq
  generalize hu : s.updStove m (fun v => { v with queue := v.queue ++ [{ s.cmdItem c with slot }] }) = u at hpost
  generalize hv : (u.updCmd c.id (fun c => { c with stage := .staged, posted := true })).updJnl
    (fun j => { j with staging := Tab.put j.staging (recKey false u.head c.seq) c.payload }) = v
  have hstage : s.stageWrite c = v.postRec (c.writeRec s.head) := by
    subst hu hv
    simp only [State.stageWrite, hpost]
    rfl
  have hkept := v.postRec_kept (c.writeRec s.head)
  rw [hstage]
  refine ⟨?_, ?_, ⟨{ s.cmdItem c with slot }, ?_, hkind, rfl⟩, Posted.postRec hseq v⟩
  · rw [hkept.grates_eq (by decide)]
    subst hu hv
    rfl
  · rw [State.cmd?, State.postRec_cmds]
    subst hu hv
    exact find_map_of_find hc rfl
  · have hsame : (v.postRec (c.writeRec s.head)).stove m = u.stove m := by
      rw [State.stove, hkept.stoves_eq (by decide), ← hv]
      rfl
    rw [hsame, ← hu, State.stove_updStove]

theorem payloadLands_stages (hc : s.cmd? id = some c) (hk : c.kind = .write) (hr : c.ring = false) (hf : c.foreign = none)
    (hs : c.stage = .landing) (ha : c.away = false) (hl : c.len = 4096) (hg : s.gratesOf (cmdUser c.id) = [g]) (hp : payload.length = 4096)
    (hseq : 0 < c.seq) (hpg : s.program c.vol c.pgm < 65536) (hst : s.chooseStove (s.program c.vol c.pgm) 0 = some m)
    (hq : (s.stove m).queue.length < 256) :
    Gives (.payloadLands id payload) s (fun t => Tab.readBytes t.grates (4096 * g) 4096 = payload ∧
      (∃ d, t.cmd? id = some d ∧ d.stage = .staged ∧ d.posted = true) ∧
      (∃ w, (t.stove m).queue = (s.stove m).queue ++ [w] ∧ w.kind = 0 ∧ w.user = c.id) ∧
      ∃ r ∈ t.jnl.recs ++ t.jnl.waiting, r.type = 1 ∧ r.seq = c.seq ∧ r.vol = c.vol ∧ r.lba = c.lba ∧ r.len = c.len ∧ r.atime = c.atime ∧
        r.tag = c.id ∧ r.pdig = (sha256 payload).take 16) := by
  have hid := State.id_of_cmd? hc
  have hall : s.allGranted c = true := by simp [State.allGranted, hg, Cmd.granules, hl]
  have hbytes : slice payload 0 c.len = payload := by rw [hl, ← hp, slice_zero_length]
  have hex : exec (.payloadLands id payload) s = .next (s.landed c payload) := by
    simp [exec, execPayloadLands, hc, hk, hr, hf, hs, hall, hbytes]
  obtain ⟨hkept, hgrates, hbel⟩ := s.payloadPut_spec c payload
  have hcmd : (s.payloadPut c payload).cmd? c.id = some { c with payload, list := s.freeValue.toNat } := by
    rw [State.cmd?, hbel]
    exact find_map_of_find (hid ▸ hc) rfl
  have hprog : (s.payloadPut c payload).program c.vol c.pgm = s.program c.vol c.pgm := by
    rw [State.program, State.vol, hbel]
    rfl
  have hstove : (s.payloadPut c payload).stove m = s.stove m := by rw [State.stove, State.stove, hkept.stoves_eq (by decide)]
  have hchoose := hkept.chooseStove_eq (by decide) (by decide) (by decide) stvEn_notMem_ichCounts
  obtain ⟨hgr, hd, ⟨w, hw, hwk, hwu⟩, line, lap, pdig, hpd, hrec⟩ := State.stageWrite_spec (m := m)
    (c := { c with payload, list := s.freeValue.toNat }) hcmd hk (Nat.ne_of_gt hseq)
    (hprog.symm ▸ hpg) (by rw [hchoose]; exact hprog.symm ▸ hst) (hstove.symm ▸ hq)
  rw [← State.landed_here ha] at hgr hd hw hrec
  refine ⟨_, hex, ?_, ⟨_, hid ▸ hd, rfl, rfl⟩, ⟨w, by rw [hw, hstove], hwk, hwu⟩, _, hrec, rfl, rfl, rfl, rfl, rfl, rfl, rfl, hpd rfl⟩
  rw [hgr, hgrates, hg]
  have htake : payload.take 4096 = payload := by rw [← hp, List.take_length]
  have hfill : fillGrates s.grates [g] payload = Tab.writeBytes s.grates (4096 * g) payload := by rw [fillGrates, fillGrates, htake]
  rw [hfill, ← hp]
  exact Tab.readBytes_writeBytes _ _ _

end Sys2Proof.Machine
end

section
/-! Writes complete and Bellows' counts move (R107, R109, R110, R113, R115, R120). -/

namespace Sys2Proof.Tab

variable {α : Type} {t : Tab α} {k l : Nat} {v d : α}

theorem getD_of_find (h : find t k = some v) : getD t k d = v := by rw [getD, h]; rfl

theorem find_upd_same (f : α → α) (h : find t k = some v) : find (upd t k d f) k = some (f v) := by
  rw [upd, find_put_same, getD_of_find h]

end Sys2Proof.Tab

namespace Sys2Proof.Machine

variable {ps : List Part} {fs : List Fld} {s t : State} {c : Cmd} {x : SubQ} {y : CplQ} {p q v : Nat} {r : Req}

/-! ### A command completes (R110, R115) -/

theorem State.ctrl_updCtrl (p : Nat) (f : Ctrl → Ctrl) : (s.updCtrl p f).ctrl p = f (s.ctrl p) := by
  simp [State.ctrl, State.updCtrl, State.updBel, Tab.getD_upd]

/-- A completion waits in a completion queue. -/
def Ctrl.addCqe (k : Ctrl) (cq : Nat) (e : Cqe) : Ctrl :=
  { k with cqs := Tab.upd k.cqs cq {} (fun x => { x with waiting := x.waiting ++ [e] }) }

theorem Ctrl.find_addCqe {k : Ctrl} {cq : Nat} {e : Cqe} (h : Tab.find k.cqs cq = some y) :
    Tab.find (k.addCqe cq e).cqs cq = some { y with waiting := y.waiting ++ [e] } := by
  have hadd := Tab.find_upd_same (d := {}) (fun x : CplQ => { x with waiting := x.waiting ++ [e] }) h
  exact hadd

theorem State.queueCqe_eq {e : Cqe} (hx : Tab.find (s.ctrl p).sqs e.sq = some x) :
    s.queueCqe p e = s.updCtrl p (·.addCqe x.cq { e with sqHead := x.head }) := by
  simp only [State.queueCqe, hx]
  rfl

theorem State.settleFlush_of_no_cmds (h : s.bel.cmds = []) : s.settleFlush = s := by
  rw [State.settleFlush, h]
  rfl

theorem State.cmd?_of_one (h : s.bel.cmds = [c]) : s.cmd? c.id = some c := by simp [State.cmd?, h]

/-- The only command in flight, of a submission queue, completes. -/
theorem State.finish_queue {e : Ending} (hc : s.bel.cmds = [c]) (hd : c.dead = false) (hf : c.foreign = none) (hr : c.ring = false)
    (hx : Tab.find (s.ctrl c.port).sqs c.queue = some x) :
    s.finish c e = (s.dropCmd c.id).updCtrl c.port (·.addCqe x.cq
      { cid := c.cid, sq := c.queue, sqHead := x.head, sct := e.sct, sc := e.sc, dw0 := 0 }) := by
  have hdrop : (s.dropCmd c.id).bel.cmds = [] := by simp [State.dropCmd, State.updBel, hc]
  have hone : s.finishOne c e = (s.dropCmd c.id).updCtrl c.port (·.addCqe x.cq
      { cid := c.cid, sq := c.queue, sqHead := x.head, sct := e.sct, sc := e.sc, dw0 := 0 }) := by
    simp only [State.finishOne, hd, hf, hr, Bool.false_eq_true, if_false]
    exact State.queueCqe_eq hx
  rw [State.finish, hone]
  exact State.settleFlush_of_no_cmds hdrop

theorem writeComplete_completes (hc : s.bel.cmds = [c]) (hk : c.kind.writes = true) (hp : c.posted = true) (hrec : c.recorded = true)
    (hm : c.mirDone = true ∨ s.mirrored = false) (hd : c.dead = false) (hf : c.foreign = none) (hr : c.ring = false)
    (hx : Tab.find (s.ctrl c.port).sqs c.queue = some x) (hy : Tab.find (s.ctrl c.port).cqs x.cq = some y) :
    Does (.writeComplete c.id) s [.bel] [] (fun t => t.bel.cmds = [] ∧ Tab.find (t.ctrl c.port).cqs x.cq =
      some { y with waiting := y.waiting ++ [{ cid := c.cid, sq := c.queue, sqHead := x.head, sct := 0, sc := 0, dw0 := 0 }] }) := by
  have hdone : s.complete? c = true := by simp [State.complete?, hk, hp, hrec, hm]
  have hex : exec (.writeComplete c.id) s = .next (s.finish c { count := c.len }) := by
    simp [exec, execWriteComplete, State.cmd?_of_one hc, hdone]
  refine ⟨_, hex, ?_⟩
  rw [State.finish_queue hc hd hf hr hx]
  refine ⟨⟨by simp [State.updCtrl, State.dropCmd, State.updBel, hc], ?_⟩, ((Kept.refl _ _ s).updBel (by simp) _).updBel (by simp) _⟩
  rw [State.ctrl_updCtrl]
  exact Ctrl.find_addCqe hy

/-! ### A completion is posted (R110) -/

theorem Kept.updPort (h : Kept ps fs s t) (hp : Part.ports ∈ ps) (p : Nat) {f : HostPort → HostPort} (hf : ∀ h, (f h).msixPend = h.msixPend) :
    Kept ps fs s (t.updPort p f) := by
  refine h.upd rfl rfl fun q hn => ?_
  cases q with
  | ports => exact absurd hp hn
  | irqPend =>
    intro r
    rw [State.port_updPort]
    split
    · next he => rw [he, hf]
    · rfl
  | wdt => exact ⟨rfl, rfl⟩
  | plic => exact ⟨rfl, rfl, rfl, rfl⟩
  | _ => rfl

theorem State.holdLine_kept (s : State) (p key : Nat) (own : Bool) : Kept [.ports, .out] [] s (s.holdLine p key own) := by
  have h0 := Kept.refl [.ports, .out] [] s
  unfold State.holdLine
  dsimp only
  split
  · exact h0
  · refine Kept.trans ?_ (Kept.foldl (fun u l => (Kept.refl _ _ u).emit (by simp)) _ _)
    refine Kept.updPort ?_ (by simp) p fun _ => rfl
    split
    · exact h0
    · exact h0.emit (by simp)

theorem State.holdLine_off (h : s.getb (F.HST_LINK_STS_CACHE_ON p) = false) (key : Nat) (own : Bool) : s.holdLine p key own = s := by
  simp [State.holdLine, h]

/-- The completion queue once its oldest completion is posted. -/
def CplQ.posted (y : CplQ) (es : List Cqe) : CplQ :=
  { y with waiting := es, tail := (y.tail + 1) % y.size, phase := if y.tail + 1 = y.size then !y.phase else y.phase }

theorem cqEntryPost_posts {e : Cqe} {es : List Cqe} (hy : Tab.find (s.ctrl p).cqs q = some y) (hw : y.waiting = e :: es)
    (hroom : (y.tail + 1) % y.size ≠ y.head) (hirq : y.irq = false) :
    Does (.cqEntryPost p q) s [.bel, .ports, .out] [] (fun t => t.out.head? = some (.cqe p q y.tail e y.phase) ∧
      (s.getb (F.HST_LINK_STS_CACHE_ON p) = false → t.out = .cqe p q y.tail e y.phase :: s.out) ∧
      Tab.find (t.ctrl p).cqs q = some (y.posted es)) := by
  generalize hu : s.updCtrl p (fun c => { c with cqs := Tab.put c.cqs q (y.posted es) }) = u
  have hex : exec (.cqEntryPost p q) s = .next ((u.holdLine p (cqLine q y.tail) true).emit (.cqe p q y.tail e y.phase)) := by
    simp only [exec, execCqEntryPost, hy, hw, beq_iff_eq, hroom, if_false]
    rw [if_neg (by simp [hirq]), ← hu]
    rfl
  have hkept := u.holdLine_kept p (cqLine q y.tail) true
  have hfind : Tab.find (u.ctrl p).cqs q = some (y.posted es) := by
    rw [← hu, State.ctrl_updCtrl]
    exact Tab.find_put_same _ _ _
  have hsu : Kept [.bel, .ports, .out] [] s u := hu ▸ (Kept.refl _ _ s).updBel (by simp) _
  refine ⟨_, hex, ⟨rfl, fun hoff => ?_, ?_⟩, (hsu.trans (hkept.widen (by simp) (by simp))).emit (by simp)⟩
  · have hline : u.holdLine p (cqLine q y.tail) true = u := State.holdLine_off (hu ▸ hoff) _ _
    rw [hline, ← hu]
    rfl
  · have hctrl : (u.holdLine p (cqLine q y.tail) true).ctrl p = u.ctrl p := by rw [State.ctrl, State.ctrl, hkept.bel_eq (by decide)]
    exact hctrl ▸ hfind

/-! ### Doorbells (R107, R110) -/

theorem sqDoorbell_moves {tail : Nat} (hx : Tab.find (s.ctrl p).sqs q = some x) (hen : (s.ctrl p).en = true) (ht : tail < x.size) :
    Does (.sqDoorbell p q tail) s [.bel] [] (fun t => Tab.find (t.ctrl p).sqs q = some { x with tail := tail } ∧
      ∀ j, j ≠ q → Tab.find (t.ctrl p).sqs j = Tab.find (s.ctrl p).sqs j) := by
  have hex : exec (.sqDoorbell p q tail) s = .next (s.updCtrl p (fun c => { c with sqs := Tab.put c.sqs q { x with tail } })) := by
    simp [exec, execSqDoorbell, hx, hen, ht]
  refine ⟨_, hex, ⟨?_, fun j hj => ?_⟩, (Kept.refl _ _ s).updBel (by simp) _⟩
  · rw [State.ctrl_updCtrl]
    exact Tab.find_put_same _ _ _
  · rw [State.ctrl_updCtrl]
    exact Tab.find_put_other _ _ _ _ hj

theorem cqDoorbell_moves {head : Nat} (hy : Tab.find (s.ctrl p).cqs q = some y) (hen : (s.ctrl p).en = true) (hh : head < y.size) :
    Does (.cqDoorbell p q head) s [.bel] [] (fun t => Tab.find (t.ctrl p).cqs q = some { y with head := head } ∧
      ∀ j, j ≠ q → Tab.find (t.ctrl p).cqs j = Tab.find (s.ctrl p).cqs j) := by
  have hex : exec (.cqDoorbell p q head) s = .next (s.updCtrl p (fun c => { c with cqs := Tab.put c.cqs q { y with head } })) := by
    simp [exec, execCqDoorbell, hy, hen, hh]
  refine ⟨_, hex, ⟨?_, fun j hj => ?_⟩, (Kept.refl _ _ s).updBel (by simp) _⟩
  · rw [State.ctrl_updCtrl]
    exact Tab.find_put_same _ _ _
  · rw [State.ctrl_updCtrl]
    exact Tab.find_put_other _ _ _ _ hj

/-! ### Counts (R109, R113, R120) -/

theorem State.getb_setb_same {f : Fld} {b : Bool} (h : 0 < f.width) : (s.setb f b).getb f = b := by
  have hw : 2 ≤ 2 ^ f.width := Nat.le_self_pow (by omega) 2
  cases b <;> simp [State.getb, State.setb, State.get_set_same, b2n, Nat.mod_eq_of_lt (show 1 < 2 ^ f.width by omega)]

theorem writeFetchResume_resumes (hn : s.bel.stopNeed ≠ 0) (hd : s.dirty + s.bel.stopNeed ≤ s.bound) :
    Does .writeFetchResume s [.bel] [F.BEL_STS_DIRTY_STOP] (fun t =>
      t.bel.stopNeed = 0 ∧ t.bel.stopped = [] ∧ t.getb F.BEL_STS_DIRTY_STOP = false) := by
  have hex : exec .writeFetchResume s =
      .next ((s.updBel (fun b => { b with stopNeed := 0, stopped := [] })).setb F.BEL_STS_DIRTY_STOP false) := by
    simp [exec, execWriteFetchResume, hn, hd]
  exact ⟨_, hex, ⟨rfl, rfl, State.getb_setb_same (by decide)⟩, ((Kept.refl _ _ s).updBel (by simp) _).setb (by simp)⟩

/-- In serial order the successor is newer than its predecessor. -/
theorem newer_succ (n : Nat) : newer ((n + 1) % 2 ^ 32) n = true := by
  simp only [newer, Bool.and_eq_true, decide_eq_true_eq]
  omega

theorem newer_pred (n : Nat) : newer n ((n + 1) % 2 ^ 32) = false := by
  simp only [newer, Bool.and_eq_false_iff, decide_eq_false_iff_not]
  omega

theorem EmberPair.pick_two (a b : Nat × List Nat) : EmberPair.pick ⟨some a, some b⟩ = if newer b.1 a.1 then some 1 else some 0 := rfl

theorem EmberPair.state_of_pick_zero {p : EmberPair} (h : p.pick = some 0) : p.state = p.e0.map (·.2) := by rw [EmberPair.state, h]; rfl

theorem EmberPair.state_of_pick_one {p : EmberPair} (h : p.pick = some 1) : p.state = p.e1.map (·.2) := by rw [EmberPair.state, h]; rfl

theorem EmberPair.state_first {n m : Nat} {v w : List Nat} (h : newer m n = false) : EmberPair.state ⟨some (n, v), some (m, w)⟩ = some v := by
  have hp : EmberPair.pick ⟨some (n, v), some (m, w)⟩ = some 0 := by rw [EmberPair.pick_two, h]; rfl
  rw [EmberPair.state_of_pick_zero hp]
  rfl

theorem EmberPair.state_second {n m : Nat} {v w : List Nat} (h : newer m n = true) : EmberPair.state ⟨some (n, v), some (m, w)⟩ = some w := by
  have hp : EmberPair.pick ⟨some (n, v), some (m, w)⟩ = some 1 := by rw [EmberPair.pick_two, h]; rfl
  rw [EmberPair.state_of_pick_one hp]
  rfl

/-- What is written to an operation pair is its state. -/
theorem EmberPair.state_write (p : EmberPair) (v : List Nat) : (p.write v).state = some v := by
  obtain ⟨e0, e1⟩ := p
  cases e0 with
  | none =>
    cases e1 with
    | none => rfl
    | some b => exact EmberPair.state_first (newer_pred b.1)
  | some a =>
    cases e1 with
    | none => exact EmberPair.state_second (newer_succ a.1)
    | some b =>
      by_cases hn : newer b.1 a.1 = true
      · simp only [EmberPair.write, hn, if_true]
        exact EmberPair.state_first (newer_pred b.1)
      · simp only [EmberPair.write, hn]
        exact EmberPair.state_second (newer_succ a.1)

theorem State.pair_saveHwm (h : Nat) : (s.saveHwm h).pair 33 = some [h, s.jnl.lap] := by
  have hp : Tab.getD (s.saveHwm h).jnl.pairs 33 {} = (Tab.getD s.jnl.pairs 33 {}).write [h, s.jnl.lap] := by
    simp [State.saveHwm, State.savePair, State.updJnl, Tab.getD_upd]
  rw [State.pair, hp, EmberPair.state_write]

theorem State.releaseHeld_of_no_cmds (h : s.bel.cmds = []) : s.releaseHeld = s := by
  rw [State.releaseHeld, h]
  rfl

theorem hwmCommitted_commits (hb : s.bel.blockEnd ≤ s.bel.seqNext) (hs : s.bel.seqNext < 2 ^ 62) (hr : s.released dNoc = true)
    (hw : s.jnl.waiting = []) (hc : s.bel.cmds = []) :
    Gives .hwmCommitted s (fun t => t.bel.blockEnd = (s.bel.seqNext / 1048576 + 1) * 1048576 ∧ t.bel.seqNext = s.bel.seqNext ∧
      t.jnl.hwm = (s.bel.seqNext / 1048576 + 1) * 1048576 ∧ t.pair 33 = some [t.jnl.hwm, s.jnl.lap]) := by
  generalize hu : (s.updBel (fun b => { b with blockEnd := blockTop s.bel.seqNext })).saveHwm (blockTop s.bel.seqNext) = u
  have hbel : u.showJnl.bel = u.bel := u.showJnl_kept.bel_eq (by decide)
  have hex : exec .hwmCommitted s = .next u.showJnl := by
    have hwait : u.jnl.waiting = [] := hu ▸ hw
    have hcmds : u.showJnl.bel.cmds = [] := by rw [hbel, ← hu]; exact hc
    have hgo : (decide (s.bel.seqNext < s.bel.blockEnd) || decide (2 ^ 62 ≤ s.bel.seqNext) || !s.released dNoc) = false := by
      simp [hr, hb]
      omega
    simp only [exec, execHwmCommitted, hgo, Bool.false_eq_true, if_false, hu, State.acceptWaiting_of_none hwait,
      State.releaseHeld_of_no_cmds hcmds]
  have hpair : u.pair 33 = some [blockTop s.bel.seqNext, s.jnl.lap] := by rw [← hu, State.pair_saveHwm]; rfl
  have hshown : u.showJnl.pair 33 = u.pair 33 := by rw [State.pair, State.pair, State.showJnl_jnl]
  refine ⟨_, hex, ?_, ?_, ?_, ?_⟩
  · rw [hbel, ← hu]
    rfl
  · rw [hbel, ← hu]
    rfl
  · rw [State.showJnl_jnl, ← hu]
    rfl
  · rw [hshown, hpair, State.showJnl_jnl, ← hu]
    rfl

theorem exec_seqNextWrite (h : s.writable r R.BEL_SEQ_NEXT = true) : exec (.seqNextWrite r v) s = .next (s.writeSeqNext v) := by
  simp [exec, execSeqNextWrite, State.withWrite_writable h]

theorem State.writeSeqNext_raises (hb : s.getb F.BEL_ERR_HWM_BAD = true) (hm : s.md = mKindling) (hn : s.bel.seqNext < v) (hv : v ≤ 2 ^ 62) :
    s.writeSeqNext v = (s.updBel (fun b => { b with seqNext := (v + 1048575) / 1048576 * 1048576, blockEnd := (v + 1048575) / 1048576 * 1048576 })).saveHwm
      ((v + 1048575) / 1048576 * 1048576) := by
  have hround : (v + 2 ^ 20 - 1) / 2 ^ 20 * 2 ^ 20 = (v + 1048575) / 1048576 * 1048576 := by omega
  have hle : (v + 1048575) / 1048576 * 1048576 ≤ 2 ^ 62 := by omega
  simp only [State.writeSeqNext, hb, hm, hn, beq_self_eq_true, decide_true, Bool.and_true, if_true, hround]
  rw [if_pos hle]

theorem seqNextWrite_raises (h : s.writable r R.BEL_SEQ_NEXT = true) (hb : s.getb F.BEL_ERR_HWM_BAD = true) (hm : s.md = mKindling)
    (hn : s.bel.seqNext < v) (hv : v ≤ 2 ^ 62) :
    Does (.seqNextWrite r v) s [.bel, .jnl] [] (fun t => t.bel.seqNext = (v + 1048575) / 1048576 * 1048576 ∧ t.jnl.hwm = t.bel.seqNext ∧
      t.bel.blockEnd = t.bel.seqNext) := by
  refine ⟨_, exec_seqNextWrite h, ?_⟩
  rw [State.writeSeqNext_raises hb hm hn hv]
  exact ⟨⟨rfl, rfl, rfl⟩, (((Kept.refl _ _ s).updBel (by simp) _).updJnl (by simp) _).updJnl (by simp) _⟩

theorem seqNextWrite_ignored (h : s.writable r R.BEL_SEQ_NEXT = true) (hm : s.md ≠ mKindling) :
    Does (.seqNextWrite r v) s [] [] (fun t => t = s) := by
  have hw : s.writeSeqNext v = s := by simp [State.writeSeqNext, hm]
  exact ⟨_, exec_seqNextWrite h, hw, hw.symm ▸ Kept.refl _ _ s⟩

theorem State.checkHold_kept (s : State) (eff : State → State) : Kept logParts (F.DMP_ERR_HOLD_SHORT :: logFlds) (eff s) (s.checkHold eff) := by
  have h0 := Kept.refl logParts (F.DMP_ERR_HOLD_SHORT :: logFlds) (eff s)
  unfold State.checkHold
  dsimp only
  split
  · exact h0
  · split
    · exact h0.setb (by simp)
    · exact (h0.setb (by simp)).logged (fun _ h => h) (by simp +contextual)

theorem exec_dirtyBoundWrite (h : s.writable r R.BEL_DIRTY_BOUND = true) :
    exec (.dirtyBoundWrite r v) s = .next (s.checkHold (fun s => s.writeBound v)) := by
  simp [exec, execDirtyBoundWrite, State.withWrite_writable h]

theorem dirtyBoundWrite_accepts (h : s.writable r R.BEL_DIRTY_BOUND = true) (h1 : 64 ≤ v) (h2 : v ≤ 1024) :
    Gives (.dirtyBoundWrite r v) s (fun t => t.get F.BEL_DIRTY_BOUND_LIMIT = v ∧ t.bel = s.bel) := by
  have hmod : v % 2 ^ 11 = v := Nat.mod_eq_of_lt (by omega)
  have hw : s.writeBound v = s.set F.BEL_DIRTY_BOUND_LIMIT v := by simp only [State.writeBound, hmod, h1, h2, decide_true, Bool.and_true, if_true]
  have hkept := s.checkHold_kept (fun s => s.writeBound v)
  refine ⟨_, exec_dirtyBoundWrite h, ?_, ?_⟩
  · rw [hkept.get_eq (by decide), hw, State.get_set_same]
    exact Nat.mod_eq_of_lt (Nat.lt_of_le_of_lt h2 (by decide))
  · rw [hkept.bel_eq (by decide), hw]
    rfl

theorem dirtyBoundWrite_refuses (h : s.writable r R.BEL_DIRTY_BOUND = true) (h1 : v < 64) :
    Gives (.dirtyBoundWrite r v) s (fun t => t.get F.BEL_DIRTY_BOUND_LIMIT = s.get F.BEL_DIRTY_BOUND_LIMIT ∧ t.getb F.BEL_ERR_CFG = true) := by
  have hmod : v % 2 ^ 11 = v := Nat.mod_eq_of_lt (by omega)
  have hw : s.writeBound v = s.setb F.BEL_ERR_CFG true := by
    simp only [State.writeBound, hmod, Nat.not_le.mpr h1, decide_false, Bool.false_and, Bool.false_eq_true, if_false]
  have hkept := s.checkHold_kept (fun s => s.writeBound v)
  refine ⟨_, exec_dirtyBoundWrite h, ?_, ?_⟩
  · rw [hkept.get_eq (by decide), hw]
    exact State.get_set_other _ _ _ _ (by decide)
  · rw [hkept.getb_eq (by decide), hw]
    exact State.getb_setb_same (by decide)

/-- Settles O33: payloads and completions, then doorbells and counts. -/
theorem writesComplete : Obligations.WritesComplete := by
  unfold Obligations.WritesComplete
  exact ⟨⟨fun _ _ _ _ _ _ => payloadLands_stages, fun _ _ _ _ => writeComplete_completes, fun _ _ _ _ _ _ => cqEntryPost_posts⟩,
    fun _ _ _ _ _ => sqDoorbell_moves, fun _ _ _ _ _ => cqDoorbell_moves, fun _ => writeFetchResume_resumes, fun _ => hwmCommitted_commits,
    fun _ _ _ => seqNextWrite_raises, fun _ _ _ => seqNextWrite_ignored,
    fun _ _ _ h => ⟨dirtyBoundWrite_accepts h, dirtyBoundWrite_refuses h⟩⟩

end Sys2Proof.Machine
end

section
/-! An entry at the head of a submission queue is fetched (R106-R109) and passes the checks of R591. -/

namespace Sys2Proof.Machine

variable {s t u : State} {p q v a : Nat} {e : Entry} {k : CmdKind}

/-! ### What a fetch leaves -/

/-- A fetch changes Bellows' turns and queues, and the ports and what they emit: nothing that checks, stamps or starts a command. -/
def Refetched (s u : State) : Prop :=
  ∃ bel ports out, u = { s with bel, ports, out } ∧
    bel = { s.bel with lastPort := bel.lastPort, member := bel.member, burstLeft := bel.burstLeft, wrrLeft := bel.wrrLeft, ctrls := bel.ctrls }

theorem State.evictAll_eq (p : Nat) : ∀ (l : List (Nat × Bool)) (s : State), ∃ out, l.foldl (fun s x => s.evictLine p x) s = { s with out }
  | [], s => ⟨s.out, rfl⟩
  | x :: l, s => State.evictAll_eq p l (s.evictLine p x)

theorem State.holdLine_eq (s : State) (p key : Nat) (own : Bool) : ∃ ports out, s.holdLine p key own = { s with ports, out } := by
  unfold State.holdLine
  dsimp only
  split
  · exact ⟨s.ports, s.out, rfl⟩
  · split
    · obtain ⟨out, h⟩ := State.evictAll_eq p _ _
      exact ⟨_, out, h⟩
    · obtain ⟨out, h⟩ := State.evictAll_eq p _ _
      exact ⟨_, out, h⟩

theorem State.served_eq (s : State) (p m : Nat) : ∃ bel : BelSt, s.served p m = { s with bel } ∧
    bel = { s.bel with lastPort := bel.lastPort, member := bel.member, burstLeft := bel.burstLeft, wrrLeft := bel.wrrLeft } := by
  unfold State.served
  split
  · exact ⟨_, rfl, rfl⟩
  · exact ⟨_, rfl, rfl⟩

theorem State.sqFetched_refetched (s : State) (p q : Nat) : Refetched s (s.sqFetched p q) := by
  obtain ⟨bel, hs, hb⟩ := s.served_eq p q
  obtain ⟨ports, out, hh⟩ := (s.served p q).holdLine_eq p (sqLine q (Tab.getD (s.ctrl p).sqs q {}).head) false
  have he : s.sqFetched p q = ({ s with bel, ports, out } : State).updCtrl p
      (fun c => { c with sqs := Tab.upd c.sqs q {} (fun x => { x with head := (x.head + 1) % x.size }) }) := by
    show ((s.served p q).holdLine p (sqLine q (Tab.getD (s.ctrl p).sqs q {}).head) false).updCtrl p _ = _
    rw [hh, hs]
  refine ⟨_, ports, out, he, ?_⟩
  rw [hb]

theorem State.sqFetched_kept (s : State) (p q : Nat) : Kept (fetchParts s p) [] s (s.sqFetched p q) := by
  obtain ⟨bel, hs, -⟩ := s.served_eq p q
  have hserved : Kept (fetchParts s p) [] s (s.served p q) := by
    rw [hs]
    apply (Kept.refl _ _ s).blocks <;> simp [fetchParts]
    split <;> simp
  have hbel : Part.bel ∈ fetchParts s p := by unfold fetchParts; split <;> simp
  refine Kept.updBel ?_ hbel _
  by_cases hon : s.getb (F.HST_LINK_STS_CACHE_ON p) = true
  · refine hserved.trans ((State.holdLine_kept _ _ _ _).widen ?_ (by simp))
    simp [fetchParts, hon]
  · have hoff : (s.served p q).getb (F.HST_LINK_STS_CACHE_ON p) = false := by
      rw [hs]
      exact Bool.eq_false_iff.mpr hon
    rw [State.holdLine_off hoff]
    exact hserved

theorem Refetched.bel_facts (h : Refetched s u) : u.bel.cmds = s.bel.cmds ∧ u.bel.nextId = s.bel.nextId ∧ u.bel.seqNext = s.bel.seqNext ∧
    u.bel.vols = s.bel.vols ∧ u.bel.blockEnd = s.bel.blockEnd ∧ u.bel.sanitizeFail = s.bel.sanitizeFail := by
  obtain ⟨bel, ports, out, rfl, hb⟩ := h
  simp only
  rw [hb]
  exact ⟨rfl, rfl, rfl, rfl, rfl, rfl⟩

theorem Refetched.usable (h : Refetched s u) (hu : Usable s p v) : Usable u p v := by
  obtain ⟨-, -, -, hvols, -, -⟩ := h.bel_facts
  have hvol : u.vol v = s.vol v := by rw [State.vol, State.vol, hvols]
  obtain ⟨bel, ports, out, rfl, -⟩ := h
  unfold Usable
  rw [hvol]
  exact hu

/-- Two states agree in what the choice of zones and stripes reads. -/
structure SameDrives (s u : State) : Prop where
  regs : u.regs = s.regs
  drv : u.drv = s.drv
  mode : u.mode = s.mode

theorem SameDrives.get (h : SameDrives s u) (f : Fld) : u.get f = s.get f := by rw [State.get, State.get, h.regs]

theorem SameDrives.aloneMode (h : SameDrives s u) : u.aloneMode = s.aloneMode := by
  rw [State.aloneMode, State.aloneMode, State.md, State.md, h.get, h.mode]

theorem SameDrives.inPool (h : SameDrives s u) : u.inPool = s.inPool := funext fun i => by
  rw [State.inPool, State.inPool, h.aloneMode, State.head, State.head, h.get]

theorem SameDrives.usedZones (h : SameDrives s u) : u.usedZones = s.usedZones := funext fun d => by
  rw [State.usedZones, State.usedZones, h.drv]

theorem SameDrives.pickZone (h : SameDrives s u) (d : Nat) : ∀ n i, u.pickZone d n i = s.pickZone d n i
  | 0, _ => rfl
  | n + 1, i => by rw [State.pickZone, State.pickZone, h.inPool, h.usedZones, h.pickZone d n]

theorem SameDrives.freeStripe (h : SameDrives s u) : ∀ n i, u.freeStripe n i = s.freeStripe n i
  | 0, _ => rfl
  | n + 1, i => by rw [State.freeStripe, State.freeStripe, h.inPool, h.drv, h.freeStripe n]

theorem SameDrives.freeZones (h : SameDrives s u) : u.freeZones = s.freeZones := funext fun d => by
  rw [State.freeZones, State.freeZones, State.drive, State.drive, State.head, State.head, h.aloneMode, h.get, h.drv, h.inPool, h.usedZones]

theorem SameDrives.newMembers (h : SameDrives s u) (n c : Nat) : u.newMembers n c = s.newMembers n c := by
  have hdrive : u.drive = s.drive := funext fun d => by rw [State.drive, State.drive, h.drv]
  have hpick : u.pickZone = s.pickZone := funext fun d => funext fun n => funext fun i => h.pickZone d n i
  have hzones : u.zoneDrives = s.zoneDrives := funext fun ok => by rw [State.zoneDrives, State.zoneDrives, h.drv, h.freeZones]
  have hk : u.geomK = s.geomK := h.get _
  have hm : u.geomM = s.geomM := funext fun c => by rw [State.geomM, State.geomM, h.get, h.get]
  rw [State.newMembers, State.newMembers, hzones, hk, hm, hdrive, hpick]

/-- Whether data can be stored is read from the fields, the drives and the mode (R335). -/
theorem SameDrives.hasSpace (h : SameDrives s u) : u.hasSpace = s.hasSpace := by
  have hopen : u.openStripes 0 = s.openStripes 0 := by rw [State.openStripes, State.openStripes, State.head, State.head, h.drv, h.get]
  have hmem : u.newMembers = s.newMembers := funext fun n => funext fun c => h.newMembers n c
  have hnext : u.nextStripe 0 = s.nextStripe 0 := by
    rw [State.nextStripe, State.nextStripe, h.drv, h.freeStripe, h.get, hmem]
  rw [State.hasSpace, State.hasSpace, hopen, hnext]

theorem Refetched.sameDrives (h : Refetched s u) : SameDrives s u := by
  obtain ⟨bel, ports, out, rfl, -⟩ := h
  exact ⟨rfl, rfl, rfl⟩

theorem Refetched.canWrite (h : Refetched s u) (hw : CanWrite s) : CanWrite u := by
  obtain ⟨-, -, hseq, -, hblock, -⟩ := h.bel_facts
  have hgaps : u.tick.gaps = s.tick.gaps := by
    obtain ⟨bel, ports, out, rfl, -⟩ := h
    rfl
  unfold CanWrite
  rw [hseq, hblock, hgaps, State.getb, h.sameDrives.get, h.sameDrives.hasSpace]
  exact hw

theorem Refetched.program_eq (h : Refetched s u) (v g : Nat) : u.program v g = s.program v g := by
  obtain ⟨-, -, -, hvols, -, -⟩ := h.bel_facts
  rw [State.program, State.program, State.vol, State.vol, hvols]

theorem Refetched.chooseStove_eq (h : Refetched s u) (g k : Nat) : u.chooseStove g k = s.chooseStove g k := by
  obtain ⟨bel, ports, out, rfl, -⟩ := h
  rfl

/-! ### The checks pass (R591) -/

/-- A command for the volume runs on this head (R412). -/
theorem State.routeOf_here (h : Usable s p v) (a : Nat) : s.routeOf v a = .here := by
  obtain ⟨-, -, -, -, -, hown, hjoin, htb⟩ := h
  simp [State.routeOf, State.moving, htb, hown, hjoin]

theorem State.volCheck_none (h : Usable s p v) : s.volCheck v = none := by
  obtain ⟨-, -, hsusp, hfmt, -⟩ := h
  simp [State.volCheck, hsusp, hfmt]

/-- No check ends an NVMe entry for a usable volume whose granules, SGL and late checks pass. -/
theorem State.checkEntry_none (h : Usable s e.port (e.nsid - 1)) (hsan : s.getb F.BEL_STS_SANITIZING = false) (hfail : s.bel.sanitizeFail = false)
    (hk : e.kind = some k) (hr : e.ring = false) (hn : e.nsid ≠ 0) (hname : e.namesVol k = true) (hlen : e.len ≤ 2 ^ 21)
    (hlba : s.lbaBad e k = false) (hsgl : k = .read ∨ k = .write → e.len ≤ e.sgl) (hbad : e.sglBad = false)
    (hlate : s.lateCheck (e.nsid - 1) e.pgm k true = none) : s.checkEntry e true = none := by
  have hvol : e.vol = e.nsid - 1 := by simp [Entry.vol, hr]
  have hvc := State.volCheck_none h
  obtain ⟨hpres, hatt, -⟩ := h
  have hshort : ((k == .read || k == .write) && decide (e.sgl < e.len)) = false := by
    by_cases hrw : k = .read ∨ k = .write
    · simp [Nat.not_lt.mpr (hsgl hrw)]
    · simp_all
  have hlong : decide (e.len > 2 ^ 21) = false := by simpa using hlen
  have hlb : s.lenBad e k = false := by simp [State.lenBad, hr]
  simp only [State.checkEntry, hsan, hfail, hk, hr, hlb, hname, hvol, hpres, hatt, hvc, hlba, hbad, hlate, hlong, Bool.not_false, Bool.not_true,
    Bool.false_and, Bool.true_and, Bool.and_false, Bool.or_false, Bool.false_or, beq_iff_eq, hn, Bool.false_eq_true, if_false, hshort]

/-- The late checks of a command that takes no capacity it has not, and whose program a Stove runs. -/
theorem State.lateCheck_none {g : Nat} (h : Usable s p v) (hcap : k.writes = true → CanWrite s)
    (hst : k = .read ∨ k = .write → (s.chooseStove (s.program v g) k.item).isSome = true) : s.lateCheck v g k true = none := by
  obtain ⟨-, -, -, -, hro, -, hjoin, -⟩ := h
  have hst' : ((k == .read || k == .write) && (s.chooseStove (s.program v g) k.item).isNone) = false := by
    by_cases hrw : k = .read ∨ k = .write
    · have := hst hrw
      rw [Option.isNone_eq_false_iff.mpr this, Bool.and_false]
    · simp_all
  have hcap' : (k.writes && s.noCapacity v k) = false := by
    by_cases hw : k.writes = true
    · obtain ⟨-, -, -, hmax, hfull, hspace⟩ := hcap hw
      have hmax' : s.bel.seqNext < 4611686018427387904 := hmax
      simp [State.noCapacity, hfull, hspace, hmax']
    · simp_all
  simp [State.lateCheck, hro, hjoin, hcap', hst']

/-! ### Fetching -/

theorem State.seqReady_of_canWrite (h : CanWrite s) (a : Nat) : s.seqReady a = true := by
  obtain ⟨-, -, hblock, hmax, -⟩ := h
  have hmax' : s.bel.seqNext < 4611686018427387904 := hmax
  simp [State.seqReady, hblock, hmax']

/-- In its turn, with write fetch running, an entry that can take a sequence and stays within the dirty bound is taken. -/
theorem State.fetchSq_takes {x : SubQ} {y : CplQ} (i : Instr) (h : OneFetch s e.port e.queue x y) (hk : e.kind = some k)
    (hseq : k.writes = true → CanWrite s) (hd : k = .write → s.dirty + e.len ≤ s.bound) :
    s.fetchSq i e = (s.sqFetched e.port e.queue).admitEntry e 0 := by
  obtain ⟨hturn, hq, -, hmd, hstop, -⟩ := h
  have hready : s.seqsFor e = true := by
    by_cases hw : k.writes = true
    · simp [State.seqsFor, State.seqReady_of_canWrite (hseq hw)]
    · simp [State.seqsFor, hk, hw]
  have hbound : (k == .write && decide (s.dirty + e.len > s.bound)) = false := by
    by_cases hw : k = .write
    · simp [Nat.not_lt.mpr (hd hw)]
    · simp [hw]
  simp only [State.fetchSq, State.stopOr, hk, Option.getD_some, hturn, hstop, hready, hbound, beq_iff_eq, hq, hmd, if_false, Bool.not_true,
    Bool.and_false, Bool.false_and, Bool.false_eq_true]

end Sys2Proof.Machine
end

section
/-! Commands start (R29, R111-R113, R124): grates are asked for, deallocation records posted. -/

namespace Sys2Proof.Machine

variable {s t u : State} {c : Cmd} {e : Entry} {k : CmdKind} {r : GrateReq} {p q n v ch : Nat}

/-! ### Requests that wait (R29) -/

theorem bpCnt_key_ne_rsv {i : Nat} (h : i < 8) : (F.GRT_CH_RSV_RSV i).key ≠ (F.GRT_BP_CNT_COUNT ch).key := by
  simp only [Fld.key, F.GRT_CH_RSV_RSV, F.GRT_BP_CNT_COUNT]
  omega

theorem bpCnt_key_ne_own_rsv : (F.GRT_CH_RSV_RSV ch).key ≠ (F.GRT_BP_CNT_COUNT ch).key := by
  simp only [Fld.key, F.GRT_CH_RSV_RSV, F.GRT_BP_CNT_COUNT]
  omega

theorem bpCnt_key_ne_own_cap : (F.GRT_CH_CAP_CAP ch).key ≠ (F.GRT_BP_CNT_COUNT ch).key := by
  simp only [Fld.key, F.GRT_CH_CAP_CAP, F.GRT_BP_CNT_COUNT]
  omega

theorem State.canReserve_enqueue : (s.enqueue r).canReserve r.chan = s.canReserve r.chan := by
  simp only [State.canReserve, State.chanTotal, State.chanShared]
  rw [State.enqueue, State.incSat_eq, State.get_set_other _ _ _ _ bpCnt_key_ne_own_rsv]
  rfl

theorem State.rsvSum_enqueue : (s.enqueue r).rsvSum = s.rsvSum := by
  refine List.foldl_ext _ _ _ fun a i hi => ?_
  rw [State.enqueue, State.incSat_eq, State.get_set_other _ _ _ _ (bpCnt_key_ne_rsv (List.mem_range.mp hi))]
  rfl

theorem State.canShare_enqueue : (s.enqueue r).canShare r.chan = s.canShare r.chan := by
  simp only [State.canShare, State.sharedFree, State.rsvSum_enqueue]
  rw [State.enqueue, State.incSat_eq, State.get_set_other _ _ _ _ bpCnt_key_ne_own_cap]
  rfl

/-- Where the channel has no grate to give, every request waits. -/
theorem State.requestN_waits (hr : s.canReserve r.chan = false) (hs : s.canShare r.chan = false) (n : Nat) :
    (s.requestN r n).pool = { s.pool with waiting := s.pool.waiting ++ List.replicate n r } := by
  have hfold : ∀ (l : List Nat) (u : State), u.canReserve r.chan = false → u.canShare r.chan = false →
      (l.foldl (fun s _ => s.request r) u).pool = { u.pool with waiting := u.pool.waiting ++ List.replicate l.length r } := by
    intro l
    induction l with
    | nil => simp
    | cons x l ih =>
      intro u hr hs
      rw [List.foldl_cons, State.request_waits hr (.inl hs), ih _ (State.canReserve_enqueue.trans hr) (State.canShare_enqueue.trans hs)]
      simp [State.enqueue, State.updPool, State.incSat_eq, State.set, List.replicate_succ]
  have hall := hfold (List.range n) s hr hs
  rw [List.length_range] at hall
  exact hall

/-- Nothing can go on with its grates: no command in its landing stage holds all of its own, and nothing else waits. -/
theorem State.runGranted_none (hc : s.bel.cmds.filter (fun c => c.stage == .landing && s.allGranted c) = []) (hn : NoneWait s) : s.runGranted = s := by
  obtain ⟨hi, ho, hr, hd⟩ := hn
  simp only [State.runGranted, hc, List.foldl_nil, hi, List.filter_nil, State.sendReady_of_sent hd, State.pumpMir, ho, hr]

/-! ### The command of an entry -/

/-- The command an entry becomes (R111). -/
def State.entryCmd (s : State) (e : Entry) : Cmd :=
  { id := s.bel.nextId, port := e.port, ring := e.ring, queue := e.queue, cid := e.cid, kind := e.kind.getD .nop, vol := e.vol,
    lba := e.lba, len := e.len, pgm := e.pgm, irq := e.irq, atime := s.now, seq := 0, chead := 0, stage := .landing, slot := 0,
    ranges := if e.ring || e.kind == some .writeZeroes then [(e.lba, e.len / 4096)] else e.ranges, stream := e.stream, buckets := e.buckets }

/-- A read, write or deallocation that no check ends starts. -/
theorem State.admitEntry_launches (hroute : s.routeOf e.vol s.now = .here) (hcheck : s.checkEntry e true = none) (hk : e.kind = some k)
    (hkind : k = .read ∨ k.writes = true) : s.admitEntry e 0 = (s.newCmd (s.entryCmd e)).launchCmd (s.entryCmd e) := by
  have hown : (s.routeOf e.vol s.now != Route.away) = true := by rw [hroute]; rfl
  unfold State.admitEntry
  dsimp only
  rw [hown, hcheck]
  cases k with
  | read | write | dealloc | writeZeroes => simp only [hk, Option.getD_some, State.entryCmd]
  | flush | nop | replGet => simp [CmdKind.writes] at hkind

/-- A command that takes its sequence, or none, and starts on this head. -/
def Cmd.started (c : Cmd) (seq : Nat) : Cmd := { c with away := false, seq, stage := .landing }

theorem State.launchCmd_read (hk : c.kind = .read) (hf : c.foreign = none) (hr : c.ring = false) (hroute : s.routeOf c.vol c.atime = .here) :
    s.launchCmd c = ((s.updCmd c.id (fun _ => c.started c.seq)).requestN { chan := c.port, user := cmdUser c.id, atime := c.atime } c.granules).runGranted := by
  simp only [State.launchCmd, hk, hf, hr, hroute, CmdKind.writes]
  simp [Cmd.started, Cmd.chan, Cmd.granules, hf, hk, hr]
  rfl

theorem State.launchCmd_write (hk : c.kind = .write) (hf : c.foreign = none) (hr : c.ring = false) (hroute : s.routeOf c.vol c.atime = .here)
    (hw : CanWrite s) :
    s.launchCmd c = (((s.updBel BelSt.stepped).updCmd c.id (fun _ => c.started s.bel.seqNext)).requestN
      { chan := c.port, user := cmdUser c.id, atime := c.atime } c.granules).runGranted := by
  have hready := State.seqReady_of_canWrite hw c.atime
  obtain ⟨hgaps, -⟩ := hw
  simp only [State.launchCmd, hk, hf, hr, hroute, CmdKind.writes, hready, State.nextSeq_of_no_gaps hgaps, State.takeSeq_of_no_gaps hgaps]
  simp [Cmd.started, Cmd.chan, Cmd.granules, hf, hk, hr]
  rfl

theorem State.launchCmd_dealloc (hk : c.kind = .dealloc ∨ c.kind = .writeZeroes) (hf : c.foreign = none) (hr : c.ring = false)
    (hroute : s.routeOf c.vol c.atime = .here) (hw : CanWrite s) :
    s.launchCmd c = ((s.updBel BelSt.stepped).updCmd c.id (fun _ => c.started s.bel.seqNext)).postDealloc (c.started s.bel.seqNext) := by
  have hready := State.seqReady_of_canWrite hw c.atime
  obtain ⟨hgaps, -⟩ := hw
  rcases hk with hk | hk
  · simp only [State.launchCmd, hk, hf, hr, hroute, CmdKind.writes, hready, State.nextSeq_of_no_gaps hgaps, State.takeSeq_of_no_gaps hgaps]
    simp [Cmd.started, hf, hk, hr]
    rfl
  · simp only [State.launchCmd, hk, hf, hr, hroute, CmdKind.writes, hready, State.nextSeq_of_no_gaps hgaps, State.takeSeq_of_no_gaps hgaps]
    simp [Cmd.started, hf, hk, hr]
    rfl

end Sys2Proof.Machine
end

section
/-! The four commands of R124 that start: Read, Write, Write Zeroes and Dataset Management. -/

namespace Sys2Proof.Machine

variable {s t u : State} {c : Cmd} {e : Entry} {k : CmdKind} {r : GrateReq} {p q n v lba cid nsid slba : Nat} {x : SubQ} {y : CplQ} {i : Instr}

/-! ### From the queue to its start -/

theorem Refetched.pool_eq (h : Refetched s u) : u.pool = s.pool := by obtain ⟨bel, ports, out, rfl, -⟩ := h; rfl
theorem Refetched.now_eq (h : Refetched s u) : u.now = s.now := by obtain ⟨bel, ports, out, rfl, -⟩ := h; rfl
theorem Refetched.canReserve_eq (h : Refetched s u) (c : Nat) : u.canReserve c = s.canReserve c := by obtain ⟨bel, ports, out, rfl, -⟩ := h; rfl
theorem Refetched.canShare_eq (h : Refetched s u) (c : Nat) : u.canShare c = s.canShare c := by obtain ⟨bel, ports, out, rfl, -⟩ := h; rfl
theorem Refetched.noneWait (h : Refetched s u) (hn : NoneWait s) : NoneWait u := by obtain ⟨bel, ports, out, rfl, -⟩ := h; exact hn

theorem Refetched.lbaBad_eq (h : Refetched s u) (e : Entry) (k : CmdKind) : u.lbaBad e k = s.lbaBad e k := by
  obtain ⟨-, -, -, hvols, -⟩ := h.bel_facts
  have hvol : u.vol e.vol = s.vol e.vol := by rw [State.vol, State.vol, hvols]
  simp only [State.lbaBad, hvol]

theorem State.newCmd_cmds (h : s.bel.cmds = []) (c : Cmd) : (s.newCmd c).bel.cmds = [c] := by simp [State.newCmd, State.updBel, h]

theorem State.newCmd_canWrite (h : CanWrite s) (c : Cmd) : CanWrite (s.newCmd c) := by
  obtain ⟨hgaps, hpos, hblock, hmax, hfull, hspace⟩ := h
  exact ⟨hgaps, hpos, hblock, hmax, hfull, (SameDrives.hasSpace (s := s) (u := s.newCmd c) ⟨rfl, rfl, rfl⟩).trans hspace⟩

/-- An entry that passes every check is taken out of its queue and starts. -/
theorem State.fetchSq_launches (h : OneFetch s e.port e.queue x y) (hu : Usable s e.port (e.nsid - 1)) (hn : e.nsid ≠ 0) (hk : e.kind = some k)
    (hkind : k = .read ∨ k.writes = true) (hr : e.ring = false) (hlen : e.len ≤ 2 ^ 21) (hlba : s.lbaBad e k = false)
    (hsgl : k = .read ∨ k = .write → e.len ≤ e.sgl) (hbad : e.sglBad = false) (hcap : k.writes = true → CanWrite s)
    (hd : k = .write → s.dirty + e.len ≤ s.bound)
    (hst : k = .read ∨ k = .write → (s.chooseStove (s.program (e.nsid - 1) e.pgm) k.item).isSome = true) :
    ∃ u c, Refetched s u ∧ Kept (fetchParts s e.port) [] s u ∧ c = u.entryCmd e ∧ (u.newCmd c).bel.cmds = [c] ∧
      s.fetchSq i e = (u.newCmd c).launchCmd c := by
  have hf := s.sqFetched_refetched e.port e.queue
  have hkept := s.sqFetched_kept e.port e.queue
  have htake := State.fetchSq_takes i h hk hcap hd
  generalize s.sqFetched e.port e.queue = u at hf hkept htake
  obtain ⟨-, -, -, -, -, hcmds, hsan, hfail, -⟩ := h
  obtain ⟨hcmds', -, -, -, -, hfail'⟩ := hf.bel_facts
  have husable := hf.usable hu
  have hname : e.namesVol k = true := by
    rcases hkind with rfl | hw
    · rfl
    · cases k <;> simp_all [Entry.namesVol, CmdKind.writes]
  have hlate : u.lateCheck (e.nsid - 1) e.pgm k true = none :=
    State.lateCheck_none husable (fun hw => hf.canWrite (hcap hw)) fun hrw => by rw [hf.program_eq, hf.chooseStove_eq]; exact hst hrw
  have hvol : e.vol = e.nsid - 1 := by simp [Entry.vol, hr]
  have hcheck : u.checkEntry e true = none :=
    State.checkEntry_none husable (by rw [State.getb, hf.sameDrives.get]; exact hsan) (hfail'.trans hfail) hk hr hn hname hlen
      ((hf.lbaBad_eq e k).trans hlba) hsgl hbad hlate
  exact ⟨u, u.entryCmd e, hf, hkept, rfl, State.newCmd_cmds (hcmds'.trans hcmds) _,
    htake.trans (State.admitEntry_launches (hvol ▸ State.routeOf_here husable _) hcheck hk hkind)⟩

/-! ### Reads and writes wait for their grates -/

/-- The only command in flight asks for grates of a channel that has none to give. -/
theorem State.grates_wait (hc : s.bel.cmds = [c]) (hl : 0 < c.granules) (hn : NoneWait s) (hr : s.canReserve r.chan = false)
    (hs : s.canShare r.chan = false) (hg : s.gratesOf (cmdUser c.id) = []) :
    (s.requestN r n).runGranted.bel = s.bel ∧ (s.requestN r n).runGranted.pool.waiting.length = s.pool.waiting.length + n ∧
    Kept [.pool] [F.GRT_BP_CNT_COUNT r.chan] s (s.requestN r n).runGranted := by
  have hkept := s.requestN_kept r n
  have hpool := State.requestN_waits hr hs n
  generalize s.requestN r n = t at hkept hpool
  have hbel := hkept.bel_eq (by decide)
  have hidle : t.runGranted = t := by
    refine State.runGranted_none ?_ ?_
    · have hheld : t.gratesOf (cmdUser c.id) = [] := by rw [State.gratesOf, hpool]; exact hg
      have hno : (0 == c.granules) = false := by simpa using Nat.ne_of_lt hl
      rw [hbel, hc]
      simp [State.allGranted, hheld, hno]
    · obtain ⟨hi, ho, hre, hd⟩ := hn
      exact ⟨hkept.crl_eq (by decide) ▸ hi, hkept.crl_eq (by decide) ▸ ho, hkept.jnl_eq (by decide) ▸ hre, by rw [hkept.2.1 .drv (by decide)]; exact hd⟩
  rw [hidle]
  exact ⟨hbel, by simp [hpool], hkept⟩

theorem updCmd_one {c d : Cmd} (h : s.bel.cmds = [c]) : (s.updCmd c.id (fun _ => d)).bel.cmds = [d] := by
  simp [State.updCmd, State.updBel, h]

/-- The granules of `n` blocks of 4,096 bytes. -/
theorem Cmd.granules_eq (h : c.len = 4096 * n) : c.granules = n := by rw [Cmd.granules, h]; omega

/-- Once fetched, the only command in flight waits for its grates. -/
theorem Refetched.grates_wait (hf : Refetched s u) (hk : Kept (fetchParts s p) [] s u) (ht : t = { u with bel := t.bel }) (hb : t.bel.cmds = [c])
    (hid : c.id = s.bel.nextId) (hp : r.chan = p) (hl : c.granules = n) (h0 : 0 < n) (hn : NoneWait s) (hr : s.canReserve p = false)
    (hs : s.canShare p = false) (hg : s.gratesOf (cmdUser s.bel.nextId) = []) :
    (t.requestN r n).runGranted.bel = t.bel ∧ (t.requestN r n).runGranted.pool.waiting.length = s.pool.waiting.length + n ∧
    Kept (fetchParts s p ++ [.pool]) [F.GRT_BP_CNT_COUNT p] s (t.requestN r n).runGranted := by
  subst hp
  have hbp : Part.bel ∈ fetchParts s r.chan ++ [.pool] := by unfold fetchParts; split <;> simp
  have hst : Kept (fetchParts s r.chan ++ [.pool]) [F.GRT_BP_CNT_COUNT r.chan] s t := by
    rw [ht]
    exact (hk.widen (by simp +contextual) (by simp)).updBel hbp (fun _ => t.bel)
  have hpool : t.pool = s.pool := by rw [ht]; exact hf.pool_eq
  have hres : t.canReserve r.chan = false := by rw [ht]; exact (hf.canReserve_eq _).trans hr
  have hsh : t.canShare r.chan = false := by rw [ht]; exact (hf.canShare_eq _).trans hs
  have hnone : NoneWait t := by rw [ht]; exact hf.noneWait hn
  have hheld : t.gratesOf (cmdUser c.id) = [] := by rw [hid, State.gratesOf, hpool]; exact hg
  obtain ⟨hbel, hwait, hkept⟩ := State.grates_wait (n := n) hb (hl ▸ h0) hnone hres hsh hheld
  exact ⟨hbel, by rw [hwait, hpool], hst.trans (hkept.widen (by simp) (by simp))⟩

/-- The entry of a Read. -/
def readEntry (p q cid nsid slba n : Nat) (sgl : Sgl) : Entry :=
  { port := p, ring := false, queue := q, cid, kind := some .read, nsid, lba := slba, len := 4096 * n, sgl := sgl.len, buckets := sgl.buckets }

theorem exec_nvmeRead (s : State) (p q cid nsid slba n : Nat) (sgl : Sgl) : exec (.nvmeRead p q cid nsid slba n sgl 2) s =
    .next (s.fetchSq (.nvmeRead p q cid nsid slba n sgl 2) (readEntry p q cid nsid slba n sgl)) := rfl

theorem nvmeRead_starts {sgl : Nat} {bk : List (Nat × Nat)} (h : OneFetch s p q x y) (hn : nsid ≠ 0) (hu : Usable s p (nsid - 1)) (h0 : 0 < n)
    (h512 : n ≤ 512) (hsize : slba + n ≤ (s.vol (nsid - 1)).size) (hsgl : 4096 * n ≤ sgl) (hr : s.canReserve p = false) (hs : s.canShare p = false)
    (hg : s.gratesOf (cmdUser s.bel.nextId) = []) (hw : NoneWait s) (hst : (s.chooseStove (s.program (nsid - 1) 0) 1).isSome = true) :
    Does (.nvmeRead p q cid nsid slba n ⟨sgl, bk⟩ 2) s (fetchParts s p ++ [.pool]) [F.GRT_BP_CNT_COUNT p] (fun t => ∃ c, t.bel.cmds = [c] ∧
      c.id = s.bel.nextId ∧ c.kind = .read ∧ c.buckets = bk ∧ c.vol = nsid - 1 ∧ c.lba = slba ∧ c.len = 4096 * n ∧ c.atime = s.now ∧ c.stage = .landing ∧
      t.pool.waiting.length = s.pool.waiting.length + n) := by
  have hlba : s.lbaBad (readEntry p q cid nsid slba n ⟨sgl, bk⟩) .read = false := by
    simp only [State.lbaBad, readEntry, Entry.vol]
    simp
    omega
  obtain ⟨u, c, hf, hkept, hcmd, hone, hlaunch⟩ := State.fetchSq_launches (i := .nvmeRead p q cid nsid slba n ⟨sgl, bk⟩ 2)
    (e := readEntry p q cid nsid slba n ⟨sgl, bk⟩) h hu hn rfl (.inl rfl) rfl (show 4096 * n ≤ 2 ^ 21 by omega) hlba (fun _ => hsgl) rfl
    (by simp [CmdKind.writes]) (by simp) (fun _ => hst)
  obtain ⟨-, hid, -⟩ := hf.bel_facts
  have hkind : c.kind = .read := hcmd ▸ rfl
  rw [State.launchCmd_read hkind (hcmd ▸ rfl) (hcmd ▸ rfl) (by rw [hcmd]; exact State.routeOf_here (hf.usable hu) _),
    Cmd.granules_eq (n := n) (hcmd ▸ rfl)] at hlaunch
  replace hone := updCmd_one (d := c.started c.seq) hone
  have ht : (u.newCmd c).updCmd c.id (fun _ => c.started c.seq) = { u with bel := ((u.newCmd c).updCmd c.id (fun _ => c.started c.seq)).bel } := rfl
  generalize (u.newCmd c).updCmd c.id (fun _ => c.started c.seq) = t at hone ht hlaunch
  obtain ⟨hbel, hwait, hall⟩ := hf.grates_wait (r := { chan := c.port, user := cmdUser c.id, atime := c.atime }) hkept ht hone (hcmd ▸ hid)
    (hcmd ▸ rfl) (Cmd.granules_eq (hcmd ▸ rfl)) h0 hw hr hs hg
  refine ⟨_, (exec_nvmeRead s p q cid nsid slba n ⟨sgl, bk⟩).trans (congrArg Host.Outcome.next hlaunch), ⟨c.started c.seq, by rw [hbel, hone], ?_⟩, hall⟩
  subst hcmd
  exact ⟨hid, rfl, rfl, rfl, rfl, rfl, hf.now_eq, rfl, hwait⟩

end Sys2Proof.Machine
end

section
/-! Write, Write Zeroes and Dataset Management start (R111-R113, R124). -/

namespace Sys2Proof.Machine

variable {s t u : State} {c : Cmd} {p q n cid nsid slba : Nat} {x : SubQ} {y : CplQ}

/-- The entry of a Write. -/
def writeEntry (p q cid nsid slba n sgl : Nat) (bucket : Bool) : Entry :=
  { port := p, ring := false, queue := q, cid, kind := some .write, nsid, lba := slba, len := 4096 * n, sgl, sglBad := bucket }

theorem exec_nvmeWrite (s : State) (p q cid nsid slba n sgl : Nat) (bucket : Bool) : exec (.nvmeWrite p q cid nsid slba n sgl bucket) s =
    .next (s.fetchSq (.nvmeWrite p q cid nsid slba n sgl bucket) (writeEntry p q cid nsid slba n sgl bucket)) := rfl

theorem nvmeWrite_starts {sgl : Nat} (h : OneFetch s p q x y) (hn : nsid ≠ 0) (hu : Usable s p (nsid - 1)) (h0 : 0 < n) (h512 : n ≤ 512)
    (hsize : slba + n ≤ (s.vol (nsid - 1)).size) (hsgl : 4096 * n ≤ sgl) (hr : s.canReserve p = false) (hs : s.canShare p = false)
    (hg : s.gratesOf (cmdUser s.bel.nextId) = []) (hw : NoneWait s) (hcap : CanWrite s)
    (hst : (s.chooseStove (s.program (nsid - 1) 0) 0).isSome = true) (hd : s.dirty + 4096 * n ≤ s.bound) :
    Does (.nvmeWrite p q cid nsid slba n sgl false) s (fetchParts s p ++ [.pool]) [F.GRT_BP_CNT_COUNT p] (fun t => ∃ c, t.bel.cmds = [c] ∧
      c.id = s.bel.nextId ∧ c.kind = .write ∧ c.vol = nsid - 1 ∧ c.lba = slba ∧ c.len = 4096 * n ∧ c.atime = s.now ∧ c.seq = s.bel.seqNext ∧
      c.stage = .landing ∧ t.bel.seqNext = s.bel.seqNext + 1 ∧ t.pool.waiting.length = s.pool.waiting.length + n) := by
  have hlba : s.lbaBad (writeEntry p q cid nsid slba n sgl false) .write = false := by
    simp only [State.lbaBad, writeEntry, Entry.vol]
    simp
    omega
  obtain ⟨u, c, hf, hkept, hcmd, hone, hlaunch⟩ := State.fetchSq_launches (i := .nvmeWrite p q cid nsid slba n sgl false)
    (e := writeEntry p q cid nsid slba n sgl false) h hu hn rfl (.inr rfl) rfl (show 4096 * n ≤ 2 ^ 21 by omega) hlba (fun _ => hsgl) rfl
    (fun _ => hcap) (fun _ => hd) (fun _ => hst)
  obtain ⟨-, hid, hseq, -⟩ := hf.bel_facts
  rw [State.launchCmd_write (hcmd ▸ rfl) (hcmd ▸ rfl) (hcmd ▸ rfl) (by rw [hcmd]; exact State.routeOf_here (hf.usable hu) _)
    (State.newCmd_canWrite (hf.canWrite hcap) c), Cmd.granules_eq (n := n) (hcmd ▸ rfl)] at hlaunch
  have hnext : (u.newCmd c).bel.seqNext = s.bel.seqNext := hseq
  rw [hnext] at hlaunch
  have hone' : (((u.newCmd c).updBel BelSt.stepped).updCmd c.id (fun _ => c.started s.bel.seqNext)).bel.cmds = [c.started s.bel.seqNext] :=
    updCmd_one hone
  have hstep : (((u.newCmd c).updBel BelSt.stepped).updCmd c.id (fun _ => c.started s.bel.seqNext)).bel.seqNext = s.bel.seqNext + 1 :=
    congrArg (· + 1) hseq
  have ht : ((u.newCmd c).updBel BelSt.stepped).updCmd c.id (fun _ => c.started s.bel.seqNext) =
    { u with bel := (((u.newCmd c).updBel BelSt.stepped).updCmd c.id (fun _ => c.started s.bel.seqNext)).bel } := rfl
  generalize ((u.newCmd c).updBel BelSt.stepped).updCmd c.id (fun _ => c.started s.bel.seqNext) = t at hone' hstep ht hlaunch
  obtain ⟨hbel, hwait, hall⟩ := hf.grates_wait (r := { chan := c.port, user := cmdUser c.id, atime := c.atime }) hkept ht hone' (hcmd ▸ hid)
    (hcmd ▸ rfl) (Cmd.granules_eq (hcmd ▸ rfl)) h0 hw hr hs hg
  refine ⟨_, (exec_nvmeWrite s p q cid nsid slba n sgl false).trans (congrArg Host.Outcome.next hlaunch),
    ⟨c.started s.bel.seqNext, by rw [hbel, hone'], ?_⟩, hall⟩
  rw [hbel]
  subst hcmd
  exact ⟨hid, rfl, rfl, rfl, rfl, hf.now_eq, rfl, rfl, hstep, hwait⟩

/-! ### Deallocations (R124) -/

/-- The DEALLOC record of a range (R364). -/
def Cmd.deallocRec (c : Cmd) (head lba n : Nat) : JRec :=
  { seq := c.seq, atime := c.atime, type := 2, mirror := false, origin := head, vol := c.vol, len := 4096 * n, lba, tag := c.id }

/-- One range that a record can hold is posted under the command's own sequence. -/
theorem State.postDealloc_one {lba : Nat} (hr : c.ranges = [(lba, n)]) (h0 : n ≠ 0) (hn : n < 2 ^ 20 - 1) :
    s.postDealloc c = (s.updCmd c.id (fun c => { c with posted := true, recorded := false, mirDone := false })).postRec (c.deallocRec s.head lba n) := by
  have hsplit : (c.ranges.filter (fun r => r.2 != 0)).flatMap (fun r => splitRange (r.2 / (2 ^ 20 - 1)) r) = [(lba, n)] := by
    have hdiv : n / (2 ^ 20 - 1) = 0 := Nat.div_eq_of_lt hn
    simp only [hr, List.filter_cons, List.filter_nil, bne_iff_ne, ne_eq, h0, not_false_eq_true, if_true, List.flatMap_cons, List.flatMap_nil,
      List.append_nil, hdiv, splitRange]
  unfold State.postDealloc
  dsimp only
  rw [hsplit]
  rfl

/-- A command without ranges posts no record. -/
theorem State.postDealloc_none (hr : c.ranges = []) :
    s.postDealloc c = s.updCmd c.id (fun c => { c with posted := true, recorded := true, mirDone := true }) := by
  unfold State.postDealloc
  simp only [hr, List.filter_nil, List.flatMap_nil, List.isEmpty_nil]

/-- The only command in flight posts its one DEALLOC record. -/
theorem State.postDealloc_spec {lba : Nat} (hc : s.bel.cmds = [c]) (hr : c.ranges = [(lba, n)]) (h0 : n ≠ 0) (hn : n < 2 ^ 20 - 1) (hs : c.seq ≠ 0) :
    (s.postDealloc c).bel.cmds = [{ c with posted := true, recorded := false, mirDone := false }] ∧
    ∃ r ∈ (s.postDealloc c).jnl.recs ++ (s.postDealloc c).jnl.waiting, r.type = 2 ∧ r.seq = c.seq ∧ r.vol = c.vol ∧ r.lba = lba ∧ r.len = 4096 * n ∧
      r.tag = c.id := by
  rw [State.postDealloc_one hr h0 hn]
  refine ⟨?_, ?_⟩
  · rw [State.postRec_cmds]
    simp [State.updCmd, State.updBel, hc]
  · obtain ⟨line, lap, pdig, -, hm⟩ := Posted.postRec (r := c.deallocRec s.head lba n) hs
      (s.updCmd c.id (fun c => { c with posted := true, recorded := false, mirDone := false }))
    exact ⟨_, hm, rfl, rfl, rfl, rfl, rfl, rfl⟩

/-- The entry of a Write Zeroes, and that of a Dataset Management with the Deallocate bit or without. -/
def zeroesEntry (p q cid nsid slba n : Nat) : Entry :=
  { port := p, ring := false, queue := q, cid, kind := some .writeZeroes, nsid, lba := slba, len := 4096 * n }
def rangesEntry (p q cid nsid : Nat) (ranges : List (Nat × Nat)) : Entry :=
  { port := p, ring := false, queue := q, cid, kind := some .dealloc, nsid, ranges }

theorem exec_writeZeroes (s : State) (p q cid nsid slba n : Nat) : exec (.writeZeroes p q cid nsid slba n) s =
    .next (s.fetchSq (.writeZeroes p q cid nsid slba n) (zeroesEntry p q cid nsid slba n)) := rfl

theorem exec_datasetManagement (s : State) (p q cid nsid : Nat) (ad : Bool) (rs : List (Nat × Nat)) : exec (.datasetManagement p q cid nsid ad rs) s =
    .next (s.fetchSq (.datasetManagement p q cid nsid ad rs) (rangesEntry p q cid nsid (if ad then rs else []))) := rfl

/-- The state and the command of a deallocation that starts once its entry is taken. -/
theorem State.fetchSq_deallocates {e : Entry} {k : CmdKind} (i : Instr) (h : OneFetch s e.port e.queue x y) (hu : Usable s e.port (e.nsid - 1))
    (hn : e.nsid ≠ 0) (hk : e.kind = some k) (hkind : k = .dealloc ∨ k = .writeZeroes) (hr : e.ring = false) (hbad : e.sglBad = false)
    (hlen : e.len ≤ 2 ^ 21) (hlba : s.lbaBad e k = false) (hcap : CanWrite s) :
    ∃ t c, Kept (fetchParts s e.port) [] s t ∧ t.bel.cmds = [c] ∧ c.kind = k ∧ c.id = s.bel.nextId ∧ c.seq = s.bel.seqNext ∧ c.vol = e.nsid - 1 ∧
      c.ranges = (if e.kind = some .writeZeroes then [(e.lba, e.len / 4096)] else e.ranges) ∧ s.fetchSq i e = t.postDealloc c := by
  have hnrw : ¬ (k = .read ∨ k = .write) := by rcases hkind with rfl | rfl <;> simp
  have hw : k.writes = true := by rcases hkind with rfl | rfl <;> rfl
  obtain ⟨u, c, hf, hkept, hcmd, hone, hlaunch⟩ := State.fetchSq_launches (i := i) h hu hn hk (.inr hw) hr hlen hlba (fun h => absurd h hnrw) hbad
    (fun _ => hcap) (fun h => absurd (.inr h) hnrw) (fun h => absurd h hnrw)
  obtain ⟨-, hid, hseq, -⟩ := hf.bel_facts
  have hvol : c.vol = e.nsid - 1 := by rw [hcmd]; simp [State.entryCmd, Entry.vol, hr]
  have hck : c.kind = k := by rw [hcmd]; simp [State.entryCmd, hk]
  rw [State.launchCmd_dealloc (by rwa [hck]) (hcmd ▸ rfl) (by rw [hcmd]; exact hr) (by rw [hvol]; exact State.routeOf_here (hf.usable hu) _)
    (State.newCmd_canWrite (hf.canWrite hcap) c)] at hlaunch
  have hnext : (u.newCmd c).bel.seqNext = s.bel.seqNext := hseq
  rw [hnext] at hlaunch
  have hbp : Part.bel ∈ fetchParts s e.port := by unfold fetchParts; split <;> simp
  have hall : Kept (fetchParts s e.port) [] s (((u.newCmd c).updBel BelSt.stepped).updCmd c.id (fun _ => c.started s.bel.seqNext)) :=
    ((hkept.updBel hbp _).updBel hbp BelSt.stepped).updBel hbp _
  have hone' : (((u.newCmd c).updBel BelSt.stepped).updCmd c.id (fun _ => c.started s.bel.seqNext)).bel.cmds = [c.started s.bel.seqNext] :=
    updCmd_one hone
  refine ⟨_, c.started s.bel.seqNext, hall, hone', hck, ?_, rfl, hvol, ?_, hlaunch⟩
  · rw [hcmd]
    exact hid
  · rw [hcmd]
    simp [Cmd.started, State.entryCmd, hr]

theorem writeZeroes_starts (h : OneFetch s p q x y) (hn : nsid ≠ 0) (hu : Usable s p (nsid - 1)) (h0 : 0 < n) (h512 : n ≤ 512)
    (hsize : slba + n ≤ (s.vol (nsid - 1)).size) (hcap : CanWrite s) :
    Gives (.writeZeroes p q cid nsid slba n) s (fun t => (∃ c, t.bel.cmds = [c] ∧ c.kind = .writeZeroes ∧ c.posted = true ∧ c.recorded = false) ∧
      ∃ r ∈ t.jnl.recs ++ t.jnl.waiting, r.type = 2 ∧ r.seq = s.bel.seqNext ∧ r.vol = nsid - 1 ∧ r.lba = slba ∧ r.len = 4096 * n ∧
        r.tag = s.bel.nextId) := by
  have hlba : s.lbaBad (zeroesEntry p q cid nsid slba n) .writeZeroes = false := by
    simp only [State.lbaBad, zeroesEntry, Entry.vol]
    simp
    omega
  obtain ⟨t, c, -, hc, hk, hid, hseq, hvol, hranges, hfetch⟩ := State.fetchSq_deallocates (.writeZeroes p q cid nsid slba n)
    (e := zeroesEntry p q cid nsid slba n) h hu hn rfl (.inr rfl) rfl rfl (show 4096 * n ≤ 2 ^ 21 by omega) hlba hcap
  have hone : c.ranges = [(slba, n)] := by
    rw [hranges]
    simp [zeroesEntry]
  obtain ⟨-, hpos, -⟩ := hcap
  obtain ⟨hcmds, r, hm, hty, hrs, hrv, hrl, hrn, hrt⟩ := State.postDealloc_spec hc hone (by omega) (by omega) (by omega)
  exact ⟨_, (exec_writeZeroes s p q cid nsid slba n).trans (congrArg Host.Outcome.next hfetch), ⟨_, hcmds, hk, rfl, rfl⟩,
    r, hm, hty, hrs.trans hseq, hrv.trans hvol, hrl, hrn, hrt.trans hid⟩

theorem datasetManagement_starts (h : OneFetch s p q x y) (hn : nsid ≠ 0) (hu : Usable s p (nsid - 1)) (h0 : 0 < n) (h512 : n ≤ 512)
    (hsize : slba + n ≤ (s.vol (nsid - 1)).size) (hcap : CanWrite s) :
    Gives (.datasetManagement p q cid nsid true [(slba, n)]) s (fun t =>
      (∃ c, t.bel.cmds = [c] ∧ c.kind = .dealloc ∧ c.posted = true ∧ c.recorded = false) ∧
      ∃ r ∈ t.jnl.recs ++ t.jnl.waiting, r.type = 2 ∧ r.seq = s.bel.seqNext ∧ r.vol = nsid - 1 ∧ r.lba = slba ∧ r.len = 4096 * n ∧
        r.tag = s.bel.nextId) := by
  have hlba : s.lbaBad (rangesEntry p q cid nsid [(slba, n)]) .dealloc = false := by
    simp only [State.lbaBad, rangesEntry, Entry.vol]
    simp
    omega
  obtain ⟨t, c, -, hc, hk, hid, hseq, hvol, hranges, hfetch⟩ := State.fetchSq_deallocates (.datasetManagement p q cid nsid true [(slba, n)])
    (e := rangesEntry p q cid nsid [(slba, n)]) h hu hn rfl (.inl rfl) rfl rfl (Nat.zero_le _) hlba hcap
  obtain ⟨-, hpos, -⟩ := hcap
  obtain ⟨hcmds, r, hm, hty, hrs, hrv, hrl, hrn, hrt⟩ := State.postDealloc_spec hc hranges (by omega) (by omega) (by omega)
  exact ⟨_, (exec_datasetManagement s p q cid nsid true [(slba, n)]).trans (congrArg Host.Outcome.next hfetch), ⟨_, hcmds, hk, rfl, rfl⟩,
    r, hm, hty, hrs.trans hseq, hrv.trans hvol, hrl, hrn, hrt.trans hid⟩

theorem datasetManagement_idle (h : OneFetch s p q x y) (hn : nsid ≠ 0) (hu : Usable s p (nsid - 1)) (hcap : CanWrite s) :
    Does (.datasetManagement p q cid nsid false [(slba, n)]) s (fetchParts s p) [] (fun t =>
      ∃ c, t.bel.cmds = [c] ∧ c.kind = .dealloc ∧ c.posted = true ∧ c.recorded = true ∧ c.mirDone = true) := by
  obtain ⟨t, c, hkept, hc, hk, -, -, -, hranges, hfetch⟩ := State.fetchSq_deallocates (.datasetManagement p q cid nsid false [(slba, n)])
    (e := rangesEntry p q cid nsid []) h hu hn rfl (.inl rfl) rfl rfl (Nat.zero_le _) rfl hcap
  rw [State.postDealloc_none hranges] at hfetch
  have hbp : Part.bel ∈ fetchParts s p := by unfold fetchParts; split <;> simp
  refine ⟨_, (exec_datasetManagement s p q cid nsid false [(slba, n)]).trans (congrArg Host.Outcome.next hfetch),
    ⟨{ c with posted := true, recorded := true, mirDone := true }, ?_, hk, rfl, rfl, rfl⟩, hkept.updBel hbp _⟩
  simp [State.updCmd, State.updBel, hc]

/-- Settles O32: a Read, a Write, then the deallocations. -/
theorem commandsStart : Obligations.CommandsStart := by
  unfold Obligations.CommandsStart
  intro s p q cid nsid slba n x y h hn hu h0 h512 hsize
  exact ⟨fun sgl hsgl hr hs hg hw => ⟨fun hst bk => nvmeRead_starts h hn hu h0 h512 hsize hsgl hr hs hg hw hst,
      fun hcap hst hd => nvmeWrite_starts h hn hu h0 h512 hsize hsgl hr hs hg hw hcap hst hd⟩,
    fun hcap => ⟨writeZeroes_starts h hn hu h0 h512 hsize hcap, datasetManagement_starts h hn hu h0 h512 hsize hcap,
      datasetManagement_idle h hn hu hcap⟩⟩

end Sys2Proof.Machine
end

section
/-! Messages of a session are taken out of the inbox (R400), and the refutation of O43: freeing no frame leaves a channel's count of freed frames as it
is, also where that count has not been reduced modulo 1,024. -/

namespace Sys2Proof.Machine

variable {s : State} {vc mtype n : Nat} {m : Bytes} {rest : List (Nat × Nat × Bytes)} {eff : State → Bytes → State}

/-- The message is gone from the inbox and its frames are freed. -/
def State.msgTaken (s : State) (vc n : Nat) (rest : List (Nat × Nat × Bytes)) : State := (s.updCrl (fun c => { c with inbox := rest })).freeFrames vc n

theorem State.takeMsg_arrived (h : Arrived s vc mtype n m rest) : s.takeMsg vc mtype = some (s.msgTaken vc n rest, m) := by
  obtain ⟨hrel, hin, htype⟩ := h
  simp only [State.takeMsg, hin, List.find?_cons, beq_self_eq_true, htype, hrel, Bool.and_self, if_true]
  simp only [State.msgTaken, State.updCrl, hin, List.erase_cons_head]

/-- A message whose tag fails is discarded and reported (R400). -/
theorem State.receive_unopened (h : Arrived s vc mtype n m rest) (hmode : s.md ≠ mBanked ∧ s.qphase ≠ 2)
    (ho : (s.msgTaken vc n rest).crlOpen m = none) :
    s.receive vc mtype eff = ((s.msgTaken vc n rest).setb F.CRL_ERR_AUTH_FAIL true).recordMs 0x0409 [] := by
  obtain ⟨hmd, hq⟩ := hmode
  simp only [State.receive, State.takeMsg_arrived h, ho, Bool.or_false, Bool.and_false, beq_eq_false_iff_ne.mpr hmd,
    beq_eq_false_iff_ne.mpr hq, Bool.false_eq_true, if_false]

/-- A message too short to hold a tag does not open. -/
theorem State.crlOpen_short (hk : (s.slotK1 1).length = 32) (hm : m.length < 16) : s.crlOpen m = none := by
  unfold State.crlOpen
  dsimp only
  refine if_neg fun he => ?_
  have htag := congrArg List.length (eq_of_beq he)
  rw [gcmTag_length _ _ _ _ hk, List.length_drop] at htag
  omega

/-- A message of no frame frees none. -/
theorem State.msgTaken_none (s : State) (vc : Nat) (rest : List (Nat × Nat × Bytes)) :
    s.msgTaken vc 0 rest = s.updCrl (fun c => { c with inbox := rest }) := by simp [State.msgTaken, State.freeFrames]

/-- Creterlink released, with one message in the inbox, of MTYPE 2, of no frame and too short to hold a tag, and 1,024 as the count of channel 0's
freed frames. -/
def unreducedCount : State :=
  { State.reset.set F.KDL_REL_STS_DOMAIN (2 ^ 18 - 1) with crl := { State.reset.crl with inbox := [(0, 0, [2])], rxFreed := [(0, 1024)] } }

theorem unreducedCount_arrived : Arrived unreducedCount 0 2 0 [2] [] := ⟨by decide +kernel, rfl, by decide +kernel⟩

theorem unreducedCount_open : unreducedCount.mirOpen = true ∧ unreducedCount.md ≠ mBanked ∧ unreducedCount.qphase ≠ 2 := by decide +kernel

theorem unreducedCount_slotK1 : (unreducedCount.slotK1 1).length = 32 := by
  have hnone : Tab.find unreducedCount.keys.slots 1 = none := rfl
  exact slotK1_length _ _ fun k hk => absurd (hnone.symm.trans hk) (by simp)

/-- The message is discarded, and the count stays. -/
theorem mirRec_unreducedCount : exec .mirRec unreducedCount =
    .next (((unreducedCount.updCrl (fun c => { c with inbox := [] })).setb F.CRL_ERR_AUTH_FAIL true).recordMs 0x0409 []) := by
  obtain ⟨hopen, hmode⟩ := unreducedCount_open
  have hno : (unreducedCount.msgTaken 0 0 []).crlOpen [2] = none := by
    rw [State.msgTaken_none]
    exact State.crlOpen_short unreducedCount_slotK1 (by decide)
  simp only [exec, execMirRec, hopen, Bool.not_true, Bool.false_eq_true, if_false, State.receive_unopened unreducedCount_arrived hmode hno,
    State.msgTaken_none]

/-- Refutes O43: `Taken` asks for the count `(count + n) % 1024` after a message of `n` frames; where no frame is freed, a count of 1,024 stays where
the statement asks for 0. -/
theorem not_mirrorCopies : ¬ Obligations.MirrorCopies := by
  unfold Obligations.MirrorCopies
  rintro ⟨⟨-, -, -, hauth⟩, -⟩
  obtain ⟨hopen, hmd, hq⟩ := unreducedCount_open
  have hno : unreducedCount.crlOpen [2] = none := State.crlOpen_short unreducedCount_slotK1 (by decide)
  obtain ⟨t, ht, ⟨⟨-, hcount⟩, -⟩, -⟩ := hauth unreducedCount 0 [2] [] unreducedCount_arrived hopen hmd hq hno
  obtain rfl := Host.Outcome.next.inj (mirRec_unreducedCount.symm.trans ht)
  rw [(State.recordMs_kept _ _ _).crl_eq (by decide)] at hcount
  exact absurd (hcount (by decide)) (by decide +kernel)

end Sys2Proof.Machine
end

section
/-! Array Time is corrected (R425, R426) and loses its sources (R427); events limited to one per millisecond (R589). -/

namespace Sys2Proof.Machine

variable {ps : List Part} {fs : List Fld} {s t : State} {e : Int} {c n ns cap : Nat} {is : List Nat} {whole : Bool} {f : Fld}

/-! ### Events under the limit of R589 -/

/-- An event under the limit, recorded in a state whose Soot unit and time are those of `s`. -/
theorem stagedMs_recordMs (hs : t.soot = s.soot) (hn : t.tick = s.tick) (hi : is.length ≤ 8) : StagedMs c 0 is s (t.recordMs c is) := by
  have hnow : t.now = s.now := by rw [State.now, State.now, hn]
  have hrec : t.recordMs c is = if s.eventDue c 0 && decide (s.soot.staged.length < 256) then
      State.record { t with soot := { t.soot with lastAt := Tab.put t.soot.lastAt (c * 2 ^ 24 + 0) t.now } } c is
      else if s.eventDue c 0 then t.record c is else t := by
    simp only [State.recordMs, State.recordGap, State.eventDue, hs, hnow]
    rfl
  unfold StagedMs
  rw [hrec]
  cases s.eventDue c 0 with
  | false => exact hs
  | true =>
    intro hlen
    simp only [hlen, decide_true, Bool.and_self, if_true]
    generalize hv : ({ t with soot := { t.soot with lastAt := Tab.put t.soot.lastAt (c * 2 ^ 24 + 0) t.now } } : State) = v
    have hstaged : v.soot.staged = s.soot.staged := by rw [← hv, ← hs]
    have hnow' : v.now = s.now := by rw [← hv]; exact hnow
    obtain ⟨r, hr, hc, hit, ha⟩ := State.record_staged (s := v) (c := c) (is := is) (hstaged ▸ hlen)
    exact ⟨r, hstaged ▸ hr, hc, hit.trans (List.take_of_length_le hi), ha.trans hnow'⟩

theorem Kept.tick_eq (h : Kept ps fs s t) (hp : Part.tick ∉ ps) : t.tick = s.tick := h.2.1 .tick hp

theorem State.tick_recordMs : (s.recordMs c is).tick = s.tick := (s.recordMs_kept c is).tick_eq (by decide)
theorem State.get_recordMs (h : f.key ∉ logFlds.map Fld.key) : (s.recordMs c is).get f = s.get f := (s.recordMs_kept c is).get_eq h

theorem State.get_setb_same {b : Bool} (h : 0 < f.width) : (s.setb f b).get f = b2n b := by
  have hw : 2 ≤ 2 ^ f.width := Nat.le_self_pow (by omega) 2
  rw [State.setb_eq, State.get_set_same]
  refine Nat.mod_eq_of_lt (Nat.lt_of_lt_of_le ?_ hw)
  cases b <;> decide

theorem State.get_setb_other {g : Fld} {b : Bool} (h : g.key ≠ f.key) : (s.setb f b).get g = s.get g := State.get_set_other _ _ _ _ h

/-! ### A correction (R426) -/

/-- What shows a correction: the error, the end of holdover, and LOCKED. -/
def corrFlds : List Fld := [F.TICK_PHASE_VALUE, F.TICK_STS_HOLDOVER, F.TICK_STS_LOCKED]

/-- The error is shown and holdover ends; the count is not corrected yet. -/
def State.phaseShown (s : State) (e : Int) : State :=
  ((s.set F.TICK_PHASE_VALUE (sat32 e)).setb F.TICK_STS_HOLDOVER false).updTick (fun t => { t with
    inLimit := decide (-(s.get F.TICK_LIMITS_SLEW_MAX : Int) ≤ e ∧ e ≤ s.get F.TICK_LIMITS_SLEW_MAX) })

theorem State.phaseShown_kept (s : State) (e : Int) : Kept [.tick] corrFlds s (s.phaseShown e) :=
  (((Kept.refl _ _ s).set (by simp [corrFlds])).setb (by simp [corrFlds])).updTick (by simp) _

theorem State.correct_eq (s : State) (whole : Bool) (e : Int) : s.correct whole e =
    (if e > s.get F.TICK_LIMITS_SLEW_MAX then
      if whole then (s.phaseShown e).atStep (100000000 - e).toNat else (s.phaseShown e).updTick (fun t => { t with slew := .half (2 * e.toNat) })
    else if e < -(s.get F.TICK_LIMITS_SLEW_MAX : Int) then (s.phaseShown e).atStep (-e).toNat
    else (s.phaseShown e).atSlew e).showLocked := rfl

theorem State.showLocked_kept (s : State) : Kept [] [F.TICK_STS_LOCKED] s s.showLocked := (Kept.refl _ _ s).setb (by simp)

theorem State.showLocked_tick (s : State) : s.showLocked.tick = s.tick := rfl

theorem State.get_showLocked (hs : ∀ n, s.tick.slew ≠ .half n) : s.showLocked.get F.TICK_STS_LOCKED = b2n s.tick.inLimit := by
  have hhalf : (match s.tick.slew with | .half _ => true | _ => false) = false := by
    cases hc : s.tick.slew with
    | half n => exact absurd hc (hs n)
    | none | slew => rfl
  have hshow : s.showLocked = s.setb F.TICK_STS_LOCKED (s.tick.inLimit && !(match s.tick.slew with | .half _ => true | _ => false)) := rfl
  rw [hshow, hhalf, State.get_setb_same (by decide), Bool.not_false, Bool.and_true]

theorem State.get_showLocked_half (hs : s.tick.slew = .half n) : s.showLocked.get F.TICK_STS_LOCKED = 0 := by
  have hshow : s.showLocked = s.setb F.TICK_STS_LOCKED (s.tick.inLimit && !(match s.tick.slew with | .half _ => true | _ => false)) := rfl
  rw [hshow, hs, State.get_setb_same (by decide), Bool.not_true, Bool.and_false]
  rfl

/-- Within SLEW_MAX the error is slewed away. -/
theorem State.correct_slews (hlo : -(s.get F.TICK_LIMITS_SLEW_MAX : Int) ≤ e) (hhi : e ≤ s.get F.TICK_LIMITS_SLEW_MAX) (h0 : e ≠ 0) :
    Kept [.tick] corrFlds s (s.correct whole e) ∧ (s.correct whole e).tick.slew = .slew (decide (0 < e)) (e.natAbs * 100) ∧
    (s.correct whole e).now = s.now ∧
    (s.correct whole e).get F.TICK_STS_LOCKED = 1 ∧ (s.correct whole e).get F.TICK_PHASE_VALUE = sat32 e % 2 ^ 32 := by
  have htick : ((s.phaseShown e).atSlew e).tick = { s.tick with inLimit := true, slew := .slew (decide (0 < e)) (e.natAbs * 100) } := by
    simp [State.atSlew, State.phaseShown, State.updTick, hlo, hhi, h0, State.setb_eq]
  have hcorr : s.correct whole e = ((s.phaseShown e).atSlew e).showLocked := by
    rw [State.correct_eq, if_neg (not_lt.mpr hhi), if_neg (not_lt.mpr hlo)]
  have hkept : Kept [.tick] corrFlds s ((s.phaseShown e).atSlew e) := (s.phaseShown_kept e).updTick (by simp) _
  rw [hcorr]
  refine ⟨hkept.trans ((State.showLocked_kept _).widen (by simp) (by simp [corrFlds])), ?_, ?_, ?_, ?_⟩
  · rw [State.showLocked_tick, htick]
  · rw [State.now, State.showLocked_tick, htick]
    rfl
  · rw [State.get_showLocked (by simp [htick]), htick]
    rfl
  · rw [(State.showLocked_kept _).get_eq (by decide)]
    have hhold : ((s.phaseShown e).atSlew e).get F.TICK_PHASE_VALUE = (s.set F.TICK_PHASE_VALUE (sat32 e)).get F.TICK_PHASE_VALUE :=
      State.get_setb_other (f := F.TICK_STS_HOLDOVER) (b := false) (by decide)
    rw [hhold, State.get_set_same]
    rfl

/-- Ahead by more, AT goes at half rate, unless the source gives whole seconds. -/
theorem State.correct_halves (h : (s.get F.TICK_LIMITS_SLEW_MAX : Int) < e) :
    Kept [.tick] corrFlds s (s.correct false e) ∧ (s.correct false e).tick.slew = .half (2 * e.toNat) ∧ (s.correct false e).now = s.now ∧
    (s.correct false e).get F.TICK_STS_LOCKED = 0 := by
  have hcorr : s.correct false e = ((s.phaseShown e).updTick (fun t => { t with slew := .half (2 * e.toNat) })).showLocked := by
    rw [State.correct_eq, if_pos h, if_neg (by decide)]
  rw [hcorr]
  refine ⟨((s.phaseShown_kept e).updTick (by simp) _).trans ((State.showLocked_kept _).widen (by simp) (by simp [corrFlds])), rfl, rfl, ?_⟩
  exact State.get_showLocked_half rfl

/-- What a step of AT changes. -/
def stepFlds : List Fld := logFlds ++ corrFlds ++ [F.TICK_ERR_STEP]

/-- AT steps where the error is outside SLEW_MAX and behind, or the source gives whole seconds. -/
theorem State.correct_steps (h : s.correct whole e = ((s.phaseShown e).atStep n).showLocked)
    (hout : ¬ (-(s.get F.TICK_LIMITS_SLEW_MAX : Int) ≤ e ∧ e ≤ s.get F.TICK_LIMITS_SLEW_MAX)) :
    Kept (logParts ++ [.tick]) stepFlds s (s.correct whole e) ∧ (s.correct whole e).now = s.now + n ∧ (s.correct whole e).tick.slew = .none ∧
    (s.correct whole e).get F.TICK_ERR_STEP = 1 ∧ (s.correct whole e).get F.TICK_STS_LOCKED = 0 := by
  generalize hu : ((s.phaseShown e).updTick (fun t => { t with count := t.count + n, slew := .none })).setb F.TICK_ERR_STEP true = u
  have hstep : (s.phaseShown e).atStep n = u.recordMs 0x0E01 (w2 n) := by rw [← hu]; rfl
  have hsu : Kept (logParts ++ [.tick]) stepFlds s u := by
    rw [← hu]
    exact (((s.phaseShown_kept e).widen (by simp) (by simp +contextual [stepFlds])).updTick (by simp) _).setb (by simp [stepFlds])
  have htick : u.tick = { s.tick with count := s.tick.count + n, slew := .none, inLimit := false } := by
    rw [← hu, State.setb_eq, State.set_tick]
    simp only [State.phaseShown, State.updTick, State.setb_eq, State.set_tick, decide_eq_false hout]
  have herr : u.get F.TICK_ERR_STEP = 1 := by rw [← hu]; exact State.get_setb_same (by decide)
  have hlog : Kept (logParts ++ [.tick]) stepFlds s (u.recordMs 0x0E01 (w2 n)) :=
    hsu.loggedMs (by simp +contextual) (by simp +contextual [stepFlds])
  rw [h, hstep]
  refine ⟨hlog.trans ((State.showLocked_kept _).widen (by simp) (by simp [stepFlds, corrFlds])), ?_, ?_, ?_, ?_⟩
  · rw [State.now, State.showLocked_tick, State.tick_recordMs, htick]
    rfl
  · rw [State.showLocked_tick, State.tick_recordMs, htick]
  · rw [(State.showLocked_kept _).get_eq (by decide), State.get_recordMs (by decide), herr]
  · rw [State.get_showLocked (by simp [State.tick_recordMs, htick]), State.tick_recordMs, htick]
    rfl

theorem State.correct_behind (h : e < -(s.get F.TICK_LIMITS_SLEW_MAX : Int)) (whole : Bool) :
    s.correct whole e = ((s.phaseShown e).atStep e.natAbs).showLocked := by
  have hn : (-e).toNat = e.natAbs := by omega
  rw [State.correct_eq, if_neg (by omega), if_pos h, hn]

theorem State.correct_ahead_whole (h : (s.get F.TICK_LIMITS_SLEW_MAX : Int) < e) :
    s.correct true e = ((s.phaseShown e).atStep (100000000 - e).toNat).showLocked := by
  rw [State.correct_eq, if_pos h, if_pos rfl]

/-- Whatever it does, a correction stays inside the frame of a step. -/
theorem State.correct_kept (s : State) (whole : Bool) (e : Int) : Kept (logParts ++ [.tick]) stepFlds s (s.correct whole e) := by
  have hshown : Kept (logParts ++ [.tick]) stepFlds s (s.phaseShown e) := (s.phaseShown_kept e).widen (by simp) (by simp +contextual [stepFlds])
  have hstep : ∀ n, Kept (logParts ++ [.tick]) stepFlds s ((s.phaseShown e).atStep n) := fun n =>
    ((hshown.updTick (by simp) _).setb (by simp [stepFlds])).loggedMs (by simp +contextual) (by simp +contextual [stepFlds])
  rw [State.correct_eq]
  refine Kept.trans ?_ ((State.showLocked_kept _).widen (by simp) (by simp [stepFlds, corrFlds]))
  split
  · split
    · exact hstep _
    · exact hshown.updTick (by simp) _
  · split
    · exact hstep _
    · exact hshown.updTick (by simp) _

/-! ### The TICK source -/

/-- The error at an edge of TICK_SYNC: the distance from the nearest whole second. -/
def State.edgeErr (s : State) : Int := if (s.now % 100000000 : Int) ≥ 50000000 then (s.now % 100000000 : Int) - 100000000 else s.now % 100000000

theorem State.edgeErr_ahead (h : s.now % 100000000 < 50000000) : s.edgeErr = (s.now % 100000000 : Nat) := by
  unfold State.edgeErr
  split <;> omega

theorem State.edgeErr_behind (h : 50000000 ≤ s.now % 100000000) : s.edgeErr = -(100000000 - s.now % 100000000 : Nat) := by
  unfold State.edgeErr
  split <;> omega

/-- The edge has been seen. -/
def State.edgeSeen (s : State) : State := s.setb F.TICK_STS_SYNC_OK true

theorem exec_tickSyncEdge (hsrc : s.get F.TICK_CTL_SRC = 1) (hl : s.tick.loaded = true) : exec .tickSyncEdge s =
    .next ((s.edgeSeen.correct true s.edgeErr).setb F.TICK_STS_HOLDOVER (s.getb F.TICK_STS_HOLDOVER && !s.getb F.TICK_STS_CLK_OK)) := by
  have hseen : ∀ g : Fld, g.key ≠ F.TICK_STS_SYNC_OK.key → (s.setb F.TICK_STS_SYNC_OK true).get g = s.get g := fun g hg => State.get_setb_other hg
  have hsrc' : (s.setb F.TICK_STS_SYNC_OK true).get F.TICK_CTL_SRC = 1 := (hseen _ (by decide)).trans hsrc
  have hl' : (s.setb F.TICK_STS_SYNC_OK true).tick.loaded = true := hl
  simp only [exec, execTickSyncEdge, hsrc', hl', beq_self_eq_true, Bool.and_self, if_true, State.getb, hseen F.TICK_STS_HOLDOVER (by decide),
    hseen F.TICK_STS_CLK_OK (by decide)]
  rfl

theorem State.slewMax_edgeSeen : s.edgeSeen.get F.TICK_LIMITS_SLEW_MAX = s.get F.TICK_LIMITS_SLEW_MAX := State.get_setb_other (by decide)

/-- What an edge that slews changes. -/
def edgeFlds : List Fld := [F.TICK_STS_SYNC_OK, F.TICK_PHASE_VALUE, F.TICK_STS_HOLDOVER, F.TICK_STS_LOCKED]

/-- An edge whose error lies within SLEW_MAX. -/
theorem tickSyncEdge_slews (hsrc : s.get F.TICK_CTL_SRC = 1) (hclk : s.get F.TICK_STS_CLK_OK = 1) (hl : s.tick.loaded = true)
    (hlo : -(s.get F.TICK_LIMITS_SLEW_MAX : Int) ≤ s.edgeErr) (hhi : s.edgeErr ≤ s.get F.TICK_LIMITS_SLEW_MAX) (h0 : s.edgeErr ≠ 0) :
    Does .tickSyncEdge s [.tick] edgeFlds (fun t => t.get F.TICK_STS_SYNC_OK = 1 ∧ t.get F.TICK_PHASE_VALUE = sat32 s.edgeErr % 2 ^ 32 ∧
      t.get F.TICK_STS_HOLDOVER = 0 ∧ t.get F.TICK_STS_LOCKED = 1 ∧
      t.tick.slew = .slew (decide (0 < s.edgeErr)) (s.edgeErr.natAbs * 100) ∧ t.now = s.now) := by
  have hheld : (s.getb F.TICK_STS_HOLDOVER && !s.getb F.TICK_STS_CLK_OK) = false := by simp [State.getb, hclk]
  obtain ⟨hkept, hslew, hnow, hlock, hphase⟩ := State.correct_slews (s := s.edgeSeen) (whole := true) (State.slewMax_edgeSeen.symm ▸ hlo)
    (State.slewMax_edgeSeen.symm ▸ hhi) h0
  have hseen : s.edgeSeen.get F.TICK_STS_SYNC_OK = 1 := State.get_setb_same (by decide)
  refine ⟨_, exec_tickSyncEdge hsrc hl, hheld ▸ ⟨?_, ?_, State.get_setb_same (by decide), ?_, hslew, hnow⟩, ?_⟩
  · rw [State.get_setb_other (by decide), hkept.get_eq (by decide), hseen]
  · rw [State.get_setb_other (by decide), hphase]
  · rw [State.get_setb_other (by decide), hlock]
  · have hsu : Kept [.tick] edgeFlds s s.edgeSeen := (Kept.refl _ _ s).setb (by simp [edgeFlds])
    exact (hsu.trans (hkept.widen (fun _ h => h) (by simp [corrFlds, edgeFlds]))).setb (by simp [edgeFlds])

/-- An edge whose error lies outside SLEW_MAX: AT steps to the next whole second. -/
theorem tickSyncEdge_steps (hsrc : s.get F.TICK_CTL_SRC = 1) (hl : s.tick.loaded = true)
    (hm : s.get F.TICK_LIMITS_SLEW_MAX < s.now % 100000000) (hb : s.get F.TICK_LIMITS_SLEW_MAX < 100000000 - s.now % 100000000) :
    Does .tickSyncEdge s (logParts ++ [.tick]) (logFlds ++ [F.TICK_STS_SYNC_OK, F.TICK_PHASE_VALUE, F.TICK_STS_HOLDOVER, F.TICK_STS_LOCKED, F.TICK_ERR_STEP])
      (fun t => t.now = s.now + (100000000 - s.now % 100000000) ∧ t.tick.slew = .none ∧ t.get F.TICK_ERR_STEP = 1 ∧ t.get F.TICK_STS_LOCKED = 0) := by
  have hmax := s.slewMax_edgeSeen
  have hcorr : s.edgeSeen.correct true s.edgeErr = ((s.edgeSeen.phaseShown s.edgeErr).atStep (100000000 - s.now % 100000000)).showLocked ∧
      ¬ (-(s.edgeSeen.get F.TICK_LIMITS_SLEW_MAX : Int) ≤ s.edgeErr ∧ s.edgeErr ≤ s.edgeSeen.get F.TICK_LIMITS_SLEW_MAX) := by
    rcases Nat.lt_or_ge (s.now % 100000000) 50000000 with hlt | hge
    · have he := State.edgeErr_ahead hlt
      have hn : (100000000 - s.edgeErr).toNat = 100000000 - s.now % 100000000 := by omega
      exact ⟨hn ▸ State.correct_ahead_whole (by omega), by omega⟩
    · have he := State.edgeErr_behind hge
      have hn : s.edgeErr.natAbs = 100000000 - s.now % 100000000 := by omega
      exact ⟨hn ▸ State.correct_behind (by omega) true, by omega⟩
  obtain ⟨hkept, hnow, hslew, herr, hlock⟩ := State.correct_steps hcorr.1 hcorr.2
  refine ⟨_, exec_tickSyncEdge hsrc hl, ⟨hnow, hslew, ?_, ?_⟩, ?_⟩
  · rw [State.get_setb_other (by decide), herr]
  · rw [State.get_setb_other (by decide), hlock]
  · have hsu : Kept (logParts ++ [.tick]) (logFlds ++ [F.TICK_STS_SYNC_OK, F.TICK_PHASE_VALUE, F.TICK_STS_HOLDOVER, F.TICK_STS_LOCKED, F.TICK_ERR_STEP]) s
        s.edgeSeen := (Kept.refl _ _ s).setb (by simp)
    exact (hsu.trans (hkept.widen (fun _ h => h) (by simp +contextual [stepFlds, corrFlds, or_imp]))).setb (by simp)

theorem sat32_ahead (h : n < 50000000) : sat32 (n : Nat) % 2 ^ 32 = n := by
  simp only [sat32, twos]
  omega

theorem sat32_behind (h0 : 0 < n) (h : n ≤ 50000000) : sat32 (-(n : Nat)) % 2 ^ 32 = 2 ^ 32 - n := by
  simp only [sat32, twos]
  omega

theorem tickSyncEdge_slews_ahead (hsrc : s.get F.TICK_CTL_SRC = 1) (hclk : s.get F.TICK_STS_CLK_OK = 1) (hl : s.tick.loaded = true)
    (h0 : 0 < s.now % 100000000) (hm : s.now % 100000000 < 50000000) (hmax : s.now % 100000000 ≤ s.get F.TICK_LIMITS_SLEW_MAX) :
    Does .tickSyncEdge s [.tick] edgeFlds (fun t => t.get F.TICK_STS_SYNC_OK = 1 ∧ t.get F.TICK_PHASE_VALUE = s.now % 100000000 ∧
      t.get F.TICK_STS_HOLDOVER = 0 ∧ t.get F.TICK_STS_LOCKED = 1 ∧ t.tick.slew = .slew true (s.now % 100000000 * 100) ∧ t.now = s.now) := by
  have he := State.edgeErr_ahead hm
  obtain ⟨t, ht, ⟨hsync, hphase, hhold, hlock, hslew, hnow⟩, hkept⟩ := tickSyncEdge_slews hsrc hclk hl (by omega) (by omega) (by omega)
  refine ⟨t, ht, ⟨hsync, ?_, hhold, hlock, ?_, hnow⟩, hkept⟩
  · rw [hphase, he, sat32_ahead hm]
  · rw [hslew, he, Int.natAbs_natCast, decide_eq_true (by omega)]

theorem tickSyncEdge_slews_behind (hsrc : s.get F.TICK_CTL_SRC = 1) (hclk : s.get F.TICK_STS_CLK_OK = 1) (hl : s.tick.loaded = true)
    (hm : 50000000 ≤ s.now % 100000000) (hmax : 100000000 - s.now % 100000000 ≤ s.get F.TICK_LIMITS_SLEW_MAX) :
    Does .tickSyncEdge s [.tick] edgeFlds (fun t => t.get F.TICK_PHASE_VALUE = 2 ^ 32 - (100000000 - s.now % 100000000) ∧
      t.get F.TICK_STS_LOCKED = 1 ∧ t.tick.slew = .slew false ((100000000 - s.now % 100000000) * 100) ∧ t.now = s.now) := by
  have he := State.edgeErr_behind hm
  obtain ⟨t, ht, ⟨-, hphase, -, hlock, hslew, hnow⟩, hkept⟩ := tickSyncEdge_slews hsrc hclk hl (by omega) (by omega) (by omega)
  refine ⟨t, ht, ⟨?_, hlock, ?_, hnow⟩, hkept⟩
  · rw [hphase, he, sat32_behind (by omega) (by omega)]
  · rw [hslew, he, Int.natAbs_neg, Int.natAbs_natCast, decide_eq_false (by omega)]

/-- While TICK_CLK is lost, holdover goes on (R427). -/
theorem tickSyncEdge_holds (hsrc : s.get F.TICK_CTL_SRC = 1) (hclk : s.get F.TICK_STS_CLK_OK = 0) (hl : s.tick.loaded = true)
    (hh : s.get F.TICK_STS_HOLDOVER = 1) :
    Gives .tickSyncEdge s (fun t => t.get F.TICK_STS_HOLDOVER = 1 ∧ t.get F.TICK_STS_SYNC_OK = 1) := by
  have hheld : (s.getb F.TICK_STS_HOLDOVER && !s.getb F.TICK_STS_CLK_OK) = true := by simp [State.getb, hclk, hh]
  have hseen : s.edgeSeen.get F.TICK_STS_SYNC_OK = 1 := State.get_setb_same (by decide)
  refine ⟨_, exec_tickSyncEdge hsrc hl, ?_, ?_⟩
  · rw [hheld]
    exact State.get_setb_same (by decide)
  · rw [State.get_setb_other (by decide), (State.correct_kept _ _ _).get_eq (by decide), hseen]

theorem tickSyncEdge_unselected (hsrc : s.get F.TICK_CTL_SRC ≠ 1) :
    Does .tickSyncEdge s [] [F.TICK_STS_SYNC_OK] (fun t => t.get F.TICK_STS_SYNC_OK = 1) := by
  have hsrc' : (s.setb F.TICK_STS_SYNC_OK true).get F.TICK_CTL_SRC ≠ 1 := by rwa [State.get_setb_other (by decide)]
  have hex : exec .tickSyncEdge s = .next s.edgeSeen := by
    simp only [exec, execTickSyncEdge, beq_eq_false_iff_ne.mpr hsrc', Bool.false_and, Bool.false_eq_true, if_false]
    rfl
  exact ⟨_, hex, State.get_setb_same (by decide), (Kept.refl _ _ s).setb (by simp)⟩

/-! ### The PTM source (R68) -/

/-- A dialog has taken place. -/
def State.dialogMade (s : State) : State := (s.setb F.TICK_STS_PTM_OK true).updPort 0 (fun h => { h with ptmAt := s.cyc })

/-- A dialog takes place: port 0 is in L0 with PTM enabled, PTM is the source, AT is loaded, and the interval has passed. -/
structure DialogDue (s : State) : Prop where
  enabled : (s.port 0).ptmEnable = true
  linkUp : s.get (F.HST_LINK_STS_LTSSM 0) = 3
  source : s.get F.TICK_CTL_SRC = 2
  loaded : s.tick.loaded = true
  interval : (s.port 0).ptmAt + max 1 (s.get F.TICK_PTM_INT_INTERVAL) * 100 ≤ s.cyc

theorem exec_ptmDialog (h : DialogDue s) (he : e = (cap : Int) - ((ns / 10 : Nat) + (BitVec.ofNat 64 (s.get F.TICK_PTM_OFS_OFS)).toInt)) :
    exec (.ptmDialog ns cap) s = .next (s.dialogMade.correct false e) := by
  obtain ⟨hen, hl0, hsrc, hl, hint⟩ := h
  simp only [exec, execPtmDialog, hen, hl0, hsrc, hl, us, hint, beq_self_eq_true, decide_true, Bool.and_self, if_true, he, Int.natCast_ediv]
  rfl

theorem State.dialogMade_kept (s : State) : Kept [.tick, .ports] [F.TICK_STS_PTM_OK] s s.dialogMade :=
  ((Kept.refl _ _ s).setb (by simp)).updPort (by simp) 0 fun _ => rfl

theorem State.slewMax_dialogMade : s.dialogMade.get F.TICK_LIMITS_SLEW_MAX = s.get F.TICK_LIMITS_SLEW_MAX := s.dialogMade_kept.get_eq (by decide)

/-- What a dialog that does not step AT changes. -/
def dialogFlds : List Fld := [F.TICK_STS_PTM_OK, F.TICK_PHASE_VALUE, F.TICK_STS_HOLDOVER, F.TICK_STS_LOCKED]

theorem State.dialogMade_corrected (h : Kept [.tick] corrFlds s.dialogMade t) : Kept [.tick, .ports] dialogFlds s t :=
  (s.dialogMade_kept.widen (fun _ h => h) (by simp [dialogFlds])).trans (h.widen (by simp) (by simp [corrFlds, dialogFlds]))

theorem ptmDialog_slews (h : DialogDue s) (he : e = (cap : Int) - ((ns / 10 : Nat) + (BitVec.ofNat 64 (s.get F.TICK_PTM_OFS_OFS)).toInt)) (h0 : e ≠ 0)
    (hlo : -(s.get F.TICK_LIMITS_SLEW_MAX : Int) ≤ e) (hhi : e ≤ (s.get F.TICK_LIMITS_SLEW_MAX : Int)) :
    Does (.ptmDialog ns cap) s [.tick, .ports] dialogFlds (fun t => t.get F.TICK_STS_PTM_OK = 1 ∧ t.get F.TICK_STS_LOCKED = 1 ∧
      t.tick.slew = .slew (decide (0 < e)) (e.natAbs * 100) ∧ (t.port 0).ptmAt = s.cyc ∧ t.now = s.now) := by
  obtain ⟨hkept, hslew, hnow, hlock, -⟩ := State.correct_slews (s := s.dialogMade) (whole := false) (State.slewMax_dialogMade.symm ▸ hlo)
    (State.slewMax_dialogMade.symm ▸ hhi) h0
  have hok : s.dialogMade.get F.TICK_STS_PTM_OK = 1 := State.get_setb_same (f := F.TICK_STS_PTM_OK) (b := true) (by decide)
  refine ⟨_, exec_ptmDialog h he, ⟨?_, hlock, hslew, ?_, hnow⟩, State.dialogMade_corrected hkept⟩
  · rw [hkept.get_eq (by decide), hok]
  · refine (congrArg HostPort.ptmAt (hkept.2.1 .ports (by decide) 0)).trans ?_
    rw [State.dialogMade, State.port_updPort, if_pos rfl]

theorem ptmDialog_halves (h : DialogDue s) (he : e = (cap : Int) - ((ns / 10 : Nat) + (BitVec.ofNat 64 (s.get F.TICK_PTM_OFS_OFS)).toInt))
    (hhi : (s.get F.TICK_LIMITS_SLEW_MAX : Int) < e) :
    Does (.ptmDialog ns cap) s [.tick, .ports] dialogFlds (fun t => t.tick.slew = .half (2 * e.toNat) ∧ t.get F.TICK_STS_LOCKED = 0 ∧ t.now = s.now) := by
  obtain ⟨hkept, hslew, hnow, hlock⟩ := State.correct_halves (s := s.dialogMade) (State.slewMax_dialogMade.symm ▸ hhi)
  exact ⟨_, exec_ptmDialog h he, ⟨hslew, hlock, hnow⟩, State.dialogMade_corrected hkept⟩

theorem ptmDialog_steps (h : DialogDue s) (he : e = (cap : Int) - ((ns / 10 : Nat) + (BitVec.ofNat 64 (s.get F.TICK_PTM_OFS_OFS)).toInt))
    (hlo : e < -(s.get F.TICK_LIMITS_SLEW_MAX : Int)) :
    Does (.ptmDialog ns cap) s (logParts ++ [.tick, .ports])
      (logFlds ++ [F.TICK_STS_PTM_OK, F.TICK_PHASE_VALUE, F.TICK_STS_HOLDOVER, F.TICK_STS_LOCKED, F.TICK_ERR_STEP])
      (fun t => t.now = s.now + e.natAbs ∧ t.tick.slew = .none ∧ t.get F.TICK_ERR_STEP = 1) := by
  have hlo' : e < -(s.dialogMade.get F.TICK_LIMITS_SLEW_MAX : Int) := State.slewMax_dialogMade.symm ▸ hlo
  obtain ⟨hkept, hnow, hslew, herr, -⟩ := State.correct_steps (State.correct_behind hlo' false) (by omega)
  exact ⟨_, exec_ptmDialog h he, ⟨hnow, hslew, herr⟩, (s.dialogMade_kept.widen (by simp) (by simp)).trans
    (hkept.widen (by simp +contextual [or_imp]) (by simp +contextual [stepFlds, corrFlds, or_imp]))⟩

/-- A correction that has made all its cycles ends. -/
theorem atCorrectionEnd_ends {a : Bool} (h : s.tick.slew = .slew a 0 ∨ s.tick.slew = .half 0) :
    Does .atCorrectionEnd s [.tick] [F.TICK_STS_LOCKED] (fun t =>
      t.tick.slew = .none ∧ t.get F.TICK_STS_LOCKED = b2n s.tick.inLimit ∧ t.now = s.now) := by
  generalize hu : s.updTick (fun t => { t with slew := .none }) = u
  have hex : exec .atCorrectionEnd s = .next u.showLocked := by
    rcases h with h | h <;> simp only [exec, execAtCorrectionEnd, h, hu]
  have hslew : u.tick.slew = .none := by rw [← hu]; rfl
  refine ⟨_, hex, ⟨hslew, ?_, ?_⟩, ?_⟩
  · rw [State.get_showLocked (by simp [hslew]), ← hu]
    rfl
  · rw [State.now, State.showLocked_tick, ← hu]
    rfl
  · rw [← hu]
    exact ((Kept.refl _ _ s).updTick (by simp) _).trans ((State.showLocked_kept _).widen (by simp) (by simp))

/-! ### The loss of a source (R427) -/

/-- The source that SRC selects is lost: holdover begins, its error flag is set, and the loss is recorded. -/
def State.sourceLost (s : State) (ok err : Fld) (code : Nat) : State :=
  (((s.setb ok false).setb F.TICK_STS_HOLDOVER true).setb err true).recordMs code []

theorem sourceLost_does {i : Instr} {ok err : Fld} {code : Nat} (hex : exec i s = .next (s.sourceLost ok err code))
    (hok : ok.key ∉ (err :: F.TICK_STS_HOLDOVER :: logFlds).map Fld.key) (herr : err.key ∉ (F.TICK_STS_HOLDOVER :: logFlds).map Fld.key)
    (hw : 0 < ok.width) (hw' : 0 < err.width) :
    Does i s logParts (logFlds ++ [ok, F.TICK_STS_HOLDOVER, err]) (fun t =>
      t.get ok = 0 ∧ t.get F.TICK_STS_HOLDOVER = 1 ∧ t.get err = 1 ∧ StagedMs code 0 [] s t) := by
  simp only [List.map_cons, List.mem_cons, not_or] at hok herr
  obtain ⟨hok1, hok2, hok3⟩ := hok
  obtain ⟨herr1, herr2⟩ := herr
  refine ⟨_, hex, ⟨?_, ?_, ?_, stagedMs_recordMs rfl rfl (by simp)⟩, ?_⟩
  · rw [State.sourceLost, State.get_recordMs hok3, State.get_setb_other hok1, State.get_setb_other hok2, State.get_setb_same hw]
    rfl
  · rw [State.sourceLost, State.get_recordMs (by decide), State.get_setb_other (Ne.symm herr1), State.get_setb_same (by decide)]
    rfl
  · rw [State.sourceLost, State.get_recordMs herr2, State.get_setb_same hw']
    rfl
  · exact ((((Kept.refl _ _ s).setb (by simp)).setb (by simp)).setb (by simp)).loggedMs (fun _ h => h) (by simp +contextual)

theorem tickClkLoss_selected (hsrc : s.get F.TICK_CTL_SRC = 1) :
    exec .tickClkLoss s = .next (s.sourceLost F.TICK_STS_CLK_OK F.TICK_ERR_CLK_LOSS 0x0E03) := by
  have hsrc' : (s.setb F.TICK_STS_CLK_OK false).get F.TICK_CTL_SRC = 1 := (State.get_setb_other (by decide)).trans hsrc
  simp only [exec, execTickClkLoss, hsrc', beq_self_eq_true, if_true, State.sourceLost]

theorem tickSyncLoss_selected (hsrc : s.get F.TICK_CTL_SRC = 1) :
    exec .tickSyncLoss s = .next (s.sourceLost F.TICK_STS_SYNC_OK F.TICK_ERR_SYNC_LOSS 0x0E04) := by
  have hsrc' : (s.setb F.TICK_STS_SYNC_OK false).get F.TICK_CTL_SRC = 1 := (State.get_setb_other (by decide)).trans hsrc
  simp only [exec, execTickSyncLoss, hsrc', beq_self_eq_true, if_true, State.sourceLost]

theorem ptmLoss_selected (hsrc : s.get F.TICK_CTL_SRC = 2) :
    exec .ptmLoss s = .next (s.sourceLost F.TICK_STS_PTM_OK F.TICK_ERR_PTM_LOSS 0x0E05) := by
  have hsrc' : (s.setb F.TICK_STS_PTM_OK false).get F.TICK_CTL_SRC = 2 := (State.get_setb_other (by decide)).trans hsrc
  simp only [exec, execPtmLoss, State.ptmLost, hsrc', beq_self_eq_true, if_true, State.sourceLost]

/-- The loss or the return of a source shows in its OK bit alone. -/
theorem does_setb {i : Instr} {b : Bool} (hex : exec i s = .next (s.setb f b)) (hw : 0 < f.width) :
    Does i s [] [f] (fun t => t.get f = b2n b) := ⟨_, hex, State.get_setb_same hw, (Kept.refl _ _ s).setb (by simp)⟩

theorem sourceLoss_unselected (hsrc : s.get F.TICK_CTL_SRC = 0) :
    Does .tickClkLoss s [] [F.TICK_STS_CLK_OK] (fun t => t.get F.TICK_STS_CLK_OK = 0) ∧
    Does .tickSyncLoss s [] [F.TICK_STS_SYNC_OK] (fun t => t.get F.TICK_STS_SYNC_OK = 0) ∧
    Does .ptmLoss s [] [F.TICK_STS_PTM_OK] (fun t => t.get F.TICK_STS_PTM_OK = 0) := by
  have hsrc' : ∀ g : Fld, g.key ≠ F.TICK_CTL_SRC.key → (s.setb g false).get F.TICK_CTL_SRC = 0 :=
    fun g hg => (State.get_setb_other (Ne.symm hg)).trans hsrc
  refine ⟨does_setb (b := false) ?_ (by decide), does_setb (b := false) ?_ (by decide), does_setb (b := false) ?_ (by decide)⟩
  · simp [exec, execTickClkLoss, hsrc' F.TICK_STS_CLK_OK (by decide)]
  · simp [exec, execTickSyncLoss, hsrc' F.TICK_STS_SYNC_OK (by decide)]
  · simp [exec, execPtmLoss, State.ptmLost, hsrc' F.TICK_STS_PTM_OK (by decide)]

/-- Each second of AT the floor and Soot's running values go to Ember (R424, R557). -/
theorem tickFloorWrite_writes (hl : s.tick.loaded = true) (hf : s.tick.floorSec < s.now / 100000000) (hr : s.released dEmb = true) :
    Does .tickFloorWrite s [.tick, .soot] [F.TICK_FLOOR_AT] (fun t =>
      t.get F.TICK_FLOOR_AT = s.now % 2 ^ 64 ∧ t.tick.floorSec = s.now / 100000000 ∧ t.now = s.now ∧
      t.soot.cyclesE = s.soot.cycles ∧ t.soot.opTimeE = s.soot.opTime ∧ t.soot.log = s.soot.log) := by
  generalize hu : (s.updTick (fun t => { t with floorSec := t.count / sec 1 })).set F.TICK_FLOOR_AT s.now = u
  have hex : exec .tickFloorWrite s = .next { u with soot := { u.soot with cyclesE := s.soot.cycles, opTimeE := s.soot.opTime } } := by
    simp only [exec, execTickFloorWrite, hl, hr, sec, Nat.one_mul, hf, decide_true, Bool.and_self, if_true, ← hu]
    rfl
  have hsu : Kept [.tick, .soot] [F.TICK_FLOOR_AT] s u := hu ▸ ((Kept.refl _ _ s).updTick (by simp) _).set (by simp)
  refine ⟨_, hex, ⟨?_, ?_, ?_, rfl, rfl, ?_⟩, ?_⟩
  · rw [← hu]
    exact State.get_set_same _ _ _
  · rw [← hu]
    rfl
  · rw [← hu]
    rfl
  · rw [← hu]
    rfl
  · refine hsu.upd rfl rfl fun p hn => ?_
    cases p with
    | soot => simp at hn
    | ports | irqPend => exact fun _ => rfl
    | wdt => exact ⟨rfl, rfl⟩
    | plic => exact ⟨rfl, rfl, rfl, rfl⟩
    | _ => rfl

/-- Settles O4: the TICK source, the PTM source, then the loss of each. -/
theorem arrayTimeIsCorrected : Obligations.ArrayTimeIsCorrected := by
  unfold Obligations.ArrayTimeIsCorrected
  refine ⟨⟨fun s => tickSyncEdge_slews_ahead, fun s => tickSyncEdge_slews_behind, fun s => tickSyncEdge_steps, fun s => tickSyncEdge_holds,
      fun s => tickSyncEdge_unselected⟩,
    ⟨fun s ns cap e h1 h2 h3 h4 h5 => ptmDialog_slews ⟨h1, h2, h3, h4, h5⟩, fun s ns cap e h1 h2 h3 h4 h5 => ptmDialog_halves ⟨h1, h2, h3, h4, h5⟩,
      fun s ns cap e h1 h2 h3 h4 h5 => ptmDialog_steps ⟨h1, h2, h3, h4, h5⟩, fun s a => atCorrectionEnd_ends⟩,
    fun s h => sourceLost_does (tickClkLoss_selected h) (by decide) (by decide) (by decide) (by decide),
    fun s h => sourceLost_does (tickSyncLoss_selected h) (by decide) (by decide) (by decide) (by decide),
    fun s h => sourceLost_does (ptmLoss_selected h) (by decide) (by decide) (by decide) (by decide),
    fun s => sourceLoss_unselected, fun s => does_setb (b := true) rfl (by decide), fun s => tickFloorWrite_writes⟩

end Sys2Proof.Machine
end

section
/-! The window as plain memory stands behind it: what a host's write leaves in DDR (R50-R53), and device-side writes that nothing holds back (R51). -/

namespace Sys2Proof.Machine

variable {ps : List Part} {fs : List Fld} {s t : State} {p line o a n off : Nat} {b : Bytes} {w : DevWrite} {x : Snoop}

theorem eq_zero_or_one (h : p < 2) : p = 0 ∨ p = 1 := by omega

theorem State.updPort_port (p : Nat) (f : HostPort → HostPort) : (s.updPort p f).port p = f (s.port p) := by
  rw [State.port_updPort, if_pos rfl]

theorem State.ichPoison_bare (h : s.bareIch = true) : s.ich.poisoned = [] := by
  simp only [State.bareIch, Bool.and_eq_true, List.isEmpty_iff] at h
  exact h.2

theorem State.cleanLines_bare (h : s.bareIch = true) : s.cleanLines a n = s := by
  rw [State.cleanLines, State.ichPoison_bare h]
  rfl

theorem State.poisoned_bare (h : s.bareIch = true) : s.poisoned p [line] = (s.port p).poison.contains line := by
  have hno : s.ddrPoison ((s.port p).backing + 64 * line) 64 = false := by
    rw [State.ddrPoison, State.ichPoison_bare h]
    exact List.any_eq_false.mpr fun l _ => by simp
  rw [State.poisoned, List.any_cons, List.any_nil, hno, Bool.or_false, Bool.or_false]

/-! ### A host's bytes (R52) -/

/-- The lines of a port still poisoned once a host has written `b` to a line. -/
def poisonAfter (poison : List Nat) (line : Nat) (b : Bytes) : List Nat := if b.length == 64 then poison.filter (· != line) else poison

theorem State.hostStore_bare (h : s.bareIch = true) : s.hostStore p line o b =
    { (if b.length == 64 then s.updPort p (fun h => { h with poison := h.poison.filter (· != line) }) else s) with
      ddr := Tab.writeBytes s.ddr ((s.port p).backing + 64 * line + o) b } := by
  unfold State.hostStore
  dsimp only
  generalize hu : (if b.length == 64 then s.updPort p (fun h => { h with poison := h.poison.filter (· != line) }) else s) = u
  have hubare : u.bareIch = true := by rw [← hu]; split <;> exact h
  have huddr : u.ddr = s.ddr := by rw [← hu]; split <;> rfl
  have hbare : ({ u with ddr := Tab.writeBytes u.ddr ((s.port p).backing + 64 * line + o) b } : State).bareIch = true := hubare
  rw [State.extWrite_bare hubare, State.cleanLines_bare hbare, State.ichAgain_bare hbare, huddr]

theorem State.hostStore_port (h : s.bareIch = true) :
    (s.hostStore p line o b).port p = { s.port p with poison := poisonAfter (s.port p).poison line b } := by
  rw [State.hostStore_bare h, poisonAfter]
  split
  · exact State.updPort_port p (fun h => { h with poison := h.poison.filter (· != line) })
  · rfl

theorem State.hostStore_ddr (h : s.bareIch = true) :
    (s.hostStore p line o b).ddr = Tab.writeBytes s.ddr ((s.port p).backing + 64 * line + o) b := by rw [State.hostStore_bare h]

/-- A host's bytes poison no line. -/
theorem State.hostStore_poison (h : s.bareIch = true) {q : Nat} (hq : (s.port q).poison = []) : ((s.hostStore p line o b).port q).poison = [] := by
  rw [State.hostStore_bare h]
  split
  · have hport := State.port_updPort (s := s) p q (fun h => { h with poison := h.poison.filter (· != line) })
    refine (congrArg HostPort.poison hport).trans ?_
    split
    · next he => subst he; simp [hq]
    · exact hq
  · exact hq

theorem Kept.setDdr (h : Kept ps fs s t) (hp : Part.ddr ∈ ps) (m : Tab Byte) : Kept ps fs s { t with ddr := m } := by
  apply h.blocks (ddr := m) <;> simp [hp]

theorem State.hostStore_kept (h : s.bareIch = true) : Kept [.ports, .ddr] [] s (s.hostStore p line o b) := by
  rw [State.hostStore_bare h]
  refine Kept.setDdr ?_ (by simp) _
  split
  · exact (Kept.refl _ _ s).updPort (by simp) p fun _ => rfl
  · exact Kept.refl _ _ s

/-! ### What waits on a snoop, where nothing does -/

theorem State.pumpWrites_none (h : (s.port p).devq = []) : ∀ n, s.pumpWrites p n = s
  | 0 => rfl
  | n + 1 => by rw [State.pumpWrites, h]

theorem State.pumpDone_none (h : (s.win p).doneq = []) : s.pumpDone p = s := by rw [State.pumpDone, h]; rfl

theorem State.pumpAgents_none (h : s.agentq = []) : s.pumpAgents = s := by
  have hsame : ({ s with agentq := [] } : State) = s := by
    rw [← h]
  rw [State.pumpAgents, h]
  exact hsame

theorem State.snoopEnded_idle (hh : x.host = []) (hd : (s.port p).devq = []) (hw : (s.win p).doneq = []) (ha : s.agentq = []) :
    s.snoopEnded p x = s := by
  simp only [State.snoopEnded, hh, List.foldl_nil, State.pumpWrites_none hd, State.pumpDone_none hw, State.pumpAgents_none ha]

/-- The only device-side write that waits is made: no host holds a line of it. -/
theorem State.pumpWrites_one (hd : (s.port p).devq = [w]) (hi : w.irq = none) (hf : (s.port p).filter = []) (hb : s.bareIch = true)
    (hp : ∀ q < 2, (s.port q).poison = []) (n : Nat) : s.pumpWrites p (n + 1) =
      { s.updPort p (fun h => { h with devq := [] }) with ddr := Tab.writeBytes s.ddr ((s.port p).backing + w.off) w.bytes } := by
  generalize hu : s.updPort p (fun h => { h with devq := [] }) = u
  have hport : ∀ q, u.port q = if q = p then { s.port p with devq := [] } else s.port q := fun q => by rw [← hu]; exact State.port_updPort _ _ _ _
  have hfree : (linesIn w.off w.bytes.length).any (s.tracked p) = false :=
    List.any_eq_false.mpr fun l _ => by simp [State.tracked, hf]
  have hpoison : ∀ q < 2, (u.port q).poison = [] := fun q hq => by
    rw [hport]
    split
    · next he => exact he ▸ hp q hq
    · exact hp q hq
  have hput : u.putWin p w.off w.bytes = { u with ddr := Tab.writeBytes s.ddr ((s.port p).backing + w.off) w.bytes } := by
    rw [State.putWin, State.ddrWrite_bare (by rw [← hu]; exact hb) hpoison, hport, if_pos rfl, ← hu]
    rfl
  simp only [State.pumpWrites, hd, hfree, Bool.false_eq_true, if_false, hu, hput, hi]
  exact State.pumpWrites_none (by simpa [State.port] using congrArg HostPort.devq ((hport p).trans (if_pos rfl))) n

/-! ### The lines of a range -/

/-- Bytes that lie in one line. -/
theorem bounds_of_linesIn (h : linesIn off n = [line]) : 64 * line ≤ off ∧ off + n ≤ 64 * line + 64 := by
  have hlen : (off + n + 63) / 64 - off / 64 = 1 := by simpa [linesIn] using congrArg List.length h
  have hline : off / 64 = line := by simpa [linesIn, hlen] using h
  omega

end Sys2Proof.Machine
end

section
/-! The coherent window: the decoder and the requests of a host (R47, R49, R50, R53). -/

namespace Sys2Proof.Machine

variable {ps : List Part} {fs : List Fld} {s t : State} {p line o base size ways old : Nat} {rest : List Nat} {b : Bytes} {r : MemReq} {ecc : Bool}

/-! ### The decoder (R49) -/

theorem State.showMem_kept (s : State) (p : Nat) : Kept [] [F.HST_LINK_STS_MEM_ON p] s (s.showMem p) := (Kept.refl _ _ s).setb (by simp)

theorem State.showMem_port (s : State) (p q : Nat) : (s.showMem p).port q = s.port q := rfl

theorem State.getb_showMem (s : State) (p : Nat) : (s.showMem p).getb (F.HST_LINK_STS_MEM_ON p) =
    ((s.port p).memNeg && (s.port p).committed && !s.getb (F.GRT_WIN_STS_RESETTING p)) := State.getb_setb_same Nat.one_pos

/-- A port's decoder changes and MEM_ON follows. -/
theorem does_updPort_showMem {i : Instr} {f : HostPort → HostPort} {P : State → Prop} (hex : exec i s = .next ((s.updPort p f).showMem p))
    (hf : ∀ h, (f h).msixPend = h.msixPend) (hP : ((s.updPort p f).showMem p).port p = f (s.port p) →
      ((s.updPort p f).showMem p).getb (F.HST_LINK_STS_MEM_ON p) =
        ((f (s.port p)).memNeg && (f (s.port p)).committed && !s.getb (F.GRT_WIN_STS_RESETTING p)) → P ((s.updPort p f).showMem p)) :
    Does i s [.ports] [F.HST_LINK_STS_MEM_ON p] P := by
  have hport : (s.updPort p f).port p = f (s.port p) := State.updPort_port _ _
  refine ⟨_, hex, hP hport ?_, ((Kept.refl _ _ s).updPort (by simp) p hf).trans ((State.showMem_kept _ _).widen (by simp) (by simp))⟩
  rw [State.getb_showMem, hport]
  rfl

theorem hdmCommit_commits (hl : s.linkL0 p = true) (hc : (s.port p).cxl = true) (hs : size ≤ (s.port p).range1) (hw : ways = 1) :
    Does (.hdmCommit p base size ways) s [.ports] [F.HST_LINK_STS_MEM_ON p] (fun t =>
      (t.port p).committed = true ∧ (t.port p).commitErr = false ∧ (t.port p).hdmBase = base ∧ (t.port p).hdmSize = size ∧
      (t.getb (F.HST_LINK_STS_MEM_ON p) = true ↔ (s.port p).memNeg = true ∧ s.getb (F.GRT_WIN_STS_RESETTING p) = false)) := by
  refine does_updPort_showMem (f := fun h => { h with committed := true, commitErr := false, hdmBase := base, hdmSize := size, hdmWays := ways }) ?_
    (fun _ => rfl) fun hport hmem => ?_
  · simp [exec, execHdmCommit, hl, hc, hw, Nat.not_lt.mpr hs]
  · rw [hport, hmem]
    exact ⟨rfl, rfl, rfl, rfl, by simp⟩

theorem hdmCommit_refuses (hl : s.linkL0 p = true) (hc : (s.port p).cxl = true) (hs : (s.port p).range1 < size ∨ ways ≠ 1) :
    Does (.hdmCommit p base size ways) s [.ports] [F.HST_LINK_STS_MEM_ON p] (fun t =>
      (t.port p).committed = false ∧ (t.port p).commitErr = true ∧ t.getb (F.HST_LINK_STS_MEM_ON p) = false) := by
  refine does_updPort_showMem (f := fun h => { h with committed := false, commitErr := true }) ?_ (fun _ => rfl) fun hport hmem => ?_
  · simp [exec, execHdmCommit, hl, hc, hs]
  · rw [hport, hmem]
    exact ⟨rfl, rfl, by simp⟩

/-! ### A request is granted (R50) -/

theorem exec_hostMemRequest {write : Option (Nat × Bytes)} {track : Bool} (hl : s.linkL0 p = true) (hm : s.md ≠ mBanked) :
    exec (.hostMemRequest p line write track ecc) s = .next (s.grantMem p { line, write, track, ecc }) := by
  simp [exec, execHostMemRequest, hl, hm]

theorem State.grantMem_serves (hs : s.memServed p = true) (hsize : 64 * r.line < (s.port p).hdmSize)
    (hroom : r.track = true → (s.port p).filter.length < 1048576) : s.grantMem p r = s.serveMem p r := by
  have hfull : (r.track && !s.tracked p r.line && decide (1048576 ≤ (s.port p).filter.length)) = false := by
    cases ht : r.track with
    | false => rfl
    | true => simp [Nat.not_le.mpr (hroom ht)]
  simp only [State.grantMem, hs, hfull, Bool.not_true, Bool.false_or, decide_eq_true_eq, Nat.not_le.mpr hsize, Bool.false_eq_true, if_false]

/-- The port has answered a read: the host may hold the line. -/
def HostPort.tracking (h : HostPort) (line : Nat) : HostPort :=
  { h with clean := h.clean.filter (· != line), filter := if h.filter.contains line then h.filter else h.filter ++ [line] }

theorem HostPort.mem_tracking (h : HostPort) (line : Nat) : line ∈ (h.tracking line).filter := by
  unfold HostPort.tracking
  dsimp only
  split
  · next hm => simpa using hm
  · simp

/-- A read is answered from DDR, or with poison. -/
theorem State.serveMem_read (hb : s.bareIch = true) : s.serveMem p { line, write := none, track := true, ecc } =
    ((if ecc then s.spoil p line else s).emit (.memData p line (if ((if ecc then s.spoil p line else s).port p).poison.contains line then none
      else some ((if ecc then s.spoil p line else s).winBytes p (64 * line) 64)))).updPort p (·.tracking line) := by
  have hbare : (if ecc then s.spoil p line else s).bareIch = true := by split <;> exact hb
  unfold State.serveMem
  dsimp only
  rw [State.extRead_bare hbare, State.poisoned_bare hbare]
  rfl

theorem does_serveRead (hl : s.linkL0 p = true) (hm : s.md ≠ mBanked) (hb : s.bareIch = true) (hs : s.memServed p = true)
    (hsize : 64 * line < (s.port p).hdmSize) (hroom : (s.port p).filter.length < 1048576) {u : State} (hu : (if ecc then s.spoil p line else s) = u)
    {d : Option Bytes} (hd : (if (u.port p).poison.contains line then none else some (u.winBytes p (64 * line) 64)) = d) :
    Does (.hostMemRequest p line none true ecc) s [.ports, .out] [] (fun t => t.out = .memData p line d :: s.out ∧ line ∈ (t.port p).filter ∧
      (t.port p).poison = (u.port p).poison) := by
  have hex : exec (.hostMemRequest p line none true ecc) s = .next ((u.emit (.memData p line d)).updPort p (·.tracking line)) := by
    rw [exec_hostMemRequest hl hm, State.grantMem_serves hs hsize fun _ => hroom, State.serveMem_read hb, hu, hd]
  have hport : ((u.emit (.memData p line d)).updPort p (·.tracking line)).port p = (u.port p).tracking line :=
    State.updPort_port _ _
  have hout : u.out = s.out := by rw [← hu]; split <;> rfl
  have hkept : Kept [.ports, .out] [] s u := by
    rw [← hu]
    split
    · exact (Kept.refl _ _ s).updPort (by simp) p fun _ => rfl
    · exact Kept.refl _ _ s
  refine ⟨_, hex, ⟨?_, ?_, ?_⟩, (hkept.emit (by simp)).updPort (by simp) p fun _ => rfl⟩
  · exact congrArg _ hout
  · rw [hport]
    exact HostPort.mem_tracking _ _
  · rw [hport]
    rfl

theorem hostRead_answers (hl : s.linkL0 p = true) (hm : s.md ≠ mBanked) (hb : s.bareIch = true) (hs : s.memServed p = true)
    (hsize : 64 * line < (s.port p).hdmSize) (hroom : (s.port p).filter.length < 1048576) :
    (line ∉ (s.port p).poison → Does (.hostMemRequest p line none true false) s [.ports, .out] [] (fun t =>
      t.out = .memData p line (some (s.winBytes p (64 * line) 64)) :: s.out ∧ line ∈ (t.port p).filter)) ∧
    (line ∈ (s.port p).poison → Does (.hostMemRequest p line none true false) s [.ports, .out] [] (fun t =>
      t.out = .memData p line none :: s.out ∧ line ∈ (t.port p).filter)) ∧
    Does (.hostMemRequest p line none true true) s [.ports, .out] [] (fun t =>
      t.out = .memData p line none :: s.out ∧ line ∈ (t.port p).poison) := by
  refine ⟨fun hc => ?_, fun hp => ?_, ?_⟩
  · obtain ⟨t, ht, ⟨hout, hfil, -⟩, hk⟩ := does_serveRead (ecc := false) hl hm hb hs hsize hroom rfl
      (d := some (s.winBytes p (64 * line) 64)) (by simp [hc])
    exact ⟨t, ht, ⟨hout, hfil⟩, hk⟩
  · obtain ⟨t, ht, ⟨hout, hfil, -⟩, hk⟩ := does_serveRead (ecc := false) hl hm hb hs hsize hroom rfl (d := none) (by simp [hp])
    exact ⟨t, ht, ⟨hout, hfil⟩, hk⟩
  · have hspoiled : line ∈ ((s.spoil p line).port p).poison := by
      rw [State.spoil, State.port_updPort, if_pos rfl]
      dsimp only
      split
      · next h => simpa using h
      · simp
    obtain ⟨t, ht, ⟨hout, -, hpoi⟩, hk⟩ := does_serveRead (ecc := true) hl hm hb hs hsize hroom rfl (d := none) (by simp [hspoiled])
    exact ⟨t, ht, ⟨hout, hpoi ▸ hspoiled⟩, hk⟩

/-- A write of part of a line or of all of it. -/
theorem hostWrite_stores (hl : s.linkL0 p = true) (hm : s.md ≠ mBanked) (hb : s.bareIch = true) (hs : s.memServed p = true)
    (hsize : 64 * line < (s.port p).hdmSize) (hlen : o + b.length ≤ 64) (ho : o < 64) :
    Does (.hostMemRequest p line (some (o, b)) false false) s [.ports, .out, .ddr] [] (fun t =>
      t.out = .memDone p line :: s.out ∧ t.winBytes p (64 * line + o) b.length = b ∧ line ∉ (t.port p).filter ∧
      (b.length = 64 → line ∉ (t.port p).poison) ∧ (b.length < 64 → (t.port p).poison = (s.port p).poison) ∧
      ∀ a, (a < (s.port p).backing + 64 * line + o ∨ (s.port p).backing + 64 * line + o + b.length ≤ a) → Tab.getB t.ddr a = Tab.getB s.ddr a) := by
  have hserve : s.serveMem p { line, write := some (o, b), track := false, ecc := false } =
      ((s.hostStore p line o b).emit (.memDone p line)).updPort p
        (fun h => { h with clean := h.clean.filter (· != line), filter := h.filter.filter (· != line) }) := by
    simp only [State.serveMem, Nat.mod_eq_of_lt ho, List.take_of_length_le (show b.length ≤ 64 - o by omega), Bool.false_eq_true, if_false]
  have hkept := State.hostStore_kept (p := p) (line := line) (o := o) (b := b) hb
  have hport := State.hostStore_port (p := p) (line := line) (o := o) (b := b) hb
  have hddr := State.hostStore_ddr (p := p) (line := line) (o := o) (b := b) hb
  generalize s.hostStore p line o b = u at hserve hkept hport hddr
  generalize hv : (u.emit (.memDone p line)).updPort p
    (fun h => { h with clean := h.clean.filter (· != line), filter := h.filter.filter (· != line) }) = v at hserve
  have hvport : v.port p = { s.port p with poison := poisonAfter (s.port p).poison line b, clean := (s.port p).clean.filter (· != line),
                                            filter := (s.port p).filter.filter (· != line) } := by
    rw [← hv, State.port_updPort, if_pos rfl, State.port, State.emit_ports, ← State.port, hport]
  have hvddr : v.ddr = Tab.writeBytes s.ddr ((s.port p).backing + 64 * line + o) b := by rw [← hv, ← hddr]; rfl
  refine ⟨v, ?_, ⟨?_, ?_, ?_, fun h64 => ?_, fun hlt => ?_, fun a ha => ?_⟩, ?_⟩
  · rw [exec_hostMemRequest hl hm, State.grantMem_serves hs hsize (by simp), hserve]
  · rw [← hv]
    exact congrArg _ (hkept.2.1 .out (by decide))
  · rw [State.winBytes, hvport, hvddr, ← Nat.add_assoc]
    exact Tab.readBytes_writeBytes _ _ _
  · simp [hvport]
  · simp [hvport, poisonAfter, h64]
  · simp [hvport, poisonAfter, Nat.ne_of_lt hlt]
  · rw [hvddr]
    exact Tab.getB_writeBytes_outside _ _ _ _ ha
  · rw [← hv]
    exact ((hkept.widen (by simp) (by simp)).emit (by simp)).updPort (by simp) p fun _ => rfl

/-- The BISnp that evicts line `old` for a host's read of `line` (R50). -/
def evicting (s : State) (line old : Nat) : Snoop := { line := old, inv := true, sentAt := s.cyc, host := [⟨line, none, true, false⟩] }

/-- The port with one more BISnp in flight. -/
def HostPort.asking (h : HostPort) (x : Snoop) : HostPort := { h with snoops := h.snoops ++ [x] }

/-- A request that needs a new entry of a full filter waits for the eviction of the oldest line. -/
theorem hostRead_evicts (hl : s.linkL0 p = true) (hm : s.md ≠ mBanked) (hs : s.memServed p = true) (hsize : 64 * line < (s.port p).hdmSize)
    (hfull : 1048576 ≤ (s.port p).filter.length) (htr : s.tracked p line = false) (hf : (s.port p).filter = old :: rest)
    (hno : (s.port p).snoops.any (fun x => x.line == old) = false) :
    Does (.hostMemRequest p line none true false) s [.ports, .out] [] (fun t => t.out = .bisnp p old true :: s.out ∧ (t.port p).filter = (s.port p).filter ∧
      (t.port p).snoops = (s.port p).snoops ++ [evicting s line old]) := by
  have hex : exec (.hostMemRequest p line none true false) s = .next ((s.updPort p (·.asking (evicting s line old))).emit (.bisnp p old true)) := by
    rw [exec_hostMemRequest hl hm]
    simp only [State.grantMem, hs, htr, decide_eq_true hfull, Bool.not_true, Bool.not_false, Bool.false_or, Bool.and_self, decide_eq_true_eq,
      Nat.not_le.mpr hsize, if_false, if_true]
    split
    · next h => rw [hf] at h; cases h
    · next o r h =>
      rw [hf] at h
      cases h
      rw [hno]
      rfl
  have hport : ((s.updPort p (·.asking (evicting s line old))).emit (.bisnp p old true)).port p = (s.port p).asking (evicting s line old) :=
    State.updPort_port p (·.asking (evicting s line old))
  refine ⟨_, hex, ⟨rfl, ?_, ?_⟩, ((Kept.refl _ _ s).updPort (f := (·.asking (evicting s line old))) (by simp) p fun _ => rfl).emit (by simp)⟩ <;> rw [hport] <;> rfl

theorem hostRead_unsupported (hl : s.linkL0 p = true) (hm : s.md ≠ mBanked) (h : s.memServed p = false ∨ (s.port p).hdmSize ≤ 64 * line) :
    Does (.hostMemRequest p line none true false) s [.out] [] (fun t => t.out = .memUnsupported p line :: s.out) := by
  have hex : exec (.hostMemRequest p line none true false) s = .next (s.emit (.memUnsupported p line)) := by
    rw [exec_hostMemRequest hl hm]
    rcases h with h | h <;> simp [State.grantMem, h]
  exact ⟨_, hex, rfl, (Kept.refl _ _ s).emit (by simp)⟩

end Sys2Proof.Machine
end

section
/-! The coherent window: the ends of snoops (R50-R52), queue lines that the host invalidates (R47). -/

namespace Sys2Proof.Machine

variable {ps : List Part} {fs : List Fld} {s t : State} {p line key : Nat} {b : Bytes} {w : DevWrite} {x : Snoop} {f : Nat → Fld} {c : Option Nat}

/-! ### A host port's errors (R76) -/

theorem State.hstErr_kept (s : State) (p : Nat) (f : Nat → Fld) (c : Option Nat) : Kept logParts (f p :: logFlds) s (s.hstErr p f c) := by
  have h : Kept logParts (f p :: logFlds) s ((s.setb (f p) true).irq p 2047) :=
    ((Kept.refl _ _ s).setb (by simp)).irq (by simp [logParts]) (by simp [logParts])
  unfold State.hstErr
  cases c with
  | none => exact h
  | some c => exact h.logged (fun _ h => h) (by simp +contextual)

theorem State.getb_hstErr (hw : 0 < (f p).width) (hk : (f p).key ∉ logFlds.map Fld.key) : (s.hstErr p f c).getb (f p) = true := by
  have hset : ((s.setb (f p) true).irq p 2047).getb (f p) = true :=
    (((Kept.refl logParts [] _).irq (by simp [logParts]) (by simp [logParts])).getb_eq (by simp)).trans (State.getb_setb_same hw)
  unfold State.hstErr
  cases c with
  | none => exact hset
  | some c => exact ((State.record_kept _ c _).getb_eq hk).trans hset

theorem Kept.port_eq (h : Kept ps fs s t) (hp : Part.ports ∉ ps) (q : Nat) : { t.port q with msixPend := [] } = { s.port q with msixPend := [] } :=
  h.2.1 .ports hp q

theorem Kept.wins_eq (h : Kept ps fs s t) (hp : Part.wins ∉ ps) : t.wins = s.wins := h.2.1 .wins hp
theorem Kept.agentq_eq (h : Kept ps fs s t) (hp : Part.agentq ∉ ps) : t.agentq = s.agentq := h.2.1 .agentq hp

/-! ### A snoop answered (R50, R51) -/

/-- The port after the answer to its one BISnpInv. -/
def HostPort.answered (h : HostPort) (line : Nat) : HostPort :=
  { h with snoops := h.snoops.filter (fun y => y.line != line), filter := h.filter.filter (· != line), clean := h.clean }

theorem exec_birsp (hx : (s.port p).snoops = [x]) (hline : x.line = line) (hb : b.length = 64) :
    exec (.birsp p line (some b) false) s = .next (((s.hostStore p line 0 b).updPort p (·.answered line)).snoopEnded p x) := by
  have hfind : (s.port p).snoops.find? (fun x => x.line == line) = some x := by simp [hx, hline]
  have hslice : slice b 0 64 = b := by rw [← hb, slice_zero_length]
  simp only [exec, execBirsp, hfind, hslice]
  rfl

/-- A snoop that ends lets the one write that waited go on. -/
theorem State.snoopEnded_writes (hh : x.host = []) (hd : (s.port p).devq = [w]) (hi : w.irq = none) (hf : (s.port p).filter = [])
    (hb : s.bareIch = true) (hp : ∀ q < 2, (s.port q).poison = []) (hw : (s.win p).doneq = []) (ha : s.agentq = []) : s.snoopEnded p x =
      { s.updPort p (fun h => { h with devq := [] }) with ddr := Tab.writeBytes s.ddr ((s.port p).backing + w.off) w.bytes } := by
  simp only [State.snoopEnded, hh, List.foldl_nil, hd, List.length_singleton, State.pumpWrites_one hd hi hf hb hp 0]
  rw [State.pumpDone_none, State.pumpAgents_none]
  · exact ha
  · exact hw

/-- The answer's data stand in DDR, and over them the bytes of the device's write. -/
theorem birsp_lets_write (hx : (s.port p).snoops = [x]) (hline : x.line = line) (hh : x.host = []) (hd : (s.port p).devq = [w])
    (hi : w.irq = none) (hw : linesIn w.off w.bytes.length = [line]) (hf : (s.port p).filter = [line]) (hdone : (s.win p).doneq = [])
    (hag : s.agentq = []) (hbare : s.bareIch = true) (hp0 : (s.port 0).poison = []) (hp1 : (s.port 1).poison = []) (hb : b.length = 64) :
    Does (.birsp p line (some b) false) s [.ports, .ddr] [] (fun t => (t.port p).snoops = [] ∧ (t.port p).filter = [] ∧ (t.port p).devq = [] ∧
      t.winBytes p w.off w.bytes.length = w.bytes ∧
      (∀ a, 64 * line ≤ a → a < 64 * line + 64 → a < w.off ∨ w.off + w.bytes.length ≤ a →
        Tab.getB t.ddr ((s.port p).backing + a) = b.getD (a - 64 * line) 0#8) ∧
      ∀ a, (a < (s.port p).backing + 64 * line ∨ (s.port p).backing + 64 * line + 64 ≤ a) → Tab.getB t.ddr a = Tab.getB s.ddr a) := by
  have hport := State.hostStore_port (p := p) (line := line) (o := 0) (b := b) hbare
  have hddr := State.hostStore_ddr (p := p) (line := line) (o := 0) (b := b) hbare
  have hkept := State.hostStore_kept (p := p) (line := line) (o := 0) (b := b) hbare
  have hich : (s.hostStore p line 0 b).ich = s.ich := hkept.2.1 .ich (by decide)
  have hex := exec_birsp hx hline hb
  have hpoison : ∀ q < 2, ((s.hostStore p line 0 b).port q).poison = [] := fun q hq => by
    rcases eq_zero_or_one hq with rfl | rfl
    · exact State.hostStore_poison hbare hp0
    · exact State.hostStore_poison hbare hp1
  generalize s.hostStore p line 0 b = u at hport hddr hkept hich hex hpoison
  generalize hv : u.updPort p (·.answered line) = v at hex
  have hvport : v.port p = ({ s.port p with poison := poisonAfter (s.port p).poison line b } : HostPort).answered line := by
    rw [← hv, State.updPort_port, hport]
  have hvddr : v.ddr = Tab.writeBytes s.ddr ((s.port p).backing + 64 * line) b := by rw [← hv]; exact hddr
  have hvbare : v.bareIch = true := by rw [← hv]; simpa [State.bareIch, State.updPort, hich] using hbare
  have hvkept : Kept [.ports, .ddr] [] s v := by rw [← hv]; exact hkept.updPort (by simp) p fun _ => rfl
  have hvpoison : ∀ q < 2, (v.port q).poison = [] := fun q hq => by
    rw [← hv, State.port_updPort]
    split
    · next he => exact he ▸ hpoison q hq
    · exact hpoison q hq
  have hdevq : (v.port p).devq = [w] := by rw [hvport]; exact hd
  have hback : (v.port p).backing = (s.port p).backing := by rw [hvport]; rfl
  have hended : v.snoopEnded p x =
      { v.updPort p (fun h => { h with devq := [] }) with ddr := Tab.writeBytes v.ddr ((s.port p).backing + w.off) w.bytes } := by
    rw [← hback]
    exact State.snoopEnded_writes hh hdevq hi (by rw [hvport]; simp [HostPort.answered, hf]) hvbare hvpoison
      ((congrArg (fun m => (Tab.getD m p {}).doneq) (hvkept.wins_eq (by decide))).trans hdone) ((hvkept.agentq_eq (by decide)).trans hag)
  generalize hz : v.snoopEnded p x = z at hex hended
  have hzport : z.port p = { v.port p with devq := [] } := by
    rw [hended]
    exact State.updPort_port (s := v) p (fun h => { h with devq := [] })
  have hzddr : z.ddr = Tab.writeBytes (Tab.writeBytes s.ddr ((s.port p).backing + 64 * line) b) ((s.port p).backing + w.off) w.bytes := by
    rw [hended, ← hvddr]
  obtain ⟨hlo, hhi⟩ := bounds_of_linesIn hw
  refine ⟨z, hex, ⟨?_, ?_, ?_, ?_, fun a ha hb' hout => ?_, fun a ha => ?_⟩, ?_⟩
  · rw [hzport, hvport]
    simp [HostPort.answered, hx, hline]
  · rw [hzport, hvport]
    simp [HostPort.answered, hf]
  · rw [hzport]
  · rw [State.winBytes, hzport, hzddr, hback]
    exact Tab.readBytes_writeBytes _ _ _
  · rw [hzddr, Tab.getB_writeBytes_outside _ _ _ _ (by omega)]
    have hin := Tab.getB_writeBytes_inside s.ddr ((s.port p).backing + 64 * line) (a - 64 * line) b (by omega)
    rw [show (s.port p).backing + 64 * line + (a - 64 * line) = (s.port p).backing + a by omega] at hin
    rw [hin, List.getD_eq_getElem _ _ (by omega)]
  · rw [hzddr, Tab.getB_writeBytes_outside _ _ _ _ (by omega), Tab.getB_writeBytes_outside _ _ _ _ (by omega)]
  · rw [hended]
    exact (hvkept.updPort (f := fun h => { h with devq := [] }) (by simp) p fun _ => rfl).setDdr (by simp) _

/-! ### A snoop that is not answered (R52) -/

theorem biTimeout_again (hx : (s.port p).snoops = [x]) (hline : x.line = line) (hto : x.sentAt + us (max 1 (s.get (F.HST_BI_TO_TIMEOUT p))) ≤ s.cyc)
    (hfirst : x.again = false) : Does (.biTimeout p line) s [.ports, .out] [] (fun t => t.out = .bisnp p line x.inv :: s.out ∧
      (t.port p).snoops = [{ x with again := true, sentAt := s.cyc }]) := by
  have hex : exec (.biTimeout p line) s = .next ((s.updPort p (fun h => { h with
      snoops := h.snoops.map (fun y => if y.line == line then { y with again := true, sentAt := s.cyc } else y) })).emit (.bisnp p line x.inv)) := by
    simp [exec, execBiTimeout, hx, hline, hfirst, Nat.not_lt.mpr hto]
  refine ⟨_, hex, ⟨rfl, ?_⟩, ((Kept.refl _ _ s).updPort (f := fun h => { h with
    snoops := h.snoops.map (fun y => if y.line == line then { y with again := true, sentAt := s.cyc } else y) }) (by simp) p fun _ => rfl).emit (by simp)⟩
  have hport := State.updPort_port (s := s) p (fun h => { h with
    snoops := h.snoops.map (fun y => if y.line == line then { y with again := true, sentAt := s.cyc } else y) })
  exact (congrArg HostPort.snoops hport).trans (by simp [hx, hline])

/-- The port after the second timeout of its one BISnp: the line is dropped, and is poisoned where the device meant to read it. -/
def HostPort.dropped (h : HostPort) (line : Nat) (rd : Bool) : HostPort :=
  { h with snoops := h.snoops.filter (fun y => y.line != line), filter := h.filter.filter (· != line)
           poison := if !rd || h.poison.contains line then h.poison else line :: h.poison }

/-- The slot whose data the dropped line holds fails (R52). -/
def State.failLine (s : State) (p line : Nat) (wr : Bool) : State :=
  if wr then
    match s.dataSlot p line with
    | some slot => s.updWin p (fun w => { w with writeFail := if w.writeFail.contains slot then w.writeFail else slot :: w.writeFail })
    | none => s
  else s

theorem Kept.updWin (h : Kept ps fs s t) (hp : Part.wins ∈ ps) (p : Nat) (f : Window → Window) : Kept ps fs s (t.updWin p f) := by
  refine h.upd rfl rfl fun q hn => ?_
  cases q with
  | wins => exact absurd hp hn
  | ports | irqPend => exact fun _ => rfl
  | wdt => exact ⟨rfl, rfl⟩
  | plic => exact ⟨rfl, rfl, rfl, rfl⟩
  | _ => exact rfl

theorem State.win_updWin (p : Nat) (f : Window → Window) : (s.updWin p f).win p = f (s.win p) := by
  simp [State.win, State.updWin, Tab.getD_upd]

theorem State.failLine_kept (s : State) (p line : Nat) (wr : Bool) : Kept [.wins] [] s (s.failLine p line wr) := by
  unfold State.failLine
  split
  · split
    · exact (Kept.refl _ _ s).updWin (by simp) p _
    · exact Kept.refl _ _ s
  · exact Kept.refl _ _ s

theorem State.failLine_doneq (s : State) (p line : Nat) (wr : Bool) : ((s.failLine p line wr).win p).doneq = (s.win p).doneq := by
  unfold State.failLine
  split
  · split
    · rw [State.win_updWin]
    · rfl
  · rfl

theorem State.mem_failLine {wr : Bool} {slot : Nat} (hwr : wr = true) (h : s.dataSlot p line = some slot) :
    slot ∈ ((s.failLine p line wr).win p).writeFail := by
  simp only [State.failLine, hwr, if_true, h, State.win_updWin]
  split
  · next hc => simpa using hc
  · exact List.mem_cons_self

theorem biTimeout_drops (hp : p < 2) (hx : (s.port p).snoops = [x]) (hline : x.line = line)
    (hto : x.sentAt + us (max 1 (s.get (F.HST_BI_TO_TIMEOUT p))) ≤ s.cyc) (hagain : x.again = true) (hh : x.host = []) (hd : (s.port p).devq = [])
    (hdone : (s.win p).doneq = []) (hag : s.agentq = []) :
    Gives (.biTimeout p line) s (fun t => (t.port p).snoops = [] ∧ line ∉ (t.port p).filter ∧ (x.rd = true → line ∈ (t.port p).poison) ∧
      (x.rd = false → (t.port p).poison = (s.port p).poison) ∧
      (∀ slot, x.wr = true → s.dataSlot p line = some slot → slot ∈ (t.win p).writeFail) ∧ t.getb (F.HST_ERR_BI_TO p) = true) := by
  have hex : exec (.biTimeout p line) s = .next ((((s.updPort p (·.dropped line x.rd)).failLine p line x.wr).hstErr p F.HST_ERR_BI_TO
      (some 0x0622)).snoopEnded p x) := by
    simp only [exec, execBiTimeout, hx, hline, hagain, Nat.not_lt.mpr hto, List.find?_cons, beq_self_eq_true, Bool.not_true, Bool.false_eq_true,
      if_false]
    rfl
  have hfail := State.failLine_kept (s.updPort p (·.dropped line x.rd)) p line x.wr
  have hfdone := State.failLine_doneq (s.updPort p (·.dropped line x.rd)) p line x.wr
  have hslot : ∀ slot, x.wr = true → s.dataSlot p line = some slot →
      slot ∈ (((s.updPort p (·.dropped line x.rd)).failLine p line x.wr).win p).writeFail := fun _ hwr h => State.mem_failLine hwr h
  generalize (s.updPort p (·.dropped line x.rd)).failLine p line x.wr = u at hex hfail hfdone hslot
  have herr := State.hstErr_kept u p F.HST_ERR_BI_TO (some 0x0622)
  have hbit : (u.hstErr p F.HST_ERR_BI_TO (some 0x0622)).getb (F.HST_ERR_BI_TO p) = true := by
    refine State.getb_hstErr ?_ ?_ <;> rcases eq_zero_or_one hp with rfl | rfl <;> decide
  generalize u.hstErr p F.HST_ERR_BI_TO (some 0x0622) = v at hex herr hbit
  have hport : { v.port p with msixPend := [] } = { (s.port p).dropped line x.rd with msixPend := [] } := by
    rw [herr.port_eq (by decide), hfail.port_eq (by decide), State.updPort_port]
  have hwin : v.win p = u.win p := by rw [State.win, State.win, herr.wins_eq (by decide)]
  rw [State.snoopEnded_idle hh] at hex
  · refine ⟨v, hex, ?_, ?_, fun hrd => ?_, fun hrd => ?_, fun slot hwr hs => hwin ▸ hslot slot hwr hs, hbit⟩
    · exact (congrArg HostPort.snoops hport).trans (by simp [HostPort.dropped, hx, hline])
    · have h : (v.port p).filter = ((s.port p).dropped line x.rd).filter := (congrArg HostPort.filter hport :)
      simp [h, HostPort.dropped]
    · have h : (v.port p).poison = ((s.port p).dropped line x.rd).poison := (congrArg HostPort.poison hport :)
      rw [h, HostPort.dropped, hrd]
      dsimp only
      split
      · next hc => simpa using hc
      · exact List.mem_cons_self
    · exact (congrArg HostPort.poison hport).trans (by simp [HostPort.dropped, hrd])
  · exact (congrArg HostPort.devq hport).trans hd
  · rw [hwin]
    exact hfdone.trans hdone
  · exact (herr.agentq_eq (by decide)).trans ((hfail.agentq_eq (by decide)).trans hag)

/-! ### A queue line is invalidated (R47) -/

theorem hostLineInvalidate_drops (s : State) (p key : Nat) : Does (.hostLineInvalidate p key) s [.ports] [] (fun t =>
    (∀ l ∈ (t.port p).lines, l.1 ≠ key) ∧ ∀ l ∈ (s.port p).lines, l.1 ≠ key → l ∈ (t.port p).lines) := by
  have hport := State.updPort_port (s := s) p (fun h => { h with lines := h.lines.filter (fun l => l.1 != key) })
  have hlines := congrArg HostPort.lines hport
  refine ⟨_, rfl, ⟨fun l hl => ?_, fun l hl hk => ?_⟩,
    (Kept.refl _ _ s).updPort (f := fun h => { h with lines := h.lines.filter (fun l => l.1 != key) }) (by simp) p fun _ => rfl⟩
  · have := hlines ▸ hl
    simpa using (List.mem_filter.mp this).2
  · exact hlines ▸ List.mem_filter.mpr ⟨hl, by simpa using hk⟩

end Sys2Proof.Machine
end

section
namespace Sys2Proof.Machine

/-- Settles O37: the decoder and each request by its branch; the snoop's end by the one write that waits on it. -/
theorem coherentWindow : Obligations.CoherentWindow := by
  unfold Obligations.CoherentWindow
  refine ⟨fun s p base size ways _ hl hc => ⟨hdmCommit_commits hl hc, hdmCommit_refuses hl hc⟩, fun s p line _ hl hm hb =>
    ⟨fun hs hsize hroom => ?_, fun old rest => hostRead_evicts hl hm, hostRead_unsupported hl hm⟩,
    fun s p line x w b _ hx hline _ hh hd hi hw hf hdone hag hbare hp0 hp1 hb _ =>
      birsp_lets_write hx hline hh hd hi hw hf hdone hag hbare hp0 hp1 hb,
    fun s p line x hp hx hline hto => ⟨biTimeout_again hx hline hto, biTimeout_drops hp hx hline hto⟩,
    fun s p key _ => hostLineInvalidate_drops s p key⟩
  obtain ⟨hclean, hpoisoned, hecc⟩ := hostRead_answers hl hm hb hs hsize hroom
  exact ⟨hclean, hpoisoned, hecc, fun o b => hostWrite_stores hl hm hb hs hsize⟩

end Sys2Proof.Machine
end

section
/-! A Write Zeroes whose DEALLOC record is mirrored at once: the mirror message takes the next number of the counter that also numbers the commands. -/

namespace Sys2Proof.Machine

/-- The number the next command of a state that was answered takes. -/
def nextIdOf : Res → Nat
  | .next t => t.bel.nextId
  | _ => 0

/-- A head in Duplex with its session up and its journal ready: port 0 may fetch, its queue 1 has one entry, volume 0 is its own, and one
sequence is left in the block. -/
def mirroredHead : State :=
  { ((((State.reset.set F.KDL_REL_STS_DOMAIN (2 ^ 18 - 1)).set F.GLB_MODE_MODE mDuplex).setBitOf F.BEL_CTL_FETCH_EN 0 true).setb F.CRL_STS_SESSION true).setb
      F.JNL_STS_READY true with
    bel := { State.reset.bel with
      blockEnd := 2, vols := [(0, { present := true, attach := 1, size := 262144 })]
      ctrls := [(0, { en := true, rdy := true, sqs := [(1, { tail := 1 })] })] } }

theorem mirroredHead_turn : mirroredHead.turnOf 0 1 = true ∧ mirroredHead.md ≠ mBanked ∧ Tab.find (mirroredHead.ctrl 0).sqs 1 = some { tail := 1 } ∧
    mirroredHead.writeStopped = false ∧ mirroredHead.seqReady mirroredHead.now = true ∧ mirroredHead.bel.nextId = 1 := by decide +kernel

/-- The command takes number 1, the message of its record number 2. -/
theorem mirroredHead_writeZeroes : nextIdOf (exec (.writeZeroes 0 1 0 1 0 1) mirroredHead) = 3 := by decide +kernel

/-- Refutes O31: `EntryTaken` asks for a count of commands one higher, also of a Write Zeroes; where the head is Mirrored, the message that carries
its DEALLOC record takes a number of the same counter, which is then two higher. -/
theorem not_commandsAreFetched : ¬ Obligations.CommandsAreFetched := by
  unfold Obligations.CommandsAreFetched
  rintro ⟨htaken, -⟩
  obtain ⟨hturn, hmd, hx, hstop, hseq, hid⟩ := mirroredHead_turn
  obtain ⟨hfetch, -⟩ := htaken mirroredHead 0 1 0 1 (by decide) (by decide)
  obtain ⟨-, -, hwrites⟩ := hfetch _ hturn hmd hx
  obtain ⟨-, hzeroes, -⟩ := hwrites hstop hseq
  obtain ⟨t, ht, -, hnext⟩ := hzeroes 0 1
  have hthree : t.bel.nextId = 3 := by
    have h := mirroredHead_writeZeroes
    rwa [ht] at h
  omega

end Sys2Proof.Machine
end

section
/-! Fields laid over a byte string: what a field's bytes are once all are laid, where no two of them meet. -/

namespace Sys2Proof.Machine

variable {a b new : Bytes} {o o' d n off : Nat} {f : Nat × Bytes} {fs : List (Nat × Bytes)}

/-! ### Bytes of a string -/

theorem slice_eq_map (b : Bytes) (o n : Nat) : slice b o n = (List.range n).map (fun i => b.getD (o + i) 0) := by
  refine List.ext_getElem ?_ fun i h h' => ?_
  · simp [slice, zeroBytes]
  · simp only [slice, zeroBytes, List.getElem_map, List.getElem_range, List.getElem_append, List.length_take, List.length_drop, List.getElem_take,
      List.getElem_drop, List.getElem_replicate]
    rw [List.length_map, List.length_range] at h'
    split
    · next hlt => rw [List.getD_eq_getElem _ _ (by omega)]
    · next hge => rw [List.getD_eq_default _ _ (by omega)]; rfl

theorem leAt_congr (h : ∀ i < n, a.getD (o + i) 0 = b.getD (o' + i) 0) : leAt a o n = leAt b o' n := by
  rw [leAt, leAt, slice_eq_map, slice_eq_map]
  exact congrArg leNat (List.map_congr_left fun i hi => h i (List.mem_range.mp hi))

theorem patch_length (b : Bytes) (off : Nat) (new : Bytes) : (patch b off new).length = b.length := by
  simp only [patch, List.length_take, List.length_append, List.length_drop]
  omega

theorem getD_patch (h : off + new.length ≤ b.length) (i : Nat) :
    (patch b off new).getD i 0 = if off ≤ i ∧ i < off + new.length then new.getD (i - off) 0 else b.getD i 0 := by
  simp only [patch, List.getD_eq_getElem?_getD, List.getElem?_take, List.getElem?_append, List.length_append, List.length_take, List.getElem?_drop,
    Nat.min_eq_left (show off ≤ b.length by omega)]
  by_cases hlen : i < b.length
  · rw [if_pos hlen]
    by_cases hhi : i < off + new.length
    · rw [if_pos hhi]
      by_cases hlo : i < off
      · rw [if_pos hlo, if_pos hlo, if_neg (by omega)]
      · rw [if_neg hlo, if_pos ⟨by omega, hhi⟩]
    · rw [if_neg hhi, if_neg (by omega), show off + new.length + (i - (off + new.length)) = i by omega]
  · rw [if_neg hlen, if_neg (by omega), List.getElem?_eq_none (by omega)]

theorem leAt_patch_inside (h : off + new.length ≤ b.length) (hd : d + n ≤ new.length) : leAt (patch b off new) (off + d) n = leAt new d n := by
  refine leAt_congr fun i hi => ?_
  rw [getD_patch h, if_pos (by omega), show off + d + i - off = d + i by omega]

theorem leAt_patch_outside (h : off + new.length ≤ b.length) (ho : o + n ≤ off ∨ off + new.length ≤ o) : leAt (patch b off new) o n = leAt b o n := by
  refine leAt_congr fun i hi => ?_
  rw [getD_patch h, if_neg (by omega)]

/-! ### Fields -/

theorem overFields_length (b : Bytes) (fs : List (Nat × Bytes)) : (overFields b fs).length = b.length := by
  induction fs generalizing b with
  | nil => rfl
  | cons f fs ih => exact (ih _).trans (patch_length b f.1 f.2)

/-- The places of some fields lie within `n` bytes, and no two of them meet. -/
abbrev SpansFit (n : Nat) (ls : List (Nat × Nat)) : Prop :=
  (∀ l ∈ ls, l.1 + l.2 ≤ n) ∧ ls.Pairwise (fun a b => a.1 + a.2 ≤ b.1 ∨ b.1 + b.2 ≤ a.1)

/-- The places of some fields. -/
def spans (fs : List (Nat × Bytes)) : List (Nat × Nat) := fs.map (fun f => (f.1, f.2.length))

theorem leAt_overFields_outside (h : ∀ f ∈ fs, f.1 + f.2.length ≤ b.length) (ho : ∀ f ∈ fs, o + n ≤ f.1 ∨ f.1 + f.2.length ≤ o) :
    leAt (overFields b fs) o n = leAt b o n := by
  induction fs generalizing b with
  | nil => rfl
  | cons f fs ih =>
    have hrest : ∀ g ∈ fs, g.1 + g.2.length ≤ (patch b f.1 f.2).length := fun g hg => by
      rw [patch_length]
      exact h g (List.mem_cons_of_mem _ hg)
    exact (ih hrest fun g hg => ho g (List.mem_cons_of_mem _ hg)).trans (leAt_patch_outside (h f List.mem_cons_self) (ho f List.mem_cons_self))

theorem leAt_overFields (h : SpansFit b.length (spans fs)) (hf : f ∈ fs) (hd : d + n ≤ f.2.length) :
    leAt (overFields b fs) (f.1 + d) n = leAt f.2 d n := by
  obtain ⟨hin, hpair⟩ := h
  have hin' : ∀ g ∈ fs, g.1 + g.2.length ≤ b.length := fun g hg => hin _ (List.mem_map_of_mem hg)
  clear hin
  rw [spans, List.pairwise_map] at hpair
  induction fs generalizing b with
  | nil => cases hf
  | cons g fs ih =>
    rw [List.pairwise_cons] at hpair
    obtain ⟨hg, hpair⟩ := hpair
    have hrest : ∀ k ∈ fs, k.1 + k.2.length ≤ (patch b g.1 g.2).length := fun k hk => by
      rw [patch_length]
      exact hin' k (List.mem_cons_of_mem _ hk)
    rcases List.mem_cons.mp hf with rfl | hf
    · refine (leAt_overFields_outside hrest fun k hk => ?_).trans (leAt_patch_inside (hin' f List.mem_cons_self) hd)
      rcases hg k hk with h | h <;> omega
    · exact ih hf hpair hrest

/-- Bytes of the field at place `k` of the list. -/
theorem leAt_field (h : SpansFit b.length (spans fs)) (k o d : Nat) {v : Nat} (hk : fs[k]? = some (o, new)) (hd : d + n ≤ new.length)
    (hv : leAt new d n = v) : leAt (overFields b fs) (o + d) n = v := (leAt_overFields h (List.mem_of_getElem? hk) hd).trans hv

theorem leAt_leBytes (n v : Nat) : leAt (leBytes n v) 0 n = v % 256 ^ n := by
  have hslice : slice (leBytes n v) 0 n = leBytes n v := by
    simpa using slice_append_left (leBytes n v) [] n (leBytes_length n v)
  rw [leAt, hslice, leNat_leBytes]

/-- A number within a string. -/
theorem leAt_of_append {v : Nat} {c : Bytes} (hb : b = a ++ (leBytes n v ++ c)) (ha : a.length = o) : leAt b o n = v % 256 ^ n := by
  rw [hb, ← List.append_assoc, leAt, slice_append _ _ _ _ _ ha (leBytes_length n v), leNat_leBytes]

theorem State.freeBytes_length (s : State) (n : Nat) : (s.freeBytes n).length = n := by simp [State.freeBytes]

end Sys2Proof.Machine
end

section
/-! Admin commands: what taking the entry of an admin queue leaves, and what a completion adds (R64, R106). -/

namespace Sys2Proof.Machine

variable {ps : List Part} {fs : List Fld} {s t u w : State} {i : Instr} {p cid sct sc dw0 : Nat} {x : SubQ} {y : CplQ} {named : Bool} {eff : State → State}

/-- The admin queue with its oldest entry taken. -/
def Ctrl.taken (c : Ctrl) : Ctrl := { c with sqs := Tab.upd c.sqs 0 {} (fun x => { x with head := (x.head + 1) % x.size }) }

/-- The queue once its oldest entry is taken. -/
def SubQ.next (x : SubQ) : SubQ := { x with head := (x.head + 1) % x.size }

theorem Ctrl.find_taken (c : Ctrl) (h : Tab.find c.sqs 0 = some x) (q : Nat) :
    Tab.find c.taken.sqs q = if q = 0 then some x.next else Tab.find c.sqs q := by
  rw [Ctrl.taken, Tab.upd, Tab.find_put, Tab.getD_of_find h]
  rfl

theorem Ctrl.mem_taken {c : Ctrl} (h : Tab.find c.sqs 0 = some x) {e : Nat × SubQ} (he : e ∈ c.taken.sqs) : e = (0, x.next) ∨ e ∈ c.sqs := by
  have hput := Tab.mem_put he
  rwa [Tab.getD_of_find h] at hput

/-- The entry of the admin queue has been taken: Bellows' last port and the controller follow, and what CXL.cache asks of the host. -/
theorem State.sqFetched_admin (s : State) (p : Nat) : ∃ ports out, s.sqFetched p 0 =
    { s with bel := { s.bel with lastPort := p, ctrls := Tab.upd s.bel.ctrls p {} Ctrl.taken }, ports, out } ∧
    (s.getb (F.HST_LINK_STS_CACHE_ON p) = false → out = s.out) := by
  unfold State.sqFetched
  dsimp only
  rw [show s.served p 0 = s.updBel (fun b => { b with lastPort := p }) from rfl]
  obtain ⟨ports, out, hline⟩ := (s.updBel (fun b => { b with lastPort := p })).holdLine_eq p (sqLine 0 (Tab.getD (s.ctrl p).sqs 0 {}).head) false
  refine ⟨ports, out, ?_, fun hoff => ?_⟩
  · rw [hline]
    rfl
  · exact congrArg State.out (hline.symm.trans (State.holdLine_off (s := s.updBel (fun b => { b with lastPort := p })) hoff _ _))

/-- What an admin command finds once it is taken. -/
structure AdminTaken (s u : State) (p : Nat) : Prop where
  ctrl : u.ctrl p = (s.ctrl p).taken
  other : ∀ q, q ≠ p → u.ctrl q = s.ctrl q
  refetched : Refetched s u
  kept : Kept (fetchParts s p) [] s u
  admin : u.bel.admin = s.bel.admin
  out : s.getb (F.HST_LINK_STS_CACHE_ON p) = false → u.out = s.out
  sanStatus : u.bel.sanStatus = s.bel.sanStatus

theorem State.sqFetched_adminTaken (s : State) (p : Nat) : AdminTaken s (s.sqFetched p 0) p := by
  have hr := s.sqFetched_refetched p 0
  have hk := s.sqFetched_kept p 0
  obtain ⟨ports, out, heq, hout⟩ := s.sqFetched_admin p
  rw [heq] at hr hk ⊢
  exact ⟨by simp [State.ctrl, Tab.getD_upd], fun q hq => by simp [State.ctrl, Tab.getD_upd, hq], hr, hk, rfl, hout, rfl⟩

theorem fetchAdmin_of_turn (h : AdminTurn s p x y) : s.fetchAdmin p cid named eff = eff (s.sqFetched p 0) := by
  obtain ⟨-, hturn, -, hfail, -⟩ := h
  have hfail' : (s.sqFetched p 0).bel.sanitizeFail = false := (s.sqFetched_refetched p 0).bel_facts.2.2.2.2.2.trans hfail
  simp only [State.fetchAdmin, hturn, Bool.not_true, Bool.false_eq_true, if_false, hfail', Bool.false_and]

theorem fetchWaking_of_turn (h : AdminTurn s p x y) : s.fetchWaking i p cid named eff = eff (s.sqFetched p 0) := by
  have hmode : (s.md == mBanked) = false := by
    obtain ⟨-, -, hmode, -⟩ := h
    simpa using hmode
  rw [State.fetchWaking, hmode, if_neg (by simp), fetchAdmin_of_turn h]

/-- The admin queues of a state whose entry has been taken. -/
def QueuesTaken (x : SubQ) (y : CplQ) (k : Ctrl) : Prop := Tab.find k.sqs 0 = some x.next ∧ Tab.find k.cqs x.cq = some y

theorem queuesTaken_of_turn (h : AdminTurn s p x y) : QueuesTaken x y (s.ctrl p).taken := by
  obtain ⟨-, -, -, -, hx, hy⟩ := h
  exact ⟨(Ctrl.find_taken _ hx 0).trans (if_pos rfl), hy⟩

/-- The completion entry of an admin command. -/
def adminCqe (x : SubQ) (cid sct sc dw0 : Nat) : Cqe := { cid, sq := 0, sqHead := (x.head + 1) % x.size, sct, sc, dw0 }

theorem State.adminCpl_eq (h : QueuesTaken x y (w.ctrl p)) (cid sct sc dw0 : Nat) :
    w.adminCpl p cid sct sc dw0 = w.updCtrl p (·.addCqe x.cq (adminCqe x cid sct sc dw0)) :=
  State.queueCqe_eq (e := { cid, sq := 0, sqHead := 0, sct, sc, dw0 }) h.1

theorem adminDone_of_ctrl (h : QueuesTaken x y (w.ctrl p)) (ht : t.ctrl p = (w.ctrl p).addCqe x.cq (adminCqe x cid sct sc dw0)) :
    AdminDone p cid sct sc dw0 x y t := by
  obtain ⟨hsq, hcq⟩ := h
  exact ⟨by rw [ht]; exact hsq, by rw [ht]; exact Ctrl.find_addCqe hcq⟩

/-- An admin command that completes over the state `w`. -/
theorem admin_completes (hex : exec i s = .next (w.adminCpl p cid sct sc dw0)) (hk : Kept ps fs s w) (hb : Part.bel ∈ ps)
    (hq : QueuesTaken x y (w.ctrl p)) :
    Does i s ps fs (fun t => AdminDone p cid sct sc dw0 x y t ∧ t = w.updCtrl p (·.addCqe x.cq (adminCqe x cid sct sc dw0))) := by
  rw [State.adminCpl_eq hq] at hex
  exact ⟨_, hex, ⟨adminDone_of_ctrl hq (State.ctrl_updCtrl _ _), rfl⟩, hk.updBel hb _⟩

theorem Does.imp {P Q : State → Prop} (h : Does i s ps fs P) (hpq : ∀ t, P t → Q t) : Does i s ps fs Q := by
  obtain ⟨t, ht, hp, hk⟩ := h
  exact ⟨t, ht, hpq t hp, hk⟩

theorem bel_mem_fetchParts (s : State) (p : Nat) : Part.bel ∈ fetchParts s p := by
  unfold fetchParts
  split <;> simp

/-- An admin command whose only effect is its completion. -/
theorem admin_answers (h : AdminTurn s p x y) (hex : exec i s = .next ((s.sqFetched p 0).adminCpl p cid sct sc dw0)) :
    Does i s (fetchParts s p) [] (AdminDone p cid sct sc dw0 x y) := by
  have ht := s.sqFetched_adminTaken p
  exact (admin_completes hex ht.kept (bel_mem_fetchParts s p) (ht.ctrl ▸ queuesTaken_of_turn h)).imp fun _ h => h.1

/-- An admin command that changes the controller and completes. -/
theorem admin_changes {f : Ctrl → Ctrl} (hex : exec i s = .next (((s.sqFetched p 0).updCtrl p f).adminCpl p cid sct sc dw0))
    (hf : QueuesTaken x y (f (s.ctrl p).taken)) :
    Does i s (fetchParts s p) [] (fun t => AdminDone p cid sct sc dw0 x y t ∧
      t.ctrl p = (f (s.ctrl p).taken).addCqe x.cq (adminCqe x cid sct sc dw0)) := by
  have ht := s.sqFetched_adminTaken p
  have hctrl : ((s.sqFetched p 0).updCtrl p f).ctrl p = f (s.ctrl p).taken := by rw [State.ctrl_updCtrl, ht.ctrl]
  refine (admin_completes hex (ht.kept.updBel (bel_mem_fetchParts s p) _) (bel_mem_fetchParts s p) (by rw [hctrl]; exact hf)).imp
    fun t ⟨hdone, he⟩ => ⟨hdone, ?_⟩
  rw [he, State.ctrl_updCtrl, hctrl]

/-- An admin command that passes to firmware. -/
theorem admin_passes (h : AdminTurn s p x y) {op vol : Nat} (hex : exec i s = .next ((s.sqFetched p 0).toAdmin p cid op vol)) :
    Does i s (fetchParts s p) [] (fun t => t.bel.admin = s.bel.admin ++ [{ port := p, cid, op, vol }] ∧ Tab.find (t.ctrl p).cqs x.cq = some y) := by
  have ht := s.sqFetched_adminTaken p
  obtain ⟨-, hcq⟩ := queuesTaken_of_turn h
  refine ⟨_, hex, ⟨congrArg (· ++ _) ht.admin, ?_⟩, ht.kept.updBel (bel_mem_fetchParts s p) _⟩
  exact (congrArg (fun k => Tab.find (Ctrl.cqs k) x.cq) ht.ctrl).trans hcq

end Sys2Proof.Machine
end

section
/-! Power states (R127, R128): what showing the head's power state changes, and Banked entry. -/

namespace Sys2Proof.Machine

variable {ps : List Part} {fs : List Fld} {s t : State} {p : Nat}

theorem Kept.setModeSt (h : Kept ps fs s t) (hp : Part.mode ∈ ps) (m : ModeSt) : Kept ps fs s { t with mode := m } := by
  refine h.upd rfl rfl fun q hn => ?_
  cases q with
  | mode => exact absurd hp hn
  | ports | irqPend => exact fun _ => rfl
  | wdt => exact ⟨rfl, rfl⟩
  | plic => exact ⟨rfl, rfl, rfl, rfl⟩
  | _ => exact rfl

theorem Kept.mode_eq (h : Kept ps fs s t) (hp : Part.mode ∉ ps) : t.mode = s.mode := h.2.1 .mode hp

theorem State.drainEntry_kept (s : State) (e : WbEntry) : Kept [.ich, .ddr] [] s (s.drainEntry e) := by
  apply (Kept.refl [.ich, .ddr] [] s).blocks <;> simp

theorem State.drainAll_kept (s : State) : Kept [.ich, .ddr] [] s s.drainAll := Kept.foldl State.drainEntry_kept _ _

/-! ### Banked entry begins (R128) -/

/-- What draining the merging buffer and serving what waited can change. -/
def drainParts : List Part := [.ich, .ddr, .out]

theorem State.drainAgain_kept (s : State) : Kept drainParts ichCounts s s.drainAll.ichAgain :=
  (s.drainAll_kept.widen (by simp [drainParts]) (by simp)).trans ((State.ichAgain_kept _).widen (by simp [drainParts]) (by simp))

/-- The state in which Banked entry has begun, before the merging buffer drains. -/
def State.enteringBanked (s : State) : State := { s.setb F.BEL_STS_ENTERING true with mode := { s.mode with bankedEntry := true } }

theorem State.enteringBanked_kept (s : State) : Kept [.mode] [F.BEL_STS_ENTERING] s s.enteringBanked :=
  ((Kept.refl _ _ s).setb (by simp)).setModeSt (by simp) _

theorem State.beginBanked_eq (h : s.md = mDuplex ∨ s.md = mSolo) (hb : s.mode.bankedEntry = false) :
    s.beginBanked = s.enteringBanked.drainAll.ichAgain := by
  have hmd : (s.md == mDuplex || s.md == mSolo) = true := by simpa using h
  simp only [State.beginBanked, hmd, hb, Bool.not_false, Bool.and_self, if_true]
  rfl

def bankedParts : List Part := .mode :: drainParts
def bankedFlds : List Fld := F.BEL_STS_ENTERING :: ichCounts

theorem State.beginBanked_kept (s : State) : Kept bankedParts bankedFlds s s.beginBanked := by
  have hset : Kept bankedParts bankedFlds s s.enteringBanked :=
    s.enteringBanked_kept.widen (by simp [bankedParts]) (by simp [bankedFlds])
  unfold State.beginBanked
  split
  · exact hset.trans ((State.drainAgain_kept _).widen (by simp +contextual [bankedParts]) (by simp +contextual [bankedFlds]))
  · exact Kept.refl _ _ s

/-! ### HEAD_PS (R127) -/

/-- The power state the head shows where its controllers request theirs. -/
def State.headPs (s : State) : Nat := min (s.wantedPs 0) (s.wantedPs 1)

/-- HEAD_PS has followed, and the change is recorded. -/
def State.psShown (s : State) : State := (s.set F.BEL_STS_HEAD_PS s.headPs).record 0x0602 (w1 s.dirtyMiB)

theorem State.psShown_kept (s : State) : Kept logParts (F.BEL_STS_HEAD_PS :: logFlds) s s.psShown :=
  ((Kept.refl _ _ s).set (by simp)).logged (fun _ h => h) (by simp +contextual)

theorem State.showPower_eq (h : s.get F.BEL_STS_HEAD_PS ≠ s.headPs) : s.showPower = if s.headPs = 2 then s.psShown.beginBanked else s.psShown := by
  have hne : (s.get F.BEL_STS_HEAD_PS == s.headPs) = false := by simpa using h
  rw [State.headPs] at hne
  simp only [State.showPower, hne, Bool.false_eq_true, if_false, beq_iff_eq]
  rfl

theorem State.showPower_same (h : s.get F.BEL_STS_HEAD_PS = s.headPs) : s.showPower = s := by
  have heq : (s.get F.BEL_STS_HEAD_PS == s.headPs) = true := by simpa using h
  rw [State.headPs] at heq
  simp only [State.showPower, heq, if_true]

/-- A controller that requests PS0 or PS1 lets no Banked entry begin. -/
theorem State.showPower_shallow (h : s.headPs ≠ 2) : Kept logParts (F.BEL_STS_HEAD_PS :: logFlds) s s.showPower := by
  by_cases hs : s.get F.BEL_STS_HEAD_PS = s.headPs
  · rw [State.showPower_same hs]
    exact Kept.refl _ _ s
  · rw [State.showPower_eq hs, if_neg h]
    exact s.psShown_kept

def powerParts : List Part := bankedParts ++ logParts
def powerFlds : List Fld := F.BEL_STS_HEAD_PS :: bankedFlds ++ logFlds

theorem State.showPower_kept (s : State) : Kept powerParts powerFlds s s.showPower := by
  by_cases hs : s.get F.BEL_STS_HEAD_PS = s.headPs
  · rw [State.showPower_same hs]
    exact Kept.refl _ _ s
  · have hshown : Kept powerParts powerFlds s s.psShown :=
      s.psShown_kept.widen (by simp +contextual [powerParts]) (by simp +contextual [powerFlds, or_imp])
    rw [State.showPower_eq hs]
    split
    · exact hshown.trans ((State.beginBanked_kept _).widen (by simp +contextual [powerParts]) (by simp +contextual [powerFlds]))
    · exact hshown

/-- PS2 on every port begins Banked entry. -/
theorem State.showPower_begins (hs : s.get F.BEL_STS_HEAD_PS ≠ 2) (hp : s.headPs = 2) (hmd : s.md = mDuplex ∨ s.md = mSolo)
    (hb : s.mode.bankedEntry = false) :
    s.showPower.mode.bankedEntry = true ∧ s.showPower.getb F.BEL_STS_ENTERING = true ∧ s.showPower.get F.BEL_STS_HEAD_PS = 2 := by
  have hshown := s.psShown_kept
  have hmd' : s.psShown.md = mDuplex ∨ s.psShown.md = mSolo := by
    rw [State.md, hshown.get_eq (by decide)]
    exact hmd
  have hb' : s.psShown.mode.bankedEntry = false := by rw [hshown.mode_eq (by decide)]; exact hb
  have hdrain := State.drainAgain_kept s.psShown.enteringBanked
  have hget : s.psShown.get F.BEL_STS_HEAD_PS = 2 := by
    refine ((State.record_kept _ _ _).get_eq (by decide)).trans ?_
    rw [State.get_set_same, hp]
    rfl
  rw [State.showPower_eq (by rwa [hp]), if_pos hp, State.beginBanked_eq hmd' hb']
  refine ⟨?_, ?_, ?_⟩
  · rw [hdrain.mode_eq (by decide)]
    rfl
  · rw [hdrain.getb_eq (by decide)]
    exact State.getb_setb_same (f := F.BEL_STS_ENTERING) (b := true) (by decide)
  · rw [hdrain.get_eq (by decide)]
    exact (s.psShown.enteringBanked_kept.get_eq (by decide)).trans hget

end Sys2Proof.Machine
end

section
/-! A table's entries. -/

namespace Sys2Proof.Tab

theorem mem_of_find {α : Type} {t : Tab α} {k : Nat} {v : α} (h : find t k = some v) : (k, v) ∈ t := by
  induction t with
  | nil => cases h
  | cons e t ih =>
    obtain ⟨j, w⟩ := e
    simp only [find] at h
    split at h
    · next he =>
      cases h
      exact he ▸ List.mem_cons_self
    · exact List.mem_cons_of_mem _ (ih h)

end Sys2Proof.Tab
end

section
/-! The admin commands Bellows answers itself: Abort, features, queues (R64, R106, R107, R125-R127). -/

namespace Sys2Proof.Machine

variable {s t u w : State} {p cid q target qid size vector prio cqid op : Nat} {x x2 : SubQ} {y y2 : CplQ} {c : Cmd} {irq : Bool}

/-! ### Abort (R125) -/

theorem exec_abort (h : AdminTurn s p x y) (hc : (s.sqFetched p 0).bel.cmds = s.bel.cmds) : exec (.abort p cid q target) s =
    .next (match s.bel.cmds.find? (fun c => !c.ring && c.foreign.isNone && !c.dead && c.port == p && c.queue == q && c.cid == target) with
    | some c =>
      if ((s.sqFetched p 0).gratesOf (cmdUser c.id)).isEmpty && !c.posted && c.stage != .forwarded then
        ((s.sqFetched p 0).abandon c { sc := 0x07 }).adminCpl p cid 0 0 0
      else (s.sqFetched p 0).adminCpl p cid 0 0 1
    | none => (s.sqFetched p 0).adminCpl p cid 0 0 1) := by
  simp only [exec, execAbort, fetchWaking_of_turn h, hc] <;> rfl

theorem Ctrl.find_addCqe_other {k : Ctrl} {cq q : Nat} {e : Cqe} (h : q ≠ cq) : Tab.find (k.addCqe cq e).cqs q = Tab.find k.cqs q :=
  Tab.find_put_other _ _ _ _ h

/-- What a user without grates waits for and has in the overflow is forgotten. -/
theorem State.freeUser_of_none {user : Nat} (h : s.gratesOf user = []) : s.freeUser user = s.updPool (fun p =>
    { p with waiting := p.waiting.filter (fun w => w.user != user), overflow := p.overflow.filter (fun e => e.1 != user) }) := by
  rw [State.freeUser, h]
  rfl

theorem abort_aborts (h : AdminTurn s p x y) (hc : s.bel.cmds = [c]) (hr : c.ring = false) (hf : c.foreign = none) (hd : c.dead = false)
    (hp : c.port = p) (hq : c.queue = q) (hcid : c.cid = target) (hg : s.gratesOf (cmdUser c.id) = []) (hpost : c.posted = false)
    (hst : c.stage ≠ .forwarded) (hq0 : q ≠ 0) (hx2 : Tab.find (s.ctrl p).sqs q = some x2) (hy2 : Tab.find (s.ctrl p).cqs x2.cq = some y2)
    (hcq : x2.cq ≠ x.cq) :
    Does (.abort p cid q target) s (fetchParts s p ++ [.pool]) [] (fun t => t.bel.cmds = [] ∧ AdminDone p cid 0 0 0 x y t ∧
      Tab.find (t.ctrl p).cqs x2.cq =
        some { y2 with waiting := y2.waiting ++ [{ cid := target, sq := q, sqHead := x2.head, sct := 0, sc := 7, dw0 := 0 }] }) := by
  have ht := s.sqFetched_adminTaken p
  have hex := exec_abort (cid := cid) (q := q) (target := target) h ht.refetched.bel_facts.1
  have hqueues := queuesTaken_of_turn h
  obtain ⟨-, -, -, -, hx, -⟩ := h
  generalize s.sqFetched p 0 = u at ht hex
  have hcmds : u.bel.cmds = [c] := ht.refetched.bel_facts.1.trans hc
  have hgrates : u.gratesOf (cmdUser c.id) = [] := by rw [State.gratesOf, ht.refetched.pool_eq]; exact hg
  have hsq : Tab.find (u.ctrl c.port).sqs c.queue = some x2 := by
    rw [hp, hq, ht.ctrl, Ctrl.find_taken _ hx, if_neg hq0]
    exact hx2
  generalize he : ({ cid := c.cid, sq := c.queue, sqHead := x2.head, sct := 0, sc := 7, dw0 := 0 } : Cqe) = e
  generalize hw : u.abandon c { sc := 0x07 } = w at hex
  have hdropped : w = ((u.dropCmd c.id).updCtrl c.port (·.addCqe x2.cq e)).updPool (fun p =>
      { p with waiting := p.waiting.filter (fun w => w.user != cmdUser c.id), overflow := p.overflow.filter (fun e => e.1 != cmdUser c.id) }) := by
    rw [← hw, State.abandon, State.finish_queue hcmds hd hf hr hsq, he]
    exact State.freeUser_of_none (s := (u.dropCmd c.id).updCtrl c.port (·.addCqe x2.cq e)) hgrates
  have hctrl : w.ctrl p = (s.ctrl p).taken.addCqe x2.cq e := by
    rw [hdropped, ← ht.ctrl, ← hp]
    exact State.ctrl_updCtrl (s := u.dropCmd c.id) c.port (·.addCqe x2.cq e)
  have hkept : Kept (fetchParts s p ++ [.pool]) [] s w := by
    have hbel : Part.bel ∈ fetchParts s p ++ [.pool] := List.mem_append_left _ (bel_mem_fetchParts s p)
    rw [hdropped]
    exact (((ht.kept.widen (by simp +contextual) (by simp)).updBel hbel _).updBel hbel _).updPool (by simp) _
  have hexec : exec (.abort p cid q target) s = .next (w.adminCpl p cid 0 0 0) := by
    rw [hex]
    simp [hc, hr, hf, hd, hp, hq, hcid, hgrates, hpost, hst, hw]
  have hcmdsw : w.bel.cmds = [] := by rw [hdropped]; simp [State.updPool, State.updCtrl, State.dropCmd, State.updBel, hcmds]
  have hnow : QueuesTaken x y (w.ctrl p) := by
    rw [hctrl]
    exact ⟨hqueues.1, (Ctrl.find_addCqe_other hcq.symm).trans hqueues.2⟩
  refine (admin_completes hexec hkept (List.mem_append_left _ (bel_mem_fetchParts s p)) hnow).imp fun t ⟨hdone, hteq⟩ => ⟨?_, hdone, ?_⟩
  · rw [hteq]
    exact hcmdsw
  · rw [hteq, State.ctrl_updCtrl, hctrl, Ctrl.find_addCqe_other hcq, Ctrl.find_addCqe (k := (s.ctrl p).taken) hy2, ← he, hcid, hq]

theorem abort_misses (h : AdminTurn s p x y) (hc : s.bel.cmds = []) :
    Does (.abort p cid q target) s (fetchParts s p) [] (AdminDone p cid 0 0 1 x y) := by
  refine admin_answers h ?_
  rw [exec_abort h (s.sqFetched_adminTaken p).refetched.bel_facts.1, hc]
  rfl

/-! ### Features (R107, R127) -/

theorem setFeaturesArbitration_sets (h : AdminTurn s p x y) (ab lpw mpw hpw : Nat) :
    Does (.setFeaturesArbitration p cid ab lpw mpw hpw) s (fetchParts s p) [] (fun t => AdminDone p cid 0 0 0 x y t ∧
      (t.ctrl p).burst = ab ∧ (t.ctrl p).lpw = lpw ∧ (t.ctrl p).mpw = mpw ∧ (t.ctrl p).hpw = hpw) := by
  refine (admin_changes (f := fun c => { c with burst := ab, lpw, mpw, hpw }) ?_ (queuesTaken_of_turn h)).imp fun t ⟨hdone, hctrl⟩ => ⟨hdone, ?_⟩
  · simp only [exec, execSetFeaturesArbitration, fetchAdmin_of_turn h]
  · rw [hctrl]
    exact ⟨rfl, rfl, rfl, rfl⟩

/-- The controller of the port has asked for a power state, and HEAD_PS has followed. -/
def State.psAsked (u : State) (p ps : Nat) : State := (u.updCtrl p (fun c => { c with ps })).showPower

/-- A head that is in Banked, or on its way there, is to leave once a controller asks for less than PS2 (R476). -/
def State.exitAsked (v : State) : State :=
  if (v.md == mBanked || v.mode.bankedEntry) && min (v.wantedPs 0) (v.wantedPs 1) < 2 then { v with mode := { v.mode with exitWanted := true } } else v

theorem State.exitAsked_kept (v : State) : Kept [.mode] [] v v.exitAsked := by
  unfold State.exitAsked
  split
  · exact (Kept.refl _ _ v).setModeSt (by simp) _
  · exact Kept.refl _ _ v

theorem State.exitAsked_bankedEntry (v : State) : v.exitAsked.mode.bankedEntry = v.mode.bankedEntry := by
  unfold State.exitAsked
  split <;> rfl

/-- What Set Features of a power state does once it is taken. -/
def State.setPower (u : State) (p cid ps : Nat) : State :=
  if 2 < ps then u.adminCpl p cid 0 0x02 0
  else if !u.mode.bankedEntry && (u.psAsked p ps).exitAsked.mode.bankedEntry then
    (u.psAsked p ps).exitAsked.updBel (fun b => { b with psCpl := some (p, cid) })
  else (u.psAsked p ps).exitAsked.adminCpl p cid 0 0 0

theorem execSetFeaturesPower_eq (s : State) (p cid ps : Nat) :
    execSetFeaturesPower p cid ps s = .next (s.fetchAdmin p cid false (fun u => u.setPower p cid ps)) := rfl

theorem exec_setFeaturesPower {ps : Nat} (h : AdminTurn s p x y) (hps : ps ≤ 2) : exec (.setFeaturesPower p cid ps) s =
    .next (if !(s.sqFetched p 0).mode.bankedEntry && ((s.sqFetched p 0).psAsked p ps).mode.bankedEntry then
      ((s.sqFetched p 0).psAsked p ps).exitAsked.updBel (fun b => { b with psCpl := some (p, cid) })
    else ((s.sqFetched p 0).psAsked p ps).exitAsked.adminCpl p cid 0 0 0) := by
  simp only [exec, execSetFeaturesPower_eq, fetchAdmin_of_turn h, State.setPower, Nat.not_lt.mpr hps, if_false, State.exitAsked_bankedEntry]

theorem State.psAsked_ctrl (u : State) (p ps : Nat) : (u.psAsked p ps).exitAsked.ctrl p = { u.ctrl p with ps } := by
  have hbel : (u.psAsked p ps).exitAsked.bel = (u.updCtrl p (fun c => { c with ps })).bel :=
    ((State.exitAsked_kept _).bel_eq (by decide)).trans ((State.showPower_kept _).bel_eq (by decide))
  rw [State.ctrl, hbel]
  exact State.ctrl_updCtrl (s := u) p (fun c => { c with ps })

theorem State.ctrl_updCtrl_other (h : q ≠ p) (f : Ctrl → Ctrl) : (s.updCtrl p f).ctrl q = s.ctrl q := by
  simp [State.ctrl, State.updCtrl, State.updBel, Tab.getD_upd, h]

/-- The port's own request counts while its link is in L0. -/
theorem State.wantedPs_asked {ps : Nat} (hl : u.linkL0 p = true) : (u.updCtrl p (fun c => { c with ps })).wantedPs p = ps := by
  have hl' : (u.updCtrl p (fun c => { c with ps })).linkL0 p = true := hl
  rw [State.wantedPs, hl', if_pos rfl, State.ctrl_updCtrl]

theorem State.headPs_le (hp : p < 2) : s.headPs ≤ s.wantedPs p := by
  rcases eq_zero_or_one hp with rfl | rfl
  · exact Nat.min_le_left _ _
  · exact Nat.min_le_right _ _

theorem State.headPs_eq (hp : p < 2) : s.headPs = min (s.wantedPs p) (s.wantedPs (1 - p)) := by
  rcases eq_zero_or_one hp with rfl | rfl
  · rfl
  · exact Nat.min_comm _ _

theorem linkL0_of_taken (ht : AdminTaken s u p) : u.linkL0 p = s.linkL0 p := by rw [State.linkL0, State.linkL0, ht.kept.get_eq (by simp)]

theorem setFeaturesPower_shallow {ps : Nat} (h : AdminTurn s p x y) (hps : ps < 2) (hl : s.linkL0 p = true) :
    Gives (.setFeaturesPower p cid ps) s (fun t => AdminDone p cid 0 0 0 x y t ∧ (t.ctrl p).ps = ps) := by
  have ht := s.sqFetched_adminTaken p
  have hqueues := queuesTaken_of_turn h
  have hex := exec_setFeaturesPower (cid := cid) (ps := ps) h (by omega)
  obtain ⟨hp, -⟩ := h
  generalize s.sqFetched p 0 = u at ht hex
  have hhead : (u.updCtrl p (fun c => { c with ps })).headPs ≠ 2 := by
    have hle := State.headPs_le (s := u.updCtrl p (fun c => { c with ps })) hp
    rw [State.wantedPs_asked ((linkL0_of_taken ht).trans hl)] at hle
    omega
  have hmode : (u.psAsked p ps).mode = u.mode := (State.showPower_shallow hhead).mode_eq (by decide)
  rw [hmode, Bool.not_and_self, if_neg (by simp)] at hex
  have hctrl := u.psAsked_ctrl p ps
  generalize (u.psAsked p ps).exitAsked = w at hex hctrl
  have hnow : QueuesTaken x y (w.ctrl p) := by
    rw [hctrl, ht.ctrl]
    exact hqueues
  refine ⟨_, hex, ?_⟩
  rw [State.adminCpl_eq hnow]
  refine ⟨adminDone_of_ctrl hnow (State.ctrl_updCtrl _ _), ?_⟩
  rw [State.ctrl_updCtrl, hctrl]
  rfl

theorem setFeaturesPower_invalid {ps : Nat} (h : AdminTurn s p x y) (hps : 2 < ps) :
    Does (.setFeaturesPower p cid ps) s (fetchParts s p) [] (AdminDone p cid 0 2 0 x y) := by
  refine admin_answers h ?_
  simp only [exec, execSetFeaturesPower_eq, fetchAdmin_of_turn h, State.setPower, hps, if_true]

theorem setFeaturesPower_deep (h : AdminTurn s p x y) (hl : s.linkL0 p = true) (ho : s.wantedPs (1 - p) = 2) (hmd : s.md = mDuplex ∨ s.md = mSolo)
    (hb : s.mode.bankedEntry = false) (hps : s.get F.BEL_STS_HEAD_PS ≠ 2) : Gives (.setFeaturesPower p cid 2) s (fun t => (t.ctrl p).ps = 2 ∧
      t.bel.psCpl = some (p, cid) ∧ t.mode.bankedEntry = true ∧ t.getb F.BEL_STS_ENTERING = true ∧ t.get F.BEL_STS_HEAD_PS = 2) := by
  have ht := s.sqFetched_adminTaken p
  have hex := exec_setFeaturesPower (cid := cid) h (Nat.le_refl 2)
  obtain ⟨hp, -⟩ := h
  generalize s.sqFetched p 0 = u at ht hex
  have hmode : u.mode = s.mode := ht.kept.mode_eq (by unfold fetchParts; split <;> simp)
  have hother : (u.updCtrl p (fun c => { c with ps := 2 })).wantedPs (1 - p) = 2 := by
    have hne : 1 - p ≠ p := by omega
    have hctrl : (u.updCtrl p (fun c => { c with ps := 2 })).ctrl (1 - p) = s.ctrl (1 - p) :=
      (State.ctrl_updCtrl_other hne _).trans (ht.other _ hne)
    have hlink : (u.updCtrl p (fun c => { c with ps := 2 })).linkL0 (1 - p) = s.linkL0 (1 - p) := by
      rw [State.linkL0, State.linkL0, ← ht.kept.get_eq (f := F.HST_LINK_STS_LTSSM (1 - p)) (by simp)]
      rfl
    rw [State.wantedPs, hctrl, hlink]
    exact ho
  have hhead : (u.updCtrl p (fun c => { c with ps := 2 })).headPs = 2 := by
    rw [State.headPs_eq hp, hother, State.wantedPs_asked ((linkL0_of_taken ht).trans hl), Nat.min_self]
  obtain ⟨hbanked, hentering, hshown⟩ := State.showPower_begins (s := u.updCtrl p (fun c => { c with ps := 2 }))
    (by rw [← ht.kept.get_eq (f := F.BEL_STS_HEAD_PS) (by simp)] at hps; exact hps) hhead
    (by rw [State.md, ← ht.kept.get_eq (f := F.GLB_MODE_MODE) (by simp)] at hmd; exact hmd) (by rw [← hmode] at hb; exact hb)
  have hbanked' : (u.psAsked p 2).mode.bankedEntry = true := hbanked
  rw [hbanked', hmode, hb, Bool.not_false, Bool.and_self, if_pos rfl] at hex
  have hctrl := u.psAsked_ctrl p 2
  have hexit := State.exitAsked_kept (u.psAsked p 2)
  refine ⟨_, hex, ?_, rfl, ?_, ?_, ?_⟩
  · exact (congrArg Ctrl.ps hctrl :)
  · exact (State.exitAsked_bankedEntry _).trans hbanked
  · exact (hexit.getb_eq (by simp)).trans hentering
  · exact (hexit.get_eq (by simp)).trans hshown

theorem exec_getFeatures {fid : Nat} (h : AdminTurn s p x y) : exec (.getFeatures p cid fid) s = .next (
    if fid == 1 then (s.sqFetched p 0).adminCpl p cid 0 0 ((s.ctrl p).burst % 8 + (s.ctrl p).lpw % 256 * 2 ^ 8 + (s.ctrl p).mpw % 256 * 2 ^ 16 +
      (s.ctrl p).hpw % 256 * 2 ^ 24)
    else if fid == 2 then (s.sqFetched p 0).adminCpl p cid 0 0 (s.ctrl p).ps
    else if fid == 7 then (s.sqFetched p 0).adminCpl p cid 0 0 (4095 + 4095 * 2 ^ 16)
    else (s.sqFetched p 0).toAdmin p cid 0x0A 0) := by
  have hctrl := (s.sqFetched_adminTaken p).ctrl
  simp only [exec, execGetFeatures, fetchAdmin_of_turn h, hctrl]
  rfl

theorem getFeatures_arbitration (h : AdminTurn s p x y) : Does (.getFeatures p cid 1) s (fetchParts s p) [] (AdminDone p cid 0 0
    ((s.ctrl p).burst % 8 + (s.ctrl p).lpw % 256 * 256 + (s.ctrl p).mpw % 256 * 65536 + (s.ctrl p).hpw % 256 * 16777216) x y) :=
  admin_answers h (exec_getFeatures h)

theorem getFeatures_power (h : AdminTurn s p x y) : Does (.getFeatures p cid 2) s (fetchParts s p) [] (AdminDone p cid 0 0 (s.ctrl p).ps x y) :=
  admin_answers h (exec_getFeatures h)

theorem getFeatures_queues (h : AdminTurn s p x y) : Does (.getFeatures p cid 7) s (fetchParts s p) [] (AdminDone p cid 0 0 (4095 + 4095 * 65536) x y) :=
  admin_answers h (exec_getFeatures h)

theorem getFeatures_passes {fid : Nat} (h : AdminTurn s p x y) (h1 : fid ≠ 1) (h2 : fid ≠ 2) (h7 : fid ≠ 7) :
    Does (.getFeatures p cid fid) s (fetchParts s p) [] (fun t => t.bel.admin = s.bel.admin ++ [{ port := p, cid, op := 0x0A, vol := 0 }] ∧
      Tab.find (t.ctrl p).cqs x.cq = some y) := by
  refine admin_passes h ?_
  rw [exec_getFeatures h]
  simp only [beq_iff_eq, h1, h2, h7, if_false]

/-! ### Queues (R64, R106) -/

theorem createIoCq_creates (h : AdminTurn s p x y) (hv : vector ≤ 2039) (h0 : 0 < qid) (hmax : qid ≤ 4096) (hno : Tab.find (s.ctrl p).cqs qid = none)
    (hsize : 2 ≤ size) (hsize' : size ≤ 65536) : Does (.createIoCq p cid qid size vector irq) s (fetchParts s p) [] (fun t =>
      AdminDone p cid 0 0 0 x y t ∧ Tab.find (t.ctrl p).cqs qid = some { size, vector, irq }) := by
  have hcqs : ((s.sqFetched p 0).ctrl p).cqs = (s.ctrl p).cqs := (congrArg Ctrl.cqs (s.sqFetched_adminTaken p).ctrl :)
  have hex : exec (.createIoCq p cid qid size vector irq) s = .next (((s.sqFetched p 0).updCtrl p
      (fun c => { c with cqs := Tab.put c.cqs qid { size, vector, irq } })).adminCpl p cid 0 0 0) := by
    have hbad : ¬ (qid = 0 ∨ 4096 < qid) := by omega
    have hsz : ¬ (size < 2 ∨ 65536 < size) := by omega
    simp only [exec, execCreateIoCq, fetchWaking_of_turn h, Nat.not_lt.mpr hv, hcqs, hno, if_false, beq_iff_eq, Bool.or_eq_true, decide_eq_true_eq,
      Option.isSome_none, Bool.false_eq_true, or_false, hbad, hsz]
  have hq := queuesTaken_of_turn h
  have hne : x.cq ≠ qid := fun he => by
    obtain ⟨-, hy⟩ := hq
    rw [he] at hy
    exact absurd (hno.symm.trans hy) (by simp)
  refine (admin_changes hex ⟨hq.1, (Tab.find_put_other _ _ _ _ hne).trans hq.2⟩).imp fun t ⟨hdone, hctrl⟩ => ⟨hdone, ?_⟩
  rw [hctrl, Ctrl.find_addCqe_other hne.symm]
  exact Tab.find_put_same _ _ _

theorem createIoCq_badVector (h : AdminTurn s p x y) (hv : 2039 < vector) :
    Does (.createIoCq p cid qid size vector irq) s (fetchParts s p) [] (AdminDone p cid 1 8 0 x y) := by
  refine admin_answers h ?_
  simp only [exec, execCreateIoCq, fetchWaking_of_turn h, hv, if_true]

theorem exec_adminCommand (h : AdminTurn s p x y) (op : Nat) : exec (.adminCommand p cid op qid size cqid prio) s =
    .next ((s.sqFetched p 0).adminOther p cid op qid size cqid prio) := by
  simp only [exec, execAdminCommand, fetchWaking_of_turn h]

theorem createSq_creates {z : CplQ} (h : AdminTurn s p x y) (h0 : 0 < qid) (hmax : qid ≤ 4096) (hno : Tab.find (s.ctrl p).sqs qid = none) (hc0 : cqid ≠ 0)
    (hc : Tab.find (s.ctrl p).cqs cqid = some z) (hsize : 2 ≤ size) (hsize' : size ≤ 65536) :
    Does (.adminCommand p cid 1 qid size cqid prio) s (fetchParts s p) [] (fun t => AdminDone p cid 0 0 0 x y t ∧
      Tab.find (t.ctrl p).sqs qid = some { size, cq := cqid, prio }) := by
  have hq := queuesTaken_of_turn h
  have hex := exec_adminCommand (cid := cid) (qid := qid) (size := size) (cqid := cqid) (prio := prio) h 1
  obtain ⟨-, -, -, -, hx, -⟩ := h
  have hctrl := (s.sqFetched_adminTaken p).ctrl
  have hfree : Tab.find (s.ctrl p).taken.sqs qid = none := by rw [Ctrl.find_taken _ hx, if_neg (by omega)]; exact hno
  have hcq : Tab.find (s.ctrl p).taken.cqs cqid = some z := hc
  have hbad : ¬ (qid = 0 ∨ 4096 < qid) := by omega
  have hsz : ¬ (size < 2 ∨ 65536 < size) := by omega
  have hmade : (s.sqFetched p 0).adminOther p cid 1 qid size cqid prio = ((s.sqFetched p 0).updCtrl p
      (fun c => { c with sqs := Tab.put c.sqs qid { size, cq := cqid, prio } })).adminCpl p cid 0 0 0 := by
    simp only [State.adminOther, hctrl, hcq, hfree, beq_iff_eq, if_true, Bool.or_eq_true, hc0, Option.isNone_some, Bool.false_eq_true, or_false, if_false,
      decide_eq_true_eq, Option.isSome_none, hbad, hsz]
  rw [hmade] at hex
  refine (admin_changes hex ⟨(Tab.find_put_other _ _ _ _ (by omega)).trans hq.1, hq.2⟩).imp fun t ⟨hdone, ht⟩ => ⟨hdone, ?_⟩
  rw [ht]
  exact Tab.find_put_same _ _ _

theorem deleteSq_deletes {z : SubQ} (h : AdminTurn s p x y) (h0 : qid ≠ 0) (hz : Tab.find (s.ctrl p).sqs qid = some z) :
    Does (.adminCommand p cid 0 qid size cqid prio) s (fetchParts s p) [] (fun t => AdminDone p cid 0 0 0 x y t ∧ Tab.find (t.ctrl p).sqs qid = none) := by
  have hq := queuesTaken_of_turn h
  have hex := exec_adminCommand (cid := cid) (qid := qid) (size := size) (cqid := cqid) (prio := prio) h 0
  obtain ⟨-, -, -, -, hx, -⟩ := h
  have hctrl := (s.sqFetched_adminTaken p).ctrl
  have hfound : Tab.find (s.ctrl p).taken.sqs qid = some z := by rw [Ctrl.find_taken _ hx, if_neg h0]; exact hz
  have hgone : (s.sqFetched p 0).adminOther p cid 0 qid size cqid prio =
      ((s.sqFetched p 0).updCtrl p (fun c => { c with sqs := Tab.del c.sqs qid })).adminCpl p cid 0 0 0 := by
    simp [State.adminOther, hctrl, hfound, h0]
  rw [hgone] at hex
  refine (admin_changes hex ⟨(Tab.find_del _ _ _).trans ((if_neg h0.symm).trans hq.1), hq.2⟩).imp fun t ⟨hdone, ht⟩ => ⟨hdone, ?_⟩
  rw [ht]
  exact (Tab.find_del _ _ _).trans (if_pos rfl)

theorem deleteCq_deletes {z : CplQ} (h : AdminTurn s p x y) (h0 : qid ≠ 0) (hz : Tab.find (s.ctrl p).cqs qid = some z)
    (hfree : ∀ e ∈ (s.ctrl p).sqs, e.2.cq ≠ qid) :
    Does (.adminCommand p cid 4 qid size cqid prio) s (fetchParts s p) [] (fun t => AdminDone p cid 0 0 0 x y t ∧ Tab.find (t.ctrl p).cqs qid = none) := by
  have hq := queuesTaken_of_turn h
  have hex := exec_adminCommand (cid := cid) (qid := qid) (size := size) (cqid := cqid) (prio := prio) h 4
  obtain ⟨-, -, -, -, hx, -⟩ := h
  have hctrl := (s.sqFetched_adminTaken p).ctrl
  have hne : x.cq ≠ qid := hfree _ (Tab.mem_of_find hx)
  have hnone : (s.ctrl p).taken.sqs.any (fun q => q.2.cq == qid) = false := List.any_eq_false.mpr fun e he => by
    rcases Ctrl.mem_taken hx he with rfl | he
    · simpa [SubQ.next] using hne
    · simpa using hfree e he
  have hfound : Tab.find (s.ctrl p).taken.cqs qid = some z := hz
  have hgone : (s.sqFetched p 0).adminOther p cid 4 qid size cqid prio =
      ((s.sqFetched p 0).updCtrl p (fun c => { c with cqs := Tab.del c.cqs qid })).adminCpl p cid 0 0 0 := by
    simp only [State.adminOther, hctrl, hfound, hnone]
    simp [h0]
  rw [hgone] at hex
  refine (admin_changes hex ⟨hq.1, (Tab.find_del _ _ _).trans ((if_neg hne).trans hq.2)⟩).imp fun t ⟨hdone, ht⟩ => ⟨hdone, ?_⟩
  rw [ht, Ctrl.find_addCqe_other hne.symm]
  exact (Tab.find_del _ _ _).trans (if_pos rfl)

theorem adminCommand_passes (h : AdminTurn s p x y) (hop : 4 < op) : Does (.adminCommand p cid op qid size cqid prio) s (fetchParts s p) [] (fun t =>
    t.bel.admin = s.bel.admin ++ [{ port := p, cid, op, vol := 16384 }] ∧ Tab.find (t.ctrl p).cqs x.cq = some y) := by
  refine admin_passes h ?_
  rw [exec_adminCommand h]
  simp [State.adminOther, show op ≠ 1 by omega, show op ≠ 0 by omega, show op ≠ 4 by omega]

end Sys2Proof.Machine
end

section
/-! WleAt_field hfit an admin command answers with: Identify, the ANA log, the Sanitize log (R54, R58, R59, R61, R126, R129, R132, R134). -/

namespace Sys2Proof.Machine

variable {s t u w : State} {i : Instr} {p cid n nsid : Nat} {x : SubQ} {y : CplQ} {b : Bytes} {fs : List (Nat × Bytes)} {P : Bytes → Prop}

/-! ### An answer -/

theorem fetchParts_no_free (s : State) (p : Nat) : Part.free ∉ fetchParts s p := by
  unfold fetchParts
  split <;> simp

/-- An admin command tleAt_field hfit answers with the bytes `b` once `n` free values are drawn. -/
theorem admin_gives {len : Nat} (h : AdminTurn s p x y) (hex : exec i s = .next ((((s.sqFetched p 0).taken n).emit (.adminData p cid b)).adminCpl p cid 0 0 0))
    (hlen : len ≠ 0 → b.length = len) (hP : P b) : Does i s (fetchParts s p ++ [.out, .free]) [] (fun t =>
      t.freeCtr = s.freeCtr + n ∧ AdminGave p cid len x y P s t) := by
  have ht := s.sqFetched_adminTaken p
  have hq := queuesTaken_of_turn h
  have hfree : (s.sqFetched p 0).freeCtr = s.freeCtr := ht.kept.2.1 .free (fetchParts_no_free s p)
  generalize s.sqFetched p 0 = u at hex ht hfree
  have hkept : Kept (fetchParts s p ++ [.out, .free]) [] s ((u.taken n).emit (.adminData p cid b)) :=
    ((ht.kept.widen (by simp +contextual) (by simp)).taken (by simp) n).emit (by simp)
  refine (admin_completes hex hkept (List.mem_append_left _ (bel_mem_fetchParts s p)) ?_).imp fun t ⟨hdone, he⟩ => ⟨?_, hdone, b, u.out, ?_, ht.out, hlen, hP⟩
  · rw [← ht.ctrl] at hq
    exact hq
  · rw [he, ← hfree]
    rfl
  · rw [he]
    rfl

/-- An admin command tleAt_field hfit answers with fields over free bytes. -/
theorem admin_gives_fields (h : AdminTurn s p x y) (hex : exec i s = .next ((s.sqFetched p 0).adminAnswer p cid n fs))
    (hP : P (overFields ((s.sqFetched p 0).freeBytes n) fs)) : Does i s (fetchParts s p ++ [.out, .free]) [] (fun t =>
      t.freeCtr = s.freeCtr + n ∧ AdminGave p cid n x y P s t) :=
  admin_gives h hex (fun _ => by rw [overFields_length, State.freeBytes_length]) hP

/-! ### Identify -/

theorem exec_identify (h : AdminTurn s p x y) (cns nsid : Nat) : exec (.identify p cid cns nsid) s = .next ((s.sqFetched p 0).adminAnswer p cid 4096
    (if cns == 1 then (s.sqFetched p 0).idCtrl p else if cns == 0 && nsid != 0 then (s.sqFetched p 0).idNs (nsid - 1) else [])) := by
  simp only [exec, execIdentify, fetchAdmin_of_turn h]

/-- The fields of Identify Controller lie apart, within its 4,096 bytes. -/
theorem idCtrl_spans (s : State) (p : Nat) : SpansFit 4096 (spans (s.idCtrl p)) := by
  have h : spans (s.idCtrl p) = [(0, 4), (77, 1), (78, 2), (96, 1), (263, 1), (265, 1), (328, 4), (344, 4), (516, 4), (524, 1), (525, 1), (536, 4),
    (2048, 12), (2080, 12), (2112, 12)] := rfl
  rw [h]
  decide

/-- CTRATT's bit of Non-Operational Power State Permissive Mode is 0. -/
theorem ctratt_permissive (v : Byte) : leAt [v &&& 0xFD] 0 1 / 2 % 2 = 0 := by
  revert v
  decide

theorem identify_controller (h : AdminTurn s p x y) (nsid : Nat) : Does (.identify p cid 1 nsid) s (fetchParts s p ++ [.out, .free]) [] (fun t =>
    t.freeCtr = s.freeCtr + 4096 ∧ AdminGave p cid 4096 x y (fun b => leAt b 0 2 = 0x1D7A ∧ leAt b 2 2 = 0x1D7A ∧ leAt b 77 1 = 9 ∧
      leAt b 78 2 = (1 + 2 * s.head + p) % 65536 ∧ leAt b 516 4 = 16384 ∧ leAt b 263 1 = 2 ∧ leAt b 265 1 = 0 ∧ leAt b 96 1 / 2 % 2 = 0 ∧
      leAt b 328 4 = 3 ∧ leAt b 344 4 = 2 ∧ leAt b 2048 2 = 17500 ∧ leAt b 2080 2 = 12000 ∧ leAt b 2112 2 = 2200) s t) := by
  have hhead : (s.sqFetched p 0).head = s.head := (s.sqFetched_adminTaken p).kept.get_eq (by simp)
  refine admin_gives_fields h (exec_identify h 1 nsid) ?_
  rw [← hhead]
  generalize s.sqFetched p 0 = u
  have hfit : SpansFit (u.freeBytes 4096).length (spans (u.idCtrl p)) := by
    rw [State.freeBytes_length]
    exact idCtrl_spans u p
  exact ⟨leAt_field hfit 0 0 0 rfl (by decide) (by decide), leAt_field hfit 0 0 2 rfl (by decide) (by decide), leAt_field hfit 1 77 0 rfl (by decide) (by decide),
    leAt_field hfit 2 78 0 rfl (Nat.le_refl 2) (leAt_leBytes 2 _), leAt_field hfit 8 516 0 rfl (by decide) (by decide), leAt_field hfit 4 263 0 rfl (by decide) (by decide),
    leAt_field hfit 5 265 0 rfl (by decide) (by decide), ctratt_permissive _ ▸ congrArg (· / 2 % 2) (leAt_field hfit 3 96 0 rfl (Nat.le_refl 1) rfl),
    leAt_field hfit 6 328 0 rfl (by decide) (by decide), leAt_field hfit 7 344 0 rfl (by decide) (by decide), leAt_field hfit 12 2048 0 rfl (by decide) (by decide),
    leAt_field hfit 13 2080 0 rfl (by decide) (by decide), leAt_field hfit 14 2112 0 rfl (by decide) (by decide)⟩

theorem idNs_spans {v : Nat} (h : (s.vol v).present = true) : SpansFit 4096 (spans (s.idNs v)) := by
  have hspans : spans (s.idNs v) = [(0, 8), (25, 2), (33, 1), (128, 3), (92, 4)] := by
    rw [State.idNs, if_pos h]
    rfl
  rw [hspans]
  decide

theorem identify_namespace (h : AdminTurn s p x y) (hn : nsid ≠ 0) (hv : (s.vol (nsid - 1)).present = true) :
    Does (.identify p cid 0 nsid) s (fetchParts s p ++ [.out, .free]) [] (fun t => AdminGave p cid 4096 x y (fun b =>
      leAt b 0 8 = (s.vol (nsid - 1)).size % 2 ^ 64 ∧ leAt b 25 1 = 0 ∧ leAt b 92 4 = (1 + (s.vol (nsid - 1)).owner) % 2 ^ 32 ∧
      leAt b 128 2 = 0 ∧ leAt b 130 1 = 12) s t) := by
  have hvol : (s.sqFetched p 0).vol (nsid - 1) = s.vol (nsid - 1) := by
    obtain ⟨-, -, -, hvols, -⟩ := (s.sqFetched_adminTaken p).refetched.bel_facts
    rw [State.vol, State.vol, hvols]
  have hex := exec_identify (cid := cid) h 0 nsid
  rw [if_neg (by decide), if_pos (by simpa using hn)] at hex
  refine (admin_gives_fields h hex ?_).imp fun _ ht => ht.2
  rw [← hvol] at hv ⊢
  generalize s.sqFetched p 0 = u at hv ⊢
  have hfit : SpansFit (u.freeBytes 4096).length (spans (u.idNs (nsid - 1))) := by
    rw [State.freeBytes_length]
    exact idNs_spans hv
  have hfields : u.idNs (nsid - 1) = [(0, leBytes 8 (u.vol (nsid - 1)).size), (25, [0, 0]), (33, [9]), (128, leBytes 2 0 ++ [12]),
      (92, leBytes 4 (1 + (u.vol (nsid - 1)).owner))] := if_pos hv
  rw [hfields] at hfit ⊢
  exact ⟨leAt_field hfit 0 0 0 rfl (Nat.le_refl 8) (leAt_leBytes 8 _), leAt_field hfit 1 25 0 rfl (by decide) (by decide), leAt_field hfit 4 92 0 rfl (Nat.le_refl 4) (leAt_leBytes 4 _),
    leAt_field hfit 3 128 0 rfl (by decide) (by decide), leAt_field hfit 3 128 2 rfl (by decide) (by decide)⟩

/-! ### Logs -/

theorem exec_getLogPage (h : AdminTurn s p x y) (lid : Nat) : exec (.getLogPage p cid lid) s = .next (if lid == 0x0C then
    (((s.sqFetched p 0).taken 1).emit (.adminData p cid ((s.sqFetched p 0).anaLog p))).adminCpl p cid 0 0 0 else (s.sqFetched p 0).adminAnswer p cid 512
      (if lid == 0x81 then [(0, leBytes 2 (s.sqFetched p 0).sprog ++ leBytes 1 (s.sqFetched p 0).bel.sanStatus)] else [])) := by
  simp only [exec, execGetLogPage, fetchAdmin_of_turn h]

/-- The volumes of an ANA group that a controller sees. -/
def State.anaMembers (s : State) (p g : Nat) : List Nat :=
  (s.bel.vols.filter (fun v => v.2.present && v.2.owner == g - 1 && bit v.2.attach (2 * s.head + p))).map (·.1)

theorem State.anaGroup_eq (s : State) (p g state count : Nat) : s.anaGroup p g state count = leBytes 4 g ++
    ((leBytes 4 (s.anaMembers p g).length ++ leBytes 8 count) ++ (leBytes 1 (anaCode state) ++
      (zeroBytes 15 ++ (s.anaMembers p g).flatMap (fun v => leBytes 4 (v + 1))))) := by
  simp only [State.anaGroup, State.anaMembers, List.append_assoc]

/-- The ANA log: a change count, the number of groups, and the first group's number, counts and state. -/
theorem State.anaLog_eq (u : State) (p : Nat) : ∃ counts rest, counts.length = 12 ∧ u.anaLog p = leBytes 8 u.freeValue.toNat ++ (leBytes 2 2 ++
    (zeroBytes 6 ++ (leBytes 4 1 ++ (counts ++ (leBytes 1 (anaCode (u.ctrl p).ana1) ++ rest))))) := by
  refine ⟨leBytes 4 (u.anaMembers p 1).length ++ leBytes 8 u.freeValue.toNat, zeroBytes 15 ++ ((u.anaMembers p 1).flatMap (fun v => leBytes 4 (v + 1)) ++
    u.anaGroup p 2 (u.ctrl p).ana2 u.freeValue.toNat), by rw [List.length_append, leBytes_length, leBytes_length], ?_⟩
  simp only [State.anaLog, State.anaGroup_eq u p 1, List.append_assoc]

theorem getLogPage_ana (h : AdminTurn s p x y) : Does (.getLogPage p cid 0x0C) s (fetchParts s p ++ [.out, .free]) [] (fun t =>
    AdminGave p cid 0 x y (fun b => leAt b 8 2 = 2 ∧ leAt b 16 4 = 1 ∧
      leAt b 32 1 = (if (s.ctrl p).ana1 = 0 then 3 else (s.ctrl p).ana1 % 256)) s t) := by
  have hana : ((s.sqFetched p 0).ctrl p).ana1 = (s.ctrl p).ana1 := (congrArg Ctrl.ana1 (s.sqFetched_adminTaken p).ctrl :)
  refine (admin_gives h (exec_getLogPage h 0x0C) (by simp) ?_).imp fun _ ht => ht.2
  rw [← hana]
  generalize s.sqFetched p 0 = u
  obtain ⟨counts, rest, hcounts, hlog⟩ := u.anaLog_eq p
  have hcode : anaCode (u.ctrl p).ana1 % 256 ^ 1 = if (u.ctrl p).ana1 = 0 then 3 else (u.ctrl p).ana1 % 256 := by
    simp only [anaCode, beq_iff_eq]
    split <;> rfl
  refine ⟨leAt_of_append (v := 2) hlog (leBytes_length 8 _), ?_, ?_⟩
  · refine leAt_of_append (v := 1) (a := leBytes 8 u.freeValue.toNat ++ leBytes 2 2 ++ zeroBytes 6)
      (c := counts ++ (leBytes 1 (anaCode (u.ctrl p).ana1) ++ rest)) ?_ (by simp [leBytes_length, zeroBytes])
    rw [hlog]
    simp only [List.append_assoc]
  · rw [← hcode]
    refine leAt_of_append (a := leBytes 8 u.freeValue.toNat ++ leBytes 2 2 ++ zeroBytes 6 ++ leBytes 4 1 ++ counts) (c := rest) ?_
      (by simp [leBytes_length, zeroBytes, hcounts])
    rw [hlog]
    simp only [List.append_assoc]

theorem getLogPage_sanitize (h : AdminTurn s p x y) : Does (.getLogPage p cid 0x81) s (fetchParts s p ++ [.out, .free]) [] (fun t =>
    AdminGave p cid 512 x y (fun b => leAt b 0 2 = s.sprog % 65536 ∧ leAt b 2 1 = s.bel.sanStatus % 256) s t) := by
  have hsprog : (s.sqFetched p 0).sprog = s.sprog := by
    rw [State.sprog, State.sprog, State.pair, State.pair, (s.sqFetched_adminTaken p).kept.jnl_eq (by unfold fetchParts; split <;> simp)]
  rw [← hsprog, ← (s.sqFetched_adminTaken p).sanStatus]
  refine (admin_gives_fields h (exec_getLogPage h 0x81) ?_).imp fun _ ht => ht.2
  generalize s.sqFetched p 0 = u
  have hfit : SpansFit (u.freeBytes 512).length (spans [(0, leBytes 2 u.sprog ++ leBytes 1 u.bel.sanStatus)]) := by
    rw [State.freeBytes_length]
    show SpansFit 512 [(0, 3)]
    decide
  exact ⟨leAt_field hfit 0 0 0 rfl (by simp [leBytes_length]) (leAt_of_append (a := []) rfl rfl),
    leAt_field hfit 0 0 2 rfl (by simp [leBytes_length]) (leAt_of_append (c := []) (by rw [List.append_nil]) (leBytes_length 2 _))⟩

end Sys2Proof.Machine
end

section
/-! Namespaces (R122, R123): a create takes the lowest free volume, and its completion by firmware. -/

namespace Sys2Proof.Machine

variable {s t u w : State} {p cid v n : Nat} {x : SubQ} {y : CplQ} {a : AdminCmd}

theorem State.vol_updVol (v w : Nat) (f : Vol → Vol) : (s.updVol v f).vol w = if w = v then f (s.vol v) else s.vol w := by
  simp only [State.vol, State.updVol, State.updBel, Tab.getD_upd]

theorem State.freeVol_congr (hv : u.bel.vols = s.bel.vols) (ha : u.bel.admin = s.bel.admin) : ∀ n v, u.freeVol n v = s.freeVol n v
  | 0, _ => rfl
  | n + 1, v => by
    have hvol : u.vol v = s.vol v := by rw [State.vol, State.vol, hv]
    have hcreating : u.creating v = s.creating v := by rw [State.creating, State.creating, ha]
    rw [State.freeVol, State.freeVol, hvol, hcreating, State.freeVol_congr hv ha n (v + 1)]

theorem nsCreate_takes (h : AdminTurn s p x y) (hv : s.freeVol 16384 0 = some v) :
    Does (.nsCreate p cid) s (fetchParts s p) [] (fun t => t.bel.admin = s.bel.admin ++ [{ port := p, cid, op := 0x0D, vol := v }] ∧
      (t.vol v).present = false ∧ (t.vol v).owner = s.head ∧ (t.vol v).size = 0 ∧ ∀ w, w ≠ v → t.vol w = s.vol w) := by
  have ht := s.sqFetched_adminTaken p
  obtain ⟨-, -, -, hvols, -⟩ := ht.refetched.bel_facts
  have hfree : (s.sqFetched p 0).freeVol 16384 0 = some v := (State.freeVol_congr hvols ht.admin _ _).trans hv
  have hhead : (s.sqFetched p 0).head = s.head := ht.kept.get_eq (by simp)
  have hex : exec (.nsCreate p cid) s = .next ((((s.sqFetched p 0).clearVol v).updVol v (fun x => { x with owner := s.head })).toAdmin p cid 0x0D v) := by
    simp only [exec, execNsCreate, fetchWaking_of_turn h, hfree]
    rw [← hhead]
  have hvol : ∀ w, (s.sqFetched p 0).vol w = s.vol w := fun w => by rw [State.vol, State.vol, hvols]
  generalize s.sqFetched p 0 = u at ht hex hvol
  have hmade : ∀ w, ((((u.clearVol v).updVol v (fun x => { x with owner := s.head })).toAdmin p cid 0x0D v).vol w) =
      if w = v then { loss := (s.vol v).loss, owner := s.head } else s.vol w := fun w => by
    refine (State.vol_updVol (s := u.clearVol v) v w (fun x => { x with owner := s.head })).trans ?_
    simp only [State.clearVol, State.vol_updVol, hvol, if_true]
    split
    · rfl
    · rfl
  have hbel := bel_mem_fetchParts s p
  refine ⟨_, hex, ⟨congrArg (· ++ _) ht.admin, ?_, ?_, ?_, fun w hw => ?_⟩, ((ht.kept.updBel hbel _).updBel hbel _).updBel hbel _⟩
  · rw [hmade, if_pos rfl]
  · rw [hmade, if_pos rfl]
  · rw [hmade, if_pos rfl]
  · rw [hmade, if_neg hw]

/-- Firmware's admin commands once the create of volume `v` is answered. -/
def State.created (s : State) (v : Nat) : State := s.updBel (fun b => { b with admin := b.admin.filter (fun x => !(x.op == 0x0D && x.vol == v)) })

theorem exec_nsCreateComplete (ha : s.bel.admin = [a]) (hop : a.op = 0x0D) (hv : a.vol = v) : exec (.nsCreateComplete v 0 0) s =
    .next (if !sizeOk (s.vol v).size then ((s.created v).clearVol v).adminCpl a.port a.cid 1 0x0A 0
      else if 2 ^ 44 < s.sizeSum + (s.vol v).size then ((s.created v).clearVol v).adminCpl a.port a.cid 1 0x15 0
      else ((s.created v).updVol v (fun x => { x with present := true, home := x.owner })).adminCpl a.port a.cid 0 0 (v + 1)) := by
  have hfind : s.bel.admin.find? (fun a => a.op == 0x0D && a.vol == v) = some a := by simp [ha, hop, hv]
  simp only [exec, execNsCreateComplete, hfind]
  rfl

theorem State.queueAdmin_eq (hx : Tab.find (w.ctrl p).sqs 0 = some x) (cid sct sc dw0 : Nat) : w.adminCpl p cid sct sc dw0 =
    w.updCtrl p (·.addCqe x.cq { cid, sq := 0, sqHead := x.head, sct, sc, dw0 }) :=
  State.queueCqe_eq (e := { cid, sq := 0, sqHead := 0, sct, sc, dw0 }) hx

/-- The completion of a create waits in the completion queue of the port it came through. -/
theorem State.find_queueAdmin (hx : Tab.find (w.ctrl p).sqs 0 = some x) (hy : Tab.find (w.ctrl p).cqs x.cq = some y) (cid sct sc dw0 : Nat) :
    Tab.find ((w.adminCpl p cid sct sc dw0).ctrl p).cqs x.cq =
      some { y with waiting := y.waiting ++ [{ cid, sq := 0, sqHead := x.head, sct, sc, dw0 }] } := by
  rw [State.queueAdmin_eq hx, State.ctrl_updCtrl]
  exact Ctrl.find_addCqe hy

theorem nsCreateComplete_completes (ha : s.bel.admin = [a]) (hop : a.op = 0x0D) (hv : a.vol = v) (hx : Tab.find (s.ctrl a.port).sqs 0 = some x)
    (hy : Tab.find (s.ctrl a.port).cqs x.cq = some y) (hgib : (s.vol v).size % 262144 = 0) (hmin : 262144 ≤ (s.vol v).size)
    (hmax : (s.vol v).size ≤ 2 ^ 38) (hsum : s.sizeSum + (s.vol v).size ≤ 2 ^ 44) :
    Does (.nsCreateComplete v 0 0) s [.bel] [] (fun t => t.vol v = { s.vol v with present := true, home := (s.vol v).owner } ∧ t.bel.admin = [] ∧
      Tab.find (t.ctrl a.port).cqs x.cq =
        some { y with waiting := y.waiting ++ [{ cid := a.cid, sq := 0, sqHead := x.head, sct := 0, sc := 0, dw0 := v + 1 }] }) := by
  have hok : sizeOk (s.vol v).size = true := by
    simp only [sizeOk, Bool.and_eq_true, beq_iff_eq, decide_eq_true_eq]
    exact ⟨⟨hgib, hmin⟩, hmax⟩
  have hex := exec_nsCreateComplete ha hop hv
  rw [hok, if_neg (by simp), if_neg (Nat.not_lt.mpr hsum)] at hex
  generalize hu : (s.created v).updVol v (fun x => { x with present := true, home := x.owner }) = u at hex
  have hctrl : u.ctrl a.port = s.ctrl a.port := by rw [← hu]; rfl
  rw [← hctrl] at hx hy
  refine ⟨_, hex, ⟨?_, ?_, State.find_queueAdmin hx hy _ _ _ _⟩, ?_⟩
  · rw [State.queueAdmin_eq hx, ← hu]
    exact (State.vol_updVol (s := s.created v) v v (fun x => { x with present := true, home := x.owner })).trans (if_pos rfl)
  · rw [State.queueAdmin_eq hx, ← hu]
    simp [State.created, State.updVol, State.updCtrl, State.updBel, ha, hop, hv]
  · rw [State.queueAdmin_eq hx, ← hu]
    exact (((Kept.refl _ _ s).updBel (by simp) _).updBel (by simp) _).updBel (by simp) _

/-- A size that is not whole GiB is refused. -/
theorem nsCreateComplete_refuses (ha : s.bel.admin = [a]) (hop : a.op = 0x0D) (hv : a.vol = v) (hx : Tab.find (s.ctrl a.port).sqs 0 = some x)
    (hy : Tab.find (s.ctrl a.port).cqs x.cq = some y) (hgib : (s.vol v).size % 262144 ≠ 0) :
    Does (.nsCreateComplete v 0 0) s [.bel] [] (fun t => (t.vol v).present = false ∧ Tab.find (t.ctrl a.port).cqs x.cq =
      some { y with waiting := y.waiting ++ [{ cid := a.cid, sq := 0, sqHead := x.head, sct := 1, sc := 0x0A, dw0 := 0 }] }) := by
  have hbad : sizeOk (s.vol v).size = false := by
    simp only [sizeOk, Bool.and_eq_false_iff, beq_eq_false_iff_ne]
    exact .inl (.inl hgib)
  have hex := exec_nsCreateComplete ha hop hv
  rw [hbad, if_pos (by simp)] at hex
  generalize hu : (s.created v).clearVol v = u at hex
  have hctrl : u.ctrl a.port = s.ctrl a.port := by rw [← hu]; rfl
  rw [← hctrl] at hx hy
  refine ⟨_, hex, ⟨?_, State.find_queueAdmin hx hy _ _ _ _⟩, ?_⟩
  · rw [State.queueAdmin_eq hx, ← hu]
    exact congrArg Vol.present ((State.vol_updVol (s := s.created v) v v (fun x => { loss := x.loss })).trans (if_pos rfl))
  · rw [State.queueAdmin_eq hx, ← hu]
    exact (((Kept.refl _ _ s).updBel (by simp) _).updBel (by simp) _).updBel (by simp) _

end Sys2Proof.Machine
end

section
namespace Sys2Proof.Machine

/-- Settles O38: each command by its branch, over the state in which its entry is taken; a create's completion by the checks of its size. -/
theorem adminCommands : Obligations.AdminCommands := by
  unfold Obligations.AdminCommands
  refine ⟨fun s p cid x y h => ⟨?_, ?_, ?_, ?_, ?_, ?_, ?_, ?_, ?_, ?_, ?_, ?_, ?_, ?_, ?_, ?_⟩, fun s p cid x y h => ⟨?_, ?_, ?_, ?_, ?_⟩,
    fun s v a x y ha hop hv hx hy => ⟨nsCreateComplete_completes ha hop hv hx hy, nsCreateComplete_refuses ha hop hv hx hy⟩⟩
  · exact fun q target c x2 y2 hc hr hf hd hp hq hcid hg hpost hst hq0 hx2 hy2 hcq => abort_aborts h hc hr hf hd hp hq hcid hg hpost hst hq0 hx2 hy2 hcq
  · exact fun q target => abort_misses h
  · exact setFeaturesArbitration_sets h
  · exact fun ps => setFeaturesPower_shallow h
  · exact fun ps => setFeaturesPower_invalid h
  · exact setFeaturesPower_deep h
  · exact getFeatures_arbitration h
  · exact getFeatures_power h
  · exact getFeatures_queues h
  · exact fun fid => getFeatures_passes h
  · exact fun qid size vector irq => createIoCq_creates h
  · exact fun qid size vector irq => createIoCq_badVector h
  · exact fun qid size prio c z h0 hmax hno hc0 => createSq_creates h h0 hmax hno hc0
  · exact fun qid size prio c z => deleteSq_deletes h
  · exact fun qid size prio c z => deleteCq_deletes h
  · exact fun op qid size cqid prio => adminCommand_passes h
  · exact identify_controller h
  · exact fun nsid => identify_namespace h
  · exact getLogPage_ana h
  · exact getLogPage_sanitize h
  · exact fun v => nsCreate_takes h

end Sys2Proof.Machine
end

section
/-! Host links: what each piece of a link's change leaves as it was (R40-R46, R70-R75). -/

namespace Sys2Proof.Machine

variable {ps : List Part} {fs : List Fld} {s t u : State} {p q : Nat} {f : HostPort → HostPort}

/-! ### Fields a link's change shows -/

theorem State.downtrain_kept (s : State) (p : Nat) : Kept logParts (F.HST_ERR_DOWNTRAIN p :: logFlds) s (s.downtrain p) := by
  unfold State.downtrain
  split
  · exact Kept.refl _ _ s
  · exact s.hstErr_kept p F.HST_ERR_DOWNTRAIN _

theorem State.showHst_eq (hp : p < 2) : s.showHst p = s.degrade F.GLB_FAULT_HST p (s.getb (F.HST_CTL_PORT_EN p) && !s.linkL0 p) := by
  rcases eq_zero_or_one hp with rfl | rfl <;> rfl

/-- What showing a port's degraded bit can change. -/
def hstParts : List Part := .glbPend :: logParts
def hstFlds : List Fld := F.GLB_FAULT_HST :: logFlds

theorem State.showHst_kept (hp : p < 2) : Kept hstParts hstFlds s (s.showHst p) := by
  rw [State.showHst_eq hp]
  exact (Kept.refl _ _ s).degrade (fun _ h => h) (fun _ h => h)

theorem State.linkPower_kept (s : State) (p : Nat) : Kept powerParts powerFlds s (s.linkPower p) := by
  unfold State.linkPower
  dsimp only
  split
  · exact s.showPower_kept.setModeSt (by decide) _
  · exact s.showPower_kept

/-! ### CACHE_ON (R46) -/

/-- CXL.cache is in use on the port. -/
def State.cacheUsed (s : State) (p : Nat) : Bool := (s.port p).cacheNeg && (s.port p).cacheEnable && s.getb (F.HST_CTL_CACHE_EN p)

theorem State.evictLines_kept (p : Nat) (l : List (Nat × Bool)) (s : State) : Kept [.out] [] s (l.foldl (fun s l => s.evictLine p l) s) :=
  Kept.foldl (fun u _ => (Kept.refl _ _ u).emit (by simp)) l s

theorem State.showCache_on (h : s.cacheUsed p = true) : s.showCache p = s.setb (F.HST_LINK_STS_CACHE_ON p) true := by
  rw [State.cacheUsed] at h
  simp only [State.showCache, h, if_true]

theorem State.showCache_off (h : s.cacheUsed p = false) : s.showCache p = (s.port p).lines.foldl (fun s l => s.evictLine p l)
    ((s.setb (F.HST_LINK_STS_CACHE_ON p) false).updPort p (fun h => { h with lines := [] })) := by
  rw [State.cacheUsed] at h
  simp only [State.showCache, h, Bool.false_eq_true, if_false]
  rfl

theorem State.showCache_kept (s : State) (p : Nat) : Kept [.ports, .out] [F.HST_LINK_STS_CACHE_ON p] s (s.showCache p) := by
  cases h : s.cacheUsed p with
  | true =>
    rw [State.showCache_on h]
    exact (Kept.refl _ _ s).setb (by simp)
  | false =>
    rw [State.showCache_off h]
    exact (((Kept.refl _ _ s).setb (by simp)).updPort (f := fun h => { h with lines := [] }) (by simp) p fun _ => rfl).trans
      ((State.evictLines_kept p _ _).widen (by simp) (by simp))

theorem State.getb_showCache (s : State) (p : Nat) : (s.showCache p).getb (F.HST_LINK_STS_CACHE_ON p) = s.cacheUsed p := by
  cases h : s.cacheUsed p with
  | true =>
    rw [State.showCache_on h]
    exact State.getb_setb_same (f := F.HST_LINK_STS_CACHE_ON p) (b := true) Nat.one_pos
  | false =>
    rw [State.showCache_off h, (State.evictLines_kept p _ _).getb_eq (by simp)]
    exact State.getb_setb_same (f := F.HST_LINK_STS_CACHE_ON p) (b := false) Nat.one_pos

/-- The lines the device cache of the port holds stand while CXL.cache is in use; nothing else of the port changes. -/
theorem State.showCache_port (s : State) (p : Nat) :
    (s.showCache p).port p = { s.port p with lines := if s.cacheUsed p then (s.port p).lines else [] } := by
  cases h : s.cacheUsed p with
  | true => rw [State.showCache_on h]; rfl
  | false =>
    rw [State.showCache_off h]
    obtain ⟨out, hfold⟩ := State.evictAll_eq p (s.port p).lines
      ((s.setb (F.HST_LINK_STS_CACHE_ON p) false).updPort p (fun h => { h with lines := [] }))
    rw [hfold]
    exact State.updPort_port p (fun h => { h with lines := [] })

/-! ### The controller (R70, R71) -/

theorem State.clearCtrl_kept (s : State) (p : Nat) : Kept [.bel] [] s (s.clearCtrl p) := ((Kept.refl _ _ s).updBel (by simp) _).updBel (by simp) _

theorem State.clearCtrl_ctrl (s : State) (p : Nat) : (s.clearCtrl p).ctrl p = { ana1 := (s.ctrl p).ana1, ana2 := (s.ctrl p).ana2 } :=
  State.ctrl_updCtrl (s := s) p (fun c => { ana1 := c.ana1, ana2 := c.ana2 })

/-- What dropping commands can change. -/
def dropParts : List Part := [.bel, .pool, .jnl]

theorem Kept.freeUser (h : Kept ps fs s t) (hp : Part.pool ∈ ps) (user : Nat) : Kept ps fs s (t.freeUser user) := by
  have hone : ∀ (u : State) (g : Nat), Kept ps fs u (u.freeGrateOf g) := fun u g => (Kept.refl _ _ u).freeGrateOf hp g
  exact h.trans ((Kept.foldl hone _ t).updPool hp _)

/-- One command a reset covers is dropped, or runs on without its completion. -/
def State.dropOne (s : State) (c : Cmd) : State :=
  let w := if c.ring && c.kind == .dealloc && c.posted then s.withdraw c.id else (s, !(c.posted || (c.kind.writes && c.stage == .forwarded)))
  if w.2 then (w.1.dropCmd c.id).freeUser (cmdUser c.id) else s.updCmd c.id (fun c => { c with dead := true })

theorem State.dropFetched_eq (s : State) (sel : Cmd → Bool) :
    s.dropFetched sel = (s.bel.cmds.filter (fun c => sel c && c.foreign.isNone && !c.dead)).foldl State.dropOne s := rfl

theorem State.withdraw_kept (s : State) (id : Nat) : Kept [.jnl] [] s (s.withdraw id).1 := by
  unfold State.withdraw
  dsimp only
  split
  · exact Kept.refl _ _ s
  · exact (Kept.refl _ _ s).updJnl (by simp) _

theorem State.freeUser_kept (s : State) (user : Nat) : Kept [.pool] [] s (s.freeUser user) := (Kept.refl _ _ s).freeUser (by simp) user

/-- The state a command is dropped from: the records of one that posted have been withdrawn. -/
theorem State.dropOne_cases (s : State) (c : Cmd) : ∃ u, Kept [.jnl] [] s u ∧
    (s.dropOne c = (u.dropCmd c.id).freeUser (cmdUser c.id) ∨ s.dropOne c = s.updCmd c.id (fun c => { c with dead := true })) := by
  unfold State.dropOne
  dsimp only
  split
  · refine ⟨_, s.withdraw_kept c.id, ?_⟩
    split
    · exact .inl rfl
    · exact .inr rfl
  · refine ⟨s, Kept.refl _ _ s, ?_⟩
    split
    · exact .inl rfl
    · exact .inr rfl

theorem State.dropOne_kept (s : State) (c : Cmd) : Kept dropParts [] s (s.dropOne c) := by
  obtain ⟨u, hu, h | h⟩ := s.dropOne_cases c
  · rw [h]
    exact ((hu.widen (by simp [dropParts]) (by simp)).updBel (by simp [dropParts]) _).freeUser (by simp [dropParts]) _
  · rw [h]
    exact (Kept.refl _ _ s).updBel (by simp [dropParts]) _

theorem State.dropOne_ctrl (s : State) (c : Cmd) (p : Nat) : (s.dropOne c).ctrl p = s.ctrl p := by
  obtain ⟨u, hu, h | h⟩ := s.dropOne_cases c
  · have hbel : (s.dropOne c).bel = (u.dropCmd c.id).bel := by rw [h, (State.freeUser_kept _ _).bel_eq (by simp)]
    have hctrls : (s.dropOne c).bel.ctrls = s.bel.ctrls := by
      rw [hbel, ← hu.bel_eq (by simp)]
      rfl
    rw [State.ctrl, State.ctrl, hctrls]
  · rw [h]
    rfl

theorem State.dropFetched_kept (s : State) (sel : Cmd → Bool) : Kept dropParts [] s (s.dropFetched sel) := by
  rw [State.dropFetched_eq]
  exact Kept.foldl State.dropOne_kept _ s

theorem State.dropFetched_ctrl (s : State) (sel : Cmd → Bool) (p : Nat) : (s.dropFetched sel).ctrl p = s.ctrl p := by
  rw [State.dropFetched_eq]
  exact foldl_eq_of_step (fun u : State => u.ctrl p) (fun u c => u.dropOne_ctrl c p) _ s

/-! ### PTM (R69) -/

theorem State.getb_ptmLost (s : State) : s.ptmLost.getb F.TICK_STS_PTM_OK = false := by
  have hoff : (s.setb F.TICK_STS_PTM_OK false).getb F.TICK_STS_PTM_OK = false :=
    State.getb_setb_same (f := F.TICK_STS_PTM_OK) (b := false) (by decide)
  unfold State.ptmLost
  dsimp only
  split
  · refine (Kept.getb_eq (((Kept.refl logParts (F.TICK_STS_HOLDOVER :: F.TICK_ERR_PTM_LOSS :: logFlds) _).setb (by simp)).setb (by simp) |>.loggedMs
      (fun _ h => h) (by simp +contextual)) (by decide)).trans hoff
  · exact hoff

/-! ### The configuration space (R69, R73) -/

theorem Kept.updPortAll (h : Kept ps fs s t) (hp : Part.ports ∈ ps) (hi : Part.irqPend ∈ ps) (p : Nat) (f : HostPort → HostPort) :
    Kept ps fs s (t.updPort p f) := by
  refine h.upd rfl rfl fun q hn => ?_
  cases q with
  | ports => exact absurd hp hn
  | irqPend => exact absurd hi hn
  | wdt => exact ⟨rfl, rfl⟩
  | plic => exact ⟨rfl, rfl, rfl, rfl⟩
  | _ => rfl

/-- A port's configuration space and MSI-X table are clear. -/
def HostPort.unconfigured (h : HostPort) : HostPort :=
  { h with msix := [], msixPend := [], msixEnable := false, msixMask := false, cacheEnable := false, ptmEnable := false }

/-- Port `p` has lost PTM where its host had enabled it. -/
def State.ptmOff (s : State) (p : Nat) : State := if (s.port p).ptmEnable then s.ptmLost else s

theorem State.ptmOff_kept (s : State) (p : Nat) : Kept logParts ptmFlds s (s.ptmOff p) := by
  unfold State.ptmOff
  split
  · exact s.ptmLost_kept
  · exact Kept.refl _ _ s

theorem State.clearConfig_eq (s : State) (p : Nat) : s.clearConfig p = ((s.ptmOff p).updPort p HostPort.unconfigured).showCache p := rfl

/-- What clearing the configuration space can change. -/
def configParts : List Part := .ports :: logParts
def configFlds (p : Nat) : List Fld := F.HST_LINK_STS_CACHE_ON p :: ptmFlds

theorem State.clearConfig_kept (s : State) (p : Nat) : Kept configParts (configFlds p) s (s.clearConfig p) := by
  rw [State.clearConfig_eq]
  exact (((s.ptmOff_kept p).widen (by simp +contextual [configParts]) (by simp +contextual [configFlds])).updPortAll (by simp [configParts])
    (by simp [configParts, logParts]) p _).trans ((State.showCache_kept _ p).widen (by simp [configParts, logParts]) (by simp [configFlds]))

theorem State.clearConfig_off (s : State) (p : Nat) : ((s.ptmOff p).updPort p HostPort.unconfigured).cacheUsed p = false := by
  simp [State.cacheUsed, State.updPort_port, HostPort.unconfigured]

theorem State.getb_clearConfig (s : State) (p : Nat) : (s.clearConfig p).getb (F.HST_LINK_STS_CACHE_ON p) = false := by
  rw [State.clearConfig_eq, State.getb_showCache, State.clearConfig_off]

theorem State.clearConfig_port (s : State) (p : Nat) : (s.clearConfig p).port p = { (s.port p).unconfigured with lines := [] } := by
  have hptm : { (s.ptmOff p).port p with msixPend := [] } = { s.port p with msixPend := [] } := (s.ptmOff_kept p).port_eq (by decide) p
  have hclear : ((s.ptmOff p).port p).unconfigured = (s.port p).unconfigured := by
    have h := congrArg HostPort.unconfigured hptm
    exact h
  rw [State.clearConfig_eq, State.showCache_port, State.clearConfig_off, State.updPort_port, hclear]
  rfl

end Sys2Proof.Machine
end

section
/-! Device-side accesses that a reset lets go on: they leave a port whose host holds no line as it was, but for what waits and what is poisoned (R51, R71). -/

namespace Sys2Proof.Machine

variable {ps : List Part} {fs : List Fld} {s t u : State} {p q line : Nat} {f : HostPort → HostPort}

/-- A port without its waiting writes, its answered and poisoned lines, and its pending vectors. -/
def HostPort.core (h : HostPort) : HostPort := { h with devq := [], clean := [], poison := [], msixPend := [] }

/-- Where no host holds a line of port `p`, the port is as it was but for what its `core` leaves out. -/
def QuietKept (p : Nat) (s t : State) : Prop := (s.port p).filter = [] → (t.port p).core = (s.port p).core

theorem QuietKept.refl (p : Nat) (s : State) : QuietKept p s s := fun _ => rfl

theorem QuietKept.trans (h : QuietKept p s t) (h' : QuietKept p t u) : QuietKept p s u := fun hf => by
  have hcore := h hf
  have hfilter : (t.port p).filter = (s.port p).filter := (congrArg HostPort.filter hcore :)
  exact (h' (hfilter.trans hf)).trans hcore

theorem QuietKept.foldl {α : Type} {f : State → α → State} (hf : ∀ s x, QuietKept p s (f s x)) : ∀ (l : List α) (s : State), QuietKept p s (l.foldl f s)
  | [], s => QuietKept.refl p s
  | x :: l, s => (hf s x).trans (QuietKept.foldl hf l (f s x))

theorem Kept.quiet (h : Kept ps fs s t) (hp : Part.ports ∉ ps) (p : Nat) : QuietKept p s t := fun _ => by
  have hport := congrArg HostPort.core (h.port_eq hp p)
  exact hport

theorem State.updPort_quiet (s : State) (p q : Nat) (hf : ∀ h : HostPort, (f h).core = h.core) : QuietKept p s (s.updPort q f) := fun _ => by
  rw [State.port_updPort]
  split
  · next he => rw [hf, he]
  · rfl

/-- A change of another port. -/
theorem State.updPort_quiet_other (s : State) (hq : p ≠ q) (f : HostPort → HostPort) : QuietKept p s (s.updPort q f) := fun _ => by
  rw [State.port_updPort, if_neg hq]

/-! ### DDR is written -/

theorem State.endPoison_quiet (s : State) (a n : Nat) : QuietKept p s (s.endPoison a n) := by
  refine QuietKept.foldl (fun u q => ?_) _ s
  dsimp only
  split
  · exact QuietKept.refl p u
  · exact u.updPort_quiet p q (f := fun h => { h with poison := h.poison.filter (fun l =>
      !((u.port q).linesAt (u.port q).poison a n).contains l) }) fun _ => rfl

theorem State.ddrWrite_quiet (s : State) (a : Nat) (b : Bytes) : QuietKept p s (s.ddrWrite a b) := by
  refine ((s.extWrite_kept a b.length).quiet (by simp) p).trans ((State.endPoison_quiet _ a b.length).trans ?_)
  generalize hv : (s.extWrite a b.length).endPoison a b.length = v
  have hclean := ({ v with ddr := Tab.writeBytes v.ddr a b } : State).cleanLines_kept a b.length
  have hout : QuietKept p v (State.cleanLines { v with ddr := Tab.writeBytes v.ddr a b } a b.length) := hclean.quiet (by simp) p
  have hagain : s.ddrWrite a b = (State.cleanLines { v with ddr := Tab.writeBytes v.ddr a b } a b.length).ichAgain := by rw [State.ddrWrite, ← hv]
  rw [hagain]
  exact hout.trans ((State.ichAgain_kept _).quiet (by simp) p)

theorem State.extRead_kept (s : State) (a n : Nat) : Kept [.ich, .ddr, .out] ichCounts s (s.extRead a n) := by
  have hdrain : Kept [.ich, .ddr] [] s (s.extDrain a n) := by
    unfold State.extDrain
    split
    · exact Kept.refl _ _ s
    · exact Kept.foldl State.drainLine_kept _ s
  exact (hdrain.widen (by simp) (by simp)).trans (State.ichAgain_kept _)

/-! ### Lines are snooped -/

/-- What a device-side access can change. -/
def agentParts : List Part := [.ports, .irqPend, .out, .ddr, .ich]

theorem State.snoop_kept (s : State) (p : Nat) (inv : Bool) (line : Nat) : Kept agentParts ichCounts s (s.snoop p inv line) := by
  have h0 := Kept.refl agentParts ichCounts s
  unfold State.snoop
  split
  · exact h0
  · split
    · exact h0.updPortAll (by simp [agentParts]) (by simp [agentParts]) p _
    · exact (h0.updPortAll (by simp [agentParts]) (by simp [agentParts]) p _).emit (by simp [agentParts])

/-- A line no host holds needs no snoop. -/
theorem State.snoop_untracked {inv : Bool} (h : s.tracked p line = false) : s.snoop p inv line = s := by
  rw [State.snoop, h]
  rfl

theorem State.snoop_quiet (s : State) (p q : Nat) (inv : Bool) (line : Nat) : QuietKept p s (s.snoop q inv line) := by
  by_cases hq : p = q
  · subst hq
    intro hf
    rw [State.snoop_untracked (by simp [State.tracked, hf])]
  · unfold State.snoop
    split
    · exact QuietKept.refl p s
    · split
      · exact s.updPort_quiet_other hq _
      · exact (s.updPort_quiet_other hq _).trans (((Kept.refl [.out] [] _).emit (by simp)).quiet (by simp) p)

theorem State.askRead_kept (s : State) (q : Nat) (l : List Nat) : Kept agentParts ichCounts s (s.askRead q l) :=
  Kept.foldl (fun u l => u.snoop_kept q false l) _ s

theorem State.askRead_quiet (s : State) (p q : Nat) (l : List Nat) : QuietKept p s (s.askRead q l) :=
  QuietKept.foldl (fun u l => u.snoop_quiet p q false l) _ s

theorem State.usedLines_kept (s : State) (q : Nat) (l : List Nat) : Kept agentParts ichCounts s (s.usedLines q l) :=
  (Kept.refl _ _ s).updPortAll (by simp [agentParts]) (by simp [agentParts]) q _

theorem State.usedLines_quiet (s : State) (p q : Nat) (l : List Nat) : QuietKept p s (s.usedLines q l) :=
  s.updPort_quiet p q (f := fun h => { h with clean := h.clean.filter (fun x => !l.contains x) }) fun _ => rfl

/-! ### Agents -/

theorem State.agentAccess_kept (s : State) (x : Nat × Nat × Option Bytes) : Kept agentParts ichCounts s (s.agentAccess x).1 := by
  unfold State.agentAccess
  split
  · split
    · have hlook : Kept agentParts ichCounts s (s.ddrLook x.1 x.2.1) := (Kept.foldl (fun u q => u.usedLines_kept q _) _ s).trans
        ((State.extRead_kept _ _ _).widen (by simp [agentParts]) (fun _ h => h))
      exact hlook.emit (by simp [agentParts])
    · exact Kept.foldl (fun u q => u.askRead_kept q _) _ s
  · split
    · exact (s.ddrWrite_kept _ _).widen (by simp [agentParts]) (fun _ h => h)
    · exact Kept.foldl (fun u q => Kept.foldl (fun v l => v.snoop_kept q true l) _ u) _ s

theorem State.agentAccess_quiet (s : State) (p : Nat) (x : Nat × Nat × Option Bytes) : QuietKept p s (s.agentAccess x).1 := by
  unfold State.agentAccess
  split
  · split
    · have hlook : QuietKept p s (s.ddrLook x.1 x.2.1) := (QuietKept.foldl (fun u q => u.usedLines_quiet p q _) _ s).trans
        ((State.extRead_kept _ _ _).quiet (by simp) p)
      exact hlook
    · exact QuietKept.foldl (fun u q => u.askRead_quiet p q _) _ s
  · split
    · exact s.ddrWrite_quiet _ _
    · exact QuietKept.foldl (fun u q => QuietKept.foldl (fun v l => v.snoop_quiet p q true l) _ u) _ s

theorem Kept.setAgentq (h : Kept ps fs s t) (hp : Part.agentq ∈ ps) (l : List (Nat × Nat × Option Bytes)) : Kept ps fs s { t with agentq := l } := by
  refine h.upd rfl rfl fun q hn => ?_
  cases q with
  | agentq => exact absurd hp hn
  | ports | irqPend => exact fun _ => rfl
  | wdt => exact ⟨rfl, rfl⟩
  | plic => exact ⟨rfl, rfl, rfl, rfl⟩
  | _ => exact rfl

/-- What pumping can change. -/
def pumpedParts : List Part := .agentq :: agentParts

theorem State.pumpAgents_kept (s : State) : Kept pumpedParts ichCounts s s.pumpAgents := by
  have h0 : Kept pumpedParts ichCounts s { s with agentq := [] } := (Kept.refl _ _ s).setAgentq (by simp [pumpedParts]) _
  refine h0.trans (Kept.foldl (fun u x => ?_) _ _)
  have hone : Kept pumpedParts ichCounts u (u.agentAccess x).1 := (u.agentAccess_kept x).widen (by simp +contextual [pumpedParts]) (fun _ h => h)
  dsimp only
  split
  · exact hone
  · exact hone.setAgentq (by simp [pumpedParts]) _

theorem State.pumpAgents_quiet (s : State) (p : Nat) : QuietKept p s s.pumpAgents := by
  have h0 : QuietKept p s { s with agentq := [] } := fun _ => rfl
  refine h0.trans (QuietKept.foldl (fun u x => ?_) _ _)
  have hone : QuietKept p u (u.agentAccess x).1 := u.agentAccess_quiet p x
  dsimp only
  split
  · exact hone
  · exact hone

/-! ### Waiting device-side writes -/

/-- The oldest waiting write of a port leaves its queue and is made. -/
def State.writeMade (s : State) (p : Nat) (w : DevWrite) (ws : List DevWrite) : State :=
  let s := (s.updPort p (fun h => { h with devq := ws })).putWin p w.off w.bytes
  match w.irq with
  | some v => s.irq p v
  | none => s

theorem State.writeMade_kept (s : State) (p : Nat) (w : DevWrite) (ws : List DevWrite) : Kept agentParts ichCounts s (s.writeMade p w ws) := by
  have h : Kept agentParts ichCounts s ((s.updPort p (fun h => { h with devq := ws })).putWin p w.off w.bytes) :=
    ((Kept.refl _ _ s).updPortAll (by simp [agentParts]) (by simp [agentParts]) p _).trans
      ((State.ddrWrite_kept _ _ _).widen (by simp [agentParts]) (fun _ h => h))
  unfold State.writeMade
  dsimp only
  split
  · exact h.irq (by simp [agentParts]) (by simp [agentParts])
  · exact h

theorem State.writeMade_quiet (s : State) (p q : Nat) (w : DevWrite) (ws : List DevWrite) : QuietKept p s (s.writeMade q w ws) := by
  have h : QuietKept p s ((s.updPort q (fun h => { h with devq := ws })).putWin q w.off w.bytes) :=
    (s.updPort_quiet p q (f := fun h => { h with devq := ws }) fun _ => rfl).trans (State.ddrWrite_quiet _ _ _)
  unfold State.writeMade
  dsimp only
  split
  · exact h.trans (((Kept.refl [.out, .irqPend] [] _).irq (by simp) (by simp)).quiet (by simp) p)
  · exact h

theorem State.pumpWrites_succ (s : State) (p n : Nat) : s.pumpWrites p (n + 1) = match (s.port p).devq with
    | [] => s
    | w :: ws => if (linesIn w.off w.bytes.length).any (s.tracked p) then (linesIn w.off w.bytes.length).foldl (fun s l => s.snoop p true l) s
      else (s.writeMade p w ws).pumpWrites p n := rfl

theorem State.pumpWrites_kept (p : Nat) : ∀ (n : Nat) (s : State), Kept agentParts ichCounts s (s.pumpWrites p n)
  | 0, s => Kept.refl _ _ s
  | n + 1, s => by
    rw [State.pumpWrites_succ]
    split
    · exact Kept.refl _ _ s
    · split
      · exact Kept.foldl (fun u l => u.snoop_kept p true l) _ s
      · exact (s.writeMade_kept p _ _).trans (State.pumpWrites_kept p n _)

theorem State.pumpWrites_quiet (p q : Nat) : ∀ (n : Nat) (s : State), QuietKept p s (s.pumpWrites q n)
  | 0, s => QuietKept.refl p s
  | n + 1, s => by
    rw [State.pumpWrites_succ]
    split
    · exact QuietKept.refl p s
    · split
      · exact QuietKept.foldl (fun u l => u.snoop_quiet p q true l) _ s
      · exact (s.writeMade_quiet p q _ _).trans (State.pumpWrites_quiet p q n _)

end Sys2Proof.Machine
end

section
/-! A port-reach reset (R70-R72): what it leaves of the port, its controller and its link. -/

namespace Sys2Proof.Machine

variable {ps : List Part} {fs : List Fld} {s t u : State} {p q : Nat} {src : PortSrc} {pin : Bool}

/-! ### A window reset begins (R102) -/

theorem Kept.recordMsOf (h : Kept ps fs s t) {c v : Nat} {is : List Nat} (hp : ∀ p ∈ logParts, p ∈ ps) (hf : ∀ f ∈ logFlds, f ∈ fs) :
    Kept ps fs s (t.recordMsOf c v is) := h.recordGap hp fun f m => List.mem_map_of_mem (hf f m)

/-- What a window reset can change. -/
def winParts : List Part := [.wins, .ports] ++ dropParts ++ logParts
def winFlds (p : Nat) : List Fld := [F.GRT_WIN_STS_RESETTING p, F.GRT_WIN_STS_READY p, F.HST_LINK_STS_MEM_ON p] ++ logFlds

/-- The reset's bits show, it is recorded, and the commands of the window's rings are dropped. -/
def State.winDropped (s : State) (p : Nat) : State :=
  (((s.setb (F.GRT_WIN_STS_RESETTING p) true).setb (F.GRT_WIN_STS_READY p) false).recordMsOf 0x0713 p (w1 p)).dropFetched (fun c => c.ring && c.port == p)

theorem State.winReset_eq {byPort : Bool} (h : (s.win p).slots ≠ 0) : s.winReset p byPort =
    (((s.winDropped p).updWin p (fun w => { w with byReset := byPort, writeFail := [], doneq := [] })).updPort p (fun h => { h with clean := [] })).showMem p := by
  simp only [State.winReset, beq_iff_eq, h, if_false]
  rfl

theorem State.winDropped_kept (s : State) (p : Nat) : Kept (dropParts ++ logParts) (winFlds p) s (s.winDropped p) := by
  have h := (((Kept.refl (dropParts ++ logParts) (winFlds p) s).setb (f := F.GRT_WIN_STS_RESETTING p) (b := true) (by simp [winFlds])).setb
    (f := F.GRT_WIN_STS_READY p) (b := false) (by simp [winFlds])).recordMsOf (c := 0x0713) (v := p) (is := w1 p) (by simp +contextual)
    (by simp +contextual [winFlds])
  exact h.trans ((State.dropFetched_kept _ _).widen (by simp +contextual) (by simp))

theorem State.winDropped_ctrl (s : State) (p q : Nat) : (s.winDropped p).ctrl q = s.ctrl q := by
  have hrec : Kept logParts (winFlds p) s (((s.setb (F.GRT_WIN_STS_RESETTING p) true).setb (F.GRT_WIN_STS_READY p) false).recordMsOf 0x0713 p (w1 p)) :=
    ((((Kept.refl logParts (winFlds p) s).setb (by simp [winFlds])).setb (by simp [winFlds])).recordMsOf (fun _ h => h) (by simp +contextual [winFlds]))
  rw [State.winDropped, State.dropFetched_ctrl, State.ctrl, State.ctrl, hrec.bel_eq (by decide)]

/-- MEM_ON follows a reset: the window's own begins where a window is laid out. -/
def State.memReset (s : State) (p : Nat) : State := if (s.win p).slots != 0 then s.winReset p true else s.showMem p

theorem State.memReset_kept (s : State) (p : Nat) : Kept winParts (winFlds p) s (s.memReset p) := by
  unfold State.memReset
  split
  · next h =>
    rw [State.winReset_eq (by simpa using h)]
    exact ((((s.winDropped_kept p).widen (by simp +contextual [winParts]) (fun _ h => h)).updWin (by simp [winParts]) p _).updPort
      (f := fun h => { h with clean := [] }) (by simp [winParts]) p fun _ => rfl).trans ((State.showMem_kept _ p).widen (by simp) (by simp [winFlds]))
  · exact (s.showMem_kept p).widen (by simp) (by simp [winFlds])

theorem State.memReset_ctrl (s : State) (p q : Nat) : (s.memReset p).ctrl q = s.ctrl q := by
  unfold State.memReset
  split
  · next h =>
    rw [State.winReset_eq (by simpa using h)]
    exact s.winDropped_ctrl p q
  · rfl

theorem State.memReset_core (s : State) (p : Nat) : ((s.memReset p).port p).core = (s.port p).core := by
  unfold State.memReset
  split
  · next h =>
    rw [State.winReset_eq (by simpa using h), State.showMem_port, State.updPort_port]
    have hdrop := congrArg HostPort.core ((s.winDropped_kept p).port_eq (by decide) p)
    exact hdrop
  · rfl

theorem State.getb_memReset (h : (s.port p).memNeg = false) : (s.memReset p).getb (F.HST_LINK_STS_MEM_ON p) = false := by
  unfold State.memReset
  split
  · next hs =>
    rw [State.winReset_eq (by simpa using hs), State.getb_showMem, State.updPort_port]
    have hneg : ((s.winDropped p).port p).memNeg = (s.port p).memNeg :=
      (congrArg HostPort.memNeg ((s.winDropped_kept p).port_eq (by decide) p) :)
    have hneg' : (((s.winDropped p).updWin p (fun w => { w with byReset := true, writeFail := [], doneq := [] })).port p).memNeg = false := hneg.trans h
    simp only [hneg', Bool.false_and]
  · rw [State.getb_showMem, h, Bool.false_and, Bool.false_and]

/-! ### The link is down -/

def linkFlds (p : Nat) : List Fld :=
  [F.HST_LINK_STS_LTSSM p, F.HST_LINK_STS_RATE p, F.HST_LINK_STS_WIDTH p, F.HST_LINK_STS_FLIT p, F.HST_LINK_STS_DL_UP p, F.HST_LINK_STS_IDE_SEC p]

theorem State.linkOff_kept (s : State) (p : Nat) : Kept [] (linkFlds p) s (s.linkOff p) :=
  ((((((Kept.refl _ _ s).set (by simp [linkFlds])).set (by simp [linkFlds])).set (by simp [linkFlds])).set (by simp [linkFlds])).setb
    (by simp [linkFlds])).setb (by simp [linkFlds])

theorem State.getb_linkOff (s : State) (p : Nat) :
    (s.linkOff p).getb (F.HST_LINK_STS_DL_UP p) = false ∧ (s.linkOff p).getb (F.HST_LINK_STS_IDE_SEC p) = false := by
  refine ⟨?_, State.getb_setb_same (f := F.HST_LINK_STS_IDE_SEC p) (b := false) Nat.one_pos⟩
  refine (congrArg (· != 0) (State.get_setb_other ?_)).trans (State.getb_setb_same (f := F.HST_LINK_STS_DL_UP p) (b := false) Nat.one_pos)
  simp [Fld.key, F.HST_LINK_STS_DL_UP, F.HST_LINK_STS_IDE_SEC]

/-- The controller is clear and the link is down. -/
def State.resetBegun (s : State) (p : Nat) : State :=
  let s := if (s.port p).rst.isEmpty then s.record 0x0625 (w1 p) else s
  let s := if p == 0 then s.ptmLost else s
  ((s.dropFetched (fun c => c.port == p)).clearCtrl p).linkOff p

def begunParts : List Part := dropParts ++ logParts
def begunFlds (p : Nat) : List Fld := linkFlds p ++ ptmFlds

theorem State.resetBegun_kept (s : State) (p : Nat) : Kept begunParts (begunFlds p) s (s.resetBegun p) := by
  have hrec : Kept begunParts (begunFlds p) s (if (s.port p).rst.isEmpty then s.record 0x0625 (w1 p) else s) := by
    split
    · exact (s.record_kept _ _).widen (by simp +contextual [begunParts]) (by simp +contextual [begunFlds, ptmFlds])
    · exact Kept.refl _ _ s
  unfold State.resetBegun
  dsimp only
  generalize (if (s.port p).rst.isEmpty then s.record 0x0625 (w1 p) else s) = u at hrec
  have hptm : Kept begunParts (begunFlds p) s (if p == 0 then u.ptmLost else u) := by
    split
    · exact hrec.trans (u.ptmLost_kept.widen (by simp +contextual [begunParts]) (by simp +contextual [begunFlds]))
    · exact hrec
  generalize (if p == 0 then u.ptmLost else u) = v at hptm
  exact ((hptm.trans ((v.dropFetched_kept _).widen (by simp +contextual [begunParts]) (by simp))).trans
    ((State.clearCtrl_kept _ p).widen (by simp [begunParts, dropParts]) (by simp))).trans
    ((State.linkOff_kept _ p).widen (by simp) (by simp +contextual [begunFlds]))

theorem State.resetBegun_down (s : State) (p : Nat) :
    (s.resetBegun p).getb (F.HST_LINK_STS_DL_UP p) = false ∧ (s.resetBegun p).getb (F.HST_LINK_STS_IDE_SEC p) = false := State.getb_linkOff _ p

/-- The controller of a port is disabled and has no queue. -/
def CtrlCleared (p : Nat) (s : State) : Prop := (s.ctrl p).en = false ∧ (s.ctrl p).rdy = false ∧ (s.ctrl p).sqs = [] ∧ (s.ctrl p).cqs = []

theorem State.clearCtrl_cleared (s : State) (p : Nat) : CtrlCleared p (s.clearCtrl p) := by
  unfold CtrlCleared
  rw [State.clearCtrl_ctrl]
  exact ⟨rfl, rfl, rfl, rfl⟩

theorem CtrlCleared.of_ctrl_eq (h : CtrlCleared p s) (he : t.ctrl p = s.ctrl p) : CtrlCleared p t := by
  unfold CtrlCleared
  rw [he]
  exact h

theorem Kept.ctrl_eq (h : Kept ps fs s t) (hp : Part.bel ∉ ps) (p : Nat) : t.ctrl p = s.ctrl p := by rw [State.ctrl, State.ctrl, h.bel_eq hp]

theorem State.resetBegun_cleared (s : State) (p : Nat) : CtrlCleared p (s.resetBegun p) :=
  (State.clearCtrl_cleared _ p).of_ctrl_eq ((State.linkOff_kept _ p).ctrl_eq (by simp) p)

/-! ### The port is reset -/

/-- What a reset leaves of a port's own state; a pin source holds it. -/
def HostPort.reset (h : HostPort) (src : PortSrc) (pin : Bool) (at_ : Nat) : HostPort :=
  { h with
    cxl := false, memNeg := false, cacheNeg := false, committed := false, commitErr := false
    filter := [], clean := [], snoops := [], lines := [], ideIo := false, ideMem := false, ideIoSkid := false, ideMemSkid := false, ideKeys := []
    ready := false, relAt := at_
    rst := if pin && !h.rst.contains src then src :: h.rst else h.rst }

/-- The reset's port with its configuration clear. -/
def State.resetPort (s : State) (p : Nat) (src : PortSrc) (pin : Bool) : State :=
  ((s.resetBegun p).updPort p (·.reset src pin (s.resetBegun p).cyc)).clearConfig p

/-- What waited on the host's copies has been made. -/
def State.resetPumped (s : State) (p : Nat) (src : PortSrc) (pin : Bool) : State :=
  ((s.resetPort p src pin).pumpWrites p (((s.resetBegun p).updPort p (·.reset src pin (s.resetBegun p).cyc)).port p).devq.length).pumpAgents

/-- The link trains again, or is held. -/
def State.resetTrained (s : State) (p : Nat) (src : PortSrc) (pin : Bool) : State :=
  (s.resetPumped p src pin).set (F.HST_LINK_STS_LTSSM p) ((s.resetPumped p src pin).idleLtssm p)

theorem State.portReset_eq (s : State) (p : Nat) (src : PortSrc) (pin : Bool) :
    s.portReset p src pin = (((s.resetTrained p src pin).memReset p).showHst p).showPower := rfl

/-! ### The port after its reset -/

/-- What a reset leaves in a port: its host holds no line and knows no key, nothing is configured, and `rst` holds it. -/
structure HostPort.Fresh (rst : List PortSrc) (h : HostPort) : Prop where
  filter : h.filter = []
  snoops : h.snoops = []
  lines : h.lines = []
  cxl : h.cxl = false
  memNeg : h.memNeg = false
  committed : h.committed = false
  ready : h.ready = false
  msix : h.msix = []
  msixEnable : h.msixEnable = false
  ideKeys : h.ideKeys = []
  rst : h.rst = rst

theorem HostPort.Fresh.of_core {g h : HostPort} {rst : List PortSrc} (hf : g.Fresh rst) (hc : h.core = g.core) : h.Fresh rst :=
  ⟨(congrArg HostPort.filter hc :).trans hf.filter, (congrArg HostPort.snoops hc :).trans hf.snoops, (congrArg HostPort.lines hc :).trans hf.lines,
    (congrArg HostPort.cxl hc :).trans hf.cxl, (congrArg HostPort.memNeg hc :).trans hf.memNeg, (congrArg HostPort.committed hc :).trans hf.committed,
    (congrArg HostPort.ready hc :).trans hf.ready, (congrArg HostPort.msix hc :).trans hf.msix, (congrArg HostPort.msixEnable hc :).trans hf.msixEnable,
    (congrArg HostPort.ideKeys hc :).trans hf.ideKeys, (congrArg HostPort.rst hc :).trans hf.rst⟩

/-- The sources that hold a port after its reset. -/
def heldBy (src : PortSrc) (pin : Bool) : List PortSrc := if pin then [src] else []

theorem HostPort.reset_rst {h : HostPort} (hr : h.rst = []) (src : PortSrc) (pin : Bool) (c : Nat) : (h.reset src pin c).rst = heldBy src pin := by
  cases pin <;> simp [HostPort.reset, hr, heldBy]

theorem State.resetPort_fresh (hr : (s.port p).rst = []) (src : PortSrc) (pin : Bool) : ((s.resetPort p src pin).port p).Fresh (heldBy src pin) := by
  have hrst : ((s.resetBegun p).port p).rst = [] := (congrArg HostPort.rst ((s.resetBegun_kept p).port_eq (by decide) p) :).trans hr
  rw [State.resetPort, State.clearConfig_port, State.updPort_port]
  exact ⟨rfl, rfl, rfl, rfl, rfl, rfl, rfl, rfl, rfl, rfl, HostPort.reset_rst hrst src pin (s.resetBegun p).cyc⟩

theorem State.resetPumped_fresh (hr : (s.port p).rst = []) (src : PortSrc) (pin : Bool) : ((s.resetPumped p src pin).port p).Fresh (heldBy src pin) := by
  have hfresh := State.resetPort_fresh hr src pin
  exact hfresh.of_core (((State.pumpWrites_quiet p p _ _).trans (State.pumpAgents_quiet _ p)) hfresh.filter)

theorem State.set_port (s : State) (f : Fld) (v p : Nat) : (s.set f v).port p = s.port p := rfl

theorem State.resetTrained_fresh (hr : (s.port p).rst = []) (src : PortSrc) (pin : Bool) : ((s.resetTrained p src pin).port p).Fresh (heldBy src pin) := by
  rw [State.resetTrained, State.set_port]
  exact State.resetPumped_fresh hr src pin

theorem State.portReset_fresh (hp : p < 2) (hr : (s.port p).rst = []) (src : PortSrc) (pin : Bool) :
    ((s.portReset p src pin).port p).Fresh (heldBy src pin) := by
  have hfresh := State.resetTrained_fresh hr src pin
  have hmem := hfresh.of_core (State.memReset_core (s.resetTrained p src pin) p)
  have hshow : QuietKept p ((s.resetTrained p src pin).memReset p) (s.portReset p src pin) :=
    State.portReset_eq s p src pin ▸ ((State.showHst_kept hp).quiet (by decide) p).trans ((State.showPower_kept _).quiet (by decide) p)
  exact hmem.of_core (hshow hmem.filter)

/-! ### What each step of a reset leaves as it was -/

theorem State.resetPort_kept (s : State) (p : Nat) (src : PortSrc) (pin : Bool) :
    Kept configParts (configFlds p) (s.resetBegun p) (s.resetPort p src pin) :=
  ((Kept.refl _ _ _).updPort (f := (·.reset src pin (s.resetBegun p).cyc)) (by simp [configParts]) p fun _ => rfl).trans (State.clearConfig_kept _ p)

theorem State.resetPumped_kept (s : State) (p : Nat) (src : PortSrc) (pin : Bool) :
    Kept pumpedParts ichCounts (s.resetPort p src pin) (s.resetPumped p src pin) :=
  ((State.pumpWrites_kept p _ _).widen (by simp +contextual [pumpedParts]) (fun _ h => h)).trans (State.pumpAgents_kept _)

theorem State.resetTrained_kept (s : State) (p : Nat) (src : PortSrc) (pin : Bool) :
    Kept pumpedParts (F.HST_LINK_STS_LTSSM p :: ichCounts) (s.resetPort p src pin) (s.resetTrained p src pin) :=
  ((s.resetPumped_kept p src pin).widen (fun _ h => h) (by simp +contextual)).set (by simp)

/-- What showing the degraded bit and the power state can change. -/
def shownParts : List Part := hstParts ++ powerParts
def shownFlds : List Fld := hstFlds ++ powerFlds

theorem State.shown_kept (hp : p < 2) : Kept shownParts shownFlds s (s.showHst p).showPower :=
  ((State.showHst_kept hp).widen (by simp +contextual [shownParts]) (by simp +contextual [shownFlds])).trans
    ((State.showPower_kept _).widen (by simp +contextual [shownParts]) (by simp +contextual [shownFlds]))

def endParts : List Part := winParts ++ shownParts
def endFlds (p : Nat) : List Fld := winFlds p ++ shownFlds

theorem State.portReset_kept_end (hp : p < 2) (src : PortSrc) (pin : Bool) :
    Kept endParts (endFlds p) (s.resetTrained p src pin) (s.portReset p src pin) := by
  rw [State.portReset_eq]
  exact ((State.memReset_kept _ p).widen (by simp +contextual [endParts]) (by simp +contextual [endFlds])).trans
    ((State.shown_kept hp).widen (by simp +contextual [endParts]) (by simp +contextual [endFlds]))

/-- What a reset can change once the link is down. -/
def laterFlds (p : Nat) : List Fld := configFlds p ++ F.HST_LINK_STS_LTSSM p :: ichCounts ++ endFlds p
def laterParts : List Part := configParts ++ pumpedParts ++ endParts

theorem State.portReset_kept_later (hp : p < 2) (src : PortSrc) (pin : Bool) :
    Kept laterParts (laterFlds p) (s.resetBegun p) (s.portReset p src pin) :=
  (((s.resetPort_kept p src pin).widen (by simp +contextual [laterParts]) (by simp +contextual [laterFlds])).trans
    ((s.resetTrained_kept p src pin).widen (by simp +contextual [laterParts]) (by simp +contextual [laterFlds, or_imp]))).trans
    ((State.portReset_kept_end hp src pin).widen (by simp +contextual [laterParts]) (by simp +contextual [laterFlds]))

theorem State.portReset_kept (hp : p < 2) (src : PortSrc) (pin : Bool) :
    Kept (begunParts ++ laterParts) (begunFlds p ++ laterFlds p) s (s.portReset p src pin) :=
  ((s.resetBegun_kept p).widen (by simp +contextual) (by simp +contextual)).trans
    ((State.portReset_kept_later hp src pin).widen (by simp +contextual) (by simp +contextual))

/-! ### The link and the controller after a reset -/

theorem State.resetPumped_idle (hp : p < 2) (hr : (s.port p).rst = []) (src : PortSrc) (pin : Bool) :
    (s.resetPumped p src pin).idleLtssm p = if pin then 0 else s.idleLtssm p := by
  have hfresh := State.resetPumped_fresh hr src pin
  cases pin with
  | true => simp [State.idleLtssm, hfresh.rst, heldBy]
  | false =>
    have hk : Kept (begunParts ++ configParts ++ pumpedParts) (begunFlds p ++ configFlds p ++ ichCounts) s (s.resetPumped p src false) :=
      (((s.resetBegun_kept p).widen (by simp +contextual) (by simp +contextual)).trans
        ((s.resetPort_kept p src false).widen (by simp +contextual) (by simp +contextual))).trans
        ((s.resetPumped_kept p src false).widen (by simp +contextual) (by simp +contextual))
    rw [if_neg (by simp)]
    refine State.idleLtssm_congr (hfresh.rst.trans hr.symm) ?_ (hk.get_eq ?_) (hk.get_eq ?_) (hk.2.1 .kdl (by decide))
    · rw [State.released, State.released, State.bitOf, State.bitOf, hk.get_eq]
      rcases eq_zero_or_one hp with rfl | rfl <;> decide
    · rcases eq_zero_or_one hp with rfl | rfl <;> decide
    · rcases eq_zero_or_one hp with rfl | rfl <;> decide

theorem State.idleLtssm_le (s : State) (p : Nat) : s.idleLtssm p ≤ 1 := by
  unfold State.idleLtssm
  split <;> simp

theorem State.get_resetTrained (hp : p < 2) (hr : (s.port p).rst = []) (src : PortSrc) (pin : Bool) :
    (s.resetTrained p src pin).get (F.HST_LINK_STS_LTSSM p) = if pin then 0 else s.idleLtssm p := by
  have hle := (s.resetPumped p src pin).idleLtssm_le p
  rw [State.resetTrained, State.get_set_same, ← State.resetPumped_idle hp hr]
  exact Nat.mod_eq_of_lt (show _ < 16 by omega)

theorem State.portReset_ctrl (hp : p < 2) (s : State) (src : PortSrc) (pin : Bool) : CtrlCleared p (s.portReset p src pin) := by
  have htrained : (s.resetTrained p src pin).ctrl p = (s.resetBegun p).ctrl p :=
    ((s.resetTrained_kept p src pin).ctrl_eq (by decide) p).trans ((s.resetPort_kept p src pin).ctrl_eq (by simp [configParts, logParts]) p)
  have hend : (s.portReset p src pin).ctrl p = (s.resetTrained p src pin).ctrl p :=
    State.portReset_eq s p src pin ▸ ((State.shown_kept hp).ctrl_eq (by decide) p).trans (State.memReset_ctrl _ p p)
  exact (s.resetBegun_cleared p).of_ctrl_eq (hend.trans htrained)

theorem portWasReset (hp : p < 2) (hr : (s.port p).rst = []) (src : PortSrc) (pin : Bool) :
    PortWasReset p (if pin then 0 else s.idleLtssm p) (s.portReset p src pin) := by
  have hfresh := State.portReset_fresh hp hr src pin
  obtain ⟨hen, hrdy, hsqs, -⟩ := State.portReset_ctrl hp s src pin
  have hlater := State.portReset_kept_later (s := s) hp src pin
  have hend := State.portReset_kept_end (s := s) hp src pin
  have htrained := s.resetTrained_kept p src pin
  obtain ⟨hdl, hsec⟩ := s.resetBegun_down p
  refine ⟨(hlater.getb_eq ?_).trans hdl, (hend.get_eq ?_).trans (State.get_resetTrained hp hr src pin),
    (hend.getb_eq ?_).trans ((htrained.getb_eq ?_).trans (State.getb_clearConfig _ p)),
    ((State.shown_kept hp).getb_eq ?_).trans (State.getb_memReset (State.resetTrained_fresh hr src pin).memNeg), hfresh.filter, hfresh.snoops, hfresh.lines,
    hfresh.cxl, hfresh.committed, hfresh.ready, hfresh.msix, hfresh.msixEnable, hfresh.ideKeys, (hlater.getb_eq ?_).trans hsec, hen, hrdy, hsqs⟩
  all_goals rcases eq_zero_or_one hp with rfl | rfl <;> decide

end Sys2Proof.Machine
end

section
/-! Links come up, recover, sleep and are made ready (R40-R44, R54, R55, R65-R69, R75). -/

namespace Sys2Proof.Machine

variable {ps : List Part} {fs : List Fld} {s t u : State} {p q rate width flit : Nat}

theorem State.linkL0_iff : s.linkL0 p = true ↔ s.get (F.HST_LINK_STS_LTSSM p) = 3 := by simp [State.linkL0]

/-! ### DOWNTRAIN (R40) -/

theorem State.downtrain_full (hr : s.get (F.HST_LINK_STS_RATE p) = 6) (hw : s.get (F.HST_LINK_STS_WIDTH p) = 16) : s.downtrain p = s := by
  simp [State.downtrain, hr, hw]

theorem State.downtrain_less (h : s.get (F.HST_LINK_STS_RATE p) ≠ 6 ∨ s.get (F.HST_LINK_STS_WIDTH p) ≠ 16) :
    s.downtrain p = s.hstErr p F.HST_ERR_DOWNTRAIN (some 0x0621) := by
  have hno : (s.get (F.HST_LINK_STS_RATE p) == 6 && s.get (F.HST_LINK_STS_WIDTH p) == 16) = false := by
    rcases h with h | h <;> simp [h]
  simp only [State.downtrain, hno, Bool.false_eq_true, if_false]

theorem downtrain_apart (hp : p < 2) : 0 < (F.HST_ERR_DOWNTRAIN p).width ∧ (F.HST_ERR_DOWNTRAIN p).key ∉ logFlds.map Fld.key := by
  rcases eq_zero_or_one hp with rfl | rfl <;> decide

theorem State.getb_downtrain (hp : p < 2) (h : s.get (F.HST_LINK_STS_RATE p) ≠ 6 ∨ s.get (F.HST_LINK_STS_WIDTH p) ≠ 16) :
    (s.downtrain p).getb (F.HST_ERR_DOWNTRAIN p) = true := by
  obtain ⟨hw, hk⟩ := downtrain_apart hp
  rw [State.downtrain_less h]
  exact State.getb_hstErr hw hk

/-! ### Rate and width -/

/-- A port's rate and width are set. -/
def State.laneSet (s : State) (p rate width : Nat) : State := (s.set (F.HST_LINK_STS_RATE p) rate).set (F.HST_LINK_STS_WIDTH p) width

theorem State.laneSet_kept (s : State) (p rate width : Nat) : Kept [] [F.HST_LINK_STS_RATE p, F.HST_LINK_STS_WIDTH p] s (s.laneSet p rate width) :=
  ((Kept.refl _ _ s).set (by simp)).set (by simp)

theorem width_lt (h : width ∈ [1, 2, 4, 8, 16]) : width < 32 := by
  simp only [List.mem_cons, List.not_mem_nil, or_false] at h
  omega

theorem State.get_laneSet (s : State) (p : Nat) (hr : rate < 8) (hw : width ∈ [1, 2, 4, 8, 16]) :
    (s.laneSet p rate width).get (F.HST_LINK_STS_RATE p) = rate ∧ (s.laneSet p rate width).get (F.HST_LINK_STS_WIDTH p) = width := by
  refine ⟨(State.get_set_other _ _ _ _ ?_).trans ?_, ?_⟩
  · simp [Fld.key, F.HST_LINK_STS_RATE, F.HST_LINK_STS_WIDTH]
  · exact (State.get_set_same _ _ _).trans (Nat.mod_eq_of_lt hr)
  · exact (State.get_set_same _ _ _).trans (Nat.mod_eq_of_lt (width_lt hw))

/-- The rate and the width are those the link had. -/
def State.sameLanes (s : State) (p rate width : Nat) : Bool := s.get (F.HST_LINK_STS_RATE p) == rate && s.get (F.HST_LINK_STS_WIDTH p) == width

/-! ### Training (R40-R42) -/

theorem State.linkResume_eq (s : State) (p rate width : Nat) : s.linkResume p rate width =
    ((if s.sameLanes p rate width then (s.set (F.HST_LINK_STS_LTSSM p) 3).laneSet p rate width
      else ((s.set (F.HST_LINK_STS_LTSSM p) 3).laneSet p rate width).downtrain p).showHst p).linkPower p := rfl

/-- A port in L0 with its flit mode. -/
def State.linkTrained (s : State) (p rate width flit : Nat) : State :=
  (((s.set (F.HST_LINK_STS_LTSSM p) 3).laneSet p rate width).set (F.HST_LINK_STS_FLIT p) flit).setb (F.HST_LINK_STS_DL_UP p) true

/-- What a port negotiated with its host: `size` is its window's, `en` says the window is enabled. -/
def HostPort.negotiated (h : HostPort) (flit size : Nat) (en : Bool) : HostPort :=
  let cxl := flit != 3
  let capable := if cxl then size != 0 && en else h.memCapable
  { h with cxl, cacheNeg := cxl, memCapable := capable, memNeg := cxl && flit != 0 && capable, range1 := if cxl then size else h.range1 }

/-- What a trained link shows. -/
def State.linkShown (s : State) (p : Nat) : State := ((((s.downtrain p).showCache p).showMem p).showHst p).linkPower p

/-- The size of the window a port offers its host. -/
def State.windowSize (s : State) (p : Nat) : Nat := min 128 (s.get (F.GRT_WIN_CFG_SIZE p)) * 2 ^ 28

theorem State.windowSize_ne_zero : s.windowSize p ≠ 0 ↔ s.get (F.GRT_WIN_CFG_SIZE p) ≠ 0 := by
  unfold State.windowSize
  omega

theorem HostPort.negotiated_cxl (h : HostPort) (flit size : Nat) (en : Bool) : (h.negotiated flit size en).cxl = decide (flit ≠ 3) := by
  simp [HostPort.negotiated, bne, BEq.beq]

/-- CXL.mem takes 256-byte flits and an enabled window (R41, R48). -/
theorem HostPort.negotiated_memNeg (h : HostPort) (hf : flit < 4) (size : Nat) (en : Bool) :
    (h.negotiated flit size en).memNeg = true ↔ (flit = 1 ∨ flit = 2) ∧ size ≠ 0 ∧ en = true := by
  have hcases : flit = 0 ∨ flit = 1 ∨ flit = 2 ∨ flit = 3 := by omega
  rcases hcases with rfl | rfl | rfl | rfl <;> simp [HostPort.negotiated]

theorem exec_hostLinkUp (h0 : 0 < rate) (hw : width ∈ [1, 2, 4, 8, 16]) (hi : s.idleLtssm p = 1) (hl : s.linkL0 p = false) :
    exec (.hostLinkUp p rate width flit) s = .next (if s.get (F.HST_LINK_STS_LTSSM p) == 5 then s.linkResume p rate width else
      ((s.linkTrained p rate width flit).updPort p
        (·.negotiated flit (s.windowSize p) ((s.linkTrained p rate width flit).getb (F.HST_CTL_WIN_EN p)))).linkShown p) := by
  have hlanes : laneWidths.contains width = true := List.contains_iff_mem.mpr hw
  simp only [exec, execHostLinkUp, hi, hl, hlanes, beq_iff_eq, Nat.one_ne_zero, Nat.ne_of_gt h0, Bool.or_false, Bool.not_true, Bool.or_eq_true, or_false,
    if_false]
  rfl

/-- What showing a trained link can change. -/
def trainedParts : List Part := [.ports, .out] ++ shownParts
def trainedFlds (p : Nat) : List Fld := [F.HST_LINK_STS_CACHE_ON p, F.HST_LINK_STS_MEM_ON p] ++ shownFlds

theorem State.linkShown_kept_rest (hp : p < 2) : Kept trainedParts (trainedFlds p) (s.downtrain p) (s.linkShown p) := by
  unfold State.linkShown
  generalize s.downtrain p = u
  exact ((((u.showCache_kept p).widen (by simp [trainedParts]) (by simp [trainedFlds])).trans
    ((State.showMem_kept _ p).widen (by simp) (by simp [trainedFlds]))).trans
    ((State.showHst_kept hp).widen (by simp +contextual [trainedParts, shownParts]) (by simp +contextual [trainedFlds, shownFlds]))).trans
    ((State.linkPower_kept _ p).widen (by simp +contextual [trainedParts, shownParts]) (by simp +contextual [trainedFlds, shownFlds]))

theorem State.linkShown_kept (hp : p < 2) : Kept trainedParts (F.HST_ERR_DOWNTRAIN p :: trainedFlds p) s (s.linkShown p) :=
  ((s.downtrain_kept p).widen (by simp +contextual [trainedParts, shownParts, hstParts])
    (by simp +contextual [trainedFlds, shownFlds, hstFlds])).trans ((State.linkShown_kept_rest hp).widen (fun _ h => h) (by simp +contextual))

/-- A port without the queue lines its device cache holds and its pending vectors. -/
def HostPort.bare (h : HostPort) : HostPort := { h with lines := [], msixPend := [] }

theorem HostPort.of_bare_eq {g h : HostPort} (e : g.bare = h.bare) : g.cxl = h.cxl ∧ g.memNeg = h.memNeg ∧ g.range1 = h.range1 :=
  ⟨(congrArg HostPort.cxl e :), (congrArg HostPort.memNeg e :), (congrArg HostPort.range1 e :)⟩

theorem Kept.port_bare (h : Kept ps fs s t) (hp : Part.ports ∉ ps) (q : Nat) : (t.port q).bare = (s.port q).bare :=
  (congrArg HostPort.bare (h.port_eq hp q) :)

theorem State.linkShown_port (hp : p < 2) : ((s.linkShown p).port p).bare = (s.port p).bare := by
  have hend : ((s.linkShown p).port p).bare = ((s.downtrain p).showCache p |>.port p).bare :=
    (((State.showHst_kept hp).widen (qs := shownParts) (gs := shownFlds) (by simp +contextual [shownParts]) (by simp +contextual [shownFlds])).trans
      ((State.linkPower_kept _ p).widen (by simp +contextual [shownParts]) (by simp +contextual [shownFlds]))).port_bare (by decide) p
  rw [hend, State.showCache_port]
  exact (s.downtrain_kept p).port_bare (by decide) p

/-- Out of L1 or L2 a link only resumes. -/
theorem State.linkResume_resumes (hp : p < 2) (hr : rate < 8) (hw : width ∈ [1, 2, 4, 8, 16]) :
    (s.linkResume p rate width).get (F.HST_LINK_STS_LTSSM p) = 3 ∧ (s.linkResume p rate width).get (F.HST_LINK_STS_RATE p) = rate ∧
    (s.linkResume p rate width).get (F.HST_LINK_STS_WIDTH p) = width ∧
    (s.linkResume p rate width).port p = { s.port p with msixPend := ((s.linkResume p rate width).port p).msixPend } ∧
    (s.get (F.HST_LINK_STS_RATE p) = rate → s.get (F.HST_LINK_STS_WIDTH p) = width →
      (s.linkResume p rate width).getb (F.HST_ERR_DOWNTRAIN p) = s.getb (F.HST_ERR_DOWNTRAIN p)) := by
  have hset : Kept [] [F.HST_LINK_STS_LTSSM p] s (s.set (F.HST_LINK_STS_LTSSM p) 3) := (Kept.refl _ _ s).set (by simp)
  have hlane := (s.set (F.HST_LINK_STS_LTSSM p) 3).laneSet_kept p rate width
  have hget : (s.set (F.HST_LINK_STS_LTSSM p) 3).get (F.HST_LINK_STS_LTSSM p) = 3 := (State.get_set_same _ _ _).trans rfl
  obtain ⟨hrate, hwidth⟩ := (s.set (F.HST_LINK_STS_LTSSM p) 3).get_laneSet p hr hw
  rw [State.linkResume_eq]
  generalize (s.set (F.HST_LINK_STS_LTSSM p) 3) = v at hset hlane hget hrate hwidth
  generalize v.laneSet p rate width = w at hlane hrate hwidth
  have hshown : ∀ u : State, Kept shownParts shownFlds u ((u.showHst p).linkPower p) := fun u =>
    ((State.showHst_kept hp).widen (by simp +contextual [shownParts]) (by simp +contextual [shownFlds])).trans
      ((State.linkPower_kept _ p).widen (by simp +contextual [shownParts]) (by simp +contextual [shownFlds]))
  have hend : Kept shownParts (F.HST_ERR_DOWNTRAIN p :: shownFlds) w
      (((if s.sameLanes p rate width then w else w.downtrain p).showHst p).linkPower p) := by
    refine Kept.trans (t := if s.sameLanes p rate width then w else w.downtrain p) ?_ ((hshown _).widen (fun _ h => h) (by simp +contextual))
    split
    · exact Kept.refl _ _ w
    · exact (w.downtrain_kept p).widen (by simp +contextual [shownParts, hstParts]) (by simp +contextual [shownFlds, hstFlds])
  refine ⟨(hend.get_eq ?_).trans ((hlane.get_eq ?_).trans hget), (hend.get_eq ?_).trans hrate, (hend.get_eq ?_).trans hwidth, ?_, fun h1 h2 => ?_⟩
  · rcases eq_zero_or_one hp with rfl | rfl <;> decide
  · rcases eq_zero_or_one hp with rfl | rfl <;> decide
  · rcases eq_zero_or_one hp with rfl | rfl <;> decide
  · rcases eq_zero_or_one hp with rfl | rfl <;> decide
  · have hport := (hend.port_eq (by decide) p).trans ((hlane.port_eq (by simp) p).trans (hset.port_eq (by simp) p))
    generalize (((if s.sameLanes p rate width then w else w.downtrain p).showHst p).linkPower p).port p = k at hport ⊢
    have hk := congrArg (fun h : HostPort => { h with msixPend := k.msixPend }) hport
    exact hk
  · have hsame : s.sameLanes p rate width = true := by simp [State.sameLanes, h1, h2]
    rw [hsame, if_pos rfl, (hshown w).getb_eq, hlane.getb_eq, hset.getb_eq]
    all_goals rcases eq_zero_or_one hp with rfl | rfl <;> decide

theorem State.get_linkTrained (hp : p < 2) (hr : rate < 8) (hw : width ∈ [1, 2, 4, 8, 16]) (hf : flit < 4) :
    (s.linkTrained p rate width flit).get (F.HST_LINK_STS_LTSSM p) = 3 ∧ (s.linkTrained p rate width flit).get (F.HST_LINK_STS_RATE p) = rate ∧
    (s.linkTrained p rate width flit).get (F.HST_LINK_STS_WIDTH p) = width ∧ (s.linkTrained p rate width flit).get (F.HST_LINK_STS_FLIT p) = flit ∧
    (s.linkTrained p rate width flit).getb (F.HST_LINK_STS_DL_UP p) = true := by
  have hltssm : (s.set (F.HST_LINK_STS_LTSSM p) 3).get (F.HST_LINK_STS_LTSSM p) = 3 := (State.get_set_same _ _ _).trans rfl
  have hlane := (s.set (F.HST_LINK_STS_LTSSM p) 3).laneSet_kept p rate width
  obtain ⟨hrate, hwidth⟩ := (s.set (F.HST_LINK_STS_LTSSM p) 3).get_laneSet p hr hw
  unfold State.linkTrained
  generalize (s.set (F.HST_LINK_STS_LTSSM p) 3).laneSet p rate width = v at hlane hrate hwidth
  have hset : Kept [] [F.HST_LINK_STS_FLIT p, F.HST_LINK_STS_DL_UP p] v ((v.set (F.HST_LINK_STS_FLIT p) flit).setb (F.HST_LINK_STS_DL_UP p) true) :=
    ((Kept.refl _ _ v).set (by simp)).setb (by simp)
  refine ⟨(hset.get_eq ?_).trans ((hlane.get_eq ?_).trans hltssm), (hset.get_eq ?_).trans hrate, (hset.get_eq ?_).trans hwidth,
    (State.get_setb_other ?_).trans ((State.get_set_same _ _ _).trans (Nat.mod_eq_of_lt hf)),
    State.getb_setb_same (f := F.HST_LINK_STS_DL_UP p) (b := true) Nat.one_pos⟩
  all_goals rcases eq_zero_or_one hp with rfl | rfl <;> decide

theorem State.linkTrained_kept (s : State) (p rate width flit : Nat) : Kept [] [F.HST_LINK_STS_LTSSM p, F.HST_LINK_STS_RATE p, F.HST_LINK_STS_WIDTH p,
    F.HST_LINK_STS_FLIT p, F.HST_LINK_STS_DL_UP p] s (s.linkTrained p rate width flit) :=
  (((((Kept.refl _ _ s).set (by simp)).trans ((State.laneSet_kept _ p rate width).widen (by simp) (by simp))).set (by simp))).setb (by simp)

theorem hostLinkUp_trains (hp : p < 2) (h0 : 0 < rate) (hr : rate < 8) (hw : width ∈ [1, 2, 4, 8, 16]) (hf : flit < 4) (hi : s.idleLtssm p = 1)
    (hl : s.linkL0 p = false) (h5 : s.get (F.HST_LINK_STS_LTSSM p) ≠ 5) :
    Gives (.hostLinkUp p rate width flit) s (fun t => t.get (F.HST_LINK_STS_LTSSM p) = 3 ∧ t.get (F.HST_LINK_STS_RATE p) = rate ∧
      t.get (F.HST_LINK_STS_WIDTH p) = width ∧ t.get (F.HST_LINK_STS_FLIT p) = flit ∧ t.getb (F.HST_LINK_STS_DL_UP p) = true ∧
      (t.port p).cxl = decide (flit ≠ 3) ∧
      ((t.port p).memNeg = true ↔ (flit = 1 ∨ flit = 2) ∧ s.get (F.GRT_WIN_CFG_SIZE p) ≠ 0 ∧ s.getb (F.HST_CTL_WIN_EN p) = true) ∧
      (flit ≠ 3 → (t.port p).range1 = min 128 (s.get (F.GRT_WIN_CFG_SIZE p)) * 2 ^ 28) ∧
      (rate ≠ 6 ∨ width ≠ 16 → t.getb (F.HST_ERR_DOWNTRAIN p) = true)) := by
  have hex := exec_hostLinkUp (flit := flit) h0 hw hi hl
  rw [if_neg (by simpa using h5)] at hex
  have hen : (s.linkTrained p rate width flit).getb (F.HST_CTL_WIN_EN p) = s.getb (F.HST_CTL_WIN_EN p) := by
    refine (s.linkTrained_kept p rate width flit).getb_eq ?_
    rcases eq_zero_or_one hp with rfl | rfl <;> decide
  have hkept : (s.linkTrained p rate width flit).port p = s.port p := rfl
  rw [hen] at hex
  obtain ⟨hltssm, hrate, hwidth, hflit, hdl⟩ := State.get_linkTrained (s := s) hp hr hw hf
  generalize s.linkTrained p rate width flit = v at hex hkept hltssm hrate hwidth hflit hdl
  generalize hu : v.updPort p (·.negotiated flit (s.windowSize p) (s.getb (F.HST_CTL_WIN_EN p))) = u at hex
  have huport : u.port p = (s.port p).negotiated flit (s.windowSize p) (s.getb (F.HST_CTL_WIN_EN p)) := by
    rw [← hu, State.updPort_port, hkept]
  have hget : ∀ f, u.get f = v.get f := fun f => by rw [← hu]; rfl
  have hshown := State.linkShown_kept (s := u) hp
  obtain ⟨hcxl, hneg, hrange⟩ := HostPort.of_bare_eq (State.linkShown_port (s := u) hp)
  rw [huport] at hcxl hneg hrange
  refine ⟨_, hex, (hshown.get_eq ?_).trans ((hget _).trans hltssm), (hshown.get_eq ?_).trans ((hget _).trans hrate),
    (hshown.get_eq ?_).trans ((hget _).trans hwidth), (hshown.get_eq ?_).trans ((hget _).trans hflit),
    (hshown.getb_eq ?_).trans ((congrArg (· != 0) (hget _)).trans hdl), ?_, ?_, fun h3 => ?_, fun hdown => ?_⟩
  · rcases eq_zero_or_one hp with rfl | rfl <;> decide
  · rcases eq_zero_or_one hp with rfl | rfl <;> decide
  · rcases eq_zero_or_one hp with rfl | rfl <;> decide
  · rcases eq_zero_or_one hp with rfl | rfl <;> decide
  · rcases eq_zero_or_one hp with rfl | rfl <;> decide
  · rw [hcxl, HostPort.negotiated_cxl]
  · rw [hneg, ← State.windowSize_ne_zero, HostPort.negotiated_memNeg _ hf]
  · rw [hrange]
    simp [HostPort.negotiated, State.windowSize, h3]
  · refine ((State.linkShown_kept_rest hp).getb_eq ?_).trans (State.getb_downtrain hp ?_)
    · rcases eq_zero_or_one hp with rfl | rfl <;> decide
    · rw [hget, hget, hrate, hwidth]
      exact hdown

/-! ### Recovery (R40) -/

theorem exec_hostLinkRecovery (h0 : 0 < rate) (hw : width ∈ [1, 2, 4, 8, 16]) (hl : s.linkL0 p = true) :
    exec (.hostLinkRecovery p rate width) s =
      .next (if s.sameLanes p rate width then s.laneSet p rate width else (s.laneSet p rate width).downtrain p) := by
  have hlanes : laneWidths.contains width = true := List.contains_iff_mem.mpr hw
  simp only [exec, execHostLinkRecovery, hl, hlanes, beq_iff_eq, Nat.ne_of_gt h0, Bool.not_true, Bool.or_eq_true, Bool.false_eq_true, or_false, if_false]
  rfl

theorem hostLinkRecovery_quiet (h0 : 0 < rate) (hr : rate < 8) (hw : width ∈ [1, 2, 4, 8, 16]) (hl : s.linkL0 p = true)
    (h : (rate = 6 ∧ width = 16) ∨ (s.get (F.HST_LINK_STS_RATE p) = rate ∧ s.get (F.HST_LINK_STS_WIDTH p) = width)) :
    Does (.hostLinkRecovery p rate width) s [] [F.HST_LINK_STS_RATE p, F.HST_LINK_STS_WIDTH p] (fun t =>
      t.get (F.HST_LINK_STS_RATE p) = rate ∧ t.get (F.HST_LINK_STS_WIDTH p) = width) := by
  have hget := s.get_laneSet p hr hw
  have hquiet : (if s.sameLanes p rate width then s.laneSet p rate width else (s.laneSet p rate width).downtrain p) = s.laneSet p rate width := by
    rcases h with ⟨rfl, rfl⟩ | ⟨h1, h2⟩
    · rw [State.downtrain_full hget.1 hget.2, ite_self]
    · rw [if_pos (by simp [State.sameLanes, h1, h2])]
  have hex := exec_hostLinkRecovery h0 hw hl
  rw [hquiet] at hex
  exact ⟨_, hex, hget, s.laneSet_kept p rate width⟩

theorem State.irq_soot (s : State) (p v : Nat) : (s.irq p v).soot = s.soot := by
  unfold State.irq
  dsimp only
  split <;> rfl

theorem State.irq_tick (s : State) (p v : Nat) : (s.irq p v).tick = s.tick := by
  unfold State.irq
  dsimp only
  split <;> rfl

theorem hostLinkRecovery_downtrains (hp : p < 2) (h0 : 0 < rate) (hr : rate < 8) (hw : width ∈ [1, 2, 4, 8, 16]) (hl : s.linkL0 p = true)
    (hless : rate ≠ 6 ∨ width ≠ 16) (hch : s.get (F.HST_LINK_STS_RATE p) ≠ rate ∨ s.get (F.HST_LINK_STS_WIDTH p) ≠ width) :
    Does (.hostLinkRecovery p rate width) s logParts (logFlds ++ [F.HST_LINK_STS_RATE p, F.HST_LINK_STS_WIDTH p, F.HST_ERR_DOWNTRAIN p]) (fun t =>
      t.getb (F.HST_ERR_DOWNTRAIN p) = true ∧ t.get (F.HST_LINK_STS_RATE p) = rate ∧ t.get (F.HST_LINK_STS_WIDTH p) = width ∧ Staged 0x0621 [p] s t) := by
  have hex := exec_hostLinkRecovery h0 hw hl
  have hchanged : s.sameLanes p rate width = false := by rcases hch with h | h <;> simp [State.sameLanes, h]
  rw [hchanged, if_neg (by simp)] at hex
  obtain ⟨hrate, hwidth⟩ := s.get_laneSet p hr hw
  have hlane := s.laneSet_kept p rate width
  have hsoot : (s.laneSet p rate width).soot = s.soot := rfl
  have htick : (s.laneSet p rate width).tick = s.tick := rfl
  generalize s.laneSet p rate width = v at hex hrate hwidth hlane hsoot htick
  have hless' : v.get (F.HST_LINK_STS_RATE p) ≠ 6 ∨ v.get (F.HST_LINK_STS_WIDTH p) ≠ 16 := by rw [hrate, hwidth]; exact hless
  have hdown := v.downtrain_kept p
  refine ⟨_, hex, ⟨State.getb_downtrain hp hless', (hdown.get_eq ?_).trans hrate, (hdown.get_eq ?_).trans hwidth, ?_⟩,
    (hlane.widen (by simp) (by simp +contextual)).trans (hdown.widen (fun _ h => h) (by simp +contextual [or_imp]))⟩
  · rcases eq_zero_or_one hp with rfl | rfl <;> decide
  · rcases eq_zero_or_one hp with rfl | rfl <;> decide
  · have hitem : w1 p = [p] := by rw [w1, Nat.mod_eq_of_lt (by omega)]
    rw [State.downtrain_less hless', ← hitem]
    refine staged_record ?_ ?_ (by simp [w1])
    · rw [State.irq_soot]
      exact hsoot
    · rw [State.irq_tick]
      exact htick

end Sys2Proof.Machine
end

section
/-! A link that is up: what the host asks of the port there (R42-R44, R54, R55, R65-R69). -/

namespace Sys2Proof.Machine

variable {ps : List Part} {fs : List Fld} {s t u : State} {p q : Nat}

theorem gpf_acknowledged {phase : Nat} (hl : s.linkL0 p = true) (hc : (s.port p).cxl = true) :
    Does (.gpf ⟨p, phase⟩) s [.out] [] (fun t => t.out = .gpfAck p phase :: s.out) := by
  have hex : exec (.gpf ⟨p, phase⟩) s = .next (s.emit (.gpfAck p phase)) := by simp [exec, execGpf, hl, hc]
  exact ⟨_, hex, rfl, (Kept.refl _ _ s).emit (by simp)⟩

/-! ### IDE (R43, R65) -/

/-- A port with the key of one stream, in skid mode or in containment mode. -/
def HostPort.keyed (h : HostPort) (mem skid : Bool) (key : Bytes) : HostPort :=
  { h with
    ideKeys := Tab.put h.ideKeys (b2n mem) key, ideIo := h.ideIo || !mem, ideMem := h.ideMem || mem
    ideIoSkid := if mem then h.ideIoSkid else skid, ideMemSkid := if mem then skid else h.ideMemSkid }

theorem exec_ideKeyProgram {mem skid : Bool} {key : Bytes} (hl : s.linkL0 p = true) (hk : key.length = 32) :
    exec (.ideKeyProgram p ⟨mem, skid⟩ key) s = .next ((s.updPort p (·.keyed mem skid key)).setb (F.HST_LINK_STS_IDE_SEC p)
      (((s.updPort p (·.keyed mem skid key)).port p).ideIo && ((s.updPort p (·.keyed mem skid key)).port p).ideMem)) := by
  simp only [exec, execIdeKeyProgram, hl, hk, beq_self_eq_true, Bool.and_self, if_true]
  rfl

theorem ideKeyProgram_secures {mem skid : Bool} {key : Bytes} (hl : s.linkL0 p = true) (hk : key.length = 32) :
    Does (.ideKeyProgram p ⟨mem, skid⟩ key) s [.ports] [F.HST_LINK_STS_IDE_SEC p] (fun t =>
      Tab.find (t.port p).ideKeys (if mem then 1 else 0) = some key ∧ (if mem then (t.port p).ideMemSkid else (t.port p).ideIoSkid) = skid ∧
      (if mem then (t.port p).ideIoSkid else (t.port p).ideMemSkid) = (if mem then (s.port p).ideIoSkid else (s.port p).ideMemSkid) ∧
      (t.getb (F.HST_LINK_STS_IDE_SEC p) = true ↔ if mem then (s.port p).ideIo = true else (s.port p).ideMem = true)) := by
  have hport : (s.updPort p (·.keyed mem skid key)).port p = (s.port p).keyed mem skid key := State.updPort_port _ _
  refine ⟨_, exec_ideKeyProgram hl hk, ⟨?_, ?_, ?_, ?_⟩, ((Kept.refl _ _ s).updPort (f := (·.keyed mem skid key)) (by simp) p fun _ => rfl).setb (by simp)⟩
  · rw [State.setb, State.set_port, hport]
    cases mem <;> exact Tab.find_put_same _ _ _
  · rw [State.setb, State.set_port, hport]
    cases mem <;> rfl
  · rw [State.setb, State.set_port, hport]
    cases mem <;> rfl
  · rw [State.getb_setb_same Nat.one_pos, hport]
    cases mem <;> simp [HostPort.keyed]

/-! ### L1 and L2 (R69, R127) -/

theorem hostLinkL1L2_sleeps (hp : p < 2) (hl : s.linkL0 p = true) :
    Gives (.hostLinkL1L2 p) s (fun t => t.get (F.HST_LINK_STS_LTSSM p) = 5 ∧ (t.ctrl p).en = (s.ctrl p).en ∧ (t.ctrl p).sqs = (s.ctrl p).sqs ∧
      (p = 0 → t.getb F.TICK_STS_PTM_OK = false)) := by
  have hex : exec (.hostLinkL1L2 p) s = .next (((if p == 0 then (s.set (F.HST_LINK_STS_LTSSM p) 5).ptmLost else
      s.set (F.HST_LINK_STS_LTSSM p) 5).showHst p).showPower) := by
    simp only [exec, execHostLinkL1L2, hl, if_true]
  have h5 : (s.set (F.HST_LINK_STS_LTSSM p) 5).get (F.HST_LINK_STS_LTSSM p) = 5 := (State.get_set_same _ _ _).trans rfl
  have hctrl : (s.set (F.HST_LINK_STS_LTSSM p) 5).ctrl p = s.ctrl p := rfl
  generalize s.set (F.HST_LINK_STS_LTSSM p) 5 = v at hex h5 hctrl
  have hptm : Kept logParts ptmFlds v (if p == 0 then v.ptmLost else v) := by
    split
    · exact v.ptmLost_kept
    · exact Kept.refl _ _ v
  have hok : p = 0 → (if p == 0 then v.ptmLost else v).getb F.TICK_STS_PTM_OK = false := fun h0 => by
    rw [h0]
    exact v.getb_ptmLost
  generalize (if p == 0 then v.ptmLost else v) = w at hex hptm hok
  have hshown := State.shown_kept (s := w) hp
  have hend : ((w.showHst p).showPower).ctrl p = s.ctrl p :=
    (hshown.ctrl_eq (by decide) p).trans ((hptm.ctrl_eq (by decide) p).trans hctrl)
  refine ⟨_, hex, (hshown.get_eq ?_).trans ((hptm.get_eq ?_).trans h5), by rw [hend], by rw [hend], fun h0 => (hshown.getb_eq (by decide)).trans (hok h0)⟩
  · rcases eq_zero_or_one hp with rfl | rfl <;> decide
  · rcases eq_zero_or_one hp with rfl | rfl <;> decide

/-! ### The function is ready (R46, R54, R55, R68, R69) -/

/-- A device cache that holds nothing gives up nothing. -/
theorem State.showCache_out (h : (s.port p).lines = []) : (s.showCache p).out = s.out := by
  cases hon : s.cacheUsed p with
  | true => rw [State.showCache_on hon]; rfl
  | false => rw [State.showCache_off hon, h]; rfl

/-- A port whose configuration space the host has programmed. -/
def HostPort.programmed (h : HostPort) (p : Nat) (cache ptm msix mask : Bool) : HostPort :=
  { h with ready := true, cacheEnable := cache, ptmEnable := ptm && p == 0, msixEnable := msix, msixMask := mask }

/-- The port is programmed, and CACHE_ON follows. -/
def State.functionShown (s : State) (p : Nat) (cache ptm msix mask : Bool) : State := (s.updPort p (·.programmed p cache ptm msix mask)).showCache p

theorem exec_functionReady {cache ptm msix mask : Bool} (hl : s.linkL0 p = true) : exec (.functionReady p cache ptm msix mask) s =
    .next ((if p == 0 && (s.port 0).ptmEnable && !ptm then (s.functionShown p cache ptm msix mask).ptmLost else s.functionShown p cache ptm msix mask).emit
      (.function p ((s.functionShown p cache ptm msix mask).function p))) := by
  simp only [exec, execFunctionReady, hl, if_true]
  rfl

theorem State.functionShown_port (s : State) (p : Nat) (cache ptm msix mask : Bool) : (s.functionShown p cache ptm msix mask).port p =
    { (s.port p).programmed p cache ptm msix mask with
      lines := if (s.updPort p (·.programmed p cache ptm msix mask)).cacheUsed p then (s.port p).lines else [] } := by
  rw [State.functionShown, State.showCache_port, State.updPort_port]
  rfl

theorem functionReady_shows {cache ptm msix mask : Bool} (hl : s.linkL0 p = true) (hlines : (s.port p).lines = [])
    (hptm : p = 0 → (s.port 0).ptmEnable = true → ptm = true) :
    Does (.functionReady p cache ptm msix mask) s [.ports, .out] [F.HST_LINK_STS_CACHE_ON p] (fun t => (t.port p).ready = true ∧
      (t.port p).msixEnable = msix ∧ (t.port p).msixMask = mask ∧ (t.port p).ptmEnable = (ptm && p == 0) ∧
      (t.getb (F.HST_LINK_STS_CACHE_ON p) = true ↔ (s.port p).cacheNeg = true ∧ cache = true ∧ s.getb (F.HST_CTL_CACHE_EN p) = true) ∧
      ∃ f : Function, t.out = .function p f :: s.out ∧ f.vendor = 0x1D7A ∧ f.device = 0x7160 ∧ f.subVendor = 0x1D7A ∧ f.subDevice = 0x7160 ∧
        f.cls = 0x010802 ∧ f.bars = [⟨0x10000, true, false⟩, ⟨0x4000000, true, false⟩, ⟨0x100000, true, false⟩] ∧
        f.memCapable = (s.port p).memCapable ∧ f.range1 = (s.port p).range1 ∧ f.range2 = 0) := by
  have hlost : (p == 0 && (s.port 0).ptmEnable && !ptm) = false := by
    cases ptm with
    | true => simp
    | false =>
      by_cases h0 : p = 0
      · have hoff : (s.port 0).ptmEnable ≠ true := fun h => absurd (hptm h0 h) (by simp)
        simp [h0, hoff]
      · simp [h0]
  have hex := exec_functionReady (cache := cache) (ptm := ptm) (msix := msix) (mask := mask) hl
  rw [hlost, if_neg (by simp)] at hex
  have hport := s.functionShown_port p cache ptm msix mask
  have hon : (s.functionShown p cache ptm msix mask).getb (F.HST_LINK_STS_CACHE_ON p) = ((s.port p).cacheNeg && cache && s.getb (F.HST_CTL_CACHE_EN p)) := by
    rw [State.functionShown, State.getb_showCache, State.cacheUsed, State.updPort_port]
    rfl
  have hout : (s.functionShown p cache ptm msix mask).out = s.out := State.showCache_out (by rw [State.updPort_port]; exact hlines)
  have hkept : Kept [.ports, .out] [F.HST_LINK_STS_CACHE_ON p] s (s.functionShown p cache ptm msix mask) :=
    ((Kept.refl _ _ s).updPort (f := (·.programmed p cache ptm msix mask)) (by simp) p fun _ => rfl).trans (State.showCache_kept _ p)
  generalize s.functionShown p cache ptm msix mask = v at hex hport hon hout hkept
  have hemit : (v.emit (.function p (v.function p))).port p = v.port p := rfl
  refine ⟨_, hex, ⟨?_, ?_, ?_, ?_, ?_, v.function p, congrArg _ hout, rfl, rfl, rfl, rfl, rfl, rfl, ?_, ?_, rfl⟩, hkept.emit (by simp)⟩
  · rw [hemit, hport]
    rfl
  · rw [hemit, hport]
    rfl
  · rw [hemit, hport]
    rfl
  · rw [hemit, hport]
    rfl
  · have hsame : (v.emit (.function p (v.function p))).getb (F.HST_LINK_STS_CACHE_ON p) = v.getb (F.HST_LINK_STS_CACHE_ON p) := rfl
    rw [hsame, hon]
    simp [and_assoc]
  · rw [State.function, hport]
    rfl
  · rw [State.function, hport]
    rfl

theorem functionReady_losesPtm {cache msix mask : Bool} (hl : s.linkL0 0 = true) (hptm : (s.port 0).ptmEnable = true) :
    Gives (.functionReady 0 cache false msix mask) s (fun t => (t.port 0).ptmEnable = false ∧ t.getb F.TICK_STS_PTM_OK = false) := by
  have hex := exec_functionReady (cache := cache) (ptm := false) (msix := msix) (mask := mask) hl
  rw [if_pos (by simp [hptm])] at hex
  have hport := s.functionShown_port 0 cache false msix mask
  generalize s.functionShown 0 cache false msix mask = v at hex hport
  refine ⟨_, hex, ?_, v.getb_ptmLost⟩
  have hkept : (v.ptmLost.port 0).ptmEnable = (v.port 0).ptmEnable := (congrArg HostPort.ptmEnable (v.ptmLost_kept.port_eq (by decide) 0) :)
  exact hkept.trans (by rw [hport]; rfl)

end Sys2Proof.Machine
end

section
/-! What resets a port, and what resets its controller alone (R45, R59, R66, R70-R75). -/

namespace Sys2Proof.Machine

variable {s t u : State} {p q : Nat} {r : Req}

/-! ### Port-reach resets (R45, R66, R70-R72) -/

/-- A port-reach reset keeps the errors that the port shows. -/
theorem portReset_err (hp : p < 2) (src : PortSrc) (pin : Bool) :
    (s.portReset p src pin).getb (F.HST_ERR_LINK_DOWN p) = s.getb (F.HST_ERR_LINK_DOWN p) ∧
    (s.portReset p src pin).getb (F.HST_ERR_VIRAL p) = s.getb (F.HST_ERR_VIRAL p) ∧
    (s.portReset p src pin).getb (F.HST_ERR_IDE_FAIL p) = s.getb (F.HST_ERR_IDE_FAIL p) ∧
    (s.portReset p src pin).getb (F.HST_CTL_PORT_EN p) = s.getb (F.HST_CTL_PORT_EN p) := by
  have h := State.portReset_kept (s := s) hp src pin
  refine ⟨h.getb_eq ?_, h.getb_eq ?_, h.getb_eq ?_, h.getb_eq ?_⟩
  all_goals rcases eq_zero_or_one hp with rfl | rfl <;> decide

/-- An error bit of a port and its event leave what holds the port and what lets it train. -/
theorem State.idleLtssm_hstErr {f : Nat → Fld} {c : Option Nat} (hk : ∀ g ∈ [F.KDL_REL_STS_DOMAIN, F.HST_CTL_PORT_EN p, F.KDL_STS_HOLD],
    g.key ∉ (f p :: logFlds).map Fld.key) : (s.hstErr p f c).idleLtssm p = s.idleLtssm p ∧ ((s.hstErr p f c).port p).rst = (s.port p).rst := by
  have h := s.hstErr_kept p f c
  have hrst : ((s.hstErr p f c).port p).rst = (s.port p).rst := (congrArg HostPort.rst (h.port_eq (by decide) p) :)
  refine ⟨State.idleLtssm_congr hrst ?_ (h.get_eq (hk _ (by simp))) (h.get_eq (hk _ (by simp))) (h.2.1 .kdl (by decide)), hrst⟩
  rw [State.released, State.released, State.bitOf, State.bitOf, h.get_eq (hk _ (by simp))]

theorem hstErr_apart (hp : p < 2) : (∀ g ∈ [F.KDL_REL_STS_DOMAIN, F.HST_CTL_PORT_EN p, F.KDL_STS_HOLD],
    g.key ∉ (F.HST_ERR_LINK_DOWN p :: logFlds).map Fld.key ∧ g.key ∉ (F.HST_ERR_VIRAL p :: logFlds).map Fld.key ∧
    g.key ∉ (F.HST_ERR_IDE_FAIL p :: logFlds).map Fld.key) ∧ (F.HST_ERR_LINK_DOWN p).key ∉ logFlds.map Fld.key ∧
    (F.HST_ERR_VIRAL p).key ∉ logFlds.map Fld.key ∧ (F.HST_ERR_IDE_FAIL p).key ∉ logFlds.map Fld.key ∧
    (F.HST_ERR_VIRAL p).key ∉ (F.HST_ERR_LINK_DOWN p :: logFlds).map Fld.key ∧
    (F.HST_ERR_IDE_FAIL p).key ∉ (F.HST_ERR_LINK_DOWN p :: logFlds).map Fld.key := by
  rcases eq_zero_or_one hp with rfl | rfl <;> decide

/-- A port goes down with LINK_DOWN, and is reset. -/
def State.downReset (s : State) (p : Nat) (src : PortSrc) : State := (s.hstErr p F.HST_ERR_LINK_DOWN (some 0x0620)).portReset p src false

theorem downReset_resets (hp : p < 2) (hr : (s.port p).rst = []) (src : PortSrc) :
    PortWasReset p (s.idleLtssm p) (s.downReset p src) ∧ (s.downReset p src).getb (F.HST_ERR_LINK_DOWN p) = true := by
  obtain ⟨hk, hlog, -⟩ := hstErr_apart hp
  obtain ⟨hidle, hrst⟩ := State.idleLtssm_hstErr (s := s) (c := some 0x0620) fun g hg => (hk g hg).1
  obtain ⟨hdown, -⟩ := portReset_err (s := s.hstErr p F.HST_ERR_LINK_DOWN (some 0x0620)) hp src false
  have hreset := portWasReset (s := s.hstErr p F.HST_ERR_LINK_DOWN (some 0x0620)) hp (hrst.trans hr) src false
  rw [if_neg (by simp), hidle] at hreset
  exact ⟨hreset, hdown.trans (State.getb_hstErr Nat.one_pos hlog)⟩

/-- An error bit shows, the port goes down with LINK_DOWN, and is reset. -/
theorem errReset_resets (hp : p < 2) (hr : (s.port p).rst = []) {f : Nat → Fld} {c : Nat} (src : PortSrc)
    (hk : ∀ g ∈ [F.KDL_REL_STS_DOMAIN, F.HST_CTL_PORT_EN p, F.KDL_STS_HOLD], g.key ∉ (f p :: logFlds).map Fld.key) :
    PortWasReset p (s.idleLtssm p) ((s.hstErr p f (some c)).downReset p src) ∧
    ((s.hstErr p f (some c)).downReset p src).getb (F.HST_ERR_LINK_DOWN p) = true := by
  obtain ⟨hidle, hrst⟩ := State.idleLtssm_hstErr (s := s) (c := some c) hk
  rw [← hidle]
  exact downReset_resets hp (hrst.trans hr) src

theorem viralReceived_resets (hp : p < 2) (hr : (s.port p).rst = []) (hl : s.linkL0 p = true) :
    Gives (.viralReceived p) s (fun t => PortWasReset p (s.idleLtssm p) t ∧ t.getb (F.HST_ERR_VIRAL p) = true ∧ t.getb (F.HST_ERR_LINK_DOWN p) = true) := by
  have hex : exec (.viralReceived p) s = .next ((s.hstErr p F.HST_ERR_VIRAL (some 0x0624)).downReset p .viral) := by
    simp only [exec, execViralReceived, hl, if_true]
    rfl
  obtain ⟨hk, -, hlog, -, hother, -⟩ := hstErr_apart hp
  obtain ⟨hreset, hdown⟩ := errReset_resets hp hr (c := 0x0624) .viral fun g hg => (hk g hg).2.1
  refine ⟨_, hex, hreset, ?_, hdown⟩
  obtain ⟨-, hviral, -⟩ := portReset_err (s := (s.hstErr p F.HST_ERR_VIRAL (some 0x0624)).hstErr p F.HST_ERR_LINK_DOWN (some 0x0620)) hp .viral false
  exact hviral.trans (((State.hstErr_kept _ p F.HST_ERR_LINK_DOWN _).getb_eq hother).trans (State.getb_hstErr Nat.one_pos hlog))

theorem ideFail_resets (hp : p < 2) (hr : (s.port p).rst = []) (hl : s.linkL0 p = true) (hi : (s.port p).ideIo = true ∨ (s.port p).ideMem = true) :
    Gives (.ideFail p) s (fun t => PortWasReset p (s.idleLtssm p) t ∧ t.getb (F.HST_ERR_IDE_FAIL p) = true ∧ t.getb (F.HST_ERR_LINK_DOWN p) = true) := by
  have hex : exec (.ideFail p) s = .next ((s.hstErr p F.HST_ERR_IDE_FAIL (some 0x0623)).downReset p .ide) := by
    have hide : ((s.port p).ideIo || (s.port p).ideMem) = true := by simpa using hi
    simp only [exec, execIdeFail, hl, hide, Bool.and_self, if_true]
    rfl
  obtain ⟨hk, -, -, hlog, -, hother⟩ := hstErr_apart hp
  obtain ⟨hreset, hdown⟩ := errReset_resets hp hr (c := 0x0623) .ide fun g hg => (hk g hg).2.2
  refine ⟨_, hex, hreset, ?_, hdown⟩
  obtain ⟨-, -, hfail, -⟩ := portReset_err (s := (s.hstErr p F.HST_ERR_IDE_FAIL (some 0x0623)).hstErr p F.HST_ERR_LINK_DOWN (some 0x0620)) hp .ide false
  exact hfail.trans (((State.hstErr_kept _ p F.HST_ERR_LINK_DOWN _).getb_eq hother).trans (State.getb_hstErr Nat.one_pos hlog))

theorem hostLinkDown_resets (hp : p < 2) (hr : (s.port p).rst = []) (hl : s.linkL0 p = true) :
    Gives (.hostLinkDown p) s (fun t => PortWasReset p (s.idleLtssm p) t ∧ t.getb (F.HST_ERR_LINK_DOWN p) = true) := by
  have hex : exec (.hostLinkDown p) s = .next (s.downReset p .linkDown) := by
    simp only [exec, execHostLinkDown, hl, if_true]
    rfl
  exact ⟨_, hex, downReset_resets hp hr .linkDown⟩

theorem hotReset_resets (hp : p < 2) (hr : (s.port p).rst = []) (hl : s.linkL0 p = true) : Gives (.hotReset p) s (PortWasReset p (s.idleLtssm p)) := by
  have hex : exec (.hotReset p) s = .next (s.portReset p .hotReset false) := by simp only [exec, execHotReset, hl, if_true]
  exact ⟨_, hex, portWasReset hp hr .hotReset false⟩

theorem cxlReset_resets (hp : p < 2) (hr : (s.port p).rst = []) (hl : s.linkL0 p = true) (hc : (s.port p).cxl = true) :
    Gives (.cxlReset p) s (PortWasReset p (s.idleLtssm p)) := by
  have hex : exec (.cxlReset p) s = .next (s.portReset p .cxlReset false) := by simp only [exec, execCxlReset, hl, hc, Bool.and_self, if_true]
  exact ⟨_, hex, portWasReset hp hr .cxlReset false⟩

/-! ### PERST_N and PORT_EN (R70, R74, R75) -/

theorem exec_hostPerst {ns : Nat} (hn : 100 ≤ ns) (hr : (s.port p).rst = []) : exec (.hostPerst p ns) s =
    .next (if s.released (dHst p) then s.portReset p .perst true else s.updPort p (fun h => { h with rst := .perst :: h.rst })) := by
  simp only [exec, execHostPerst, hr, Nat.not_lt.mpr hn, List.contains_nil, Bool.or_false, decide_false, Bool.false_eq_true, if_false, State.portUp]
  by_cases hd : s.released (dHst p) = true
  · simp only [hd, Bool.not_true, Bool.false_eq_true, if_false, if_true]
  · simp only [Bool.not_eq_true] at hd
    simp only [hd, Bool.not_false, Bool.false_eq_true, if_false, if_true]

theorem hostPerst_resets {ns : Nat} (hp : p < 2) (hr : (s.port p).rst = []) (hn : 100 ≤ ns) (hd : s.released (dHst p) = true) :
    Gives (.hostPerst p ns) s (fun t => PortWasReset p 0 t ∧ (t.port p).rst = [.perst]) := by
  have hex := exec_hostPerst hn hr
  rw [hd, if_pos rfl] at hex
  exact ⟨_, hex, portWasReset hp hr .perst true, (State.portReset_fresh hp hr .perst true).rst⟩

/-- While the port's domain is not released, the source holds it from its release on. -/
theorem hostPerst_holds {ns : Nat} (hr : (s.port p).rst = []) (hn : 100 ≤ ns) (hd : s.released (dHst p) = false) :
    Does (.hostPerst p ns) s [.ports] [] (fun t => t.port p = { s.port p with rst := [.perst] }) := by
  have hex := exec_hostPerst hn hr
  rw [hd, if_neg (by simp)] at hex
  have hport := State.updPort_port (s := s) p (fun h => { h with rst := .perst :: h.rst })
  rw [hr] at hport
  exact ⟨_, hex, hport, (Kept.refl _ _ s).updPort (f := fun h => { h with rst := .perst :: h.rst }) (by simp) p fun _ => rfl⟩

theorem hostPerst_short {ns : Nat} (hn : ns < 100) : Does (.hostPerst p ns) s [] [] (fun t => t = s) := by
  have hex : exec (.hostPerst p ns) s = .next s := by simp [exec, execHostPerst, hn]
  exact ⟨_, hex, rfl, Kept.refl _ _ s⟩

theorem bit_clrBit_zero (v : Nat) : bit (clrBit v 0) 0 = false := by
  simp only [bit, clrBit, Nat.testBit_zero]
  split
  · next h =>
    have hodd : v % 2 = 1 := by simpa using h
    simp
    omega
  · next h => simpa using h

/-- HST_CTL is written with PORT_EN 0. -/
def State.ctlWritten (s : State) (p v : Nat) : State :=
  (((s.setb (F.HST_CTL_WIN_EN p) (bit v 2)).setb (F.HST_CTL_CACHE_EN p) (bit v 1)).setb (F.HST_CTL_PORT_EN p) false).showCache p

theorem exec_portEnWrite {v : Nat} (hw : s.writable r (R.HST_CTL + 0x100000 * p) = true) (he : s.getb (F.HST_CTL_PORT_EN p) = true) :
    exec (.portEnWrite r p v) s = .next ((s.ctlWritten p (clrBit v 0)).portReset p .portEn true) := by
  simp only [exec, execPortEnWrite, State.withWrite_writable hw, State.writeHstCtl, he, bit_clrBit_zero, Bool.not_false, Bool.and_self, if_true]
  rfl

theorem portEnWrite_resets {v : Nat} (hp : p < 2) (hr : (s.port p).rst = []) (hw : s.writable r (R.HST_CTL + 0x100000 * p) = true)
    (he : s.getb (F.HST_CTL_PORT_EN p) = true) :
    Gives (.portEnWrite r p v) s (fun t => PortWasReset p 0 t ∧ (t.port p).rst = [.portEn] ∧ t.getb (F.HST_CTL_PORT_EN p) = false) := by
  have hrst : ((s.ctlWritten p (clrBit v 0)).port p).rst = [] := by
    rw [State.ctlWritten, State.showCache_port]
    exact hr
  have hoff : (s.ctlWritten p (clrBit v 0)).getb (F.HST_CTL_PORT_EN p) = false := by
    refine ((State.showCache_kept _ p).getb_eq ?_).trans (State.getb_setb_same (f := F.HST_CTL_PORT_EN p) (b := false) Nat.one_pos)
    rcases eq_zero_or_one hp with rfl | rfl <;> decide
  obtain ⟨-, -, -, hen⟩ := portReset_err (s := s.ctlWritten p (clrBit v 0)) hp .portEn true
  exact ⟨_, exec_portEnWrite hw he, portWasReset hp hrst .portEn true, (State.portReset_fresh hp hrst .portEn true).rst, hen.trans hoff⟩

/-- With its last source released, a port trains unless its domain, PORT_EN or Kindling holds it. -/
theorem portResetRelease_releases (hr : (s.port p).rst = [.perst]) :
    Does (.portResetRelease p) s [.ports] [F.HST_LINK_STS_LTSSM p] (fun t => (t.port p).rst = [] ∧ (t.port p).relAt = s.cyc ∧
      (s.released (dHst p) = true → s.getb (F.HST_CTL_PORT_EN p) = true → s.getb F.KDL_STS_HOLD = false → p ∉ s.kdl.off →
        t.get (F.HST_LINK_STS_LTSSM p) = 1) ∧
      (s.released (dHst p) = false ∨ s.getb (F.HST_CTL_PORT_EN p) = false ∨ s.getb F.KDL_STS_HOLD = true → t.get (F.HST_LINK_STS_LTSSM p) = 0)) := by
  generalize hu : s.updPort p (fun h => { h with rst := h.rst.filter (· != .perst), relAt := s.cyc }) = u
  have hport : u.port p = { s.port p with rst := [], relAt := s.cyc } := by
    rw [← hu]
    exact (State.updPort_port (s := s) p (fun h => { h with rst := h.rst.filter (· != .perst), relAt := s.cyc })).trans (by rw [hr]; rfl)
  have hex : exec (.portResetRelease p) s = .next (u.set (F.HST_LINK_STS_LTSSM p) (u.idleLtssm p)) := by
    simp only [exec, execPortResetRelease, State.portRelease, hr, List.contains_cons, BEq.rfl, Bool.true_or, Bool.not_true, Bool.false_eq_true, if_false]
    simp only [hu, hport, List.isEmpty_nil, if_true]
  have hget : (u.set (F.HST_LINK_STS_LTSSM p) (u.idleLtssm p)).get (F.HST_LINK_STS_LTSSM p) = u.idleLtssm p := by
    have hle := u.idleLtssm_le p
    rw [State.get_set_same]
    exact Nat.mod_eq_of_lt (show _ < 16 by omega)
  have hidle : u.idleLtssm p = if s.released (dHst p) && s.getb (F.HST_CTL_PORT_EN p) && !s.getb F.KDL_STS_HOLD && !s.kdl.off.contains p then 1 else 0 := by
    rw [State.idleLtssm, hport, ← hu]
    rfl
  refine ⟨_, hex, ⟨?_, ?_, fun hd he hh hoff => ?_, fun hno => ?_⟩, ?_⟩
  · rw [State.set_port, hport]
  · rw [State.set_port, hport]
  · rw [hget, hidle]
    simp [hd, he, hh, hoff]
  · rw [hget, hidle]
    rcases hno with h | h | h <;> simp [h]
  · rw [← hu]
    exact ((Kept.refl _ _ s).updPort (f := fun h => { h with rst := h.rst.filter (· != .perst), relAt := s.cyc }) (by simp) p fun _ => rfl).set (by simp)

/-! ### Controller-reach resets (R59, R73) -/

theorem State.ctrlReset_eq (s : State) (p : Nat) : s.ctrlReset p = ((s.dropFetched (fun c => !c.ring && c.port == p)).clearCtrl p).showPower := rfl

def ctrlResetParts : List Part := dropParts ++ powerParts

theorem State.ctrlReset_kept (s : State) (p : Nat) : Kept ctrlResetParts powerFlds s (s.ctrlReset p) := by
  rw [State.ctrlReset_eq]
  exact (((s.dropFetched_kept _).widen (by simp +contextual [ctrlResetParts]) (by simp)).trans
    ((State.clearCtrl_kept _ p).widen (by simp [ctrlResetParts, dropParts]) (by simp))).trans
    ((State.showPower_kept _).widen (by simp +contextual [ctrlResetParts]) (fun _ h => h))

theorem State.ctrlReset_cleared (s : State) (p : Nat) : CtrlCleared p (s.ctrlReset p) := by
  rw [State.ctrlReset_eq]
  exact (State.clearCtrl_cleared (s.dropFetched (fun c => !c.ring && c.port == p)) p).of_ctrl_eq ((State.showPower_kept _).ctrl_eq (by decide) p)

theorem flr_resets (hp : p < 2) (hl : s.linkL0 p = true) :
    Gives (.flr p) s (fun t => (t.ctrl p).en = false ∧ (t.ctrl p).sqs = [] ∧ (t.port p).msix = [] ∧ (t.port p).msixEnable = false ∧
      (t.port p).ptmEnable = false ∧ (p = 0 → (s.port 0).ptmEnable = true → t.getb F.TICK_STS_PTM_OK = false) ∧
      (t.port p).filter = (s.port p).filter ∧ t.get (F.HST_LINK_STS_LTSSM p) = 3) := by
  have hex : exec (.flr p) s = .next ((s.ctrlReset p).clearConfig p) := by simp only [exec, execFlr, hl, if_true]
  have hkept := s.ctrlReset_kept p
  have hcleared := s.ctrlReset_cleared p
  generalize s.ctrlReset p = u at hex hkept hcleared
  have hconfig := u.clearConfig_kept p
  have hport := u.clearConfig_port p
  obtain ⟨hen, -, hsqs, -⟩ := hcleared.of_ctrl_eq (hconfig.ctrl_eq (by decide) p)
  have hptm : p = 0 → (s.port 0).ptmEnable = true → (u.clearConfig p).getb F.TICK_STS_PTM_OK = false := fun h0 h => by
    subst h0
    have hon : (u.port 0).ptmEnable = true := (congrArg HostPort.ptmEnable (hkept.port_eq (by decide) 0) :).trans h
    rw [State.clearConfig_eq, State.ptmOff, if_pos hon]
    exact ((State.showCache_kept _ 0).getb_eq (by decide)).trans u.getb_ptmLost
  refine ⟨_, hex, hen, hsqs, ?_, ?_, ?_, hptm, ?_, (hconfig.get_eq ?_).trans ((hkept.get_eq ?_).trans (State.linkL0_iff.mp hl))⟩
  · rw [hport]
    rfl
  · rw [hport]
    rfl
  · rw [hport]
    rfl
  · rw [hport]
    exact (congrArg HostPort.filter (hkept.port_eq (by decide) p) :)
  · rcases eq_zero_or_one hp with rfl | rfl <;> decide
  · rcases eq_zero_or_one hp with rfl | rfl <;> decide

theorem ccEnClear_clears (hp : p < 2) (hl : s.linkL0 p = true) (he : (s.ctrl p).en = true) :
    Gives (.ccEnClear p) s (fun t => (t.ctrl p).en = false ∧ (t.ctrl p).rdy = false ∧ (t.ctrl p).sqs = [] ∧ (t.ctrl p).cqs = [] ∧
      (t.port p).msix = (s.port p).msix ∧ t.get (F.HST_LINK_STS_LTSSM p) = 3) := by
  have hex : exec (.ccEnClear p) s = .next (s.ctrlReset p) := by simp only [exec, execCcEnClear, hl, he, Bool.and_self, if_true]
  have hkept := s.ctrlReset_kept p
  obtain ⟨hen, hrdy, hsqs, hcqs⟩ := s.ctrlReset_cleared p
  refine ⟨_, hex, hen, hrdy, hsqs, hcqs, (congrArg HostPort.msix (hkept.port_eq (by decide) p) :), (hkept.get_eq ?_).trans (State.linkL0_iff.mp hl)⟩
  rcases eq_zero_or_one hp with rfl | rfl <;> decide

theorem ccEnSet_enables {ams asqs acqs : Nat} (hl : s.linkL0 p = true) (hrdy : (s.port p).ready = true) (he : (s.ctrl p).en = false) :
    Does (.ccEnSet p ams asqs acqs) s [.bel] [] (fun t => (t.ctrl p).en = true ∧ (t.ctrl p).rdy = true ∧ (t.ctrl p).ams = ams ∧
      (t.ctrl p).sqs = [(0, { size := max 2 asqs, prio := 0 })] ∧ (t.ctrl p).cqs = [(0, { size := max 2 acqs })]) := by
  have hex : exec (.ccEnSet p ams asqs acqs) s = .next (s.updCtrl p (fun c => { c with
      en := true, rdy := true, ams, sqs := [(0, { size := max 2 asqs, prio := 0 })], cqs := [(0, { size := max 2 acqs })] })) := by
    simp only [exec, execCcEnSet, hl, hrdy, he, Bool.not_false, Bool.and_self, if_true]
  refine ⟨_, hex, ?_, (Kept.refl _ _ s).updBel (by simp) _⟩
  dsimp only
  rw [State.ctrl_updCtrl]
  exact ⟨rfl, rfl, rfl, rfl, rfl⟩

end Sys2Proof.Machine
end

section
namespace Sys2Proof.Machine

theorem hostLinkUp_resumes {s : State} {p rate width flit : Nat} (hp : p < 2) (h0 : 0 < rate) (hr : rate < 8) (hw : width ∈ [1, 2, 4, 8, 16])
    (hi : s.idleLtssm p = 1) (hl : s.linkL0 p = false) (h5 : s.get (F.HST_LINK_STS_LTSSM p) = 5) :
    Gives (.hostLinkUp p rate width flit) s (fun t => t.get (F.HST_LINK_STS_LTSSM p) = 3 ∧ t.get (F.HST_LINK_STS_RATE p) = rate ∧
      t.get (F.HST_LINK_STS_WIDTH p) = width ∧ t.port p = { s.port p with msixPend := (t.port p).msixPend } ∧
      (s.get (F.HST_LINK_STS_RATE p) = rate → s.get (F.HST_LINK_STS_WIDTH p) = width →
        t.getb (F.HST_ERR_DOWNTRAIN p) = s.getb (F.HST_ERR_DOWNTRAIN p))) := by
  have hex := exec_hostLinkUp (flit := flit) h0 hw hi hl
  rw [if_pos (by simpa using h5)] at hex
  exact ⟨_, hex, State.linkResume_resumes hp hr hw⟩

/-- Settles O36: a link's changes by what each shows of the port, and each reset by the one sequence of steps that resets a port or its controller. -/
theorem hostLinks : Obligations.HostLinks := by
  unfold Obligations.HostLinks
  refine ⟨⟨fun s p rate width flit hp h0 hr hw hf hi hl => ⟨hostLinkUp_trains hp h0 hr hw hf hi hl, hostLinkUp_resumes hp h0 hr hw hi hl⟩,
    fun s p rate width hp h0 hr hw hl => ⟨hostLinkRecovery_quiet h0 hr hw hl, hostLinkRecovery_downtrains hp h0 hr hw hl⟩,
    fun s p phase hl hc => gpf_acknowledged hl hc, fun s p mem skid key _ hl hk => ideKeyProgram_secures hl hk,
    fun s p hp hl => hostLinkL1L2_sleeps hp hl, fun s p cache ptm msix mask _ hl hlines hptm => functionReady_shows hl hlines hptm,
    fun s cache msix mask hl hptm => functionReady_losesPtm hl hptm⟩,
    fun s p hp hr => ⟨fun hl => ⟨viralReceived_resets hp hr hl, ideFail_resets hp hr hl, hostLinkDown_resets hp hr hl, hotReset_resets hp hr hl,
      cxlReset_resets hp hr hl⟩, fun ns hn => ⟨hostPerst_resets hp hr hn, hostPerst_holds hr hn⟩, fun ns hn => hostPerst_short hn,
      fun r v hw he => portEnWrite_resets hp hr hw he⟩,
    fun s p _ hr => portResetRelease_releases hr,
    fun s p hp hl => ⟨flr_resets hp hl, ccEnClear_clears hp hl, fun ams asqs acqs hrdy he => ccEnSet_enables hl hrdy he⟩⟩

end Sys2Proof.Machine
end

section
/-! The Grate window's registers: the layout they give, an error bit, and a reset that begins (R77, R78, R102, R104). -/

namespace Sys2Proof.Machine

variable {ps : List Part} {fs : List Fld} {s t : State} {p v i lo w rg d n z c : Nat} {r : Req} {f : Nat → Fld} {l : Layout}

/-! ### Bits beside a bit that is written -/

theorem testBit_putBit_below {j : Nat} (h : j < i) (b : Bool) : (putBit v i b).testBit j = v.testBit j := by
  cases b with
  | true => simp [putBit, setBit, show i ≠ j by omega]
  | false =>
    unfold putBit clrBit bit
    simp only [Bool.false_eq_true, if_false]
    split
    · next hb =>
      have hle : 2 ^ i ≤ v := Nat.ge_two_pow_of_testBit hb
      rw [← Nat.testBit_two_pow_add_gt h, Nat.add_sub_cancel' hle]
    · rfl

theorem bits_putBit_below (h : lo + w ≤ i) (b : Bool) : bits (putBit v i b) lo w = bits v lo w := by
  refine Nat.eq_of_testBit_eq fun j => ?_
  simp only [bits, Nat.testBit_mod_two_pow, Nat.testBit_div_two_pow]
  by_cases hj : j < w
  · rw [testBit_putBit_below (by omega)]
  · simp [hj]

theorem bit_putBit_same (b : Bool) : bit (putBit v i b) i = b := by
  cases b with
  | true => simp [bit, putBit, setBit]
  | false => simpa [bit, Nat.testBit_mod_two_pow] using bit_putBit_false (v := v) (i := i) (w := i + 1)

/-! ### An error bit (R105) -/

theorem State.winErr_kept (s : State) (p : Nat) (f : Nat → Fld) (c : Nat) : Kept logParts logFlds (s.setb (f p) true) (s.winErr p f c) := by
  have h0 := Kept.refl logParts logFlds (s.setb (f p) true)
  have hirq : Kept logParts logFlds (s.setb (f p) true)
      (if (s.setb (f p) true).bitOf (F.GRT_IRQ_EN_EN p) 3 then (s.setb (f p) true).irq p 2043 else s.setb (f p) true) := by
    split
    · exact h0.irq (by simp [logParts]) (by simp [logParts])
    · exact h0
  unfold State.winErr
  dsimp only
  split
  · exact hirq
  · exact hirq.recordMsOf (fun _ h => h) (fun _ h => h)

theorem Kept.winErr (h : Kept ps fs s t) (hp : ∀ p ∈ logParts, p ∈ ps) (hf : ∀ f ∈ logFlds, f ∈ fs) (hw : f p ∈ fs) (c : Nat) :
    Kept ps fs s (t.winErr p f c) :=
  (h.setb (List.mem_map_of_mem hw)).trans ((t.winErr_kept p f c).widen hp hf)

theorem State.getb_winErr (hw : 0 < (f p).width) (hk : (f p).key ∉ logFlds.map Fld.key) : (s.winErr p f c).getb (f p) = true :=
  ((s.winErr_kept p f c).getb_eq hk).trans (State.getb_setb_same hw)

/-! ### What GRT_WIN_CFG takes (R104) -/

def cfgFlds (p : Nat) : List Fld := [F.GRT_WIN_CFG_RINGS_M1 p, F.GRT_WIN_CFG_DEPTH_LOG2 p, F.GRT_WIN_CFG_SLOT_SZ p, F.GRT_WIN_CFG_SIZE p]

/-- The layout fields of a write of GRT_WIN_CFG while EN is 0. -/
def State.cfgTaken (s : State) (p v : Nat) : State :=
  (((s.set (F.GRT_WIN_CFG_RINGS_M1 p) (bits v 24 6)).set (F.GRT_WIN_CFG_DEPTH_LOG2 p) (bits v 20 4)).set (F.GRT_WIN_CFG_SLOT_SZ p) (bits v 16 4)).set
    (F.GRT_WIN_CFG_SIZE p) (bits v 8 8)

theorem State.cfgTaken_kept (s : State) (p v : Nat) : Kept [] (cfgFlds p) s (s.cfgTaken p v) :=
  ((((Kept.refl _ _ s).set (by simp [cfgFlds])).set (by simp [cfgFlds])).set (by simp [cfgFlds])).set (by simp [cfgFlds])

theorem State.get_cfgTaken (s : State) (p v : Nat) :
    (s.cfgTaken p v).get (F.GRT_WIN_CFG_RINGS_M1 p) = v / 2 ^ 24 % 64 ∧ (s.cfgTaken p v).get (F.GRT_WIN_CFG_DEPTH_LOG2 p) = v / 2 ^ 20 % 16 ∧
    (s.cfgTaken p v).get (F.GRT_WIN_CFG_SLOT_SZ p) = v / 2 ^ 16 % 16 ∧ (s.cfgTaken p v).get (F.GRT_WIN_CFG_SIZE p) = v / 2 ^ 8 % 256 := by
  simp [State.cfgTaken, State.get_set, Fld.key, F.GRT_WIN_CFG_RINGS_M1, F.GRT_WIN_CFG_DEPTH_LOG2, F.GRT_WIN_CFG_SLOT_SZ, F.GRT_WIN_CFG_SIZE, bits]

/-- The layout fields lie below EN. -/
theorem State.cfgTaken_putBit (s : State) (p v : Nat) (b : Bool) : s.cfgTaken p (putBit v 31 b) = s.cfgTaken p v := by
  simp only [State.cfgTaken, bits_putBit_below (show 24 + 6 ≤ 31 by decide), bits_putBit_below (show 20 + 4 ≤ 31 by decide),
    bits_putBit_below (show 16 + 4 ≤ 31 by decide), bits_putBit_below (show 8 + 8 ≤ 31 by decide)]

theorem exec_winEnable (hw : s.writable r (R.GRT_WIN_CFG + 0x10000 * p) = true) (hen : s.getb (F.GRT_WIN_CFG_EN p) = false) :
    exec (.winEnable r p v) s = .next ((s.cfgTaken p v).winEnable p) := by
  have hbit : bit (setBit v 31) 31 = true := bit_putBit_same true
  have heff : s.writeWinCfg p (setBit v 31) = (s.cfgTaken p (putBit v 31 true)).winEnable p := by
    simp only [State.writeWinCfg, hen, hbit, Bool.false_eq_true, if_false, if_true]
    rfl
  simp only [exec, execWinEnable, winCfgAt, State.withWrite_writable hw, heff, State.cfgTaken_putBit]

/-- While EN is 1 a write takes a SIZE the layout fits in; EN 0 begins a window reset. -/
theorem State.writeWinCfg_enabled (hen : s.getb (F.GRT_WIN_CFG_EN p) = true) (hsize : v / 2 ^ 8 % 256 ≤ 128)
    (hfit : (layoutOf (s.win p).rings (s.win p).depth (s.win p).slots (s.win p).slotSize).stop ≤ v / 2 ^ 8 % 256 * 2 ^ 28) (b : Bool) :
    s.writeWinCfg p (putBit v 31 b) = if b then s.set (F.GRT_WIN_CFG_SIZE p) (v / 2 ^ 8 % 256)
      else ((s.set (F.GRT_WIN_CFG_SIZE p) (v / 2 ^ 8 % 256)).setb (F.GRT_WIN_CFG_EN p) false).winReset p false := by
  have hbits : bits (putBit v 31 b) 8 8 = v / 2 ^ 8 % 256 := bits_putBit_below (by decide) b
  have hno : (decide (v / 2 ^ 8 % 256 > 128) || decide (v / 2 ^ 8 % 256 * 2 ^ 28 <
      (layoutOf (s.win p).rings (s.win p).depth (s.win p).slots (s.win p).slotSize).stop)) = false := by
    rw [Bool.or_eq_false_iff, decide_eq_false_iff_not, decide_eq_false_iff_not]
    omega
  simp only [State.writeWinCfg, hen, hbits, hno, bit_putBit_same, Bool.false_eq_true, if_false, if_true]

/-! ### The layout (R77, R78) -/

theorem State.layout_none (h : s.get (F.GRT_WIN_SLOTS_SLOTS p) = 0 ∨ 6 ≤ s.get (F.GRT_WIN_CFG_SLOT_SZ p)) : s.layout p = none := by
  unfold State.layout
  dsimp only
  split
  · rfl
  · next z hz =>
    have hlt : s.get (F.GRT_WIN_CFG_SLOT_SZ p) < 6 := (List.getElem?_eq_some_iff.mp hz).1
    have hzero := h.resolve_right (by omega)
    rw [if_pos (by simp [hzero])]

theorem State.layout_some (hz : slotBytes (s.get (F.GRT_WIN_CFG_SLOT_SZ p)) = some z) (hd : d = 2 ^ s.get (F.GRT_WIN_CFG_DEPTH_LOG2 p)) (hd0 : 64 ≤ d)
    (hd1 : d ≤ 4096) (hn : n = s.get (F.GRT_WIN_SLOTS_SLOTS p)) (hn0 : 1 ≤ n) (hn1 : n ≤ 65536) (hsize : s.get (F.GRT_WIN_CFG_SIZE p) ≤ 128)
    (hfit : (layoutOf (s.get (F.GRT_WIN_CFG_RINGS_M1 p) + 1) d n z).stop ≤ s.get (F.GRT_WIN_CFG_SIZE p) * 2 ^ 28) :
    s.layout p = some (layoutOf (s.get (F.GRT_WIN_CFG_RINGS_M1 p) + 1) d n z, z) := by
  have hlog0 : 6 ≤ s.get (F.GRT_WIN_CFG_DEPTH_LOG2 p) := (Nat.pow_le_pow_iff_right (by decide : 1 < 2)).mp (hd ▸ hd0 : 2 ^ 6 ≤ _)
  have hlog1 : s.get (F.GRT_WIN_CFG_DEPTH_LOG2 p) ≤ 12 := (Nat.pow_le_pow_iff_right (by decide : 1 < 2)).mp (hd ▸ hd1 : _ ≤ 2 ^ 12)
  simp only [State.layout, hz, ← hd, ← hn]
  rw [if_neg]
  simp only [Bool.or_eq_true, decide_eq_true_eq, beq_iff_eq]
  omega

theorem alignUp_page (x : Nat) : alignUp x 0x1000 = (x + 4095) / 4096 * 4096 := by
  unfold alignUp
  omega

theorem alignUp_slots (x : Nat) : alignUp x 0x200000 = (x + 2097151) / 2097152 * 2097152 := by
  unfold alignUp
  omega

/-- Each region of a layout begins where the rings and the slots before it leave room. -/
theorem layoutOf_offsets (rg d n z : Nat) : (layoutOf rg d n z).cring = 0x1000 ∧ (layoutOf rg d n z).cpl = 0x1000 + rg * d * 64 ∧
    (layoutOf rg d n z).flag = (0x1000 + rg * d * 96 + 4095) / 4096 * 4096 ∧
    (layoutOf rg d n z).data = ((0x1000 + rg * d * 96 + 4095) / 4096 * 4096 + n * 64 + 2097151) / 2097152 * 2097152 := by
  have hflag : (layoutOf rg d n z).flag = (0x1000 + rg * d * 96 + 4095) / 4096 * 4096 := by
    unfold layoutOf
    dsimp only
    rw [alignUp_page]
    omega
  have hdata : (layoutOf rg d n z).data = alignUp ((layoutOf rg d n z).flag + n * 64) 0x200000 := rfl
  exact ⟨rfl, rfl, hflag, by rw [hdata, hflag, alignUp_slots]⟩

/-- The offsets of the largest layout fit their registers. -/
theorem layoutOf_lt (hr : rg ≤ 64) (hd : d ≤ 4096) (hn : n ≤ 65536) : (layoutOf rg d n z).cring < 2 ^ 35 ∧ (layoutOf rg d n z).cpl < 2 ^ 35 ∧
    (layoutOf rg d n z).flag < 2 ^ 35 ∧ (layoutOf rg d n z).data < 2 ^ 35 := by
  obtain ⟨hcring, hcpl, hflag, hdata⟩ := layoutOf_offsets rg d n z
  have hmul : rg * d ≤ 64 * 4096 := Nat.mul_le_mul hr hd
  rw [hcring, hcpl, hflag, hdata]
  omega

/-! ### A window is laid out (R78) -/

def offFlds (p : Nat) : List Fld :=
  [F.GRT_WIN_CFG_EN p, F.GRT_WIN_STS_RESETTING p, F.GRT_OFF_CRING_OFFSET p, F.GRT_OFF_CPL_OFFSET p, F.GRT_OFF_FLAG_OFFSET p, F.GRT_OFF_DATA_OFFSET p]

/-- EN and RESETTING show, with the four offsets. -/
def State.winShown (s : State) (p : Nat) (l : Layout) : State :=
  (((((s.setb (F.GRT_WIN_CFG_EN p) true).setb (F.GRT_WIN_STS_RESETTING p) true).set (F.GRT_OFF_CRING_OFFSET p) l.cring).set
    (F.GRT_OFF_CPL_OFFSET p) l.cpl).set (F.GRT_OFF_FLAG_OFFSET p) l.flag).set (F.GRT_OFF_DATA_OFFSET p) l.data

theorem State.winShown_kept (s : State) (p : Nat) (l : Layout) : Kept [] (offFlds p) s (s.winShown p l) :=
  ((((((Kept.refl _ _ s).setb (by simp [offFlds])).setb (by simp [offFlds])).set (by simp [offFlds])).set (by simp [offFlds])).set
    (by simp [offFlds])).set (by simp [offFlds])

theorem State.getb_winShown (hp : p < 2) (s : State) (l : Layout) :
    (s.winShown p l).getb (F.GRT_WIN_CFG_EN p) = true ∧ (s.winShown p l).getb (F.GRT_WIN_STS_RESETTING p) = true := by
  rcases eq_zero_or_one hp with rfl | rfl <;>
  simp [State.winShown, State.getb, State.setb_eq, State.get_set, Fld.key, b2n, F.GRT_WIN_CFG_EN, F.GRT_WIN_STS_RESETTING, F.GRT_OFF_CRING_OFFSET,
    F.GRT_OFF_CPL_OFFSET, F.GRT_OFF_FLAG_OFFSET, F.GRT_OFF_DATA_OFFSET]

theorem State.get_winShown (s : State) (p : Nat) (l : Layout) :
    (s.winShown p l).get (F.GRT_OFF_CRING_OFFSET p) = l.cring % 2 ^ 35 ∧ (s.winShown p l).get (F.GRT_OFF_CPL_OFFSET p) = l.cpl % 2 ^ 35 ∧
    (s.winShown p l).get (F.GRT_OFF_FLAG_OFFSET p) = l.flag % 2 ^ 35 ∧ (s.winShown p l).get (F.GRT_OFF_DATA_OFFSET p) = l.data % 2 ^ 35 := by
  simp [State.winShown, State.get_set, Fld.key, F.GRT_OFF_CRING_OFFSET, F.GRT_OFF_CPL_OFFSET, F.GRT_OFF_FLAG_OFFSET, F.GRT_OFF_DATA_OFFSET]

theorem State.giveBacking_kept (s : State) (p : Nat) : Kept [.ports, .free] [] s (s.giveBacking p) := by
  unfold State.giveBacking
  split
  · exact Kept.refl _ _ s
  · exact ((Kept.refl _ _ s).updPort (f := fun h => { h with backing := s.freeValue.toNat % 2 ^ 36 * 64 }) (by simp) p fun _ => rfl).taken (by simp) 1

theorem State.giveBacking_given (h : (s.port p).backing ≠ 0) : s.giveBacking p = s := by simp [State.giveBacking, h]

/-- The layout in force is what the registers give. -/
def Window.laidOut (w : Window) (s : State) (p z : Nat) : Window :=
  { w with
    rings := s.get (F.GRT_WIN_CFG_RINGS_M1 p) + 1, depth := 2 ^ s.get (F.GRT_WIN_CFG_DEPTH_LOG2 p), slots := s.get (F.GRT_WIN_SLOTS_SLOTS p), slotSize := z
    byReset := false }

theorem State.winEnable_refused (h : s.layout p = none) : s.winEnable p = s.winErr p F.GRT_WIN_ERR_LAYOUT 0x0714 := by
  simp only [State.winEnable, h]

theorem State.winEnable_accepted (h : s.layout p = some (l, z)) : s.winEnable p =
    ((((s.giveBacking p).winShown p l).updWin p (·.laidOut ((s.giveBacking p).winShown p l) p z)).showMem p) := by
  simp only [State.winEnable, h]
  rfl

theorem State.winEnable_kept (h : s.layout p = some (l, z)) :
    Kept [.wins] [F.HST_LINK_STS_MEM_ON p] ((s.giveBacking p).winShown p l) (s.winEnable p) := by
  rw [State.winEnable_accepted h]
  exact ((Kept.refl _ _ _).updWin (by simp) p _).trans ((State.showMem_kept _ p).widen (by simp) (fun _ h => h))

theorem State.winEnable_win (h : s.layout p = some (l, z)) : (s.winEnable p).win p = (s.win p).laidOut ((s.giveBacking p).winShown p l) p z := by
  have hwin : ((s.giveBacking p).winShown p l).win p = s.win p := by
    rw [State.win, State.win, (State.winShown_kept _ p l).wins_eq (by simp), (s.giveBacking_kept p).wins_eq (by simp)]
  rw [State.winEnable_accepted h, ← hwin]
  exact State.win_updWin p (·.laidOut ((s.giveBacking p).winShown p l) p z)

/-- What EN 1 changes. -/
def enableFlds (p : Nat) : List Fld := [F.GRT_WIN_CFG_RINGS_M1 p, F.GRT_WIN_CFG_DEPTH_LOG2 p, F.GRT_WIN_CFG_SLOT_SZ p, F.GRT_WIN_CFG_SIZE p,
  F.GRT_WIN_CFG_EN p, F.GRT_WIN_STS_RESETTING p, F.GRT_OFF_CRING_OFFSET p, F.GRT_OFF_CPL_OFFSET p, F.GRT_OFF_FLAG_OFFSET p,
  F.GRT_OFF_DATA_OFFSET p, F.HST_LINK_STS_MEM_ON p]

/-- The device accepts the layout of the write. -/
theorem State.layout_cfgTaken (hp : p < 2) (hrg : rg = v / 2 ^ 24 % 64 + 1) (hd : d = 2 ^ (v / 2 ^ 20 % 16))
    (hn : n = s.get (F.GRT_WIN_SLOTS_SLOTS p)) (hd0 : 64 ≤ d) (hd1 : d ≤ 4096) (hn0 : 1 ≤ n) (hn1 : n ≤ 65536)
    (hz : slotBytes (v / 2 ^ 16 % 16) = some z) (hsize : v / 2 ^ 8 % 256 ≤ 128) (hfit : (layoutOf rg d n z).stop ≤ v / 2 ^ 8 % 256 * 2 ^ 28) :
    (s.cfgTaken p v).layout p = some (layoutOf rg d n z, z) := by
  obtain ⟨hrings, hlog, hsz, hmib⟩ := s.get_cfgTaken p v
  have hslots : (s.cfgTaken p v).get (F.GRT_WIN_SLOTS_SLOTS p) = n :=
    ((s.cfgTaken_kept p v).get_eq (by rcases eq_zero_or_one hp with rfl | rfl <;> decide)).trans hn.symm
  rw [← hsz] at hz
  rw [← hlog] at hd
  rw [← hmib] at hsize hfit
  rw [← hrings] at hrg
  subst hrg
  exact State.layout_some hz hd hd0 hd1 hslots.symm hn0 hn1 hsize hfit

theorem winEnable_comesUp (hp : p < 2) (hw : s.writable r (R.GRT_WIN_CFG + 0x10000 * p) = true) (hen : s.getb (F.GRT_WIN_CFG_EN p) = false)
    (hrg : rg = v / 2 ^ 24 % 64 + 1) (hd : d = 2 ^ (v / 2 ^ 20 % 16)) (hn : n = s.get (F.GRT_WIN_SLOTS_SLOTS p)) (hd0 : 64 ≤ d) (hd1 : d ≤ 4096)
    (hn0 : 1 ≤ n) (hn1 : n ≤ 65536) (hz : slotBytes (v / 2 ^ 16 % 16) = some z) (hsize : v / 2 ^ 8 % 256 ≤ 128)
    (hfit : (layoutOf rg d n z).stop ≤ v / 2 ^ 8 % 256 * 2 ^ 28) :
    Does (.winEnable r p v) s [.wins, .ports, .free] (enableFlds p) (fun t =>
      t.getb (F.GRT_WIN_CFG_EN p) = true ∧ t.getb (F.GRT_WIN_STS_RESETTING p) = true ∧ t.get (F.GRT_OFF_CRING_OFFSET p) = 0x1000 ∧
      t.get (F.GRT_OFF_CPL_OFFSET p) = 0x1000 + rg * d * 64 ∧
      t.get (F.GRT_OFF_FLAG_OFFSET p) = (0x1000 + rg * d * 96 + 4095) / 4096 * 4096 ∧
      t.get (F.GRT_OFF_DATA_OFFSET p) = ((0x1000 + rg * d * 96 + 4095) / 4096 * 4096 + n * 64 + 2097151) / 2097152 * 2097152 ∧
      ((s.port p).backing ≠ 0 → (t.port p).backing = (s.port p).backing) ∧ (t.win p).rings = rg ∧ (t.win p).depth = d ∧ (t.win p).slots = n ∧
      (t.win p).slotSize = z) := by
  have hcfg := s.cfgTaken_kept p v
  obtain ⟨hrings, hlog, hsz, hmib⟩ := s.get_cfgTaken p v
  have hslots : (s.cfgTaken p v).get (F.GRT_WIN_SLOTS_SLOTS p) = n :=
    (hcfg.get_eq (by rcases eq_zero_or_one hp with rfl | rfl <;> decide)).trans hn.symm
  have hlayout := State.layout_cfgTaken hp hrg hd hn hd0 hd1 hn0 hn1 hz hsize hfit
  have hex := exec_winEnable (v := v) hw hen
  have hback : ((s.cfgTaken p v).port p).backing = (s.port p).backing := (congrArg HostPort.backing (hcfg.port_eq (by simp) p) :)
  generalize s.cfgTaken p v = u at hcfg hrings hlog hsz hmib hslots hlayout hex hback
  obtain ⟨hcring, hcpl, hflag, hdata⟩ := layoutOf_offsets rg d n z
  have hrg64 : rg ≤ 64 := by
    rw [hrg]
    exact Nat.mod_lt _ (by decide)
  obtain ⟨lcring, lcpl, lflag, ldata⟩ := layoutOf_lt (z := z) hrg64 hd1 hn1
  have hgive := u.giveBacking_kept p
  have hshown := (u.giveBacking p).winShown_kept p (layoutOf rg d n z)
  obtain ⟨ben, bres⟩ := State.getb_winShown hp (u.giveBacking p) (layoutOf rg d n z)
  obtain ⟨ocring, ocpl, oflag, odata⟩ := (u.giveBacking p).get_winShown p (layoutOf rg d n z)
  rw [Nat.mod_eq_of_lt lcring, hcring] at ocring
  rw [Nat.mod_eq_of_lt lcpl, hcpl] at ocpl
  rw [Nat.mod_eq_of_lt lflag, hflag] at oflag
  rw [Nat.mod_eq_of_lt ldata, hdata] at odata
  have hlate := State.winEnable_kept hlayout
  have hwin := State.winEnable_win hlayout
  have hkeep : Kept [.ports, .free] (offFlds p) u ((u.giveBacking p).winShown p (layoutOf rg d n z)) :=
    (hgive.widen (fun _ h => h) (by simp)).trans (hshown.widen (by simp) (fun _ h => h))
  have hport : (u.port p).backing ≠ 0 → ((u.winEnable p).port p).backing = (u.port p).backing := fun h => by
    have hsame := congrArg HostPort.backing (hshown.port_eq (by simp) p)
    rw [State.giveBacking_given h] at hsame hlate
    exact (congrArg HostPort.backing (hlate.port_eq (by simp) p) :).trans hsame
  generalize (u.giveBacking p).winShown p (layoutOf rg d n z) = w at ben bres ocring ocpl oflag odata hlate hwin hkeep
  have hrings' := (hkeep.get_eq (by rcases eq_zero_or_one hp with rfl | rfl <;> decide)).trans hrings
  have hlog' := (hkeep.get_eq (by rcases eq_zero_or_one hp with rfl | rfl <;> decide)).trans hlog
  have hslots' := (hkeep.get_eq (by rcases eq_zero_or_one hp with rfl | rfl <;> decide)).trans hslots
  refine ⟨_, hex, ⟨(hlate.getb_eq ?_).trans ben, (hlate.getb_eq ?_).trans bres, (hlate.get_eq ?_).trans ocring, (hlate.get_eq ?_).trans ocpl,
    (hlate.get_eq ?_).trans oflag, (hlate.get_eq ?_).trans odata, fun h => (hport (hback ▸ h)).trans hback, ?_, ?_, ?_, ?_⟩, ?_⟩
  case refine_7 => simp only [hwin, Window.laidOut, hrings', hrg]
  case refine_8 => simp only [hwin, Window.laidOut, hlog', hd]
  case refine_9 => simp only [hwin, Window.laidOut, hslots']
  case refine_10 => simp only [hwin, Window.laidOut]
  case refine_11 =>
    exact ((hcfg.widen (by simp) (by simp +contextual [cfgFlds, enableFlds, or_imp])).trans
      (hkeep.widen (by simp) (by simp +contextual [offFlds, enableFlds, or_imp]))).trans (hlate.widen (by simp) (by simp [enableFlds]))
  all_goals rcases eq_zero_or_one hp with rfl | rfl <;> decide

theorem winEnable_refuses (hp : p < 2) (hw : s.writable r (R.GRT_WIN_CFG + 0x10000 * p) = true) (hen : s.getb (F.GRT_WIN_CFG_EN p) = false)
    (h : s.get (F.GRT_WIN_SLOTS_SLOTS p) = 0 ∨ 6 ≤ v / 2 ^ 16 % 16) :
    Gives (.winEnable r p v) s (fun t => t.getb (F.GRT_WIN_CFG_EN p) = false ∧ t.getb (F.GRT_WIN_ERR_LAYOUT p) = true ∧ t.wins = s.wins) := by
  have hcfg := s.cfgTaken_kept p v
  obtain ⟨-, -, hsz, -⟩ := s.get_cfgTaken p v
  have hslots : (s.cfgTaken p v).get (F.GRT_WIN_SLOTS_SLOTS p) = s.get (F.GRT_WIN_SLOTS_SLOTS p) :=
    hcfg.get_eq (by rcases eq_zero_or_one hp with rfl | rfl <;> decide)
  have hex := exec_winEnable (v := v) hw hen
  rw [State.winEnable_refused (State.layout_none (by rwa [hslots, hsz]))] at hex
  have herr := (hcfg.widen (by simp) (by simp +contextual)).winErr (p := p) (f := F.GRT_WIN_ERR_LAYOUT)
    (ps := logParts) (fs := F.GRT_WIN_ERR_LAYOUT p :: (logFlds ++ cfgFlds p)) (fun _ h => h) (by simp +contextual) (by simp) 0x0714
  refine ⟨_, hex, (herr.getb_eq ?_).trans hen, State.getb_winErr Nat.one_pos ?_, herr.wins_eq (by decide)⟩
  all_goals rcases eq_zero_or_one hp with rfl | rfl <;> decide

end Sys2Proof.Machine
end

section
/-! A window reset begins and ends (R78, R102), a window behind which plain memory stands (R51), and slots that enter a state (R79-R83). -/

namespace Sys2Proof.Tab

/-- Every key below `n` changes once, by its own entry. -/
theorem getD_foldl_put {α : Type} (f : α → α) (d : α) (t : Tab α) (k : Nat) : ∀ n,
    getD ((List.range n).foldl (fun t i => put t i (f (getD t i d))) t) k d = if k < n then f (getD t k d) else getD t k d
  | 0 => by simp
  | n + 1 => by
    rw [List.range_succ, List.foldl_append, List.foldl_cons, List.foldl_nil, getD_put]
    split
    · next he => rw [he, getD_foldl_put f d t n n, if_neg (Nat.lt_irrefl n), if_pos (Nat.lt_succ_self n)]
    · next he =>
      rw [getD_foldl_put f d t k n]
      exact if_congr (by omega) rfl rfl

end Sys2Proof.Tab

namespace Sys2Proof.Machine

variable {ps : List Part} {fs : List Fld} {s t : State} {p i v : Nat} {r : Req}

/-! ### A reset begins (R102) -/

theorem State.winReset_kept (h : (s.win p).slots ≠ 0) (byPort : Bool) : Kept winParts (F.HST_LINK_STS_MEM_ON p :: logFlds)
    ((s.setb (F.GRT_WIN_STS_RESETTING p) true).setb (F.GRT_WIN_STS_READY p) false) (s.winReset p byPort) := by
  rw [State.winReset_eq h, State.winDropped]
  generalize (s.setb (F.GRT_WIN_STS_RESETTING p) true).setb (F.GRT_WIN_STS_READY p) false = u
  have hrec : Kept winParts (F.HST_LINK_STS_MEM_ON p :: logFlds) u (u.recordMsOf 0x0713 p (w1 p)) :=
    (Kept.refl _ _ u).recordMsOf (by simp +contextual [winParts]) (by simp +contextual)
  exact (((hrec.trans ((State.dropFetched_kept _ _).widen (by simp +contextual [winParts]) (by simp))).updWin (by simp [winParts]) p _).updPort
    (f := fun h => { h with clean := [] }) (by simp [winParts]) p fun _ => rfl).trans ((State.showMem_kept _ p).widen (by simp) (by simp))

theorem winDisable_resets (hp : p < 2) (hw : s.writable r (R.GRT_WIN_CFG + 0x10000 * p) = true) (hen : s.getb (F.GRT_WIN_CFG_EN p) = true)
    (hs : (s.win p).slots ≠ 0) (hsize : v / 2 ^ 8 % 256 ≤ 128)
    (hfit : (layoutOf (s.win p).rings (s.win p).depth (s.win p).slots (s.win p).slotSize).stop ≤ v / 2 ^ 8 % 256 * 2 ^ 28) :
    Gives (.winDisable r p v) s (fun t => t.getb (F.GRT_WIN_CFG_EN p) = false ∧ t.getb (F.GRT_WIN_STS_RESETTING p) = true ∧
      t.getb (F.GRT_WIN_STS_READY p) = false) := by
  have heff : s.writeWinCfg p (clrBit v 31) = _ := State.writeWinCfg_enabled hen hsize hfit false
  rw [if_neg (by decide)] at heff
  have hen0 : ((s.set (F.GRT_WIN_CFG_SIZE p) (v / 2 ^ 8 % 256)).setb (F.GRT_WIN_CFG_EN p) false).getb (F.GRT_WIN_CFG_EN p) = false :=
    State.getb_setb_same Nat.one_pos
  have hs' : (((s.set (F.GRT_WIN_CFG_SIZE p) (v / 2 ^ 8 % 256)).setb (F.GRT_WIN_CFG_EN p) false).win p).slots ≠ 0 := hs
  generalize (s.set (F.GRT_WIN_CFG_SIZE p) (v / 2 ^ 8 % 256)).setb (F.GRT_WIN_CFG_EN p) false = u at heff hen0 hs'
  have hkept := State.winReset_kept hs' false
  have hex : exec (.winDisable r p v) s = .next (u.winReset p false) := by
    simp only [exec, execWinDisable, winCfgAt, State.withWrite_writable hw, heff]
  refine ⟨_, hex, (hkept.getb_eq ?_).trans (((congrArg (· != 0) (State.get_setb_other ?_)).trans
    (congrArg (· != 0) (State.get_setb_other ?_))).trans hen0), (hkept.getb_eq ?_).trans ((congrArg (· != 0) (State.get_setb_other ?_)).trans
    (State.getb_setb_same Nat.one_pos)), (hkept.getb_eq ?_).trans (State.getb_setb_same Nat.one_pos)⟩
  all_goals rcases eq_zero_or_one hp with rfl | rfl <;> decide

theorem winSizeWrite_grows (hw : s.writable r (R.GRT_WIN_CFG + 0x10000 * p) = true) (hen : s.getb (F.GRT_WIN_CFG_EN p) = true)
    (hsize : v / 2 ^ 8 % 256 ≤ 128)
    (hfit : (layoutOf (s.win p).rings (s.win p).depth (s.win p).slots (s.win p).slotSize).stop ≤ v / 2 ^ 8 % 256 * 2 ^ 28) :
    Does (.winSizeWrite r p v) s [] [F.GRT_WIN_CFG_SIZE p] (fun t => t.get (F.GRT_WIN_CFG_SIZE p) = v / 2 ^ 8 % 256) := by
  have heff := State.writeWinCfg_enabled hen hsize hfit true
  rw [if_pos rfl] at heff
  have hex : exec (.winSizeWrite r p v) s = .next (s.set (F.GRT_WIN_CFG_SIZE p) (v / 2 ^ 8 % 256)) := by
    simp only [exec, execWinSizeWrite, winCfgAt, State.withWrite_writable hw, hen, heff]
  exact ⟨_, hex, (State.get_set_same _ _ _).trans (Nat.mod_mod _ 256), (Kept.refl _ _ s).set (by simp)⟩

/-! ### Plain memory behind a window (R51) -/

theorem State.port_bare (hp : p < 2) (h : s.bareDdr = true) : (s.port p).filter = [] ∧ (s.port p).poison = [] ∧ (s.port p).devq = [] := by
  simp only [State.bareDdr, Bool.and_eq_true, List.all_cons, List.all_nil, Bool.and_true, List.isEmpty_iff] at h
  obtain ⟨-, ⟨⟨h0, h0'⟩, h0''⟩, ⟨h1, h1'⟩, h1''⟩ := h
  rcases eq_zero_or_one hp with rfl | rfl
  · exact ⟨h0, h0', h0''⟩
  · exact ⟨h1, h1', h1''⟩

theorem State.tracked_none (h : (s.port p).filter = []) (line : Nat) : s.tracked p line = false := by simp [State.tracked, h]

theorem State.readable_none (hf : (s.port p).filter = []) (hd : (s.port p).devq = []) (line : Nat) : s.readable p line = true := by
  simp [State.readable, State.tracked_none hf, hd]

theorem State.devWrite_kept (s : State) (p off : Nat) (b : Bytes) (irq : Option Nat) : Kept agentParts ichCounts s (s.devWrite p off b irq) := by
  unfold State.devWrite
  exact ((Kept.refl _ _ s).updPortAll (by simp [agentParts]) (by simp [agentParts]) p _).trans (State.pumpWrites_kept p _ _)

theorem State.writeFlag_kept (s : State) (p i : Nat) : Kept agentParts ichCounts s (s.writeFlag p i) := s.devWrite_kept p _ _ none

theorem Kept.win_eq (h : Kept ps fs s t) (hp : Part.wins ∉ ps) (p : Nat) : t.win p = s.win p := by rw [State.win, State.win, h.wins_eq hp]

theorem Kept.flag_eq (h : Kept ps fs s t) (hp : Part.wins ∉ ps) (p i : Nat) : t.flag p i = s.flag p i := by
  rw [State.flag, State.flag, h.win_eq hp]

/-! ### A reset ends (R78, R102) -/

/-- Every slot FREE with GEN one higher, and the rings empty. -/
def Window.fresh (w : Window) : Window :=
  { w with
    flags := (List.range w.slots).foldl (fun t i => Tab.put t i { gen := ((Tab.getD t i {}).gen + 1) % 256 }) w.flags
    ring := [], freeOrder := List.range w.slots, xrdyAt := [], writeFail := [], doneq := [] }

theorem State.winFresh_eq (s : State) (p : Nat) : s.winFresh p =
    ((List.range (s.win p).slots).foldl (fun s i => s.writeFlag p i) (s.updWin p Window.fresh)).devWrite p
      (((List.range (s.win p).slots).foldl (fun s i => s.writeFlag p i) (s.updWin p Window.fresh)).get (F.GRT_OFF_CPL_OFFSET p))
      (zeroBytes ((s.win p).rings * (s.win p).depth * 32)) := rfl

theorem State.winFresh_kept (s : State) (p : Nat) : Kept agentParts ichCounts (s.updWin p Window.fresh) (s.winFresh p) := by
  rw [State.winFresh_eq]
  exact (Kept.foldl (fun u i => u.writeFlag_kept p i) _ _).trans (State.devWrite_kept _ _ _ _ _)

theorem State.win_winFresh (s : State) (p : Nat) : (s.winFresh p).win p = (s.win p).fresh := by
  rw [(s.winFresh_kept p).win_eq (by decide), State.win_updWin]

theorem Window.flag_fresh (w : Window) (h : i < w.slots) : Tab.getD w.fresh.flags i {} = { gen := ((Tab.getD w.flags i {}).gen + 1) % 256 } := by
  have hfold := Tab.getD_foldl_put (fun x => { gen := (x.gen + 1) % 256 }) {} w.flags i w.slots
  rwa [if_pos h] at hfold

/-- READY follows EN at the end of a reset, with its vector. -/
def State.showReady (s : State) (p : Nat) : State :=
  if s.getb (F.GRT_WIN_CFG_EN p) then
    let s := s.setb (F.GRT_WIN_STS_READY p) true
    if s.bitOf (F.GRT_IRQ_EN_EN p) 2 then s.irq p 2042 else s
  else s

theorem State.showReady_enabled (h : s.getb (F.GRT_WIN_CFG_EN p) = true) :
    Kept [.out, .irqPend] [] (s.setb (F.GRT_WIN_STS_READY p) true) (s.showReady p) := by
  have h0 := Kept.refl [.out, .irqPend] [] (s.setb (F.GRT_WIN_STS_READY p) true)
  rw [State.showReady, if_pos h]
  dsimp only
  split
  · exact h0.irq (by simp) (by simp)
  · exact h0

theorem State.showReady_kept (s : State) (p : Nat) : Kept [.out, .irqPend] [F.GRT_WIN_STS_READY p] s (s.showReady p) := by
  by_cases h : s.getb (F.GRT_WIN_CFG_EN p) = true
  · exact ((Kept.refl _ _ s).setb (by simp)).trans ((State.showReady_enabled h).widen (fun _ h => h) (by simp))
  · rw [State.showReady, if_neg h]
    exact Kept.refl _ _ s

theorem exec_windowReady (hr : s.getb (F.GRT_WIN_STS_RESETTING p) = true) (hf : (s.port p).filter = []) (hd : (s.port p).devq = []) :
    exec (.windowReady p) s = .next ((((s.winFresh p).setb (F.GRT_WIN_STS_RESETTING p) false).showReady p).showMem p) := by
  have hany : ∀ l : List Nat, l.any (s.tracked p) = false := fun l => List.any_eq_false.mpr fun x _ => by simp [State.tracked_none hf]
  simp only [exec, execWindowReady, hr, hany, hd, List.isEmpty_nil, Bool.not_true, Bool.or_self, Bool.false_eq_true, if_false]
  rfl

theorem windowReady_ends (hp : p < 2) (hr : s.getb (F.GRT_WIN_STS_RESETTING p) = true) (hb : s.bareDdr = true) :
    Gives (.windowReady p) s (fun t => t.getb (F.GRT_WIN_STS_RESETTING p) = false ∧
      (s.getb (F.GRT_WIN_CFG_EN p) = true → t.getb (F.GRT_WIN_STS_READY p) = true) ∧
      (∀ i, i < (s.win p).slots → t.flag p i = { gen := ((s.flag p i).gen + 1) % 256 }) ∧ (t.win p).freeOrder = List.range (s.win p).slots ∧
      (t.win p).ring = []) := by
  obtain ⟨hf, -, hd⟩ := State.port_bare hp hb
  have hex := exec_windowReady hr hf hd
  have hwin := s.win_winFresh p
  have hen : (s.winFresh p).getb (F.GRT_WIN_CFG_EN p) = s.getb (F.GRT_WIN_CFG_EN p) :=
    (s.winFresh_kept p).getb_eq (by rcases eq_zero_or_one hp with rfl | rfl <;> decide)
  generalize s.winFresh p = u at hex hwin hen
  have hready := (u.setb (F.GRT_WIN_STS_RESETTING p) false).showReady_kept p
  have hmem := ((u.setb (F.GRT_WIN_STS_RESETTING p) false).showReady p).showMem_kept p
  have hwin' : ((((u.setb (F.GRT_WIN_STS_RESETTING p) false).showReady p).showMem p)).win p = (s.win p).fresh :=
    (hmem.win_eq (by decide) p).trans ((hready.win_eq (by decide) p).trans hwin)
  refine ⟨_, hex, (hmem.getb_eq ?_).trans ((hready.getb_eq ?_).trans (State.getb_setb_same Nat.one_pos)), fun h => ?_, fun i hi => ?_, ?_, ?_⟩
  case refine_3 =>
    have hen' : (u.setb (F.GRT_WIN_STS_RESETTING p) false).getb (F.GRT_WIN_CFG_EN p) = true :=
      (congrArg (· != 0) (State.get_setb_other (by rcases eq_zero_or_one hp with rfl | rfl <;> decide))).trans (hen.trans h)
    refine (hmem.getb_eq ?_).trans (((State.showReady_enabled hen').getb_eq (by simp)).trans (State.getb_setb_same Nat.one_pos))
    rcases eq_zero_or_one hp with rfl | rfl <;> decide
  case refine_4 =>
    rw [State.flag, hwin']
    exact Window.flag_fresh _ hi
  case refine_5 => rw [hwin']; rfl
  case refine_6 => rw [hwin']; rfl
  all_goals rcases eq_zero_or_one hp with rfl | rfl <;> decide

/-! ### Slots (R79-R83) -/

/-- The device copy of a slot that enters a state. -/
def Flag.enter (old : Flag) (state code count tag : Nat) : Flag :=
  if state = 0 then { gen := old.gen }
  else { state, gen := if old.state = 0 ∨ state = 6 then (old.gen + 1) % 256 else old.gen, code, count, tag }

theorem State.setSlot_kept (s : State) (p i state code count tag : Nat) :
    Kept (.wins :: agentParts) ichCounts s (s.setSlot p i state code count tag) :=
  ((Kept.refl _ _ s).updWin (by simp) p _).trans ((State.writeFlag_kept _ p i).widen (by simp +contextual) (fun _ h => h))

theorem State.flag_setSlot (s : State) (p i state code count tag : Nat) :
    (s.setSlot p i state code count tag).flag p i = (s.flag p i).enter state code count tag := by
  unfold State.setSlot
  dsimp only
  rw [(State.writeFlag_kept _ p i).flag_eq (by decide), State.flag, State.win_updWin, Tab.getD_put, if_pos rfl, Flag.enter]
  by_cases h : state = 0 <;> simp [h]

theorem State.freeOrder_setSlot (s : State) (p i state code count tag : Nat) :
    ((s.setSlot p i state code count tag).win p).freeOrder = if state = 0 then (if (s.flag p i).state = 0 then (s.win p).freeOrder
      else (s.win p).freeOrder ++ [i]) else (s.win p).freeOrder.filter (· != i) := by
  unfold State.setSlot
  dsimp only
  rw [(State.writeFlag_kept _ p i).win_eq (by decide), State.win_updWin]
  by_cases h : state = 0
  · by_cases h' : (s.flag p i).state = 0 <;> simp [h, h']
  · have hlive : (state == 0) = false := beq_false_of_ne h
    simp [h, hlive]

end Sys2Proof.Machine
end

section
/-! The doorbells of a Grate window (R82, R87, R53, R100). -/

namespace Sys2Proof.Machine

variable {ps : List Part} {fs : List Fld} {s t : State} {p r i a : Nat} {q : Req}

theorem State.doorbell_rings (hmd : s.md ≠ mBanked) (hw : s.writable q a = true) (hr : s.getb (F.GRT_WIN_STS_READY p) = true) (c : Instr)
    (eff : State → State) : s.doorbell q c p a eff = eff s := by
  simp [State.doorbell, hmd, State.withWrite_writable hw, hr]

theorem State.ring_updRing (s : State) (p r j : Nat) (f : Ring → Ring) : (s.updRing p r f).ring p j = if j = r then f (s.ring p r) else s.ring p j := by
  simp only [State.ring, State.updRing, State.win_updWin, Tab.getD_upd]

theorem State.updRing_kept (s : State) (p r : Nat) (f : Ring → Ring) : Kept [.wins] [] s (s.updRing p r f) := (Kept.refl _ _ s).updWin (by simp) p _

/-! ### Rings (R87) -/

theorem cmdDoorbell_movesTail (hmd : s.md ≠ mBanked) (hw : s.writable q (R.GRT_CMD_DB + 0x10000 * p + 8 * r) = true)
    (hr : s.getb (F.GRT_WIN_STS_READY p) = true) (hrings : r < (s.win p).rings) (hi : i < (s.win p).depth)
    (hd : ringDist (s.win p).depth (s.ring p r).head (s.ring p r).tail ≤ ringDist (s.win p).depth (s.ring p r).head i) :
    Does (.cmdDoorbell q p r i) s [.wins] [] (fun t => t.ring p r = { s.ring p r with tail := i } ∧ ∀ j, j ≠ r → t.ring p j = s.ring p j) := by
  have hex : exec (.cmdDoorbell q p r i) s = .next (s.updRing p r (fun x => { x with tail := i })) := by
    simp only [exec, execCmdDoorbell, State.doorbell_rings hmd hw hr]
    rw [if_neg (by simp; omega)]
  exact ⟨_, hex, ⟨(s.ring_updRing p r r _).trans (if_pos rfl), fun j hj => (s.ring_updRing p r j _).trans (if_neg hj)⟩, s.updRing_kept p r _⟩

theorem cmdDoorbell_outOfRange (hp : p < 2) (hmd : s.md ≠ mBanked) (hw : s.writable q (R.GRT_CMD_DB + 0x10000 * p + 8 * r) = true)
    (hr : s.getb (F.GRT_WIN_STS_READY p) = true) (hi : (s.win p).depth ≤ i) :
    Gives (.cmdDoorbell q p r i) s (fun t => t.getb (F.GRT_WIN_ERR_DB_RANGE p) = true ∧ t.wins = s.wins) := by
  have hex : exec (.cmdDoorbell q p r i) s = .next (s.winErr p F.GRT_WIN_ERR_DB_RANGE 0x0715) := by
    simp only [exec, execCmdDoorbell, State.doorbell_rings hmd hw hr]
    rw [if_pos (by simp [hi])]
  refine ⟨_, hex, State.getb_winErr Nat.one_pos ?_, (s.winErr_kept p _ _).wins_eq (by decide)⟩
  rcases eq_zero_or_one hp with rfl | rfl <;> decide

theorem cplDoorbell_movesHead (hmd : s.md ≠ mBanked) (hw : s.writable q (R.GRT_CPL_DB + 0x10000 * p + 8 * r) = true)
    (hr : s.getb (F.GRT_WIN_STS_READY p) = true) (hrings : r < (s.win p).rings) (hi : i < (s.win p).depth)
    (hd : ringDist (s.win p).depth (s.ring p r).chead i ≤ ringDist (s.win p).depth (s.ring p r).chead (s.ring p r).post) :
    Does (.cplDoorbell q p r i) s [.wins] [] (fun t => t.ring p r = { s.ring p r with chead := i }) := by
  have hex : exec (.cplDoorbell q p r i) s = .next (s.updRing p r (fun x => { x with chead := i })) := by
    simp only [exec, execCplDoorbell, State.doorbell_rings hmd hw hr]
    rw [if_neg (by simp; omega)]
  exact ⟨_, hex, (s.ring_updRing p r r _).trans (if_pos rfl), s.updRing_kept p r _⟩

/-! ### A slot's flag word is read (R82) -/

/-- The state in which the flag word of a slot is read in answer to its doorbell; `ecc` says that DDR returns an uncorrectable error. -/
def State.doneRead (s : State) (p i : Nat) (ecc : Bool) : State :=
  (((if ecc then s.spoil p (s.flagLine p i) else s).updWin p (fun w => { w with doneq := w.doneq ++ [i] })).usedLines p [s.flagLine p i]).updWin p
    (fun w => { w with doneq := w.doneq.filter (· != i) })

theorem Kept.spoil (h : Kept ps fs s t) (hp : Part.ports ∈ ps) (p line : Nat) : Kept ps fs s (t.spoil p line) :=
  h.updPort (f := fun h => { h with poison := if h.poison.contains line then h.poison else line :: h.poison }) hp p fun _ => rfl

theorem State.doneRead_kept (s : State) (p i : Nat) (ecc : Bool) : Kept [.wins, .ports] [] s (s.doneRead p i ecc) := by
  have hspoil : Kept [.wins, .ports] [] s (if ecc then s.spoil p (s.flagLine p i) else s) := by
    split
    · exact (Kept.refl _ _ s).spoil (by simp) p _
    · exact Kept.refl _ _ s
  exact ((hspoil.updWin (by simp) p _).updPort (f := fun h => { h with clean := h.clean.filter (fun l => !([s.flagLine p i].contains l)) })
    (by simp) p fun _ => rfl).updWin (by simp) p _

theorem State.doneRead_win (s : State) (p i : Nat) (ecc : Bool) :
    (s.doneRead p i ecc).win p = { s.win p with doneq := ((s.win p).doneq ++ [i]).filter (· != i) } := by
  have hspoil : (if ecc then s.spoil p (s.flagLine p i) else s).win p = s.win p := by split <;> rfl
  have hinner := State.win_updWin (s := if ecc then s.spoil p (s.flagLine p i) else s) p (fun w => { w with doneq := w.doneq ++ [i] })
  rw [hspoil] at hinner
  have houter := State.win_updWin (s := ((if ecc then s.spoil p (s.flagLine p i) else s).updWin p (fun w => { w with doneq := w.doneq ++ [i] })).usedLines p
    [s.flagLine p i]) p (fun w => { w with doneq := w.doneq.filter (· != i) })
  exact houter.trans (congrArg (fun w : Window => { w with doneq := w.doneq.filter (· != i) }) hinner)

theorem State.doneRead_flag (s : State) (p i : Nat) (ecc : Bool) : (s.doneRead p i ecc).flag p i = s.flag p i := by
  rw [State.flag, State.doneRead_win]
  rfl

theorem State.updWin_port (s : State) (p : Nat) (f : Window → Window) (q : Nat) : (s.updWin p f).port q = s.port q := rfl

theorem State.doneRead_poison (h : (s.port p).poison = []) (i : Nat) (ecc : Bool) :
    ((s.doneRead p i ecc).port p).poison = if ecc then [s.flagLine p i] else [] := by
  cases ecc with
  | false => simp [State.doneRead, State.usedLines, State.updWin_port, State.updPort_port, h]
  | true => simp [State.doneRead, State.usedLines, State.spoil, State.updWin_port, State.updPort_port, h]

theorem State.doneRead_bare (h : s.bareIch = true) (p i : Nat) (ecc : Bool) : (s.doneRead p i ecc).bareIch = true := by
  cases ecc <;> exact h

theorem State.doneRead_word (s : State) (p i : Nat) : (s.doneRead p i false).flagWord p i = s.flagWord p i := by
  have hport : ((s.doneRead p i false).port p).backing = (s.port p).backing := by
    simp [State.doneRead, State.usedLines, State.updWin_port, State.updPort_port]
  rw [State.flagWord, State.winBytes, hport]
  rfl

/-- The one doorbell that waits is answered: the host does not hold the flag line. -/
theorem State.pumpDone_one (hd : (s.win p).doneq = [i]) (hr : s.readable p (s.flagLine p i) = true) (hb : s.bareIch = true)
    (ho : (s.flag p i).hostOwned = true) : s.pumpDone p =
      ((s.usedLines p [s.flagLine p i]).updWin p (fun w => { w with doneq := w.doneq.filter (· != i) })).readDone? p i := by
  generalize hu : (s.usedLines p [s.flagLine p i]).updWin p (fun w => { w with doneq := w.doneq.filter (· != i) }) = u
  have hbare : u.bareIch = true := hu ▸ hb
  have hflag : u.flag p i = s.flag p i := by
    rw [← hu, State.flag, State.win_updWin]
    rfl
  simp only [State.pumpDone, hd, List.foldl_cons, List.foldl_nil, hr, hu, State.extRead_bare hbare, hflag, ho, Bool.not_true, Bool.false_eq_true,
    if_false, if_true]

/-- A GRT_DONE_DB write of a slot the host owns is heard: its window is ready, no other doorbell of it waits, and plain memory stands behind it. -/
structure DoneHeard (s : State) (q : Req) (p i : Nat) : Prop where
  port : p < 2
  mode : s.md ≠ mBanked
  writable : s.writable q (R.GRT_DONE_DB + 0x10000 * p) = true
  ready : s.getb (F.GRT_WIN_STS_READY p) = true
  slot : i < (s.win p).slots
  bare : s.bareDdr = true
  idle : (s.win p).doneq = []
  owned : (s.flag p i).state = 4

theorem DoneHeard.hostOwned (h : DoneHeard s q p i) : (s.flag p i).hostOwned = true := by simp [Flag.hostOwned, h.owned]

theorem exec_doneDoorbell (h : DoneHeard s q p i) (ecc : Bool) : exec (.doneDoorbell q p ⟨i, ecc⟩) s = .next ((s.doneRead p i ecc).readDone? p i) := by
  have ho := h.hostOwned
  obtain ⟨hp, hmd, hw, hr, hi, hb, hd, -⟩ := h
  obtain ⟨hf, -, hdq⟩ := State.port_bare hp hb
  have hich := State.bareIch_of_bareDdr hb
  have hread := State.readable_none hf hdq (s.flagLine p i)
  generalize hu : (if ecc then s.spoil p (s.flagLine p i) else s).updWin p (fun w => { w with doneq := w.doneq ++ [i] }) = u
  have hdone : s.doneRead p i ecc = (u.usedLines p [s.flagLine p i]).updWin p (fun w => { w with doneq := w.doneq.filter (· != i) }) := by
    rw [State.doneRead, hu]
  have hbare : u.bareIch = true := by
    rw [← hu]
    cases ecc <;> exact hich
  have hport : (u.port p).filter = [] ∧ (u.port p).devq = [] := by
    rw [← hu]
    cases ecc with
    | false => exact ⟨hf, hdq⟩
    | true => simp [State.spoil, State.updWin_port, State.updPort_port, hf, hdq]
  have hline : u.flagLine p i = s.flagLine p i := by
    rw [← hu]
    cases ecc <;> rfl
  have hwin : u.win p = { s.win p with doneq := [i] } := by
    rw [← hu, State.win_updWin]
    cases ecc with
    | false => simp [hd]
    | true =>
      have hspoil : (s.spoil p (s.flagLine p i)).win p = s.win p := rfl
      simp [hspoil, hd]
  have hflag : u.flag p i = s.flag p i := by
    rw [State.flag, hwin]
    rfl
  have hpump := State.pumpDone_one (s := u) (p := p) (i := i) (by rw [hwin]) (by rw [hline]; exact State.readable_none hport.1 hport.2 _) hbare (hflag ▸ ho)
  rw [hline, ← hdone] at hpump
  simp only [exec, execDoneDoorbell, State.doorbell_rings hmd hw hr, hread, ho, Bool.and_true, Bool.not_true, Bool.false_eq_true, if_false, hu, hpump]
  rw [if_neg (by omega)]

/-- A flag line that DDR returns: the word is a legal release or a protocol error. -/
theorem doneDoorbell_reads (h : DoneHeard s q p i) : ∃ u, Kept [.wins, .ports] [] s u ∧ u.flag p i = s.flag p i ∧
    (u.win p).freeOrder = (s.win p).freeOrder ∧ exec (.doneDoorbell q p ⟨i, false⟩) s =
      .next (if (s.flag p i).accepts (s.flagWord p i) then u.acceptSlot p i (s.flagWord p i) else u.protoErr p i) := by
  obtain ⟨-, hpoison, -⟩ := State.port_bare h.port h.bare
  have hclean : (s.doneRead p i false).poisoned p [(s.doneRead p i false).flagLine p i] = false := by
    rw [State.poisoned_bare (State.doneRead_bare (State.bareIch_of_bareDdr h.bare) p i false), State.doneRead_poison hpoison]
    rfl
  refine ⟨s.doneRead p i false, s.doneRead_kept p i false, s.doneRead_flag p i false, ?_, ?_⟩
  · rw [State.doneRead_win]
  · simp only [exec_doneDoorbell h, State.readDone?, hclean, s.doneRead_flag p i false, s.doneRead_word p i, Bool.false_eq_true, if_false]

theorem doneDoorbell_frees (h : DoneHeard s q p i) (hacc : (s.flag p i).accepts (s.flagWord p i) = true) :
    Gives (.doneDoorbell q p ⟨i, false⟩) s (fun t => t.flag p i = { gen := (s.flag p i).gen } ∧
      (t.win p).freeOrder = (s.win p).freeOrder.filter (· != i) ++ [i]) := by
  obtain ⟨u, -, hflag, hfree, hex⟩ := doneDoorbell_reads h
  have hstate : (u.flag p i).state = 4 := hflag ▸ h.owned
  have hread : u.acceptSlot p i (s.flagWord p i) = (u.setSlot p i 5 0 0 (u.flag p i).tag).setSlot p i 0 0 0 0 := by
    simp only [State.acceptSlot, hstate]
    rfl
  have hleft := u.flag_setSlot p i 5 0 0 (u.flag p i).tag
  rw [if_pos hacc, hread] at hex
  refine ⟨_, hex, ?_, ?_⟩
  · rw [State.flag_setSlot, hleft, hflag]
    simp [Flag.enter, h.owned]
  · rw [State.freeOrder_setSlot, hleft, State.freeOrder_setSlot, hfree]
    simp [Flag.enter]

theorem doneDoorbell_protocolError (h : DoneHeard s q p i) (hacc : (s.flag p i).accepts (s.flagWord p i) = false) :
    Gives (.doneDoorbell q p ⟨i, false⟩) s (fun t => t.flag p i = s.flag p i ∧ t.getb (F.GRT_WIN_ERR_PROTO p) = true ∧
      t.get (F.GRT_PROTO_CNT_COUNT p) = min (s.get (F.GRT_PROTO_CNT_COUNT p) + 1) 0xFFFFFFFF) := by
  obtain ⟨u, hkept, hflag, -, hex⟩ := doneDoorbell_reads h
  rw [if_neg (by simp [hacc])] at hex
  have hwrite := u.writeFlag_kept p i
  have herr := (u.writeFlag p i).winErr_kept p F.GRT_WIN_ERR_PROTO 0x0710
  refine ⟨_, hex, (herr.flag_eq (by decide) p i).trans ((hwrite.flag_eq (by decide) p i).trans hflag),
    (congrArg (· != 0) (State.get_set_other _ _ _ _ ?_)).trans (State.getb_winErr Nat.one_pos ?_), ?_⟩
  case refine_3 =>
    rw [State.protoErr, State.get_incSat_word rfl, herr.get_eq, State.get_setb_other, hwrite.get_eq, hkept.get_eq (by simp)]
    all_goals rcases eq_zero_or_one h.port with rfl | rfl <;> decide
  all_goals rcases eq_zero_or_one h.port with rfl | rfl <;> decide

theorem State.slotCmd_none (h : s.bel.cmds = []) (p i : Nat) : s.slotCmd p i = none := by rw [State.slotCmd, h]; rfl

/-- A slot's line has failed: it is in FAULT, and nothing of it waits. -/
def State.slotFailed (s : State) (p i : Nat) : State :=
  let u := (s.setSlot p i 7 0x0A 0 (s.flag p i).tag).updWin p (fun w => { w with
    writeFail := w.writeFail.filter (· != i), doneq := w.doneq.filter (· != i) })
  (u.usedLines p [u.flagLine p i]).winErr p F.GRT_WIN_ERR_DATA_FAULT 0x0712

theorem State.slotFault_none (h : s.slotCmd p i = none) : s.slotFault p i = s.slotFailed p i := by
  simp only [State.slotFault, h]
  rfl

theorem State.flag_slotFailed (s : State) (p i : Nat) : (s.slotFailed p i).flag p i = (s.flag p i).enter 7 0x0A 0 (s.flag p i).tag := by
  unfold State.slotFailed
  dsimp only
  rw [(State.winErr_kept _ p _ _).flag_eq (by decide), State.setb_eq, State.flag, State.win, State.set_wins, ← State.win,
    (State.usedLines_kept _ p _).win_eq (by decide), State.win_updWin]
  exact s.flag_setSlot p i 7 0x0A 0 _

theorem doneDoorbell_faults (h : DoneHeard s q p i) (hc : s.bel.cmds = []) :
    Gives (.doneDoorbell q p ⟨i, true⟩) s (fun t => (t.flag p i).state = 7 ∧ (t.flag p i).code = 0x0A ∧
      t.getb (F.GRT_WIN_ERR_DATA_FAULT p) = true) := by
  obtain ⟨-, hpoison, -⟩ := State.port_bare h.port h.bare
  have hpoisoned : (s.doneRead p i true).poisoned p [(s.doneRead p i true).flagLine p i] = true := by
    have hline : (s.doneRead p i true).flagLine p i = s.flagLine p i := rfl
    rw [State.poisoned_bare (State.doneRead_bare (State.bareIch_of_bareDdr h.bare) p i true), State.doneRead_poison hpoison, hline]
    simp
  have hcmds : (s.doneRead p i true).bel.cmds = [] := (congrArg BelSt.cmds ((s.doneRead_kept p i true).bel_eq (by decide))).trans hc
  have hread : (s.doneRead p i true).readDone? p i = (s.doneRead p i true).slotFailed p i := by
    rw [State.readDone?, if_pos hpoisoned, State.slotFault_none (State.slotCmd_none hcmds p i)]
  refine ⟨_, (exec_doneDoorbell h true).trans (congrArg _ hread), ?_, ?_, State.getb_winErr Nat.one_pos ?_⟩
  · rw [State.flag_slotFailed]
    rfl
  · rw [State.flag_slotFailed]
    rfl
  · rcases eq_zero_or_one h.port with rfl | rfl <;> decide

end Sys2Proof.Machine
end

section
namespace Sys2Proof.Machine

/-- Settles O34: a window by the writes that enable, reset and grow it and by the end of its reset; each doorbell by what its ring or its slot's flag
word lets it do. -/
theorem windowsComeUp : Obligations.WindowsComeUp := by
  unfold Obligations.WindowsComeUp
  refine ⟨⟨fun s r p v rg d n z hp hw hen hrg hd hn => ⟨fun hd0 hd1 hn0 hn1 hz hsize hfit =>
      winEnable_comesUp hp hw hen hrg hd hn hd0 hd1 hn0 hn1 hz hsize hfit, fun h => winEnable_refuses hp hw hen (.inl (hn ▸ h)),
      fun h => winEnable_refuses hp hw hen (.inr h)⟩,
    fun s r p v hp hw hen hs hsize hfit => ⟨winDisable_resets hp hw hen hs hsize hfit, winSizeWrite_grows hw hen hsize hfit⟩,
    fun s p hp hr hb => windowReady_ends hp hr hb⟩,
    fun s q p r i hp hmd hw hr hrings => ⟨cmdDoorbell_movesTail hmd hw hr hrings, cmdDoorbell_outOfRange hp hmd hw hr⟩,
    fun s q p r i _ hmd hw hr hrings hi hd => cplDoorbell_movesHead hmd hw hr hrings hi hd,
    fun s q p i x hp hmd hw hr hi hb hd hx h4 => ?_⟩
  subst hx
  have hheard : DoneHeard s q p i := ⟨hp, hmd, hw, hr, hi, hb, hd, h4⟩
  exact ⟨doneDoorbell_frees hheard, doneDoorbell_protocolError hheard, doneDoorbell_faults hheard⟩

end Sys2Proof.Machine
end

section
/-! A port of a number no head has: what a statement that leaves its port open says of it. -/

namespace Sys2Proof.Machine

/-- The head of command ring 0 of port 2 in a state that was answered. -/
def headOf : Res → Nat
  | .next t => (t.ring 2 0).head
  | _ => 0

/-- A head in Solo whose FETCH_EN holds a bit above those of its two ports: a "port 2" has a ready window of one ring with one packet in it, a NOP,
and a host that may hold the packet's line. -/
def thirdPort : State :=
  { (((({ State.reset with regs := Tab.putN State.reset.regs F.BEL_CTL_FETCH_EN.key 7 } : State).set F.KDL_REL_STS_DOMAIN (2 ^ 18 - 1)).set
      F.GLB_MODE_MODE mSolo).setb (F.GRT_WIN_STS_READY 2) true) with
    ports := [(2, { filter := [0] })], wins := [(2, { rings := 1, depth := 64, ring := [(0, { tail := 1 })] })] }

/-- The packet at the head of the ring. -/
def thirdPacket : Bytes := thirdPort.winBytes 2 (thirdPort.get (F.GRT_OFF_CRING_OFFSET 2) + (0 * (thirdPort.win 2).depth + (thirdPort.ring 2 0).head) * 64) 64

theorem thirdPort_onePacket : OnePacket thirdPort 2 0 thirdPacket := by
  have h : thirdPort.turnOf 2 (ringMember 0) = true ∧ thirdPort.md ≠ mBanked ∧ thirdPort.writeStopped = false ∧ thirdPort.bel.cmds = [] ∧
      thirdPort.getb F.BEL_STS_SANITIZING = false ∧ thirdPort.bel.sanitizeFail = false ∧ thirdPort.bareDdr = true := by decide +kernel
  obtain ⟨hturn, hmd, hstop, hcmds, hsan, hfail, hbare⟩ := h
  exact ⟨hturn, hmd, hstop, hcmds, hsan, hfail, hbare, rfl⟩

theorem thirdPacket_isNop : leAt thirdPacket 0 1 = 0 := by decide +kernel

/-- The packet's line is snooped, and the ring's head stays where it was. -/
theorem thirdPort_waits : headOf (exec (.winNop 2 ⟨0, false⟩) thirdPort) = 0 ∧ (thirdPort.ring 2 0).head = 0 ∧ (thirdPort.win 2).depth = 64 := by
  decide +kernel

/-- Refutes O35: `OnePacket` leaves its port open, and `bareDdr` says of ports 0 and 1 alone that no host holds a line of their windows. At a
port 2, which no head has, it can be the ring's turn while the port's host holds the packet's line; then the NOP waits for a snoop, and the head
of its ring does not move. -/
theorem not_packetsAndSlots : ¬ Obligations.PacketsAndSlots := by
  unfold Obligations.PacketsAndSlots
  rintro ⟨hpackets, -⟩
  obtain ⟨hnop, -⟩ := hpackets thirdPort 2 0 thirdPacket thirdPort_onePacket
  obtain ⟨t, ht, ⟨-, hhead, -⟩, -⟩ := hnop thirdPacket_isNop
  obtain ⟨hstays, hstart, hdepth⟩ := thirdPort_waits
  rw [ht, headOf, hhead, hstart, hdepth] at hstays
  exact absurd hstays (by decide)

end Sys2Proof.Machine
end

section
/-! The operation pairs of Ember (R132, R133): what a pair reads once it is written. -/

namespace Sys2Proof.Machine

variable {s t : State} {k j i cursor mask step sprog : Nat} {v : List Nat}

theorem State.pair_savePair (s : State) (k j : Nat) (v : List Nat) : (s.savePair k v).pair j = if j = k then some v else s.pair j := by
  simp only [State.pair, State.savePair, State.updJnl, Tab.getD_upd]
  split
  · exact EmberPair.state_write _ _
  · rfl

theorem State.pair_savePair_same : (s.savePair k v).pair k = some v := by rw [State.pair_savePair, if_pos rfl]

theorem State.pair_stepPair (s : State) (k cursor mask step sprog : Nat) : (s.stepPair k cursor mask step sprog).pair k =
    some [s.prog k 0, s.prog k 1, s.prog k 2, s.prog k 3, cursor, mask, step, sprog] := State.pair_savePair_same

theorem State.prog_of_pair (h : s.pair k = some v) (i : Nat) : s.prog k i = v.getD i 0 := by rw [State.prog, h]; rfl

theorem State.prog_stepPair (s : State) (k cursor mask step sprog i : Nat) : (s.stepPair k cursor mask step sprog).prog k i =
    [s.prog k 0, s.prog k 1, s.prog k 2, s.prog k 3, cursor, mask, step, sprog].getD i 0 := State.prog_of_pair (s.pair_stepPair _ _ _ _ _) i

/-- An operation that has ended is in progress no more. -/
theorem State.inProgress_endPair (s : State) (k : Nat) (ok : Bool) : (s.endPair k ok).inProgress k = false := by
  rw [State.inProgress, State.endPair, State.prog_stepPair s k _ _ _ _ 6]
  exact Bool.and_false _

/-! Pairs are read from the journal unit alone. -/

theorem State.pair_congr (h : t.jnl.pairs = s.jnl.pairs) (k : Nat) : t.pair k = s.pair k := by rw [State.pair, State.pair, h]

theorem State.prog_congr (h : t.jnl.pairs = s.jnl.pairs) (k i : Nat) : t.prog k i = s.prog k i := by
  rw [State.prog, State.prog, State.pair_congr h]

theorem State.inProgress_congr (h : t.jnl.pairs = s.jnl.pairs) (k : Nat) : t.inProgress k = s.inProgress k := by
  rw [State.inProgress, State.inProgress, State.prog_congr h, State.prog_congr h]

end Sys2Proof.Machine
end

section
/-! Frames of what a Sanitize and a Format do: updates of a block, what is sent outside stays sent, and mode transitions (R474). -/

namespace Sys2Proof.Machine

variable {ps : List Part} {fs : List Fld} {s t u : State} {m n v : Nat}

/-- An update of the index, the drives or the keys: each of them that changes is named. -/
theorem Kept.stores (h : Kept ps fs s t) {ddx : DdxSt} {drv : DrvSt} {keys : KeySt} (hddx : ddx = t.ddx ∨ Part.ddx ∈ ps)
    (hdrv : drv = t.drv ∨ Part.drv ∈ ps) (hkeys : keys = t.keys ∨ Part.keys ∈ ps) : Kept ps fs s { t with ddx, drv, keys } := by
  refine h.upd rfl rfl fun p hn => ?_
  cases p with
  | ddx => exact hddx.resolve_right hn
  | drv => exact hdrv.resolve_right hn
  | keys => exact hkeys.resolve_right hn
  | ports | irqPend => exact fun _ => rfl
  | wdt => exact ⟨rfl, rfl⟩
  | plic => exact ⟨rfl, rfl, rfl, rfl⟩
  | _ => rfl

theorem Kept.updDdx (h : Kept ps fs s t) (hp : Part.ddx ∈ ps) (f : DdxSt → DdxSt) : Kept ps fs s (t.updDdx f) := h.stores (.inr hp) (.inl rfl) (.inl rfl)
theorem Kept.updDrv (h : Kept ps fs s t) (hp : Part.drv ∈ ps) (f : DrvSt → DrvSt) : Kept ps fs s (t.updDrv f) := h.stores (.inl rfl) (.inr hp) (.inl rfl)
theorem Kept.updKeys (h : Kept ps fs s t) (hp : Part.keys ∈ ps) (f : KeySt → KeySt) : Kept ps fs s (t.updKeys f) := h.stores (.inl rfl) (.inl rfl) (.inr hp)

theorem Kept.savePair (h : Kept ps fs s t) (hp : Part.jnl ∈ ps) (k : Nat) (v : List Nat) : Kept ps fs s (t.savePair k v) := h.updJnl hp _

theorem Kept.ddx_eq (h : Kept ps fs s t) (hp : Part.ddx ∉ ps) : t.ddx = s.ddx := h.2.1 .ddx hp
theorem Kept.drv_eq (h : Kept ps fs s t) (hp : Part.drv ∉ ps) : t.drv = s.drv := h.2.1 .drv hp
theorem Kept.keys_eq (h : Kept ps fs s t) (hp : Part.keys ∉ ps) : t.keys = s.keys := h.2.1 .keys hp

/-- The two parts of Soot are all of it. -/
theorem Kept.soot_eq (h : Kept ps fs s t) (hp : Part.soot ∉ ps) (hp' : Part.stage ∉ ps) : t.soot = s.soot := by
  have hrest : t.soot.rest = s.soot.rest := h.2.1 .soot hp
  have hstage := h.2.1 .stage hp'
  calc t.soot = { t.soot.rest with staged := s.soot.staged, flushing := s.soot.flushing, again := s.soot.again, lastAt := s.soot.lastAt,
                                   unread := s.soot.unread } := hstage
    _ = s.soot := by rw [hrest]; rfl

/-! ### What is sent outside stays sent -/

theorem State.irq_out (s : State) (p v : Nat) : s.out ⊆ (s.irq p v).out := by
  unfold State.irq
  dsimp only
  split
  · exact List.subset_cons_self _ _
  · exact List.Subset.refl _

theorem State.irqAll_out (s : State) (v : Nat) : s.out ⊆ (s.irqAll v).out := List.Subset.trans (s.irq_out 0 v) (State.irq_out _ 1 v)

theorem State.sootFlush_out (s : State) : s.sootFlush.out = s.out := by
  unfold State.sootFlush
  split
  · rfl
  · split <;> rfl

theorem State.record_out (s : State) (c : Nat) (is : List Nat) : s.out ⊆ (s.record c is).out := by
  unfold State.record
  split
  · exact State.irqAll_out (s.incSat F.SOOT_LOST_COUNT 1) 2046
  · dsimp only
    split
    · exact (State.sootFlush_out _).symm ▸ List.Subset.refl _
    · exact List.Subset.refl _

/-! ### Mode transitions -/

/-- A transition before the controllers report what the mode gives. -/
def State.shifted (s : State) (m n : Nat) : State :=
  (((((s.set F.GLB_MODE_PREV s.md).set F.GLB_MODE_MODE m).irqAll 2044).glbRaise).incSat F.GLB_TRANS_CNT_COUNT 1).record 0x0F10
    (w1 s.md ++ w1 m ++ w1 n)

def shiftParts : List Part := .glbPend :: logParts
def shiftFlds : List Fld := F.GLB_MODE_PREV :: F.GLB_MODE_MODE :: transFlds

/-- What a transition changes once MODE and PREV are written. -/
theorem State.shifted_after (s : State) (m n : Nat) :
    Kept shiftParts transFlds ((s.set F.GLB_MODE_PREV s.md).set F.GLB_MODE_MODE m) (s.shifted m n) :=
  ((((Kept.refl _ _ _).irqAll (by simp [shiftParts, logParts]) (by simp [shiftParts, logParts])).glbRaise (by simp [shiftParts])).incSat
    (by simp [transFlds])).logged (by simp +contextual [shiftParts]) (by simp +contextual [transFlds])

theorem State.shifted_kept (s : State) (m n : Nat) : Kept shiftParts shiftFlds s (s.shifted m n) :=
  (((Kept.refl _ _ s).set (by simp [shiftFlds])).set (by simp [shiftFlds])).trans
    ((s.shifted_after m n).widen (fun _ h => h) (by simp +contextual [shiftFlds]))

theorem State.shifted_md (s : State) (m n : Nat) : (s.shifted m n).md = m % 16 :=
  ((s.shifted_after m n).get_eq (by decide)).trans (State.get_set_same _ F.GLB_MODE_MODE m)

theorem State.transition_eq (h : s.qphase ≠ 2) (m n : Nat) :
    s.transition m n = if s.and.takeoverAt.isSome then s.shifted m n else (s.shifted m n).showAna := by
  have hq : (s.qphase == 2 && n != 11) = false := by simp [h]
  have hand : (s.shifted m n).and = s.and := (s.shifted_kept m n).2.1 .and (by decide)
  simp only [State.transition, hq, Bool.false_eq_true, if_false]
  rw [← hand]
  rfl

theorem State.shifted_out (s : State) (m n : Nat) : s.out ⊆ (s.shifted m n).out := by
  refine List.Subset.trans ?_ (State.record_out _ _ _)
  exact State.irqAll_out ((s.set F.GLB_MODE_PREV s.md).set F.GLB_MODE_MODE m) 2044

/-- Sweep gives the controllers nothing to report. -/
theorem State.transition_sweep (h : s.qphase ≠ 2) (n : Nat) : s.transition mSweep n = s.shifted mSweep n := by
  have hshow : (s.shifted mSweep n).showAna = (s.shifted mSweep n) := by
    have hmd : (s.shifted mSweep n).md = mSweep := s.shifted_md mSweep n
    rw [State.showAna, hmd]
    rfl
  rw [State.transition_eq h, hshow, ite_self]

theorem State.reportAna_bel (s : State) (a : Nat × Nat) (p : Nat) : ∃ ctrls, (s.reportAna a p).bel = { s.bel with ctrls } := by
  unfold State.reportAna
  dsimp only
  split
  · exact ⟨_, rfl⟩
  · exact ⟨_, rfl⟩

/-- Of Bellows a report changes the controllers alone. -/
theorem State.showAna_bel (s : State) : ∃ ctrls, s.showAna.bel = { s.bel with ctrls } := by
  unfold State.showAna
  split
  · next a _ =>
    obtain ⟨c, hc⟩ := s.reportAna_bel a 0
    obtain ⟨c', hc'⟩ := (s.reportAna a 0).reportAna_bel a 1
    exact ⟨c', by rw [hc', hc]⟩
  · exact ⟨_, rfl⟩

end Sys2Proof.Machine
end

section
/-! The steps of a Sanitize (R130, R134, R322): what each works on and what it leaves. -/

namespace Sys2Proof.Machine

variable {ps : List Part} {fs : List Fld} {s t u : State} {d : Nat}

/-! ### The index and the maps -/

def fullFlds : List Fld := F.DDX_STS_FULL :: logFlds

theorem State.showFull_kept (s : State) : Kept logParts fullFlds s s.showFull := by
  have h := Kept.refl logParts fullFlds s
  unfold State.showFull
  dsimp only
  split
  · split
    · exact h
    · exact (h.setb (by simp [fullFlds])).loggedMs (fun _ h => h) (by simp +contextual [fullFlds])
  · split
    · exact h.setb (by simp [fullFlds])
    · exact h

/-- The index and the maps, empty. -/
def DdxSt.emptied (d : DdxSt) : DdxSt :=
  { d with
    halves := Tab.mapVals d.halves (fun _ _ => {}), maps := [], pages := [], store := [], writing := [], heldList := [], oldMaps := [] }

/-- A stripe nothing in which is live any more. -/
def Stripe.emptied (t : Stripe) (c : Nat) : Stripe := if t.live == 0 then t else { t with live := 0, zeroAt := c }

/-- The index and the maps are empty; DDX_STS.FULL has still to follow. -/
def State.indexDropped (s : State) : State :=
  (((s.updDdx DdxSt.emptied).updDrv (fun v => { v with stripes := Tab.mapVals v.stripes (fun _ t => t.emptied s.cyc) })).updBel
    (fun b => { b with vols := Tab.mapVals b.vols (fun _ x => { x with loss := 0 }) })).updJnl (fun j => { j with lost := [] })

theorem State.indexDropped_kept (s : State) : Kept [.ddx, .drv, .bel, .jnl] [] s s.indexDropped :=
  ((((Kept.refl _ _ s).updDdx (by simp) _).updDrv (by simp) _).updBel (by simp) _).updJnl (by simp) _

def emptyParts : List Part := [.ddx, .drv, .bel, .jnl] ++ logParts

theorem State.emptyIndex_kept (s : State) : Kept emptyParts fullFlds s s.emptyIndex :=
  (s.indexDropped_kept.widen (by simp +contextual [emptyParts]) (by simp)).trans ((State.showFull_kept _).widen (by simp +contextual [emptyParts]) fun _ h => h)

theorem State.emptyIndex_maps (s : State) : s.emptyIndex.ddx.maps = [] := congrArg DdxSt.maps ((State.showFull_kept s.indexDropped).ddx_eq (by decide))
theorem State.emptyIndex_pairs (s : State) : s.emptyIndex.jnl.pairs = s.jnl.pairs :=
  (congrArg JnlSt.pairs ((State.showFull_kept s.indexDropped).jnl_eq (by decide)) :)
theorem State.emptyIndex_ctrls (s : State) : s.emptyIndex.bel.ctrls = s.bel.ctrls :=
  (congrArg BelSt.ctrls ((State.showFull_kept s.indexDropped).bel_eq (by decide)) :)
theorem State.emptyIndex_drives (s : State) : s.emptyIndex.drv.drives = s.drv.drives :=
  (congrArg DrvSt.drives ((State.showFull_kept s.indexDropped).drv_eq (by decide)) :)

/-! ### Slot 4 -/

def wrapParts : List Part := .keys :: .jnl :: logParts

/-- The generation of slot 4 is raised where it can be, and saved; the slot is derived again. -/
theorem State.raiseWrap_kept (s : State) : Kept wrapParts logFlds s s.raiseWrap := by
  have h := Kept.refl wrapParts logFlds s
  unfold State.raiseWrap
  split
  · exact h
  · have hsaved : Kept wrapParts logFlds s (s.updKeys (fun x => { x with gens := Tab.putN x.gens 4 (Tab.getN x.gens 4 + 1) })).saveKdf :=
      (h.updKeys (by simp [wrapParts]) _).savePair (by simp [wrapParts]) _ _
    rw [State.rederive, State.derive]
    split
    · exact hsaved
    · exact (hsaved.updKeys (by simp [wrapParts]) _).recordGap (by simp +contextual [wrapParts]) (fun _ h => List.mem_map_of_mem h)

/-- Of the pairs that one alone is written that holds the counters. -/
theorem State.raiseWrap_pair (s : State) : s.raiseWrap.pair 0 = s.pair 0 := by
  have hsaved : ∀ u : State, u.saveKdf.pair 0 = u.pair 0 := fun u => by rw [State.saveKdf, State.pair_savePair, if_neg (by decide)]
  have hderive : ∀ u : State, (u.derive 4).pair 0 = u.pair 0 := fun u => by
    unfold State.derive
    split
    · rfl
    · exact State.pair_congr (congrArg JnlSt.pairs (((Kept.refl logParts logFlds _).recordGap (fun _ h => h)
        (fun _ h => List.mem_map_of_mem h)).jnl_eq (by decide))) 0
  unfold State.raiseWrap
  split
  · rfl
  · exact (hderive _).trans (hsaved _)

/-- No slot of the software is VALID. -/
def NoSoft (s : State) : Prop := ∀ n k, Tab.find s.keys.slots n = some k → n < 16

theorem NoSoft.congr (h : NoSoft s) (hk : t.keys = s.keys) : NoSoft t := fun n k hf => h n k (hk ▸ hf)

theorem NoSoft.raiseWrap (h : NoSoft s) : NoSoft s.raiseWrap := by
  unfold State.raiseWrap
  split
  · exact h
  · rw [State.rederive, State.derive]
    split
    · exact h
    · next k _ =>
      refine NoSoft.congr (fun n k hf => ?_) (((Kept.refl logParts logFlds _).recordGap (fun _ h => h) (fun _ h => List.mem_map_of_mem h)).keys_eq (by decide))
      replace hf := (Tab.find_put _ _ _ _).symm.trans hf
      split at hf
      · omega
      · exact h n k hf

/-! ### The drives -/

/-- A drive is told to erase itself: the request is listed, and sent. -/
theorem State.eraseDrive_eq (s : State) (d : Nat) : ∃ drv : DrvSt, drv.drives = s.drv.drives ∧
    s.eraseDrive d = ({ s with drv } : State).emit (.drive d 7 0 0 0 []) := by
  refine ⟨(s.eraseDrive d).drv, ?_, ?_⟩
  · simp [State.eraseDrive, State.sendDrv, State.driveOut]
  · simp only [State.eraseDrive, State.sendDrv, State.driveOut, Nat.reduceBEq, Bool.and_false, Bool.false_eq_true, if_false]
    rfl

theorem State.eraseDrive_kept (s : State) (d : Nat) : Kept [.drv, .out] [] s (s.eraseDrive d) := by
  obtain ⟨drv, -, heq⟩ := s.eraseDrive_eq d
  rw [heq]
  exact ((Kept.refl _ _ s).updDrv (by simp) (fun _ => drv)).emit (by simp)

theorem State.eraseDrives_out : ∀ (l : List Nat) (s : State), s.out ⊆ (l.foldl State.eraseDrive s).out ∧
    ∀ d ∈ l, .drive d 7 0 0 0 [] ∈ (l.foldl State.eraseDrive s).out
  | [], s => ⟨List.Subset.refl _, by simp⟩
  | e :: l, s => by
    obtain ⟨drv, -, heq⟩ := s.eraseDrive_eq e
    obtain ⟨hout, hsent⟩ := State.eraseDrives_out l (s.eraseDrive e)
    rw [List.foldl_cons]
    refine ⟨List.Subset.trans ?_ hout, fun d hd => ?_⟩
    · rw [heq]
      exact List.subset_cons_self _ _
    · rcases List.mem_cons.mp hd with rfl | hd
      · exact hout (by rw [heq]; exact List.mem_cons_self)
      · exact hsent d hd

theorem State.mem_drivesLeft {z : Drive} (hz : Tab.find s.drv.drives d = some z) (ho : z.online = true) (hm : s.prog 0 5 = 0) : d ∈ s.drivesLeft := by
  refine List.mem_map.mpr ⟨(d, z), List.mem_filter.mpr ⟨Tab.mem_of_find hz, ?_⟩, rfl⟩
  simp [ho, hm, bit]

/-! ### The steps together -/

/-- The key step has ended (STEP 1). -/
def State.keysGone (s : State) : State := s.raiseWrap.stepPair 0 0 0 1 0x4000

/-- The index and the maps are empty: all the work of a cryptographic erase is done, and a block erase goes on to STEP 2. -/
def State.mapsGone (s : State) : State := s.emptyIndex.stepPair 0 (2 ^ 44 / 127 + 1) 0 (if s.prog 0 0 == 2 then 2 else 1) 0x8000

/-- For a block erase the drives are told. -/
def State.drivesTold (s : State) : State := if s.prog 0 0 == 2 then s.drivesLeft.foldl State.eraseDrive s else s

/-- The steps that follow the key step. -/
def State.stepsOn (s : State) : State := if s.prog 0 6 != 1 || s.prog 0 4 != 0 then s else s.mapsGone.drivesTold

theorem State.sanGo_eq (s : State) : s.sanGo =
    if !s.inProgress 0 || s.keys.erase.isSome then s else (if s.prog 0 6 == 0 then s.keysGone else s).stepsOn := rfl

/-- While an erase step runs, the Sanitize waits. -/
theorem State.sanGo_erasing (h : s.keys.erase.isSome = true) : s.sanGo = s := by rw [State.sanGo_eq, h, Bool.or_true, if_pos rfl]

/-- Once its key step has ended and its maps are empty, nothing is left to go on with. -/
theorem State.sanGo_stepped (h1 : 1 ≤ s.prog 0 6) (h4 : s.prog 0 6 = 1 → s.prog 0 4 ≠ 0) : s.sanGo = s := by
  have h0 : (s.prog 0 6 == 0) = false := by simp; omega
  have hstop : (s.prog 0 6 != 1 || s.prog 0 4 != 0) = true := by
    simp only [Bool.or_eq_true, bne_iff_ne]
    by_cases h : s.prog 0 6 = 1
    · exact .inr (h4 h)
    · exact .inl h
  rw [State.sanGo_eq, h0, if_neg Bool.false_ne_true, State.stepsOn, hstop, if_pos rfl, ite_self]

/-- From its start on a Sanitize takes all its steps but the last of a block erase. -/
theorem State.sanGo_fresh (hp : s.inProgress 0 = true) (he : s.keys.erase = none) (h6 : s.prog 0 6 = 0) : s.sanGo = s.keysGone.mapsGone.drivesTold := by
  have h : s.keysGone.stepsOn = s.keysGone.mapsGone.drivesTold := by
    have hstep : ∀ i, s.keysGone.prog 0 i = _ := State.prog_stepPair s.raiseWrap 0 0 0 1 0x4000
    rw [State.stepsOn, hstep 6, hstep 4]
    rfl
  rw [State.sanGo_eq, hp, he, h6, ← h]
  rfl

/-! ### What all of them leave -/

def sanParts : List Part := [.ddx, .drv, .bel, .jnl, .keys] ++ logParts

/-- The steps of a Sanitize lead from `s` to `t`: no controller changes, and of the pair its KIND, FLAGS, NSID and START_AT stand. -/
structure SanGoes (s t : State) : Prop where
  kept : Kept sanParts fullFlds s t
  ctrls : t.bel.ctrls = s.bel.ctrls
  told : ∀ i < 4, t.prog 0 i = s.prog 0 i

theorem SanGoes.refl (s : State) : SanGoes s s := ⟨Kept.refl _ _ s, rfl, fun _ _ => rfl⟩

theorem SanGoes.trans (h : SanGoes s t) (h' : SanGoes t u) : SanGoes s u :=
  ⟨h.kept.trans h'.kept, h'.ctrls.trans h.ctrls, fun i hi => (h'.told i hi).trans (h.told i hi)⟩

theorem SanGoes.stepPair (s : State) (cursor mask step sprog : Nat) : SanGoes s (s.stepPair 0 cursor mask step sprog) where
  kept := (Kept.refl _ _ s).savePair (by simp [sanParts]) _ _
  ctrls := rfl
  told i hi := by
    rw [State.prog_stepPair]
    match i, hi with
    | 0, _ | 1, _ | 2, _ | 3, _ => rfl

theorem SanGoes.keysGone (s : State) : SanGoes s s.keysGone := by
  have hwrap : SanGoes s s.raiseWrap :=
    ⟨s.raiseWrap_kept.widen (by simp +contextual [wrapParts, sanParts, or_imp]) (by simp +contextual [fullFlds]),
      congrArg BelSt.ctrls (s.raiseWrap_kept.bel_eq (by decide)), fun i _ => by rw [State.prog, State.prog, s.raiseWrap_pair]⟩
  exact hwrap.trans (.stepPair _ _ _ _ _)

theorem SanGoes.mapsGone (s : State) : SanGoes s s.mapsGone := by
  have hempty : SanGoes s s.emptyIndex :=
    ⟨s.emptyIndex_kept.widen (by simp +contextual [emptyParts, sanParts, or_imp]) (fun _ h => h), s.emptyIndex_ctrls,
      fun i _ => State.prog_congr s.emptyIndex_pairs 0 i⟩
  exact hempty.trans (.stepPair _ _ _ _ _)

theorem State.drivesTold_kept (s : State) : Kept [.drv, .out] [] s s.drivesTold := by
  unfold State.drivesTold
  split
  · exact Kept.foldl State.eraseDrive_kept _ _
  · exact Kept.refl _ _ s

theorem SanGoes.drivesTold (s : State) : SanGoes s s.drivesTold :=
  ⟨s.drivesTold_kept.widen (by simp [sanParts, logParts]) (by simp), congrArg BelSt.ctrls (s.drivesTold_kept.bel_eq (by decide)),
    fun i _ => State.prog_congr (congrArg JnlSt.pairs (s.drivesTold_kept.jnl_eq (by decide))) 0 i⟩

theorem SanGoes.sanGo (s : State) : SanGoes s s.sanGo := by
  have hon : ∀ u : State, SanGoes u u.stepsOn := fun u => by
    unfold State.stepsOn
    split
    · exact .refl u
    · exact (SanGoes.mapsGone u).trans (.drivesTold _)
  rw [State.sanGo_eq]
  split
  · exact .refl s
  · refine SanGoes.trans ?_ (hon _)
    split
    · exact .keysGone s
    · exact .refl s

end Sys2Proof.Machine
end

section
/-! A Sanitize begins (R130, R132, R315): it records itself, works as far as it can, and the head goes to Sweep. -/

namespace Sys2Proof.Machine

variable {s t u w : State} {i : Instr} {p cid kind : Nat} {ndas : Bool} {x : SubQ} {y : CplQ}

/-- FLAGS of a Sanitize that this head coordinates. -/
def sanFlags (ndas : Bool) : Nat := 1 + (if ndas then 2 else 0)

/-- The Sanitize has recorded itself: its pair, and its event. -/
def State.sanRecorded (u : State) (kind : Nat) (ndas : Bool) : State :=
  (u.savePair 0 [kind, sanFlags ndas, 0xFFFFFFFF, u.now, 16, 0, 0, 0]).record 0x0F01 []

/-- SANITIZING shows it, and the erase step of the keys begins (R315). -/
def State.erasing (s : State) : State :=
  ((s.setb F.BEL_STS_SANITIZING true).updBel (fun b => { b with sanStatus := 2 })).updKeys (fun x => { x with erase := some s.cyc })

/-- A Sanitize that begins has worked as far as it can. -/
def State.sanWorked (u : State) (kind : Nat) (ndas : Bool) : State := (u.sanRecorded kind ndas).erasing.tryErase.sanGo

/-- A Sanitize has begun in Duplex or Solo: transition 9 follows its work. -/
def State.sanStarted (u : State) (kind : Nat) (ndas : Bool) : State :=
  State.shifted { u.sanWorked kind ndas with mode := { (u.sanWorked kind ndas).mode with sweepFrom := u.md } } mSweep 9

/-! ### The pair and the keys -/

theorem State.sanRecorded_kept (u : State) (kind : Nat) (ndas : Bool) : Kept (.jnl :: logParts) logFlds u (u.sanRecorded kind ndas) :=
  ((Kept.refl _ _ u).savePair (by simp) _ _).logged (by simp +contextual) (fun _ h => h)

theorem State.sanRecorded_pair (u : State) (kind : Nat) (ndas : Bool) :
    (u.sanRecorded kind ndas).pair 0 = some [kind, sanFlags ndas, 0xFFFFFFFF, u.now, 16, 0, 0, 0] :=
  (State.pair_congr (congrArg JnlSt.pairs ((State.record_kept _ _ _).jnl_eq (by decide))) 0).trans State.pair_savePair_same

theorem State.erasing_kept (s : State) : Kept [.bel, .keys] [F.BEL_STS_SANITIZING] s s.erasing :=
  (((Kept.refl _ _ s).setb (by simp)).updBel (by simp) _).updKeys (by simp) _

theorem State.tryErase_kept (s : State) : Kept [.keys] [] s s.tryErase := by
  unfold State.tryErase
  split
  · exact Kept.refl _ _ s
  · exact (Kept.refl _ _ s).updKeys (by simp) _

theorem State.tryErase_idle (h : s.keys.erase = none) : s.tryErase = s := by rw [State.tryErase, h]; rfl

/-- A strand that uses a slot of the software holds the erase step back. -/
theorem State.tryErase_held {n k : Nat} {v : Stove} (hv : (n, v) ∈ s.stoves) (hk : k < 4) (hu : v.usesSoft k = true) : s.tryErase = s := by
  have hany : s.stoves.any (fun v => (List.range 4).any v.2.usesSoft) = true :=
    List.any_eq_true.mpr ⟨_, hv, List.any_eq_true.mpr ⟨k, List.mem_range.mpr hk, hu⟩⟩
  rw [State.tryErase, hany, Bool.or_true, if_pos rfl]

/-- Without a Stove the slots of the software are zeroed at once. -/
theorem State.tryErase_ends (h : s.stoves = []) (he : s.keys.erase.isNone = false) : s.tryErase.keys.erase = none ∧ NoSoft s.tryErase := by
  have hstep : s.tryErase = s.updKeys (fun x => { x with slots := Tab.keep x.slots (fun n _ => decide (n < 16)), erase := none }) := by
    rw [State.tryErase, h, he]
    rfl
  rw [hstep]
  exact ⟨rfl, fun n k hf => by simpa using (List.mem_filter.mp (Tab.mem_of_find hf)).2⟩

/-- The Sanitize has recorded itself, and the keys are gone where no strand holds them. -/
def State.keysErased (u : State) (kind : Nat) (ndas : Bool) : State := (u.sanRecorded kind ndas).erasing.tryErase

def erasedParts : List Part := [.jnl, .bel, .keys] ++ logParts

theorem State.keysErased_kept (u : State) (kind : Nat) (ndas : Bool) :
    Kept erasedParts (F.BEL_STS_SANITIZING :: logFlds) u (u.keysErased kind ndas) :=
  (((u.sanRecorded_kept kind ndas).widen (by simp +contextual [erasedParts, or_imp]) (by simp +contextual)).trans
    ((State.erasing_kept _).widen (by simp [erasedParts]) (by simp))).trans ((State.tryErase_kept _).widen (by simp [erasedParts]) (by simp))

theorem State.keysErased_pair (u : State) (kind : Nat) (ndas : Bool) :
    (u.keysErased kind ndas).pair 0 = some [kind, sanFlags ndas, 0xFFFFFFFF, u.now, 16, 0, 0, 0] := by
  refine (State.pair_congr (congrArg JnlSt.pairs ?_) 0).trans (u.sanRecorded_pair kind ndas)
  exact ((State.tryErase_kept _).jnl_eq (by decide)).trans ((State.erasing_kept _).jnl_eq (by decide))

theorem State.keysErased_ctrls (u : State) (kind : Nat) (ndas : Bool) : (u.keysErased kind ndas).bel.ctrls = u.bel.ctrls := by
  rw [State.keysErased, (State.tryErase_kept _).bel_eq (by decide)]
  exact (congrArg BelSt.ctrls ((u.sanRecorded_kept kind ndas).bel_eq (by decide)) :)

theorem State.keysErased_sanitizing (u : State) (kind : Nat) (ndas : Bool) : (u.keysErased kind ndas).getb F.BEL_STS_SANITIZING = true :=
  ((State.tryErase_kept _).getb_eq (by simp)).trans
    (State.getb_setb_same (s := u.sanRecorded kind ndas) (f := F.BEL_STS_SANITIZING) (b := true) (by decide))

/-! ### Its work -/

theorem State.sanWorked_eq (u : State) (kind : Nat) (ndas : Bool) : u.sanWorked kind ndas = (u.keysErased kind ndas).sanGo := rfl

theorem State.sanWorked_kept (u : State) (kind : Nat) (ndas : Bool) : Kept sanParts (F.BEL_STS_SANITIZING :: fullFlds) u (u.sanWorked kind ndas) :=
  ((u.keysErased_kept kind ndas).widen (by simp +contextual [erasedParts, sanParts, or_imp]) (by simp +contextual [fullFlds, or_imp])).trans
    ((SanGoes.sanGo _).kept.widen (fun _ h => h) (by simp +contextual))

theorem State.sanWorked_ctrls (u : State) (kind : Nat) (ndas : Bool) : (u.sanWorked kind ndas).bel.ctrls = u.bel.ctrls :=
  (SanGoes.sanGo _).ctrls.trans (u.keysErased_ctrls kind ndas)

theorem State.sanWorked_sanitizing (u : State) (kind : Nat) (ndas : Bool) : (u.sanWorked kind ndas).getb F.BEL_STS_SANITIZING = true :=
  ((SanGoes.sanGo _).kept.getb_eq (by decide)).trans (u.keysErased_sanitizing kind ndas)

theorem State.sanWorked_told (u : State) (kind : Nat) (ndas : Bool) {i : Nat} (hi : i < 4) :
    (u.sanWorked kind ndas).prog 0 i = [kind, sanFlags ndas, 0xFFFFFFFF, u.now].getD i 0 := by
  rw [State.sanWorked_eq, (SanGoes.sanGo _).told i hi, State.prog_of_pair (u.keysErased_pair kind ndas)]
  match i, hi with
  | 0, _ | 1, _ | 2, _ | 3, _ => rfl

/-- While a strand holds a slot of the software, only the erase step has begun. -/
theorem State.sanWorked_held {n k : Nat} {v : Stove} (hv : (n, v) ∈ u.stoves) (hk : k < 4) (hu : v.usesSoft k = true) :
    u.sanWorked kind ndas = (u.sanRecorded kind ndas).erasing := by
  have hstoves : (u.sanRecorded kind ndas).erasing.stoves = u.stoves :=
    ((State.erasing_kept _).stoves_eq (by decide)).trans ((u.sanRecorded_kept kind ndas).stoves_eq (by decide))
  rw [State.sanWorked, State.tryErase_held (hstoves ▸ hv) hk hu]
  exact State.sanGo_erasing rfl

/-- Without a Stove all its steps are taken. -/
theorem State.sanWorked_free (hs : u.stoves = []) (hkind : kind ≠ 0) :
    u.sanWorked kind ndas = (u.keysErased kind ndas).keysGone.mapsGone.drivesTold ∧ NoSoft (u.keysErased kind ndas) := by
  have hstoves : (u.sanRecorded kind ndas).erasing.stoves = [] :=
    (((State.erasing_kept _).stoves_eq (by decide)).trans ((u.sanRecorded_kept kind ndas).stoves_eq (by decide))).trans hs
  obtain ⟨hnone, hsoft⟩ := State.tryErase_ends hstoves rfl
  have hprog := State.prog_of_pair (u.keysErased_pair kind ndas)
  have hon : (u.keysErased kind ndas).inProgress 0 = true := by
    rw [State.inProgress, hprog 0, hprog 6]
    simpa using hkind
  exact ⟨State.sanGo_fresh hon hnone (hprog 6), hsoft⟩

/-- The pair of a Sanitize all of whose steps are taken, the drives' erasure apart. -/
theorem State.drivesTold_pair (v : State) : v.mapsGone.drivesTold.pair 0 =
    some [v.prog 0 0, v.prog 0 1, v.prog 0 2, v.prog 0 3, 2 ^ 44 / 127 + 1, 0, if v.prog 0 0 == 2 then 2 else 1, 0x8000] := by
  have hpairs : ∀ i, v.emptyIndex.prog 0 i = v.prog 0 i := State.prog_congr v.emptyIndex_pairs 0
  rw [State.pair_congr (congrArg JnlSt.pairs (v.mapsGone.drivesTold_kept.jnl_eq (by decide))) 0, State.mapsGone, State.pair_stepPair, hpairs, hpairs,
    hpairs, hpairs]

theorem State.drivesTold_maps (v : State) : v.mapsGone.drivesTold.ddx.maps = [] :=
  (congrArg DdxSt.maps (v.mapsGone.drivesTold_kept.ddx_eq (by decide))).trans v.emptyIndex_maps

theorem NoSoft.drivesTold {v : State} (h : NoSoft v) : NoSoft v.keysGone.mapsGone.drivesTold := by
  have hgone : NoSoft v.keysGone := NoSoft.congr h.raiseWrap rfl
  refine hgone.congr ((v.keysGone.mapsGone.drivesTold_kept.keys_eq (by decide)).trans ?_)
  exact v.keysGone.emptyIndex_kept.keys_eq (by decide)

/-- A block erase has told every drive. -/
theorem State.drivesTold_out {v : State} (hk : v.prog 0 0 = 2) {d : Nat} {z : Drive} (hz : Tab.find v.drv.drives d = some z) (ho : z.online = true) :
    .drive d 7 0 0 0 [] ∈ v.mapsGone.drivesTold.out := by
  have hkind : v.mapsGone.prog 0 0 = 2 := ((SanGoes.mapsGone v).told 0 (by decide)).trans hk
  have hmask : v.mapsGone.prog 0 5 = 0 := State.prog_stepPair v.emptyIndex 0 _ _ _ _ 5
  rw [State.drivesTold, if_pos (beq_iff_eq.mpr hkind)]
  exact (State.eraseDrives_out _ _).2 d (State.mem_drivesLeft (v.emptyIndex_drives ▸ hz) ho hmask)

/-! ### The head goes to Sweep -/

theorem State.sanitizeWork_fresh (h : s.prog 0 6 = 0) : s.sanitizeWork = s.erasing.tryErase.sanGo := by
  have h6 : (((s.setb F.BEL_STS_SANITIZING true).updBel (fun b => { b with sanStatus := 2 })).prog 0 6 == 0) = true := beq_iff_eq.mpr h
  simp only [State.sanitizeWork, h6, if_true]
  rfl

/-- A head in Duplex or Solo goes to Sweep. -/
def State.toSweep (w : State) : State :=
  if w.md == mDuplex || w.md == mSolo then State.transition { w with mode := { w.mode with sweepFrom := w.md } } mSweep 9 else w

theorem State.toSweep_eq (hmd : w.md = mDuplex ∨ w.md = mSolo) (hq : w.qphase ≠ 2) :
    w.toSweep = State.shifted { w with mode := { w.mode with sweepFrom := w.md } } mSweep 9 := by
  have hmode : (w.md == mDuplex || w.md == mSolo) = true := by simpa using hmd
  rw [State.toSweep, if_pos hmode]
  exact State.transition_sweep (s := { w with mode := { w.mode with sweepFrom := w.md } }) hq 9

theorem State.startSanitize_eq (hmd : u.md = mDuplex ∨ u.md = mSolo) (hq : u.qphase ≠ 2) : u.startSanitize kind ndas true = u.sanStarted kind ndas := by
  have hflags : b2n true + 2 * b2n ndas = sanFlags ndas := by cases ndas <;> rfl
  have hunfold : u.startSanitize kind ndas true =
      ((u.savePair 0 [kind, b2n true + 2 * b2n ndas, 0xFFFFFFFF, u.now, 16, 0, 0, 0]).record 0x0F01 []).sanitizeWork.toSweep := rfl
  have hwork : (u.sanRecorded kind ndas).sanitizeWork = u.sanWorked kind ndas :=
    State.sanitizeWork_fresh (State.prog_of_pair (u.sanRecorded_pair kind ndas) 6)
  have hkept := u.sanWorked_kept kind ndas
  have hmd' : (u.sanWorked kind ndas).md = u.md := hkept.get_eq (by decide)
  have hq' : (u.sanWorked kind ndas).qphase ≠ 2 := by rwa [State.qphase, hkept.get_eq (by decide)]
  rw [hunfold, hflags, ← State.sanRecorded, hwork, State.toSweep_eq (hmd'.symm ▸ hmd) hq', State.sanStarted, hmd']

/-! ### The command -/

theorem State.sanStarted_kept (u : State) (kind : Nat) (ndas : Bool) :
    Kept (.mode :: shiftParts) shiftFlds (u.sanWorked kind ndas) (u.sanStarted kind ndas) :=
  ((Kept.refl _ _ _).setModeSt (by simp) _).trans ((State.shifted_kept _ _ _).widen (by simp +contextual) (fun _ h => h))

theorem State.sanStarted_ctrl (u : State) (kind : Nat) (ndas : Bool) (p : Nat) : (u.sanStarted kind ndas).ctrl p = u.ctrl p := by
  rw [State.ctrl, (u.sanStarted_kept kind ndas).bel_eq (by decide), u.sanWorked_ctrls kind ndas, State.ctrl]

theorem State.sanStarted_pairs (u : State) (kind : Nat) (ndas : Bool) : (u.sanStarted kind ndas).jnl.pairs = (u.sanWorked kind ndas).jnl.pairs :=
  congrArg JnlSt.pairs ((u.sanStarted_kept kind ndas).jnl_eq (by decide))

theorem State.sanStarted_told (u : State) (kind : Nat) (ndas : Bool) {i : Nat} (hi : i < 4) :
    (u.sanStarted kind ndas).prog 0 i = [kind, sanFlags ndas, 0xFFFFFFFF, u.now].getD i 0 :=
  (State.prog_congr (u.sanStarted_pairs kind ndas) 0 i).trans (u.sanWorked_told kind ndas hi)

theorem State.sanStarted_sweeps (u : State) (kind : Nat) (ndas : Bool) : (u.sanStarted kind ndas).getb F.BEL_STS_SANITIZING = true ∧
    (u.sanStarted kind ndas).md = mSweep ∧ (u.sanStarted kind ndas).mode.sweepFrom = u.md := by
  refine ⟨((u.sanStarted_kept kind ndas).getb_eq (by decide)).trans (u.sanWorked_sanitizing kind ndas), State.shifted_md _ mSweep 9, ?_⟩
  rw [State.sanStarted, (State.shifted_kept _ mSweep 9).mode_eq (by decide)]

/-- Without a Stove the keys, the index and the maps are gone at once. -/
theorem State.sanStarted_free (hs : u.stoves = []) (hkind : kind = 1 ∨ kind = 2) :
    (u.sanStarted kind ndas).pair 0 = some [kind, sanFlags ndas, 0xFFFFFFFF, u.now, 2 ^ 44 / 127 + 1, 0, kind, 0x8000] ∧
    (u.sanStarted kind ndas).ddx.maps = [] ∧ NoSoft (u.sanStarted kind ndas) := by
  obtain ⟨hsteps, hsoft⟩ := State.sanWorked_free (u := u) (kind := kind) (ndas := ndas) hs (by omega)
  have hkept := u.sanStarted_kept kind ndas
  have hpairs := u.sanStarted_pairs kind ndas
  rw [hsteps] at hkept hpairs
  refine ⟨?_, (congrArg DdxSt.maps (hkept.ddx_eq (by decide))).trans (State.drivesTold_maps _), hsoft.drivesTold.congr (hkept.keys_eq (by decide))⟩
  have hgone : ∀ i < 4, (u.keysErased kind ndas).keysGone.prog 0 i = _ := fun i hi =>
    ((SanGoes.keysGone _).told i hi).trans (State.prog_of_pair (u.keysErased_pair kind ndas) i)
  have hstep : (if kind == 2 then 2 else 1) = kind := by rcases hkind with rfl | rfl <;> rfl
  rw [State.pair_congr hpairs, State.drivesTold_pair, hgone 0 (by decide), hgone 1 (by decide), hgone 2 (by decide), hgone 3 (by decide)]
  simp only [List.getD_cons_zero, List.getD_cons_succ, hstep]

/-- A strand that uses a slot of the software holds the first step back. -/
theorem State.sanStarted_held {n k : Nat} {v : Stove} (hv : (n, v) ∈ u.stoves) (hk : k < 4) (hsoft : v.usesSoft k = true) :
    (u.sanStarted kind ndas).prog 0 6 = 0 ∧ (u.sanStarted kind ndas).keys.erase = some u.cyc ∧
    (u.sanStarted kind ndas).ddx.maps = u.ddx.maps ∧ (u.sanStarted kind ndas).keys.slots = u.keys.slots := by
  have hkept := u.sanStarted_kept kind ndas
  have hpairs := u.sanStarted_pairs kind ndas
  have hrec := u.sanRecorded_kept kind ndas
  rw [State.sanWorked_held hv hk hsoft] at hkept hpairs
  have hkeys : (u.sanStarted kind ndas).keys = { u.keys with erase := some u.cyc } := by
    rw [hkept.keys_eq (by decide), State.cyc, ← hrec.tick_eq (by decide), ← hrec.keys_eq (by decide)]
    rfl
  refine ⟨(State.prog_congr hpairs 0 6).trans (State.prog_of_pair (u.sanRecorded_pair kind ndas) 6), ?_, ?_, ?_⟩
  · rw [hkeys]
  · rw [hkept.ddx_eq (by decide), (State.erasing_kept _).ddx_eq (by decide), hrec.ddx_eq (by decide)]
  · rw [hkeys]

/-! ### The commands -/

/-- What a Sanitize of `kind` has done in `t` once it has begun in `s` (R130-R133, R315). -/
def SanitizeBegun (s : State) (kind : Nat) (ndas : Bool) (t : State) : Prop :=
  t.getb F.BEL_STS_SANITIZING = true ∧ t.md = mSweep ∧ t.mode.sweepFrom = s.md ∧ t.prog 0 0 = kind ∧ t.prog 0 1 = sanFlags ndas ∧ t.prog 0 3 = s.now ∧
  (s.stoves = [] → t.pair 0 = some [kind, sanFlags ndas, 0xFFFFFFFF, s.now, 2 ^ 44 / 127 + 1, 0, kind, 0x8000] ∧ t.ddx.maps = [] ∧ NoSoft t) ∧
  ((∃ n v k, (n, v) ∈ s.stoves ∧ k < 4 ∧ v.usesSoft k = true) → t.prog 0 6 = 0 ∧ t.keys.erase = some s.cyc ∧ t.ddx.maps = s.ddx.maps ∧
    t.keys.slots = s.keys.slots)

theorem State.sanStarted_begun (u : State) (ndas : Bool) (hkind : kind = 1 ∨ kind = 2) : SanitizeBegun u kind ndas (u.sanStarted kind ndas) := by
  obtain ⟨hsan, hmd, hfrom⟩ := u.sanStarted_sweeps kind ndas
  refine ⟨hsan, hmd, hfrom, u.sanStarted_told kind ndas (i := 0) (by decide), u.sanStarted_told kind ndas (i := 1) (by decide),
    u.sanStarted_told kind ndas (i := 3) (by decide), fun hs => State.sanStarted_free hs hkind, ?_⟩
  rintro ⟨n, v, k, hv, hk, hsoft⟩
  exact State.sanStarted_held hv hk hsoft

/-- The fetch of the entry changes nothing of what a Sanitize starts from. -/
theorem SanitizeBegun.of_refetched (h : SanitizeBegun u kind ndas t) (hr : Refetched s u) : SanitizeBegun s kind ndas t := by
  obtain ⟨bel, ports, out, rfl, -⟩ := hr
  exact h

end Sys2Proof.Machine
end

section
/-! The Sanitize commands, and how a Sanitize ends (R130-R136, R474). -/

namespace Sys2Proof.Machine

variable {s t u : State} {i : Instr} {p cid kind m n : Nat} {ndas ok : Bool} {x : SubQ} {y : CplQ}

/-- In a Quench no port has its turn. -/
theorem qphase_of_turn (h : AdminTurn s p x y) : s.qphase = 0 := by
  obtain ⟨-, hturn, -⟩ := h
  simp only [State.turnOf, State.canTurn, State.portFetches, Bool.and_eq_true, beq_iff_eq] at hturn
  obtain ⟨⟨⟨⟨⟨-, hq⟩, -⟩, -⟩, -⟩, -⟩ := hturn
  exact hq

/-- Every drive that is online has been told to erase itself. -/
def AllErase (s t : State) : Prop := ∀ d z, Tab.find s.drv.drives d = some z → z.online = true → .drive d 7 0 0 0 [] ∈ t.out

theorem State.sanStarted_erases (hs : u.stoves = []) : AllErase u (u.sanStarted 2 ndas) := by
  intro d z hz ho
  obtain ⟨hsteps, -⟩ := State.sanWorked_free (u := u) (kind := 2) (ndas := ndas) hs (by decide)
  have hkind : (u.keysErased 2 ndas).keysGone.prog 0 0 = 2 :=
    ((SanGoes.keysGone _).told 0 (by decide)).trans (State.prog_of_pair (u.keysErased_pair 2 ndas) 0)
  have hdrv : (u.keysErased 2 ndas).keysGone.drv = u.drv :=
    (State.raiseWrap_kept _).drv_eq (by decide) |>.trans ((u.keysErased_kept 2 ndas).drv_eq (by decide))
  have hsent : .drive d 7 0 0 0 [] ∈ (u.sanWorked 2 ndas).out := by
    rw [hsteps]
    exact State.drivesTold_out hkind (hdrv.symm ▸ hz) ho
  exact State.shifted_out _ mSweep 9 hsent

theorem AllErase.of_refetched (h : AllErase u t) (hr : Refetched s u) : AllErase s t := by
  obtain ⟨bel, ports, out, rfl, -⟩ := hr
  exact h

/-- A completion touches nothing of what a Sanitize has done. -/
theorem SanitizeBegun.updCtrl (h : SanitizeBegun s kind ndas t) (f : Ctrl → Ctrl) : SanitizeBegun s kind ndas (t.updCtrl p f) := h

theorem State.sanitize_eq (h : AdminTurn s p x y) (hs : s.getb F.BEL_STS_SANITIZING = false) (hmd : s.md = mDuplex ∨ s.md = mSolo) (j : Instr) :
    s.sanitize j p cid kind ndas true = ((s.sqFetched p 0).sanStarted kind ndas).adminCpl p cid 0 0 0 := by
  have hkept := s.sqFetched_kept p 0
  have hs' : (s.sqFetched p 0).getb F.BEL_STS_SANITIZING = false := (hkept.getb_eq (by simp)).trans hs
  have hmd' : (s.sqFetched p 0).md = s.md := hkept.get_eq (by simp)
  have hq : (s.sqFetched p 0).qphase = s.qphase := hkept.get_eq (by simp)
  rw [State.sanitize, fetchWaking_of_turn h, Bool.not_true, if_neg Bool.false_ne_true, hs', if_neg Bool.false_ne_true,
    State.startSanitize_eq (hmd'.symm ▸ hmd) (by rw [hq, qphase_of_turn h]; decide)]

/-- A Sanitize that this head coordinates begins. -/
theorem sanitize_begins (h : AdminTurn s p x y) (hkind : kind = 1 ∨ kind = 2)
    (hex : exec i s = .next (((s.sqFetched p 0).sanStarted kind ndas).adminCpl p cid 0 0 0)) :
    Gives i s (fun t => AdminDone p cid 0 0 0 x y t ∧ SanitizeBegun s kind ndas t ∧ (kind = 2 → s.stoves = [] → AllErase s t)) := by
  have ht := s.sqFetched_adminTaken p
  have hstoves : (s.sqFetched p 0).stoves = s.stoves := by
    obtain ⟨bel, ports, out, heq, -⟩ := ht.refetched
    rw [heq]
  have hbegun := ((s.sqFetched p 0).sanStarted_begun ndas hkind).of_refetched ht.refetched
  have hall : kind = 2 → s.stoves = [] → AllErase s ((s.sqFetched p 0).sanStarted kind ndas) := by
    rintro rfl hnone
    exact (State.sanStarted_erases (hstoves.trans hnone)).of_refetched ht.refetched
  have hqueues : QueuesTaken x y (((s.sqFetched p 0).sanStarted kind ndas).ctrl p) := by
    rw [State.sanStarted_ctrl, ht.ctrl]
    exact queuesTaken_of_turn h
  generalize (s.sqFetched p 0).sanStarted kind ndas = v at hex hbegun hall hqueues
  rw [State.adminCpl_eq hqueues] at hex
  exact ⟨_, hex, adminDone_of_ctrl hqueues (State.ctrl_updCtrl _ _), hbegun.updCtrl _, hall⟩

/-! ### A mode is entered -/

theorem State.transition_kept_all (h : s.qphase ≠ 2) (m n : Nat) : Kept (.bel :: shiftParts) shiftFlds s (s.transition m n) := by
  have hshift := (s.shifted_kept m n).widen (qs := .bel :: shiftParts) (by simp +contextual) (fun _ h => h)
  rw [State.transition_eq h]
  split
  · exact hshift
  · exact hshift.trans ((State.showAna_kept _).widen (by simp [shiftParts, logParts]) (by simp))

theorem State.transition_md (h : s.qphase ≠ 2) (m n : Nat) : (s.transition m n).md = m % 16 := by
  rw [State.transition_eq h]
  split
  · exact s.shifted_md m n
  · exact ((State.showAna_kept _).get_eq (by simp)).trans (s.shifted_md m n)

theorem State.transition_bel (h : s.qphase ≠ 2) (m n : Nat) : ∃ ctrls, (s.transition m n).bel = { s.bel with ctrls } := by
  have hbel : (s.shifted m n).bel = s.bel := (s.shifted_kept m n).bel_eq (by decide)
  rw [State.transition_eq h, ← hbel]
  split
  · exact ⟨_, rfl⟩
  · exact State.showAna_bel _

/-- Entering a mode adds to its transition at most the beginning of a Banked entry. -/
theorem State.enterMode_after (s : State) (m n : Nat) : Kept bankedParts bankedFlds (s.transition m n) (s.enterMode m n) := by
  unfold State.enterMode
  dsimp only
  split
  · exact State.beginBanked_kept _
  · exact Kept.refl _ _ _

/-! ### A Sanitize ends -/

/-- The Sanitize has ended, and the head has still to leave Sweep. -/
def State.sanEnded (s : State) (ok : Bool) : State :=
  ((((s.endPair 0 ok).updDrv (fun v => { v with cmds := v.cmds.filter (·.op != 7) })).setb F.BEL_STS_SANITIZING false).updBel
    (fun b => { b with sanitizeFail := !ok, sanStatus := if ok then 1 else 3 })).record (if ok then 0x0F02 else 0x0F03) []

/-- The head no longer knows a mode to return to. -/
def State.sweepLeft (v : State) : State := { v with mode := { v.mode with sweepFrom := 0, soloAfterSweep := false } }

/-- The head leaves the Sweep it entered for the Sanitize. -/
def State.sweepBack (v : State) : State :=
  if v.md != mSweep || v.mode.sweepFrom == 0 then v.sweepLeft
  else if v.mode.soloAfterSweep then v.sweepLeft.beginTakeover 10
  else v.sweepLeft.enterMode v.mode.sweepFrom 10

/-- The Sanitize ends where it can. -/
def State.sanClosed (s : State) (ok : Bool) : State :=
  if !s.getb F.BEL_STS_SANITIZING || s.keys.erase.isSome || s.qphase == 2 || (ok && !s.sanDone) then s else (s.sanEnded ok).sweepBack

theorem exec_sanitizeDone (ok : Bool) (s : State) : exec (.sanitizeDone ok) s = .next (s.tryErase.sanGo.sanClosed ok) := by
  simp only [exec, execSanitizeDone]
  generalize s.tryErase.sanGo = u
  rfl

theorem State.sanEnded_kept (s : State) (ok : Bool) : Kept ([.jnl, .drv, .bel] ++ logParts) (F.BEL_STS_SANITIZING :: logFlds) s (s.sanEnded ok) :=
  (((((Kept.refl _ _ s).savePair (by simp) _ _).updDrv (by simp) _).setb (by simp)).updBel (by simp) _).logged (by simp +contextual) (by simp +contextual)

theorem sanitizeDone_waits (he : s.keys.erase = none) (h1 : 1 ≤ s.prog 0 6) (h4 : s.prog 0 6 = 1 → s.prog 0 4 ≠ 0) (hok : ok = true)
    (hd : s.sanDone = false) : Does (.sanitizeDone ok) s [] [] (fun t => t = s) := by
  refine ⟨s, ?_, rfl, Kept.refl _ _ s⟩
  rw [exec_sanitizeDone, State.tryErase_idle he, State.sanGo_stepped h1 h4, State.sanClosed, hok, hd, Bool.not_false, Bool.and_self, Bool.or_true, if_pos rfl]

/-- A Sanitize ends, and the head returns to the mode it came from. -/
theorem sanitizeDone_ends (hs : s.getb F.BEL_STS_SANITIZING = true) (he : s.keys.erase = none) (hq : s.qphase ≠ 2) (hmd : s.md = mSweep)
    (hfrom : s.mode.sweepFrom = mDuplex ∨ s.mode.sweepFrom = mSolo) (hsolo : s.mode.soloAfterSweep = false) (h1 : 1 ≤ s.prog 0 6)
    (h4 : s.prog 0 6 = 1 → s.prog 0 4 ≠ 0) (hd : ok = true → s.sanDone = true) :
    Gives (.sanitizeDone ok) s (fun t => t.getb F.BEL_STS_SANITIZING = false ∧ t.bel.sanitizeFail = !ok ∧ t.md = s.mode.sweepFrom ∧
      t.inProgress 0 = false) := by
  have hended := s.sanEnded_kept ok
  have hmode : (s.sanEnded ok).mode = s.mode := hended.mode_eq (by decide)
  have hmd' : (s.sanEnded ok).md = mSweep := (hended.get_eq (by decide)).trans hmd
  have hq' : (s.sanEnded ok).sweepLeft.qphase ≠ 2 := by
    have hsame : (s.sanEnded ok).qphase = s.qphase := hended.get_eq (by decide)
    exact hsame ▸ hq
  have hex : exec (.sanitizeDone ok) s = .next ((s.sanEnded ok).sweepLeft.enterMode s.mode.sweepFrom 10) := by
    have hgo : (!s.getb F.BEL_STS_SANITIZING || s.keys.erase.isSome || s.qphase == 2 || (ok && !s.sanDone)) = false := by
      have hlast : (ok && !s.sanDone) = false := by
        cases hb : ok with
        | false => rfl
        | true => rw [hd hb]; rfl
      rw [hs, he, hlast, beq_false_of_ne hq]
      rfl
    have hback : (s.mode.sweepFrom == 0) = false := by rcases hfrom with h | h <;> rw [h] <;> rfl
    rw [exec_sanitizeDone, State.tryErase_idle he, State.sanGo_stepped h1 h4, State.sanClosed, hgo, if_neg Bool.false_ne_true, State.sweepBack, hmd', hmode,
      hback, hsolo, if_neg (by decide), if_neg Bool.false_ne_true]
  have hafter := (s.sanEnded ok).sweepLeft.enterMode_after s.mode.sweepFrom 10
  have htrans := State.transition_kept_all hq' s.mode.sweepFrom 10
  have hleft : Kept [.mode] [] (s.sanEnded ok) (s.sanEnded ok).sweepLeft := (Kept.refl _ _ _).setModeSt (by simp) _
  refine ⟨_, hex, ?_, ?_, ?_, ?_⟩
  · rw [hafter.getb_eq (by decide), htrans.getb_eq (by decide), hleft.getb_eq (by simp)]
    exact ((State.record_kept _ _ _).getb_eq (by decide)).trans (State.getb_setb_same
      (s := (s.endPair 0 ok).updDrv (fun v => { v with cmds := v.cmds.filter (·.op != 7) })) (f := F.BEL_STS_SANITIZING) (b := false) (by decide))
  · obtain ⟨ctrls, hbel⟩ := State.transition_bel hq' s.mode.sweepFrom 10
    rw [hafter.bel_eq (by decide), hbel]
    exact (congrArg BelSt.sanitizeFail ((State.record_kept _ _ _).bel_eq (by decide)) :)
  · have hmod : s.mode.sweepFrom % 16 = s.mode.sweepFrom := by rcases hfrom with h | h <;> rw [h] <;> rfl
    exact (hafter.get_eq (by decide)).trans ((State.transition_md hq' _ _).trans hmod)
  · have hpairs : ((s.sanEnded ok).sweepLeft.enterMode s.mode.sweepFrom 10).jnl.pairs = (s.endPair 0 ok).jnl.pairs := by
      rw [hafter.jnl_eq (by decide), htrans.jnl_eq (by decide), hleft.jnl_eq (by simp)]
      exact (congrArg JnlSt.pairs ((State.record_kept _ _ _).jnl_eq (by decide)) :)
    rw [State.inProgress_congr hpairs, State.inProgress_endPair]

end Sys2Proof.Machine
end

section
/-! A Format begins and its work is done (R130, R131). -/

namespace Sys2Proof.Tab

theorem find_keep_key {α : Type} {p : Nat → Bool} {k : Nat} (t : Tab α) : find (keep t fun j _ => p j) k = if p k then find t k else none := by
  split
  · next h => exact Machine.getN_filter_key fun _ => h
  · next h =>
    refine Option.eq_none_iff_forall_not_mem.mpr fun v hv => h ?_
    exact (List.mem_filter.mp (mem_of_find hv)).2

end Sys2Proof.Tab

namespace Sys2Proof.Machine

variable {s t u : State} {i : Instr} {p cid nsid k kind v w : Nat} {x : SubQ} {y : CplQ}

/-! ### The work of a Format on one volume -/

/-- The maps of a volume are empty, and its old entries wait for their references to be released. -/
def State.mapsDropped (s : State) (k v : Nat) : State :=
  s.updDdx (fun d => { d with
    maps := Tab.keep d.maps (fun key _ => !([v].any (fun v => ofVol v key)))
    oldMaps := Tab.put d.oldMaps k ((s.ddx.maps.filter (fun e => [v].any (fun v => ofVol v e.1) && e.2.present)).map
      (fun e => ((s.vol (e.1 % 16384)).domain, e.2))) })

/-- The Format has recorded itself. -/
def State.formatRecorded (s : State) (k kind nsid : Nat) : State := (s.savePair k [kind, 1, nsid, s.now, 0, 0, 1, 0]).record 0x0F04 []

/-- A Format of one volume has begun. -/
def State.formatStarted (s : State) (k kind nsid v : Nat) : State :=
  (((s.formatRecorded k kind nsid).mapsDropped k v).clearLost v).updVol v (fun x => { x with format := k })

theorem State.formatRecorded_kept (s : State) (k kind nsid : Nat) : Kept (.jnl :: logParts) logFlds s (s.formatRecorded k kind nsid) :=
  ((Kept.refl _ _ s).savePair (by simp) _ _).logged (by simp +contextual) (fun _ h => h)

theorem State.formatStarted_kept (s : State) (k kind nsid v : Nat) :
    Kept ([.jnl, .ddx, .bel] ++ logParts) logFlds s (s.formatStarted k kind nsid v) :=
  (((((s.formatRecorded_kept k kind nsid).widen (by simp +contextual [or_imp]) (fun _ h => h)).updDdx (by simp) _).updBel (by simp) _).updJnl (by simp) _).updBel
    (by simp) _

theorem State.formatStarted_pair (s : State) (k kind nsid v : Nat) : (s.formatStarted k kind nsid v).pair k = some [kind, 1, nsid, s.now, 0, 0, 1, 0] := by
  have hpairs : (s.formatStarted k kind nsid v).jnl.pairs = (s.formatRecorded k kind nsid).jnl.pairs := rfl
  rw [State.formatRecorded, (State.record_kept _ _ _).jnl_eq (by decide)] at hpairs
  rw [State.pair_congr hpairs, State.pair_savePair_same]

theorem State.formatStarted_format (s : State) (k kind nsid v : Nat) : ((s.formatStarted k kind nsid v).vol v).format = k := by
  rw [State.formatStarted, State.vol_updVol, if_pos rfl]

theorem State.formatStarted_ctrl (s : State) (k kind nsid v p : Nat) : (s.formatStarted k kind nsid v).ctrl p = s.ctrl p := by
  have hctrls : (s.formatStarted k kind nsid v).bel.ctrls = (s.formatRecorded k kind nsid).bel.ctrls := rfl
  rw [State.ctrl, hctrls, (s.formatRecorded_kept k kind nsid).bel_eq (by decide), State.ctrl]

theorem ofVol_mapKey (hw : w < 16384) (lba : Nat) : ofVol v (mapKey w lba) = (w == v) := by
  rw [ofVol, mapKey, Nat.mul_add_mod_of_lt hw]

/-- The Format empties the maps of its volume and of no other. -/
theorem State.formatStarted_mapAt (s : State) (k kind nsid v : Nat) (hw : w < 16384) (lba : Nat) :
    (s.formatStarted k kind nsid v).mapAt w lba = if w = v then MapEntry.zero else s.mapAt w lba := by
  have hmaps : (s.formatStarted k kind nsid v).ddx.maps =
      Tab.keep (s.formatRecorded k kind nsid).ddx.maps (fun key _ => !([v].any (fun v => ofVol v key))) := rfl
  rw [(s.formatRecorded_kept k kind nsid).ddx_eq (by decide)] at hmaps
  have hkey : (!([v].any (fun v => ofVol v (mapKey w lba)))) = !(w == v) := by simp [ofVol_mapKey hw]
  rw [State.mapAt, hmaps, Tab.getD, Tab.find_keep_key, hkey]
  by_cases h : w = v
  · simp [h]
  · simp [h, State.mapAt, Tab.getD]

/-! ### The commands -/

/-- What a Format of KIND `kind` of one namespace has done in `t` once it has begun in `s`. -/
def FormatBegun (s : State) (nsid k kind : Nat) (t : State) : Prop :=
  (t.vol (nsid - 1)).format = k ∧ (∀ lba, t.mapAt (nsid - 1) lba = MapEntry.zero) ∧
  (∀ v lba, v < 16384 → v ≠ nsid - 1 → t.mapAt v lba = s.mapAt v lba) ∧ t.prog k 0 = kind ∧ t.prog k 6 = 1 ∧ t.prog k 2 = nsid

theorem State.formatStarted_begun (s : State) (k kind : Nat) (hmax : nsid ≤ 16384) :
    FormatBegun s nsid k kind (s.formatStarted k kind nsid (nsid - 1)) := by
  have hmap := fun (w lba : Nat) (hw : w < 16384) => s.formatStarted_mapAt k kind nsid (nsid - 1) hw lba
  have hprog := State.prog_of_pair (s.formatStarted_pair k kind nsid (nsid - 1))
  exact ⟨s.formatStarted_format k kind nsid _, fun lba => (hmap _ lba (by omega)).trans (if_pos rfl),
    fun v lba hv hne => (hmap v lba hv).trans (if_neg hne), hprog 0, hprog 6, hprog 2⟩

theorem FormatBegun.congr (h : FormatBegun u nsid k kind t) (hd : u.ddx = s.ddx) : FormatBegun s nsid k kind t := by
  obtain ⟨hformat, hgone, hothers, hprog⟩ := h
  refine ⟨hformat, hgone, fun v lba hv hne => (hothers v lba hv hne).trans ?_, hprog⟩
  rw [State.mapAt, State.mapAt, hd]

/-- A completion touches nothing of what a Format has done. -/
theorem FormatBegun.updCtrl (h : FormatBegun s nsid k kind t) (f : Ctrl → Ctrl) : FormatBegun s nsid k kind (t.updCtrl p f) := h

/-- The namespace can be formatted: it exists and is not under format, no Sanitize runs, and `k` is the lowest free pair. -/
structure Formattable (s : State) (nsid k : Nat) : Prop where
  idle : s.getb F.BEL_STS_SANITIZING = false
  nonzero : nsid ≠ 0
  small : nsid ≤ 16384
  present : (s.vol (nsid - 1)).present = true
  unformatted : (s.vol (nsid - 1)).format = 0
  free : s.freePair = some k

/-- The fetch of the entry changes nothing of what a Format starts from. -/
theorem Formattable.of_refetched (h : Formattable s nsid k) (hr : Refetched s u) : Formattable u nsid k := by
  obtain ⟨-, -, -, hvols, -⟩ := hr.bel_facts
  have hvol : u.vol (nsid - 1) = s.vol (nsid - 1) := by rw [State.vol, State.vol, hvols]
  obtain ⟨hidle, h0, hmax, hpresent, hformat, hfree⟩ := h
  rw [← hvol] at hpresent hformat
  obtain ⟨bel, ports, out, rfl, -⟩ := hr
  exact ⟨hidle, h0, hmax, hpresent, hformat, hfree⟩

/-- No volume but the one to be formatted uses its domain. -/
def DomainAlone (s : State) (v : Nat) : Prop := ∀ e ∈ s.bel.vols, e.1 ≠ v → e.2.present = true → e.2.domain ≠ (s.vol v).domain

/-- For a cryptographic erase the key slot of the volume's domain is destroyed. -/
def State.keyDropped (u : State) (kind v : Nat) : State := if kind == 5 then u.dropDomain (u.vol v).domain else u

theorem State.keyDropped_kept (u : State) (kind v : Nat) : Kept [.keys] [] u (u.keyDropped kind v) := by
  unfold State.keyDropped State.dropDomain
  split
  · split
    · exact (Kept.refl _ _ u).updKeys (by simp) _
    · exact Kept.refl _ _ u
  · exact Kept.refl _ _ u

theorem DomainAlone.notShared (h : DomainAlone u v) : u.bel.vols.any (fun e => e.2.present && !([v].contains e.1) &&
    [v].any (fun w => (u.vol w).domain == e.2.domain)) = false := by
  refine List.any_eq_false.mpr fun e he hand => ?_
  simp only [List.contains_cons, List.contains_nil, Bool.or_false, List.any_cons, List.any_nil, Bool.and_eq_true, Bool.not_eq_true', beq_iff_eq,
    beq_eq_false_iff_ne] at hand
  obtain ⟨⟨hpresent, hne⟩, hdomain⟩ := hand
  exact h e he hne hpresent hdomain.symm

/-- What a Format does once its entry is taken. -/
theorem State.format_eq (h : AdminTurn s p x y) (hu : Formattable (s.sqFetched p 0) nsid k)
    (halone : kind = 5 → DomainAlone (s.sqFetched p 0) (nsid - 1)) (j : Instr) : s.format j p cid nsid kind =
      ((((s.sqFetched p 0).keyDropped kind (nsid - 1)).formatStarted k kind nsid (nsid - 1)).adminCpl p cid 0 0 0) := by
  obtain ⟨hidle, h0, hmax, hpresent, hformat, hfree⟩ := hu
  rw [State.format, fetchWaking_of_turn h]
  generalize s.sqFetched p 0 = u at *
  have hvs : u.formatVols nsid = [nsid - 1] := by
    have hall : (nsid == 0xFFFFFFFF) = false := beq_false_of_ne (by omega)
    simp [State.formatVols, hall, h0, hpresent]
  have hothers : (kind == 5 && u.bel.vols.any (fun v => v.2.present && !([nsid - 1].contains v.1) &&
      [nsid - 1].any (fun w => (u.vol w).domain == v.2.domain))) = false := by
    by_cases h5 : kind = 5
    · rw [(halone h5).notShared, Bool.and_false]
    · rw [beq_false_of_ne h5, Bool.false_and]
  have hunder : [nsid - 1].any (fun v => (u.vol v).format != 0) = false := by simp [hformat]
  simp only [hvs, hothers, hidle, hunder, hfree, List.isEmpty_cons, Bool.false_eq_true, if_false]
  rfl

theorem DomainAlone.of_refetched (h : DomainAlone s v) (hr : Refetched s u) : DomainAlone u v := by
  obtain ⟨-, -, -, hvols, -⟩ := hr.bel_facts
  have hvol : u.vol v = s.vol v := by rw [State.vol, State.vol, hvols]
  rw [DomainAlone, hvols, hvol]
  exact h

/-- A Format begins; only a cryptographic erase changes the keys. -/
theorem format_begins (h : AdminTurn s p x y) (hf : Formattable s nsid k) (halone : kind = 5 → DomainAlone s (nsid - 1))
    (hex : exec i s = .next (s.format i p cid nsid kind)) : Gives i s (fun t => AdminDone p cid 0 0 0 x y t ∧ FormatBegun s nsid k kind t ∧
      t.keys = (s.keyDropped kind (nsid - 1)).keys) := by
  have ht := s.sqFetched_adminTaken p
  have hr := ht.refetched
  rw [State.format_eq h (hf.of_refetched hr) (fun h5 => (halone h5).of_refetched hr) i] at hex
  have hkeys : ((s.sqFetched p 0).keyDropped kind (nsid - 1)).keys = (s.keyDropped kind (nsid - 1)).keys := by
    obtain ⟨-, -, -, hvols, -⟩ := hr.bel_facts
    have hvol : (s.sqFetched p 0).vol (nsid - 1) = s.vol (nsid - 1) := by rw [State.vol, State.vol, hvols]
    rw [State.keyDropped, State.keyDropped, hvol]
    obtain ⟨bel, ports, out, heq, -⟩ := hr
    rw [heq]
    unfold State.dropDomain
    split
    · split <;> rfl
    · rfl
  have hdrop := (s.sqFetched p 0).keyDropped_kept kind (nsid - 1)
  have hddx : ((s.sqFetched p 0).keyDropped kind (nsid - 1)).ddx = s.ddx := by
    obtain ⟨bel, ports, out, heq, -⟩ := hr
    rw [hdrop.ddx_eq (by decide), heq]
  have hctrl : ((s.sqFetched p 0).keyDropped kind (nsid - 1)).ctrl p = (s.ctrl p).taken := by
    rw [State.ctrl, hdrop.bel_eq (by decide), ← State.ctrl, ht.ctrl]
  generalize (s.sqFetched p 0).keyDropped kind (nsid - 1) = u at hex hkeys hddx hctrl
  have hbegun := (u.formatStarted_begun k kind hf.small).congr hddx
  have hqueues : QueuesTaken x y ((u.formatStarted k kind nsid (nsid - 1)).ctrl p) := by
    rw [State.formatStarted_ctrl, hctrl]
    exact queuesTaken_of_turn h
  have hkeys' : (u.formatStarted k kind nsid (nsid - 1)).keys = u.keys := (u.formatStarted_kept k kind nsid (nsid - 1)).keys_eq (by decide)
  generalize u.formatStarted k kind nsid (nsid - 1) = v at hex hbegun hqueues hkeys'
  rw [State.adminCpl_eq hqueues] at hex
  exact ⟨_, hex, adminDone_of_ctrl hqueues (State.ctrl_updCtrl _ _), hbegun.updCtrl _, hkeys'.trans hkeys⟩

/-- A cryptographic erase leaves of a domain's key no VALID slot of the software. -/
theorem State.keyDropped_slots (s : State) (v : Nat) : Tab.find (s.keyDropped 5 v).keys.slots (Config.domainSlot (s.vol v).domain) =
    if 16 ≤ Config.domainSlot (s.vol v).domain then none else Tab.find s.keys.slots (Config.domainSlot (s.vol v).domain) := by
  rw [State.keyDropped, if_pos (beq_self_eq_true 5), State.dropDomain]
  split
  · exact (Tab.find_del _ _ _).trans (if_pos rfl)
  · rfl

/-! ### The work of a Format ends -/

/-- Some volumes come back. -/
def State.volsBack (s : State) (vs : List Nat) : State := vs.foldl (fun s v => s.updVol v (fun x => { x with format := 0 })) s

theorem State.volsBack_kept (s : State) (vs : List Nat) : Kept [.bel] [] s (s.volsBack vs) :=
  Kept.foldl (fun s v => (Kept.refl _ _ s).updBel (by simp) _) vs s

theorem State.volsBack_format (w : Nat) : ∀ (vs : List Nat) (s : State), ((s.volsBack vs).vol w).format = if w ∈ vs then 0 else (s.vol w).format
  | [], s => rfl
  | v :: vs, s => by
    have hstep : s.volsBack (v :: vs) = (s.updVol v (fun x => { x with format := 0 })).volsBack vs := rfl
    rw [hstep, State.volsBack_format w vs, State.vol_updVol]
    by_cases hw : w = v
    · simp [hw]
    · simp [hw]

/-- The volumes under the Format of pair `k`. -/
def State.underFormat (s : State) (k : Nat) : List Nat := (s.bel.vols.filter (fun v => v.2.format == k)).map (·.1)

theorem State.mem_underFormat (hk : k ≠ 0) (hv : (s.vol v).format = k) : v ∈ s.underFormat k := by
  rw [State.vol, Tab.getD] at hv
  cases hfind : Tab.find s.bel.vols v with
  | none =>
    rw [hfind] at hv
    exact absurd hv.symm hk
  | some z =>
    rw [hfind] at hv
    exact List.mem_map.mpr ⟨(v, z), List.mem_filter.mpr ⟨Tab.mem_of_find hfind, beq_iff_eq.mpr hv⟩, rfl⟩

/-- The old entries of the Format are forgotten, and its volumes come back. -/
def State.formatBack (s : State) (k : Nat) : State := (s.updDdx (fun d => { d with oldMaps := Tab.del d.oldMaps k })).volsBack (s.underFormat k)

theorem exec_formatDone (hk : k ≠ 0) (hp : s.inProgress k = true) (hold : Tab.getD s.ddx.oldMaps k [] = []) :
    exec (.formatDone k) s = .next (((s.formatBack k).endPair k true).record 0x0F05 []) := by
  have hgo : (k == 0 || !s.inProgress k) = false := by simp [hk, hp]
  simp only [exec, execFormatDone, hgo, hold, List.foldl_nil, Bool.false_eq_true, if_false]
  rfl

/-- The work of a Format without references to release ends: its pair is free, and its volumes are under format no more. -/
theorem formatDone_ends (hk : k ≠ 0) (hp : s.inProgress k = true) (hold : Tab.getD s.ddx.oldMaps k [] = []) :
    Gives (.formatDone k) s (fun t => t.inProgress k = false ∧ (∀ v, (s.vol v).format = k → (t.vol v).format = 0) ∧ Staged 0x0F05 [] s t) := by
  have hback : Kept [.ddx, .bel] [] s (s.formatBack k) :=
    ((Kept.refl _ _ s).updDdx (by simp) _).trans ((State.volsBack_kept _ _).widen (by simp) (by simp))
  have hended : Kept [.jnl] [] (s.formatBack k) ((s.formatBack k).endPair k true) := (Kept.refl _ _ _).savePair (by simp) _ _
  have hrec := State.record_kept ((s.formatBack k).endPair k true) 0x0F05 []
  refine ⟨_, exec_formatDone hk hp hold, ?_, fun v hv => ?_, staged_record ?_ ?_ (by decide)⟩
  · rw [State.inProgress_congr (congrArg JnlSt.pairs (hrec.jnl_eq (by decide))), State.inProgress_endPair]
  · rw [State.vol, hrec.bel_eq (by decide), hended.bel_eq (by decide), ← State.vol, State.formatBack, State.volsBack_format,
      if_pos (State.mem_underFormat hk hv)]
  · rw [hended.soot_eq (by decide) (by decide), hback.soot_eq (by decide) (by decide)]
  · rw [hended.tick_eq (by decide), hback.tick_eq (by decide)]

end Sys2Proof.Machine
end

section
namespace Sys2Proof.Machine

/-- Settles O39: a Sanitize by the steps it takes, held back or not, and by its end; a Format by what it does to its one volume, and by the end of its
work. -/
theorem sanitizeAndFormat : Obligations.SanitizeAndFormat := by
  unfold Obligations.SanitizeAndFormat
  refine ⟨fun s p cid ndas x y h hs hmd => ⟨?_, ?_⟩, fun s ok hs he hq hmd hfrom hsolo h1 h4 =>
    ⟨fun hd => sanitizeDone_ends hs he hq hmd hfrom hsolo h1 h4 hd, fun hok hd => sanitizeDone_waits he h1 h4 hok hd⟩,
    fun s p cid nsid k x y h hs h0 hmax hpresent hformat hfree => ?_, fun s k hk hp hold => formatDone_ends hk hp hold⟩
  · have hex : exec (.sanitizeCryptoErase p cid ndas true) s = .next (s.sanitize (.sanitizeCryptoErase p cid ndas true) p cid 1 ndas true) := rfl
    obtain ⟨t, ht, hdone, hbegun, -⟩ := sanitize_begins h (.inl rfl) (hex.trans (congrArg _ (State.sanitize_eq h hs hmd _)))
    exact ⟨t, ht, hdone, hbegun⟩
  · have hex : exec (.sanitizeBlockErase p cid ndas true) s = .next (s.sanitize (.sanitizeBlockErase p cid ndas true) p cid 2 ndas true) := rfl
    obtain ⟨t, ht, hdone, hbegun, hall⟩ := sanitize_begins h (.inr rfl) (hex.trans (congrArg _ (State.sanitize_eq h hs hmd _)))
    exact ⟨t, ht, ⟨hdone, hbegun⟩, hall rfl⟩
  · have hf : Formattable s nsid k := ⟨hs, h0, hmax, hpresent, hformat, hfree⟩
    refine ⟨?_, ?_, fun halone => ?_⟩
    · obtain ⟨t, ht, hdone, hbegun, -⟩ := format_begins (i := .format p cid nsid 0) (cid := cid) (kind := 3) h hf (by simp) rfl
      exact ⟨t, ht, hdone, hbegun⟩
    · obtain ⟨t, ht, hdone, hbegun, -⟩ := format_begins (i := .format p cid nsid 1) (cid := cid) (kind := 4) h hf (by simp) rfl
      exact ⟨t, ht, hdone, hbegun⟩
    · obtain ⟨t, ht, hdone, hbegun, hkeys⟩ := format_begins (i := .formatCryptoErase p cid nsid) (cid := cid) (kind := 5) h hf (fun _ => halone) rfl
      exact ⟨t, ht, ⟨hdone, hbegun⟩, by rw [hkeys, State.keyDropped_slots]⟩

end Sys2Proof.Machine
end

section
/-! A head of a number no head has: what leaving Kindling for Joining shows of it. -/

namespace Sys2Proof.Machine

/-- Whether bit `i` of DDX_STS.REBUILD is set in a state that was answered. -/
def rebuildsHalf (i : Nat) : Res → Bool
  | .next t => t.bitOf F.DDX_STS_REBUILD i
  | _ => false

/-- A head in Kindling that has recovered, with its session up and the byte of a partner in Solo, whose options let it join. GLB_ID.HEAD, a field of
one bit, holds 2. -/
def thirdHead : State :=
  { ((((({ State.reset with regs := Tab.putN State.reset.regs F.GLB_ID_HEAD.key 2 } : State).set F.KDL_REL_STS_DOMAIN (2 ^ 18 - 1)).set
      F.GLB_MODE_MODE mKindling).setb F.JNL_STS_READY true).setb F.CRL_STS_SESSION true) with
    mode := { partnerByte := some mSolo }, jnl := { State.reset.jnl with cur := zeroBytes 15 ++ [4] } }

theorem thirdHead_asks : asksMode thirdHead .sideband = true ∧ thirdHead.md = mKindling ∧ thirdHead.recovered = true ∧
    thirdHead.getb F.GLB_MODE_WAITING = false ∧ ∀ k < 32, thirdHead.inProgress k = false := by decide +kernel

theorem thirdHead_mayJoin : thirdHead.session = true ∧ thirdHead.jnl.recs = [] ∧ mSolo % 16 = mSolo ∧ thirdHead.modeAllowed mJoining = true := by
  decide +kernel

/-- REBUILD has a bit for each of the two halves, and none for the number of this head. -/
theorem thirdHead_rebuildsNone : rebuildsHalf thirdHead.head (exec (.leaveKindlingReq .sideband) thirdHead) = false := by decide +kernel

/-- Refutes O40: a head that joins shows the rebuild of its half in the bit of DDX_STS.REBUILD that its number names. The statement takes the number
from GLB_ID.HEAD as it stands in any state; where that holds 2, which no write leaves in its one bit, the two-bit field has no such bit to set. -/
theorem not_modesChange : ¬ Obligations.ModesChange := by
  unfold Obligations.ModesChange
  rintro ⟨⟨hleave, -⟩, -⟩
  obtain ⟨hasks, hmd, hrec, hwait, hidle⟩ := thirdHead_asks
  obtain ⟨hsession, hrecs, hsolo, hmay⟩ := thirdHead_mayJoin
  obtain ⟨hjoin, -⟩ := hleave thirdHead .sideband hasks hmd hrec
  obtain ⟨-, hbyte⟩ := hjoin hwait hidle
  obtain ⟨hsolos, -⟩ := hbyte mSolo hsession rfl hrecs
  obtain ⟨t, ht, -, -, -, hrebuild⟩ := hsolos hsolo hmay
  have hnone := thirdHead_rebuildsNone
  rw [ht, rebuildsHalf, hrebuild] at hnone
  exact Bool.noConfusion hnone

end Sys2Proof.Machine
end

section
/-! A table whose values all change. -/

namespace Sys2Proof.Tab

theorem find_mapVals {α β : Type} (t : Tab α) (f : Nat → α → β) (k : Nat) : find (mapVals t f) k = (find t k).map (f k) := by
  induction t with
  | nil => rfl
  | cons e t ih =>
    obtain ⟨i, v⟩ := e
    simp only [mapVals, List.map_cons, find] at ih ⊢
    split
    · next h => rw [h]; rfl
    · exact ih

theorem getD_mapVals {α β : Type} (t : Tab α) (f : Nat → α → β) (k : Nat) (d : α) (e : β) (h : f k d = e) :
    getD (mapVals t f) k e = f k (getD t k d) := by
  rw [getD, find_mapVals, getD]
  cases find t k with
  | none => exact h.symm
  | some v => rfl

end Sys2Proof.Tab
end

section
/-! Stoves and strands: what a change of one leaves, what a strand that gives up its units keeps, and how a strand faults (R147, R164). -/

namespace Sys2Proof.Machine

variable {ps : List Part} {fs : List Fld} {s t : State} {n k m j code : Nat}

/-! ### Changes of a Stove and of a strand -/

theorem State.stove_updStove_other (h : m ≠ n) (f : Stove → Stove) : (s.updStove n f).stove m = s.stove m := by
  simp [State.stove, State.updStove, Tab.getD_upd, h]

theorem State.stove_updStrand (f : Strand → Strand) :
    (s.updStrand n k f).stove n = { s.stove n with strands := Tab.upd (s.stove n).strands k {} f } := State.stove_updStove n _

theorem State.stove_updStrand_other (h : m ≠ n) (f : Strand → Strand) : (s.updStrand n k f).stove m = s.stove m :=
  State.stove_updStove_other h _

theorem State.strand_updStrand (f : Strand → Strand) : (s.updStrand n k f).strand n k = f (s.strand n k) := by
  rw [State.strand, State.stove_updStrand, Tab.getD_upd, if_pos rfl, State.strand]

theorem State.strand_updStrand_other (h : j ≠ k) (f : Strand → Strand) : (s.updStrand n k f).strand n j = s.strand n j := by
  rw [State.strand, State.stove_updStrand, Tab.getD_upd, if_neg h, State.strand]

/-- A change of a Stove that leaves its strands. -/
theorem State.strand_updStove {f : Stove → Stove} (hf : (f (s.stove n)).strands = (s.stove n).strands) : (s.updStove n f).strand n j = s.strand n j := by
  rw [State.strand, State.stove_updStove, hf, State.strand]

theorem Kept.updStrand (h : Kept ps fs s t) (hp : Part.stoves ∈ ps) (n k : Nat) (f : Strand → Strand) : Kept ps fs s (t.updStrand n k f) :=
  h.updStove hp n _

theorem Kept.stove_eq (h : Kept ps fs s t) (hp : Part.stoves ∉ ps) (n : Nat) : t.stove n = s.stove n := by
  rw [State.stove, State.stove, h.stoves_eq hp]

theorem Kept.strand_eq (h : Kept ps fs s t) (hp : Part.stoves ∉ ps) (n k : Nat) : t.strand n k = s.strand n k := by
  rw [State.strand, State.strand, h.stove_eq hp]

theorem Kept.fwq_eq (h : Kept ps fs s t) (hp : Part.fwq ∉ ps) : t.fwq = s.fwq := h.2.1 .fwq hp

/-- A field of a Stove lies above the fields of every block below the Stoves. -/
theorem stvField_notMem {f : Fld} (h : 0x1000000 ≤ f.addr) (hfs : ∀ g ∈ fs, g.key < 0x40000000) : f.key ∉ fs.map Fld.key := by
  intro hm
  obtain ⟨g, hg, he⟩ := List.mem_map.mp hm
  have := hfs g hg
  simp only [Fld.key] at he this
  omega

theorem logFlds_low : ∀ g ∈ logFlds, g.key < 0x40000000 := by decide

/-! ### Giving up what a strand holds (R147) -/

/-- What the Stove gives up with strand `k`: contexts, compressor blocks, the lock, saved lock state. -/
def Stove.givesUp (v : Stove) (k : Nat) : Stove :=
  let w := { v with
    ctxs := Tab.mapVals v.ctxs (fun _ c => if c.strand == k && c.state != 0 then { c with state := 0, msg := [], key := [] } else c)
    blocks := Tab.mapVals (Tab.keep v.blocks (fun _ b => b.strand != k || b.lane.any (· < 6))) (fun _ b =>
      if b.strand == k then { b with strand := 4, closer := none } else b)
    orphans := v.orphans ++ (Tab.getD v.strands k {}).lanes
    susp := if v.susp.any (fun (h : CiHold) => h.strand == k) then none else v.susp }
  if w.lock.any (fun (h : CiHold) => h.strand == k) then w.unlock else w

/-- What the strand itself gives up: its tickets but for their epochs, its open block, its wait. -/
def Strand.givesUp (x : Strand) : Strand := { x with tickets := Tab.mapVals x.tickets (fun _ t => { epoch := t.epoch }), block := none, wait := none }

theorem Stove.givesUp_rest (v : Stove) (k : Nat) : v.givesUp k =
    { v with ctxs := (v.givesUp k).ctxs, blocks := (v.givesUp k).blocks, orphans := (v.givesUp k).orphans,
             lock := (v.givesUp k).lock, susp := (v.givesUp k).susp } := by
  unfold Stove.givesUp
  dsimp only
  split <;> rfl

theorem Stove.givesUp_strands (v : Stove) (k : Nat) : (v.givesUp k).strands = v.strands := by rw [v.givesUp_rest]

theorem Stove.givesUp_ctxs (v : Stove) (k : Nat) : (v.givesUp k).ctxs =
    Tab.mapVals v.ctxs (fun _ c => if c.strand == k && c.state != 0 then { c with state := 0, msg := [], key := [] } else c) := by
  unfold Stove.givesUp
  dsimp only
  split <;> rfl

theorem State.releaseStrand_stoves (s : State) (n k : Nat) :
    (s.releaseStrand n k).stoves = ((s.updStove n (·.givesUp k)).updStrand n k Strand.givesUp).stoves := by
  unfold State.releaseStrand
  dsimp only
  rw [(State.tryErase_kept _).stoves_eq (by simp)]
  rfl

theorem State.stove_releaseStrand (s : State) (n k : Nat) : (s.releaseStrand n k).stove n =
    { (s.stove n).givesUp k with strands := Tab.upd (s.stove n).strands k {} Strand.givesUp } := by
  rw [State.stove, State.releaseStrand_stoves, ← State.stove, State.stove_updStrand, State.stove_updStove, Stove.givesUp_strands]

theorem State.stove_releaseStrand_other (h : m ≠ n) : (s.releaseStrand n k).stove m = s.stove m := by
  rw [State.stove, State.releaseStrand_stoves, ← State.stove, State.stove_updStrand_other h, State.stove_updStove_other h]

theorem State.strand_releaseStrand (s : State) (n k : Nat) : (s.releaseStrand n k).strand n k = (s.strand n k).givesUp := by
  rw [State.strand, State.stove_releaseStrand, Tab.getD_upd, if_pos rfl, State.strand]

theorem State.strand_releaseStrand_other (h : j ≠ k) : (s.releaseStrand n k).strand n j = s.strand n j := by
  rw [State.strand, State.stove_releaseStrand, Tab.getD_upd, if_neg h, State.strand]

theorem Kept.setDdxDrv (h : Kept ps fs s t) (hx : Part.ddx ∈ ps) (hy : Part.drv ∈ ps) (x : DdxSt) (y : DrvSt) :
    Kept ps fs s { t with ddx := x, drv := y } := h.upd rfl rfl fun p hn => by
  cases p with
  | ddx => exact absurd hx hn
  | drv => exact absurd hy hn
  | ports | irqPend => exact fun _ => rfl
  | wdt => exact ⟨rfl, rfl⟩
  | plic => exact ⟨rfl, rfl, rfl, rfl⟩
  | _ => rfl

theorem Kept.tryErase (h : Kept ps fs s t) (hp : Part.keys ∈ ps) : Kept ps fs s t.tryErase :=
  h.trans (t.tryErase_kept.widen (by simpa using hp) (by simp))

/-- What a strand holds lies in the Stoves, the index, the drive ports and the pool; the slots of the software may be zeroed then. -/
def strandParts : List Part := [.stoves, .ddx, .drv, .pool, .keys]

theorem State.releaseStrand_kept (s : State) (n k : Nat) : Kept strandParts [] s (s.releaseStrand n k) :=
  Kept.tryErase (Kept.setDdxDrv (Kept.updPool (Kept.updStrand (Kept.updStove (Kept.refl strandParts [] s) (by simp [strandParts]) n _)
    (by simp [strandParts]) n k _) (by simp [strandParts]) _) (by simp [strandParts]) (by simp [strandParts]) _ _) (by simp [strandParts])

theorem State.tryErase_keys (h : s.keys.erase = none) : s.tryErase.keys = s.keys := by rw [State.tryErase_idle h]

theorem State.releaseStrand_keys (h : s.keys.erase = none) : (s.releaseStrand n k).keys = s.keys := State.tryErase_keys h

/-! ### A strand faults (R164) -/

/-- The strand has given up its units and is faulted, and its item waits with firmware. -/
def State.strandStopped (s : State) (n k code : Nat) : State :=
  let u := ((s.releaseStrand n k).updStrand n k (fun x => { x with st := .faulted, fltCode := code, fltPc := x.pc, item := none })).setBitOf
    (F.STV_FAULT_STRAND n) k true
  { u with fwq := u.fwq ++ (s.strand n k).item.toList }

theorem State.strandFault_eq (s : State) (n k code : Nat) :
    s.strandFault n k code = (s.strandStopped n k code).record 0x0501 (w1 n ++ w1 k ++ w1 (s.pgmOf n k) ++ w1 code) := by
  unfold State.strandFault State.strandStopped
  dsimp only
  cases (s.strand n k).item with
  | some w => rfl
  | none => simp only [Option.toList_none, List.append_nil]

theorem State.strand_strandFault (s : State) (n k code : Nat) : (s.strandFault n k code).strand n k =
    { (s.strand n k).givesUp with st := .faulted, fltCode := code, fltPc := (s.strand n k).pc, item := none } := by
  rw [State.strandFault_eq, (State.record_kept _ _ _).strand_eq (by decide)]
  exact (State.strand_updStrand _).trans (by rw [State.strand_releaseStrand]; rfl)

theorem State.strandFault_faulted (hn : n < 16) (hk : k < 4) : Faulted n k code s (s.strandFault n k code) := by
  have hbit : bit ((s.strandFault n k code).get (F.STV_FAULT_STRAND n)) k = true := by
    rw [State.strandFault_eq, State.get_record (stvField_notMem (by simp only [F.STV_FAULT_STRAND]; omega) logFlds_low)]
    exact State.bit_get_setBitOf_true hk
  have hfwq : (s.strandFault n k code).fwq = s.fwq ++ (s.strand n k).item.toList := by
    rw [State.strandFault_eq, (State.record_kept _ _ _).fwq_eq (by decide)]
    exact congrArg (· ++ (s.strand n k).item.toList) ((s.releaseStrand_kept n k).fwq_eq (by decide))
  rw [Faulted, State.strand_strandFault]
  exact ⟨rfl, rfl, rfl, rfl, rfl, rfl, hbit, hfwq⟩

end Sys2Proof.Machine
end

section
/-! How an instruction issues (R140, R172, R179, R180): a strand goes on, writes a register, waits or faults. -/

namespace Sys2Proof.Machine

variable {s t u : State} {n k m j opc pc code : Nat} {f : InsW} {c : Instr} {legal : Bool} {next : Strand → Nat} {eff : State → Strand → Effect}
  {a : BitVec 5} {v : W64} {rest : Stove → Stove}

/-- The strand has issued last. -/
def State.turned (s : State) (n k : Nat) : State := s.updStove n (fun v => { v with turn := k })

theorem State.strand_turned : (s.turned n k).strand n j = s.strand n j := State.strand_updStove rfl

theorem State.runSlot_turned : (s.turned n k).runSlot n j = s.runSlot n j := by
  rw [State.runSlot, State.pslot, State.strand_turned, State.turned, State.stove_updStove]
  rfl

theorem State.turned_kept (s : State) (n k : Nat) : Kept [.stoves] [] s (s.turned n k) := (Kept.refl _ _ s).updStove (by simp) n _

theorem State.stove_turned : (s.turned n k).stove n = { s.stove n with turn := k } := State.stove_updStove n _

theorem StoveKept.turned (s : State) (n k : Nat) : StoveKept n k id s (s.turned n k) := by
  refine ⟨fun _ hm => State.stove_updStove_other hm _, fun _ _ => State.strand_turned, ?_⟩
  rw [State.stove_turned]
  rfl

theorem StoveKept.updStrand (h : StoveKept n k rest s t) (f : Strand → Strand) : StoveKept n k rest s (t.updStrand n k f) := by
  obtain ⟨hother, hstrand, hown⟩ := h
  refine ⟨fun m hm => (State.stove_updStrand_other hm f).trans (hother m hm), fun j hj => (State.strand_updStrand_other hj f).trans (hstrand j hj), ?_⟩
  rw [State.stove_updStrand]
  exact congrArg (fun w : Stove => { w with strands := Tab.upd (t.stove n).strands k {} f }) hown

theorem Faulted.of_turned (h : Faulted n k code (s.turned n k) t) : Faulted n k code s t := by
  rw [Faulted, State.strand_turned] at h
  exact h

theorem State.lt_of_strandTurn (h : s.strandTurn n k = true) : k < 4 := by
  have hm := List.mem_of_find?_eq_some (eq_of_beq h)
  simp only [Stove.rotation, List.mem_map] at hm
  omega

theorem State.onTurn_other (h : s.strandTurn n k = false) (e : State → State) : s.onTurn n k opc f e = s := by simp [State.onTurn, h]

theorem State.onTurn_unknown (h : s.strandTurn n k = true) (hw : insKnown (s.fetched n k) = false) (e : State → State) :
    s.onTurn n k opc f e = (s.turned n k).strandFault n k 1 := by simp [State.onTurn, h, hw, State.turned]

theorem State.onTurn_of_fetches (h : s.fetches n k opc f = true) (e : State → State) : s.onTurn n k opc f e = e (s.turned n k) := by
  simp only [State.fetches, Bool.and_eq_true] at h
  obtain ⟨⟨⟨hturn, hknown⟩, hopc⟩, hof⟩ := h
  simp [State.onTurn, hturn, hknown, hopc, hof, State.turned]

theorem State.lt_of_fetches (h : s.fetches n k opc f = true) : k < 4 := by
  simp only [State.fetches, Bool.and_eq_true] at h
  exact State.lt_of_strandTurn h.1.1.1

theorem State.issues_iff : s.issues n k opc f legal pc = true ↔ s.fetches n k opc f = true ∧ legal = true ∧ (s.runSlot n k).holds pc = true := by
  simp only [State.issues, Bool.and_eq_true, and_assoc]

/-! ### What an instruction does once it issues -/

theorem State.perform_error (hl : legal = true) (he : eff s (s.strand n k) = .error code) :
    s.perform n k legal none next eff = s.strandFault n k code := by
  subst hl
  simp [State.perform, PSlot.hasUnit, he]

theorem State.perform_leaves (hl : legal = true) (he : eff s (s.strand n k) = .ok t) (hh : (s.runSlot n k).holds (next (s.strand n k)) = false) :
    s.perform n k legal none next eff = s.strandFault n k 1 := by
  subst hl
  simp [State.perform, PSlot.hasUnit, he, hh]

theorem State.perform_goesOn (hl : legal = true) (he : eff s (s.strand n k) = .ok t) (hnext : next (s.strand n k) = pc)
    (hh : (s.runSlot n k).holds pc = true) : s.perform n k legal none next eff = t.updStrand n k (fun y => { y with pc := pc, wait := none }) := by
  subst hl hnext
  simp [State.perform, PSlot.hasUnit, he, hh]

/-! ### What a command that issues an instruction answers -/

/-- The instruction ends in a strand fault. -/
theorem gives_faulted {e : State → State} (hn : n < 16) (hf : s.fetches n k opc f = true) (hex : exec c s = .next (s.onTurn n k opc f e))
    (he : e (s.turned n k) = (s.turned n k).strandFault n k code) : Gives c s (Faulted n k code s) := by
  refine ⟨_, hex, ?_⟩
  rw [State.onTurn_of_fetches hf, he]
  exact (State.strandFault_faulted hn (State.lt_of_fetches hf)).of_turned

/-- The word at the PC is no instruction. -/
theorem gives_faulted_unknown {e : State → State} (hn : n < 16) (ht : s.strandTurn n k = true) (hw : insKnown (s.fetched n k) = false)
    (hex : exec c s = .next (s.onTurn n k opc f e)) : Gives c s (Faulted n k 1 s) := by
  refine ⟨_, hex, ?_⟩
  rw [State.onTurn_unknown ht hw]
  exact (State.strandFault_faulted hn (State.lt_of_strandTurn ht)).of_turned

/-- The fields are not in the instruction's format. -/
theorem gives_illegal (hn : n < 16) (hf : s.fetches n k opc f = true) (hl : legal = false)
    (hex : exec c s = .next (s.issue n k opc f legal none next eff)) : Gives c s (Faulted n k 1 s) :=
  gives_faulted hn hf hex (by rw [hl]; rfl)

/-- The effect itself raises a strand fault. -/
theorem gives_error (hn : n < 16) (hf : s.fetches n k opc f = true) (hl : legal = true) (he : eff (s.turned n k) (s.strand n k) = .error code)
    (hex : exec c s = .next (s.issue n k opc f legal none next eff)) : Gives c s (Faulted n k code s) :=
  gives_faulted hn hf hex (State.perform_error hl (by rw [State.strand_turned]; exact he))

/-- The PC it would go on from lies outside the slot (R172). -/
theorem gives_leaves (hn : n < 16) (hf : s.fetches n k opc f = true) (hl : legal = true) (he : eff (s.turned n k) (s.strand n k) = .ok t)
    (hh : (s.runSlot n k).holds (next (s.strand n k)) = false) (hex : exec c s = .next (s.issue n k opc f legal none next eff)) :
    Gives c s (Faulted n k 1 s) :=
  gives_faulted hn hf hex (State.perform_leaves hl (by rw [State.strand_turned]; exact he) (by rw [State.runSlot_turned, State.strand_turned]; exact hh))

theorem State.issue_goesOn (h : s.issues n k opc f legal pc = true) (he : eff (s.turned n k) (s.strand n k) = .ok u)
    (hnext : next (s.strand n k) = pc) :
    s.issue n k opc f legal none next eff = u.updStrand n k (fun y => { y with pc := pc, wait := none }) := by
  obtain ⟨hf, hl, hh⟩ := State.issues_iff.mp h
  rw [State.issue, State.onTurn_of_fetches hf]
  exact State.perform_goesOn hl (by rw [State.strand_turned]; exact he) (by rw [State.strand_turned]; exact hnext) (by rw [State.runSlot_turned]; exact hh)

/-- The strand goes on and nothing else changes. -/
theorem does_move (h : s.issues n k opc f legal pc = true) (he : eff (s.turned n k) (s.strand n k) = .ok (s.turned n k))
    (hnext : next (s.strand n k) = pc) (hex : exec c s = .next (s.issue n k opc f legal none next eff)) :
    Does c s [.stoves] [] (fun t => Moved n k pc s t ∧ StoveKept n k id s t) := by
  refine ⟨_, hex.trans (congrArg _ (State.issue_goesOn h he hnext)), ⟨?_, (StoveKept.turned s n k).updStrand _⟩,
    (s.turned_kept n k).updStrand (by simp) n k _⟩
  rw [Moved, State.strand_updStrand, State.strand_turned]

theorem Strand.reg_setReg (x : Strand) (a i : BitVec 5) (v : W64) : (x.setReg a v).reg i = if i = a ∧ a ≠ 0 then v else x.reg i := by
  unfold Strand.setReg
  by_cases ha : a = 0
  · rw [if_pos ha, if_neg fun h => h.2 ha]
  · rw [if_neg ha]
    by_cases hi : i = a
    · rw [hi, if_pos ⟨rfl, ha⟩, Strand.reg, if_neg ha]
      exact (Tab.getD_put _ _ _ _ _).trans (if_pos rfl)
    · have hne : i.toNat ≠ a.toNat := fun he => hi (BitVec.eq_of_toNat_eq he)
      rw [if_neg fun h => hi h.1, Strand.reg, Strand.reg]
      exact if_congr Iff.rfl rfl ((Tab.getD_put _ _ _ _ _).trans (if_neg hne))

theorem Strand.setReg_rest (x : Strand) (a : BitVec 5) (v : W64) : x.setReg a v = { x with g := (x.setReg a v).g } := by
  unfold Strand.setReg
  split <;> rfl

/-- The strand writes register `a` and goes on, and nothing else changes. -/
theorem does_write (h : s.issues n k opc f legal pc = true) (he : eff (s.turned n k) (s.strand n k) = .ok ((s.turned n k).setG n k a v))
    (hnext : next (s.strand n k) = pc) (hex : exec c s = .next (s.issue n k opc f legal none next eff)) :
    Does c s [.stoves] [] (fun t => WroteG n k a v pc s t ∧ StoveKept n k id s t) := by
  refine ⟨_, hex.trans (congrArg _ (State.issue_goesOn h he hnext)), ⟨?_, ((StoveKept.turned s n k).updStrand _).updStrand _⟩,
    ((s.turned_kept n k).updStrand (by simp) n k _).updStrand (by simp) n k _⟩
  rw [WroteG, State.strand_updStrand, State.setG, State.strand_updStrand, State.strand_turned]
  refine ⟨fun i => Strand.reg_setReg _ a i v, ?_⟩
  rw [Strand.setReg_rest]

end Sys2Proof.Machine
end

section
/-! Branches and jumps (R172, R190). -/

namespace Sys2Proof.Machine

variable {s : State} {n k opc pc : Nat} {f : InsW}

theorem pcPlus_of_eq {off : Int} (h : (pc : Int) = k + off) : pcPlus k off = pc := by
  rw [pcPlus, if_neg (by omega)]
  omega

/-- A PC that no slot holds: one outside the slot, or one below 0. -/
theorem holds_pcPlus_of_leaves {off : Int} (h : LeavesSlot s n k ((s.strand n k).pc + off)) :
    (s.runSlot n k).holds (pcPlus (s.strand n k).pc off) = false := by
  rcases h with ⟨pc, hpc, hh⟩ | ⟨hneg, hfit⟩
  · rw [pcPlus_of_eq hpc]
    exact hh
  · rw [pcPlus, if_pos hneg, PSlot.holds]
    simp only [Bool.and_eq_false_iff, decide_eq_false_iff_not]
    omega

theorem holds_next_of_leaves (h : LeavesSlot s n k ((s.strand n k).pc + 1)) : (s.runSlot n k).holds ((s.strand n k).pc + 1) = false := by
  rcases h with ⟨pc, hpc, hh⟩ | ⟨hneg, -⟩
  · obtain rfl : pc = (s.strand n k).pc + 1 := by omega
    exact hh
  · omega

/-- A conditional branch of the model takes the branch where the test holds. -/
theorem branches_of_exec {c : Nat → Nat → InsW → Instr} {test : W64 → W64 → Bool} {taken : W64 → W64 → Prop}
    (hex : ∀ s n k f, exec (c n k f) s = s.branch n k opc f test) (ht : ∀ a b, test a b = true ↔ taken a b) : Branches opc c taken := by
  have hno : ∀ {a b}, ¬taken a b → test a b = false := fun h => Bool.eq_false_iff.mpr (mt (ht _ _).mp h)
  refine ⟨fun s n k f pc hb hpc hi => ?_, fun s n k f hb hi => ?_, fun s n k f hf hl hn => ⟨fun hb hout => ?_, fun hb hout => ?_⟩⟩
  · exact does_move hi rfl (by simp only [(ht _ _).mpr hb, if_true, pcPlus_of_eq hpc]) (hex s n k f)
  · exact does_move hi rfl (by simp only [hno hb, Bool.false_eq_true, if_false]) (hex s n k f)
  · refine gives_leaves hn hf hl rfl ?_ (hex s n k f)
    simp only [(ht _ _).mpr hb, if_true]
    exact holds_pcPlus_of_leaves hout
  · refine gives_leaves hn hf hl rfl ?_ (hex s n k f)
    simp only [hno hb, Bool.false_eq_true, if_false]
    exact holds_next_of_leaves hout

theorem jal_goesOn (hpc : (pc : Int) = (s.strand n k).pc + f.imm.toInt) (h : s.issues n k 0x46 f (legalI f && f.b == 0) pc = true) :
    Does (.jal n k f) s [.stoves] [] (fun t =>
      WroteG n k f.a (BitVec.ofNat 64 ((s.strand n k).pc + 1)) pc s t ∧ StoveKept n k id s t) :=
  does_write h rfl (pcPlus_of_eq hpc) rfl

theorem jalr_goesOn (h : s.issues n k 0x47 f (legalI f) ((s.strand n k).reg f.b + f.imm.signExtend 64).toNat = true) :
    Does (.jalr n k f) s [.stoves] [] (fun t =>
      WroteG n k f.a (BitVec.ofNat 64 ((s.strand n k).pc + 1)) ((s.strand n k).reg f.b + f.imm.signExtend 64).toNat s t ∧ StoveKept n k id s t) :=
  does_write h rfl rfl rfl

theorem jal_leaves (hf : s.fetches n k 0x46 f = true) (hl : legalI f = true) (hb : f.b = 0) (hn : n < 16)
    (hout : LeavesSlot s n k ((s.strand n k).pc + f.imm.toInt)) : Gives (.jal n k f) s (Faulted n k 1 s) :=
  gives_leaves (legal := legalI f && f.b == 0) hn hf (by simp [hl, hb]) rfl (holds_pcPlus_of_leaves hout) rfl

/-- Settles O13: each branch by its test; the jumps by the PC they go on from. -/
theorem stoveBranches : Obligations.StoveBranches := by
  unfold Obligations.StoveBranches
  refine ⟨branches_of_exec (test := fun a b => a == b) (fun _ _ _ _ => rfl) fun a b => by simp,
    branches_of_exec (test := fun a b => a != b) (fun _ _ _ _ => rfl) fun a b => by simp,
    branches_of_exec (test := fun a b => a.slt b) (fun _ _ _ _ => rfl) fun a b => by simp [BitVec.slt],
    branches_of_exec (test := fun a b => !a.slt b) (fun _ _ _ _ => rfl) fun a b => by simp [BitVec.slt],
    branches_of_exec (test := fun a b => a.ult b) (fun _ _ _ _ => rfl) fun a b => by simp [BitVec.ult],
    branches_of_exec (test := fun a b => !a.ult b) (fun _ _ _ _ => rfl) fun a b => by simp [BitVec.ult],
    fun s n k f pc hpc h => jal_goesOn hpc h, fun s n k f h => jalr_goesOn h, fun s n k f hf hl hb hn hout => jal_leaves hf hl hb hn hout,
    fun s n k f hf hl hn hh => gives_leaves hn hf hl rfl hh rfl⟩

end Sys2Proof.Machine
end

section
/-! A host read fails, and the items of a fenced Stove go on elsewhere (R149, R163, R166, R167). -/

namespace Sys2Proof.Machine

variable {ps : List Part} {fs : List Fld} {s t u : State} {n k m pgm kind : Nat} {w : WorkItem}

/-! ### A host read fails -/

theorem State.finishOne_kept (s : State) (c : Cmd) (e : Ending) : Kept [.bel, .crl, .out, .wins] pumpFlds s (s.finishOne c e) := by
  have hdrop : Kept [.bel, .crl, .out, .wins] pumpFlds s (s.dropCmd c.id) := (Kept.refl _ _ s).updBel (by simp) _
  unfold State.finishOne
  dsimp only
  split
  · exact hdrop
  · split
    · exact hdrop.trans ((State.crlSend_kept _ _ _ _ _ _).widen (by simp) (fun _ h => h))
    · split
      · exact hdrop.updWin (by simp) _ _
      · unfold State.queueCqe
        split
        · exact hdrop
        · exact hdrop.updBel (by simp) _

def failParts : List Part := [.bel, .crl, .pool, .wins] ++ agentParts
def failFlds : List Fld := pumpFlds ++ ichCounts

theorem State.abandon_kept (s : State) (c : Cmd) (e : Ending) : Kept failParts failFlds s (s.abandon c e) := by
  have hone : ∀ u d e', Kept failParts failFlds u (State.finishOne u d e') := fun u d e' =>
    (u.finishOne_kept d e').widen (by simp [failParts, agentParts]) (by simp +contextual [failFlds])
  exact ((hone s c e).trans (Kept.foldl (fun u d => hone u d {}) _ _)).freeUser (by simp [failParts]) _

theorem State.failRead_kept (s : State) (c : Cmd) (sct sc ring : Nat) : Kept failParts failFlds s (s.failRead c sct sc ring) := by
  unfold State.failRead
  dsimp only
  split
  · exact ((State.setSlot_kept s _ _ _ _ _ _).widen (by simp +contextual [failParts]) (by simp +contextual [failFlds])).trans
      (State.abandon_kept _ _ _)
  · exact State.abandon_kept _ _ _

/-! ### Where an item may be posted -/

/-- A choice made over a list answers what it began with or an element that a test accepts. -/
theorem foldl_choice {P : Nat → Prop} {f : Option Nat → Nat → Option Nat} (hf : ∀ b x y, f b x = some y → b = some y ∨ P y) :
    ∀ (l : List Nat) (b : Option Nat) (y : Nat), l.foldl f b = some y → b = some y ∨ P y
  | [], _, _, h => .inl h
  | x :: l, b, y, h => (foldl_choice hf l (f b x) y h).elim (hf b x y) .inr

theorem State.stoveTakes_of_chooseStove (h : s.chooseStove pgm kind = some m) : s.stoveTakes m = true := by
  refine (foldl_choice (P := fun m => s.stoveTakes m = true) (fun b x y hxy => ?_) _ _ _ h).resolve_left (by simp)
  split at hxy
  · next hc =>
    have hx : s.stoveTakes x = true := (Bool.and_eq_true _ _ ▸ hc).1
    cases b with
    | none => exact .inr (Option.some.inj hxy ▸ hx)
    | some b =>
      dsimp only at hxy
      split at hxy
      · exact .inr (Option.some.inj hxy ▸ hx)
      · exact .inl hxy
  · exact .inl hxy

theorem State.unfenced_of_stoveTakes (h : s.stoveTakes m = true) : (s.stove m).fenced = false := by
  simp only [State.stoveTakes, Bool.and_eq_true, Bool.not_eq_true'] at h
  exact h.1.2

/-! ### Items that go on -/

/-- The Stoves change by items that join the queue of one that is not fenced. -/
def ItemsJoined (s t : State) : Prop :=
  ∀ m, { t.stove m with queue := (s.stove m).queue } = s.stove m ∧ ((s.stove m).fenced = true → t.stove m = s.stove m)

theorem ItemsJoined.refl (s : State) : ItemsJoined s s := fun _ => ⟨rfl, fun _ => rfl⟩

theorem ItemsJoined.fenced_eq (h : ItemsJoined s t) (m : Nat) : (t.stove m).fenced = (s.stove m).fenced :=
  show ({ t.stove m with queue := (s.stove m).queue } : Stove).fenced = _ from congrArg Stove.fenced (h m).1

theorem ItemsJoined.trans (h : ItemsJoined s t) (h' : ItemsJoined t u) : ItemsJoined s u := fun m =>
  ⟨(congrArg (fun v : Stove => { v with queue := (s.stove m).queue }) (h' m).1).trans (h m).1,
    fun hf => ((h' m).2 ((h.fenced_eq m).trans hf)).trans ((h m).2 hf)⟩

theorem Kept.itemsJoined (h : Kept ps fs s t) (hp : Part.stoves ∉ ps) : ItemsJoined s t := fun m => by
  rw [h.stove_eq hp]
  exact ⟨rfl, fun _ => rfl⟩

theorem ItemsJoined.of_queue (hm : (s.stove m).fenced = false) (q : List WorkItem → List WorkItem) :
    ItemsJoined s (s.updStove m (fun v => { v with queue := q v.queue })) := fun i => by
  by_cases hi : i = m
  · subst hi
    rw [State.stove_updStove]
    exact ⟨rfl, fun hf => absurd hf (by simp [hm])⟩
  · rw [State.stove_updStove_other hi]
    exact ⟨rfl, fun _ => rfl⟩

/-- What posting again, failing a host read or handing an item to firmware changes. -/
def reissueParts : List Part := .stoves :: .fwq :: .heldItems :: failParts ++ logParts
def reissueFlds : List Fld := failFlds ++ logFlds

theorem reissueFlds_low : ∀ g ∈ reissueFlds, g.key < 0x40000000 := by decide

/-- Items of a fenced Stove have gone on. -/
def ItemsWent (s t : State) : Prop := Kept reissueParts reissueFlds s t ∧ ItemsJoined s t

theorem ItemsWent.trans (h : ItemsWent s t) (h' : ItemsWent t u) : ItemsWent s u := ⟨h.1.trans h'.1, h.2.trans h'.2⟩

theorem Kept.itemsWent (h : Kept ps fs s t) (hp : ∀ p ∈ ps, p ∈ reissueParts) (hf : ∀ f ∈ fs, f ∈ reissueFlds) (hs : Part.stoves ∉ ps) :
    ItemsWent s t := ⟨h.widen hp hf, h.itemsJoined hs⟩

theorem State.toFirmware_kept (s : State) (w : WorkItem) : Kept [.fwq] [] s (s.toFirmware w) :=
  (Kept.refl _ _ s).upd rfl rfl fun p hn => by
    cases p with
    | fwq => simp at hn
    | ports | irqPend => exact fun _ => rfl
    | wdt => exact ⟨rfl, rfl⟩
    | plic => exact ⟨rfl, rfl, rfl, rfl⟩
    | _ => rfl

theorem Kept.setHeldItems (h : Kept ps fs s t) (hp : Part.heldItems ∈ ps) (l : List WorkItem) : Kept ps fs s { t with heldItems := l } := by
  apply h.blocks (heldItems := l) <;> simp [hp]

theorem itemsWent_record (s : State) (c : Nat) (is : List Nat) : ItemsWent s (s.record c is) :=
  (s.record_kept c is).itemsWent (by simp +contextual [reissueParts]) (by simp +contextual [reissueFlds]) (by decide)

theorem itemsWent_toFirmware (s : State) (w : WorkItem) : ItemsWent s (s.toFirmware w) :=
  (s.toFirmware_kept w).itemsWent (by simp [reissueParts]) (by simp) (by decide)

theorem itemsWent_failRead (s : State) (c : Cmd) (sct sc ring : Nat) : ItemsWent s (s.failRead c sct sc ring) :=
  (s.failRead_kept c sct sc ring).itemsWent (by simp +contextual [reissueParts]) (by simp +contextual [reissueFlds]) (by decide)

theorem itemsWent_of_postItem (h : s.postItem w = some t) : ItemsWent s t := by
  obtain ⟨m, hm, rfl⟩ := Option.map_eq_some_iff.mp h
  split
  · exact ⟨(Kept.refl _ _ s).updStove (by simp [reissueParts]) m _,
      ItemsJoined.of_queue (State.unfenced_of_stoveTakes (State.stoveTakes_of_chooseStove hm))
        (fun q => q ++ [{ w with slot := (s.slotFor m w.pgm w.kind).getD 0 }])⟩
  · exact ((Kept.refl [.heldItems] [] s).setHeldItems (by simp) _).itemsWent (by simp [reissueParts]) (by simp) (by decide)

/-- A host read of the item's command fails, or the item goes to firmware. -/
theorem itemsWent_failOrFirmware (s : State) (w : WorkItem) (sct sc ring : Nat) : ItemsWent s (match s.cmd? w.user with
    | some c => if w.kind == 1 then s.failRead c sct sc ring else s.toFirmware w
    | none => s.toFirmware w) := by
  split
  · split
    · exact itemsWent_failRead s _ _ _ _
    · exact itemsWent_toFirmware s w
  · exact itemsWent_toFirmware s w

theorem itemsWent_reissueItem (s : State) (n : Nat) (w : WorkItem) : ItemsWent s (s.reissueItem n w) := by
  unfold State.reissueItem
  dsimp only
  split
  · exact (itemsWent_record s _ _).trans (itemsWent_failOrFirmware _ _ _ _ _)
  · split
    · next hp => exact (itemsWent_of_postItem hp).trans (itemsWent_record _ _ _)
    · exact (itemsWent_record s _ _).trans (itemsWent_failOrFirmware _ _ _ _ _)

theorem itemsWent_foldl (n : Nat) : ∀ (l : List WorkItem) (s : State), ItemsWent s (l.foldl (fun u w => u.reissueItem n w) s)
  | [], s => ⟨Kept.refl _ _ s, ItemsJoined.refl s⟩
  | w :: l, s => (itemsWent_reissueItem s n w).trans (itemsWent_foldl n l _)

end Sys2Proof.Machine
end

section
/-! A Stove is fenced (R165-R168). -/

namespace Sys2Proof.Machine

variable {s t u : State} {n k m code : Nat}

/-- What is seen of one number of a range after each number has made its change: its own change of what was seen before. -/
theorem foldl_range_seen {σ β : Type} (g : σ → β) (h : β → β) {f : σ → Nat → σ} (hother : ∀ u j, j ≠ k → g (f u j) = g u)
    (hown : ∀ u, g (f u k) = h (g u)) (s : σ) : ∀ n, g ((List.range n).foldl f s) = if k < n then h (g s) else g s
  | 0 => rfl
  | n + 1 => by
    have ih := foldl_range_seen g h hother hown s n
    rw [List.range_succ, List.foldl_append, List.foldl_cons, List.foldl_nil]
    by_cases hk : n = k
    · subst hk
      rw [hown, ih, if_neg (by omega), if_pos (by omega)]
    · rw [hother _ _ hk, ih]
      exact if_congr (by omega) rfl rfl

/-- A strand of a fenced Stove: idle, or faulted as it was. -/
def Strand.cleared (x : Strand) : Strand :=
  { tickets := x.tickets, st := if x.st == .faulted then .faulted else .idle, fltCode := x.fltCode, fltPc := x.fltPc }

def State.strandCleared (s : State) (n k : Nat) : State := (s.releaseStrand n k).updStrand n k Strand.cleared

def State.strandsCleared (s : State) (n : Nat) : State := (List.range 4).foldl (fun u k => u.strandCleared n k) s

theorem State.strandCleared_kept (s : State) (n k : Nat) : Kept strandParts [] s (s.strandCleared n k) :=
  (s.releaseStrand_kept n k).updStrand (by simp [strandParts]) n k _

theorem State.strandsCleared_kept (s : State) (n : Nat) : Kept strandParts [] s (s.strandsCleared n) :=
  Kept.foldl (fun u k => u.strandCleared_kept n k) _ s

theorem State.strand_strandsCleared (hk : k < 4) : (s.strandsCleared n).strand n k = (s.strand n k).givesUp.cleared := by
  refine (foldl_range_seen (fun u : State => u.strand n k) (fun x => x.givesUp.cleared) (fun u j hj => ?_) (fun u => ?_) s 4).trans (if_pos hk)
  · exact (State.strand_updStrand_other (Ne.symm hj) _).trans (State.strand_releaseStrand_other (Ne.symm hj))
  · exact (State.strand_updStrand _).trans (congrArg _ (u.strand_releaseStrand n k))

theorem State.stove_strandsCleared_other (h : m ≠ n) : (s.strandsCleared n).stove m = s.stove m :=
  foldl_eq_of_step (fun u : State => u.stove m)
    (fun _ _ => (State.stove_updStrand_other h _).trans (State.stove_releaseStrand_other h)) _ s

theorem State.ctx_releaseStrand (s : State) (n k c : Nat) : (s.releaseStrand n k).ctx n c =
    if (s.ctx n c).strand == k && (s.ctx n c).state != 0 then { s.ctx n c with state := 0, msg := [], key := [] } else s.ctx n c := by
  rw [State.ctx, State.stove_releaseStrand, Stove.givesUp_ctxs]
  exact Tab.getD_mapVals _ _ c ({} : DgCtx) ({} : DgCtx) (by simp)

theorem State.verdict_strandsCleared (s : State) (n c : Nat) :
    (((s.strandsCleared n).ctx n c).vb, ((s.strandsCleared n).ctx n c).vbn) = ((s.ctx n c).vb, (s.ctx n c).vbn) := by
  refine foldl_eq_of_step (fun u : State => ((u.ctx n c).vb, (u.ctx n c).vbn)) (fun u k => ?_) _ s
  have hctx : (u.strandCleared n k).ctx n c = (u.releaseStrand n k).ctx n c := by rw [State.ctx, State.strandCleared, State.stove_updStrand, State.ctx]
  rw [hctx, State.ctx_releaseStrand]
  split <;> rfl

/-- A fenced Stove runs and holds nothing. -/
def Stove.fencedOff (v : Stove) : Stove := { v with fenced := true, queue := [], lock := none, susp := none, blocks := [], orphans := [] }

def State.fencedOff (s : State) (n : Nat) : State := (s.strandsCleared n).updStove n Stove.fencedOff

/-- The Stove's registers show the fence. -/
def State.fenceShown (s : State) (n code : Nat) : State :=
  (((s.fencedOff n).setb (F.STV_STS_FENCED n) true).setb (F.STV_CTL_FENCE n) true).set (F.STV_FAULT_UNIT_CODE n) code

/-- The fence is recorded, and the Stove's degraded bit is set. -/
def State.fenceTold (s : State) (n code : Nat) : State :=
  ((s.fenceShown n code).record 0x0502 (w1 n ++ w1 code)).degradeUnit (36 + n) true

/-- The items the Stove held have gone on. -/
def State.fenceSettled (s : State) (n code : Nat) : State :=
  ((List.range 4).filterMap (fun k => (s.strand n k).item) ++ (s.stove n).queue).foldl (fun u w => u.reissueItem n w) (s.fenceTold n code)

theorem State.fence_eq (hf : (s.stove n).fenced = false) : s.fence n code =
    if (List.range 16).all (fun m => ((s.fenceSettled n code).stove m).fenced || (s.fenceSettled n code).bitOf F.GLB_FAULT_STV m) &&
      !(s.fenceSettled n code).getb F.KDL_STS_BUSY then (s.fenceSettled n code).assertSrc .unitLost .computeDie else s.fenceSettled n code := by
  rw [State.fence, hf]
  rfl

theorem State.fenceTold_kept (hn : n < 16) (s : State) (code : Nat) :
    Kept (.glbPend :: logParts) (F.GLB_FAULT_STV :: logFlds) (s.fenceShown n code) (s.fenceTold n code) := by
  rw [State.fenceTold, State.degradeUnit_stove (by omega) (by omega)]
  exact ((Kept.refl _ _ _).logged (by simp +contextual) (by simp +contextual)).degrade (by simp +contextual) (by simp +contextual)

theorem State.stove_fenceTold (hn : n < 16) (m : Nat) : (s.fenceTold n code).stove m = (s.fencedOff n).stove m :=
  (s.fenceTold_kept hn code).stove_eq (by decide) m

theorem State.itemsWent_fenceSettled (s : State) (n code : Nat) : ItemsWent (s.fenceTold n code) (s.fenceSettled n code) :=
  itemsWent_foldl n _ _

theorem State.stove_fenceSettled (hn : n < 16) : (s.fenceSettled n code).stove n = ((s.strandsCleared n).stove n).fencedOff := by
  have hoff : (s.fenceTold n code).stove n = ((s.strandsCleared n).stove n).fencedOff :=
    (State.stove_fenceTold hn n).trans (State.stove_updStove n _)
  exact (((s.itemsWent_fenceSettled n code).2 n).2 (by rw [hoff]; rfl)).trans hoff

theorem State.fenced_fenceSettled_other (hn : n < 16) (h : m ≠ n) : ((s.fenceSettled n code).stove m).fenced = (s.stove m).fenced := by
  rw [(s.itemsWent_fenceSettled n code).2.fenced_eq, State.stove_fenceTold hn, State.fencedOff, State.stove_updStove_other h,
    State.stove_strandsCleared_other h]

theorem State.bitOf_degrade (f : Fld) (i j : Nat) (hf : f.key ∉ logFlds.map Fld.key) (hj : j < f.width) :
    (s.degrade f i true).bitOf f j = (s.bitOf f j || decide (j = i)) := by
  by_cases hb : s.bitOf f i = true
  · have hsame : s.degrade f i true = s := by rw [State.degrade, if_pos (by simpa using hb)]
    rw [hsame]
    by_cases hji : j = i
    · rw [hji, hb, Bool.true_or]
    · simp [hji]
  · rw [State.bitOf, State.get_degrade hb hf]
    by_cases hji : j = i
    · subst hji
      simp [bit_putBit_true hj]
    · simp [bit_putBit_true_other hji hj, State.bitOf, hji]

/-- The fields a fence shows itself in. -/
def fenceFlds (n : Nat) : List Fld := [F.STV_STS_FENCED n, F.STV_CTL_FENCE n, F.STV_FAULT_UNIT_CODE n]

theorem State.fenceShown_kept (s : State) (n code : Nat) : Kept strandParts (fenceFlds n) s (s.fenceShown n code) :=
  Kept.set (Kept.setb (Kept.setb (((s.strandsCleared_kept n).widen (fun _ h => h) (by simp)).updStove (by simp [strandParts]) n _) (by simp [fenceFlds]))
    (by simp [fenceFlds])) (by simp [fenceFlds])

theorem notMem_fenceFlds {f : Fld} (h : f.addr < 0x1000000 ∧ f.lo < 64 ∨ f = F.DG_ERR_VERDICT n) : f.key ∉ (fenceFlds n).map Fld.key := by
  simp only [fenceFlds, List.map_cons, List.map_nil, List.mem_cons, List.not_mem_nil, or_false, Fld.key, F.STV_STS_FENCED, F.STV_CTL_FENCE,
    F.STV_FAULT_UNIT_CODE]
  rcases h with ⟨h, hlo⟩ | rfl
  · omega
  · simp only [F.DG_ERR_VERDICT]
    omega

theorem State.bitOf_fenceSettled (hn : n < 16) (hm : m < 16) :
    (s.fenceSettled n code).bitOf F.GLB_FAULT_STV m = (s.bitOf F.GLB_FAULT_STV m || decide (m = n)) := by
  have hkept : (s.fenceShown n code).get F.GLB_FAULT_STV = s.get F.GLB_FAULT_STV :=
    (s.fenceShown_kept n code).get_eq (notMem_fenceFlds (.inl ⟨by decide, by decide⟩))
  rw [State.bitOf, (s.itemsWent_fenceSettled n code).1.get_eq (by decide), ← State.bitOf, State.fenceTold,
    State.degradeUnit_stove (by omega) (by omega), State.bitOf_degrade _ _ _ (by decide) hm, Nat.add_sub_cancel_left, State.bitOf,
    State.get_record (by decide), hkept, State.bitOf]

/-- While another Stove works, nothing more happens than that the items go on. -/
theorem State.fence_settles (hn : n < 16) (hf : (s.stove n).fenced = false) (hm : m < 16) (hmn : m ≠ n) (hmf : (s.stove m).fenced = false)
    (hmb : s.bitOf F.GLB_FAULT_STV m = false) : s.fence n code = s.fenceSettled n code := by
  rw [State.fence_eq hf, if_neg]
  intro hall
  have hbad := List.all_eq_true.mp (Bool.and_eq_true _ _ ▸ hall).1 m (List.mem_range.mpr hm)
  rw [State.fenced_fenceSettled_other hn hmn, State.bitOf_fenceSettled hn hm] at hbad
  simp [hmf, hmb, hmn] at hbad

theorem State.strand_fenceSettled (hn : n < 16) (hk : k < 4) : (s.fenceSettled n code).strand n k = (s.strand n k).givesUp.cleared := by
  rw [State.strand, State.stove_fenceSettled hn, ← State.strand_strandsCleared hk]
  rfl

theorem State.ctx_fenceSettled (hn : n < 16) (c : Nat) : (s.fenceSettled n code).ctx n c = (s.strandsCleared n).ctx n c := by
  rw [State.ctx, State.stove_fenceSettled hn]
  rfl

theorem State.get_fenceSettled (hn : n < 16) {f : Fld} (h : 0x1000000 ≤ f.addr) :
    (s.fenceSettled n code).get f = (s.fenceShown n code).get f := by
  rw [(s.itemsWent_fenceSettled n code).1.get_eq (stvField_notMem h reissueFlds_low),
    (s.fenceTold_kept hn code).get_eq (stvField_notMem h (by decide))]

theorem State.get_fenced_fenceSettled (hn : n < 16) : (s.fenceSettled n code).get (F.STV_STS_FENCED n) = 1 := by
  have hcode : (F.STV_STS_FENCED n).key ≠ (F.STV_FAULT_UNIT_CODE n).key := by
    simp only [Fld.key, F.STV_STS_FENCED, F.STV_FAULT_UNIT_CODE]
    omega
  have hfence : (F.STV_STS_FENCED n).key ≠ (F.STV_CTL_FENCE n).key := by
    simp only [Fld.key, F.STV_STS_FENCED, F.STV_CTL_FENCE]
    omega
  rw [State.get_fenceSettled hn (by simp only [F.STV_STS_FENCED]; omega), State.fenceShown, State.get_set_other _ _ _ _ hcode,
    State.setb_eq _ (F.STV_CTL_FENCE n), State.get_set_other _ _ _ _ hfence, State.setb_eq, State.get_set_same]
  rfl

theorem fencedFor_fenceSettled (hn : n < 16) (hc : code < 256) : FencedFor n code s (s.fenceSettled n code) := by
  have hv := State.stove_fenceSettled (s := s) (code := code) hn
  refine ⟨by rw [hv]; rfl, by rw [hv]; rfl, by rw [hv]; rfl, by rw [hv]; rfl, by rw [hv]; rfl, fun k hk => ?_, ?_, ?_, ?_⟩
  · rw [State.strand_fenceSettled hn hk]
    refine ⟨rfl, ?_⟩
    cases h : (s.strand n k).st <;> simp [Strand.cleared, Strand.givesUp, h]
  · rw [State.getb_eq, State.get_fenced_fenceSettled hn]
    rfl
  · rw [State.get_fenceSettled hn (by simp only [F.STV_FAULT_UNIT_CODE]; omega), State.fenceShown, State.get_set_same]
    exact Nat.mod_eq_of_lt hc
  · rw [State.bitOf_fenceSettled hn hn]
    simp

/-- A fence with a unit code while another Stove works. -/
theorem State.fence_fences (hn : n < 16) (hf : (s.stove n).fenced = false) (hm : m < 16) (hmn : m ≠ n) (hmf : (s.stove m).fenced = false)
    (hmb : s.bitOf F.GLB_FAULT_STV m = false) (hc : code < 256) : FencedFor n code s (s.fence n code) := by
  rw [State.fence_settles hn hf hm hmn hmf hmb]
  exact fencedFor_fenceSettled hn hc

end Sys2Proof.Machine
end

section
/-! System instructions: results, waits, faults, the fence of STOP (R143, R187, R189). -/

namespace Sys2Proof.Machine

variable {s t : State} {n k m e opc : Nat} {f : InsW} {c : Instr} {w : StrandWait}

/-- The strand waits where it is, and nothing else changes. -/
theorem does_stall {g : State → State} (hf : s.fetches n k opc f = true) (hex : exec c s = .next (s.onTurn n k opc f g))
    (hg : g (s.turned n k) = (s.turned n k).stall n k w) :
    Does c s [.stoves] [] (fun t => t.strand n k = { s.strand n k with wait := some w } ∧ StoveKept n k id s t) := by
  refine ⟨_, hex.trans (congrArg _ ((State.onTurn_of_fetches hf g).trans hg)), ⟨?_, (StoveKept.turned s n k).updStrand _⟩,
    (s.turned_kept n k).updStrand (by simp) n k _⟩
  rw [State.stall, State.strand_updStrand, State.strand_turned]

theorem State.idWord_turned : (s.turned n k).idWord n k = s.idWord n k := by
  simp only [State.idWord, State.runSlot_turned, State.strand_turned]
  rfl

/-! ### TRAP and STOP -/

theorem trap_faults (hf : s.fetches n k 0x02 f = true) (habc : f.noABC = true) (hx : f.x = 0) (himm : f.imm.toNat < 2 ^ 16) (hn : n < 16) :
    Gives (.trap n k f) s (Faulted n k 6 s) :=
  gives_error (legal := f.noABC && f.x == 0 && f.imm.toNat < 2 ^ 16) hn hf (by simpa [habc, hx] using himm) rfl rfl

theorem trap_illegal (hf : s.fetches n k 0x02 f = true) (h : (f.noABC && f.x == 0) = false ∨ 2 ^ 16 ≤ f.imm.toNat) (hn : n < 16) :
    Gives (.trap n k f) s (Faulted n k 1 s) := by
  refine gives_illegal (legal := f.noABC && f.x == 0 && f.imm.toNat < 2 ^ 16) hn hf ?_ rfl
  rcases h with h | h
  · rw [h, Bool.false_and]
  · rw [decide_eq_false (by omega), Bool.and_false]

theorem stop_illegal (hf : s.fetches n k 0x03 f = true) (himm : f.imm ≠ 0x11) (hn : n < 16) : Gives (.stop n k f) s (Faulted n k 1 s) :=
  gives_faulted hn hf rfl (if_neg fun h => himm (eq_of_beq (Bool.and_eq_true_iff.mp h).2))

theorem State.unfenced_of_fetches (h : s.fetches n k opc f = true) : (s.stove n).fenced = false := by
  simp only [State.fetches, Bool.and_eq_true] at h
  have hready := List.find?_some (eq_of_beq h.1.1.1)
  simp only [State.strandReady, Bool.and_eq_true, Bool.not_eq_true'] at hready
  exact hready.1.1.2

theorem stop_fences (hf : s.fetches n k 0x03 f = true) (habc : f.noABC = true) (hx : f.x = 0) (himm : f.imm = 0x11) (hn : n < 16)
    (hm : m < 16) (hmn : m ≠ n) (hmf : (s.stove m).fenced = false) (hmb : s.bitOf F.GLB_FAULT_STV m = false) :
    Gives (.stop n k f) s (fun t =>
      (t.stove n).fenced = true ∧ t.get (F.STV_STS_FENCED n) = 1 ∧ t.get (F.STV_FAULT_UNIT_CODE n) = 0x11 ∧
      bit (t.get F.GLB_FAULT_STV) n = true ∧ (t.stove n).queue = [] ∧ ∀ j, j < 4 → (t.strand n j).st ≠ .running ∧ (t.strand n j).item = none) := by
  have hex : exec (.stop n k f) s = .next ((s.turned n k).fence n 0x11) :=
    congrArg Host.Outcome.next ((State.onTurn_of_fetches hf _).trans (if_pos (by simp [habc, hx, himm])))
  have hopen : ((s.turned n k).stove n).fenced = false := by
    rw [State.turned, State.stove_updStove]
    exact State.unfenced_of_fetches hf
  have hother : ((s.turned n k).stove m).fenced = false := by
    rw [State.turned, State.stove_updStove_other hmn]
    exact hmf
  rw [State.fence_settles hn hopen hm hmn hother hmb] at hex
  obtain ⟨hfenced, hqueue, -, -, -, hstrands, -, hcode, hfault⟩ := fencedFor_fenceSettled (s := s.turned n k) (code := 0x11) hn (by omega)
  refine ⟨_, hex, hfenced, State.get_fenced_fenceSettled hn, hcode, hfault, hqueue, fun j hj => ⟨?_, (hstrands j hj).1⟩⟩
  rw [(hstrands j hj).2]
  split <;> simp

/-! ### WAITAT, WAIT and POLL -/

theorem waitat_waits (h : s.issues n k 0x05 f (f.a == 0 && f.c == 0 && f.x == 0 && f.imm == 0) ((s.strand n k).pc + 1) = true)
    (hnow : s.now < ((s.strand n k).reg f.b).toNat) :
    Does (.waitat n k f) s [.stoves] [] (fun t =>
      t.strand n k = { s.strand n k with wait := some (.time ((s.strand n k).reg f.b).toNat) } ∧ ∀ m, m ≠ n → t.stove m = s.stove m) := by
  obtain ⟨hf, hl, hh⟩ := State.issues_iff.mp h
  refine (does_stall hf rfl ?_).imp fun t ⟨hw, hk⟩ => ⟨hw, hk.1⟩
  have hnow' : (s.turned n k).now < ((s.strand n k).reg f.b).toNat := hnow
  simp only [State.strand_turned, State.runSlot_turned, hl, hh, decide_eq_true hnow', Bool.and_self, if_true]

theorem waitat_goesOn (h : s.issues n k 0x05 f (f.a == 0 && f.c == 0 && f.x == 0 && f.imm == 0) ((s.strand n k).pc + 1) = true)
    (hnow : ((s.strand n k).reg f.b).toNat ≤ s.now) :
    Does (.waitat n k f) s [.stoves] [] (fun t => Moved n k ((s.strand n k).pc + 1) s t ∧ StoveKept n k id s t) := by
  obtain ⟨hf, -, -⟩ := State.issues_iff.mp h
  refine does_move h (next := nextPc) (eff := fun s _ => .ok s) rfl rfl (congrArg Host.Outcome.next ?_)
  have hnow' : ¬ (s.turned n k).now < ((s.strand n k).reg f.b).toNat := Nat.not_lt.mpr hnow
  rw [State.issue, State.onTurn_of_fetches hf, State.onTurn_of_fetches hf]
  simp only [State.strand_turned, decide_eq_false hnow', Bool.and_false, Bool.false_and, Bool.false_eq_true, if_false]

theorem wait_waits (h : s.issues n k 0x07 f (legalI f && f.imm == 0) ((s.strand n k).pc + 1) = true)
    (he : (s.strand n k).named ((s.strand n k).reg f.b) = some e) (hjob : ((s.strand n k).ticket e).job ≠ none) :
    Does (.wait n k f) s [.stoves] [] (fun t => t.strand n k = { s.strand n k with wait := some (.ticket e) } ∧ StoveKept n k id s t) := by
  obtain ⟨hf, hl, -⟩ := State.issues_iff.mp h
  refine does_stall hf rfl ?_
  have hsome : (((s.strand n k).ticket e).job).isSome = true := Option.isSome_iff_ne_none.mpr hjob
  have hlegal : (f.c == 0 && f.x == 0 && f.imm == 0) = true := hl
  simp only [State.strand_turned, he, hlegal, hsome, Bool.and_self, if_true]

/-- The strand after it has returned ticket entry `e`: the entry is free with its epoch, and register `a` holds the status word. -/
def Strand.freesEntry (x : Strand) (e : Nat) (a : BitVec 5) : Strand :=
  (x.updTicket e (fun t => { epoch := t.epoch })).setReg a (BitVec.ofNat 64 (x.ticket e).status)

theorem Strand.reg_freesEntry (x : Strand) (e : Nat) (a i : BitVec 5) :
    (x.freesEntry e a).reg i = if i = a ∧ a ≠ 0 then BitVec.ofNat 64 (x.ticket e).status else x.reg i := Strand.reg_setReg _ a i _

theorem Strand.ticket_freesEntry (x : Strand) (e : Nat) (a : BitVec 5) : (x.freesEntry e a).ticket e = { epoch := (x.ticket e).epoch } := by
  rw [Strand.freesEntry, Strand.setReg_rest, Strand.ticket, Strand.updTicket, Tab.getD_upd, if_pos rfl, Strand.ticket]

theorem State.returned_none {x : Ticket} (h : x.fin = none) : s.returned n x = s := by rw [State.returned, h]

theorem State.returned_some {x : Ticket} {c : Nat} (h : x.fin = some c) :
    s.returned n x = s.updStove n (fun v => { v with ctxs := Tab.upd v.ctxs c {} (fun y => { y with shown := true }) }) := by rw [State.returned, h]

theorem State.returned_kept (s : State) (n : Nat) (x : Ticket) : Kept [.stoves] [] s (s.returned n x) := by
  unfold State.returned
  split
  · exact (Kept.refl _ _ s).updStove (by simp) n _
  · exact Kept.refl _ _ s

theorem State.strand_returned (s : State) (n k : Nat) (x : Ticket) : (s.returned n x).strand n k = s.strand n k := by
  unfold State.returned
  split
  · exact State.strand_updStove rfl
  · rfl

theorem wait_returns (h : s.issues n k 0x07 f (legalI f && f.imm == 0) ((s.strand n k).pc + 1) = true)
    (he : (s.strand n k).named ((s.strand n k).reg f.b) = some e) (hjob : ((s.strand n k).ticket e).job = none) :
    Does (.wait n k f) s [.stoves] [] (fun t =>
      (∀ i, (t.strand n k).reg i = if i = f.a ∧ f.a ≠ 0 then BitVec.ofNat 64 ((s.strand n k).ticket e).status else (s.strand n k).reg i) ∧
      (t.strand n k).pc = (s.strand n k).pc + 1 ∧ ((t.strand n k).ticket e).used = false ∧
      ((t.strand n k).ticket e).epoch = ((s.strand n k).ticket e).epoch ∧
      (((s.strand n k).ticket e).fin = none → StoveKept n k id s t) ∧
      ∀ c, ((s.strand n k).ticket e).fin = some c → Tab.getD (t.stove n).ctxs c {} = { Tab.getD (s.stove n).ctxs c {} with shown := true }) := by
  obtain ⟨hf, hl, hh⟩ := State.issues_iff.mp h
  have hex : exec (.wait n k f) s = .next ((((s.turned n k).returned n ((s.strand n k).ticket e)).updStrand n k
      (fun y => (y.updTicket e (fun t => { epoch := t.epoch })).setReg f.a (BitVec.ofNat 64 ((s.strand n k).ticket e).status))).updStrand n k
      (fun y => { y with pc := (s.strand n k).pc + 1, wait := none })) := by
    refine congrArg Host.Outcome.next ((State.onTurn_of_fetches hf _).trans ?_)
    simp only [State.strand_turned, he, hjob, Option.isSome_none, Bool.and_false, Bool.false_eq_true, if_false]
    refine State.perform_goesOn hl ?_ ?_ ((congrArg (PSlot.holds · _) State.runSlot_turned).trans hh)
    · rw [State.strand_turned]
    · rw [State.strand_turned, nextPc]
  generalize hu : (s.turned n k).returned n ((s.strand n k).ticket e) = u at hex
  have hstrand : u.strand n k = s.strand n k := by rw [← hu, State.strand_returned, State.strand_turned]
  have hkept : Kept [.stoves] [] s u := hu ▸ (s.turned_kept n k).trans (State.returned_kept _ n _)
  refine ⟨_, hex, ?_, (hkept.updStrand (by simp) n k _).updStrand (by simp) n k _⟩
  dsimp only
  rw [State.strand_updStrand, State.strand_updStrand, hstrand]
  have hused := congrArg Ticket.used (Strand.ticket_freesEntry (s.strand n k) e f.a)
  have hepoch := congrArg Ticket.epoch (Strand.ticket_freesEntry (s.strand n k) e f.a)
  refine ⟨fun i => Strand.reg_freesEntry (s.strand n k) e f.a i, rfl, hused, hepoch, fun hfin => ?_, fun c hfin => ?_⟩
  · rw [State.returned_none hfin] at hu
    subst hu
    exact ((StoveKept.turned s n k).updStrand _).updStrand _
  · rw [State.returned_some hfin] at hu
    rw [State.stove_updStrand, State.stove_updStrand, ← hu, State.stove_updStove, State.turned, State.stove_updStove]
    have hshown := Tab.getD_upd (s.stove n).ctxs c c {} (fun y => { y with shown := true })
    rw [if_pos rfl] at hshown
    exact hshown

theorem poll_reads (h : s.issues n k 0x08 f (legalI f && f.imm == 0) ((s.strand n k).pc + 1) = true)
    (he : (s.strand n k).named ((s.strand n k).reg f.b) = some e) :
    Does (.poll n k f) s [.stoves] [] (fun t =>
      WroteG n k f.a (if ((s.strand n k).ticket e).job = none then 1 else 0) ((s.strand n k).pc + 1) s t ∧ StoveKept n k id s t) := by
  refine does_write (legal := legalI f && f.imm == 0) h ?_ rfl rfl
  simp only [he, Option.isNone_iff_eq_none]

theorem wait_noTicket (hl : (legalI f && f.imm == 0) = true) (hn : n < 16) (he : (s.strand n k).named ((s.strand n k).reg f.b) = none)
    (hf : s.fetches n k 0x07 f = true) : Gives (.wait n k f) s (Faulted n k 4 s) := by
  refine gives_faulted hn hf rfl ?_
  simp only [State.strand_turned, he]
  exact State.perform_error hl rfl

theorem poll_noTicket (hl : (legalI f && f.imm == 0) = true) (hn : n < 16) (he : (s.strand n k).named ((s.strand n k).reg f.b) = none)
    (hf : s.fetches n k 0x08 f = true) : Gives (.poll n k f) s (Faulted n k 4 s) := by
  refine gives_error (legal := legalI f && f.imm == 0) hn hf hl ?_ rfl
  simp only [he]

/-! ### All of them -/

/-- Each of them is an instruction that a strand issues on its turn. -/
theorem systemIns_issues {c : Nat → Nat → InsW → Instr} (h : SystemIns c) (s : State) (n k : Nat) (f : InsW) :
    ∃ opc g, exec (c n k f) s = .next (s.onTurn n k opc f g) := by
  rcases h with rfl | rfl | rfl | rfl | rfl | rfl | rfl | rfl <;> exact ⟨_, _, rfl⟩

theorem systemIns_turn {c : Nat → Nat → InsW → Instr} (h : SystemIns c) :
    (s.strandTurn n k = false → exec (c n k f) s = .next s) ∧
    (s.strandTurn n k = true → insKnown (s.fetched n k) = false → n < 16 → Gives (c n k f) s (Faulted n k 1 s)) := by
  obtain ⟨opc, g, hex⟩ := systemIns_issues h s n k f
  exact ⟨fun ht => hex.trans (congrArg _ (State.onTurn_other ht g)), fun ht hw hn => gives_faulted_unknown hn ht hw hex⟩

/-- Settles O14, instruction by instruction. -/
theorem stoveControl : Obligations.StoveControl := by
  unfold Obligations.StoveControl
  refine ⟨fun s n k f h => does_move h rfl rfl rfl, fun s n k f hf habc hx himm hn => trap_faults hf habc hx himm hn,
    fun s n k f hf h hn => trap_illegal hf h hn,
    fun s n k f hf habc hx himm hn ⟨m, hm, hmn, hmf, hmb⟩ => stop_fences hf habc hx himm hn hm hmn hmf hmb,
    fun s n k f hf himm hn => stop_illegal hf himm hn, fun s n k f c hc => systemIns_turn hc, fun s n k f h => does_write h rfl rfl rfl,
    fun s n k f h => does_write h ?_ rfl rfl, fun s n k f h => ⟨waitat_waits h, waitat_goesOn h⟩,
    fun s n k e f h he => ⟨wait_waits h he, wait_returns h he⟩, fun s n k e f h he => poll_reads h he,
    fun s n k f hl hn he => ⟨wait_noTicket hl hn he, poll_noTicket hl hn he⟩⟩
  rw [State.idWord_turned]
  rfl

end Sys2Proof.Machine
end

section
/-! Strand faults and Stove fences from outside the instructions (R151, R164, R165, R300). -/

namespace Sys2Proof.Machine

variable {s t u : State} {n k m j i v w code : Nat} {r : Req}

/-! ### A strand that runs too long, and faulted strands that are cleared -/

theorem State.strandFault_staged (hk : k < 4) :
    Staged 0x0501 [n % 2 ^ 32, k, s.pgmOf n k % 2 ^ 32, code % 2 ^ 32] s (s.strandFault n k code) := by
  have hlist : w1 n ++ w1 k ++ w1 (s.pgmOf n k) ++ w1 code = [n % 2 ^ 32, k, s.pgmOf n k % 2 ^ 32, code % 2 ^ 32] := by
    simp only [w1, List.cons_append, List.nil_append, Nat.mod_eq_of_lt (show k < 2 ^ 32 by omega)]
  have hkept := s.releaseStrand_kept n k
  rw [State.strandFault_eq, hlist]
  exact staged_record (hkept.soot_eq (by decide) (by decide)) (hkept.tick_eq (by decide)) (by simp)

theorem wiTimeout_faults (hk : k < 4) (hn : n < 16) (hst : (s.strand n k).st = .running) (hlim : s.get (F.STV_WI_TO_TIMEOUT n) ≠ 0)
    (hlate : (s.strand n k).startAt + us (s.get (F.STV_WI_TO_TIMEOUT n)) < s.cyc) (hf : (s.stove n).fenced = false) :
    Gives (.wiTimeout n k) s (fun t => Faulted n k 5 s t ∧ Staged 0x0501 [n % 2 ^ 32, k, s.pgmOf n k % 2 ^ 32, 5] s t) := by
  have hex : exec (.wiTimeout n k) s = .next (s.strandFault n k 5) :=
    congrArg Host.Outcome.next (if_pos (by simp [hst, hlim, hlate, hf]))
  exact ⟨_, hex, State.strandFault_faulted hn hk, State.strandFault_staged hk⟩

/-- Clearing a bit that is set leaves the bits above it and below it. -/
theorem testBit_sub_two_pow_other (hi : v.testBit i = true) (h : j ≠ i) : (v - 2 ^ i).testBit j = v.testBit j := by
  have hbit : v / 2 ^ i % 2 = 1 := by simpa [Nat.toNat_testBit] using congrArg Bool.toNat hi
  have hlow : v % 2 ^ i < 2 ^ i := Nat.mod_lt _ (Nat.two_pow_pos i)
  have hmid : 2 ^ i * 1 + v % 2 ^ i < 2 ^ (i + 1) := by rw [Nat.pow_succ]; omega
  have hsplit : v = 2 ^ (i + 1) * (v / 2 ^ i / 2) + (2 ^ i * 1 + v % 2 ^ i) := by
    have hdiv := Nat.div_add_mod v (2 ^ i)
    have hhalf : v / 2 ^ i = 2 * (v / 2 ^ i / 2) + 1 := by omega
    rw [Nat.pow_succ, Nat.mul_assoc]
    calc v = 2 ^ i * (v / 2 ^ i) + v % 2 ^ i := hdiv.symm
      _ = 2 ^ i * (2 * (v / 2 ^ i / 2) + 1) + v % 2 ^ i := by rw [← hhalf]
      _ = _ := by rw [Nat.mul_add, Nat.add_assoc]
  have hcleared : v - 2 ^ i = 2 ^ (i + 1) * (v / 2 ^ i / 2) + v % 2 ^ i := by omega
  have hset := congrArg (Nat.testBit · j) hsplit
  rw [Nat.two_pow_add_eq_or_of_lt hmid, Nat.two_pow_add_eq_or_of_lt hlow] at hset
  rw [hcleared, Nat.two_pow_add_eq_or_of_lt (by omega), hset]
  simp [Nat.testBit_or, Ne.symm h]

theorem bit_putBit_false_other (h : j ≠ i) (hj : j < w) : bit (putBit v i false % 2 ^ w) j = bit v j := by
  have hclr : (clrBit v i).testBit j = v.testBit j := by
    unfold clrBit bit
    split
    · next hi => exact testBit_sub_two_pow_other hi h
    · rfl
  simp [bit, putBit, Nat.testBit_mod_two_pow, hj, hclr]

/-- A strand whose fault is cleared: idle, with its ticket epochs and the record of its fault. -/
def Strand.faultCleared (x : Strand) : Strand := { tickets := x.tickets, fltCode := x.fltCode, fltPc := x.fltPc }

def State.faultCleared (s : State) (n mask k : Nat) : State :=
  if bit mask k && s.bitOf (F.STV_FAULT_STRAND n) k then (s.setBitOf (F.STV_FAULT_STRAND n) k false).updStrand n k Strand.faultCleared else s

theorem State.clearStrands_eq (s : State) (n mask : Nat) :
    s.clearStrands n mask = (List.range 4).foldl (fun u k => u.faultCleared n mask k) s := rfl

/-- What is seen of strand `k`: its bit in STV_FAULT, and the strand. -/
def State.faultSeen (n k : Nat) (s : State) : Bool × Strand := (bit (s.get (F.STV_FAULT_STRAND n)) k, s.strand n k)

theorem State.faultSeen_cleared_other (hk : k < 4) (u : State) (h : j ≠ k) : (u.faultCleared n v j).faultSeen n k = u.faultSeen n k := by
  unfold State.faultCleared
  split
  · refine Prod.ext ?_ (State.strand_updStrand_other (Ne.symm h) _)
    exact (congrArg (bit · k) (State.get_set_same _ _ _)).trans (bit_putBit_false_other (Ne.symm h) hk)
  · rfl

theorem State.faultSeen_cleared (u : State) : (u.faultCleared n v k).faultSeen n k =
    ((u.faultSeen n k).1 && !bit v k, if bit v k && (u.faultSeen n k).1 then (u.faultSeen n k).2.faultCleared else (u.faultSeen n k).2) := by
  have hb : u.bitOf (F.STV_FAULT_STRAND n) k = (u.faultSeen n k).1 := rfl
  unfold State.faultCleared
  rw [hb]
  split
  · next h =>
    rw [Bool.and_eq_true] at h
    refine Prod.ext ?_ (State.strand_updStrand _)
    rw [h.1, Bool.not_true, Bool.and_false]
    exact State.bit_get_setBitOf_false
  · next h =>
    refine Prod.ext ?_ rfl
    cases hv : bit v k
    · simp
    · have hoff : (u.faultSeen n k).1 = false := by simpa [hv] using h
      simp [hoff]

theorem State.faultCleared_kept (s : State) (n mask k : Nat) : Kept [.stoves] [F.STV_FAULT_STRAND n] s (s.faultCleared n mask k) := by
  unfold State.faultCleared
  split
  · exact ((Kept.refl _ _ s).setBitOf (by simp)).updStrand (by simp) n k _
  · exact Kept.refl _ _ s

theorem strandFaultClear_clears (h : s.writable r (R.STV_FAULT + 0x200000 * n) = true) :
    Does (.strandFaultClear r n v) s [.stoves] [F.STV_FAULT_STRAND n] (fun t =>
      ∀ k, k < 4 → bit (t.get (F.STV_FAULT_STRAND n)) k = (bit (s.get (F.STV_FAULT_STRAND n)) k && !bit v k) ∧
        t.strand n k = if bit v k && bit (s.get (F.STV_FAULT_STRAND n)) k
          then { tickets := (s.strand n k).tickets, fltCode := (s.strand n k).fltCode, fltPc := (s.strand n k).fltPc }
          else s.strand n k) := by
  have hex : exec (.strandFaultClear r n v) s = .next (s.clearStrands n v) := congrArg Host.Outcome.next (State.withWrite_writable h _)
  refine ⟨_, hex, fun k hk => ?_, Kept.foldl (fun u k => u.faultCleared_kept n v k) _ s⟩
  have hseen := foldl_range_seen (State.faultSeen n k)
    (fun x => (x.1 && !bit v k, if bit v k && x.1 then x.2.faultCleared else x.2)) (f := fun u k => u.faultCleared n v k)
    (fun u j hj => State.faultSeen_cleared_other hk u hj) (fun u => u.faultSeen_cleared) s 4
  rw [if_pos hk, ← State.clearStrands_eq] at hseen
  exact ⟨congrArg Prod.fst hseen, congrArg Prod.snd hseen⟩

/-! ### Fences -/

/-- An uncorrectable error in a digest context zeroes the verdict bytes, is shown and fences the Stove (R300). -/
theorem dgCtxEcc_fences (hn : n < 16) (hf : (s.stove n).fenced = false) (hm : m < 16) (hmn : m ≠ n) (hmf : (s.stove m).fenced = false)
    (hmb : s.bitOf F.GLB_FAULT_STV m = false) (c : Nat) :
    Gives (.dgCtxEcc n c) s (fun t => FencedFor n 0x10 s t ∧ (t.ctx n c).vb = 0 ∧ (t.ctx n c).vbn = 0 ∧ t.getb (F.DG_ERR_VERDICT n) = true) := by
  have hex : exec (.dgCtxEcc n c) s = .next (s.badVerdict n c 0 0) := congrArg Host.Outcome.next (if_neg (by simp [hf]))
  generalize hz : s.updCtx n c (fun x => { x with vb := 0, vbn := 0 }) = z at hex
  have hstove : z.stove n = { s.stove n with ctxs := Tab.upd (s.stove n).ctxs c {} (fun x => { x with vb := 0, vbn := 0 }) } := by
    rw [← hz, State.updCtx, State.stove_updStove]
  generalize hu : (z.setb (F.DG_ERR_VERDICT n) true).recordMsOf 0x0521 n (w1 n ++ w1 c ++ w1 (z.pgmOf n (z.ctx n c).strand) ++ w1 0 ++ w1 0) = u
  have hexu : exec (.dgCtxEcc n c) s = .next (u.fence n 0x10) := by rw [hex, ← hu, ← hz]; rfl
  have hlogged : Kept logParts logFlds (z.setb (F.DG_ERR_VERDICT n) true) u :=
    hu ▸ (Kept.refl _ _ _).recordMsOf (fun _ h => h) (fun _ h => h)
  have hustove : u.stove n = z.stove n := hlogged.stove_eq (by decide) n
  have hzother : z.stove m = s.stove m := hz ▸ State.stove_updStove_other hmn _
  have hother : u.stove m = s.stove m := (hlogged.stove_eq (by decide) m).trans hzother
  have hub : u.bitOf F.GLB_FAULT_STV m = false := by
    have hne : F.GLB_FAULT_STV.key ≠ (F.DG_ERR_VERDICT n).key := by
      simp only [Fld.key, F.GLB_FAULT_STV, F.DG_ERR_VERDICT]
      omega
    rw [State.bitOf, hlogged.get_eq (by decide), State.setb_eq, State.get_set_other _ _ _ _ hne, ← hz]
    exact hmb
  have hstrand : ∀ k, u.strand n k = s.strand n k := fun k => by
    rw [State.strand, hustove, hstove, State.strand]
  have hctx : ((u.ctx n c).vb, (u.ctx n c).vbn) = (0, 0) := by
    rw [State.ctx, hustove, hstove, Tab.getD_upd, if_pos rfl]
  rw [State.fence_settles hn (by rw [hustove, hstove]; exact hf) hm hmn (by rw [hother]; exact hmf) hub] at hexu
  have hfenced := fencedFor_fenceSettled (s := u) (code := 0x10) hn (by omega)
  simp only [FencedFor, hstrand] at hfenced
  have hverdict := (congrArg (fun d : DgCtx => (d.vb, d.vbn)) (State.ctx_fenceSettled (s := u) (code := 0x10) hn c)).trans
    ((u.verdict_strandsCleared n c).trans hctx)
  refine ⟨_, hexu, hfenced, congrArg Prod.fst hverdict, congrArg Prod.snd hverdict, ?_⟩
  rw [State.getb_eq, State.get_fenceSettled hn (by simp only [F.DG_ERR_VERDICT]; omega), (u.fenceShown_kept n _).get_eq (notMem_fenceFlds (.inr rfl)),
    hlogged.get_eq (stvField_notMem (by simp only [F.DG_ERR_VERDICT]; omega) logFlds_low), ← State.getb_eq]
  exact State.getb_setb_same Nat.one_pos

/-- Settles O18: strands that fault and are cleared, then what fences a Stove. -/
theorem stoveFaults : Obligations.StoveFaults := by
  unfold Obligations.StoveFaults
  refine ⟨⟨fun s n k hk hn hst hlim hlate hf => wiTimeout_faults hk hn hst hlim hlate hf, fun s r n v h => strandFaultClear_clears h⟩,
    fun s n m hn hm hmn hf hmf hmb _ _ => ⟨?_, ?_, fun r hr => ?_, fun c _ => dgCtxEcc_fences hn hf hm hmn hmf hmb c⟩⟩
  · exact ⟨_, rfl, State.fence_fences hn hf hm hmn hmf hmb (by decide)⟩
  · exact ⟨_, rfl, State.fence_fences hn hf hm hmn hmf hmb (by decide)⟩
  · exact ⟨_, congrArg Host.Outcome.next (State.withWrite_writable hr _), State.fence_fences hn hf hm hmn hmf hmb (by decide)⟩

end Sys2Proof.Machine
end

section
/-! Program images load, end their load and are unloaded (R156-R158). -/

namespace Sys2Proof.Machine

variable {s t u : State} {n i j a v len res pgm op slot base64 : Nat} {r : Req} {l : Load} {dmaErr : Bool} {h body : Bytes}

/-! ### A range of DDR is read while plain memory stands behind it -/

theorem Kept.ddr_eq {ps : List Part} {fs : List Fld} (h : Kept ps fs s t) (hp : Part.ddr ∉ ps) : t.ddr = s.ddr := h.2.1 .ddr hp
theorem Kept.heldItems_eq {ps : List Part} {fs : List Fld} (h : Kept ps fs s t) (hp : Part.heldItems ∉ ps) : t.heldItems = s.heldItems :=
  h.2.1 .heldItems hp

/-- No answers of snoops are used up where no line is held. -/
theorem State.port_usedLines_nil (s : State) (p q : Nat) : (s.usedLines p []).port q = s.port q := by
  rw [State.usedLines, State.port_updPort]
  split
  · next hq => subst hq; simp
  · rfl

theorem State.usedLines_nil_kept (s : State) (p : Nat) : Kept [] [] s (s.usedLines p []) :=
  Kept.of_regs_eq rfl rfl fun q _ => by
    cases q with
    | ports | irqPend => exact fun i => by rw [State.port_usedLines_nil]
    | wdt => exact ⟨rfl, rfl⟩
    | plic => exact ⟨rfl, rfl, rfl, rfl⟩
    | _ => rfl

theorem State.ddrLook_eq_of_bareDdr (hb : s.bareDdr = true) : s.ddrLook a len = (s.usedLines 0 []).usedLines 1 [] := by
  have hheld : ∀ u : State, (∀ q, u.port q = s.port q) → ∀ p < 2, u.heldLines p a len = [] := fun u hu p hp => by
    rw [State.heldLines, hu, (State.port_bare hp hb).1]
    rfl
  have h0 := hheld s (fun _ => rfl) 0 (by omega)
  have h1 := hheld (s.usedLines 0 []) (s.port_usedLines_nil 0) 1 (by omega)
  simp only [State.ddrLook, List.foldl_cons, List.foldl_nil, h0, h1]
  exact State.extRead_bare (show s.bareIch = true from State.bareIch_of_bareDdr hb)

/-- Such a read leaves all as it was. -/
theorem State.ddrLook_kept (hb : s.bareDdr = true) (a len : Nat) : Kept [] [] s (s.ddrLook a len) := by
  rw [State.ddrLook_eq_of_bareDdr hb]
  exact (s.usedLines_nil_kept 0).trans (State.usedLines_nil_kept _ 1)

theorem State.bareDdr_ddrLook (hb : s.bareDdr = true) (a len : Nat) : (s.ddrLook a len).bareDdr = true := by
  rw [State.ddrLook_eq_of_bareDdr hb]
  simp only [State.bareDdr, State.port_usedLines_nil]
  exact hb

theorem State.ddrBad_of_bareDdr (hb : s.bareDdr = true) (a len : Nat) : s.ddrBad a len = none := by
  have hpois : s.ich.poisoned = [] := by
    have hich := State.bareIch_of_bareDdr hb
    simp only [State.bareIch, Bool.and_eq_true, List.isEmpty_iff] at hich
    exact hich.2
  rw [State.ddrBad, (State.port_bare (p := 0) (by omega) hb).2.1, (State.port_bare (p := 1) (by omega) hb).2.1, hpois]
  simp [HostPort.linesAt]

/-! ### The value written -/

/-- GO 1 and OP put over a value leave its slot and its base. -/
theorem goValue_fields (v : Nat) (hop : op < 4) : bit (putBits (setBit v 31) 29 2 op) 31 = true ∧ bits (putBits (setBit v 31) 29 2 op) 29 2 = op ∧
    bits (putBits (setBit v 31) 29 2 op) 16 4 = v / 2 ^ 16 % 16 ∧ bits (putBits (setBit v 31) 29 2 op) 0 7 = v % 128 := by
  have hbit : setBit v 31 / 2 ^ 31 % 2 = 1 := by
    rw [← Nat.toNat_testBit, setBit, Nat.testBit_or, Nat.testBit_two_pow_self, Bool.or_true]
    rfl
  have hlow : setBit v 31 % 2 ^ 29 = v % 2 ^ 29 := by
    rw [setBit, Nat.or_mod_two_pow]
    simp
  generalize setBit v 31 = x at hbit hlow
  have hgo : (bit (putBits x 29 2 op) 31).toNat = 1 := by
    rw [bit, Nat.toNat_testBit]
    simp only [putBits, bits]
    omega
  refine ⟨by simpa using hgo, ?_, ?_, ?_⟩ <;> simp only [putBits, bits] <;> omega

/-- What a write to STV_LOAD_CTL shows: its OP, its slot, its base. -/
def State.loadCtlShown (s : State) (n op v : Nat) : State :=
  ((s.set (F.STV_LOAD_CTL_OP n) op).set (F.STV_LOAD_CTL_SLOT n) (v / 2 ^ 16 % 16)).set (F.STV_LOAD_CTL_BASE64 n) (v % 128)

def loadCtlFlds (n : Nat) : List Fld := [F.STV_LOAD_CTL_OP n, F.STV_LOAD_CTL_SLOT n, F.STV_LOAD_CTL_BASE64 n]

theorem State.loadCtlShown_kept (s : State) (n op v : Nat) : Kept [] (loadCtlFlds n) s (s.loadCtlShown n op v) :=
  Kept.set (Kept.set ((Kept.refl _ _ s).set (by simp [loadCtlFlds])) (by simp [loadCtlFlds])) (by simp [loadCtlFlds])

theorem notMem_loadCtlFlds {f : Fld} (hf : f = F.STV_LOAD_STS_BUSY n ∨ f = F.STV_LOAD_ADDR_ADDR n) : f.key ∉ (loadCtlFlds n).map Fld.key := by
  rcases hf with rfl | rfl <;>
  · simp only [loadCtlFlds, List.map_cons, List.map_nil, List.mem_cons, List.not_mem_nil, or_false, Fld.key, F.STV_LOAD_CTL_OP, F.STV_LOAD_CTL_SLOT,
      F.STV_LOAD_CTL_BASE64, F.STV_LOAD_STS_BUSY, F.STV_LOAD_ADDR_ADDR]
    omega

theorem State.writeLoadCtl_load (hbusy : s.getb (F.STV_LOAD_STS_BUSY n) = false) :
    s.writeLoadCtl n (putBits (setBit v 31) 29 2 1) = (s.loadCtlShown n 1 v).loadGo n (v / 2 ^ 16 % 16) (v % 128) := by
  obtain ⟨hgo, hop, hslot, hbase⟩ := goValue_fields v (op := 1) (by omega)
  have hidle : (s.loadCtlShown n 1 v).getb (F.STV_LOAD_STS_BUSY n) = false :=
    ((s.loadCtlShown_kept n 1 v).getb_eq (notMem_loadCtlFlds (.inl rfl))).trans hbusy
  rw [State.loadCtlShown] at hidle ⊢
  generalize v / 2 ^ 16 % 16 = i at hslot hidle ⊢
  simp [State.writeLoadCtl, hgo, hop, hslot, hbase, hidle]

theorem State.writeLoadCtl_unload :
    s.writeLoadCtl n (putBits (setBit v 31) 29 2 2) = (s.loadCtlShown n 2 v).unloadGo n (v / 2 ^ 16 % 16) := by
  obtain ⟨hgo, hop, hslot, hbase⟩ := goValue_fields v (op := 2) (by omega)
  simp [State.writeLoadCtl, State.loadCtlShown, hgo, hop, hslot, hbase]

/-! ### Program slots -/

theorem State.pslot_updSlot (f : PSlot → PSlot) : (s.updSlot n i f).pslot n j = if j = i then f (s.pslot n i) else s.pslot n j := by
  rw [State.pslot, State.updSlot, State.stove_updStove]
  exact Tab.getD_upd _ _ _ _ _

theorem Kept.updSlot {ps : List Part} {fs : List Fld} (h : Kept ps fs s t) (hp : Part.stoves ∈ ps) (n i : Nat) (f : PSlot → PSlot) :
    Kept ps fs s (t.updSlot n i f) := h.updStove hp n _

theorem Kept.pslot_eq {ps : List Part} {fs : List Fld} (h : Kept ps fs s t) (hp : Part.stoves ∉ ps) (n i : Nat) : t.pslot n i = s.pslot n i := by
  rw [State.pslot, State.pslot, h.stove_eq hp]

theorem State.showUnsigned_kept (s : State) (n : Nat) : Kept [] [F.STV_STS_UNSIGNED n] s (s.showUnsigned n) := (Kept.refl _ _ s).setb (by simp)

/-! ### A load begins (R156) -/

/-- The first checks on a header, in their order. -/
theorem State.loadCheck_first (s : State) (n slot base64 : Nat) (h : Bytes) :
    ((s.pslot n slot).state ≠ 0 → s.loadCheck n slot base64 h = 9) ∧
    ((s.pslot n slot).state = 0 → leAt h 0 4 ≠ 0x53545650 → s.loadCheck n slot base64 h = 1) ∧
    ((s.pslot n slot).state = 0 → leAt h 0 4 = 0x53545650 → leAt h 4 2 ≠ 1 → s.loadCheck n slot base64 h = 2) ∧
    ((s.pslot n slot).state = 0 → leAt h 0 4 = 0x53545650 → leAt h 4 2 = 1 → leAt h 12 4 = 0 → s.loadCheck n slot base64 h = 3) := by
  unfold State.loadCheck
  dsimp only
  refine ⟨fun h0 => ?_, fun h0 h1 => ?_, fun h0 h1 h2 => ?_, fun h0 h1 h2 h3 => ?_⟩
  · rw [if_pos (by simpa using h0)]
  · rw [if_neg (by simpa using h0), if_pos (by simpa using h1)]
  · rw [if_neg (by simpa using h0), if_neg (by simpa using h1), if_pos (by simpa using h2)]
  · rw [if_neg (by simpa using h0), if_neg (by simpa using h1), if_neg (by simpa using h2), if_pos (by simp [h3])]

/-- Only a slot that is not EMPTY fails with 9. -/
theorem State.loadCheck_ne_nine (hs : (s.pslot n slot).state = 0) : s.loadCheck n slot base64 h ≠ 9 := by
  unfold State.loadCheck
  dsimp only
  rw [if_neg (by simpa using hs)]
  repeat' split
  all_goals decide

/-- The load has its header, and BUSY shows it. -/
def State.loadBusy (s : State) (n : Nat) (l : Load) : State := (s.updStove n (fun v => { v with load := some l })).setb (F.STV_LOAD_STS_BUSY n) true

/-- A slot that loads an image: what its header says. -/
def loadingSlot (s : State) (base64 : Nat) (h : Bytes) : PSlot :=
  { state := 1, unsigned := bit (leAt h 6 2) 0, key := (s.keyOfImage h).getD 0, pgm := leAt h 8 2, version := leAt h 10 2
    size64 := imageSize64 h, base64, units := leAt h 24 2, entries := (List.range 8).map (fun i => leAt h (32 + 2 * i) 2)
    dataOff := leAt h 20 4, dataLen := leAt h 16 4 }

theorem State.loadGo_eq (hb : s.bareDdr = true) (ha : a = s.get (F.STV_LOAD_ADDR_ADDR n) / 4096 * 4096) (hh : h = Tab.readBytes s.ddr a 512) :
    ∃ u, Kept [] [] s u ∧ s.loadGo n slot base64 = if u.loadCheck n slot base64 h == 9
      then u.loadBusy n { slot, addr := a, header := h, result := u.loadCheck n slot base64 h }
      else ((u.loadBusy n { slot, addr := a, header := h, result := u.loadCheck n slot base64 h }).updSlot n slot
        (fun _ => loadingSlot (u.loadBusy n { slot, addr := a, header := h, result := u.loadCheck n slot base64 h }) base64 h)).showUnsigned n := by
  have hkept := State.ddrLook_kept hb a 512
  refine ⟨s.ddrLook a 512, hkept, ?_⟩
  have hbad : ((s.ddrLook a 512).ddrBad a 512).isSome = false := by rw [State.ddrBad_of_bareDdr (State.bareDdr_ddrLook hb a 512)]; rfl
  have hbytes : Tab.readBytes (s.ddrLook a 512).ddr a 512 = h := by rw [hkept.ddr_eq (by decide), hh]
  unfold State.loadGo
  simp only [← ha, hbytes, hbad, Bool.false_and, Bool.false_eq_true, if_false]
  rfl

theorem State.getb_loadBusy : (s.loadBusy n l).getb (F.STV_LOAD_STS_BUSY n) = true := State.getb_setb_same Nat.one_pos

theorem State.stove_loadBusy : (s.loadBusy n l).stove n = { s.stove n with load := some l } :=
  State.stove_updStove (s := s) n (fun v => { v with load := some l })

theorem State.pslot_loadBusy : (s.loadBusy n l).pslot n i = s.pslot n i := by
  rw [State.pslot, State.stove_loadBusy, State.pslot]

theorem State.load_loadBusy : ((s.loadBusy n l).stove n).load = some l := congrArg Stove.load State.stove_loadBusy

/-- A load GO, in the state in which STV_LOAD_CTL shows it. -/
theorem State.loadGo_spec (hb : s.bareDdr = true) (ha : a = s.get (F.STV_LOAD_ADDR_ADDR n) / 4096 * 4096) (hh : h = Tab.readBytes s.ddr a 512) :
    Kept [.stoves] [F.STV_LOAD_STS_BUSY n, F.STV_STS_UNSIGNED n] s (s.loadGo n i base64) ∧
    (s.loadGo n i base64).getb (F.STV_LOAD_STS_BUSY n) = true ∧
    (∃ c, ((s.loadGo n i base64).stove n).load = some { slot := i, addr := a, header := h, result := c } ∧
      ((s.pslot n i).state ≠ 0 → c = 9) ∧
      ((s.pslot n i).state = 0 → leAt h 0 4 ≠ 0x53545650 → c = 1) ∧
      ((s.pslot n i).state = 0 → leAt h 0 4 = 0x53545650 → leAt h 4 2 ≠ 1 → c = 2) ∧
      ((s.pslot n i).state = 0 → leAt h 0 4 = 0x53545650 → leAt h 4 2 = 1 → leAt h 12 4 = 0 → c = 3)) ∧
    ((s.pslot n i).state = 0 → ((s.loadGo n i base64).pslot n i).state = 1 ∧ ((s.loadGo n i base64).pslot n i).pgm = leAt h 8 2 ∧
      ((s.loadGo n i base64).pslot n i).version = leAt h 10 2 ∧ ((s.loadGo n i base64).pslot n i).base64 = base64) ∧
    ((s.pslot n i).state ≠ 0 → (s.loadGo n i base64).pslot n i = s.pslot n i) ∧ ∀ j, j ≠ i → (s.loadGo n i base64).pslot n j = s.pslot n j := by
  obtain ⟨u, hku, hgo⟩ := State.loadGo_eq (slot := i) (base64 := base64) hb ha hh
  have hchk := u.loadCheck_first n i base64 h
  have hslot : ∀ j, u.pslot n j = s.pslot n j := hku.pslot_eq (by decide) n
  rw [hslot] at hchk
  generalize hl : ({ slot := i, addr := a, header := h, result := u.loadCheck n i base64 h } : Load) = l at hgo
  have hbusy : Kept [.stoves] [F.STV_LOAD_STS_BUSY n, F.STV_STS_UNSIGNED n] s (u.loadBusy n l) :=
    ((hku.widen (by simp) (by simp)).updStove (by simp) n _).setb (by simp)
  by_cases hst : (s.pslot n i).state = 0
  · have hne : (u.loadCheck n i base64 h == 9) = false := beq_false_of_ne (State.loadCheck_ne_nine ((congrArg PSlot.state (hslot i)).trans hst))
    rw [hne] at hgo
    rw [hgo, if_neg Bool.false_ne_true]
    generalize hw : (u.loadBusy n l).updSlot n i (fun _ => loadingSlot (u.loadBusy n l) base64 h) = w
    have hshown := w.showUnsigned_kept n
    have hpslot : ∀ j, (w.showUnsigned n).pslot n j = if j = i then loadingSlot (u.loadBusy n l) base64 h else s.pslot n j := fun j => by
      rw [hshown.pslot_eq (by decide), ← hw, State.pslot_updSlot, State.pslot_loadBusy, hslot]
    have hload : ((w.showUnsigned n).stove n).load = some l := by
      rw [hshown.stove_eq (by decide), ← hw, State.updSlot, State.stove_updStove]
      exact State.load_loadBusy
    have hgetb : (w.showUnsigned n).getb (F.STV_LOAD_STS_BUSY n) = true := by
      rw [hshown.getb_eq (by simp [Fld.key, F.STV_LOAD_STS_BUSY, F.STV_STS_UNSIGNED]; omega), ← hw]
      exact State.getb_loadBusy
    refine ⟨((hw ▸ hbusy.updSlot (by simp) n i _ : Kept _ _ s w)).trans (hshown.widen (by simp) (by simp)), hgetb,
      ⟨_, hload.trans (congrArg some hl.symm), hchk⟩, fun _ => ?_,
      fun h0 => absurd hst h0, fun j hj => (hpslot j).trans (if_neg hj)⟩
    rw [hpslot, if_pos rfl]
    exact ⟨rfl, rfl, rfl, rfl⟩
  · have heq : (u.loadCheck n i base64 h == 9) = true := by rw [hchk.1 hst]; rfl
    rw [heq] at hgo
    rw [hgo, if_pos rfl]
    have hpslot : ∀ j, (u.loadBusy n l).pslot n j = s.pslot n j := fun j => State.pslot_loadBusy.trans (hslot j)
    exact ⟨hbusy, State.getb_loadBusy, ⟨_, State.load_loadBusy.trans (congrArg some hl.symm), hchk⟩,
      fun h0 => absurd h0 hst, fun _ => hpslot i, fun j _ => hpslot j⟩

theorem programLoad_begins (hw : s.writable r (R.STV_LOAD_CTL + 0x200000 * n) = true)
    (hbusy : s.getb (F.STV_LOAD_STS_BUSY n) = false) (hi : i = v / 2 ^ 16 % 16) (ha : a = s.get (F.STV_LOAD_ADDR_ADDR n) / 4096 * 4096)
    (hh : h = Tab.readBytes s.ddr a 512) (hb : s.bareDdr = true) :
    Does (.programLoad r n v) s [.stoves] [F.STV_LOAD_CTL_OP n, F.STV_LOAD_CTL_SLOT n, F.STV_LOAD_CTL_BASE64 n, F.STV_LOAD_STS_BUSY n,
      F.STV_STS_UNSIGNED n] (fun t =>
      t.getb (F.STV_LOAD_STS_BUSY n) = true ∧
      (∃ c, (t.stove n).load = some { slot := i, addr := a, header := h, result := c } ∧
        ((s.pslot n i).state ≠ 0 → c = 9) ∧
        ((s.pslot n i).state = 0 → leAt h 0 4 ≠ 0x53545650 → c = 1) ∧
        ((s.pslot n i).state = 0 → leAt h 0 4 = 0x53545650 → leAt h 4 2 ≠ 1 → c = 2) ∧
        ((s.pslot n i).state = 0 → leAt h 0 4 = 0x53545650 → leAt h 4 2 = 1 → leAt h 12 4 = 0 → c = 3)) ∧
      ((s.pslot n i).state = 0 → (t.pslot n i).state = 1 ∧ (t.pslot n i).pgm = leAt h 8 2 ∧ (t.pslot n i).version = leAt h 10 2 ∧
        (t.pslot n i).base64 = v % 128) ∧
      ((s.pslot n i).state ≠ 0 → t.pslot n i = s.pslot n i) ∧ ∀ j, j ≠ i → t.pslot n j = s.pslot n j) := by
  subst hi
  have hex : exec (.programLoad r n v) s = .next ((s.loadCtlShown n 1 v).loadGo n (v / 2 ^ 16 % 16) (v % 128)) :=
    congrArg Host.Outcome.next ((State.withWrite_writable hw _).trans (State.writeLoadCtl_load hbusy))
  have hshown := s.loadCtlShown_kept n 1 v
  have haddr : a = (s.loadCtlShown n 1 v).get (F.STV_LOAD_ADDR_ADDR n) / 4096 * 4096 := by
    rw [hshown.get_eq (notMem_loadCtlFlds (.inr rfl)), ha]
  obtain ⟨hkept, hspec⟩ := State.loadGo_spec (s := s.loadCtlShown n 1 v) (i := v / 2 ^ 16 % 16) (base64 := v % 128) hb haddr hh
  exact ⟨_, hex, hspec, (hshown.widen (by simp) (by simp +contextual [loadCtlFlds])).trans (hkept.widen (by simp) (by simp +contextual))⟩

/-! ### A load ends (R157) -/

theorem leAt_drop (b : Bytes) (m o n : Nat) : leAt (b.drop m) o n = leAt b (m + o) n := by rw [leAt, leAt, slice, slice, List.drop_drop]

/-- The code stands in the program store from its base on. -/
theorem find_storeCode_below : ∀ (k : Nat) (m : Tab W64) (a i : Nat) (b : Bytes), i < a → Tab.find (storeCode m a k b) i = Tab.find m i
  | 0, _, _, _, _, _ => rfl
  | k + 1, m, a, i, b, h => by
    rw [storeCode, find_storeCode_below k _ _ _ _ (by omega), Tab.find_put_other _ _ _ _ (by omega)]

theorem find_storeCode : ∀ (k : Nat) (m : Tab W64) (a i : Nat) (b : Bytes), i < k →
    Tab.find (storeCode m a k b) (a + i) = some (BitVec.ofNat 64 (leAt b (8 * i) 8))
  | k + 1, m, a, 0, b, _ => by
    rw [storeCode, find_storeCode_below _ _ _ _ _ (by omega)]
    exact Tab.find_put_same _ _ _
  | k + 1, m, a, i + 1, b, h => by
    rw [storeCode, show a + (i + 1) = a + 1 + i by omega, find_storeCode k _ _ _ _ (by omega), leAt_drop]
    congr 3
    omega

/-- The bytes of an image after its header: its code and its data. -/
def State.bodySize (s : State) (n : Nat) (l : Load) : Nat := 8 * leAt l.header 12 4 + (s.pslot n l.slot).dataLen
def State.loadBody (s : State) (n : Nat) (l : Load) : Bytes := Tab.readBytes s.ddr (l.addr + 512) (s.bodySize n l)

/-- How a load ends: with the first check that failed. -/
def Load.ending (l : Load) (dmaErr : Bool) (body : Bytes) : Nat :=
  if l.result != 0 then l.result else if dmaErr then 0x0B else if sha384 body != slice l.header 48 48 then 0x07 else 0

/-- The Stove once the body of its image is stored. -/
def State.stoveLoaded (s : State) (n : Nat) (l : Load) : Stove :=
  let words := leAt l.header 12 4
  { s.stove n with
    load := none
    pstore := storeCode (s.stove n).pstore (64 * (s.pslot n l.slot).base64) words (s.loadBody n l)
    lmem := Tab.writeBytes (s.stove n).lmem (s.pslot n l.slot).dataOff ((s.loadBody n l).drop (8 * words)) }

/-- The load is over, and its body stored where it was read without error. -/
def State.loadTaken (s : State) (n : Nat) (l : Load) (dmaErr : Bool) : State :=
  let u := (if l.result == 0 then s.ddrLook (l.addr + 512) (s.bodySize n l) else s).updStove n (fun v => { v with load := none })
  let p := s.pslot n l.slot
  let words := leAt l.header 12 4
  if l.result == 0 && !dmaErr then
    (u.updStove n (fun v => { v with pstore := storeCode v.pstore (64 * p.base64) words (s.loadBody n l) })).lmWrite n p.dataOff
      ((s.loadBody n l).drop (8 * words))
  else u

/-- The slot is VALID, or EMPTY after a check that failed. -/
def State.slotSettled (s : State) (n slot res : Nat) : State :=
  if res == 0 then s.updSlot n slot (fun p => { p with state := 2 }) else s.updSlot n slot (fun _ => {})

def State.loadClosed (s : State) (n slot res : Nat) : State :=
  (((s.slotSettled n slot res).setb (F.STV_LOAD_STS_BUSY n) false).set (F.STV_LOAD_STS_RESULT n) res).showUnsigned n

theorem Load.ending_ne_nine (h9 : l.result ≠ 9) : (l.ending dmaErr body == 9) = false := by
  refine beq_false_of_ne ?_
  unfold Load.ending
  split
  · exact h9
  · repeat' split
    all_goals decide

theorem State.retryHeld_of_none (h : s.heldItems = []) : s.retryHeld = s := by
  rw [State.retryHeld, h, List.foldl_nil, ← h]

theorem exec_loadDone (hload : (s.stove n).load = some l) (hb : s.bareDdr = true) (h9 : l.result ≠ 9) :
    exec (.loadDone n dmaErr) s = .next (((((s.loadTaken n l dmaErr).loadClosed n l.slot (l.ending dmaErr (s.loadBody n l))).record
      (if l.ending dmaErr (s.loadBody n l) == 0 then 0x0503 else 0x0504)
      (w1 n ++ w1 (s.pslot n l.slot).pgm ++ w1 (l.ending dmaErr (s.loadBody n l)))).retryHeld)) := by
  generalize hlook : (if l.result == 0 then s.ddrLook (l.addr + 512) (s.bodySize n l) else s) = u
  have hddr : u.ddr = s.ddr ∧ u.bareDdr = true := by
    rw [← hlook]
    split
    · exact ⟨(State.ddrLook_kept hb _ _).ddr_eq (by decide), State.bareDdr_ddrLook hb _ _⟩
    · exact ⟨rfl, hb⟩
  have hbad : (u.ddrBad (l.addr + 512) (s.bodySize n l)).isSome = false := by rw [State.ddrBad_of_bareDdr hddr.2]; rfl
  have hbody : Tab.readBytes u.ddr (l.addr + 512) (s.bodySize n l) = s.loadBody n l := by rw [hddr.1]; rfl
  have h9' := Load.ending_ne_nine (dmaErr := dmaErr) (body := s.loadBody n l) h9
  unfold State.bodySize at hlook hbad hbody
  simp only [exec, execLoadDone, hload, hlook, hbad, hbody, Bool.or_false]
  simp only [Load.ending] at h9' ⊢
  simp only [h9', Bool.false_eq_true, if_false, State.loadTaken, State.bodySize, hlook]
  rfl

/-- What a load's end leaves of a state in which its body is stored. -/
theorem State.loadClosed_kept (s : State) (n slot res : Nat) :
    Kept [.stoves] [F.STV_LOAD_STS_BUSY n, F.STV_LOAD_STS_RESULT n, F.STV_STS_UNSIGNED n] s (s.loadClosed n slot res) := by
  have hslot : Kept [.stoves] [F.STV_LOAD_STS_BUSY n, F.STV_LOAD_STS_RESULT n, F.STV_STS_UNSIGNED n] s (s.slotSettled n slot res) := by
    unfold State.slotSettled
    split <;> exact (Kept.refl _ _ s).updSlot (by simp) n slot _
  exact ((hslot.setb (by simp)).set (by simp)).setb (by simp)

theorem State.pslot_slotSettled : (s.slotSettled n slot res).pslot n j =
    if j = slot then (if res = 0 then { s.pslot n slot with state := 2 } else {}) else s.pslot n j := by
  unfold State.slotSettled
  by_cases hr : res = 0 <;> simp [hr, State.pslot_updSlot]

theorem State.stove_loadClosed : (s.loadClosed n slot res).stove n = (s.slotSettled n slot res).stove n := rfl

theorem State.stove_slotSettled : ∃ p, (s.slotSettled n slot res).stove n = { s.stove n with pslots := p } := by
  unfold State.slotSettled
  split <;> exact ⟨_, State.stove_updStove n _⟩

theorem State.getb_loadClosed : (s.loadClosed n slot res).getb (F.STV_LOAD_STS_BUSY n) = false := by
  have hu : (F.STV_LOAD_STS_BUSY n).key ≠ (F.STV_STS_UNSIGNED n).key := by simp only [Fld.key, F.STV_LOAD_STS_BUSY, F.STV_STS_UNSIGNED]; omega
  have hr : (F.STV_LOAD_STS_BUSY n).key ≠ (F.STV_LOAD_STS_RESULT n).key := by simp only [Fld.key, F.STV_LOAD_STS_BUSY, F.STV_LOAD_STS_RESULT]; omega
  rw [State.loadClosed, State.getb_eq, State.showUnsigned, State.setb_eq, State.get_set_other _ _ _ _ hu, State.get_set_other _ _ _ _ hr, ← State.getb_eq]
  exact State.getb_setb_same Nat.one_pos

theorem State.result_loadClosed : (s.loadClosed n slot res).get (F.STV_LOAD_STS_RESULT n) = res % 256 := by
  have hu : (F.STV_LOAD_STS_RESULT n).key ≠ (F.STV_STS_UNSIGNED n).key := by simp only [Fld.key, F.STV_LOAD_STS_RESULT, F.STV_STS_UNSIGNED]; omega
  rw [State.loadClosed, State.showUnsigned, State.setb_eq, State.get_set_other _ _ _ _ hu]
  exact State.get_set_same _ _ _

theorem State.loadTaken_kept (hb : s.bareDdr = true) (n : Nat) (l : Load) (dmaErr : Bool) : Kept [.stoves] [] s (s.loadTaken n l dmaErr) := by
  have hlook : Kept [.stoves] [] s (if l.result == 0 then s.ddrLook (l.addr + 512) (s.bodySize n l) else s) := by
    split
    · exact (State.ddrLook_kept hb _ _).widen (by simp) (by simp)
    · exact Kept.refl _ _ s
  unfold State.loadTaken
  dsimp only
  split
  · exact ((hlook.updStove (by simp) n _).updStove (by simp) n _).updStove (by simp) n _
  · exact hlook.updStove (by simp) n _

theorem State.stove_loadTaken (hb : s.bareDdr = true) : (s.loadTaken n l dmaErr).stove n =
    if l.result == 0 && !dmaErr then s.stoveLoaded n l
    else { s.stove n with load := none } := by
  have hlook : (if l.result == 0 then s.ddrLook (l.addr + 512) (s.bodySize n l) else s).stove n = s.stove n := by
    split
    · exact (State.ddrLook_kept hb _ _).stove_eq (by decide) n
    · rfl
  unfold State.loadTaken
  dsimp only
  split
  · rw [State.lmWrite, State.stove_updStove, State.stove_updStove, State.stove_updStove, hlook]
    rfl
  · rw [State.stove_updStove, hlook]

theorem State.pslot_loadTaken (hb : s.bareDdr = true) : (s.loadTaken n l dmaErr).pslot n j = s.pslot n j := by
  rw [State.pslot, State.stove_loadTaken hb]
  split <;> rfl

/-- LOAD_DONE in terms of how the load ends. -/
theorem loadDone_ends (hload : (s.stove n).load = some l) (hheld : s.heldItems = []) (h9 : l.result ≠ 9) (hb : s.bareDdr = true)
    (hres : l.ending dmaErr (s.loadBody n l) = res) :
    Gives (.loadDone n dmaErr) s (fun t => (t.stove n).load = none ∧ t.getb (F.STV_LOAD_STS_BUSY n) = false ∧ t.ddr = s.ddr ∧
      t.get (F.STV_LOAD_STS_RESULT n) = res % 256 ∧
      (∀ j, t.pslot n j = if j = l.slot then (if res = 0 then { s.pslot n l.slot with state := 2 } else {}) else s.pslot n j) ∧
      (l.result = 0 → dmaErr = false →
        (t.stove n).pstore = storeCode (s.stove n).pstore (64 * (s.pslot n l.slot).base64) (leAt l.header 12 4) (s.loadBody n l) ∧
        (t.stove n).lmem = Tab.writeBytes (s.stove n).lmem (s.pslot n l.slot).dataOff ((s.loadBody n l).drop (8 * leAt l.header 12 4))) ∧
      (res = 0 → Staged 0x0503 [n % 2 ^ 32, (s.pslot n l.slot).pgm % 2 ^ 32, 0] s t)) := by
  have hex := exec_loadDone (dmaErr := dmaErr) hload hb h9
  rw [hres] at hex
  have htaken := State.loadTaken_kept hb n l dmaErr
  have hclosed := (s.loadTaken n l dmaErr).loadClosed_kept n l.slot res
  have hboth := (htaken.widen (qs := [.stoves]) (gs := [F.STV_LOAD_STS_BUSY n, F.STV_LOAD_STS_RESULT n, F.STV_STS_UNSIGNED n]) (fun _ h => h)
    (by simp)).trans hclosed
  generalize hv : (s.loadTaken n l dmaErr).loadClosed n l.slot res = v at hex hboth
  have hlog := v.record_kept (if res == 0 then 0x0503 else 0x0504) (w1 n ++ w1 (s.pslot n l.slot).pgm ++ w1 res)
  rw [State.retryHeld_of_none ((hlog.heldItems_eq (by decide)).trans ((hboth.heldItems_eq (by decide)).trans hheld))] at hex
  obtain ⟨p, hp⟩ := State.stove_slotSettled (s := s.loadTaken n l dmaErr) (n := n) (slot := l.slot) (res := res)
  have hstove : ∀ m, (v.record (if res == 0 then 0x0503 else 0x0504) (w1 n ++ w1 (s.pslot n l.slot).pgm ++ w1 res)).stove m = v.stove m :=
    hlog.stove_eq (by decide)
  have hvn : v.stove n = { (s.loadTaken n l dmaErr).stove n with pslots := p } := by rw [← hv, State.stove_loadClosed, hp]
  have hlow : ∀ f : Fld, 0x1000000 ≤ f.addr → f.key ∉ logFlds.map Fld.key := fun f hf => stvField_notMem hf logFlds_low
  refine ⟨_, hex, ?_, ?_, ?_, ?_, fun j => ?_, fun hr hd => ?_, fun hr => ?_⟩
  · rw [hstove, hvn, State.stove_loadTaken hb]
    split <;> rfl
  · rw [hlog.getb_eq (hlow _ (by simp only [F.STV_LOAD_STS_BUSY]; omega)), ← hv]
    exact State.getb_loadClosed
  · exact (hlog.ddr_eq (by decide)).trans (hboth.ddr_eq (by decide))
  · rw [hlog.get_eq (hlow _ (by simp only [F.STV_LOAD_STS_RESULT]; omega)), ← hv]
    exact State.result_loadClosed
  · rw [State.pslot, hstove, ← State.pslot, ← hv]
    exact State.pslot_slotSettled.trans (by rw [State.pslot_loadTaken hb, State.pslot_loadTaken hb])
  · have hst : (s.loadTaken n l dmaErr).stove n = s.stoveLoaded n l := by
      rw [State.stove_loadTaken hb, if_pos (by simp [hr, hd])]
    rw [hstove, hvn, hst]
    exact ⟨rfl, rfl⟩
  · subst hr
    have hlist : w1 n ++ w1 (s.pslot n l.slot).pgm ++ w1 0 = [n % 2 ^ 32, (s.pslot n l.slot).pgm % 2 ^ 32, 0] := rfl
    rw [if_pos (by rfl), hlist]
    exact staged_record (hboth.soot_eq (by decide) (by decide)) (hboth.tick_eq (by decide)) (by simp)

theorem loadDone_spec (hload : (s.stove n).load = some l) (hheld : s.heldItems = []) (h9 : l.result ≠ 9) (hh : h = l.header)
    (hb : s.bareDdr = true) (hbody : body = Tab.readBytes s.ddr (l.addr + 512) (8 * leAt h 12 4 + (s.pslot n l.slot).dataLen)) :
    Gives (.loadDone n dmaErr) s (fun t => (t.stove n).load = none ∧ t.getb (F.STV_LOAD_STS_BUSY n) = false ∧ t.ddr = s.ddr ∧
      (∀ j, j ≠ l.slot → t.pslot n j = s.pslot n j) ∧
      (l.result = 0 → dmaErr = false → sha384 body = slice h 48 48 → t.get (F.STV_LOAD_STS_RESULT n) = 0 ∧
        t.pslot n l.slot = { s.pslot n l.slot with state := 2 } ∧
        (∀ i, i < leAt h 12 4 → Tab.find (t.stove n).pstore (64 * (s.pslot n l.slot).base64 + i) = some (BitVec.ofNat 64 (leAt body (8 * i) 8))) ∧
        Tab.readBytes (t.stove n).lmem (s.pslot n l.slot).dataOff (s.pslot n l.slot).dataLen =
          body.drop (8 * leAt h 12 4) ∧
        Staged 0x0503 [n % 2 ^ 32, (s.pslot n l.slot).pgm % 2 ^ 32, 0] s t) ∧
      (l.result = 0 → dmaErr = false → sha384 body ≠ slice h 48 48 → t.get (F.STV_LOAD_STS_RESULT n) = 7 ∧ (t.pslot n l.slot).state = 0) ∧
      (l.result = 0 → dmaErr = true → t.get (F.STV_LOAD_STS_RESULT n) = 0x0B ∧ (t.pslot n l.slot).state = 0) ∧
      (l.result ≠ 0 → t.get (F.STV_LOAD_STS_RESULT n) = l.result % 256 ∧ (t.pslot n l.slot).state = 0)) := by
  subst hh
  obtain rfl : body = s.loadBody n l := hbody
  obtain ⟨t, hex, hnone, hbusy, hddr, hget, hslot, hstore, hstaged⟩ := loadDone_ends (dmaErr := dmaErr) hload hheld h9 hb rfl
  have hempty : ∀ {c}, l.ending dmaErr (s.loadBody n l) = c → c ≠ 0 → t.get (F.STV_LOAD_STS_RESULT n) = c % 256 ∧ (t.pslot n l.slot).state = 0 :=
    fun hc h0 => ⟨hc ▸ hget, by rw [hslot, if_pos rfl, if_neg (hc ▸ h0)]⟩
  refine ⟨t, hex, hnone, hbusy, hddr, fun j hj => (hslot j).trans (if_neg hj), fun hr hd hsha => ?_, fun hr hd hsha => ?_, fun hr hd => ?_, fun hr => ?_⟩
  · have hz : l.ending dmaErr (s.loadBody n l) = 0 := by simp [Load.ending, hr, hd, hsha]
    obtain ⟨hpstore, hlmem⟩ := hstore hr hd
    have hlen : ((s.loadBody n l).drop (8 * leAt l.header 12 4)).length = (s.pslot n l.slot).dataLen := by
      rw [List.length_drop, State.loadBody, Tab.readBytes_length, State.bodySize, Nat.add_sub_cancel_left]
    refine ⟨hget.trans (congrArg (· % 256) hz), by rw [hslot, if_pos rfl, if_pos hz], fun i hi => ?_, ?_, hstaged hz⟩
    · rw [hpstore]
      exact find_storeCode _ _ _ _ _ hi
    · rw [hlmem, ← hlen]
      exact Tab.readBytes_writeBytes _ _ _
  · exact hempty (c := 7) (by simp [Load.ending, hr, hd, hsha]) (by decide)
  · exact hempty (c := 11) (by simp [Load.ending, hr, hd]) (by decide)
  · exact hempty (by simp [Load.ending, hr]) hr

/-! ### Unloading (R158) -/

theorem programUnload_drains (hw : s.writable r (R.STV_LOAD_CTL + 0x200000 * n) = true) (hi : i = v / 2 ^ 16 % 16) (hst : (s.pslot n i).state = 2) :
    Does (.programUnload r n v) s [.stoves] [F.STV_LOAD_CTL_OP n, F.STV_LOAD_CTL_SLOT n, F.STV_LOAD_CTL_BASE64 n] (fun t =>
      t.pslot n i = { s.pslot n i with state := 3 } ∧ ∀ j, j ≠ i → t.pslot n j = s.pslot n j) := by
  have hshown := s.loadCtlShown_kept n 2 v
  have hslot : ∀ j, (s.loadCtlShown n 2 v).pslot n j = s.pslot n j := hshown.pslot_eq (by decide) n
  have hex : exec (.programUnload r n v) s = .next ((s.loadCtlShown n 2 v).updSlot n i (fun p => { p with state := 3 })) := by
    refine congrArg Host.Outcome.next ((State.withWrite_writable hw _).trans (State.writeLoadCtl_unload.trans ?_))
    rw [← hi, State.unloadGo, hslot, if_pos (by simpa using hst)]
  refine ⟨_, hex, ⟨?_, fun j hj => ?_⟩, (hshown.widen (by simp) (fun _ h => h)).updSlot (by simp) n i _⟩
  · rw [State.pslot_updSlot, if_pos rfl, hslot]
  · rw [State.pslot_updSlot, if_neg hj, hslot]

theorem slotDrained_empties (hst : (s.pslot n i).state = 3) (hq : (s.stove n).queue = []) (hidle : ∀ x ∈ (s.stove n).strands, x.2.item = none) :
    Does (.slotDrained n i) s [.stoves] [F.STV_STS_UNSIGNED n] (fun t => t.pslot n i = {} ∧ ∀ j, j ≠ i → t.pslot n j = s.pslot n j) := by
  have hnone : (s.stove n).strands.any (fun x => x.2.item.isSome && x.2.slot == i) = false := by
    rw [List.any_eq_false]
    intro x hx
    simp [hidle x hx]
  have hex : exec (.slotDrained n i) s = .next ((s.updSlot n i (fun _ => {})).showUnsigned n) :=
    congrArg Host.Outcome.next (if_pos (by simp [hst, hq, hnone]))
  have hshown := (s.updSlot n i (fun _ => {})).showUnsigned_kept n
  refine ⟨_, hex, ⟨?_, fun j hj => ?_⟩, (((Kept.refl _ _ s).updSlot (by simp) n i _).setb (by simp))⟩
  · rw [hshown.pslot_eq (by decide), State.pslot_updSlot, if_pos rfl]
  · rw [hshown.pslot_eq (by decide), State.pslot_updSlot, if_neg hj]

/-- Settles O19: a load begins and ends, then an unload drains its slot and the slot is EMPTY. -/
theorem programsLoad : Obligations.ProgramsLoad := by
  unfold Obligations.ProgramsLoad
  exact ⟨fun s r n v i a h _ hw hbusy hi ha hh hb => programLoad_begins hw hbusy hi ha hh hb,
    fun s n l h body dmaErr hload hheld h9 hh hb hbody => loadDone_spec hload hheld h9 hh hb hbody,
    fun s r n v i hw hi hst => programUnload_drains hw hi hst, fun s n i hst hq hidle => slotDrained_empties hst hq hidle⟩

end Sys2Proof.Machine
end

section
/-! Work items are posted and dispatched, policy words written (R148-R150, R160, R518). -/

namespace Sys2Proof.Machine

variable {s u t : State} {n k m pgm kind v value : Nat} {r : Req} {b : Bytes} {w : WorkItem} {rest : List WorkItem}

/-! ### An item is posted (R148, R149) -/

/-- A fact about a Stove that a change leaves. -/
theorem State.stove_updStove_eq {β : Type} (g : Stove → β) {f : Stove → Stove} (hf : ∀ v, g (f v) = g v) :
    g ((s.updStove n f).stove m) = g (s.stove m) := by
  by_cases h : m = n
  · rw [h, State.stove_updStove, hf]
  · rw [State.stove_updStove_other h]

theorem State.slotFor_congr (h : (u.stove m).pslots = (s.stove m).pslots) : u.slotFor m pgm kind = s.slotFor m pgm kind := by
  have hpslot : u.pslot m = s.pslot m := funext fun i => by rw [State.pslot, State.pslot, h]
  rw [State.slotFor, State.slotFor, h, hpslot]

theorem State.chooseStove_congr (htakes : ∀ m, u.stoveTakes m = s.stoveTakes m) (hslots : ∀ m, (u.stove m).pslots = (s.stove m).pslots)
    (hqueue : ∀ m, (u.stove m).queue = (s.stove m).queue) : u.chooseStove pgm kind = s.chooseStove pgm kind := by
  simp only [State.chooseStove, htakes, hqueue, fun m => State.slotFor_congr (pgm := pgm) (kind := kind) (hslots m)]

/-- A word written to STV_WI_POST is held. -/
def State.postHeld (s : State) (n w v : Nat) : State := s.updStove n (fun x => { x with post := Tab.putN x.post w (v % 2 ^ 32) })

theorem State.stoveTakes_postHeld (s : State) (n w v m : Nat) : (s.postHeld n w v).stoveTakes m = s.stoveTakes m := by
  have hfenced : ((s.postHeld n w v).stove m).fenced = (s.stove m).fenced := State.stove_updStove_eq Stove.fenced fun _ => rfl
  rw [State.stoveTakes, hfenced]
  rfl

theorem State.postedItem_postHeld (s : State) (n v : Nat) :
    (List.range 16).flatMap (fun i => leBytes 4 (Tab.getN ((s.postHeld n 15 v).stove n).post i)) = postedItem s n v := by
  simp only [State.postHeld, State.stove_updStove, Tab.getN_putN, postedItem]

theorem State.countItem_eq (h : w.kind ≠ 4) : s.countItem w = s := if_neg (by simpa using h)

/-- The item stands last in the chosen Stove's queue. -/
def State.queued (s : State) (m : Nat) (w : WorkItem) : State := s.updStove m (fun v => { v with queue := v.queue ++ [w] })

theorem State.writePost_queues (hb : b = postedItem s n v) (hkind : leAt b 2 1 ≠ 4) (hm : s.chooseStove (leAt b 0 2) (leAt b 2 1) = some m)
    (hroom : (s.stove m).queue.length < 256) : s.writePost n 15 v =
      (s.postHeld n 15 v).queued m { bytes := b, slot := (s.slotFor m (leAt b 0 2) (leAt b 2 1)).getD 0 } := by
  generalize hu : s.postHeld n 15 v = u
  have hbytes : (List.range 16).flatMap (fun i => leBytes 4 (Tab.getN (u.stove n).post i)) = b := by
    rw [← hu, State.postedItem_postHeld, hb]
  have hslots : ∀ j, (u.stove j).pslots = (s.stove j).pslots := fun j => hu ▸ State.stove_updStove_eq Stove.pslots fun _ => rfl
  have hqueue : ∀ j, (u.stove j).queue = (s.stove j).queue := fun j => hu ▸ State.stove_updStove_eq Stove.queue fun _ => rfl
  have hchosen : u.chooseStove (leAt b 0 2) (leAt b 2 1) = some m :=
    (State.chooseStove_congr (fun j => hu ▸ State.stoveTakes_postHeld s n 15 v j) hslots hqueue).trans hm
  have hpost : u.postItem { bytes := b } = some (u.queued m { bytes := b, slot := (s.slotFor m (leAt b 0 2) (leAt b 2 1)).getD 0 }) := by
    have hchosen' : u.chooseStove (WorkItem.pgm { bytes := b }) (WorkItem.kind { bytes := b }) = some m := hchosen
    rw [State.postItem, hchosen', Option.map_some, if_pos (by rw [hqueue]; exact hroom), State.slotFor_congr (hslots m)]
    rfl
  unfold State.postHeld at hu
  simp only [State.writePost, hu, hbytes, hpost]
  exact State.countItem_eq hkind

theorem State.strand_queued (j k : Nat) : (s.queued m w).strand j k = s.strand j k := by
  have hstrands : ((s.queued m w).stove j).strands = (s.stove j).strands := State.stove_updStove_eq Stove.strands fun _ => rfl
  rw [State.strand, hstrands, State.strand]

theorem State.strand_postHeld (i j k : Nat) : (s.postHeld n i v).strand j k = s.strand j k := by
  have hstrands : ((s.postHeld n i v).stove j).strands = (s.stove j).strands := State.stove_updStove_eq Stove.strands fun _ => rfl
  rw [State.strand, hstrands, State.strand]

theorem stvWiPost_queues (hw : s.writable r (R.STV_WI_POST + 0x200000 * n + 60) = true) (hb : b = postedItem s n v) (hkind : leAt b 2 1 ≠ 4)
    (hm : s.chooseStove (leAt b 0 2) (leAt b 2 1) = some m) (hroom : (s.stove m).queue.length < 256) :
    Does (.stvWiPost r n v) s [.stoves] [] (fun t =>
      (t.stove m).queue = (s.stove m).queue ++ [{ bytes := b, slot := (s.slotFor m (leAt b 0 2) (leAt b 2 1)).getD 0 }] ∧
      (∀ j, j ≠ m → (t.stove j).queue = (s.stove j).queue) ∧ ∀ j k, t.strand j k = s.strand j k) := by
  have hheld : ∀ j, ((s.postHeld n 15 v).stove j).queue = (s.stove j).queue := fun j => State.stove_updStove_eq Stove.queue fun _ => rfl
  refine ⟨_, congrArg Host.Outcome.next ((State.withWrite_writable hw _).trans (State.writePost_queues hb hkind hm hroom)),
    ⟨?_, fun j hj => ?_, fun j k => ?_⟩, ((Kept.refl _ _ s).updStove (by simp) n _).updStove (by simp) m _⟩
  · rw [State.queued, State.stove_updStove, hheld]
  · rw [State.queued, State.stove_updStove_other hj, hheld]
  · rw [State.strand_queued, State.strand_postHeld]

/-! ### An idle strand takes an item (R150, R518) -/

/-- The strand as it begins an item. -/
def State.startsItem (s : State) (n k : Nat) (w : WorkItem) (x : Strand) : Strand :=
  { st := .running, g := [(1, BitVec.ofNat 64 (0xFFF00 + 64 * k))], tickets := x.tickets, item := some w, slot := w.slot, startAt := s.cyc
    fltCode := x.fltCode, fltPc := x.fltPc, pc := 64 * (s.pslot n w.slot).base64 + (s.pslot n w.slot).entries.getD w.kind 0 }

def State.dispatched (s : State) (n k : Nat) (w : WorkItem) (rest : List WorkItem) : State :=
  ((s.updStove n (fun v => { v with queue := rest })).lmWrite n (0xFFF00 + 64 * k) (slice w.bytes 0 64)).updStrand n k (s.startsItem n k w)

theorem exec_strandDispatch (hnext : s.nextItem (s.stove n).queue = some (w, rest)) (htakes : s.stoveTakes n = true) (hans : s.answers dStv = true)
    (hidle : (s.strand n k).st = .idle) (hheld : s.heldItems = []) : exec (.strandDispatch n k) s = .next (s.dispatched n k w rest) := by
  have hnone : (s.dispatched n k w rest).heldItems = [] := hheld
  have hready : (!(s.stoveTakes n && s.answers dStv && (s.strand n k).st == .idle)) = false := by rw [htakes, hans, hidle]; rfl
  rw [← State.retryHeld_of_none hnone]
  simp only [exec, execStrandDispatch, hnext, hready]
  rfl

theorem State.dispatched_kept (s : State) (n k : Nat) (w : WorkItem) (rest : List WorkItem) : Kept [.stoves] [] s (s.dispatched n k w rest) :=
  (((Kept.refl _ _ s).updStove (by simp) n _).updStove (by simp) n _).updStrand (by simp) n k _

theorem State.stove_dispatched : (s.dispatched n k w rest).stove n =
    { s.stove n with
      queue := rest, lmem := Tab.writeBytes (s.stove n).lmem (0xFFF00 + 64 * k) (slice w.bytes 0 64)
      strands := Tab.upd (s.stove n).strands k {} (s.startsItem n k w) } := by
  rw [State.dispatched, State.stove_updStrand, State.lmWrite, State.stove_updStove, State.stove_updStove]

theorem State.strand_dispatched (j : Nat) : (s.dispatched n k w rest).strand n j =
    if j = k then s.startsItem n k w (s.strand n k) else s.strand n j := by
  rw [State.strand, State.stove_dispatched]
  exact Tab.getD_upd _ _ _ _ _

theorem State.reg_startsItem (x : Strand) (i : BitVec 5) :
    (s.startsItem n k w x).reg i = if i = 1 then BitVec.ofNat 64 (0xFFF00 + 64 * k) else 0 := by
  by_cases h1 : i = 1
  · subst h1
    rfl
  · have hne : ¬ 1 = i.toNat := fun h => h1 (BitVec.eq_of_toNat_eq h.symm)
    rw [if_neg h1, Strand.reg, State.startsItem]
    simp [Tab.getD, Tab.find, hne]

theorem slice_length (b : Bytes) (o n : Nat) : (slice b o n).length = n := by rw [slice_eq_map, List.length_map, List.length_range]

/-- The oldest item comes first. -/
theorem State.nextItem_oldest (hq : s.qphase = 0) : s.nextItem (w :: rest) = some (w, rest) := by
  simp [State.nextItem, hq, List.findIdx?_cons]

/-- During phase 1 of a Quench the oldest item that destages comes first. -/
theorem State.nextItem_destage {a b : List WorkItem} (hq : s.qphase = 1) (ha : ∀ x ∈ a, x.kind ≠ 0 ∧ x.kind ≠ 2) (hw : w.kind = 0 ∨ w.kind = 2) :
    s.nextItem (a ++ w :: b) = some (w, a ++ b) := by
  have hidx : (a ++ w :: b).findIdx? (fun w => s.qphase == 0 || w.kind == 0 || w.kind == 2) = some a.length := by
    have hnone : a.findIdx? (fun w => s.qphase == 0 || w.kind == 0 || w.kind == 2) = none := by
      rw [List.findIdx?_eq_none_iff]
      intro x hx
      simp [hq, ha x hx]
    rw [List.findIdx?_append, hnone, List.findIdx?_cons, if_pos (by simpa [hq] using hw)]
    simp
  rw [State.nextItem, hidx]
  simp [hq, List.eraseIdx_append_of_length_le]

theorem strandDispatch_oldest (htakes : s.stoveTakes n = true) (hans : s.answers dStv = true) (hidle : (s.strand n k).st = .idle)
    (hq : s.qphase = 0) (hqueue : (s.stove n).queue = w :: rest) (hheld : s.heldItems = []) :
    Does (.strandDispatch n k) s [.stoves] [] (fun t =>
      (t.stove n).queue = rest ∧ (t.strand n k).st = .running ∧ (t.strand n k).item = some w ∧ (t.strand n k).slot = w.slot ∧
      (t.strand n k).pc = 64 * (s.pslot n w.slot).base64 + (s.pslot n w.slot).entries.getD w.kind 0 ∧ (t.strand n k).wait = none ∧
      (∀ i, (t.strand n k).reg i = if i = 1 then BitVec.ofNat 64 (0xFFF00 + 64 * k) else 0) ∧ (t.strand n k).d = [] ∧
      Tab.readBytes (t.stove n).lmem (0xFFF00 + 64 * k) 64 = slice w.bytes 0 64 ∧ ∀ j, j ≠ k → t.strand n j = s.strand n j) := by
  have hnext : s.nextItem (s.stove n).queue = some (w, rest) := hqueue ▸ State.nextItem_oldest hq
  have hmem : Tab.readBytes ((s.dispatched n k w rest).stove n).lmem (0xFFF00 + 64 * k) 64 = slice w.bytes 0 64 := by
    have hread := Tab.readBytes_writeBytes (s.stove n).lmem (0xFFF00 + 64 * k) (slice w.bytes 0 64)
    rw [slice_length] at hread
    rw [State.stove_dispatched]
    exact hread
  refine ⟨_, exec_strandDispatch hnext htakes hans hidle hheld, ?_, s.dispatched_kept n k w rest⟩
  simp only [State.strand_dispatched, if_true]
  exact ⟨by rw [State.stove_dispatched], rfl, rfl, rfl, rfl, rfl, State.reg_startsItem _, rfl, hmem, fun j hj => if_neg hj⟩

theorem strandDispatch_destage {a b : List WorkItem} (htakes : s.stoveTakes n = true) (hans : s.answers dStv = true)
    (hidle : (s.strand n k).st = .idle) (hq : s.qphase = 1) (hqueue : (s.stove n).queue = a ++ w :: b)
    (ha : ∀ x ∈ a, x.kind ≠ 0 ∧ x.kind ≠ 2) (hw : w.kind = 0 ∨ w.kind = 2) (hheld : s.heldItems = []) :
    Does (.strandDispatch n k) s [.stoves] [] (fun t =>
      (t.stove n).queue = a ++ b ∧ (t.strand n k).st = .running ∧ (t.strand n k).item = some w) := by
  have hnext : s.nextItem (s.stove n).queue = some (w, a ++ b) := hqueue ▸ State.nextItem_destage hq ha hw
  refine ⟨_, exec_strandDispatch hnext htakes hans hidle hheld, ?_, s.dispatched_kept n k w _⟩
  simp only [State.strand_dispatched, if_true]
  exact ⟨by rw [State.stove_dispatched], rfl, rfl⟩

/-! ### A policy word is written (R160) -/

/-- The bits of a field, in their place. -/
theorem land_field (v i l : Nat) : v &&& 2 ^ i * (2 ^ l - 1) = 2 ^ i * bits v i l := by
  refine Nat.eq_of_testBit_eq fun j => ?_
  simp only [bits, Nat.testBit_and, Nat.testBit_two_pow_mul, Nat.testBit_two_pow_sub_one, Nat.testBit_mod_two_pow, Nat.testBit_div_two_pow]
  by_cases hj : i ≤ j
  · simp [hj, Bool.and_comm]
  · simp [hj]

theorem policyBits_eq_land (v : Nat) : policyBits v = Nat.land v 0xFFFF017F := by
  have hmask : 0xFFFF017F = 2 ^ 16 * (2 ^ 16 - 1) ||| (2 ^ 8 * (2 ^ 1 - 1) ||| 2 ^ 0 * (2 ^ 7 - 1)) := by decide
  have hlow : bits v 0 7 = v % 128 := by simp [bits]
  have hmid : 2 ^ 8 * bits v 8 1 + v % 128 < 2 ^ 16 := by
    simp only [bits]
    omega
  change _ = v &&& _
  rw [hmask, Nat.and_or_distrib_left, Nat.and_or_distrib_left, land_field, land_field, land_field, hlow, Nat.pow_zero, Nat.one_mul,
    ← Nat.two_pow_add_eq_or_of_lt (by omega : v % 128 < 2 ^ 8), ← Nat.two_pow_add_eq_or_of_lt hmid, policyBits]
  omega

theorem policyWrite_sets (hw : s.writable r R.STV_POL = true) :
    Does (.policyWrite r value) s [.bel] [] (fun t =>
      (t.vol (s.get (F.STV_POL_SEL_VOL 0))).policy = Nat.land value 0xFFFF017F ∧
      (∀ j, j ≠ s.get (F.STV_POL_SEL_VOL 0) → t.vol j = s.vol j)) := by
  refine ⟨_, congrArg Host.Outcome.next (State.withWrite_writable hw _), ?_, ((Kept.refl _ _ s).updBel (by simp) _).updBel (by simp) _⟩
  simp only [State.writePolicy, State.restored, State.vol_updVol, if_true]
  exact ⟨policyBits_eq_land value, fun j hj => by rw [if_neg hj, if_neg hj]⟩

end Sys2Proof.Machine
end

section
/-! Units are granted, and work items end (R144, R145, R187, R196). -/

namespace Sys2Proof.Machine

variable {s u : State} {n k e l c b : Nat} {f : InsW} {w : WorkItem} {t : Ticket} {y : CzBlk}

/-! ### The jobs of a Stove -/

theorem Stove.mem_jobs {v : Stove} {w : Nat × Nat × Ticket} :
    w ∈ v.jobs ↔ ∃ x : Strand, (w.1, x) ∈ v.strands ∧ w.2 ∈ x.tickets ∧ (w.2.2.used && w.2.2.job.isSome) = true := by
  obtain ⟨k, e, t⟩ := w
  simp only [Stove.jobs, List.mem_flatMap, List.mem_map, List.mem_filter]
  constructor
  · rintro ⟨⟨i, x⟩, hx, ⟨i', t'⟩, ⟨ht, hjob⟩, heq⟩
    cases heq
    exact ⟨x, hx, ht, hjob⟩
  · rintro ⟨x, hx, ht, hjob⟩
    exact ⟨(k, x), hx, (e, t), ⟨ht, hjob⟩, rfl⟩

/-- A change of one ticket leaves no job that was not there but the ticket's own. -/
theorem Stove.mem_jobs_updTicket {v : Stove} {g : Ticket → Ticket} {w : Nat × Nat × Ticket}
    (h : w ∈ ({ v with strands := Tab.upd v.strands k {} (fun x => x.updTicket e g) } : Stove).jobs) :
    w ∈ v.jobs ∨ w.2.2 = g ((Tab.getD v.strands k {}).ticket e) ∧ w.2.2.job.isSome = true := by
  obtain ⟨x, hx, ht, hjob⟩ := Stove.mem_jobs.mp h
  rcases Tab.mem_put hx with heq | hold
  · obtain ⟨hk, rfl⟩ := Prod.mk.inj heq
    rcases Tab.mem_put ht with heq | hold
    · exact .inr ⟨congrArg Prod.snd heq, (Bool.and_eq_true_iff.mp hjob).2⟩
    · refine .inl (Stove.mem_jobs.mpr ⟨_, ?_, hold, hjob⟩)
      rw [Tab.getD] at hold ⊢
      cases hfind : Tab.find v.strands k with
      | none =>
        rw [hfind] at hold
        exact absurd hold (List.not_mem_nil)
      | some x => exact hk ▸ Tab.mem_of_find hfind
  · exact .inl (Stove.mem_jobs.mpr ⟨x, hold, ht, hjob⟩)

/-! ### No drive request waits for its start -/

theorem State.drvsBegun_of_jobs (hdrv : u.drv = s.drv) (h : s.drvsBegun n = true)
    (hjobs : ∀ w ∈ (u.stove n).jobs, w ∈ (s.stove n).jobs ∨ ∀ ea, w.2.2.job ≠ some (.drv ea)) : u.drvsBegun n = true := by
  simp only [State.drvsBegun, List.all_eq_true, hdrv] at h ⊢
  intro w hw
  rcases hjobs w hw with hold | hother
  · exact h w hold
  · split
    · next ea hjob => exact absurd hjob (hother ea)
    · rfl

theorem State.begun_of_drvsBegun (h : s.drvsBegun n = true) : s.begun n = s := by
  simp only [State.drvsBegun, List.all_eq_true] at h
  refine foldl_eq_self fun w hw => ?_
  have hbegun := h w hw
  split
  · next ea hjob =>
    rw [hjob] at hbegun
    have hno : (w.2.2.granted && !s.drv.cmds.any (fun c => c.stove == n && c.strand == w.1 && c.entry == w.2.1)) = false := by
      rw [Bool.and_eq_false_iff]
      simpa using hbegun
    rw [hno]
    rfl
  · rfl

/-! ### A unit is granted (R145) -/

theorem State.stove_endOrphans (h : (s.stove n).orphans = []) : (s.endOrphans n c).stove n = s.stove n := by
  rw [State.endOrphans, State.stove_updStove, h, List.filter_nil, ← h]

theorem State.bypassed_congr (h : u.stove n = s.stove n) : u.bypassed n = s.bypassed n := by
  funext t
  simp only [State.bypassed, State.blk?, h]

theorem State.readBlock_congr (h : u.stove n = s.stove n) : u.readBlock n = s.readBlock n := by
  funext j
  cases j <;> simp [State.readBlock, State.lmBytes, h]

/-- A free unit goes to the request that comes first, where none is served by the bypass. -/
theorem State.grantUnit_gives (hfree : (s.stove n).freeUnit c = some l)
    (hfirst : (s.stove n).nextJob (fun k t => t.job.bind Job.unit == some c && !t.granted && (s.stove n).first k t) = some (k, e, t))
    (hnone : (s.stove n).nextJob (fun k t => (t.job.bind Job.unit == some c && !t.granted && (s.stove n).first k t) && s.bypassed n t) = none) :
    s.grantUnit n c = s.giveUnit n k e l t := by
  simp only [State.grantUnit, hnone, hfree, hfirst]

/-- The ticket with unit `l`, which it has from now. -/
def State.grantedTo (s : State) (n l : Nat) (t : Ticket) : Ticket :=
  { t with granted := true, lane := l, since := s.cyc, job := t.job.map (s.readBlock n) }

theorem State.giveUnit_ticket (hopen : ∀ b, t.job ≠ some (.czOpen b)) :
    s.giveUnit n k e l t = s.updStrand n k (fun x => x.updTicket e (s.grantedTo n l)) := by
  unfold State.giveUnit
  split
  · next b hb => exact absurd hb (hopen b)
  · rfl

/-- A grant makes no drive request of another. -/
theorem State.drv_grantedTo (h : ∀ ea, t.job ≠ some (.drv ea)) (ea : Nat) : (s.grantedTo n l t).job ≠ some (.drv ea) := by
  intro hdrv
  obtain ⟨j, hj, hread⟩ := Option.map_eq_some_iff.mp hdrv
  cases j with
  | drv ea' => exact h ea' hj
  | _ => exact Job.noConfusion hread

theorem Strand.ticket_updTicket (x : Strand) (e : Nat) (g : Ticket → Ticket) : (x.updTicket e g).ticket e = g (x.ticket e) := by
  rw [Strand.ticket, Strand.updTicket, Tab.getD_upd, if_pos rfl, Strand.ticket]

/-- LANE_GRANT in a Stove without orphans, where the unit's new holder is no drive request. -/
theorem exec_laneGrant (hopen : (s.stove n).fenced = false) (horphans : (s.stove n).orphans = []) (hfree : (s.stove n).freeUnit c = some l)
    (hfirst : (s.stove n).nextJob (fun k t => t.job.bind Job.unit == some c && !t.granted && (s.stove n).first k t) = some (k, e, t))
    (hnone : (s.stove n).nextJob (fun k t => (t.job.bind Job.unit == some c && !t.granted && (s.stove n).first k t) && s.bypassed n t) = none)
    (hgive : (s.endOrphans n c).giveUnit n k e l t = u) (hbegun : u.drvsBegun n = true) : exec (.laneGrant n c none) s = .next u := by
  have hst : (s.endOrphans n c).stove n = s.stove n := State.stove_endOrphans horphans
  have hgrant : (s.endOrphans n c).grantUnit n c = u := by
    rw [← State.bypassed_congr hst] at hnone
    rw [← hst] at hfree hfirst hnone
    exact (State.grantUnit_gives hfree hfirst hnone).trans hgive
  refine congrArg Host.Outcome.next ((if_neg (by rw [hopen]; exact Bool.false_ne_true)).trans ?_)
  rw [← State.begun_of_drvsBegun hbegun, ← hgrant]

theorem laneGrant_grants {j : Job} (hopen : (s.stove n).fenced = false) (hjob : t.job = some j) (hticket : (s.strand n k).ticket e = t)
    (hfree : (s.stove n).freeUnit c = some l) (horphans : (s.stove n).orphans = []) (hbegun : s.drvsBegun n = true)
    (hfirst : (s.stove n).nextJob (fun k t => t.job.bind Job.unit == some c && !t.granted && (s.stove n).first k t) = some (k, e, t))
    (hnone : (s.stove n).nextJob (fun k t => (t.job.bind Job.unit == some c && !t.granted && (s.stove n).first k t) && s.bypassed n t) = none)
    (hcz : ∀ b, j ≠ .czOpen b) (hdrv : ∀ ea, j ≠ .drv ea) :
    Does (.laneGrant n c none) s [.stoves] [] (fun t' =>
      (t'.strand n k).ticket e = { t with granted := true, lane := l, since := s.cyc, job := some (s.readBlock n j) } ∧
      (t'.strand n k).g = (s.strand n k).g ∧ (t'.strand n k).pc = (s.strand n k).pc) := by
  have hst : (s.endOrphans n c).stove n = s.stove n := State.stove_endOrphans horphans
  have hstrand : (s.endOrphans n c).strand n k = s.strand n k := by rw [State.strand, hst, State.strand]
  have hgranted : (s.endOrphans n c).grantedTo n l = s.grantedTo n l := by
    funext x
    rw [State.grantedTo, State.readBlock_congr hst]
    rfl
  have hgive : (s.endOrphans n c).giveUnit n k e l t = (s.endOrphans n c).updStrand n k (fun x => x.updTicket e (s.grantedTo n l)) := by
    rw [State.giveUnit_ticket fun b hb => hcz b (Option.some.inj (hjob.symm.trans hb)), hgranted]
  generalize hu : (s.endOrphans n c).updStrand n k (fun x => x.updTicket e (s.grantedTo n l)) = u at hgive
  have hbegun' : u.drvsBegun n = true := by
    refine State.drvsBegun_of_jobs (s := s) (hu ▸ rfl) hbegun fun w hw => ?_
    rw [← hu, State.stove_updStrand, hst] at hw
    refine (Stove.mem_jobs_updTicket hw).imp id fun ⟨hnew, _⟩ ea => ?_
    rw [hnew, ← State.strand, hticket]
    exact State.drv_grantedTo (fun ea hea => hdrv ea (Option.some.inj (hjob.symm.trans hea))) ea
  have hstrand' : u.strand n k = (s.strand n k).updTicket e (s.grantedTo n l) := by rw [← hu, State.strand_updStrand, hstrand]
  refine ⟨u, exec_laneGrant hopen horphans hfree hfirst hnone hgive hbegun', ?_,
    hu ▸ ((Kept.refl _ _ s).updStove (by simp) n _).updStrand (by simp) n k _⟩
  simp only [hstrand', Strand.ticket_updTicket, hticket, State.grantedTo, hjob]
  exact ⟨rfl, rfl, rfl⟩

/-! ### A CZ.OPEN ends with its lane (R196) -/

theorem find_map_key {α : Type} (g : α → α) (k : Nat) (t : Tab α) :
    Tab.find (t.map (fun e => if e.1 == k then (e.1, g e.2) else e)) k = (Tab.find t k).map g := by
  induction t with
  | nil => rfl
  | cons e t ih =>
    by_cases h : e.1 = k
    · simp [Tab.find, h]
    · simpa [Tab.find, h] using ih

theorem State.stove_updBlk (g : CzBlk → CzBlk) : (s.updBlk n b g).stove n =
    { s.stove n with blocks := (s.stove n).blocks.map (fun e => if e.1 == b then (e.1, g e.2) else e) } := State.stove_updStove n _

theorem Ticket.finish_job (t : Ticket) (h : t.used = true) :
    (if t.used then { t with job := none, granted := false, status := 0 } else t) = { t with job := none, granted := false, status := 0 } := by
  rw [h, if_pos rfl]

theorem laneGrant_opens (hopen : (s.stove n).fenced = false) (hticket : (s.strand n k).ticket e = t) (hjob : t.job = some (.czOpen b))
    (hused : t.used = true) (hblk : Tab.find (s.stove n).blocks b = some y)
    (hfree : (s.stove n).freeUnit c = some l) (horphans : (s.stove n).orphans = []) (hbegun : s.drvsBegun n = true)
    (hfirst : (s.stove n).nextJob (fun k t => t.job.bind Job.unit == some c && !t.granted && (s.stove n).first k t) = some (k, e, t))
    (hnone : (s.stove n).nextJob (fun k t => (t.job.bind Job.unit == some c && !t.granted && (s.stove n).first k t) && s.bypassed n t) = none) :
    Does (.laneGrant n c none) s [.stoves] [] (fun t' => Ended n k e 0 t' ∧ Tab.find (t'.stove n).blocks b = some { y with lane := some l } ∧
      (t'.strand n k).g = (s.strand n k).g ∧ (t'.strand n k).pc = (s.strand n k).pc) := by
  have hst : (s.endOrphans n c).stove n = s.stove n := State.stove_endOrphans horphans
  generalize hu : (s.endOrphans n c).updBlk n b (fun x => { x with lane := some l }) = u
  have hustove : u.stove n =
      { s.stove n with blocks := (s.stove n).blocks.map (fun e => if e.1 == b then (e.1, { e.2 with lane := some l }) else e) } := by
    rw [← hu, State.stove_updBlk, hst]
  have hustrand : u.strand n k = s.strand n k := by rw [State.strand, hustove, State.strand]
  have hgive : (s.endOrphans n c).giveUnit n k e l t = u.finishTicket n k e 0 := by simp only [State.giveUnit, hjob, hu]
  have hstove : (u.finishTicket n k e 0).stove n = { u.stove n with strands := Tab.upd (u.stove n).strands k {} (fun x => x.updTicket e
      (fun t => if t.used then { t with job := none, granted := false, status := 0 } else t)) } := State.stove_updStrand _
  have hbegun' : (u.finishTicket n k e 0).drvsBegun n = true := by
    refine State.drvsBegun_of_jobs (s := s) (hu ▸ rfl) hbegun fun w hw => ?_
    rw [hstove] at hw
    refine (Stove.mem_jobs_updTicket hw).imp (fun hold => ?_) fun ⟨hnew, hsome⟩ => ?_
    · rw [hustove] at hold
      exact hold
    · have hx : (Tab.getD (u.stove n).strands k {}).ticket e = t := by rw [← State.strand, hustrand, hticket]
      rw [hnew, hx, Ticket.finish_job t hused] at hsome
      exact absurd hsome Bool.false_ne_true
  have hkept : Kept [.stoves] [] s (u.finishTicket n k e 0) :=
    Kept.updStrand (hu ▸ ((Kept.refl _ _ s).updStove (by simp) n _).updStove (by simp) n _) (by simp) n k _
  refine ⟨_, exec_laneGrant hopen horphans hfree hfirst hnone hgive hbegun', ?_, hkept⟩
  have hblocks : Tab.find ((u.finishTicket n k e 0).stove n).blocks b = some { y with lane := some l } := by
    rw [hstove, hustove]
    exact (find_map_key (fun x : CzBlk => { x with lane := some l }) b _).trans (congrArg (Option.map _) hblk)
  have hstrand : (u.finishTicket n k e 0).strand n k = (s.strand n k).updTicket e
      (fun t => if t.used then { t with job := none, granted := false, status := 0 } else t) := by
    rw [State.finishTicket, State.strand_updStrand, hustrand]
  refine ⟨?_, hblocks, ?_, ?_⟩
  · rw [Ended, hstrand, Strand.ticket_updTicket, hticket, Ticket.finish_job t hused]
    exact ⟨rfl, rfl⟩
  · rw [hstrand]
    rfl
  · rw [hstrand]
    rfl

/-! ### END (R144, R148, R187) -/

theorem endItem_waits (hf : s.fetches n k 0x01 f = true) (ha : f.a = 0) (hc : f.c = 0) (hx : f.x = 0) (himm : f.imm = 0)
    (hdone : (s.strand n k).allDone = false) :
    Does (.endItem n k f) s [.stoves] [] (fun t => t.strand n k = { s.strand n k with wait := some .all } ∧ StoveKept n k id s t) :=
  does_stall hf rfl (if_pos (by simp [ha, hc, hx, himm, State.strand_turned, hdone]))

/-- The strand has given up what it holds and is idle. -/
def State.strandEnded (s : State) (n k : Nat) : State := (s.releaseStrand n k).updStrand n k (fun y => { y with st := .idle, item := none })

/-- The kinds of which only the poster is told. -/
def WorkItem.onlyTold (w : WorkItem) : Prop := w.kind = 0 ∨ w.kind = 2 ∨ (w.kind = 7 ∧ w.arg / 2 ^ 48 ≠ 0x0901)

theorem State.itemEnded_emits (h : w.onlyTold) (value : Nat) : s.itemEnded w value = s.emit (.itemEnd (leAt w.bytes 6 2) w.tag value) := by
  rcases h with hk | hk | ⟨hk, harg⟩
  · simp only [State.itemEnded, hk]
  · simp only [State.itemEnded, hk]
  · simp only [State.itemEnded, hk, State.firmwareItem, beq_false_of_ne harg, Bool.and_false, Bool.false_eq_true, if_false]

/-- The state after an END: the strand has ended, its poster is told. -/
def State.afterEnd (s : State) (n k : Nat) (o : Out) (pc : Nat) : State :=
  (((s.turned n k).strandEnded n k).emit o).updStrand n k (fun y => { y with pc := pc, wait := none })

theorem exec_endItem (h : s.issues n k 0x01 f (f.a == 0 && f.c == 0 && f.x == 0 && f.imm == 0) (s.strand n k).pc = true)
    (hdone : (s.strand n k).allDone = true) (hitem : (s.strand n k).item = some w) (hw : w.onlyTold) :
    exec (.endItem n k f) s =
      .next (s.afterEnd n k (.itemEnd (leAt w.bytes 6 2) w.tag (((s.strand n k).reg f.b).toNat % 2 ^ 32)) (s.strand n k).pc) := by
  obtain ⟨hf, hl, hh⟩ := State.issues_iff.mp h
  refine congrArg Host.Outcome.next ((State.onTurn_of_fetches hf _).trans ((if_neg ?_).trans ?_))
  · simp [State.strand_turned, hdone]
  · refine State.perform_goesOn hl ?_ (congrArg Strand.pc State.strand_turned) (by rw [State.runSlot_turned]; exact hh)
    simp only [State.strand_turned, hitem, State.itemEnded_emits hw]
    rfl

theorem State.strand_strandEnded : (s.strandEnded n k).strand n k = { (s.strand n k).givesUp with st := .idle, item := none } := by
  rw [State.strandEnded, State.strand_updStrand, State.strand_releaseStrand]

theorem State.stove_strandEnded : (s.strandEnded n k).stove n =
    { (s.stove n).givesUp k with strands := ((s.strandEnded n k).stove n).strands } := by
  rw [State.strandEnded, State.stove_updStrand, State.stove_releaseStrand]

theorem State.strandEnded_kept (s : State) (n k : Nat) : Kept strandParts [] s (s.strandEnded n k) :=
  (s.releaseStrand_kept n k).updStrand (by simp [strandParts]) n k _

theorem Strand.ticket_givesUp (x : Strand) (e : Nat) : x.givesUp.ticket e = { epoch := (x.ticket e).epoch } :=
  Tab.getD_mapVals x.tickets (fun _ t => ({ epoch := t.epoch } : Ticket)) e {} {} rfl

/-- The lock goes to whom it suspended. -/
theorem Stove.lock_givesUp {v : Stove} {h u : CiHold} (hlock : v.lock = some h) (hk : h.strand = k) (hsusp : v.susp = some u) (hu : u.strand ≠ k) :
    (v.givesUp k).lock = some u := by
  simp [Stove.givesUp, hlock, hk, hsusp, hu, Stove.unlock]

theorem State.strand_afterEnd {o : Out} {pc : Nat} :
    (s.afterEnd n k o pc).strand n k = { (s.strand n k).givesUp with st := .idle, item := none, pc := pc, wait := none } := by
  have hemit : (((s.turned n k).strandEnded n k).emit o).strand n k = ((s.turned n k).strandEnded n k).strand n k := rfl
  rw [State.afterEnd, State.strand_updStrand, hemit, State.strand_strandEnded, State.strand_turned]

theorem State.strand_afterEnd_other {o : Out} {pc j : Nat} (h : j ≠ k) : (s.afterEnd n k o pc).strand n j = s.strand n j := by
  have hemit : (((s.turned n k).strandEnded n k).emit o).strand n j = ((s.turned n k).strandEnded n k).strand n j := rfl
  rw [State.afterEnd, State.strand_updStrand_other h, hemit, State.strandEnded, State.strand_updStrand_other h, State.strand_releaseStrand_other h,
    State.strand_turned]

/-- Beside its strands the Stove is as the strand's release leaves it. -/
theorem State.stove_afterEnd {o : Out} {pc : Nat} : (s.afterEnd n k o pc).stove n =
    { (({ s.stove n with turn := k } : Stove).givesUp k) with strands := ((s.afterEnd n k o pc).stove n).strands } := by
  have hemit : (((s.turned n k).strandEnded n k).emit o).stove n = ((s.turned n k).strandEnded n k).stove n := rfl
  rw [State.afterEnd, State.stove_updStrand, hemit, State.stove_strandEnded, State.stove_turned]

theorem State.ctx_afterEnd {o : Out} {pc i : Nat} : (s.afterEnd n k o pc).ctx n i =
    if (s.ctx n i).strand == k && (s.ctx n i).state != 0 then { s.ctx n i with state := 0, msg := [], key := [] } else s.ctx n i := by
  rw [State.ctx, State.stove_afterEnd, Stove.givesUp_ctxs]
  exact Tab.getD_mapVals _ _ i ({} : DgCtx) ({} : DgCtx) (by simp)

theorem State.afterEnd_kept (s : State) (n k : Nat) (o : Out) (pc : Nat) :
    Kept [.stoves, .ddx, .drv, .pool, .keys, .out] [] s (s.afterEnd n k o pc) := by
  have hended : Kept [.stoves, .ddx, .drv, .pool, .keys, .out] [] s ((s.turned n k).strandEnded n k) :=
    ((s.turned_kept n k).widen (by simp) (by simp)).trans (((s.turned n k).strandEnded_kept n k).widen (by simp [strandParts]) (by simp))
  exact (hended.emit (by simp)).updStrand (by simp) n k _

theorem State.out_afterEnd {o : Out} {pc : Nat} : (s.afterEnd n k o pc).out = o :: s.out :=
  congrArg (o :: ·) (((s.turned n k).strandEnded_kept n k).2.1 .out (by simp [strandParts]))

theorem State.keys_afterEnd {o : Out} {pc : Nat} (h : s.keys.erase = none) : (s.afterEnd n k o pc).keys = s.keys := by
  have hkept : Kept [.stoves, .out] [] ((s.turned n k).releaseStrand n k) (s.afterEnd n k o pc) :=
    (((Kept.refl _ _ _).updStrand (by simp) n k _).emit (by simp)).updStrand (by simp) n k _
  have hturned : (s.turned n k).keys = s.keys := (s.turned_kept n k).keys_eq (by simp)
  rw [hkept.keys_eq (by simp), State.releaseStrand_keys (by rw [hturned]; exact h), hturned]

theorem endItem_ends (h : s.issues n k 0x01 f (f.a == 0 && f.c == 0 && f.x == 0 && f.imm == 0) (s.strand n k).pc = true)
    (hdone : (s.strand n k).allDone = true) (hitem : (s.strand n k).item = some w) (hw : w.onlyTold) :
    Does (.endItem n k f) s [.stoves, .ddx, .drv, .pool, .keys, .out] [] (fun t =>
      t.out = .itemEnd (leAt w.bytes 6 2) w.tag (((s.strand n k).reg f.b).toNat % 2 ^ 32) :: s.out ∧ (s.keys.erase = none → t.keys = s.keys) ∧
      (t.strand n k).st = .idle ∧ (t.strand n k).item = none ∧ (t.strand n k).block = none ∧
      (∀ e, (t.strand n k).ticket e = { epoch := ((s.strand n k).ticket e).epoch }) ∧
      (∀ c, (s.ctx n c).strand = k → (t.ctx n c).state = 0) ∧ (∀ c, (s.ctx n c).strand ≠ k → t.ctx n c = s.ctx n c) ∧
      (∀ h, (s.stove n).lock = some h → h.strand = k → ∀ u, (s.stove n).susp = some u → u.strand ≠ k → (t.stove n).lock = some u) ∧
      ∀ j, j ≠ k → t.strand n j = s.strand n j) := by
  refine ⟨_, exec_endItem h hdone hitem hw, ⟨State.out_afterEnd, fun hk => State.keys_afterEnd hk, ?_, ?_, ?_,
    fun e => ?_, fun i hi => ?_, fun i hi => ?_, fun h hlock hk u hsusp hu => ?_, fun j hj => State.strand_afterEnd_other hj⟩, s.afterEnd_kept n k _ _⟩
  · rw [State.strand_afterEnd]
  · rw [State.strand_afterEnd]
  · rw [State.strand_afterEnd]
    rfl
  · rw [State.strand_afterEnd]
    exact Strand.ticket_givesUp _ e
  · rw [State.ctx_afterEnd]
    split
    · rfl
    · next hstate => simpa [hi] using hstate
  · rw [State.ctx_afterEnd, if_neg (by simp [hi])]
  · rw [State.stove_afterEnd]
    exact Stove.lock_givesUp hlock hk hsusp hu

/-- Settles O23: posting, dispatch, policy words, grants and END, each by the lemma about its command. -/
theorem workItemsRun : Obligations.WorkItemsRun := by
  unfold Obligations.WorkItemsRun
  refine ⟨⟨fun s r n v m b hw hb hkind hm hroom => stvWiPost_queues hw hb hkind hm hroom,
      fun s n k w rest htakes hans hidle hq hqueue hheld => strandDispatch_oldest htakes hans hidle hq hqueue hheld,
      fun s n k w a b htakes hans hidle hq hqueue ha hw hheld => strandDispatch_destage htakes hans hidle hq hqueue ha hw hheld⟩,
    ⟨fun s r v hw => policyWrite_sets hw, fun s n k e u l t j hopen hjob _ hticket hfree horphans hbegun hfirst hnone =>
      ⟨fun hcz hdrv => laneGrant_grants hopen hjob hticket hfree horphans hbegun hfirst hnone hcz hdrv, fun b y hj hused hblk =>
        laneGrant_opens hopen hticket (hjob.trans (congrArg some hj)) hused hblk hfree horphans hbegun hfirst hnone⟩⟩,
    fun s n k f hf ha hc hx himm hdone => endItem_waits hf ha hc hx himm hdone, fun s n k f w h hdone hitem hw => endItem_ends h hdone hitem hw⟩

end Sys2Proof.Machine
end

section
/-! A stream in local memory: the bytes it reads and writes, and how its ticket ends (R175, R176, R182, R183, R194). -/

namespace Sys2Proof.Tab

theorem readBytes_ext {t u : Tab Byte} {a b : Nat} : ∀ n, (∀ i < n, getB t (a + i) = getB u (b + i)) → readBytes t a n = readBytes u b n := by
  intro n
  induction n generalizing a b with
  | zero => exact fun _ => rfl
  | succ n ih =>
    intro h
    have hfirst : getB t a = getB u b := h 0 (by omega)
    rw [readBytes, readBytes, hfirst, ih fun i hi => ?_]
    rw [Nat.add_assoc, Nat.add_assoc, Nat.add_comm 1 i]
    exact h (i + 1) (by omega)

theorem readBytes_take (t : Tab Byte) : ∀ m n a, m ≤ n → (readBytes t a n).take m = readBytes t a m
  | 0, _, _, _ => rfl
  | m + 1, n + 1, a, h => by rw [readBytes, readBytes, List.take_succ_cons, readBytes_take t m n (a + 1) (by omega)]

end Sys2Proof.Tab

namespace Sys2Proof.Machine

variable {s u : State} {n k e c st : Nat} {d x y : Desc} {t : Ticket} {j : Job} {lm : Tab Byte} {fs : List Fld} {cmd : Instr}

/-! ### Descriptors of local memory -/

theorem Desc.place_local (h : d.space = 0) (m : StoveMem) (i : Nat) : d.place m i = some (0, d.addr + i) := by simp [Desc.place, h]

theorem Desc.ddr_local (h : d.space = 0) (m : Nat) : d.ddr m = [] := by simp [Desc.ddr, h]

theorem Desc.readFrom_local (h : d.space = 0) (m : StoveMem) :
    ∀ len i, d.readFrom m len i = (Tab.readBytes m.lm (d.addr + i) len, true)
  | 0, _ => rfl
  | len + 1, i => by
    simp only [Desc.readFrom, Desc.place_local h, Desc.readFrom_local h m len, Tab.readBytes, Nat.add_assoc]
    rfl

theorem Desc.writeFrom_local (h : d.space = 0) : ∀ (b : Bytes) (m : StoveMem) (i : Nat),
    d.writeFrom b m i = ({ m with lm := Tab.writeBytes m.lm (d.addr + i) b }, b.length, true)
  | [], _, _ => rfl
  | v :: b, m, i => by
    simp only [Desc.writeFrom, Desc.place_local h, Desc.writeFrom_local h b, Tab.writeBytes, Nat.add_assoc, List.length_cons]
    rfl

/-- An ascending copy within local memory whose destination does not begin inside what is still to be copied: each byte arrives as it was. -/
theorem copyFrom_local (hd : d.space = 0) (hx : x.space = 0) : ∀ (len : Nat) (m : StoveMem) (i : Nat),
    (d.addr ≤ x.addr ∨ x.addr + (i + len) ≤ d.addr) → ∃ lm, copyFrom d x len m i = ({ m with lm }, len, true) ∧
      (∀ o, o < len → Tab.getB lm (d.addr + i + o) = Tab.getB m.lm (x.addr + i + o)) ∧
      ∀ a, a < d.addr + i ∨ d.addr + i + len ≤ a → Tab.getB lm a = Tab.getB m.lm a
  | 0, m, _, _ => ⟨m.lm, rfl, fun _ ho => absurd ho (Nat.not_lt_zero _), fun _ _ => rfl⟩
  | len + 1, m, i, hap => by
    obtain ⟨lm, hcopy, hin, hout⟩ := copyFrom_local hd hx len (m.wr (0, d.addr + i) (m.rd (0, x.addr + i))) (i + 1) (by omega)
    have hwr : ∀ a, Tab.getB (m.wr (0, d.addr + i) (m.rd (0, x.addr + i))).lm a =
        if a = d.addr + i then Tab.getB m.lm (x.addr + i) else Tab.getB m.lm a := fun a => Tab.getB_putB _ _ _ _
    refine ⟨lm, ?_, fun o ho => ?_, fun a ha => ?_⟩
    · simp only [copyFrom, Desc.place_local hd, Desc.place_local hx, hcopy]
      rfl
    · cases o with
      | zero => rw [hout _ (by omega), hwr, if_pos (Nat.add_zero _), Nat.add_zero]
      | succ o =>
        have hnext := hin o (by omega)
        rw [hwr, if_neg (by omega)] at hnext
        rw [show d.addr + i + (o + 1) = d.addr + (i + 1) + o by omega, show x.addr + i + (o + 1) = x.addr + (i + 1) + o by omega]
        exact hnext
    · rw [hout a (by omega), hwr, if_neg (by omega)]

theorem State.badAt_local (h : d.space = 0) : s.badAt d none = none := by simp [State.badAt, earlier, h]

theorem State.readSrc_local (h : d.space = 0) : s.readSrc n k d none = (Tab.readBytes (s.stove n).lmem d.addr d.len, 0) := by
  simp only [State.readSrc, State.badAt_local h, Desc.readFrom_local h, State.mem, if_true, Nat.add_zero]

/-- The Stove with other bytes in its local memory. -/
def State.withLmem (s : State) (n : Nat) (lm : Tab Byte) : State := s.updStove n (fun v => { v with lmem := lm })

theorem State.withMem_local (s : State) (n k : Nat) (lm : Tab Byte) : s.withMem n { s.mem n k with lm } = s.withLmem n lm := rfl

theorem State.preWrite_local (h : d.space = 0) (m : Nat) : s.preWrite d m = s := by rw [State.preWrite, Desc.ddr_local h]; rfl
theorem State.postWrite_local (h : d.space = 0) (m : Nat) : s.postWrite d m = s := by rw [State.postWrite, Desc.ddr_local h]; rfl

theorem State.writeDst_local (h : d.space = 0) (b : Bytes) (hb : b.length = d.len) :
    s.writeDst n k d b = (s.withLmem n (Tab.writeBytes (s.stove n).lmem d.addr b), d.len, 0) := by
  simp only [State.writeDst, State.preWrite_local h, State.postWrite_local h, Desc.writeFrom_local h, ← hb, List.take_length, Nat.lt_irrefl,
    Nat.add_zero, State.withMem_local, Bool.not_true, Bool.false_eq_true, if_false]
  rfl

/-! ### How a ticket ends -/

theorem State.ddrMay_nil : s.ddrMay [] [] = true := rfl

/-- The job of a ticket whose turn it is ends, where it touches no DDR. -/
theorem exec_streamFinish (h : Turn s n k e t j) (hdrain : s.drainHeader j = s) (hr : s.jobReads n k j = []) (hw : s.jobWrites n k j = []) :
    exec (.streamFinish n k e none 0) s = .next (s.finishJob n k e t j none 0) := by
  obtain ⟨rfl, hjob, -, hans, hopen, hfin⟩ := h
  refine congrArg Host.Outcome.next ?_
  simp only [hjob, hans, hopen, hfin, hdrain, hr, hw, State.ddrMay_nil]
  rfl

theorem ended_finishTicket (h : Turn s n k e t j) (hu : u.strand n k = s.strand n k) : Ended n k e st (u.finishTicket n k e st) := by
  obtain ⟨rfl, -, hused, -⟩ := h
  rw [Ended, State.finishTicket, State.strand_updStrand, Strand.ticket_updTicket, hu, hused]
  exact ⟨rfl, rfl⟩

theorem State.lmem_finishTicket : ((u.finishTicket n k e st).stove n).lmem = (u.stove n).lmem := by rw [State.finishTicket, State.stove_updStrand]

theorem State.ctx_updStrand (g : Strand → Strand) (c : Nat) : (u.updStrand n k g).ctx n c = u.ctx n c := by
  rw [State.ctx, State.stove_updStrand, State.ctx]

theorem State.ctx_finishTicket : (u.finishTicket n k e st).ctx n c = u.ctx n c := State.ctx_updStrand _ c

theorem Kept.finishTicket {ps : List Part} (h : Kept ps fs s u) (hp : Part.stoves ∈ ps) : Kept ps fs s (u.finishTicket n k e st) :=
  h.updStrand hp n k _

/-- A stream that leaves local memory as `lm` ends its ticket. -/
theorem does_endWithLmem (h : Turn s n k e t j) (hex : exec cmd s = .next ((s.withLmem n lm).finishTicket n k e st)) :
    Does cmd s [.stoves] [] (fun u => Ended n k e st u ∧ (u.stove n).lmem = lm) :=
  ⟨_, hex, ⟨ended_finishTicket h (State.strand_updStove rfl), State.lmem_finishTicket.trans (congrArg Stove.lmem (State.stove_updStove n _))⟩,
    ((Kept.refl _ _ s).updStove (by simp) n _).finishTicket (by simp)⟩

end Sys2Proof.Machine
end

section
/-! Data movement in local memory ends: FILL, CPY and CMP (R183, R194, R195). -/

namespace Sys2Proof.Machine

variable {s : State} {n k e i : Nat} {d x y : Desc} {t : Ticket} {v : W64}

/-! ### FILL -/

/-- What FILL writes: the eight bytes of its value over and over. -/
def fillBytes (len : Nat) (v : W64) : Bytes := (List.range len).map (fun i => (leBytes 8 v.toNat).getD (i % 8) 0)

theorem fillBytes_length (len : Nat) (v : W64) : (fillBytes len v).length = len := by simp [fillBytes]

theorem getD_leBytes (v : W64) (hi : i < 8) : (leBytes 8 v.toNat).getD i 0 = (v >>> (8 * i)).setWidth 8 := by
  rw [List.getD_eq_getElem?_getD, leBytes_getElem? 8 v.toNat i hi, Option.getD_some]
  refine BitVec.eq_of_toNat_eq ?_
  rw [BitVec.toNat_ofNat, BitVec.toNat_setWidth, BitVec.toNat_ushiftRight, Nat.shiftRight_eq_div_pow]

theorem fill_ends (h : Turn s n k e t (.fill d v)) (hd : d.space = 0) :
    Does (.streamFinish n k e none 0) s [.stoves] [] (fun u => Ended n k e (d.len % 2 ^ 32 * 2 ^ 32) u ∧
      (∀ i, i < d.len → Tab.getB (u.stove n).lmem (d.addr + i) = (v >>> (8 * (i % 8))).setWidth 8) ∧
      ∀ a, a < d.addr ∨ d.addr + d.len ≤ a → Tab.getB (u.stove n).lmem a = Tab.getB (s.stove n).lmem a) := by
  have hlen := fillBytes_length d.len v
  have hex : exec (.streamFinish n k e none 0) s = .next ((s.withLmem n (Tab.writeBytes (s.stove n).lmem d.addr (fillBytes d.len v))).finishTicket
      n k e (d.len % 2 ^ 32 * 2 ^ 32)) := by
    rw [exec_streamFinish h rfl rfl (Desc.ddr_local hd _), State.finishJob, State.doFill, ← fillBytes, State.writeDst_local hd _ hlen]
    simp [statusWord]
  refine (does_endWithLmem h hex).imp fun u ⟨hended, hlm⟩ => ⟨hended, fun i hi => ?_, fun a ha => ?_⟩
  · rw [hlm, Tab.getB_writeBytes_inside _ _ i _ (hlen.symm ▸ hi), ← getD_leBytes v (Nat.mod_lt i (by decide))]
    simp [fillBytes]
  · rw [hlm, Tab.getB_writeBytes_outside _ _ a _ (hlen.symm ▸ ha)]

/-! ### CPY -/

theorem cpy_ends {m : Nat} (h : Turn s n k e t (.cpy d x)) (hd : d.space = 0) (hx : x.space = 0) (hm : m = min x.len d.len)
    (hap : d.addr ≤ x.addr ∨ x.addr + m ≤ d.addr) :
    Does (.streamFinish n k e none 0) s [.stoves] [] (fun u =>
      Ended n k e ((if d.len < x.len then 1 else 0) + m % 2 ^ 32 * 2 ^ 32) u ∧
      (∀ i, i < m → Tab.getB (u.stove n).lmem (d.addr + i) = Tab.getB (s.stove n).lmem (x.addr + i)) ∧
      ∀ a, a < d.addr ∨ d.addr + m ≤ a → Tab.getB (u.stove n).lmem a = Tab.getB (s.stove n).lmem a) := by
  obtain ⟨lm, hcopy, hin, hout⟩ := copyFrom_local hd hx m (s.mem n k) 0 (by omega)
  have hex : exec (.streamFinish n k e none 0) s = .next ((s.withLmem n lm).finishTicket n k e
      ((if d.len < x.len then 1 else 0) + m % 2 ^ 32 * 2 ^ 32)) := by
    rw [exec_streamFinish h rfl (Desc.ddr_local hx _) (Desc.ddr_local hd _), State.finishJob]
    simp only [State.doCpy, State.badAt_local hx, State.preWrite_local hd, State.postWrite_local hd, ← hm, hcopy, State.withMem_local, statusWord,
      Bool.not_true, Bool.false_eq_true, Nat.lt_irrefl, gt_iff_lt, if_false, Nat.zero_mod, Nat.zero_mul, Nat.add_zero]
  refine (does_endWithLmem h hex).imp fun u ⟨hended, hlm⟩ => ⟨hended, fun i hi => ?_, fun a ha => ?_⟩
  · rw [hlm]
    exact hin i hi
  · rw [hlm]
    exact hout a ha

/-! ### CMP -/

theorem firstDiff_self : ∀ b : Bytes, firstDiff b b = b.length
  | [] => rfl
  | v :: b => by simp [firstDiff, firstDiff_self b]

theorem firstDiff_readBytes {p q : Tab Byte} {m : Nat} {a b : Nat} (hi : i < m) (hne : Tab.getB p (a + i) ≠ Tab.getB q (b + i))
    (heq : ∀ o, o < i → Tab.getB p (a + o) = Tab.getB q (b + o)) : firstDiff (Tab.readBytes p a m) (Tab.readBytes q b m) = i := by
  induction i generalizing a b m with
  | zero =>
    obtain ⟨m, rfl⟩ : ∃ l, m = l + 1 := ⟨m - 1, by omega⟩
    simpa [Tab.readBytes, firstDiff] using hne
  | succ i ih =>
    obtain ⟨m, rfl⟩ : ∃ l, m = l + 1 := ⟨m - 1, by omega⟩
    have hshift : ∀ r o, r + (o + 1) = r + 1 + o := fun r o => by omega
    have hrest := ih (m := m) (a := a + 1) (b := b + 1) (by omega) (by rw [← hshift, ← hshift]; exact hne)
      fun o ho => by rw [← hshift, ← hshift]; exact heq (o + 1) (by omega)
    have hfirst : Tab.getB p a = Tab.getB q b := heq 0 (by omega)
    simp [Tab.readBytes, firstDiff, hfirst, hrest]

/-- A comparison changes no byte: it ends with its status alone. -/
theorem cmp_ends {st : Nat} (h : Turn s n k e t (.cmp x y)) (hx : x.space = 0) (hy : y.space = 0) (hst : (s.doCmp n k x y none).2 = st) :
    Does (.streamFinish n k e none 0) s [.stoves] [] (fun u => Ended n k e st u ∧ (u.stove n).lmem = (s.stove n).lmem) := by
  have hreads : s.jobReads n k (.cmp x y) = [] := by rw [State.jobReads, Desc.ddr_local hx, Desc.ddr_local hy, List.append_nil]
  have hex := exec_streamFinish h rfl hreads rfl
  rw [State.finishJob] at hex
  simp only [hst] at hex
  exact ⟨_, hex, ⟨ended_finishTicket h rfl, State.lmem_finishTicket⟩, (Kept.refl _ _ s).finishTicket (by simp)⟩

theorem State.doCmp_equal (hx : x.space = 0) (hy : y.space = 0) (hlen : x.len = y.len)
    (heq : ∀ i, i < x.len → Tab.getB (s.stove n).lmem (x.addr + i) = Tab.getB (s.stove n).lmem (y.addr + i)) :
    (s.doCmp n k x y none).2 = x.len % 2 ^ 32 * 2 ^ 32 := by
  have hx' : ({ x with len := min x.len y.len } : Desc).space = 0 := hx
  have hy' : ({ y with len := min x.len y.len } : Desc).space = 0 := hy
  simp only [State.doCmp, State.readSrc_local hx', State.readSrc_local hy']
  rw [← Tab.readBytes_ext _ fun i hi => heq i (by omega), firstDiff_self, Tab.readBytes_length]
  simp [statusWord, hlen]

theorem State.doCmp_differ (hx : x.space = 0) (hy : y.space = 0) (hix : i < x.len) (hiy : i < y.len)
    (hne : Tab.getB (s.stove n).lmem (x.addr + i) ≠ Tab.getB (s.stove n).lmem (y.addr + i))
    (heq : ∀ o, o < i → Tab.getB (s.stove n).lmem (x.addr + o) = Tab.getB (s.stove n).lmem (y.addr + o)) :
    (s.doCmp n k x y none).2 = 4 + i % 2 ^ 32 * 2 ^ 32 := by
  have hx' : ({ x with len := min x.len y.len } : Desc).space = 0 := hx
  have hy' : ({ y with len := min x.len y.len } : Desc).space = 0 := hy
  have hi : i < min x.len y.len := by omega
  simp only [State.doCmp, State.readSrc_local hx', State.readSrc_local hy', firstDiff_readBytes hi hne heq, Tab.readBytes_length, Nat.min_self, hi,
    if_true, statusWord, Nat.zero_mod, Nat.zero_mul, Nat.add_zero]

end Sys2Proof.Machine
end

section
/-! Digest streams end: DG.ABS, DG.FIN and DG.CMP over local memory (R292, R293, R298). -/

namespace Sys2Proof.Machine

variable {s u : State} {n k e c m st : Nat} {d : Desc} {t : Ticket} {v : W64} {y : DgCtx} {b : Bytes} {fs : List Fld}

/-! ### A digest context changes -/

/-- The state with context `c` of the Stove as `y`. -/
def State.withCtx (s : State) (n c : Nat) (y : DgCtx) : State := s.updCtx n c (fun _ => y)

theorem State.updCtx_eq (s : State) (n c : Nat) (g : DgCtx → DgCtx) : s.updCtx n c g = s.withCtx n c (g (s.ctx n c)) := rfl

theorem State.ctx_withCtx (i : Nat) : (s.withCtx n c y).ctx n i = if i = c then y else s.ctx n i := by
  rw [State.ctx, State.withCtx, State.updCtx, State.stove_updStove]
  exact Tab.getD_upd (s.stove n).ctxs c i {} (fun _ => y)

theorem State.strand_withCtx : (s.withCtx n c y).strand n k = s.strand n k := State.strand_updStove rfl

theorem Kept.withCtx {ps : List Part} (h : Kept ps fs s u) (hp : Part.stoves ∈ ps) : Kept ps fs s (u.withCtx n c y) := h.updStove hp n _

theorem State.freeCtx_idle (h : (s.ctx n c).state ≠ 3) : s.freeCtx n c = s := by simp [State.freeCtx, h]

/-- A context takes `b` in whole: it has room for it. -/
def DgCtx.takes (x : DgCtx) (b : Bytes) : DgCtx := { x with msg := x.msg ++ b, absd := x.absd + b.length }

/-- A context has taken `b` up to its declared length, and more was offered (R292). -/
def DgCtx.cutOff (x : DgCtx) (b : Bytes) : DgCtx := { x with msg := x.msg ++ b, absd := x.decl, trunc := true }

theorem State.absorb_fits (htrunc : (s.ctx n c).trunc = false) (hroom : (s.ctx n c).absd + b.length ≤ (s.ctx n c).decl) :
    s.absorb n c b b.length = ((s.withCtx n c ((s.ctx n c).takes b)).inc (F.DG_BYTES_COUNT n) b.length, b.length, false) := by
  have hfits : b.length ≤ (s.ctx n c).decl - (s.ctx n c).absd := by omega
  have hnot : ¬ (s.ctx n c).decl - (s.ctx n c).absd < b.length := by omega
  simp only [State.absorb, State.updCtx_eq, DgCtx.room, htrunc, Bool.false_eq_true, if_false, Nat.min_eq_left hfits, List.take_length,
    decide_eq_false hnot, Bool.or_self, DgCtx.takes]

theorem State.absorb_cutOff {want : Nat} (htrunc : (s.ctx n c).trunc = false) (habsd : (s.ctx n c).absd + b.length = (s.ctx n c).decl)
    (hwant : b.length < want) :
    s.absorb n c b want = ((s.withCtx n c ((s.ctx n c).cutOff b)).inc (F.DG_BYTES_COUNT n) b.length, b.length, true) := by
  have hroom : (s.ctx n c).decl - (s.ctx n c).absd = b.length := by omega
  simp only [State.absorb, State.updCtx_eq, DgCtx.room, htrunc, Bool.false_eq_true, if_false, hroom, Nat.min_self, List.take_length,
    decide_eq_true hwant, Bool.false_or, DgCtx.cutOff, habsd]

/-! ### DG.ABS -/

theorem exec_dgAbs (h : Turn s n k e t (.dgAbs c d)) (hd : d.space = 0) (hsliced : t.sliced = false)
    (hr : s.doDgAbs n k c d false none = (u, st)) (hstate : (u.ctx n c).state ≠ 3) :
    exec (.streamFinish n k e none 0) s = .next (u.finishTicket n k e st) := by
  rw [exec_streamFinish h rfl (Desc.ddr_local hd _) rfl]
  refine congrArg Host.Outcome.next ?_
  simp only [State.finishJob, hsliced, hr]
  exact State.freeCtx_idle (by rw [State.ctx_finishTicket]; exact hstate)

theorem State.doDgAbs_fits (hd : d.space = 0) (hres : (s.ctx n c).res = []) (htrunc : (s.ctx n c).trunc = false)
    (hb : b = Tab.readBytes (s.stove n).lmem d.addr d.len) (hroom : (s.ctx n c).absd + d.len ≤ (s.ctx n c).decl) :
    s.doDgAbs n k c d false none =
      ((s.withCtx n c ((s.ctx n c).takes b)).inc (F.DG_BYTES_COUNT n) d.len, d.len % 2 ^ 32 * 2 ^ 32) := by
  have hlen : b.length = d.len := by rw [hb, Tab.readBytes_length]
  have hm : min d.len (s.ctx n c).room = d.len := by
    rw [DgCtx.room, htrunc, if_neg Bool.false_ne_true]
    omega
  have habsorb := State.absorb_fits (b := b) htrunc (by omega)
  rw [hlen] at habsorb
  simp only [State.doDgAbs, hres, hm, Option.filter_none, State.readSrc_local hd, ← hb, beq_self_eq_true, if_true, habsorb]
  simp [statusWord, b2n]

theorem dgAbs_absorbs (h : Turn s n k e t (.dgAbs c d)) (hd : d.space = 0) (hsliced : t.sliced = false) (hstate : (s.ctx n c).state = 1)
    (hres : (s.ctx n c).res = []) (htrunc : (s.ctx n c).trunc = false) (hb : b = Tab.readBytes (s.stove n).lmem d.addr d.len)
    (hroom : (s.ctx n c).absd + d.len ≤ (s.ctx n c).decl) :
    Does (.streamFinish n k e none 0) s [.stoves] [F.DG_BYTES_COUNT n] (fun u => Ended n k e (d.len % 2 ^ 32 * 2 ^ 32) u ∧
      u.ctx n c = { s.ctx n c with msg := (s.ctx n c).msg ++ b, absd := (s.ctx n c).absd + d.len } ∧ ∀ j, j ≠ c → u.ctx n j = s.ctx n j) := by
  generalize hu : (s.withCtx n c ((s.ctx n c).takes b)).inc (F.DG_BYTES_COUNT n) d.len = u
  have hctx : ∀ i, u.ctx n i = if i = c then (s.ctx n c).takes b else s.ctx n i := fun i => hu ▸ State.ctx_withCtx i
  have hex := exec_dgAbs h hd hsliced ((State.doDgAbs_fits hd hres htrunc hb hroom).trans (by rw [hu]))
    (by rw [hctx, if_pos rfl]; exact fun h3 => absurd (hstate.symm.trans h3) (by decide))
  have hkept : Kept [.stoves] [F.DG_BYTES_COUNT n] s u := hu ▸ ((Kept.refl _ _ s).withCtx (by simp)).inc (by simp)
  refine ⟨_, hex, ⟨ended_finishTicket h (hu ▸ State.strand_withCtx), ?_, fun i hi => ?_⟩, hkept.finishTicket (by simp)⟩
  · rw [State.ctx_finishTicket, hctx, if_pos rfl, DgCtx.takes, hb, Tab.readBytes_length]
  · rw [State.ctx_finishTicket, hctx, if_neg hi]

theorem State.doDgAbs_cutOff (hd : d.space = 0) (hres : (s.ctx n c).res = []) (htrunc : (s.ctx n c).trunc = false)
    (hb : b = Tab.readBytes (s.stove n).lmem d.addr ((s.ctx n c).decl - (s.ctx n c).absd))
    (habsd : (s.ctx n c).absd ≤ (s.ctx n c).decl) (hover : (s.ctx n c).decl < (s.ctx n c).absd + d.len) :
    s.doDgAbs n k c d false none =
      (((s.withCtx n c ((s.ctx n c).cutOff b)).inc (F.DG_BYTES_COUNT n) b.length).truncated n c (s.pgmOf n k),
        256 + ((s.ctx n c).decl - (s.ctx n c).absd) % 2 ^ 32 * 2 ^ 32) := by
  have hlen : b.length = (s.ctx n c).decl - (s.ctx n c).absd := by rw [hb, Tab.readBytes_length]
  have hm : min d.len (s.ctx n c).room = (s.ctx n c).decl - (s.ctx n c).absd := by
    rw [DgCtx.room, htrunc, if_neg Bool.false_ne_true]
    omega
  have hd' : ({ d with len := (s.ctx n c).decl - (s.ctx n c).absd } : Desc).space = 0 := hd
  have habsorb := State.absorb_cutOff (b := b) (want := d.len) htrunc (by omega) (by omega)
  simp only [State.doDgAbs, hres, hm, Option.filter_none, State.readSrc_local hd', ← hb, beq_self_eq_true, if_true, habsorb]
  simp [statusWord, b2n, hlen]

theorem State.truncated_kept (s : State) (n c pgm : Nat) :
    Kept logParts (F.DG_ERR_TRUNC n :: F.DG_TRUNC_CNT_COUNT n :: logFlds) s (s.truncated n c pgm) :=
  (((Kept.refl _ _ s).setb (by simp)).incSat (by simp)).recordMsOf (fun _ h => h) (by simp +contextual)

theorem State.getb_truncated (s : State) (n c pgm : Nat) : (s.truncated n c pgm).getb (F.DG_ERR_TRUNC n) = true := by
  have hlogged : ∀ u : State, Kept logParts logFlds u (u.recordMsOf 0x0520 n (w1 n ++ w1 c ++ w1 pgm)) := fun u =>
    (Kept.refl _ _ u).recordMsOf (fun _ h => h) (fun _ h => h)
  have hcount : (F.DG_ERR_TRUNC n).key ≠ (F.DG_TRUNC_CNT_COUNT n).key := by
    simp only [Fld.key, F.DG_ERR_TRUNC, F.DG_TRUNC_CNT_COUNT]
    omega
  rw [State.truncated, (hlogged _).getb_eq (stvField_notMem (by simp only [F.DG_ERR_TRUNC]; omega) logFlds_low), State.getb_eq, State.incSat_eq,
    State.get_set_other _ _ _ _ hcount, ← State.getb_eq]
  exact State.getb_setb_same Nat.one_pos

theorem dgAbs_truncates (h : Turn s n k e t (.dgAbs c d)) (hd : d.space = 0) (hsliced : t.sliced = false) (hstate : (s.ctx n c).state = 1)
    (hres : (s.ctx n c).res = []) (htrunc : (s.ctx n c).trunc = false) (hb : b = Tab.readBytes (s.stove n).lmem d.addr d.len)
    (habsd : (s.ctx n c).absd ≤ (s.ctx n c).decl) (hover : (s.ctx n c).decl < (s.ctx n c).absd + d.len) :
    Gives (.streamFinish n k e none 0) s (fun u => (u.ctx n c).trunc = true ∧ (u.ctx n c).absd = (s.ctx n c).decl ∧
      (u.ctx n c).msg = (s.ctx n c).msg ++ b.take ((s.ctx n c).decl - (s.ctx n c).absd) ∧ u.getb (F.DG_ERR_TRUNC n) = true ∧
      Ended n k e (256 + ((s.ctx n c).decl - (s.ctx n c).absd) % 2 ^ 32 * 2 ^ 32) u) := by
  have hcut : b.take ((s.ctx n c).decl - (s.ctx n c).absd) = Tab.readBytes (s.stove n).lmem d.addr ((s.ctx n c).decl - (s.ctx n c).absd) := by
    rw [hb, Tab.readBytes_take _ _ _ _ (by omega)]
  generalize hu : (s.withCtx n c ((s.ctx n c).cutOff (b.take ((s.ctx n c).decl - (s.ctx n c).absd)))).inc (F.DG_BYTES_COUNT n)
    (b.take ((s.ctx n c).decl - (s.ctx n c).absd)).length = u
  have hstove : ∀ i, (u.truncated n c (s.pgmOf n k)).stove i = u.stove i := (State.truncated_kept u n c _).stove_eq (by decide)
  have hctx : (u.truncated n c (s.pgmOf n k)).ctx n c = (s.ctx n c).cutOff (b.take ((s.ctx n c).decl - (s.ctx n c).absd)) := by
    rw [State.ctx, hstove, ← State.ctx, ← hu]
    exact (State.ctx_withCtx c).trans (if_pos rfl)
  have hex := exec_dgAbs h hd hsliced ((State.doDgAbs_cutOff hd hres htrunc hcut habsd hover).trans (by rw [hu]))
    (by rw [hctx]; exact fun h3 => absurd (hstate.symm.trans h3) (by decide))
  have hstrand : (u.truncated n c (s.pgmOf n k)).strand n k = s.strand n k := by
    rw [State.strand, hstove, ← State.strand, ← hu]
    exact State.strand_withCtx
  refine ⟨_, hex, ?_, ?_, ?_, State.getb_truncated u n c _, ended_finishTicket h hstrand⟩
  · rw [State.ctx_finishTicket, hctx]; rfl
  · rw [State.ctx_finishTicket, hctx]; rfl
  · rw [State.ctx_finishTicket, hctx]; rfl

/-! ### DG.FIN -/

theorem leBytes_take : ∀ (m n v : Nat), m ≤ n → (leBytes n v).take m = leBytes m v
  | 0, _, _, _ => rfl
  | m + 1, n + 1, v, h => by rw [leBytes, leBytes, List.take_succ_cons, leBytes_take m n (v / 256) (by omega)]

/-- A context whose message is complete with `b`, and its result (R293). -/
def DgCtx.finishes (x : DgCtx) (b : Bytes) : DgCtx :=
  { x.takes b with res := (x.takes b).digest, resNum := (x.resNum + 1) % 256, short := false, state := if x.state == 1 then 2 else x.state }

theorem DgCtx.digest_sha256 {x : DgCtx} (h : x.alg = 0) : x.digest = sha256 x.msg := by simp [DgCtx.digest, h]

theorem State.doDgFin_complete (hres : (s.ctx n c).res = []) (htrunc : (s.ctx n c).trunc = false) (hfull : (s.ctx n c).absd + m = (s.ctx n c).decl) :
    s.doDgFin n k c v m false = (((s.withCtx n c ((s.ctx n c).takes (leBytes m v.toNat))).inc (F.DG_BYTES_COUNT n) m).withCtx n c
      ((s.ctx n c).finishes (leBytes m v.toNat)), (s.ctx n c).decl % 2 ^ 32 * 2 ^ 32) := by
  have hlen := leBytes_length m v.toNat
  have habsorb := State.absorb_fits (b := leBytes m v.toNat) htrunc (by omega)
  rw [hlen] at habsorb
  have hctx : ((s.withCtx n c ((s.ctx n c).takes (leBytes m v.toNat))).inc (F.DG_BYTES_COUNT n) m).ctx n c = (s.ctx n c).takes (leBytes m v.toNat) :=
    (State.ctx_withCtx c).trans (if_pos rfl)
  have habsd : ((s.ctx n c).takes (leBytes m v.toNat)).absd = (s.ctx n c).decl := by rw [DgCtx.takes, hlen, hfull]
  have hdecl : ((s.ctx n c).takes (leBytes m v.toNat)).decl = (s.ctx n c).decl := rfl
  simp only [State.doDgFin, hres, habsorb, State.updCtx_eq, hctx, habsd, hdecl, Nat.lt_irrefl, decide_false, List.isEmpty_nil, Bool.not_true,
    Bool.false_eq_true, if_false, DgCtx.finishes]
  simp [statusWord, b2n, DgCtx.takes]

theorem dgFin_digests (h : Turn s n k e t (.dgFin c v m)) (hsliced : t.sliced = false) (hm : m ≤ 8) (hstate : (s.ctx n c).state = 1)
    (halg : (s.ctx n c).alg = 0) (hres : (s.ctx n c).res = []) (htrunc : (s.ctx n c).trunc = false)
    (hfull : (s.ctx n c).absd + m = (s.ctx n c).decl) :
    Does (.streamFinish n k e none 0) s [.stoves] [F.DG_BYTES_COUNT n] (fun u =>
      (u.ctx n c).res = sha256 ((s.ctx n c).msg ++ (leBytes 8 v.toNat).take m) ∧ (u.ctx n c).state = 2 ∧
      (u.ctx n c).resNum = ((s.ctx n c).resNum + 1) % 256 ∧ Ended n k e ((s.ctx n c).decl % 2 ^ 32 * 2 ^ 32) u) := by
  rw [leBytes_take m 8 v.toNat hm]
  have hfin := State.doDgFin_complete (k := k) (v := v) hres htrunc hfull
  generalize hu : ((s.withCtx n c ((s.ctx n c).takes (leBytes m v.toNat))).inc (F.DG_BYTES_COUNT n) m).withCtx n c
    ((s.ctx n c).finishes (leBytes m v.toNat)) = u at hfin
  have hctx : ∀ st, ((u.finishTicket n k e st).updStrand n k (fun x => x.updTicket e (fun t => { t with fin := some c }))).ctx n c =
      (s.ctx n c).finishes (leBytes m v.toNat) := fun st => by
    rw [State.ctx_updStrand, State.ctx_finishTicket, ← hu]
    exact (State.ctx_withCtx c).trans (if_pos rfl)
  have hstate2 : ((s.ctx n c).finishes (leBytes m v.toNat)).state = 2 := by rw [DgCtx.finishes, hstate]; rfl
  have hex : exec (.streamFinish n k e none 0) s = .next ((u.finishTicket n k e ((s.ctx n c).decl % 2 ^ 32 * 2 ^ 32)).updStrand n k
      (fun x => x.updTicket e (fun t => { t with fin := some c }))) := by
    rw [exec_streamFinish h rfl rfl rfl]
    refine congrArg Host.Outcome.next ?_
    simp only [State.finishJob, hsliced, hfin]
    exact State.freeCtx_idle (by rw [hctx, hstate2]; decide)
  have hkept : Kept [.stoves] [F.DG_BYTES_COUNT n] s u :=
    hu ▸ (((Kept.refl _ _ s).withCtx (by simp)).inc (by simp)).withCtx (by simp)
  have hstrand : u.strand n k = s.strand n k := hu ▸ State.strand_withCtx.trans State.strand_withCtx
  obtain ⟨hjob, hstatus⟩ := ended_finishTicket (st := (s.ctx n c).decl % 2 ^ 32 * 2 ^ 32) h hstrand
  refine ⟨_, hex, ⟨?_, ?_, ?_, ?_⟩, (hkept.finishTicket (by simp)).updStrand (by simp) n k _⟩
  · rw [hctx]
    exact DgCtx.digest_sha256 (x := (s.ctx n c).takes (leBytes m v.toNat)) halg
  · rw [hctx, hstate2]
  · rw [hctx]
    rfl
  · rw [Ended, State.strand_updStrand, Strand.ticket_updTicket]
    exact ⟨hjob, hstatus⟩

/-! ### DG.CMP -/

/-- The verdict byte of a comparison that found its strings equal, or not (R298). -/
def verdictByte (hit : Bool) : Nat := if hit then 0x3C else 0xC3

/-- A context with the verdict pair of a comparison. -/
def DgCtx.judges (x : DgCtx) (hit : Bool) : DgCtx := { x with vb := verdictByte hit, vbn := 0xFF - verdictByte hit }

/-- The reference in local memory equals the first bytes of the context's result. -/
def State.matchesRef (s : State) (n c : Nat) (d : Desc) : Bool := (s.ctx n c).res.take d.len == Tab.readBytes (s.stove n).lmem d.addr d.len

theorem State.doDgCmp_finished (hd : d.space = 0) (hres : (s.ctx n c).res ≠ []) :
    s.doDgCmp n k c d none = (s.withCtx n c ((s.ctx n c).judges (s.matchesRef n c d)),
      verdictByte (s.matchesRef n c d) % 256 * 256 + d.len % 2 ^ 32 * 2 ^ 32) := by
  have hfin : (s.ctx n c).res.isEmpty = false := by simpa using hres
  simp only [State.doDgCmp, State.readSrc_local hd, hfin, State.updCtx_eq, statusWord, Bool.not_false, Bool.true_and, bne_self_eq_false,
    Bool.false_eq_true, if_false, if_true, Nat.zero_add, State.matchesRef]
  rfl

theorem dgCmp_compares {hit : Bool} (h : Turn s n k e t (.dgCmp c d)) (hd : d.space = 0) (hstate : (s.ctx n c).state = 2)
    (hres : (s.ctx n c).res ≠ []) (hhit : s.matchesRef n c d = hit) :
    Does (.streamFinish n k e none 0) s [.stoves] [] (fun u => (u.ctx n c).vb = verdictByte hit ∧ (u.ctx n c).vbn = 0xFF - verdictByte hit ∧
      Ended n k e (verdictByte hit % 256 * 256 + d.len % 2 ^ 32 * 2 ^ 32) u) := by
  have hdone := State.doDgCmp_finished (n := n) (k := k) hd hres
  rw [hhit] at hdone
  generalize hu : s.withCtx n c ((s.ctx n c).judges hit) = u at hdone
  have hctx : u.ctx n c = (s.ctx n c).judges hit := hu ▸ (State.ctx_withCtx c).trans (if_pos rfl)
  have hex : exec (.streamFinish n k e none 0) s =
      .next (u.finishTicket n k e (verdictByte hit % 256 * 256 + d.len % 2 ^ 32 * 2 ^ 32)) := by
    rw [exec_streamFinish h rfl (Desc.ddr_local hd _) rfl]
    refine congrArg Host.Outcome.next ?_
    simp only [State.finishJob, hdone]
    exact State.freeCtx_idle (by rw [State.ctx_finishTicket, hctx]; exact fun h3 => absurd (hstate.symm.trans h3) (by decide))
  have hkept : Kept [.stoves] [] s u := hu ▸ (Kept.refl _ _ s).withCtx (by simp)
  refine ⟨_, hex, ⟨?_, ?_, ended_finishTicket h (hu ▸ State.strand_withCtx)⟩, hkept.finishTicket (by simp)⟩
  · rw [State.ctx_finishTicket, hctx, DgCtx.judges]
  · rw [State.ctx_finishTicket, hctx, DgCtx.judges]

/-- Settles O20: data movement by the bytes each job leaves and its status, digest jobs by the context they leave. -/
theorem streamsEnd : Obligations.StreamsEnd := by
  unfold Obligations.StreamsEnd
  exact ⟨⟨fun s n k e t d v h hd => fill_ends h hd, fun s n k e m t d x h hd hx hm hap => cpy_ends h hd hx hm hap,
      fun s n k e t x y h hx hy => ⟨fun heq hlen => cmp_ends h hx hy (State.doCmp_equal hx hy hlen heq),
        fun i hix hiy hne heq => cmp_ends h hx hy (State.doCmp_differ hx hy hix hiy hne heq)⟩⟩,
    fun s n k e c t d b h hd hsliced hstate hres htrunc hb =>
      ⟨fun hroom => dgAbs_absorbs h hd hsliced hstate hres htrunc hb hroom,
        fun habsd hover => dgAbs_truncates h hd hsliced hstate hres htrunc hb habsd hover⟩,
    fun s n k e c m t v h hsliced hm hstate halg hres htrunc hfull => dgFin_digests h hsliced hm hstate halg hres htrunc hfull,
    fun s n k e c t d h hd hstate hres _ => ⟨fun heq => dgCmp_compares h hd hstate hres (beq_iff_eq.mpr heq),
      fun hne => dgCmp_compares h hd hstate hres (beq_eq_false_iff_ne.mpr hne)⟩⟩

end Sys2Proof.Machine
end

section
/-! The instruction words of a Stove, and its instructions on general registers (R177, R190). -/

namespace Sys2Proof.Machine

variable {s : State} {n k opc : Nat} {f : InsW}

/-! ### Instruction words (R177) -/

theorem toNat_append_eq {v w : Nat} (x : BitVec v) (y : BitVec w) : (x ++ y).toNat = x.toNat * 2 ^ w + y.toNat := by
  rw [BitVec.toNat_append, Nat.shiftLeft_eq, Nat.mul_comm, Nat.two_pow_add_eq_or_of_lt y.isLt]

theorem insWord_toNat (opc : Nat) (f : InsW) : (insWord opc f).toNat =
    ((((opc % 256 * 32 + f.a.toNat) * 32 + f.b.toNat) * 32 + f.c.toNat) * 512 + f.x.toNat) * 4294967296 + f.imm.toNat := by
  simp only [insWord, toNat_append_eq, BitVec.toNat_ofNat]
  norm_num

theorem insOpc_insWord (h : opc < 256) (f : InsW) : insOpc (insWord opc f) = opc := by
  rw [insOpc, BitVec.extractLsb'_toNat, insWord_toNat, Nat.shiftRight_eq_div_pow]
  have ha := f.a.isLt
  have hb := f.b.isLt
  have hc := f.c.isLt
  have hx := f.x.isLt
  have himm := f.imm.isLt
  omega

theorem insOf_insWord (opc : Nat) (f : InsW) : insOf (insWord opc f) = f := by
  obtain ⟨a, b, c, x, imm⟩ := f
  have ha := a.isLt
  have hb := b.isLt
  have hc := c.isLt
  have hx := x.isLt
  have himm := imm.isLt
  have hfield : ∀ (w lo : Nat) (y : BitVec w), (insWord opc ⟨a, b, c, x, imm⟩).toNat / 2 ^ lo % 2 ^ w = y.toNat →
      (insWord opc ⟨a, b, c, x, imm⟩).extractLsb' lo w = y := fun w lo y h =>
    BitVec.eq_of_toNat_eq (by rw [BitVec.extractLsb'_toNat, Nat.shiftRight_eq_div_pow, h])
  simp only [insOf, InsW.mk.injEq]
  refine ⟨hfield 5 51 a ?_, hfield 5 46 b ?_, hfield 5 41 c ?_, hfield 9 32 x ?_, hfield 32 0 imm ?_⟩ <;> (rw [insWord_toNat]; dsimp only; omega)

/-! ### A register operation writes its value and goes on -/

theorem writesA_alu {c : Nat → Nat → InsW → Instr} {op : W64 → W64 → W64} {val : Strand → InsW → W64 → Prop}
    (hex : ∀ s n k f, exec (c n k f) s = s.alu n k opc f op) (hval : ∀ x f, val x f (op (x.reg f.b) (x.reg f.c))) : WritesA opc c legalG val :=
  fun s n k f h => (does_write h rfl rfl (hex s n k f)).imp fun _ ⟨hwrote, hkept⟩ => ⟨_, hval _ f, hwrote, hkept⟩

theorem writesA_alu1 {c : Nat → Nat → InsW → Instr} {op : W64 → W64} {val : Strand → InsW → W64 → Prop}
    (hex : ∀ s n k f, exec (c n k f) s = s.alu1 n k opc f op) (hval : ∀ x f, val x f (op (x.reg f.b))) :
    WritesA opc c (fun f => legalG f && f.c == 0) val :=
  fun s n k f h => (does_write h rfl rfl (hex s n k f)).imp fun _ ⟨hwrote, hkept⟩ => ⟨_, hval _ f, hwrote, hkept⟩

theorem writesA_alui {c : Nat → Nat → InsW → Instr} {ok legal : InsW → Bool} {op : InsW → W64 → W64}
    {val : Strand → InsW → W64 → Prop} (hex : ∀ s n k f, exec (c n k f) s = s.alui n k opc f (ok f) (op f))
    (hlegal : ∀ f, legal f = (legalI f && ok f)) (hval : ∀ x f, legal f = true → val x f (op f (x.reg f.b))) : WritesA opc c legal val := by
  intro s n k f h
  have hl : legal f = true := (State.issues_iff.mp h).2.1
  rw [hlegal] at h
  exact (does_write h rfl rfl (hex s n k f)).imp fun _ ⟨hwrote, hkept⟩ => ⟨_, hval _ f hl, hwrote, hkept⟩

/-- An immediate operation that takes any immediate. -/
theorem writesA_imm {c : Nat → Nat → InsW → Instr} {op : InsW → W64 → W64} {val : Strand → InsW → W64 → Prop}
    (hex : ∀ s n k f, exec (c n k f) s = s.alui n k opc f true (op f)) (hval : ∀ x f, val x f (op f (x.reg f.b))) : WritesA opc c legalI val :=
  writesA_alui (ok := fun _ => true) hex (fun _ => (Bool.and_true _).symm) fun x f _ => hval x f

/-! ### The values (R190) -/

theorem toNat_shiftRight_div (v : W64) (i : Nat) : (v >>> i).toNat = v.toNat / 2 ^ i := by
  rw [BitVec.toNat_ushiftRight, Nat.shiftRight_eq_div_pow]

theorem toInt_sshiftRight_div (v : W64) (i : Nat) : (v.sshiftRight i).toInt = v.toInt / 2 ^ i := by
  rw [BitVec.toInt_sshiftRight, Int.shiftRight_eq_div_pow]
  norm_cast

theorem flag64_decide (p : Prop) [Decidable p] : flag64 (decide p) = if p then 1 else 0 := by simp [flag64]

theorem toInt_sx (f : InsW) : f.sx.toInt = f.imm.toInt := BitVec.toInt_signExtend_of_le (by decide)

theorem toNat_mulhu (a b : W64) : (BitVec.ofNat 64 (a.toNat * b.toNat / 2 ^ 64)).toNat = a.toNat * b.toNat / 2 ^ 64 := by
  rw [BitVec.toNat_ofNat]
  exact Nat.mod_eq_of_lt (Nat.div_lt_of_lt_mul (Nat.mul_lt_mul'' a.isLt b.isLt))

theorem clz64_spec {v : W64} (h : v ≠ 0) :
    (clz64 v).toNat < 64 ∧ 2 ^ (63 - (clz64 v).toNat) ≤ v.toNat ∧ v.toNat < 2 ^ (64 - (clz64 v).toNat) := by
  have hne : v.toNat ≠ 0 := fun hz => h (BitVec.eq_of_toNat_eq hz)
  have hlog : v.toNat.log2 < 64 := (Nat.log2_lt hne).mpr v.isLt
  have hclz : (clz64 v).toNat = 63 - v.toNat.log2 := by
    rw [clz64, if_neg h, BitVec.toNat_ofNat]
    omega
  rw [hclz, show 63 - (63 - v.toNat.log2) = v.toNat.log2 by omega, show 64 - (63 - v.toNat.log2) = v.toNat.log2 + 1 by omega]
  exact ⟨by omega, Nat.log2_self_le hne, Nat.lt_log2_self⟩

theorem toNat_popc64 (v : W64) : (popc64 v).toNat = (List.range 64).countP (fun i => v.getLsbD i) := by
  have hle : (List.range 64).countP (fun i => v.getLsbD i) ≤ 64 := List.countP_le_length
  rw [popc64, BitVec.toNat_ofNat]
  omega

theorem leNat_lt : ∀ b : Bytes, leNat b < 256 ^ b.length
  | [] => Nat.one_pos
  | v :: b => by
    have hv := v.isLt
    have hb := leNat_lt b
    rw [leNat, List.length_cons, Nat.pow_succ]
    omega

theorem leBytes_leNat : ∀ b : Bytes, leBytes b.length (leNat b) = b
  | [] => rfl
  | v :: b => by
    have hv := v.isLt
    have hfirst : BitVec.ofNat 8 (v.toNat + 256 * leNat b) = v := BitVec.eq_of_toNat_eq (by rw [BitVec.toNat_ofNat]; omega)
    have hrest : (v.toNat + 256 * leNat b) / 256 = leNat b := by omega
    rw [leNat, List.length_cons, leBytes, hfirst, hrest, leBytes_leNat b]

theorem leBytes_bswap64 (v : W64) : leBytes 8 (bswap64 v).toNat = (leBytes 8 v.toNat).reverse := by
  have hlen : (leBytes 8 v.toNat).reverse.length = 8 := by rw [List.length_reverse, leBytes_length]
  have hlt : leNat (leBytes 8 v.toNat).reverse < 2 ^ 64 := by simpa [hlen] using leNat_lt (leBytes 8 v.toNat).reverse
  rw [bswap64, beNat, BitVec.toNat_ofNat, Nat.mod_eq_of_lt hlt]
  exact (congrArg (leBytes · _) hlen.symm).trans (leBytes_leNat _)

theorem toNat_lih (v : W64) (f : InsW) : ((v &&& 0xFFFFFFFF) ||| (f.zx <<< 32)).toNat = f.imm.toNat * 2 ^ 32 + v.toNat % 2 ^ 32 := by
  have himm := f.imm.isLt
  have hzx : (f.zx <<< 32).toNat = 2 ^ 32 * f.imm.toNat := by
    rw [InsW.zx, BitVec.toNat_shiftLeft, BitVec.toNat_setWidth, Nat.shiftLeft_eq]
    omega
  have hlow : v.toNat &&& (0xFFFFFFFF : W64).toNat = v.toNat % 2 ^ 32 := Nat.and_two_pow_sub_one_eq_mod v.toNat 32
  rw [BitVec.toNat_or, hzx, BitVec.toNat_and]
  exact (congrArg (· ||| _) hlow).trans (by
    rw [Nat.or_comm, ← Nat.two_pow_add_eq_or_of_lt (Nat.mod_lt _ (by decide)), Nat.mul_comm])

/-! ### The instructions -/

/-- A shift by more than 63 is ILLEGAL. -/
theorem alui_illegal {c : Instr} {op : W64 → W64} (hex : exec c s = s.alui n k opc f f.shOk op) (himm : 64 ≤ f.imm.toNat) (hn : n < 16)
    (hf : s.fetches n k opc f = true) : Gives c s (Faulted n k 1 s) := by
  refine gives_illegal hn hf ?_ hex
  rw [InsW.shOk, decide_eq_false (by omega), Bool.and_false]

/-- Settles O12: instruction words by their fields; each operation by the value it writes. -/
theorem stoveArithmetic : Obligations.StoveArithmetic := by
  unfold Obligations.StoveArithmetic
  refine ⟨fun opc f h => ⟨insOpc_insWord h f, insOf_insWord opc f⟩, ⟨?_, ?_, ?_, ?_, ?_, ?_, ?_, ?_, ?_, ?_, ?_, ?_⟩, ⟨?_, ?_, ?_⟩,
    ?_, ?_, ?_, ?_, ?_, ?_, ?_, ?_, ?_, ?_, fun s n k f himm hn => ⟨
      alui_illegal (op := fun a => a <<< f.imm.toNat) rfl himm hn, alui_illegal (op := fun a => a >>> f.imm.toNat) rfl himm hn,
      alui_illegal (op := fun a => a.sshiftRight f.imm.toNat) rfl himm hn⟩⟩
  · exact writesA_alu (op := fun a b => a + b) (fun _ _ _ _ => rfl) fun _ _ => rfl
  · exact writesA_alu (op := fun a b => a - b) (fun _ _ _ _ => rfl) fun _ _ => rfl
  · exact writesA_alu (op := fun a b => a &&& b) (fun _ _ _ _ => rfl) fun _ _ => rfl
  · exact writesA_alu (op := fun a b => a ||| b) (fun _ _ _ _ => rfl) fun _ _ => rfl
  · exact writesA_alu (op := fun a b => a ^^^ b) (fun _ _ _ _ => rfl) fun _ _ => rfl
  · exact writesA_alu (op := fun a b => a <<< (b.toNat % 64)) (fun _ _ _ _ => rfl) fun _ _ => rfl
  · exact writesA_alu (op := fun a b => a >>> (b.toNat % 64)) (fun _ _ _ _ => rfl) fun _ _ => toNat_shiftRight_div _ _
  · exact writesA_alu (op := fun a b => a.sshiftRight (b.toNat % 64)) (fun _ _ _ _ => rfl) fun _ _ => toInt_sshiftRight_div _ _
  · exact writesA_alu (op := fun a b => flag64 (a.slt b)) (fun _ _ _ _ => rfl) fun _ _ => flag64_decide _
  · exact writesA_alu (op := fun a b => flag64 (a.ult b)) (fun _ _ _ _ => rfl) fun _ _ => flag64_decide _
  · exact writesA_alu (op := fun a b => a * b) (fun _ _ _ _ => rfl) fun _ _ => BitVec.toNat_mul _ _
  · exact writesA_alu (op := fun a b => BitVec.ofNat 64 (a.toNat * b.toNat / 2 ^ 64)) (fun _ _ _ _ => rfl) fun _ _ => toNat_mulhu _ _
  · exact writesA_alu1 (op := clz64) (fun _ _ _ _ => rfl) fun _ _ => ⟨fun hz => if_pos hz, clz64_spec⟩
  · exact writesA_alu1 (op := popc64) (fun _ _ _ _ => rfl) fun _ _ => toNat_popc64 _
  · exact writesA_alu1 (op := bswap64) (fun _ _ _ _ => rfl) fun _ _ => leBytes_bswap64 _
  · exact writesA_imm (op := fun f a => a + f.sx) (fun _ _ _ _ => rfl) fun _ _ => rfl
  · exact writesA_imm (op := fun f a => a &&& f.zx) (fun _ _ _ _ => rfl) fun _ _ => rfl
  · exact writesA_imm (op := fun f a => a ||| f.zx) (fun _ _ _ _ => rfl) fun _ _ => rfl
  · exact writesA_imm (op := fun f a => a ^^^ f.zx) (fun _ _ _ _ => rfl) fun _ _ => rfl
  · exact writesA_alui (ok := InsW.shOk) (op := fun f a => a <<< f.imm.toNat) (fun _ _ _ _ => rfl) (fun _ => rfl) fun _ _ _ => rfl
  · exact writesA_alui (ok := InsW.shOk) (op := fun f a => a >>> f.imm.toNat) (fun _ _ _ _ => rfl) (fun _ => rfl)
      fun _ _ _ => toNat_shiftRight_div _ _
  · exact writesA_alui (ok := InsW.shOk) (op := fun f a => a.sshiftRight f.imm.toNat) (fun _ _ _ _ => rfl) (fun _ => rfl)
      fun _ _ _ => toInt_sshiftRight_div _ _
  · refine writesA_imm (op := fun f a => flag64 (a.slt f.sx)) (fun _ _ _ _ => rfl) fun _ f => ?_
    rw [← toInt_sx f]
    exact flag64_decide _
  · exact writesA_imm (op := fun f a => flag64 (a.ult f.sx)) (fun _ _ _ _ => rfl) fun _ _ => flag64_decide _
  · exact writesA_imm (op := fun f a => (a &&& 0xFFFFFFFF) ||| (f.zx <<< 32)) (fun _ _ _ _ => rfl) fun _ _ => toNat_lih _ _

end Sys2Proof.Machine
end

section
/-! Loads, stores, atomics and descriptors of a Stove's local memory (R175, R191-R193). -/

namespace Sys2Proof.Tab

theorem readBytes_drop (t : Tab Byte) : ∀ m n a, m ≤ n → (readBytes t a n).drop m = readBytes t (a + m) (n - m)
  | 0, _, _, _ => by rw [List.drop_zero, Nat.add_zero, Nat.sub_zero]
  | m + 1, n + 1, a, h => by
    rw [readBytes, List.drop_succ_cons, readBytes_drop t m n (a + 1) (by omega), Nat.add_sub_add_right, Nat.add_assoc, Nat.add_comm 1 m]

end Sys2Proof.Tab

namespace Sys2Proof.Machine

variable {s t : State} {n k m opc pc ea sz : Nat} {f : InsW} {c : Instr} {legal : Bool} {next : Strand → Nat} {eff : State → Strand → Effect}
  {a : BitVec 5} {v : W64} {lm : Tab Byte} {d : Desc}

/-! ### Bytes of local memory -/

theorem leAt_readBytes (t : Tab Byte) {b o m n : Nat} (h : o + m ≤ n) : leAt (Tab.readBytes t b n) o m = leNat (Tab.readBytes t (b + o) m) := by
  have hcut : ((Tab.readBytes t b n).drop o).take m = Tab.readBytes t (b + o) m := by
    rw [Tab.readBytes_drop _ _ _ _ (by omega), Tab.readBytes_take _ _ _ _ (by omega)]
  rw [leAt, slice, hcut, Tab.readBytes_length, Nat.sub_self]
  exact congrArg leNat (List.append_nil _)

theorem leNat_readBytes_one (t : Tab Byte) (b : Nat) : leNat (Tab.readBytes t b 1) = (Tab.getB t b).toNat := Nat.add_zero _

theorem leNat_readBytes_lt (t : Tab Byte) (b len : Nat) : leNat (Tab.readBytes t b len) < 256 ^ len := by
  simpa [Tab.readBytes_length] using leNat_lt (Tab.readBytes t b len)

theorem toNat_readWord (t : Tab Byte) (b : Nat) : (BitVec.ofNat 64 (leNat (Tab.readBytes t b 8))).toNat = leNat (Tab.readBytes t b 8) := by
  rw [BitVec.toNat_ofNat]
  exact Nat.mod_eq_of_lt (leNat_readBytes_lt t b 8)

theorem readBytes_stored (t : Tab Byte) (b len w : Nat) :
    Tab.readBytes (Tab.writeBytes t b (leBytes len w)) b len = leBytes len w := by
  have h := Tab.readBytes_writeBytes t b (leBytes len w)
  rwa [leBytes_length] at h

theorem getB_stored_outside (t : Tab Byte) {b len w i : Nat} (h : i < b ∨ b + len ≤ i) :
    Tab.getB (Tab.writeBytes t b (leBytes len w)) i = Tab.getB t i :=
  Tab.getB_writeBytes_outside _ _ _ _ (by rwa [leBytes_length])

theorem State.stove_withLmem : (s.withLmem n lm).stove n = { s.stove n with lmem := lm } := State.stove_updStove n _

theorem State.lmem_turned : ((s.turned n k).stove n).lmem = (s.stove n).lmem := by rw [State.stove_turned]

theorem State.lmRead_turned (b len : Nat) : (s.turned n k).lmRead n b len = leNat (Tab.readBytes (s.stove n).lmem b len) := by
  rw [State.lmRead, State.lmem_turned]

theorem State.lmBytes_turned (b len : Nat) : (s.turned n k).lmBytes n b len = Tab.readBytes (s.stove n).lmem b len := by
  rw [State.lmBytes, State.lmem_turned]

theorem State.lmWrite_turned (i : Nat) (b : Bytes) :
    (s.turned n k).lmWrite n i b = (s.turned n k).withLmem n (Tab.writeBytes (s.stove n).lmem i b) := by
  rw [← State.lmem_turned (k := k)]
  rfl

/-! ### An instruction changes local memory and goes on -/

theorem StoveKept.withLmem (s : State) (n k : Nat) (lm : Tab Byte) :
    StoveKept n k (fun v => { v with lmem := lm }) s ((s.turned n k).withLmem n lm) := by
  obtain ⟨hother, hstrand, hown⟩ := StoveKept.turned s n k
  refine ⟨fun m hm => (State.stove_updStove_other hm _).trans (hother m hm), fun j hj => (State.strand_updStove rfl).trans (hstrand j hj), ?_⟩
  rw [State.stove_withLmem]
  exact congrArg (fun w : Stove => { w with lmem := lm }) hown

theorem State.withLmem_kept : Kept [.stoves] [] s ((s.turned n k).withLmem n lm) := (s.turned_kept n k).updStove (by simp) n _

theorem State.strand_turned_withLmem : ((s.turned n k).withLmem n lm).strand n k = s.strand n k :=
  (State.strand_updStove rfl).trans State.strand_turned

/-- The strand stores into local memory and goes on, and nothing else changes. -/
theorem does_store (h : s.issues n k opc f legal pc = true) (he : eff (s.turned n k) (s.strand n k) = .ok ((s.turned n k).withLmem n lm))
    (hnext : next (s.strand n k) = pc) (hex : exec c s = .next (s.issue n k opc f legal none next eff)) :
    Does c s [.stoves] [] (fun t => Moved n k pc s t ∧ StoveKept n k (fun v => { v with lmem := (t.stove n).lmem }) s t ∧
      (t.stove n).lmem = lm) := by
  have hlm : ∀ g, (((s.turned n k).withLmem n lm).updStrand n k g).stove n =
      { ((s.turned n k).withLmem n lm).stove n with strands := Tab.upd (((s.turned n k).withLmem n lm).stove n).strands k {} g } :=
    fun g => State.stove_updStrand g
  refine ⟨_, hex.trans (congrArg _ (State.issue_goesOn h he hnext)), ⟨?_, ?_, ?_⟩, State.withLmem_kept.updStrand (by simp) n k _⟩
  · rw [Moved, State.strand_updStrand, State.strand_turned_withLmem]
  · rw [hlm, State.stove_withLmem]
    exact (StoveKept.withLmem s n k lm).updStrand _
  · rw [hlm, State.stove_withLmem]

/-- The strand stores into local memory, writes register `a` and goes on, and nothing else changes. -/
theorem does_storeWrite (h : s.issues n k opc f legal pc = true)
    (he : eff (s.turned n k) (s.strand n k) = .ok (((s.turned n k).withLmem n lm).setG n k a v))
    (hnext : next (s.strand n k) = pc) (hex : exec c s = .next (s.issue n k opc f legal none next eff)) :
    Does c s [.stoves] [] (fun t => WroteG n k a v pc s t ∧ StoveKept n k (fun v => { v with lmem := (t.stove n).lmem }) s t ∧
      (t.stove n).lmem = lm) := by
  have hlm : ∀ g, ((((s.turned n k).withLmem n lm).setG n k a v).updStrand n k g).stove n = { ((s.turned n k).withLmem n lm).stove n with
      strands := ((((s.turned n k).withLmem n lm).setG n k a v).updStrand n k g |>.stove n).strands } :=
    fun g => by rw [State.stove_updStrand, State.setG, State.stove_updStrand]
  refine ⟨_, hex.trans (congrArg _ (State.issue_goesOn h he hnext)), ⟨?_, ?_, ?_⟩,
    (State.withLmem_kept.updStrand (by simp) n k _).updStrand (by simp) n k _⟩
  · rw [WroteG, State.strand_updStrand, State.setG, State.strand_updStrand, State.strand_turned_withLmem]
    refine ⟨fun i => Strand.reg_setReg _ a i v, ?_⟩
    rw [Strand.setReg_rest]
  · rw [hlm, State.stove_withLmem]
    exact ((StoveKept.withLmem s n k lm).updStrand _).updStrand _
  · rw [hlm, State.stove_withLmem]

/-- Local memory is left too. -/
theorem StoveKept.lmem_eq (h : StoveKept n k id s t) : (t.stove n).lmem = (s.stove n).lmem := by
  have hown := congrArg Stove.lmem h.2.2
  exact hown

theorem StoveKept.ofLmem (h : StoveKept n k id s t) : StoveKept n k (fun v => { v with lmem := (t.stove n).lmem }) s t := by
  rw [h.lmem_eq]
  exact h

/-! ### Loads and stores (R191) -/

theorem toNat_extend_false {len w : Nat} (h : w < 2 ^ 64) : (extend false len w).toNat = w := by
  rw [extend, Bool.false_and, if_neg Bool.false_ne_true, BitVec.toNat_ofNat, Nat.mod_eq_of_lt h]

theorem toInt_extend_true {w : Nat} (hsz : sz = 1 ∨ sz = 2 ∨ sz = 4) (h : w < 256 ^ sz) :
    (extend true sz w).toInt = (BitVec.ofNat (8 * sz) w).toInt := by
  rcases hsz with rfl | rfl | rfl <;>
  · simp only [extend, BitVec.toInt_eq_toNat_cond, Bool.true_and, decide_eq_true_eq]
    split <;> simp only [BitVec.toNat_ofNat] <;> omega

theorem ld_legal (f : InsW) : (f.c == 0 && f.x.toNat < 8 && f.x.toNat != 7) = (f.c == 0 && f.x.toNat < 7) := by
  rw [Bool.and_assoc]
  refine congrArg _ (Bool.eq_iff_iff.mpr ?_)
  simp only [Bool.and_eq_true, decide_eq_true_eq, bne_iff_ne]
  omega

theorem ld_loads (h : s.issues n k 0x30 f (f.c == 0 && f.x.toNat < 7) ((s.strand n k).pc + 1) = true)
    (hsz : sz = 2 ^ (f.x.toNat % 4)) (hea : ea = ((s.strand n k).reg f.b + f.imm.signExtend 64).toNat / sz * sz) (hin : ea < 0x100000) :
    Does (.ld n k f) s [.stoves] [] (fun t =>
      ∃ v : W64, (f.x.toNat < 4 → v.toNat = leNat (Tab.readBytes (s.stove n).lmem ea sz)) ∧
        (4 ≤ f.x.toNat → v.toInt = (BitVec.ofNat (8 * sz) (leNat (Tab.readBytes (s.stove n).lmem ea sz))).toInt) ∧
        WroteG n k f.a v ((s.strand n k).pc + 1) s t ∧ StoveKept n k id s t) := by
  have hlt := leNat_readBytes_lt (s.stove n).lmem ea sz
  have hx : f.x.toNat < 7 := of_decide_eq_true (Bool.and_eq_true_iff.mp (State.issues_iff.mp h).2.1).2
  rw [← ld_legal] at h
  have hread := does_write (c := .ld n k f) (a := f.a) (v := extend (bit f.x.toNat 2) sz (leNat (Tab.readBytes (s.stove n).lmem ea sz)))
    h ?_ rfl rfl
  · refine hread.imp fun t ⟨hwrote, hkept⟩ => ⟨_, fun h4 => ?_, fun h4 => ?_, hwrote, hkept⟩
    · have hbit : bit f.x.toNat 2 = false := Nat.testBit_lt_two_pow (by omega)
      have hsz8 : sz ≤ 8 := hsz ▸ Nat.pow_le_pow_right (n := 2) (by decide) (show f.x.toNat % 4 ≤ 3 by omega)
      rw [hbit]
      exact toNat_extend_false (Nat.lt_of_lt_of_le hlt (Nat.pow_le_pow_right (n := 256) (by decide) hsz8))
    · have hbit : bit f.x.toNat 2 = true := by
        rw [bit, Nat.testBit_eq_decide_div_mod_eq]
        exact decide_eq_true (by omega)
      rw [hbit]
      refine toInt_extend_true ?_ hlt
      obtain h0 | h1 | h2 : f.x.toNat % 4 = 0 ∨ f.x.toNat % 4 = 1 ∨ f.x.toNat % 4 = 2 := by omega
      · exact .inl (hsz.trans (congrArg (2 ^ ·) h0))
      · exact .inr (.inl (hsz.trans (congrArg (2 ^ ·) h1)))
      · exact .inr (.inr (hsz.trans (congrArg (2 ^ ·) h2)))
  · have hea' : alignEa ((s.strand n k).reg f.b + f.sx) sz = ea := hea.symm
    simp only [InsW.size, ← hsz, hea', State.lmRead_turned]
    exact if_neg (by omega)

theorem st_stores (h : s.issues n k 0x31 f (f.c == 0 && f.x.toNat < 4) ((s.strand n k).pc + 1) = true)
    (hsz : sz = 2 ^ (f.x.toNat % 4)) (hea : ea = ((s.strand n k).reg f.b + f.imm.signExtend 64).toNat / sz * sz) (hin : ea < 0x100000) :
    Does (.st n k f) s [.stoves] [] (fun t =>
      Moved n k ((s.strand n k).pc + 1) s t ∧ StoveKept n k (fun v => { v with lmem := (t.stove n).lmem }) s t ∧
      Tab.readBytes (t.stove n).lmem ea sz = leBytes sz ((s.strand n k).reg f.a).toNat ∧
      ∀ a, a < ea ∨ ea + sz ≤ a → Tab.getB (t.stove n).lmem a = Tab.getB (s.stove n).lmem a) := by
  have hstore := does_store (c := .st n k f) (lm := Tab.writeBytes (s.stove n).lmem ea (leBytes sz ((s.strand n k).reg f.a).toNat)) h ?_ rfl rfl
  · refine hstore.imp fun t ⟨hmoved, hkept, hlm⟩ => ⟨hmoved, hkept, ?_, fun i hi => ?_⟩
    · rw [hlm, readBytes_stored]
    · rw [hlm, getB_stored_outside _ hi]
  · have hea' : alignEa ((s.strand n k).reg f.b + f.sx) sz = ea := hea.symm
    simp only [InsW.size, ← hsz, hea', State.lmWrite_turned]
    exact if_neg (by omega)

/-- An aligned address past the end of local memory is past it. -/
theorem alignEa_past (h : 0x100000 ≤ v.toNat) (i : Nat) (hi : i < 4) : alignEa v (2 ^ i) > 0xFFFFF := by
  rw [alignEa]
  obtain rfl | rfl | rfl | rfl : i = 0 ∨ i = 1 ∨ i = 2 ∨ i = 3 := by omega
  all_goals omega

theorem ld_past (hl : (f.c == 0 && f.x.toNat < 4) = true) (hn : n < 16) (hea : 0x100000 ≤ ((s.strand n k).reg f.b + f.imm.signExtend 64).toNat)
    (hf : s.fetches n k 0x30 f = true) : Gives (.ld n k f) s (Faulted n k 2 s) := by
  obtain ⟨hc, hx⟩ := Bool.and_eq_true_iff.mp hl
  have hx4 : f.x.toNat < 4 := of_decide_eq_true hx
  refine gives_error (legal := f.c == 0 && f.x.toNat < 8 && f.x.toNat != 7) hn hf ?_ (if_pos (alignEa_past hea _ (Nat.mod_lt _ (by decide)))) rfl
  rw [ld_legal, hc, decide_eq_true (by omega : f.x.toNat < 7), Bool.and_self]

theorem st_past (hl : (f.c == 0 && f.x.toNat < 4) = true) (hn : n < 16) (hea : 0x100000 ≤ ((s.strand n k).reg f.b + f.imm.signExtend 64).toNat)
    (hf : s.fetches n k 0x31 f = true) : Gives (.st n k f) s (Faulted n k 2 s) :=
  gives_error hn hf hl (if_pos (alignEa_past hea _ (Nat.mod_lt _ (by decide)))) rfl

/-! ### Atomics (R192) -/

theorem amoadd_adds (h : s.issues n k 0x32 f (legalG f) ((s.strand n k).pc + 1) = true)
    (hea : ea = ((s.strand n k).reg f.b).toNat / 8 * 8) (hin : ea < 0x100000) :
    Does (.amoadd n k f) s [.stoves] [] (fun t =>
      WroteG n k f.a (BitVec.ofNat 64 (leNat (Tab.readBytes (s.stove n).lmem ea 8))) ((s.strand n k).pc + 1) s t ∧
      StoveKept n k (fun v => { v with lmem := (t.stove n).lmem }) s t ∧
      leNat (Tab.readBytes (t.stove n).lmem ea 8) = (leNat (Tab.readBytes (s.stove n).lmem ea 8) + ((s.strand n k).reg f.c).toNat) % 2 ^ 64 ∧
      ∀ a, a < ea ∨ ea + 8 ≤ a → Tab.getB (t.stove n).lmem a = Tab.getB (s.stove n).lmem a) := by
  have hstore := does_storeWrite (c := .amoadd n k f) (a := f.a) (v := BitVec.ofNat 64 (leNat (Tab.readBytes (s.stove n).lmem ea 8)))
    (lm := Tab.writeBytes (s.stove n).lmem ea (leBytes 8 (BitVec.ofNat 64 (leNat (Tab.readBytes (s.stove n).lmem ea 8)) +
      (s.strand n k).reg f.c).toNat)) h ?_ rfl rfl
  · refine hstore.imp fun t ⟨hwrote, hkept, hlm⟩ => ⟨hwrote, hkept, ?_, fun i hi => ?_⟩
    · rw [hlm, readBytes_stored, leNat_leBytes, BitVec.toNat_add, toNat_readWord]
      exact Nat.mod_mod _ _
    · rw [hlm, getB_stored_outside _ hi]
  · have hea' : alignEa ((s.strand n k).reg f.b) 8 = ea := hea.symm
    simp only [hea', State.lmRead_turned, State.lmWrite_turned]
    exact if_neg (by omega)

theorem cas_swaps (h : s.issues n k 0x33 f (legalG f) ((s.strand n k).pc + 1) = true)
    (hea : ea = ((s.strand n k).reg f.b).toNat / 8 * 8) (hin : ea < 0x100000) :
    Does (.cas n k f) s [.stoves] [] (fun t =>
      WroteG n k f.a (BitVec.ofNat 64 (leNat (Tab.readBytes (s.stove n).lmem ea 8))) ((s.strand n k).pc + 1) s t ∧
      StoveKept n k (fun v => { v with lmem := (t.stove n).lmem }) s t ∧
      leNat (Tab.readBytes (t.stove n).lmem ea 8) =
        (if leNat (Tab.readBytes (s.stove n).lmem ea 8) = ((s.strand n k).reg f.a).toNat then ((s.strand n k).reg f.c).toNat
         else leNat (Tab.readBytes (s.stove n).lmem ea 8)) ∧
      ∀ a, a < ea ∨ ea + 8 ≤ a → Tab.getB (t.stove n).lmem a = Tab.getB (s.stove n).lmem a) := by
  have hea' : alignEa ((s.strand n k).reg f.b) 8 = ea := hea.symm
  have hpast : ¬ ea > 0xFFFFF := by omega
  by_cases heq : leNat (Tab.readBytes (s.stove n).lmem ea 8) = ((s.strand n k).reg f.a).toNat
  · have hold : BitVec.ofNat 64 (leNat (Tab.readBytes (s.stove n).lmem ea 8)) = (s.strand n k).reg f.a := by
      rw [heq, BitVec.ofNat_toNat, BitVec.setWidth_eq]
    have hstore := does_storeWrite (c := .cas n k f) (a := f.a) (v := BitVec.ofNat 64 (leNat (Tab.readBytes (s.stove n).lmem ea 8)))
      (lm := Tab.writeBytes (s.stove n).lmem ea (leBytes 8 ((s.strand n k).reg f.c).toNat)) h ?_ rfl rfl
    · refine hstore.imp fun t ⟨hwrote, hkept, hlm⟩ => ⟨hwrote, hkept, ?_, fun i hi => ?_⟩
      · rw [hlm, readBytes_stored, leNat_leBytes, if_pos heq]
        exact Nat.mod_eq_of_lt ((s.strand n k).reg f.c).isLt
      · rw [hlm, getB_stored_outside _ hi]
    · simp only [hea', State.lmRead_turned, State.lmWrite_turned, hold, beq_self_eq_true, if_true, hpast, if_false]
  · have hold : BitVec.ofNat 64 (leNat (Tab.readBytes (s.stove n).lmem ea 8)) ≠ (s.strand n k).reg f.a :=
      fun he => heq ((toNat_readWord _ _).symm.trans (congrArg BitVec.toNat he))
    have hread := does_write (c := .cas n k f) (a := f.a) (v := BitVec.ofNat 64 (leNat (Tab.readBytes (s.stove n).lmem ea 8))) h ?_ rfl rfl
    · refine hread.imp fun t ⟨hwrote, hkept⟩ => ⟨hwrote, hkept.ofLmem, ?_, fun i _ => ?_⟩
      · rw [hkept.lmem_eq, if_neg heq]
      · rw [hkept.lmem_eq]
    · simp only [hea', State.lmRead_turned, beq_eq_false_iff_ne.mpr hold, Bool.false_eq_true, if_false, hpast]

/-! ### Descriptors (R175, R193) -/

theorem Strand.desc_put (x : Strand) (i j : BitVec 5) (d : Desc) :
    ({ x with d := Tab.put x.d i.toNat d } : Strand).desc j = if j = i then d else x.desc j := by
  rw [Strand.desc, Tab.getD_put]
  exact if_congr BitVec.toNat_inj rfl rfl

/-- The strand writes a descriptor register and goes on, and nothing else changes. -/
theorem does_setD (h : s.issues n k opc f legal ((s.strand n k).pc + 1) = true)
    (he : eff (s.turned n k) (s.strand n k) = .ok ((s.turned n k).setD n k a d))
    (hex : exec c s = .next (s.issue n k opc f legal none nextPc eff)) : Does c s [.stoves] [] (WroteD n k a d s) := by
  refine ⟨_, hex.trans (congrArg _ (State.issue_goesOn h he rfl)), ?_,
    ((s.turned_kept n k).updStrand (by simp) n k _).updStrand (by simp) n k _⟩
  rw [WroteD, State.strand_updStrand, State.setD, State.strand_updStrand, State.strand_turned]
  exact ⟨fun j => Strand.desc_put _ a j d, rfl, ((StoveKept.turned s n k).updStrand _).updStrand _⟩

theorem dmk_makes (h : s.issues n k 0x50 f (f.a.toNat < 8 && f.imm == 0 && f.x.toNat < 4) ((s.strand n k).pc + 1) = true)
    (hlen : ((s.strand n k).reg f.c).toNat < 2 ^ 32) :
    Does (.dmk n k f) s [.stoves] [] (fun t =>
      WroteD n k f.a { space := f.x.toNat, addr := ((s.strand n k).reg f.b).toNat, len := ((s.strand n k).reg f.c).toNat, off := 0 } s t) :=
  does_setD h (if_neg (Nat.not_le.mpr hlen)) rfl

theorem Desc.ofBytes_readBytes (t : Tab Byte) {i : Nat} (h : (Tab.getB t (i + 15)).toNat < 4) :
    Desc.ofBytes (Tab.readBytes t i 16) = some
      { addr := leNat (Tab.readBytes t i 8), len := leNat (Tab.readBytes t (i + 8) 4), off := leNat (Tab.readBytes t (i + 12) 3),
        space := (Tab.getB t (i + 15)).toNat } := by
  have hspace : leAt (Tab.readBytes t i 16) 15 1 = (Tab.getB t (i + 15)).toNat := (leAt_readBytes t (by decide)).trans (leNat_readBytes_one t _)
  rw [Desc.ofBytes, hspace, if_pos h, leAt_readBytes t (by decide), leAt_readBytes t (by decide), leAt_readBytes t (by decide)]
  rfl

theorem dld_loads (h : s.issues n k 0x51 f (f.a.toNat < 8 && legalI f) ((s.strand n k).pc + 1) = true)
    (hea : ea = ((s.strand n k).reg f.b + f.imm.signExtend 64).toNat / 16 * 16) (hin : ea ≤ 0xFFFF0)
    (hspace : (Tab.getB (s.stove n).lmem (ea + 15)).toNat < 4) :
    Does (.dld n k f) s [.stoves] [] (fun t =>
      WroteD n k f.a { addr := leNat (Tab.readBytes (s.stove n).lmem ea 8), len := leNat (Tab.readBytes (s.stove n).lmem (ea + 8) 4),
                       off := leNat (Tab.readBytes (s.stove n).lmem (ea + 12) 3), space := (Tab.getB (s.stove n).lmem (ea + 15)).toNat } s t) := by
  rw [legalI, ← Bool.and_assoc] at h
  refine does_setD h ?_ rfl
  have hea' : alignEa ((s.strand n k).reg f.b + f.sx) 16 = ea := hea.symm
  simp only [hea', State.lmBytes_turned, Desc.ofBytes_readBytes _ hspace]
  exact if_neg (by omega)

theorem Desc.bytes_length (d : Desc) : d.bytes.length = 16 := by simp [Desc.bytes, leBytes_length]

theorem dst_stores (h : s.issues n k 0x52 f (f.a.toNat < 8 && legalI f) ((s.strand n k).pc + 1) = true)
    (hea : ea = ((s.strand n k).reg f.b + f.imm.signExtend 64).toNat / 16 * 16) (hin : ea ≤ 0xFFFF0) :
    Does (.dst n k f) s [.stoves] [] (fun t =>
      Moved n k ((s.strand n k).pc + 1) s t ∧ StoveKept n k (fun v => { v with lmem := (t.stove n).lmem }) s t ∧
      Tab.readBytes (t.stove n).lmem ea 16 = leBytes 8 ((s.strand n k).desc f.a).addr ++ leBytes 4 ((s.strand n k).desc f.a).len ++
        leBytes 3 ((s.strand n k).desc f.a).off ++ leBytes 1 ((s.strand n k).desc f.a).space ∧
      ∀ a, a < ea ∨ ea + 16 ≤ a → Tab.getB (t.stove n).lmem a = Tab.getB (s.stove n).lmem a) := by
  rw [legalI, ← Bool.and_assoc] at h
  have hlen := ((s.strand n k).desc f.a).bytes_length
  have hstore := does_store (c := .dst n k f) (lm := Tab.writeBytes (s.stove n).lmem ea ((s.strand n k).desc f.a).bytes) h ?_ rfl rfl
  · refine hstore.imp fun t ⟨hmoved, hkept, hlm⟩ => ⟨hmoved, hkept, ?_, fun i hi => ?_⟩
    · have hread := Tab.readBytes_writeBytes (s.stove n).lmem ea ((s.strand n k).desc f.a).bytes
      rw [hlen] at hread
      rw [hlm, hread]
      rfl
    · rw [hlm, Tab.getB_writeBytes_outside _ _ _ _ (hlen.symm ▸ hi)]
  · have hea' : alignEa ((s.strand n k).reg f.b + f.sx) 16 = ea := hea.symm
    simp only [hea', State.lmWrite_turned]
    exact if_neg (by omega)

theorem dadv_advances (h : s.issues n k 0x53 f (f.a.toNat < 8 && legalI f && f.imm == 0) ((s.strand n k).pc + 1) = true)
    (hd : d = (s.strand n k).desc f.a) (hm : m = min ((s.strand n k).reg f.b).toNat d.len) :
    (d.space ≠ 2 → Does (.dadv n k f) s [.stoves] [] (fun t => WroteD n k f.a { d with len := d.len - m, addr := (d.addr + m) % 2 ^ 64 } s t)) ∧
    (d.space = 2 → d.off + m ≤ 0xFFFFFF → Does (.dadv n k f) s [.stoves] [] (fun t =>
      WroteD n k f.a { d with len := d.len - m, off := d.off + m } s t)) ∧
    (d.space = 2 → 0xFFFFFF < d.off + m → n < 16 → Gives (.dadv n k f) s (Faulted n k 1 s)) := by
  subst hd hm
  rw [legalI, ← Bool.and_assoc] at h
  obtain ⟨hf, hl, -⟩ := State.issues_iff.mp h
  refine ⟨fun hspace => does_setD h ?_ rfl, fun hspace hoff => does_setD h ?_ rfl, fun hspace hoff hn => gives_error hn hf hl ?_ rfl⟩
  · exact if_neg (by simpa using hspace)
  · exact (if_pos (by simpa using hspace)).trans (if_neg (Nat.not_lt.mpr hoff))
  · exact (if_pos (by simpa using hspace)).trans (if_pos hoff)

theorem dclip_clips (h : s.issues n k 0x54 f (f.a.toNat < 8 && legalI f && f.imm == 0) ((s.strand n k).pc + 1) = true)
    (hd : d = (s.strand n k).desc f.a) :
    Does (.dclip n k f) s [.stoves] [] (fun t => WroteD n k f.a { d with len := min d.len ((s.strand n k).reg f.b).toNat } s t) := by
  subst hd
  rw [legalI, ← Bool.and_assoc] at h
  exact does_setD h rfl rfl

theorem dget_value {x : BitVec 9} (hx : x.toNat < 4) (d : Desc) : [d.addr, d.len, d.off, d.space].getD x.toNat 0 =
    if x = 0 then d.addr else if x = 1 then d.len else if x = 2 then d.off else d.space := by
  obtain rfl | rfl | rfl | rfl : x = 0 ∨ x = 1 ∨ x = 2 ∨ x = 3 := by
    simp only [← BitVec.toNat_inj]
    exact (by omega : x.toNat = 0 ∨ x.toNat = 1 ∨ x.toNat = 2 ∨ x.toNat = 3)
  all_goals rfl

theorem dget_reads : WritesA 0x55 .dget (fun f => f.b.toNat < 8 && f.c == 0 && f.imm == 0 && f.x.toNat < 4) (fun x f v =>
    v = BitVec.ofNat 64 (if f.x = 0 then (x.desc f.b).addr else if f.x = 1 then (x.desc f.b).len else if f.x = 2 then (x.desc f.b).off
      else (x.desc f.b).space)) := by
  intro s n k f h
  have hx : f.x.toNat < 4 := of_decide_eq_true (Bool.and_eq_true_iff.mp (State.issues_iff.mp h).2.1).2
  refine (does_write (c := .dget n k f) h rfl rfl rfl).imp fun t ⟨hwrote, hkept⟩ => ⟨_, ?_, hwrote, hkept⟩
  exact congrArg (BitVec.ofNat 64) (dget_value hx _)

/-- Settles O15: loads, stores and atomics by the bytes they read and leave; descriptors by the one they write. -/
theorem stoveMemory : Obligations.StoveMemory := by
  unfold Obligations.StoveMemory
  exact ⟨⟨fun s n k ea sz f h hsz hea hin => ld_loads h hsz hea hin, fun s n k ea sz f h hsz hea hin => st_stores h hsz hea hin,
      fun s n k ea f h hea hin => amoadd_adds h hea hin, fun s n k ea f h hea hin => cas_swaps h hea hin,
      fun s n k f hl hn hea => ⟨ld_past hl hn hea, st_past hl hn hea⟩⟩,
    fun s n k f h hlen => dmk_makes h hlen, fun s n k ea f h hea hin hspace => dld_loads h hea hin hspace,
    fun s n k ea f h hea hin => dst_stores h hea hin, fun s n k m f d h hd hm => dadv_advances h hd hm, fun s n k f d h hd => dclip_clips h hd,
    dget_reads⟩

end Sys2Proof.Machine
end

section
/-! Two instructions that issue while their strand has an earlier job: what the statements about them leave open (R145, R185, R196, R200). -/

namespace Sys2Proof.Machine

/-- A head with every domain released, whose Stove 0 has a program in slot 0 that declares every unit; its strand 0 runs, is about to issue the
word, and has the job, which waits, on its ticket entry 0. -/
def stoveIssuing (w : W64) (j : Job) : State :=
  { State.reset.set F.KDL_REL_STS_DOMAIN (2 ^ 18 - 1) with
    stoves := [(0, { pstore := [(0, w)], pslots := [(0, { state := 2, size64 := 1, units := 127 })], order := 1
                     strands := [(0, { st := .running, tickets := [(0, { used := true, job := some j })] })] })] }

/-- The fields of an instruction word that are all 0. -/
def noFields : InsW := ⟨0, 0, 0, 0, 0⟩

/-! ### CZ.OPEN behind a job that already names its block -/

/-- The lane of block 0 of Stove 0 in a state that was answered. -/
def laneOf : Res → Option Nat
  | .next t => (t.blk? 0 0).bind (·.lane)
  | _ => none

/-- The strand's waiting CZ.PUT names block 0, the number the next CZ.OPEN gives. -/
def putAhead : State := stoveIssuing (insWord 0x70 noFields) (.czPut 0 {} false)

theorem putAhead_mayOpen : putAhead.tickets 0 0 0x70 noFields (noFields.c == 0 && noFields.x.toNat < 8 && noFields.imm == 0) (some 0) 1 = true ∧
    (putAhead.strand 0 0).block = none ∧ putAhead.descFault 0 ((putAhead.strand 0 0).desc noFields.b) = none ∧
    Tab.find (putAhead.stove 0).blocks (putAhead.stove 0).nextBlk = none ∧
    (putAhead.stove 0).jobs.all (fun w => w.2.2.granted || w.2.2.job.bind Job.unit != some 0) = true ∧
    putAhead.getb (F.CZ_CTL_FORCE_RAW 0) = false ∧ (putAhead.stove 0).laneOff ≠ 63 := by decide +kernel

/-- Lane 0 is free, and the block opened gets none. -/
theorem putAhead_opensWithoutLane : (putAhead.stove 0).nextBlk = 0 ∧ (putAhead.stove 0).freeUnit 0 = some 0 ∧
    laneOf (exec (.czOpen 0 0 noFields) putAhead) = none := by decide +kernel

/-- Refutes O16: the clause about CZ.OPEN gives the block a free lane in every state in which no job waits for one, and asks nothing of the strand's
other jobs. Jobs of one block run in issue order (R185): in a state whose strand has a CZ.PUT that names already the number the block gets, which the
clause does not exclude, the CZ.OPEN is behind that job and its block has no lane. -/
theorem not_stoveUnitsAreIssued : ¬ Obligations.StoveUnitsAreIssued := by
  unfold Obligations.StoveUnitsAreIssued
  rintro ⟨⟨hopen, -⟩, -⟩
  obtain ⟨htickets, hblock, hdesc, hnew, hjobs, hraw, hoff⟩ := putAhead_mayOpen
  obtain ⟨hnext, hfree, hnone⟩ := putAhead_opensWithoutLane
  obtain ⟨t, ht, ⟨-, -, -, -, -, y, hy, -, -, -, -, -, -, -, hlane⟩, -⟩ :=
    hopen putAhead 0 0 1 noFields (by decide) htickets hblock hdesc hnew hjobs
  obtain ⟨-, hy0, -⟩ := hlane hraw hoff
  rw [hnext] at hy
  rw [ht, laneOf, State.blk?, hy, Option.bind_some, hy0, hfree] at hnone
  exact Option.some_ne_none _ hnone

/-! ### CRL behind a drive request that waits for a freed channel -/

/-- The number the next drive request of a state that was answered takes. -/
def nextDrvOf : Res → Nat
  | .next t => t.drv.nextId
  | _ => 0

/-- The strand's drive request waits for a DMA channel, and one has come free. -/
def drvAhead : State := stoveIssuing (insWord 0xC1 noFields) (.drv 0)

theorem drvAhead_mayTransmit : drvAhead.tickets 0 0 0xC1 noFields (legalI noFields && noFields.imm == 0) (some 6) 1 = true ∧
    drvAhead.drvsBegun 0 = true ∧ 0 = ((drvAhead.strand 0 0).reg noFields.b).toNat / 64 * 64 := by decide +kernel

/-- The channel goes to the drive request, which comes first and starts. -/
theorem drvAhead_startsDrive : nextDrvOf (exec (.crlTransmit 0 0 noFields) drvAhead) ≠ drvAhead.drv.nextId := by decide +kernel

/-- Refutes O17: the clause about CRL says that the instruction changes the Stoves alone, in every state whose granted drive requests have started.
Where a drive request still waits and a DMA channel is free, the channel goes to the drive request, which was issued first (R145); it starts, and the
drive ports have changed. -/
theorem not_stoveMovesAndRequests : ¬ Obligations.StoveMovesAndRequests := by
  unfold Obligations.StoveMovesAndRequests
  rintro ⟨-, -, hcrl, -⟩
  obtain ⟨htickets, hbegun, hea⟩ := drvAhead_mayTransmit
  obtain ⟨t, ht, -, hkept⟩ := hcrl drvAhead 0 0 1 0 noFields htickets hbegun hea (by decide)
  refine drvAhead_startsDrive ?_
  rw [ht, nextDrvOf, hkept.drv_eq (by decide)]

end Sys2Proof.Machine
end
